-- ==== Sys2Proof/Word.lean ====
section
/-!
DEFINITION. The word types of the NL1024H, and the plain records that a command carries (the parameter fields of the
Zalou command entries of chapter 15, and the few sets of names that an event carries).
-/

namespace Sys2Proof

/-- A 32-bit register (R369, R380). -/
abbrev Word := BitVec 32

/-- A byte. -/
abbrev Byte := BitVec 8

/-- A time, or a difference of times, in units of 2^-16 ns: the NS and FRAC fields of a time word (R8) as one
number, `NS * 65536 + FRAC`. -/
abbrev Time := Nat

/-- A sample index (R83). -/
abbrev Sample := Nat

/-- The two register masters (R367). -/
inductive Master where
  | host
  | shepherd
deriving DecidableEq, Repr

/-- The host-side reset sources of R339 and Table 18-5. -/
inductive HostResetCause where
  | perst
  | hotReset
  | flr
  | linkDown
deriving DecidableEq, Repr

/-- Who issued a non-posted read (R316). -/
inductive NpReader where
  | drover (d : Fin 8)
  | fetcher (n : Fin 16)
deriving DecidableEq, Repr

/-- What a MEM_POWER transition concerns (R361, R393): a scratch bank of MEM region `r` (0-3 quads, 4 chip scratch),
or an HBM stack. -/
inductive PowerUnit where
  | bank (r : Fin 5) (b : Fin 64)
  | stack (s : Fin 4)
deriving DecidableEq, Repr

/-- Where an error of an HBM or SRAM word or row lies: MEM region 0-7 of Table 17-1, bank, word. -/
structure MemLoc where
  region : Fin 8
  bank : Fin 64
  word : Fin 32768
deriving DecidableEq, Repr

/-- One row of 128 bytes of one page that a fold stores (R101, R201, R463): fold, list position or substream, page number, row. -/
structure PageRow where
  fold : Fin 64
  inst : Nat
  page : Nat
  row : Nat
deriving DecidableEq, Repr

/-- What an access that a guard blocks belonged to (R72): nothing that is kept, a row of a page, the key of a flock recognizer that
completes at a sample, or the block of a receive position with sample index 16 × `index`. -/
inductive BlockedItem where
  | none
  | page (p : PageRow)
  | key (fk : Fin 16) (sample : Sample)
  | block (pos : Fin 64) (index : Nat)
deriving DecidableEq, Repr

/-- What may go wrong at a deal-period boundary: the regions whose guard has a number of its own (bit r, 4 = SPINE; R73), the span engine
steps (4 × engine + instance) whose context fails its ECC in a copy (R70), and the blocks whose own control has failed (R24): 0-3 receive
groups, 4-19 engine blocks, 20-23 compression blocks, 24-27 recognizer blocks, 28-32 scratch blocks; and the physical span engines whose
memories have reported, in the deal period that ends, a corrected error (one entry for each), or an uncorrectable one (R425). -/
structure BoundaryUpset where
  skew : BitVec 5 := 0
  badCtx : List (Fin 1024) := []
  failed : List (Fin 33) := []
  ce : List (Fin 272) := []
  ue : List (Fin 272) := []
deriving DecidableEq, Repr

/-- What an engine's own check says of a block that leaves it (R197): it agrees; it does not; the engine met an uncorrectable ECC error. -/
inductive EngineCheck where
  | pass
  | mismatch
  | ecc
deriving DecidableEq, Repr

/-- What goes wrong in a job on its engine: the numbers of the blocks of a COMPRESS job whose self-check fails (R197), and the place in the
output of a DECOMPRESS job at which the engine meets an uncorrectable ECC error (R208, R217). -/
structure JobUpset where
  badBlocks : List Nat := []
  eccAt : Option Nat := none
deriving DecidableEq, Repr

/-- A group of the Myras link: four receive groups and two transmit groups (R271). -/
inductive LinkGroup where
  | rx (g : Fin 4)
  | tx (t : Fin 2)
deriving DecidableEq, Repr

/-- A sideband frame after its 8b/10b and CRC-16 have been judged (R286): TYPE, SEQ, payload bytes, and whether the
framing (code groups, disparity, CRC) was good. -/
structure SbFrame where
  good : Bool
  type : Byte
  seq : Byte
  payload : List Byte
deriving DecidableEq, Repr

/-- The part of a command entry that every command has (Table 15-1), with the ring it came on (R323): FENCE is
FLAGS[0]. -/
structure CmdHdr where
  ring : Fin 16
  cid : BitVec 16
  fence : Bool
  cflags : Byte
deriving DecidableEq, Repr

/-- The 24-byte gate block of the measurement commands (Table 15-12). -/
structure GateBlock where
  source : Byte
  opt : Byte
  arg : BitVec 16
  len : BitVec 64
  openAt : BitVec 96
deriving DecidableEq, Repr

/-- MEASURE_INTERVAL (Table 15-12). -/
structure IntervalParams where
  unit : Byte
  start : Byte
  stopSet : BitVec 16
  stop : Byte
  nstop : BitVec 16
  nstart : BitVec 32
  stopWin : BitVec 32
  timeout : BitVec 32
  gate : GateBlock
  dest : BitVec 64
deriving DecidableEq, Repr

/-- MEASURE_FREQ (Table 15-12). -/
structure FreqParams where
  unit : Byte
  input : Byte
  d : BitVec 32
  timeout : BitVec 32
  gate : GateBlock
  dest : BitVec 64
deriving DecidableEq, Repr

/-- TIN_CONFIG (Table 15-12). -/
structure TinParams where
  input : Byte
  mode : Byte
  term : Byte
  hyst : Byte
  slope : Byte
  stamp : Byte
  ofs : BitVec 16
  thresh : BitVec 16
deriving DecidableEq, Repr

/-- DDS_SET (Table 15-13). -/
structure DdsParams where
  ch : Byte
  mode : Byte
  span : Byte
  start : Byte
  ftw : BitVec 48
  phase : BitVec 16
  amp : BitVec 16
  ofs : BitVec 16
  hi : BitVec 16
  lo : BitVec 16
  hiLen : BitVec 32
  loLen : BitVec 32
  t0 : BitVec 96
deriving DecidableEq, Repr

/-- READ_FOLD (Table 15-9). -/
structure ReadFoldParams where
  fold : Byte
  format : Byte
  part : Byte
  sub : Byte
  seg : BitVec 32
  first : BitVec 64
  count : BitVec 32
  dest : BitVec 64
  report : BitVec 64
  mlist : BitVec 64
deriving DecidableEq, Repr

/-- READ_RANGE (Table 15-9). -/
structure ReadRangeParams where
  fold : Byte
  bounds : Byte
  format : Byte
  seg : BitVec 32
  start : BitVec 96
  stop : BitVec 96
  dest : BitVec 64
  report : BitVec 64
  mlist : BitVec 64
deriving DecidableEq, Repr

/-- READ_INDEX (Table 15-9). -/
structure ReadIndexParams where
  fold : Byte
  kind : Byte
  seg : BitVec 32
  first : BitVec 64
  count : BitVec 32
  dest : BitVec 64
deriving DecidableEq, Repr

/-- COMPRESS (Table 15-10). -/
structure CompressParams where
  format : Byte
  mode : Byte
  flush : Byte
  search : Byte
  token : BitVec 64
  inList : BitVec 64
  outList : BitVec 64
deriving DecidableEq, Repr

/-- DECOMPRESS (Table 15-10). -/
structure DecompressParams where
  format : Byte
  token : BitVec 64
  inList : BitVec 64
  outList : BitVec 64
  outLimit : BitVec 64
deriving DecidableEq, Repr

/-- PATTERN_LOAD (Table 15-11). -/
structure PatternLoadParams where
  pseg : BitVec 16
  format : Byte
  lenBlocks : BitVec 32
  engines : BitVec 32
  lists : BitVec 64
deriving DecidableEq, Repr

/-- PATTERN_PLAY (Table 15-11). -/
structure PatternPlayParams where
  entry : BitVec 16
  start : Byte
  stopMode : Byte
  startFlag : Byte
  checkers : BitVec 32
deriving DecidableEq, Repr

/-- EYE_SCAN (Table 15-14): the phase and the voltage range as signed minimum, signed maximum, step. -/
structure EyeParams where
  lane : Byte
  eye : Byte
  dwell : Byte
  phMin : Byte
  phMax : Byte
  phStep : Byte
  vMin : Byte
  vMax : Byte
  vStep : Byte
  dest : BitVec 64
deriving DecidableEq, Repr

end Sys2Proof
end

