-- ==== Sys2Proof/Syntax.lean ====
section
/-!
DEFINITION. The commands of the NL1024H: one constructor for each row of spec/opcode_table.json, in the table's
order. A row whose summary says "Command that" is a Zalou command: its operands are the fields of its command entry
(chapter 15). Every other row is an access to a register, a window or a doorbell (chapters 14, 16, 17), or an event
of the device or of its pins: its operands name the unit, and what the event brings from outside the device.
Where the moment at which a command reaches the trigger network decides a sample index (R156, R168), that sample is an
operand (notes/assumptions/3.md).
-/

namespace Sys2Proof

/-- One step of the part (spec/95_what_each_step_holds.md). An operand with a default has there the value of an occurrence at which nothing further
happens. -/
inductive Instr where
  /-- R348 -/
  | identify (h : CmdHdr) (dest : BitVec 64)
  /-- R349 -/
  | getLog (h : CmdHdr) (log : Byte) (max : BitVec 32) (fromSeq : BitVec 64) (dest : BitVec 64)
  /-- R37-R41 -/
  | setTime (h : CmdHdr) (mode : Byte) (timeout : BitVec 32) (time : BitVec 96)
  /-- R38: a SYNC_IN edge at bellwether time `t`; the pin then holds its new level for `held` AON cycles -/
  | syncInEdge (falling : Bool) (t : Time) (held : Nat)
  /-- R38 -/
  | atSyncLoad
  /-- R38 -/
  | setTimeTimeout
  /-- R42 -/
  | syncOutPulse
  /-- R33, R417 -/
  | tbaseStop
  /-- R33, R417 -/
  | tbaseStart
  /-- R75, R350 -/
  | deckLoad (h : CmdHdr) (slot : Byte) (len : BitVec 32) (src : BitVec 64)
  /-- R75 -/
  | deckVerify (h : CmdHdr) (slot : Byte)
  /-- R76 -/
  | deckActivate (h : CmdHdr) (slot : Byte)
  /-- R77, R78 -/
  | deckRedeal (h : CmdHdr) (slot : Byte) (groups : BitVec 16) (timeout : BitVec 32)
  /-- R24, R70, R73: `u` is what goes wrong at it -/
  | dealBoundary (u : BoundaryUpset := {})
  /-- R71, R72: in `region`, unit `owner` presents operation `op` on `port` of `kind` in deal cycle `cycle`; `item` is
  what a blocked access belonged to -/
  | guardViolation (region : Fin 5) (kind : BitVec 4) (port : BitVec 16) (owner : BitVec 12) (op : BitVec 3)
      (cycle : BitVec 16) (item : BlockedItem)
  /-- R80: the hottest die sensor (`none`) or a stack sensor reads `temp` eighths of a degree -/
  | thermalSensorCrossing (stack : Option (Fin 4)) (temp : BitVec 16)
  /-- R169, R352 -/
  | arm (h : CmdHdr) (groups : BitVec 16) (mode : Byte) (sa : Sample)
  /-- R176 -/
  | disarm (h : CmdHdr) (groups : BitVec 16) (sd : Sample)
  /-- R156 -/
  | forceTrigger (h : CmdHdr) (groups : BitVec 16) (sf : Sample)
  /-- R173 -/
  | setPost (h : CmdHdr) (group : Byte) (post : BitVec 64) (sc : Sample)
  /-- R353 -/
  | foldStatus (h : CmdHdr) (groups : BitVec 16) (dest : BitVec 64) (at_ : Sample)
  /-- R170 -/
  | prefillComplete (g : Fin 16)
  /-- R140: hand `h` evaluates sample `s` -/
  | handFire (h : Fin 32) (s : Sample)
  /-- R148, R170: the trigger of group `g` at sample `s` is presented to the group -/
  | triggerAccept (g : Fin 16) (s : Sample)
  /-- R150 -/
  | trigOutPulse (s : Sample)
  /-- R154, R155: the records of sample `s` are written -/
  | triggerRecordWrite (s : Sample)
  /-- R175 -/
  | segmentClose (g : Fin 16)
  /-- R174 -/
  | holdoffEnd (g : Fin 16)
  /-- R182 -/
  | foldOverflow (f : Fin 64) (cause : Byte) (s : Sample)
  /-- R171, R101: unit number `unit` of instance `inst` of fold `f` is complete and stored -/
  | capturePageStore (f : Fin 64) (inst : Nat) (unit : Nat)
  /-- R185 -/
  | windowRecord (f : Fin 64) (inst : Nat) (w : Nat)
  /-- R113: counter `n` takes sample `s` -/
  | counterTargetReached (n : Fin 64) (s : Sample)
  /-- R114 -/
  | counterFeedLate (n : Fin 64) (inc : BitVec 48) (i : Sample := 0)
  /-- R115: timer `n` takes sample `s` -/
  | timerExpiry (n : Fin 32) (s : Sample)
  /-- R142 -/
  | handTimerExpiry (h : Fin 32) (s : Sample)
  /-- R120 -/
  | recogSliceParity (r : Fin 450)
  /-- R157, R158 -/
  | handParity (h : Fin 32)
  /-- R126: instance `inst` of logical engine `l` runs KEY_EXTRACT on sample `s` -/
  | flockKeyComplete (l : Fin 256) (inst : Fin 4) (s : Sample)
  /-- R127 -/
  | flockResult (f : Fin 16) (s : Sample)
  /-- R129, R360 -/
  | flockInsert (h : CmdHdr) (key : BitVec 96) (action : BitVec 32)
  /-- R130 -/
  | flockDelete (h : CmdHdr) (key : BitVec 96)
  /-- R131 -/
  | flockLookup (h : CmdHdr) (key : BitVec 96)
  /-- R133 -/
  | flockBulk (h : CmdHdr) (mode : Byte) (count : BitVec 32) (src : BitVec 64)
  /-- R130 -/
  | flockStashMigrate (n : Fin 256)
  /-- R132 -/
  | flockBucketRestore (sub : Fin 4) (bucket : Fin 16384)
  /-- R241, R242: a crossing of TIN `n` at the ball at time `t`, before SLOPE -/
  | tinStamp (n : Fin 16) (t : Time) (falling : Bool)
  /-- R118: TRIG_IN changes to `level` at `t` and holds it for `held` further TBASE cycles -/
  | trigInEdge (t : Time) (level : Bool) (held : Nat)
  /-- R118 -/
  | gateInChange (t : Time) (level : Bool) (held : Nat)
  /-- R240 -/
  | tinConfig (h : CmdHdr) (p : TinParams)
  /-- R245 -/
  | tdcRecalibration (n : Fin 16) (ok : Bool)
  /-- R248 -/
  | measureInterval (h : CmdHdr) (p : IntervalParams)
  /-- R255 -/
  | measureFreq (h : CmdHdr) (p : FreqParams)
  /-- R248 -/
  | measStopWindowEnd (u : Fin 4)
  /-- R247 -/
  | measGateTimer (u : Fin 4)
  /-- R252 -/
  | measTimeout (u : Fin 4)
  /-- R358: VALUE[0:17] as one 288-bit number, VALUE[i] at bits 16i+15 to 16i -/
  | dacSet (h : CmdHdr) (channels : BitVec 64) (span : Byte) (values : BitVec 288)
  /-- R266, R358 -/
  | ddsSet (h : CmdHdr) (p : DdsParams)
  /-- R266 -/
  | ddsT0 (ch : Fin 2)
  /-- R261 -/
  | dacUpdateTick
  /-- R264 -/
  | thrCurrentLimit (ch : Fin 16)
  /-- R375: the block whose CTRL register is at BAR0 offset `ctrl` ends its STARTING or STOPPING -/
  | blockStateSettle (ctrl : BitVec 26)
  /-- R220 -/
  | patternLoad (h : CmdHdr) (p : PatternLoadParams)
  /-- R225 -/
  | patternPlay (h : CmdHdr) (p : PatternPlayParams)
  /-- R225: the list starts at P0, whose first sample of the group the hands evaluate is `s` -/
  | playbackStart (s : Sample)
  /-- R226: `s` is the sample at which the stop reaches the trigger network -/
  | patternStop (h : CmdHdr) (mode : Byte) (s : Sample)
  /-- R223, R224: `i` is the first sample of the group that the hands evaluate in the decision fclk -/
  | passDecision (i : Sample := 0)
  /-- R226 -/
  | passEnd
  /-- R227 -/
  | playbackUnderrun (d : Fin 32) (detail : Byte)
  /-- R230 -/
  | checkerSync (n : Fin 32) (s : Sample)
  /-- R231, R232: checker `n` compares captured sample `s` -/
  | checkerViolation (n : Fin 32) (s : Sample)
  /-- R233 -/
  | maskCheckRecord (n : Fin 32) (w : Nat)
  /-- R230 -/
  | checkerDone (n : Fin 32)
  /-- R209 -/
  | compress (h : CmdHdr) (p : CompressParams)
  /-- R213 -/
  | decompress (h : CmdHdr) (p : DecompressParams)
  /-- R193: `u` is what goes wrong in the job -/
  | engineJobStart (u : JobUpset := {})
  /-- R205: page-index entry `entry` of fold `f`, substream `sub`, segment `seg` is verified -/
  | readoutVerification (f : Fin 64) (sub : Nat) (seg : Nat) (entry : Nat)
  /-- R196, R197: the next block of engine `e` leaves it; `chk` is what its check found -/
  | compressedBlockOut (e : Fin 64) (chk : EngineCheck)
  /-- R217 -/
  | decompressionEccError (d : Fin 32)
  /-- R354 -/
  | readFold (h : CmdHdr) (p : ReadFoldParams)
  /-- R336 -/
  | readRange (h : CmdHdr) (p : ReadRangeParams)
  /-- R354 -/
  | readIndex (h : CmdHdr) (p : ReadIndexParams)
  /-- R332 -/
  | droverJobStart
  /-- R316 -/
  | completionTimeout (who : NpReader)
  /-- R324 -/
  | sqDoorbell (n : Fin 16) (value : BitVec 32)
  /-- R324 -/
  | cqDoorbell (n : Fin 16) (value : BitVec 32)
  /-- R325 -/
  | commandFetch
  /-- R328 -/
  | completionWrite (cid : BitVec 16)
  /-- R329 -/
  | coalesceTimeout (n : Fin 16)
  /-- R368, R369: a write of `size` bytes with byte enables `be` at BAR0 offset `off` -/
  | registerWrite (m : Master) (off : BitVec 26) (size : Nat) (be : Byte) (value : BitVec 64)
  /-- R370 -/
  | latchRead (m : Master) (off : BitVec 26)
  /-- R370 -/
  | latchLoWrite (m : Master) (off : BitVec 26) (value : Word)
  /-- R370 -/
  | latchHiWrite (m : Master) (off : BitVec 26) (value : Word)
  /-- R374 -/
  | sqcClear (m : Master) (off : BitVec 26) (value : Word)
  /-- R375 -/
  | enWrite (m : Master) (off : BitVec 26) (value : Word)
  /-- R371, R372 -/
  | chipUnlockWrite (m : Master) (value : Word)
  /-- R371 -/
  | keyTimeout (m : Master)
  /-- R372 -/
  | keyLockoutEnd (m : Master)
  /-- R378 -/
  | ownerWrite (m : Master) (value : Word)
  /-- R420: a write of CHIP_RESET; bit r of `low` tells whether rail r is below its fail threshold when the reset ends -/
  | coreReset (m : Master) (value : Word) (low : BitVec 12)
  /-- R398: `bad` is how many of the oldest lines show an uncorrectable error -/
  | eqPop (m : Master) (q : Fin 32) (bad : Fin 129 := 0)
  /-- R400 -/
  | eqFlush (m : Master) (q : Fin 32)
  /-- R395: `bytes` is 0 for a word that does not end its item, else the number of its valid bytes -/
  | eqProducerWord (q : Fin 32) (owner : BitVec 12) (word : Word) (bytes : Fin 5)
  /-- R397: `word` is a word of the owner that arrives in the cycle of expiry, with its `bytes` as in EQ_PRODUCER_WORD -/
  | eqLineTimeout (q : Fin 32) (owner : BitVec 12) (word : Option (Word × Fin 5) := none)
  /-- R261, R265 -/
  | dacCodeWrite (m : Master) (ch : Fin 34) (value : Word)
  /-- R261 -/
  | dacFreezeWrite (m : Master) (value : Word)
  /-- R268: a write of DDS_FTW_LO (`hi = false`) or DDS_FTW_HI of CALOUT `ch` -/
  | ddsFtwWrite (m : Master) (ch : Fin 2) (hi : Bool) (value : Word)
  /-- R44 -/
  | laneOfsWrite (m : Master) (lane : Fin 68) (value : Word)
  /-- R288, R290 -/
  | laneTestWrite (m : Master) (g : LinkGroup) (lane : Fin 17) (value : Word)
  /-- R319, R388, R390: a posted write; `portA` is what port A writes to the first word in the same bank cycle, and `rivals` the other
  unscheduled requests of its bank, cycle by cycle from the request: bit 0 patrol and repair, 1 the Shepherd, 2 the drovers -/
  | bar2Write (off : BitVec 38) (data : List Byte) (portA : Option (BitVec 64)) (rivals : List (BitVec 3) := [])
  /-- R391, R392 -/
  | bar2SetAliasWrite (off : BitVec 38) (data : List Byte) (portA : Option (BitVec 64)) (rivals : List (BitVec 3) := [])
  /-- R391, R392 -/
  | bar2ClearAliasWrite (off : BitVec 38) (data : List Byte) (portA : Option (BitVec 64)) (rivals : List (BitVec 3) := [])
  /-- R322 -/
  | msixUnmask
  /-- R337 -/
  | pcieD3hotEntry
  /-- R339 -/
  | hostReset (cause : HostResetCause)
  /-- R421: POR_N rises; `image` tells whether the SPI flash holds a valid Zalou image; bit n of `retry` tells whether the training of stack
  n needed a retry (Table 19-11) -/
  | powerOnReset (image : Bool) (retry : BitVec 4 := 0)
  /-- R420 -/
  | testReset
  /-- R409: rail `rail` of Table 18-1 reads `mv` -/
  | supplyFail (rail : Fin 12) (mv : BitVec 16)
  /-- R409 -/
  | supplyOvervoltage (rail : Fin 12) (mv : BitVec 16)
  /-- R410: VDD_IO (`io`) or VDD_AON falls below its warning level -/
  | supplyWarning (io : Bool) (mv : BitVec 16)
  /-- R408, R410 -/
  | supplyWarningClear (io : Bool) (mv : BitVec 16)
  /-- R406 -/
  | avsOffTarget (meas : BitVec 10)
  /-- R414 -/
  | refclkLoss
  /-- R414 -/
  | refclkReturn
  /-- R413 -/
  | aonReturnToRefclk
  /-- R413 -/
  | oscillatorTrim
  /-- R416 -/
  | regionSleep
  /-- R418 -/
  | hbmSelfRefreshEntry (stack : Fin 4)
  /-- R361, R394 -/
  | memPower (h : CmdHdr) (target : Byte) (state : Byte) (region : Byte) (mask : BitVec 64)
  /-- R393, R394 -/
  | bankPowerChangeDone (u : PowerUnit)
  /-- R444 -/
  | tamperEvent (src : Fin 5)
  /-- R440 -/
  | lifecycleAdvance (h : CmdHdr) (target : Byte) (len : BitVec 32) (src : BitVec 64)
  /-- R443 -/
  | keyProvision (h : CmdHdr) (slot : Byte) (kind : Byte) (len : BitVec 32) (src : BitVec 64)
  /-- R363, R444 -/
  | tamperStatus (h : CmdHdr)
  /-- R363, R444 -/
  | wipe (h : CmdHdr) (scope : Byte)
  /-- R282: lane `n` receives a block; `levels` holds symbol i's PAM4 level at bits 2i+1 to 2i -/
  | rxDataBlock (n : Fin 68) (levels : BitVec 272)
  /-- R282 -/
  | rxMarkerBlock (n : Fin 68) (levels : BitVec 272)
  /-- R282 -/
  | rxIdleBlock (n : Fin 68) (levels : BitVec 272)
  /-- R278, R282 -/
  | rxCtrlBlock (n : Fin 68) (levels : BitVec 272)
  /-- R302 -/
  | laneLockLost (n : Fin 68)
  /-- R302 -/
  | laneRelockExpiry (n : Fin 68)
  /-- R305 -/
  | rxClockLost (g : Fin 4)
  /-- R309 -/
  | wakeBurst (g : Fin 4)
  /-- R294, R301 -/
  | sbHello (g : LinkGroup) (fr : SbFrame)
  /-- R295 -/
  | sbTrain (g : LinkGroup) (fr : SbFrame)
  /-- R304 -/
  | sbSpare (g : LinkGroup) (fr : SbFrame)
  /-- R288 -/
  | sbTest (g : LinkGroup) (fr : SbFrame)
  /-- R309-R311 -/
  | sbPower (g : LinkGroup) (fr : SbFrame)
  /-- R287 -/
  | sbStatus (g : LinkGroup) (fr : SbFrame)
  /-- R286 -/
  | sbNak (g : LinkGroup) (fr : SbFrame)
  /-- R287 -/
  | sbRetry (g : LinkGroup)
  /-- R287 -/
  | sbLost (g : LinkGroup)
  /-- R287, R300 -/
  | sbHelloSend (g : LinkGroup)
  /-- R311 -/
  | sbActivityWake (g : LinkGroup)
  /-- R295: every lane of the mask of the state in progress has passed -/
  | trainLanesPassed (g : LinkGroup)
  /-- R295: the lanes in `passed` have passed at the deadline -/
  | trainJudgeDeadline (g : LinkGroup) (passed : BitVec 17)
  /-- R295 -/
  | trainAttemptTimeout (g : LinkGroup)
  /-- R300 -/
  | reprobe (g : LinkGroup)
  /-- R299 -/
  | linkTrain (h : CmdHdr) (dir : Byte) (group : Byte)
  /-- R308 -/
  | linkSleep (h : CmdHdr) (dir : Byte) (group : Byte) (action : Byte)
  /-- R291 -/
  | eyeScan (h : CmdHdr) (p : EyeParams)
  /-- R298 -/
  | bitSlip (h : CmdHdr) (lane : Byte) (count : BitVec 16)
  /-- R289 -/
  | loopback (h : CmdHdr) (kind : Byte) (dir : Byte) (lanes : BitVec 128)
  /-- R288 -/
  | prbs (h : CmdHdr) (dir : Byte) (func : Byte) (pattern : Byte) (peer : Byte) (lanes : BitVec 128)
  /-- R428: the scan of lane `n` found these margins -/
  | lanePatrolScan (n : Fin 68) (vMargin : Nat) (phMargin : Nat)
  /-- R386: the word at `loc` reads with one corrected bit; `overwritten` if a port wrote it first -/
  | eccWriteback (loc : MemLoc) (overwritten : Bool)
  /-- R387: the scrubber reads one word; `err` is 0 clean, 1 a single-bit error, 2 a double-bit error -/
  | scrubStep (loc : MemLoc) (err : Fin 3)
  /-- R387: the row of `loc` has reached its error threshold and its copy is done -/
  | rowRemap (loc : MemLoc)
  /-- R432: page `page` of stack `stack` has reached its error threshold and its migration is done -/
  | hbmPageRemap (stack : Fin 4) (page : Fin 9437184)
  /-- R426: the spare of block `b` of quad `q` moves; `pass` is the result of its self-test -/
  | patrolMove (q : Fin 4) (b : Fin 4) (pass : Bool)
  /-- R427 -/
  | patrolMismatch (q : Fin 4) (b : Fin 4)
  /-- R427 -/
  | patrolConfirmEnd (q : Fin 4) (b : Fin 4)
  /-- R361 -/
  | spareStatus (h : CmdHdr) (dest : BitVec 64)
  /-- R361 -/
  | spareCommit (h : CmdHdr) (kind : Byte) (unit : BitVec 16)
  /-- R434 -/
  | wearForecast (h : CmdHdr) (dest : BitVec 64)
  /-- R433: the measured mean slowdown of quad `q` in units of 0.01%, and its oscillators in use -/
  | ageingMeasure (q : Fin 4) (slow : BitVec 16) (roOk : Fin 65)
  /-- R435: `good` is the result of the read-back -/
  | wearLogCommit (good : Bool)
  /-- R429 -/
  | lockstepMismatch
  /-- R429: which of the stopped cores passed their self-test -/
  | coreSelfTestDone (pass0 : Bool) (pass1 : Bool) (pass2 : Bool)
  /-- R362 -/
  | fwStage (h : CmdHdr) (len : BitVec 32) (src : BitVec 64)
  /-- R431 -/
  | fwActivate (h : CmdHdr)
  /-- R431 -/
  | handoverTimeout
  /-- R362 -/
  | nvWrite (h : CmdHdr) (area : Byte) (len : BitVec 32) (offset : BitVec 32) (src : BitVec 64)
  /-- R77 -/
  | deckRedealTimeout
  /-- R419 -/
  | regionsReady
  /-- R41 -/
  | timebasePllLock
  /-- R288 -/
  | prbsCheckerLock (g : LinkGroup) (lane : Fin 17)
  /-- R288: the checker has counted `errs` errors in its last 1,024 compared bits -/
  | prbsLost (g : LinkGroup) (lane : Fin 17) (errs : Fin 1025)
  /-- R152 -/
  | trigOutPulseEnd
  /-- R42 -/
  | syncOutPulseEnd
  /-- R339: SPEED 1-6, WIDTH 1-3, lane reversal -/
  | pcieLinkUp (speed : Fin 7) (width : Fin 4) (reversed : Bool) (flit : Bool)
  /-- R337 -/
  | pcieD0Return
  /-- R420 -/
  | porNLow
  /-- R444 -/
  | tamperSourceInactive (src : Fin 5)
  /-- R388, R394, R418: a read of `len` bytes; `rivals` as in `bar2Write` -/
  | bar2Read (off : BitVec 38) (len : Nat) (rivals : List (BitVec 3) := [])
  /-- R369 -/
  | registerReadError (m : Master) (off : BitVec 26) (size : Nat)
  /-- R429 -/
  | shepherdCheckpoint
deriving DecidableEq, Repr

end Sys2Proof
end

