-- ==== Sys2Proof/Config.lean ====
section
/-!
DEFINITION. What one part, one board or one implementation fixes and the spec leaves open: opaque constants with no body, so
that nothing can evaluate them, and the few fixed choices that a log entry names.
-/

namespace Sys2Proof.Config

/-- A free value of width `w`: the n-th value of which the spec does not say what it is (notes/assumptions/10.md). A step
that needs one takes `n` from the State counter `free` and advances it. -/
opaque freeBits (w n : Nat) : BitVec w

/-- The vendor's public key, of which the device holds the fused hash (R441, R445; notes/assumptions/11.md). -/
opaque vendorKey : List Byte

/-- The match, length and distance, that a compression engine's search finds at place `p` of its `n`-th block (R194;
notes/assumptions/12.md). The model takes it only where it is a match; it stands for a literal elsewhere. -/
opaque matchAt (search n p : Nat) : Nat × Nat

/-- The code tables that a compression engine builds for its `n`-th block, as the bits of a dynamic block header (R194;
notes/assumptions/12.md). The model takes them only where they are tables for the block. -/
opaque dynHeader (n : Nat) : List Bool

/-- Whether a deck keeps within the capacities of R29 that no slot table deals, and which section and region a failure
names; `none` where it does (notes/assumptions/22.md). -/
opaque deckCapacity (len : Nat) (bytes : List (Nat × Byte)) : Option (Nat × Nat)

/-- Whether two scheduled accesses of one unit fall in a cycle in which its hardware cannot make both (code 0x0010), and the
section and region named; `none` where none do (notes/assumptions/22.md). -/
opaque deckDoubleBooked (len : Nat) (bytes : List (Nat × Byte)) : Option (Nat × Nat)

/-- Whether a Zalou image verifies (R445), given the co-signing keys of slots 16 to 19 and whether a co-signature is required: the spec
gives the image no layout (notes/assumptions/13.md). -/
opaque fwSigOk (bytes : List Byte) (cosKeys : List (Option (List Byte))) (needCos : Bool) : Bool

/-- The version that a Zalou image states (notes/assumptions/13.md). -/
opaque fwVersion (bytes : List Byte) : BitVec 32

/-- The version of the image in the firmware area of the SPI flash (notes/assumptions/13.md). -/
opaque flashVersion (area : List (Nat × Byte)) : BitVec 32

/-- Whether the first 32 bytes of an option licence carry number `n` and the device's serial number: their offsets are not given (R445;
notes/assumptions/13.md). -/
opaque licenceFields (bytes : List Byte) (n : Nat) (serial : BitVec 128) : Bool

end Sys2Proof.Config
end

