-- ==== Sys2Proof/Machine/RegMap.lean ====
section
/-!
DEFINITION. The register map of BAR0: every register of the register tables of chapters 2 to 20, with its offset, its
fields' access codes (Table 16-1) and reset values, and the registers a read of it latches (R370). A status register's
sequence number is not listed among the fields: a register with flags has SEQ in [31:24] (R374).
-/

namespace Sys2Proof

/-- Access codes (Table 0-5, R368); `sqc` registers are described by their flag mask instead. -/
inductive Acc where
  | rw
  | ro
  | wo
  | cfg
  | key
deriving DecidableEq, Repr

/-- One field: bits `hi` to `lo`, its access code, its reset value, and, where the table reserves encodings, the range of
the encodings it does not reserve. -/
structure FieldD where
  hi : Nat
  lo : Nat
  acc : Acc
  rst : Nat
  legal : Option (Nat × Nat)
deriving DecidableEq, Repr

/-- One register, or one array of registers: name, BAR0 offset of the first, (stride, count) of each index, fields, the
flags of a sequence-clear register, and how many following registers a read of it latches. -/
structure RegD where
  name : String
  base : Nat
  dims : List (Nat × Nat)
  fields : List FieldD
  flags : Option Nat
  latch : Nat
deriving DecidableEq, Repr

/-- Registers of the CHIP block (03 R74; 16 R380, R381; 18 R423). -/
def regsChip : List RegD :=
[
    ⟨"CHIP_ID", 0x0, [], [⟨31, 16, .ro, 0x4E4C, none⟩, ⟨15, 8, .ro, 0xB1, none⟩, ⟨3, 0, .ro, 0x1, none⟩], none, 0⟩,
    ⟨"CHIP_UNLOCK", 0x10, [], [⟨31, 0, .wo, 0, none⟩], none, 0⟩,
    ⟨"CHIP_KEY_STATE", 0x14, [], [⟨5, 5, .ro, 0, none⟩, ⟨4, 4, .ro, 0, none⟩, ⟨3, 0, .ro, 0, none⟩], none, 0⟩,
    ⟨"CHIP_KEY_FAIL", 0x18, [], [⟨31, 0, .rw, 0, none⟩], none, 0⟩,
    ⟨"CHIP_STATUS", 0x20, [], [], some 0xFFFF, 0⟩,
    ⟨"CHIP_ERR_ADDR", 0x24, [], [⟨30, 30, .ro, 0, none⟩, ⟨29, 29, .ro, 0, none⟩, ⟨28, 26, .ro, 0, none⟩, ⟨25, 0, .ro, 0, none⟩], none, 0⟩,
    ⟨"CHIP_STALE_ADDR", 0x28, [], [⟨30, 30, .ro, 0, none⟩, ⟨25, 0, .ro, 0, none⟩], none, 0⟩,
    ⟨"CHIP_WIGN_ADDR", 0x2C, [], [⟨30, 30, .ro, 0, none⟩, ⟨25, 0, .ro, 0, none⟩], none, 0⟩,
    ⟨"CHIP_OWNER", 0x30, [], [⟨27, 27, .key, 0, none⟩, ⟨26, 26, .key, 0, none⟩, ⟨25, 22, .key, 0, none⟩, ⟨21, 20, .key, 0, none⟩, ⟨19, 16, .key, 0, none⟩, ⟨15, 4, .key, 0, none⟩, ⟨3, 3, .ro, 0, none⟩, ⟨2, 2, .key, 0x1, none⟩, ⟨1, 1, .key, 0, none⟩, ⟨0, 0, .key, 0, none⟩], none, 0⟩,
    ⟨"CHIP_PWR_STATUS", 0x40, [], [], some 0x7FFF, 0⟩,
    ⟨"CHIP_PWR_CTRL", 0x44, [], [⟨15, 8, .rw, 0xA, none⟩, ⟨2, 2, .rw, 0x1, none⟩, ⟨1, 1, .rw, 0, none⟩], none, 0⟩,
    ⟨"CHIP_AVS", 0x48, [], [⟨25, 16, .ro, 0, none⟩, ⟨9, 0, .ro, 0x2F8, none⟩], none, 0⟩,
    ⟨"CHIP_PWR_STATE", 0x4C, [], [⟨20, 20, .ro, 0, none⟩, ⟨19, 12, .ro, 0, none⟩, ⟨9, 0, .ro, 0, none⟩], none, 0⟩,
    ⟨"CHIP_CLK_STATUS", 0x50, [], [⟨8, 8, .ro, 0x1, none⟩, ⟨7, 7, .ro, 0, none⟩, ⟨6, 6, .ro, 0, none⟩, ⟨5, 0, .ro, 0, none⟩], none, 0⟩,
    ⟨"CHIP_RESET_CAUSE", 0x54, [], [⟨3, 0, .ro, 0x1, none⟩], none, 0⟩,
    ⟨"CHIP_RESET", 0x5C, [], [⟨0, 0, .key, 0, none⟩], none, 0⟩,
    ⟨"CHIP_VMON", 0x60, [(0x4, 12)], [⟨15, 0, .ro, 0, none⟩], none, 0⟩,
    ⟨"CHIP_TEMP_DIE", 0x90, [], [⟨15, 0, .ro, 0, none⟩], none, 0⟩,
    ⟨"CHIP_TEMP_HBM", 0x94, [(0x4, 4)], [⟨15, 0, .ro, 0, none⟩], none, 0⟩,
    ⟨"CHIP_IRQ_SUM", 0x100, [], [⟨24, 0, .ro, 0, none⟩], none, 0⟩,
    ⟨"CHIP_IRQ_EN", 0x104, [], [⟨24, 0, .rw, 0, none⟩], none, 0⟩,
    ⟨"IRQ_NODE_STATUS", 0x200, [(0x8, 25)], [], some 0x3FFFF, 0⟩,
    ⟨"IRQ_NODE_EN", 0x204, [(0x8, 25)], [⟨17, 0, .rw, 0, none⟩], none, 0⟩,
    ⟨"IRQ_BLK_STATUS", 0x400, [(0x8, 162)], [], some 0xFFFFFF, 0⟩]
  ++ [
    ⟨"IRQ_BLK_EN", 0x404, [(0x8, 162)], [⟨23, 0, .rw, 0, none⟩], none, 0⟩,
    ⟨"GUARD_STATUS (SPINE)", 0x1000, [], [], some 0x1F, 0⟩,
    ⟨"GUARD_CTRL (SPINE)", 0x1004, [], [⟨15, 8, .rw, 0x3, none⟩, ⟨7, 0, .rw, 0x10, none⟩], none, 0⟩,
    ⟨"GUARD_VIOL_CNT (SPINE)", 0x1008, [], [⟨31, 0, .rw, 0, none⟩], none, 0⟩,
    ⟨"GUARD_POS (SPINE)", 0x100C, [], [⟨31, 16, .ro, 0, none⟩, ⟨15, 0, .ro, 0, none⟩], none, 0⟩,
    ⟨"GUARD_DEALNUM_LO (SPINE)", 0x1010, [], [⟨31, 0, .ro, 0, none⟩], none, 1⟩,
    ⟨"GUARD_DEALNUM_HI (SPINE)", 0x1014, [], [⟨31, 0, .ro, 0, none⟩], none, 0⟩,
    ⟨"GUARD_FIRST_LO (SPINE)", 0x1018, [], [⟨31, 16, .ro, 0, none⟩, ⟨15, 12, .ro, 0, none⟩, ⟨11, 0, .ro, 0, none⟩], none, 1⟩,
    ⟨"GUARD_FIRST_HI (SPINE)", 0x101C, [], [⟨27, 16, .ro, 0, none⟩, ⟨15, 0, .ro, 0, none⟩], none, 0⟩,
    ⟨"GUARD_DECKID_LO (SPINE)", 0x1020, [], [⟨31, 0, .ro, 0, none⟩], none, 1⟩,
    ⟨"GUARD_DECKID_HI (SPINE)", 0x1024, [], [⟨31, 0, .ro, 0, none⟩], none, 0⟩,
    ⟨"GUARD_THERM (SPINE)", 0x1028, [], [⟨1, 0, .ro, 0, none⟩], none, 0⟩]

/-- Registers of the SHEP block (14 R340; 19 R438). -/
def regsShep : List RegD :=
[
    ⟨"SHEP_STATUS", 0x100000, [], [], some 0x7F, 0⟩,
    ⟨"SHEP_CTRL", 0x100004, [], [⟨31, 24, .rw, 0x12, none⟩, ⟨23, 16, .rw, 0x1, none⟩, ⟨15, 8, .rw, 0xA, some (1, 255)⟩, ⟨2, 2, .rw, 0x1, none⟩, ⟨0, 0, .rw, 0x1, none⟩], none, 0⟩,
    ⟨"SHEP_CORES", 0x100008, [], [⟨8, 6, .ro, 0x1, none⟩, ⟨5, 3, .ro, 0, none⟩, ⟨2, 0, .ro, 0, none⟩], none, 0⟩,
    ⟨"CMDQ_GLOBAL", 0x110000, [], [⟨10, 0, .ro, 0, none⟩], none, 0⟩,
    ⟨"CMDQ_READY", 0x110004, [], [⟨0, 0, .ro, 0, none⟩], none, 0⟩,
    ⟨"CMDQ_CTRL", 0x111000, [(0x40, 16)], [⟨15, 12, .cfg, 0x6, some (6, 12)⟩, ⟨11, 8, .cfg, 0x6, some (6, 12)⟩, ⟨6, 4, .ro, 0, none⟩, ⟨0, 0, .rw, 0, none⟩], none, 0⟩,
    ⟨"CMDQ_STATUS", 0x111004, [(0x40, 16)], [], some 0x1F, 0⟩,
    ⟨"CMDQ_SQ_BASE_LO", 0x111008, [(0x40, 16)], [⟨31, 12, .cfg, 0, none⟩], none, 0⟩,
    ⟨"CMDQ_SQ_BASE_HI", 0x11100C, [(0x40, 16)], [⟨31, 0, .cfg, 0, none⟩], none, 0⟩,
    ⟨"CMDQ_CQ_BASE_LO", 0x111010, [(0x40, 16)], [⟨31, 12, .cfg, 0, none⟩], none, 0⟩,
    ⟨"CMDQ_CQ_BASE_HI", 0x111014, [(0x40, 16)], [⟨31, 0, .cfg, 0, none⟩], none, 0⟩,
    ⟨"CMDQ_SHADOW_LO", 0x111018, [(0x40, 16)], [⟨31, 2, .cfg, 0, none⟩], none, 0⟩,
    ⟨"CMDQ_SHADOW_HI", 0x11101C, [(0x40, 16)], [⟨31, 0, .cfg, 0, none⟩], none, 0⟩,
    ⟨"CMDQ_SQ_PTR", 0x111020, [(0x40, 16)], [⟨27, 16, .ro, 0, none⟩, ⟨11, 0, .ro, 0, none⟩], none, 0⟩,
    ⟨"CMDQ_CQ_PTR", 0x111024, [(0x40, 16)], [⟨27, 16, .ro, 0, none⟩, ⟨11, 0, .ro, 0, none⟩], none, 0⟩,
    ⟨"CMDQ_COAL", 0x111028, [(0x40, 16)], [⟨31, 16, .rw, 0, none⟩, ⟨11, 0, .rw, 0, none⟩], none, 0⟩,
    ⟨"CMDQ_INFLIGHT", 0x11102C, [(0x40, 16)], [⟨10, 0, .ro, 0, none⟩], none, 0⟩]

/-- Registers of the SEC block (20 R446). -/
def regsSec : List RegD :=
[
    ⟨"SEC_STATUS", 0x200000, [], [], some 0xFF, 0⟩,
    ⟨"SEC_STATE", 0x200004, [], [⟨21, 16, .ro, 0, none⟩, ⟨15, 8, .ro, 0, none⟩, ⟨2, 0, .ro, 0, none⟩], none, 0⟩,
    ⟨"SEC_NONCE_LO", 0x200008, [], [⟨31, 0, .ro, 0, none⟩], none, 1⟩,
    ⟨"SEC_NONCE_HI", 0x20000C, [], [⟨31, 0, .ro, 0, none⟩], none, 0⟩,
    ⟨"SEC_CTRL", 0x200010, [], [⟨7, 0, .rw, 0x4, none⟩], none, 0⟩]

/-- Registers of the PCIE block (14 R340). -/
def regsPcie : List RegD :=
[
    ⟨"PCIE_STATUS", 0x300000, [], [], some 0xFFFF, 0⟩,
    ⟨"PCIE_LINK", 0x300004, [], [⟨7, 5, .ro, 0, none⟩, ⟨4, 2, .ro, 0, none⟩, ⟨1, 1, .ro, 0, none⟩, ⟨0, 0, .ro, 0, none⟩], none, 0⟩,
    ⟨"PCIE_WDROP", 0x300008, [], [⟨31, 0, .rw, 0, none⟩], none, 0⟩,
    ⟨"PCIE_WDROP_ADDR_LO", 0x30000C, [], [⟨31, 0, .ro, 0, none⟩], none, 1⟩,
    ⟨"PCIE_WDROP_ADDR_HI", 0x300010, [], [⟨31, 0, .ro, 0, none⟩], none, 0⟩,
    ⟨"PCIE_CTRL", 0x300014, [], [⟨7, 0, .rw, 0x18, none⟩], none, 0⟩]

/-- Registers of the TBASE block (02 R48). -/
def regsTbase : List RegD :=
[
    ⟨"TBASE_CTRL", 0x400000, [], [⟨23, 16, .rw, 0x18, none⟩, ⟨15, 8, .rw, 0x4, none⟩, ⟨1, 1, .rw, 0, none⟩, ⟨0, 0, .rw, 0, none⟩], none, 0⟩,
    ⟨"TBASE_STATUS", 0x400004, [], [], some 0xF, 0⟩,
    ⟨"TBASE_NOW_NS_LO", 0x400010, [], [⟨31, 0, .ro, 0, none⟩], none, 2⟩,
    ⟨"TBASE_NOW_NS_HI", 0x400014, [], [⟨31, 0, .ro, 0, none⟩], none, 0⟩,
    ⟨"TBASE_NOW_FRAC", 0x400018, [], [⟨15, 0, .ro, 0, none⟩], none, 0⟩,
    ⟨"TBASE_EPOCH_NS_LO", 0x400020, [], [⟨31, 0, .ro, 0, none⟩], none, 2⟩,
    ⟨"TBASE_EPOCH_NS_HI", 0x400024, [], [⟨31, 0, .ro, 0, none⟩], none, 0⟩,
    ⟨"TBASE_EPOCH_FRAC", 0x400028, [], [⟨15, 0, .ro, 0, none⟩], none, 0⟩,
    ⟨"TBASE_LANE_OFS", 0x400100, [(0x4, 68)], [⟨23, 0, .rw, 0, none⟩], none, 0⟩]

/-- Registers of the TIN block (10 R257). -/
def regsTin : List RegD :=
[
    ⟨"TIN_GATE_CTRL", 0x500000, [], [⟨7, 0, .rw, 0, none⟩], none, 0⟩,
    ⟨"MEAS_STATE", 0x500200, [(0x20, 4)], [⟨4, 3, .ro, 0, none⟩, ⟨2, 0, .ro, 0, none⟩], none, 0⟩,
    ⟨"MEAS_STARTS", 0x500204, [(0x20, 4)], [⟨31, 0, .ro, 0, none⟩], none, 0⟩,
    ⟨"MEAS_EARLY", 0x500208, [(0x20, 4)], [⟨31, 0, .ro, 0, none⟩], none, 0⟩,
    ⟨"MEAS_BUSY", 0x50020C, [(0x20, 4)], [⟨31, 0, .ro, 0, none⟩], none, 0⟩,
    ⟨"TIN_CTRL", 0x501000, [(0x40, 16)], [⟨15, 14, .cfg, 0x1, some (1, 3)⟩, ⟨13, 13, .cfg, 0, none⟩, ⟨12, 10, .cfg, 0, none⟩, ⟨9, 9, .cfg, 0, none⟩, ⟨8, 8, .cfg, 0, none⟩, ⟨6, 4, .ro, 0, none⟩, ⟨0, 0, .rw, 0, none⟩], none, 0⟩,
    ⟨"TIN_STATUS", 0x501004, [(0x40, 16)], [], some 0x7, 0⟩,
    ⟨"TIN_OFS", 0x501008, [(0x40, 16)], [⟨15, 0, .cfg, 0, none⟩], none, 0⟩,
    ⟨"TIN_WIGN_ADDR", 0x50100C, [(0x40, 16)], [⟨31, 0, .ro, 0, none⟩], none, 0⟩,
    ⟨"TIN_EDGE_LO", 0x501010, [(0x40, 16)], [⟨31, 0, .ro, 0, none⟩], none, 1⟩,
    ⟨"TIN_EDGE_HI", 0x501014, [(0x40, 16)], [⟨15, 0, .ro, 0, none⟩], none, 0⟩,
    ⟨"TIN_DEAD_CNT", 0x501018, [(0x40, 16)], [⟨31, 0, .rw, 0, none⟩], none, 0⟩,
    ⟨"TIN_LAST_NS_LO", 0x50101C, [(0x40, 16)], [⟨31, 0, .ro, 0, none⟩], none, 2⟩,
    ⟨"TIN_LAST_NS_HI", 0x501020, [(0x40, 16)], [⟨31, 0, .ro, 0, none⟩], none, 0⟩,
    ⟨"TIN_LAST_FRAC", 0x501024, [(0x40, 16)], [⟨16, 16, .ro, 0, none⟩, ⟨15, 0, .ro, 0, none⟩], none, 0⟩]

/-- Registers of the DAC block (11 R270). -/
def regsDac : List RegD :=
[
    ⟨"DAC_GLOBAL", 0x600000, [], [⟨0, 0, .rw, 0, none⟩], none, 0⟩,
    ⟨"DAC_WIGN_ADDR", 0x600004, [], [⟨31, 0, .ro, 0, none⟩], none, 0⟩,
    ⟨"DAC_CTRL", 0x601000, [(0x40, 32)], [⟨9, 8, .cfg, 0x2, none⟩, ⟨6, 4, .ro, 0, none⟩, ⟨0, 0, .rw, 0, none⟩], none, 0⟩,
    ⟨"DAC_STATUS", 0x601004, [(0x40, 32)], [], some 0x3, 0⟩,
    ⟨"DAC_CODE", 0x601008, [(0x40, 32)], [⟨15, 0, .rw, 0x8000, none⟩], none, 0⟩,
    ⟨"DAC_OUT", 0x60100C, [(0x40, 32)], [⟨15, 0, .ro, 0x8000, none⟩], none, 0⟩,
    ⟨"DDS_FTW_LO", 0x601010, [(0x40, 32)], [], none, 0⟩,
    ⟨"DDS_FTW_HI", 0x601014, [(0x40, 32)], [], none, 0⟩,
    ⟨"DDS_PHASE", 0x601018, [(0x40, 32)], [], none, 0⟩,
    ⟨"DDS_SCALE", 0x60101C, [(0x40, 32)], [], none, 0⟩,
    ⟨"SQ_LEVELS", 0x601020, [(0x40, 32)], [], none, 0⟩,
    ⟨"SQ_HI_LEN", 0x601024, [(0x40, 32)], [], none, 0⟩,
    ⟨"SQ_LO_LEN", 0x601028, [(0x40, 32)], [], none, 0⟩,
    ⟨"DAC_CTRL", 0x601800, [(0x40, 2)], [⟨11, 10, .cfg, 0, some (0, 2)⟩, ⟨9, 8, .cfg, 0, some (0, 1)⟩, ⟨6, 4, .ro, 0, none⟩, ⟨0, 0, .rw, 0, none⟩], none, 0⟩,
    ⟨"DAC_STATUS", 0x601804, [(0x40, 2)], [], some 0x6, 0⟩,
    ⟨"DAC_CODE", 0x601808, [(0x40, 2)], [⟨13, 0, .rw, 0, none⟩], none, 0⟩,
    ⟨"DAC_OUT", 0x60180C, [(0x40, 2)], [⟨15, 0, .ro, 0, none⟩], none, 0⟩,
    ⟨"DDS_FTW_LO", 0x601810, [(0x40, 2)], [⟨31, 0, .rw, 0, none⟩], none, 0⟩,
    ⟨"DDS_FTW_HI", 0x601814, [(0x40, 2)], [⟨15, 0, .rw, 0, none⟩], none, 0⟩,
    ⟨"DDS_PHASE", 0x601818, [(0x40, 2)], [⟨15, 0, .rw, 0, none⟩], none, 0⟩,
    ⟨"DDS_SCALE", 0x60181C, [(0x40, 2)], [⟨31, 16, .rw, 0, none⟩, ⟨13, 0, .rw, 0, none⟩], none, 0⟩,
    ⟨"SQ_LEVELS", 0x601820, [(0x40, 2)], [⟨29, 16, .cfg, 0, none⟩, ⟨13, 0, .cfg, 0, none⟩], none, 0⟩,
    ⟨"SQ_HI_LEN", 0x601824, [(0x40, 2)], [⟨23, 0, .cfg, 0, none⟩], none, 0⟩,
    ⟨"SQ_LO_LEN", 0x601828, [(0x40, 2)], [⟨23, 0, .cfg, 0, none⟩], none, 0⟩]

/-- Registers of the EQ block (17 R402, R403). -/
def regsEq : List RegD :=
[
    ⟨"EQ_CTRL", 0x701000, [(0x40, 32)], [⟨31, 24, .rw, 0x1, some (1, 128)⟩, ⟨8, 8, .rw, 0, none⟩, ⟨6, 4, .ro, 0, none⟩, ⟨0, 0, .rw, 0, none⟩], none, 0⟩,
    ⟨"EQ_STATUS", 0x701004, [(0x40, 32)], [], some 0x1F, 0⟩,
    ⟨"EQ_DEPTH", 0x701008, [(0x40, 32)], [⟨31, 16, .ro, 0, none⟩, ⟨8, 8, .ro, 0, none⟩, ⟨7, 0, .ro, 0, none⟩], none, 0⟩,
    ⟨"EQ_DROP_CNT", 0x70100C, [(0x40, 32)], [⟨31, 0, .rw, 0, none⟩], none, 0⟩,
    ⟨"EQ_TMO", 0x701010, [(0x40, 32)], [⟨19, 0, .rw, 0x64, some (1, 1000000)⟩], none, 0⟩,
    ⟨"EQ_POP", 0x701020, [(0x40, 32)], [⟨31, 0, .ro, 0, none⟩], none, 0⟩,
    ⟨"EQ_LINE", 0x701024, [(0x40, 32), (0x4, 7)], [⟨31, 0, .ro, 0, none⟩], none, 0⟩]

/-- Registers of the TRIG block (05 R136; 06 R161). -/
def regsTrig : List RegD :=
[
    ⟨"TRIG_REC_STATUS", 0x800000, [], [], some 0xF, 0⟩,
    ⟨"TRIG_LATE_CNT", 0x800008, [], [⟨31, 16, .rw, 0, none⟩, ⟨15, 0, .rw, 0, none⟩], none, 0⟩,
    ⟨"TRIG_CNT_LO", 0x800100, [(0x8, 64)], [⟨31, 0, .ro, 0, none⟩], none, 1⟩,
    ⟨"TRIG_CNT_HI", 0x800104, [(0x8, 64)], [⟨16, 16, .ro, 0, none⟩, ⟨15, 0, .ro, 0, none⟩], none, 0⟩,
    ⟨"TRIG_TMR_LO", 0x800300, [(0x8, 32)], [⟨31, 0, .ro, 0, none⟩], none, 1⟩,
    ⟨"TRIG_TMR_HI", 0x800304, [(0x8, 32)], [⟨31, 31, .ro, 0, none⟩, ⟨30, 30, .ro, 0, none⟩, ⟨15, 0, .ro, 0, none⟩], none, 0⟩,
    ⟨"TRIG_NET_STATUS", 0x800400, [], [], some 0x3, 0⟩,
    ⟨"TRIG_OUT_CTRL", 0x800404, [], [⟨15, 8, .rw, 0xF, none⟩, ⟨2, 2, .rw, 0, none⟩, ⟨1, 1, .rw, 0, none⟩, ⟨0, 0, .rw, 0, none⟩], none, 0⟩,
    ⟨"TRIG_PATH_LAT", 0x800408, [], [⟨31, 0, .ro, 0, none⟩], none, 0⟩,
    ⟨"TRIG_REC_LOST", 0x80040C, [], [⟨31, 0, .rw, 0, none⟩], none, 0⟩,
    ⟨"TRIG_GRP_IGN", 0x800440, [(0x4, 16)], [⟨31, 0, .rw, 0, none⟩], none, 0⟩,
    ⟨"TRIG_GRP_REC", 0x800480, [(0x4, 16)], [⟨31, 0, .rw, 0, none⟩], none, 0⟩,
    ⟨"HAND_STATUS", 0x801000, [(0x40, 32)], [], some 0xF, 0⟩,
    ⟨"HAND_STATE", 0x801004, [(0x40, 32)], [⟨13, 13, .ro, 0, none⟩, ⟨11, 8, .ro, 0, none⟩, ⟨7, 4, .ro, 0, none⟩, ⟨1, 0, .ro, 0, none⟩], none, 0⟩,
    ⟨"HAND_HC0", 0x801008, [(0x40, 32)], [⟨31, 0, .ro, 0, none⟩], none, 0⟩,
    ⟨"HAND_HC1", 0x80100C, [(0x40, 32)], [⟨31, 0, .ro, 0, none⟩], none, 0⟩,
    ⟨"HAND_FIRE_CNT", 0x801010, [(0x40, 32)], [⟨31, 0, .rw, 0, none⟩], none, 0⟩,
    ⟨"HAND_TRIG_CNT", 0x801014, [(0x40, 32)], [⟨31, 0, .rw, 0, none⟩], none, 0⟩,
    ⟨"HAND_PAUSE_CNT", 0x801018, [(0x40, 32)], [⟨31, 0, .rw, 0, none⟩], none, 0⟩,
    ⟨"HAND_LAST_LO", 0x80101C, [(0x40, 32)], [⟨31, 0, .ro, 0, none⟩], none, 1⟩,
    ⟨"HAND_LAST_HI", 0x801020, [(0x40, 32)], [⟨31, 0, .ro, 0, none⟩], none, 0⟩]

/-- Registers of the FLOCK block (05 R136). -/
def regsFlock : List RegD :=
[
    ⟨"FLOCK_STATUS", 0x900000, [], [], some 0x1F, 0⟩,
    ⟨"FLOCK_CTRL", 0x900004, [], [⟨8, 0, .rw, 0xC0, some (1, 256)⟩], none, 0⟩,
    ⟨"FLOCK_MAIN_OCC", 0x900008, [], [⟨19, 0, .ro, 0, none⟩], none, 0⟩,
    ⟨"FLOCK_STASH_OCC", 0x90000C, [], [⟨8, 0, .ro, 0, none⟩], none, 0⟩,
    ⟨"FLOCK_ECC_CNT", 0x900010, [], [⟨31, 0, .rw, 0, none⟩], none, 0⟩,
    ⟨"FLOCK_REC_CNT.LOOKUPS", 0x900100, [(0x10, 16)], [⟨31, 0, .rw, 0, none⟩], none, 0⟩,
    ⟨"FLOCK_REC_CNT.HITS", 0x900104, [(0x10, 16)], [⟨31, 0, .rw, 0, none⟩], none, 0⟩,
    ⟨"FLOCK_REC_CNT.VOID_KEYS", 0x900108, [(0x10, 16)], [⟨31, 0, .rw, 0, none⟩], none, 0⟩,
    ⟨"FLOCK_REC_CNT.DROPPED", 0x90010C, [(0x10, 16)], [⟨31, 0, .rw, 0, none⟩], none, 0⟩]

/-- Registers of the HBM block (07 R190; 19 R438). -/
def regsHbm : List RegD :=
[
    ⟨"HBM_STATUS", 0xA00000, [(0x40, 4)], [], some 0xFFF, 0⟩,
    ⟨"HBM_POOL", 0xA00004, [(0x40, 4)], [⟨18, 0, .ro, 0x40000, none⟩], none, 0⟩,
    ⟨"HBM_CE_CNT", 0xA00008, [(0x40, 4)], [⟨31, 0, .rw, 0, none⟩], none, 0⟩,
    ⟨"HBM_UE_CNT", 0xA0000C, [(0x40, 4)], [⟨31, 0, .rw, 0, none⟩], none, 0⟩,
    ⟨"FOLD_GRP_STATUS", 0xA10000, [(0x40, 16)], [], some 0x3F, 0⟩,
    ⟨"FOLD_GRP_STATE", 0xA10004, [(0x40, 16)], [⟨3, 0, .ro, 0, none⟩], none, 0⟩,
    ⟨"FOLD_GRP_SEG", 0xA10008, [(0x40, 16)], [⟨16, 0, .ro, 0, none⟩], none, 0⟩,
    ⟨"FOLD_GRP_POST_LO", 0xA1000C, [(0x40, 16)], [⟨31, 0, .ro, 0, none⟩], none, 1⟩,
    ⟨"FOLD_GRP_POST_HI", 0xA10010, [(0x40, 16)], [⟨31, 0, .ro, 0, none⟩], none, 0⟩,
    ⟨"FOLD_GRP_TRIG_LO", 0xA10014, [(0x40, 16)], [⟨31, 0, .ro, 0, none⟩], none, 1⟩,
    ⟨"FOLD_GRP_TRIG_HI", 0xA10018, [(0x40, 16)], [⟨31, 0, .ro, 0, none⟩], none, 0⟩,
    ⟨"FOLD_GRP_LAST_LO", 0xA1001C, [(0x40, 16)], [⟨31, 0, .ro, 0, none⟩], none, 1⟩,
    ⟨"FOLD_GRP_LAST_HI", 0xA10020, [(0x40, 16)], [⟨31, 0, .ro, 0, none⟩], none, 0⟩]

/-- Registers of the DROV block (14 R340). -/
def regsDrov : List RegD :=
[
    ⟨"DROV_STATUS", 0xB01000, [(0x40, 8)], [], some 0xF, 0⟩,
    ⟨"DROV_STATE", 0xB01004, [(0x40, 8)], [⟨31, 16, .ro, 0, none⟩, ⟨9, 0, .ro, 0, none⟩], none, 0⟩,
    ⟨"DROV_BYTES_LO", 0xB01008, [(0x40, 8)], [⟨31, 0, .ro, 0, none⟩], none, 1⟩,
    ⟨"DROV_BYTES_HI", 0xB0100C, [(0x40, 8)], [⟨31, 0, .ro, 0, none⟩], none, 0⟩,
    ⟨"DROV_MISMATCH_CNT", 0xB01010, [(0x40, 8)], [⟨31, 0, .rw, 0, none⟩], none, 0⟩]

/-- Registers of the CMP block (08 R218). -/
def regsCmp : List RegD :=
[
    ⟨"CMP_CTRL", 0xC00000, [], [⟨7, 0, .rw, 0x3, some (1, 255)⟩], none, 0⟩,
    ⟨"CMP_STATUS", 0xC01000, [(0x40, 64)], [], some 0xF, 0⟩,
    ⟨"CMP_STATE", 0xC01004, [(0x40, 64)], [⟨16, 11, .ro, 0, none⟩, ⟨10, 5, .ro, 0, none⟩, ⟨4, 3, .ro, 0, none⟩, ⟨2, 0, .ro, 0, none⟩], none, 0⟩,
    ⟨"CMP_IN_LO", 0xC01008, [(0x40, 64)], [⟨31, 0, .ro, 0, none⟩], none, 1⟩,
    ⟨"CMP_IN_HI", 0xC0100C, [(0x40, 64)], [⟨31, 0, .ro, 0, none⟩], none, 0⟩,
    ⟨"CMP_OUT_LO", 0xC01010, [(0x40, 64)], [⟨31, 0, .ro, 0, none⟩], none, 1⟩,
    ⟨"CMP_OUT_HI", 0xC01014, [(0x40, 64)], [⟨31, 0, .ro, 0, none⟩], none, 0⟩,
    ⟨"CMP_STORED_CNT", 0xC01018, [(0x40, 64)], [⟨31, 0, .rw, 0, none⟩], none, 0⟩,
    ⟨"CMP_SELFCHK_CNT", 0xC0101C, [(0x40, 64)], [⟨31, 0, .rw, 0, none⟩], none, 0⟩]

/-- Registers of the DCMP block (08 R218). -/
def regsDcmp : List RegD :=
[
    ⟨"DCMP_STATUS", 0xD01000, [(0x40, 32)], [], some 0xF, 0⟩,
    ⟨"DCMP_STATE", 0xD01004, [(0x40, 32)], [⟨15, 8, .ro, 0, none⟩, ⟨4, 3, .ro, 0, none⟩, ⟨2, 0, .ro, 0, none⟩], none, 0⟩,
    ⟨"DCMP_OUT_LO", 0xD01008, [(0x40, 32)], [⟨31, 0, .ro, 0, none⟩], none, 1⟩,
    ⟨"DCMP_OUT_HI", 0xD0100C, [(0x40, 32)], [⟨31, 0, .ro, 0, none⟩], none, 0⟩,
    ⟨"DCMP_ERR_CNT", 0xD01010, [(0x40, 32)], [⟨31, 0, .rw, 0, none⟩], none, 0⟩]

/-- Registers of the PGEN block (09 R237). -/
def regsPgen : List RegD :=
[
    ⟨"PGEN_STATUS", 0xE00000, [], [], some 0x7, 0⟩,
    ⟨"PGEN_STATE", 0xE00004, [], [⟨17, 6, .ro, 0, none⟩, ⟨2, 0, .ro, 0, none⟩], none, 0⟩,
    ⟨"PGEN_PASS", 0xE00008, [], [⟨31, 0, .ro, 0, none⟩], none, 0⟩,
    ⟨"PGEN_UR_POS", 0xE0000C, [], [⟨4, 0, .ro, 0, none⟩], none, 0⟩,
    ⟨"PGEN_START_LO", 0xE00010, [], [⟨31, 0, .ro, 0, none⟩], none, 2⟩,
    ⟨"PGEN_START_HI", 0xE00014, [], [⟨31, 0, .ro, 0, none⟩], none, 0⟩,
    ⟨"PGEN_START_FRAC", 0xE00018, [], [⟨15, 0, .ro, 0, none⟩], none, 0⟩,
    ⟨"MCHK_STATUS", 0xE01000, [(0x40, 32)], [], some 0xF, 0⟩,
    ⟨"MCHK_STATE", 0xE01004, [(0x40, 32)], [⟨2, 0, .ro, 0, none⟩], none, 0⟩,
    ⟨"MCHK_VIOL_CNT", 0xE01008, [(0x40, 32)], [⟨31, 0, .rw, 0, none⟩], none, 0⟩,
    ⟨"MCHK_REC_LOST", 0xE0100C, [(0x40, 32)], [⟨31, 0, .rw, 0, none⟩], none, 0⟩,
    ⟨"MCHK_SYNC_LO", 0xE01010, [(0x40, 32)], [⟨31, 0, .ro, 0, none⟩], none, 1⟩,
    ⟨"MCHK_SYNC_HI", 0xE01014, [(0x40, 32)], [⟨31, 0, .ro, 0, none⟩], none, 0⟩,
    ⟨"MCHK_FIRST_LO", 0xE01018, [(0x40, 32)], [⟨31, 0, .ro, 0, none⟩], none, 1⟩,
    ⟨"MCHK_FIRST_HI", 0xE0101C, [(0x40, 32)], [⟨31, 0, .ro, 0, none⟩], none, 0⟩,
    ⟨"MCHK_CMP", 0xE01020, [(0x40, 32)], [⟨31, 0, .ro, 0, none⟩], none, 0⟩]

/-- Registers of the MRX and MTX block (12 R293; 13 R313). -/
def regsMyras : List RegD :=
[
    ⟨"MRX_TRAIN_CTRL", 0x1000000, [(0x100000, 4)], [⟨31, 20, .cfg, 0x64, some (1, 4095)⟩, ⟨19, 15, .cfg, 0x10, some (1, 16)⟩, ⟨14, 8, .cfg, 0x64, some (1, 127)⟩, ⟨7, 7, .cfg, 0, none⟩, ⟨6, 4, .ro, 0, none⟩, ⟨3, 3, .cfg, 0x1, none⟩, ⟨2, 2, .cfg, 0x1, none⟩, ⟨0, 0, .rw, 0, none⟩], none, 0⟩,
    ⟨"MRX_TRAIN_STATUS", 0x1000004, [(0x100000, 4)], [], some 0x1FF, 0⟩,
    ⟨"MRX_TRAIN_STATE", 0x1000008, [(0x100000, 4)], [⟨23, 20, .ro, 0, none⟩, ⟨19, 16, .ro, 0, none⟩, ⟨9, 8, .ro, 0, none⟩, ⟨4, 4, .ro, 0, none⟩, ⟨3, 0, .ro, 0, none⟩], none, 0⟩,
    ⟨"MRX_SPARE", 0x100000C, [(0x100000, 4)], [⟨16, 16, .ro, 0, none⟩, ⟨15, 15, .ro, 0, none⟩, ⟨5, 5, .ro, 0, none⟩, ⟨3, 0, .ro, 0, none⟩], none, 0⟩,
    ⟨"MRX_LANE_EXCL", 0x1000010, [(0x100000, 4)], [⟨16, 0, .ro, 0, none⟩], none, 0⟩,
    ⟨"MRX_SB_STATUS", 0x1000100, [(0x100000, 4)], [], some 0x1F, 0⟩,
    ⟨"MRX_SB_DROP", 0x1000104, [(0x100000, 4)], [⟨31, 0, .rw, 0, none⟩], none, 0⟩,
    ⟨"MRX_PEER_ID", 0x1000108, [(0x100000, 4)], [⟨31, 0, .ro, 0, none⟩], none, 0⟩,
    ⟨"MRX_PEER_CAPS", 0x100010C, [(0x100000, 4)], [⟨15, 8, .ro, 0, none⟩, ⟨7, 0, .ro, 0, none⟩], none, 0⟩,
    ⟨"MRX_PEER_LAT", 0x1000110, [(0x100000, 4)], [⟨31, 0, .ro, 0, none⟩], none, 0⟩,
    ⟨"MRX_PEER_STATUS_LO", 0x1000114, [(0x100000, 4)], [⟨31, 0, .ro, 0, none⟩], none, 1⟩,
    ⟨"MRX_PEER_STATUS_HI", 0x1000118, [(0x100000, 4)], [⟨15, 0, .ro, 0, none⟩], none, 0⟩,
    ⟨"MRX_LINK_CFG", 0x100011C, [(0x100000, 4)], [⟨15, 8, .rw, 0x40, none⟩, ⟨2, 1, .ro, 0, none⟩, ⟨0, 0, .ro, 0, none⟩], none, 0⟩,
    ⟨"MRX_LANE_STATUS", 0x1001000, [(0x100000, 4), (0x40, 17)], [], some 0x7F, 0⟩,
    ⟨"MRX_LANE_TEST", 0x1001004, [(0x100000, 4), (0x40, 17)], [⟨11, 11, .rw, 0, none⟩, ⟨10, 8, .rw, 0, none⟩, ⟨5, 5, .rw, 0, none⟩, ⟨4, 4, .rw, 0, none⟩], none, 0⟩,
    ⟨"MRX_CRC_CNT", 0x1001008, [(0x100000, 4), (0x40, 17)], [⟨31, 0, .rw, 0, none⟩], none, 0⟩,
    ⟨"MRX_FLAG_CNT", 0x100100C, [(0x100000, 4), (0x40, 17)], [⟨31, 0, .rw, 0, none⟩], none, 0⟩,
    ⟨"MRX_PRBS_ERR_LO", 0x1001010, [(0x100000, 4), (0x40, 17)], [⟨31, 0, .rw, 0, none⟩], none, 1⟩,
    ⟨"MRX_PRBS_ERR_HI", 0x1001014, [(0x100000, 4), (0x40, 17)], [⟨15, 0, .rw, 0, none⟩], none, 0⟩,
    ⟨"MRX_PRBS_BITS_LO", 0x1001018, [(0x100000, 4), (0x40, 17)], [⟨31, 0, .rw, 0, none⟩], none, 1⟩,
    ⟨"MRX_PRBS_BITS_HI", 0x100101C, [(0x100000, 4), (0x40, 17)], [⟨15, 0, .rw, 0, none⟩], none, 0⟩,
    ⟨"MRX_LANE_TSTAT", 0x1001020, [(0x100000, 4), (0x40, 17)], [], some 0xF, 0⟩,
    ⟨"MRX_LANE_TRAIN", 0x1001024, [(0x100000, 4), (0x40, 17)], [⟨15, 8, .ro, 0, none⟩, ⟨7, 6, .ro, 0, none⟩, ⟨5, 3, .ro, 0, none⟩, ⟨1, 1, .ro, 0, none⟩, ⟨0, 0, .ro, 0, none⟩], none, 0⟩,
    ⟨"MRX_LANE_GOOD", 0x1001028, [(0x100000, 4), (0x40, 17)], [⟨31, 0, .ro, 0, none⟩], none, 0⟩]
  ++ [
    ⟨"MTX_TRAIN_CTRL", 0x1400000, [(0x100000, 2)], [⟨31, 20, .cfg, 0x64, some (1, 4095)⟩, ⟨19, 15, .cfg, 0x10, some (1, 16)⟩, ⟨14, 8, .cfg, 0x64, some (1, 127)⟩, ⟨7, 7, .cfg, 0, none⟩, ⟨6, 4, .ro, 0, none⟩, ⟨3, 3, .cfg, 0x1, none⟩, ⟨2, 2, .cfg, 0x1, none⟩, ⟨0, 0, .rw, 0, none⟩], none, 0⟩,
    ⟨"MTX_TRAIN_STATUS", 0x1400004, [(0x100000, 2)], [], some 0x1FF, 0⟩,
    ⟨"MTX_TRAIN_STATE", 0x1400008, [(0x100000, 2)], [⟨23, 20, .ro, 0, none⟩, ⟨19, 16, .ro, 0, none⟩, ⟨9, 8, .ro, 0, none⟩, ⟨4, 4, .ro, 0, none⟩, ⟨3, 0, .ro, 0, none⟩], none, 0⟩,
    ⟨"MTX_SPARE", 0x140000C, [(0x100000, 2)], [⟨16, 16, .ro, 0, none⟩, ⟨15, 15, .ro, 0, none⟩, ⟨5, 5, .ro, 0, none⟩, ⟨3, 0, .ro, 0, none⟩], none, 0⟩,
    ⟨"MTX_LANE_EXCL", 0x1400010, [(0x100000, 2)], [⟨16, 0, .ro, 0, none⟩], none, 0⟩,
    ⟨"MTX_SB_STATUS", 0x1400100, [(0x100000, 2)], [], some 0x1F, 0⟩,
    ⟨"MTX_SB_DROP", 0x1400104, [(0x100000, 2)], [⟨31, 0, .rw, 0, none⟩], none, 0⟩,
    ⟨"MTX_PEER_ID", 0x1400108, [(0x100000, 2)], [⟨31, 0, .ro, 0, none⟩], none, 0⟩,
    ⟨"MTX_PEER_CAPS", 0x140010C, [(0x100000, 2)], [⟨15, 8, .ro, 0, none⟩, ⟨7, 0, .ro, 0, none⟩], none, 0⟩,
    ⟨"MTX_PEER_LAT", 0x1400110, [(0x100000, 2)], [⟨31, 0, .ro, 0, none⟩], none, 0⟩,
    ⟨"MTX_PEER_STATUS_LO", 0x1400114, [(0x100000, 2)], [⟨31, 0, .ro, 0, none⟩], none, 1⟩,
    ⟨"MTX_PEER_STATUS_HI", 0x1400118, [(0x100000, 2)], [⟨15, 0, .ro, 0, none⟩], none, 0⟩,
    ⟨"MTX_LINK_CFG", 0x140011C, [(0x100000, 2)], [⟨2, 1, .ro, 0, none⟩, ⟨0, 0, .ro, 0, none⟩], none, 0⟩,
    ⟨"MTX_LANE_STATUS", 0x1401000, [(0x100000, 2), (0x40, 17)], [], some 0x60, 0⟩,
    ⟨"MTX_LANE_TEST", 0x1401004, [(0x100000, 2), (0x40, 17)], [⟨11, 11, .rw, 0, none⟩, ⟨10, 8, .rw, 0, none⟩, ⟨5, 5, .rw, 0, none⟩, ⟨4, 4, .rw, 0, none⟩], none, 0⟩,
    ⟨"MTX_CRC_CNT", 0x1401008, [(0x100000, 2), (0x40, 17)], [], none, 0⟩,
    ⟨"MTX_FLAG_CNT", 0x140100C, [(0x100000, 2), (0x40, 17)], [], none, 0⟩,
    ⟨"MTX_PRBS_ERR_LO", 0x1401010, [(0x100000, 2), (0x40, 17)], [⟨31, 0, .rw, 0, none⟩], none, 1⟩,
    ⟨"MTX_PRBS_ERR_HI", 0x1401014, [(0x100000, 2), (0x40, 17)], [⟨15, 0, .rw, 0, none⟩], none, 0⟩,
    ⟨"MTX_PRBS_BITS_LO", 0x1401018, [(0x100000, 2), (0x40, 17)], [⟨31, 0, .rw, 0, none⟩], none, 1⟩,
    ⟨"MTX_PRBS_BITS_HI", 0x140101C, [(0x100000, 2), (0x40, 17)], [⟨15, 0, .rw, 0, none⟩], none, 0⟩,
    ⟨"MTX_LANE_TSTAT", 0x1401020, [(0x100000, 2), (0x40, 17)], [], some 0xF, 0⟩,
    ⟨"MTX_LANE_TRAIN", 0x1401024, [(0x100000, 2), (0x40, 17)], [⟨15, 8, .ro, 0, none⟩, ⟨7, 6, .ro, 0, none⟩, ⟨5, 3, .ro, 0, none⟩, ⟨1, 1, .ro, 0, none⟩, ⟨0, 0, .ro, 0, none⟩], none, 0⟩,
    ⟨"MTX_LANE_GOOD", 0x1401028, [(0x100000, 2), (0x40, 17)], [⟨31, 0, .ro, 0, none⟩], none, 0⟩]

/-- Registers of the QUAD block (03 R74; 04 R103; 19 R438). -/
def regsQuad : List RegD :=
[
    ⟨"GUARD_STATUS", 0x2010000, [(0x400000, 4)], [], some 0x7, 0⟩,
    ⟨"GUARD_CTRL", 0x2010004, [(0x400000, 4)], [⟨15, 8, .rw, 0x3, none⟩, ⟨7, 0, .rw, 0x10, none⟩], none, 0⟩,
    ⟨"GUARD_VIOL_CNT", 0x2010008, [(0x400000, 4)], [⟨31, 0, .rw, 0, none⟩], none, 0⟩,
    ⟨"GUARD_POS", 0x201000C, [(0x400000, 4)], [⟨31, 16, .ro, 0, none⟩, ⟨15, 0, .ro, 0, none⟩], none, 0⟩,
    ⟨"GUARD_DEALNUM_LO", 0x2010010, [(0x400000, 4)], [⟨31, 0, .ro, 0, none⟩], none, 1⟩,
    ⟨"GUARD_DEALNUM_HI", 0x2010014, [(0x400000, 4)], [⟨31, 0, .ro, 0, none⟩], none, 0⟩,
    ⟨"GUARD_FIRST_LO", 0x2010018, [(0x400000, 4)], [⟨31, 16, .ro, 0, none⟩, ⟨15, 12, .ro, 0, none⟩, ⟨11, 0, .ro, 0, none⟩], none, 1⟩,
    ⟨"GUARD_FIRST_HI", 0x201001C, [(0x400000, 4)], [⟨27, 16, .ro, 0, none⟩, ⟨15, 0, .ro, 0, none⟩], none, 0⟩,
    ⟨"GUARD_DECKID_LO", 0x2010020, [(0x400000, 4)], [⟨31, 0, .ro, 0, none⟩], none, 1⟩,
    ⟨"GUARD_DECKID_HI", 0x2010024, [(0x400000, 4)], [⟨31, 0, .ro, 0, none⟩], none, 0⟩,
    ⟨"GUARD_THERM", 0x2010028, [(0x400000, 4)], [], none, 0⟩,
    ⟨"INGEST_CTRL", 0x2020000, [(0x400000, 4)], [⟨6, 4, .ro, 0, none⟩, ⟨0, 0, .rw, 0, none⟩], none, 0⟩,
    ⟨"INGEST_STATUS", 0x2020004, [(0x400000, 4)], [], some 0x3F, 0⟩,
    ⟨"INGEST_WIGN_ADDR", 0x2020008, [(0x400000, 4)], [⟨31, 0, .ro, 0, none⟩], none, 0⟩,
    ⟨"INGEST_XWIN", 0x202000C, [], [⟨9, 0, .cfg, 0x40, some (0, 819)⟩], none, 0⟩,
    ⟨"INGEST_FE_LAT", 0x2020010, [(0x400000, 4)], [⟨31, 0, .rw, 0, none⟩], none, 0⟩,
    ⟨"INGEST_GRP_DLY", 0x2020014, [(0x400000, 4)], [⟨9, 0, .ro, 0, none⟩], none, 0⟩,
    ⟨"INGEST_STATE_CFG", 0x2020018, [(0x400000, 4)], [⟨10, 10, .ro, 0, none⟩, ⟨9, 8, .ro, 0, none⟩, ⟨7, 4, .ro, 0, none⟩, ⟨3, 0, .ro, 0, none⟩], none, 0⟩,
    ⟨"INGEST_LANE_CFG", 0x2020020, [(0x400000, 4), (0x4, 17)], [⟨0, 0, .cfg, 0, none⟩], none, 0⟩,
    ⟨"INGEST_INV", 0x2020080, [(0x400000, 4), (0x4, 8)], [⟨31, 0, .cfg, 0, none⟩], none, 0⟩,
    ⟨"INGEST_POS", 0x20200C0, [(0x400000, 4), (0x4, 16)], [⟨16, 16, .ro, 0x1, none⟩, ⟨6, 0, .ro, 0, none⟩], none, 0⟩,
    ⟨"INGEST_VOID_CNT", 0x2020100, [(0x400000, 4), (0x4, 16)], [⟨31, 0, .rw, 0, none⟩], none, 0⟩,
    ⟨"QUAD_STATUS", 0x2030000, [(0x400000, 4)], [], some 0x3FFF, 0⟩,
    ⟨"QUAD_PATROL", 0x2030004, [(0x400000, 4)], [⟨31, 0, .ro, 0, none⟩], none, 0⟩]
  ++ [
    ⟨"QUAD_AGE", 0x2030008, [(0x400000, 4)], [⟨22, 16, .ro, 0x40, none⟩, ⟨15, 0, .ro, 0, none⟩], none, 0⟩,
    ⟨"QUAD_MISMATCH_CNT", 0x203000C, [(0x400000, 4)], [⟨31, 0, .rw, 0, none⟩], none, 0⟩,
    ⟨"QUAD_CE_CNT", 0x2030010, [(0x400000, 4)], [⟨31, 0, .rw, 0, none⟩], none, 0⟩,
    ⟨"INGEST_XWIN", 0x242000C, [(0x400000, 3)], [], none, 0⟩]

/-- Registers of the MEM block (17 R402, R403). -/
def regsMem : List RegD :=
[
    ⟨"MEM_STATUS", 0x3000000, [], [], some 0x3FFC, 0⟩,
    ⟨"MEM_ERR_LOC", 0x3000004, [], [⟨31, 29, .ro, 0, none⟩, ⟨28, 23, .ro, 0, none⟩, ⟨22, 8, .ro, 0, none⟩, ⟨3, 0, .ro, 0, none⟩], none, 0⟩,
    ⟨"MEM_CE_THRESH", 0x3000008, [], [⟨15, 0, .rw, 0x100, none⟩], none, 0⟩,
    ⟨"MEM_CE_CNT", 0x3000010, [(0x4, 8)], [⟨31, 0, .rw, 0, none⟩], none, 0⟩,
    ⟨"MEM_UE_CNT", 0x3000030, [(0x4, 8)], [⟨31, 0, .rw, 0, none⟩], none, 0⟩,
    ⟨"MEM_WW_CNT", 0x3000050, [(0x4, 8)], [⟨31, 0, .rw, 0, none⟩], none, 0⟩,
    ⟨"MEM_BANK_PWR", 0x3000100, [(0x10, 5), (0x4, 4)], [⟨31, 0, .ro, 0, none⟩], none, 0⟩,
    ⟨"MEM_CONFLICT", 0x3000200, [(0x10, 5), (0x4, 3)], [⟨31, 0, .rw, 0, none⟩], none, 0⟩]

/-- The registers of the block that BAR0 offset `o` lies in (Table 14-2). -/
def blockRegs (o : Nat) : List RegD :=
  match o / 0x100000 with
  | 0 => regsChip
  | 1 => regsShep
  | 2 => regsSec
  | 3 => regsPcie
  | 4 => regsTbase
  | 5 => regsTin
  | 6 => regsDac
  | 7 => regsEq
  | 8 => regsTrig
  | 9 => regsFlock
  | 10 => regsHbm
  | 11 => regsDrov
  | 12 => regsCmp
  | 13 => regsDcmp
  | 14 => regsPgen
  | 48 => regsMem
  | 0x10 | 0x11 | 0x12 | 0x13 | 0x14 | 0x15 => regsMyras
  | 0x20 | 0x24 | 0x28 | 0x2C => regsQuad
  | _ => []

/-! BAR0 offsets by name. Indices are in the order the tables give them; a Myras group is 0-3 for MRX0-MRX3 and 4-5 for
MTX0-MTX1, whose blocks follow at the same stride (Table 14-2); a guard region is 0-3 for Q0-Q3 and 4 for SPINE. -/

namespace Reg

/-- Base of the guard registers of region `r` (R74). -/
def guardBase (r : Nat) : Nat := if r < 4 then 0x2010000 + 0x400000 * r else 0x1000

def CHIP_ID : Nat := 0x0
def CHIP_UNLOCK : Nat := 0x10
def CHIP_KEY_STATE : Nat := 0x14
def CHIP_KEY_FAIL : Nat := 0x18
def CHIP_STATUS : Nat := 0x20
def CHIP_ERR_ADDR : Nat := 0x24
def CHIP_STALE_ADDR : Nat := 0x28
def CHIP_WIGN_ADDR : Nat := 0x2C
def CHIP_OWNER : Nat := 0x30
def CHIP_PWR_STATUS : Nat := 0x40
def CHIP_PWR_CTRL : Nat := 0x44
def CHIP_AVS : Nat := 0x48
def CHIP_PWR_STATE : Nat := 0x4C
def CHIP_CLK_STATUS : Nat := 0x50
def CHIP_RESET_CAUSE : Nat := 0x54
def CHIP_RESET : Nat := 0x5C
def CHIP_VMON (r : Nat) : Nat := 0x60 + 0x4 * r
def CHIP_TEMP_DIE : Nat := 0x90
def CHIP_TEMP_HBM (s : Nat) : Nat := 0x94 + 0x4 * s
def CHIP_IRQ_SUM : Nat := 0x100
def CHIP_IRQ_EN : Nat := 0x104
def IRQ_NODE_STATUS (k : Nat) : Nat := 0x200 + 0x8 * k
def IRQ_NODE_EN (k : Nat) : Nat := 0x204 + 0x8 * k
def IRQ_BLK_STATUS (m : Nat) : Nat := 0x400 + 0x8 * m
def IRQ_BLK_EN (m : Nat) : Nat := 0x404 + 0x8 * m
def GUARD_STATUS (r : Nat) : Nat := guardBase r + 0x0
def GUARD_CTRL (r : Nat) : Nat := guardBase r + 0x4
def GUARD_VIOL_CNT (r : Nat) : Nat := guardBase r + 0x8
def GUARD_POS (r : Nat) : Nat := guardBase r + 0xC
def GUARD_DEALNUM_LO (r : Nat) : Nat := guardBase r + 0x10
def GUARD_DEALNUM_HI (r : Nat) : Nat := guardBase r + 0x14
def GUARD_FIRST_LO (r : Nat) : Nat := guardBase r + 0x18
def GUARD_FIRST_HI (r : Nat) : Nat := guardBase r + 0x1C
def GUARD_DECKID_LO (r : Nat) : Nat := guardBase r + 0x20
def GUARD_DECKID_HI (r : Nat) : Nat := guardBase r + 0x24
def GUARD_THERM (r : Nat) : Nat := guardBase r + 0x28
def SHEP_STATUS : Nat := 0x100000
def SHEP_CTRL : Nat := 0x100004
def SHEP_CORES : Nat := 0x100008
def CMDQ_GLOBAL : Nat := 0x110000
def CMDQ_READY : Nat := 0x110004
def CMDQ_CTRL (n : Nat) : Nat := 0x111000 + 0x40 * n
def CMDQ_STATUS (n : Nat) : Nat := 0x111004 + 0x40 * n
def CMDQ_SQ_BASE_LO (n : Nat) : Nat := 0x111008 + 0x40 * n
def CMDQ_SQ_BASE_HI (n : Nat) : Nat := 0x11100C + 0x40 * n
def CMDQ_CQ_BASE_LO (n : Nat) : Nat := 0x111010 + 0x40 * n
def CMDQ_CQ_BASE_HI (n : Nat) : Nat := 0x111014 + 0x40 * n
def CMDQ_SHADOW_LO (n : Nat) : Nat := 0x111018 + 0x40 * n
def CMDQ_SHADOW_HI (n : Nat) : Nat := 0x11101C + 0x40 * n
def CMDQ_SQ_PTR (n : Nat) : Nat := 0x111020 + 0x40 * n
def CMDQ_CQ_PTR (n : Nat) : Nat := 0x111024 + 0x40 * n
def CMDQ_COAL (n : Nat) : Nat := 0x111028 + 0x40 * n
def CMDQ_INFLIGHT (n : Nat) : Nat := 0x11102C + 0x40 * n
def SEC_STATUS : Nat := 0x200000
def SEC_STATE : Nat := 0x200004
def SEC_NONCE_LO : Nat := 0x200008
def SEC_NONCE_HI : Nat := 0x20000C
def SEC_CTRL : Nat := 0x200010
def PCIE_STATUS : Nat := 0x300000
def PCIE_LINK : Nat := 0x300004
def PCIE_WDROP : Nat := 0x300008
def PCIE_WDROP_ADDR_LO : Nat := 0x30000C
def PCIE_WDROP_ADDR_HI : Nat := 0x300010
def PCIE_CTRL : Nat := 0x300014
def TBASE_CTRL : Nat := 0x400000
def TBASE_STATUS : Nat := 0x400004
def TBASE_NOW_NS_LO : Nat := 0x400010
def TBASE_NOW_NS_HI : Nat := 0x400014
def TBASE_NOW_FRAC : Nat := 0x400018
def TBASE_EPOCH_NS_LO : Nat := 0x400020
def TBASE_EPOCH_NS_HI : Nat := 0x400024
def TBASE_EPOCH_FRAC : Nat := 0x400028
def TBASE_LANE_OFS (n : Nat) : Nat := 0x400100 + 0x4 * n
def TIN_GATE_CTRL : Nat := 0x500000
def MEAS_STATE (u : Nat) : Nat := 0x500200 + 0x20 * u
def MEAS_STARTS (u : Nat) : Nat := 0x500204 + 0x20 * u
def MEAS_EARLY (u : Nat) : Nat := 0x500208 + 0x20 * u
def MEAS_BUSY (u : Nat) : Nat := 0x50020C + 0x20 * u
def TIN_CTRL (n : Nat) : Nat := 0x501000 + 0x40 * n
def TIN_STATUS (n : Nat) : Nat := 0x501004 + 0x40 * n
def TIN_OFS (n : Nat) : Nat := 0x501008 + 0x40 * n
def TIN_WIGN_ADDR (n : Nat) : Nat := 0x50100C + 0x40 * n
def TIN_EDGE_LO (n : Nat) : Nat := 0x501010 + 0x40 * n
def TIN_EDGE_HI (n : Nat) : Nat := 0x501014 + 0x40 * n
def TIN_DEAD_CNT (n : Nat) : Nat := 0x501018 + 0x40 * n
def TIN_LAST_NS_LO (n : Nat) : Nat := 0x50101C + 0x40 * n
def TIN_LAST_NS_HI (n : Nat) : Nat := 0x501020 + 0x40 * n
def TIN_LAST_FRAC (n : Nat) : Nat := 0x501024 + 0x40 * n
def DAC_GLOBAL : Nat := 0x600000
def DAC_WIGN_ADDR : Nat := 0x600004
def DAC_CTRL (ch : Nat) : Nat := 0x601000 + 0x40 * ch
def DAC_STATUS (ch : Nat) : Nat := 0x601004 + 0x40 * ch
def DAC_CODE (ch : Nat) : Nat := 0x601008 + 0x40 * ch
def DAC_OUT (ch : Nat) : Nat := 0x60100C + 0x40 * ch
def DDS_FTW_LO (ch : Nat) : Nat := 0x601010 + 0x40 * ch
def DDS_FTW_HI (ch : Nat) : Nat := 0x601014 + 0x40 * ch
def DDS_PHASE (ch : Nat) : Nat := 0x601018 + 0x40 * ch
def DDS_SCALE (ch : Nat) : Nat := 0x60101C + 0x40 * ch
def SQ_LEVELS (ch : Nat) : Nat := 0x601020 + 0x40 * ch
def SQ_HI_LEN (ch : Nat) : Nat := 0x601024 + 0x40 * ch
def SQ_LO_LEN (ch : Nat) : Nat := 0x601028 + 0x40 * ch
def EQ_CTRL (n : Nat) : Nat := 0x701000 + 0x40 * n
def EQ_STATUS (n : Nat) : Nat := 0x701004 + 0x40 * n
def EQ_DEPTH (n : Nat) : Nat := 0x701008 + 0x40 * n
def EQ_DROP_CNT (n : Nat) : Nat := 0x70100C + 0x40 * n
def EQ_TMO (n : Nat) : Nat := 0x701010 + 0x40 * n
def EQ_POP (n : Nat) : Nat := 0x701020 + 0x40 * n
def EQ_LINE (n j : Nat) : Nat := 0x701024 + 0x40 * n + 0x4 * j
def TRIG_REC_STATUS : Nat := 0x800000
def TRIG_LATE_CNT : Nat := 0x800008
def TRIG_CNT_LO (n : Nat) : Nat := 0x800100 + 0x8 * n
def TRIG_CNT_HI (n : Nat) : Nat := 0x800104 + 0x8 * n
def TRIG_TMR_LO (n : Nat) : Nat := 0x800300 + 0x8 * n
def TRIG_TMR_HI (n : Nat) : Nat := 0x800304 + 0x8 * n
def TRIG_NET_STATUS : Nat := 0x800400
def TRIG_OUT_CTRL : Nat := 0x800404
def TRIG_PATH_LAT : Nat := 0x800408
def TRIG_REC_LOST : Nat := 0x80040C
def TRIG_GRP_IGN (g : Nat) : Nat := 0x800440 + 0x4 * g
def TRIG_GRP_REC (g : Nat) : Nat := 0x800480 + 0x4 * g
def HAND_STATUS (h : Nat) : Nat := 0x801000 + 0x40 * h
def HAND_STATE (h : Nat) : Nat := 0x801004 + 0x40 * h
def HAND_HC0 (h : Nat) : Nat := 0x801008 + 0x40 * h
def HAND_HC1 (h : Nat) : Nat := 0x80100C + 0x40 * h
def HAND_FIRE_CNT (h : Nat) : Nat := 0x801010 + 0x40 * h
def HAND_TRIG_CNT (h : Nat) : Nat := 0x801014 + 0x40 * h
def HAND_PAUSE_CNT (h : Nat) : Nat := 0x801018 + 0x40 * h
def HAND_LAST_LO (h : Nat) : Nat := 0x80101C + 0x40 * h
def HAND_LAST_HI (h : Nat) : Nat := 0x801020 + 0x40 * h
def FLOCK_STATUS : Nat := 0x900000
def FLOCK_CTRL : Nat := 0x900004
def FLOCK_MAIN_OCC : Nat := 0x900008
def FLOCK_STASH_OCC : Nat := 0x90000C
def FLOCK_ECC_CNT : Nat := 0x900010
def FLOCK_REC_CNT_LOOKUPS (f : Nat) : Nat := 0x900100 + 0x10 * f
def FLOCK_REC_CNT_HITS (f : Nat) : Nat := 0x900104 + 0x10 * f
def FLOCK_REC_CNT_VOID_KEYS (f : Nat) : Nat := 0x900108 + 0x10 * f
def FLOCK_REC_CNT_DROPPED (f : Nat) : Nat := 0x90010C + 0x10 * f
def HBM_STATUS (s : Nat) : Nat := 0xA00000 + 0x40 * s
def HBM_POOL (s : Nat) : Nat := 0xA00004 + 0x40 * s
def HBM_CE_CNT (s : Nat) : Nat := 0xA00008 + 0x40 * s
def HBM_UE_CNT (s : Nat) : Nat := 0xA0000C + 0x40 * s
def FOLD_GRP_STATUS (g : Nat) : Nat := 0xA10000 + 0x40 * g
def FOLD_GRP_STATE (g : Nat) : Nat := 0xA10004 + 0x40 * g
def FOLD_GRP_SEG (g : Nat) : Nat := 0xA10008 + 0x40 * g
def FOLD_GRP_POST_LO (g : Nat) : Nat := 0xA1000C + 0x40 * g
def FOLD_GRP_POST_HI (g : Nat) : Nat := 0xA10010 + 0x40 * g
def FOLD_GRP_TRIG_LO (g : Nat) : Nat := 0xA10014 + 0x40 * g
def FOLD_GRP_TRIG_HI (g : Nat) : Nat := 0xA10018 + 0x40 * g
def FOLD_GRP_LAST_LO (g : Nat) : Nat := 0xA1001C + 0x40 * g
def FOLD_GRP_LAST_HI (g : Nat) : Nat := 0xA10020 + 0x40 * g
def DROV_STATUS (d : Nat) : Nat := 0xB01000 + 0x40 * d
def DROV_STATE (d : Nat) : Nat := 0xB01004 + 0x40 * d
def DROV_BYTES_LO (d : Nat) : Nat := 0xB01008 + 0x40 * d
def DROV_BYTES_HI (d : Nat) : Nat := 0xB0100C + 0x40 * d
def DROV_MISMATCH_CNT (d : Nat) : Nat := 0xB01010 + 0x40 * d
def CMP_CTRL : Nat := 0xC00000
def CMP_STATUS (e : Nat) : Nat := 0xC01000 + 0x40 * e
def CMP_STATE (e : Nat) : Nat := 0xC01004 + 0x40 * e
def CMP_IN_LO (e : Nat) : Nat := 0xC01008 + 0x40 * e
def CMP_IN_HI (e : Nat) : Nat := 0xC0100C + 0x40 * e
def CMP_OUT_LO (e : Nat) : Nat := 0xC01010 + 0x40 * e
def CMP_OUT_HI (e : Nat) : Nat := 0xC01014 + 0x40 * e
def CMP_STORED_CNT (e : Nat) : Nat := 0xC01018 + 0x40 * e
def CMP_SELFCHK_CNT (e : Nat) : Nat := 0xC0101C + 0x40 * e
def DCMP_STATUS (d : Nat) : Nat := 0xD01000 + 0x40 * d
def DCMP_STATE (d : Nat) : Nat := 0xD01004 + 0x40 * d
def DCMP_OUT_LO (d : Nat) : Nat := 0xD01008 + 0x40 * d
def DCMP_OUT_HI (d : Nat) : Nat := 0xD0100C + 0x40 * d
def DCMP_ERR_CNT (d : Nat) : Nat := 0xD01010 + 0x40 * d
def PGEN_STATUS : Nat := 0xE00000
def PGEN_STATE : Nat := 0xE00004
def PGEN_PASS : Nat := 0xE00008
def PGEN_UR_POS : Nat := 0xE0000C
def PGEN_START_LO : Nat := 0xE00010
def PGEN_START_HI : Nat := 0xE00014
def PGEN_START_FRAC : Nat := 0xE00018
def MCHK_STATUS (n : Nat) : Nat := 0xE01000 + 0x40 * n
def MCHK_STATE (n : Nat) : Nat := 0xE01004 + 0x40 * n
def MCHK_VIOL_CNT (n : Nat) : Nat := 0xE01008 + 0x40 * n
def MCHK_REC_LOST (n : Nat) : Nat := 0xE0100C + 0x40 * n
def MCHK_SYNC_LO (n : Nat) : Nat := 0xE01010 + 0x40 * n
def MCHK_SYNC_HI (n : Nat) : Nat := 0xE01014 + 0x40 * n
def MCHK_FIRST_LO (n : Nat) : Nat := 0xE01018 + 0x40 * n
def MCHK_FIRST_HI (n : Nat) : Nat := 0xE0101C + 0x40 * n
def MCHK_CMP (n : Nat) : Nat := 0xE01020 + 0x40 * n
def MRX_TRAIN_CTRL (g : Nat) : Nat := 0x1000000 + 0x100000 * g
def MRX_TRAIN_STATUS (g : Nat) : Nat := 0x1000004 + 0x100000 * g
def MRX_TRAIN_STATE (g : Nat) : Nat := 0x1000008 + 0x100000 * g
def MRX_SPARE (g : Nat) : Nat := 0x100000C + 0x100000 * g
def MRX_LANE_EXCL (g : Nat) : Nat := 0x1000010 + 0x100000 * g
def MRX_SB_STATUS (g : Nat) : Nat := 0x1000100 + 0x100000 * g
def MRX_SB_DROP (g : Nat) : Nat := 0x1000104 + 0x100000 * g
def MRX_PEER_ID (g : Nat) : Nat := 0x1000108 + 0x100000 * g
def MRX_PEER_CAPS (g : Nat) : Nat := 0x100010C + 0x100000 * g
def MRX_PEER_LAT (g : Nat) : Nat := 0x1000110 + 0x100000 * g
def MRX_PEER_STATUS_LO (g : Nat) : Nat := 0x1000114 + 0x100000 * g
def MRX_PEER_STATUS_HI (g : Nat) : Nat := 0x1000118 + 0x100000 * g
def MRX_LINK_CFG (g : Nat) : Nat := 0x100011C + 0x100000 * g
def MRX_LANE_STATUS (g i : Nat) : Nat := 0x1001000 + 0x100000 * g + 0x40 * i
def MRX_LANE_TEST (g i : Nat) : Nat := 0x1001004 + 0x100000 * g + 0x40 * i
def MRX_CRC_CNT (g i : Nat) : Nat := 0x1001008 + 0x100000 * g + 0x40 * i
def MRX_FLAG_CNT (g i : Nat) : Nat := 0x100100C + 0x100000 * g + 0x40 * i
def MRX_PRBS_ERR_LO (g i : Nat) : Nat := 0x1001010 + 0x100000 * g + 0x40 * i
def MRX_PRBS_ERR_HI (g i : Nat) : Nat := 0x1001014 + 0x100000 * g + 0x40 * i
def MRX_PRBS_BITS_LO (g i : Nat) : Nat := 0x1001018 + 0x100000 * g + 0x40 * i
def MRX_PRBS_BITS_HI (g i : Nat) : Nat := 0x100101C + 0x100000 * g + 0x40 * i
def MRX_LANE_TSTAT (g i : Nat) : Nat := 0x1001020 + 0x100000 * g + 0x40 * i
def MRX_LANE_TRAIN (g i : Nat) : Nat := 0x1001024 + 0x100000 * g + 0x40 * i
def MRX_LANE_GOOD (g i : Nat) : Nat := 0x1001028 + 0x100000 * g + 0x40 * i
def INGEST_CTRL (q : Nat) : Nat := 0x2020000 + 0x400000 * q
def INGEST_STATUS (q : Nat) : Nat := 0x2020004 + 0x400000 * q
def INGEST_WIGN_ADDR (q : Nat) : Nat := 0x2020008 + 0x400000 * q
def INGEST_XWIN (q : Nat) : Nat := 0x202000C + 0x400000 * q
def INGEST_FE_LAT (q : Nat) : Nat := 0x2020010 + 0x400000 * q
def INGEST_GRP_DLY (q : Nat) : Nat := 0x2020014 + 0x400000 * q
def INGEST_STATE_CFG (q : Nat) : Nat := 0x2020018 + 0x400000 * q
def INGEST_LANE_CFG (q i : Nat) : Nat := 0x2020020 + 0x400000 * q + 0x4 * i
def INGEST_INV (q w : Nat) : Nat := 0x2020080 + 0x400000 * q + 0x4 * w
def INGEST_POS (q i : Nat) : Nat := 0x20200C0 + 0x400000 * q + 0x4 * i
def INGEST_VOID_CNT (q i : Nat) : Nat := 0x2020100 + 0x400000 * q + 0x4 * i
def QUAD_STATUS (q : Nat) : Nat := 0x2030000 + 0x400000 * q
def QUAD_PATROL (q : Nat) : Nat := 0x2030004 + 0x400000 * q
def QUAD_AGE (q : Nat) : Nat := 0x2030008 + 0x400000 * q
def QUAD_MISMATCH_CNT (q : Nat) : Nat := 0x203000C + 0x400000 * q
def QUAD_CE_CNT (q : Nat) : Nat := 0x2030010 + 0x400000 * q
def MEM_STATUS : Nat := 0x3000000
def MEM_ERR_LOC : Nat := 0x3000004
def MEM_CE_THRESH : Nat := 0x3000008
def MEM_CE_CNT (r : Nat) : Nat := 0x3000010 + 0x4 * r
def MEM_UE_CNT (r : Nat) : Nat := 0x3000030 + 0x4 * r
def MEM_WW_CNT (r : Nat) : Nat := 0x3000050 + 0x4 * r
def MEM_BANK_PWR (r w : Nat) : Nat := 0x3000100 + 0x10 * r + 0x4 * w
def MEM_CONFLICT (r m : Nat) : Nat := 0x3000200 + 0x10 * r + 0x4 * m

end Reg

end Sys2Proof
end

