-- ==== Sys2Proof/Machine/State.lean ====
section
/-!
DEFINITION. The state of the NL1024H as plain data: registers, memories, queues and everything a chapter of the spec gives a
unit, the queue of commands that wait, and the model's own fields (`free`, `reply`). Every field's default is its value at
reset (INVENTORY.md, "State").
-/

namespace Sys2Proof.Machine

/-- A sparse table: what stands at the keys that are listed; every unlisted key stands for a default. Keys strictly rise and
no listed value equals its default, so that equal tables are equal data. -/
abbrev Tab (α : Type) := List (Nat × α)

/-- A byte memory in that form; an unlisted byte reads 0 (notes/assumptions/6.md). -/
abbrev Mem := List Host.Cell

/-- What the machine stops with. No rule of the spec stops the block: an error is a flag, a log entry or a state (R24, R28).
Raised by nothing, hence safe. -/
inductive Fault where
  /-- Raised by nobody. -/
  | none
deriving DecidableEq, Repr

/-- Why a command has no next state. -/
inductive Refusal where
  /-- A command of the table whose meaning is not written. Safe: the model stops. -/
  | notModelled (mnemonic : String)
deriving DecidableEq, Repr

/-- What one register master holds (R370, R371, R372, R403): its lock, its wrong keys, its lockout, the latched values by
BAR0 offset, the staged low halves by the offset of their LO, and its latched event-queue lines by queue. -/
structure MasterSt where
  unlocked : Bool := false
  strikes : Nat := 0
  lockout : Bool := false
  latch : Tab Word := []
  staged : Tab Word := []
  eqLine : Tab (List Word) := []
deriving DecidableEq, Repr

/-- The answer to the last read of a register, a queue or the memory window: the model's own output field
(notes/assumptions/7.md). -/
inductive Reply where
  | none
  | data (bytes : List Byte)
  | poisoned (bytes : List Byte)
  | unsupported
  | abort
deriving DecidableEq, Repr

/-- A SET_TIME that waits: for a SYNC_IN edge (R38; `edge` is the accepted edge's time), or for the timebase PLL (R41). -/
structure TimeWait where
  ring : Fin 16
  cid : BitVec 16
  atSync : Bool
  time : Time
  edge : Option Time
deriving DecidableEq, Repr

/-- The timebase (chapter 2). `now` is the bellwether, or the AON timekeeping counter's value while TBASE is stopped (R33);
`sub` counts fclk since the last edge of REFCLK ÷ 4; `epoch` is E (R43); `laneOfs` is the offset in force on each physical
RX lane (R44); `wait` the SET_TIME that waits; `crossed` is that the bellwether took a whole-second value by counting in the last fclk,
`syncOut` the pin and `syncLeft` the fclk for which its pulse lasts (R42). -/
structure TimeSt where
  now : Time := 0
  running : Bool := false
  sub : Nat := 0
  epoch : Option Time := none
  laneOfs : Tab (BitVec 24) := []
  wait : Option TimeWait := none
  crossed : Bool := false
  syncOut : Bool := false
  syncLeft : Nat := 0
deriving DecidableEq, Repr

/-- A command fetched and not yet started (R325); `resv` is the offset of the first byte that its command does not define and that is not
zero (R341). -/
structure Fetched where
  ring : Fin 16
  cid : BitVec 16
  fence : Bool
  resv : Option Nat := none
deriving DecidableEq, Repr

/-- A command started and not yet complete; `obj` is the number of the object it acts on (Table 15-15), `aux` a second; `orphan` where a
host reset has fallen since, so that its completion will be discarded (R339). -/
structure Running where
  ring : Fin 16
  cid : BitVec 16
  op : Nat
  obj : Nat
  aux : Nat
  orphan : Bool := false
deriving DecidableEq, Repr

/-- A finished command whose completion entry is not yet written (R328, Table 15-2). -/
structure Completion where
  ring : Fin 16
  cid : BitVec 16
  status : Nat
  result : Word
  result2 : BitVec 64
deriving DecidableEq, Repr

/-- Per completion ring (R327, R329): the phase of the pass and the completions pending. -/
structure CqSt where
  phase : Bool := true
  pending : Nat := 0
deriving DecidableEq, Repr

/-- The command interface (R323-R330): fetched, running and finished commands, in order, the round-robin turn, and the
completion rings. -/
structure CmdSt where
  fetched : List Fetched := []
  running : List Running := []
  finished : List Completion := []
  turn : Nat := 0
  cq : Tab CqSt := []
deriving DecidableEq, Repr

/-- The PCIe endpoint (chapter 14): link, D3hot with what the host had enabled, the MSI-X table entry and PBA, and what it
has sent: vector-0 messages and PMEs; `wake` is WAKE_N asserted. -/
structure PcieSt where
  linkUp : Bool := false
  d3hot : Bool := false
  pmeEn : Bool := false
  inL2 : Bool := false
  msixAddr : BitVec 64 := 0
  msixData : Word := 0
  msixMask : Bool := true
  pba : Bool := false
  vectors : Nat := 0
  pmes : Nat := 0
  wake : Bool := false
deriving DecidableEq, Repr

/-- One event-log entry (Table 15-16). -/
structure LogEntry where
  time : Time
  src : Nat
  seq : Nat
  event : Nat
  cls : Nat
  unit : Nat
  data : List Byte
deriving DecidableEq, Repr

/-- The event log (R349): the newest 2^20 entries, newest first, the next sequence number, how many entries have been
committed to flash (R361), and per block the cell that its error-report channel grants next (R20). -/
structure LogSt where
  entries : List LogEntry := []
  next : Nat := 0
  committed : Nat := 0
  turns : Tab Nat := []
deriving DecidableEq, Repr

/-- An open line of an event queue (R395, R396): its producer, and its words, newest first. -/
structure OpenLine where
  owner : BitVec 12
  words : List Word
deriving DecidableEq, Repr

/-- A closed line (Table 17-4). -/
structure Line where
  words : List Word
  ovr : Bool
  cut : Bool
  tmo : Bool
  eoi : Bool
  bytes : Nat
  lseq : BitVec 16
deriving DecidableEq, Repr

/-- One event queue (R396-R401): the open and closed lines of the filling bank, the closed lines of the draining bank (oldest
first), producers the rest of whose item is being ignored (R399, R400), producers part-way through an item with no
open line (`part`), the OVR and CUT that the next
closed line will carry, and its number. -/
structure EqSt where
  opens : List OpenLine := []
  fill : List Line := []
  drain : List Line := []
  dropping : List (BitVec 12) := []
  part : List (BitVec 12) := []
  ovr : Bool := false
  cut : Bool := false
  lseq : BitVec 16 := 0
deriving DecidableEq, Repr

/-- HBM, scratch and host memory (chapters 14, 17). `hbm` and `scratch` are keyed by BAR2 offset and by aperture offset;
`host` is the memory of the host, which the device reads and writes over PCIe. `badWords` holds the aperture offsets of the
words that hold an uncorrectable error (R386), `badHbm` those of HBM; `rows` the spare rows used per bank and `deadRows` the quarantined rows
(R387); `lap` the banks that have completed a scrub pass; `ceWin` the times of each region's recent corrected errors; `rowCe` those of each
row's within 24 h, and `failRows` the rows declared failing (R425). -/
structure MemSt where
  hbm : Mem := []
  scratch : Mem := []
  host : Mem := []
  badWords : List Nat := []
  badHbm : List Nat := []
  rows : Tab Nat := []
  deadRows : List Nat := []
  lap : List Nat := []
  ceWin : Tab (List Time) := []
  rowCe : Tab (List Time) := []
  failRows : List Nat := []
deriving DecidableEq, Repr

/-- A deck image in a slot (R75): the bytes up to DECK_LEN, their number, and the signature block that followed, if any. -/
structure DeckImage where
  len : Nat
  bytes : Mem
  sig : Option (List Byte)
deriving DecidableEq, Repr

/-- A re-deal that waits (R77, R78): its command, the slot, the named groups, and the named groups whose hold-off has ended
meanwhile, with the sample at which each would have re-armed. -/
structure RedealSt where
  ring : Fin 16
  cid : BitVec 16
  slot : Nat
  groups : BitVec 16
  waiting : List (Nat × Sample)
deriving DecidableEq, Repr

/-- A promotion under way (R69): physical failing engine, the deal boundaries still to pass before the spare serves, whether the
deal period of the declaration still runs, in which the engine's outputs are flagged (R70), and whether the unit has failed again since, which
is charged to the spare once it serves (R27). -/
structure Promotion where
  engine : Nat
  wait : Nat
  flagged : Bool := true
  charge : Bool := false
deriving DecidableEq, Repr

/-- The deck (chapter 3). `slots` holds the deck slots, `active` the active deck and its slot; `cycle` the deal cycle and
`num` each region's deal number (region 4 is SPINE); `blocked` the regions whose scheduled accesses are blocked for the
period (R73); `realigns` the times of each region's recent realignments; `quarRegions` the quarantined quads; `viol` and
`violSec` the violations of each owner (region × 4096 + owner code) in this deal period, and the times of the recent ones (R72); `promos`
the promotions under way, `standing` the physical engines whose slot the block's spare has taken, `quarEngines` the
quarantined ones; `quarUnits` the quarantined units without a spare by owner code; `stage` and `stageNext` the thermal stage in force and the one that
takes effect at the next boundary (R80); `temps` the last reading of each sensor (0 die, 1 + s stack s); `redeal` a re-deal
that waits; `spineReload` a reload of SPINE's slot tables waiting for a boundary (R73); `ctxBad` the steps (4 × engine + instance) that run
from a reset context, flagged until their next natural boundary (R70); `quarBlocks` the quarantined blocks (R24, numbered as in
`BoundaryUpset`); `shed` the groups shed and not re-armed, whose HBM entries are idle (R81); `blockedItems` what blocked accesses belonged
to (R72). -/
structure DeckSt where
  slots : List (Nat × DeckImage) := []
  active : Option (Nat × DeckImage) := none
  cycle : Nat := 0
  num : Tab Nat := []
  blocked : List Nat := []
  realigns : Tab (List Time) := []
  quarRegions : List Nat := []
  viol : Tab Nat := []
  violSec : Tab (List Time) := []
  promos : List Promotion := []
  standing : List Nat := []
  quarEngines : List Nat := []
  quarUnits : List Nat := []
  stage : Nat := 0
  stageNext : Nat := 0
  temps : Tab (BitVec 16) := []
  redeal : Option RedealSt := none
  spineReload : Bool := false
  ctxBad : List Nat := []
  quarBlocks : List Nat := []
  shed : List Nat := []
  blockedItems : List BlockedItem := []
deriving DecidableEq, Repr

/-- One 16-sample block of a logical position as ingest passes it on: void, or 256 payload bits after bit reversal and
inversion (R82, R84, R91). -/
structure Block where
  void : Bool := true
  bits : BitVec 256 := 0
deriving DecidableEq, Repr

/-- Ingest (chapter 4): blocks by position + 64 × (sample index / 16), the index of each position's next block
once a marker has set it (R83, R98; INGEST_POS shows the lane that serves it), the
reference group that fixed E, with the front-end latency read then (R89, R90), and the sample from which blocks count since acceptance
began. -/
structure IngestSt where
  blocks : Tab Block := []
  pos : Tab (Option Sample) := []
  ref : Option Nat := none
  feLat : Nat := 0
  first : Sample := 0
deriving DecidableEq, Repr

/-- A result of a counter or timer from `from` on (R113, R115). -/
structure ResChange where
  from_ : Sample
  res : Bool
  ambig : Bool
deriving DecidableEq, Repr

/-- Counter n (R113): COUNT, whether it has saturated since the last clear, the last sample taken, its results, newest
first, and the samples whose FEED increment came late (R114). -/
structure CounterSt where
  count : BitVec 48 := 0
  sat : Bool := false
  last : Option Sample := none
  results : List ResChange := []
  late : List Sample := []
deriving DecidableEq, Repr

/-- Timer n (R115): START while it runs, the elapsed time at its last stop, the last sample taken, and its results. -/
structure TimerSt where
  start : Option Time := none
  elapsed : Nat := 0
  last : Option Sample := none
  results : List ResChange := []
deriving DecidableEq, Repr

/-- A stamped edge of a timing input or external pin: its time, its polarity, and whether it arrived too late for its
sample (R117, R118, R119). -/
structure Stamp where
  t : Time
  falling : Bool
  late : Bool
deriving DecidableEq, Repr

/-- A slice that failed its parity check (R120): its recognizer, the first sample that it paused, and the first that it did not, once it
has been reloaded. -/
structure SliceFault where
  r : Nat
  from_ : Sample
  until_ : Option Sample := none
deriving DecidableEq, Repr

/-- A level change of GATE_IN: its time, the accepted level, and the sample from which recognizers see it (R119). -/
structure GateChange where
  t : Time
  level : Bool
  from_ : Sample
deriving DecidableEq, Repr

/-- A key looked up (R126-R128): flock recognizer, completing sample, the entry's ACTION (V = 0 on a miss), whether it met an
uncorrectable error, and whether its result sample has come. -/
structure FlockKey where
  fk : Fin 16
  sample : Sample
  action : Word
  bad : Bool
  given : Bool
deriving DecidableEq, Repr

/-- Recognizers (chapter 5): counters, timers, slices that failed parity (R120), accepted levels and edges of the pins, stamps of the
timing inputs by input, lookups, the first sample that is evaluated after DECK_ACTIVATE, and the last one that a row has taken. -/
structure RecogSt where
  counters : Tab CounterSt := []
  timers : Tab TimerSt := []
  slices : List SliceFault := []
  trigIn : List Stamp := []
  trigLevel : Bool := false
  gate : List GateChange := []
  stamps : Tab (List Stamp) := []
  keys : List FlockKey := []
  lastKeyFclk : List (Nat × Nat) := []
  first : Sample := 0
  evalTo : Option Sample := none
deriving DecidableEq, Repr

/-- One flock entry (R124): KEY[95:0] and ACTION, [31] of which is V. -/
structure FlockEntry where
  key : BitVec 96 := 0
  action : Word := 0
deriving DecidableEq, Repr

/-- The flock table (R121): entries by number i × 131072 + b × 8 + w, the stash, their backup in internal HBM (R132), and the
buckets (sub × 16384 + bucket) that hold an uncorrectable error. -/
structure FlockSt where
  main : Tab FlockEntry := []
  stash : Tab FlockEntry := []
  backMain : Tab FlockEntry := []
  backStash : Tab FlockEntry := []
  bad : List Nat := []
deriving DecidableEq, Repr

/-- Table 6-1. -/
inductive HandState where
  | idle
  | run
  | halted
  | fault
deriving DecidableEq, Repr

/-- One hand (R137-R147, R157, R158): state, trick, branch counts, hand counters, START of HT while it runs, flags F0-F3 and
their changes (sample after which they hold, newest first), violation latches with the sample from which each is seen (R144), parity
state (`stopped` until the next deal boundary; time of the last failure), and the next sample it evaluates. -/
structure HandSt where
  st : HandState := .idle
  trick : Nat := 0
  bc : List Nat := [0, 0, 0, 0]
  hc0 : Nat := 0
  hc1 : Nat := 0
  ht : Option Time := none
  flags : BitVec 4 := 0
  flagHist : List (Sample × BitVec 4) := []
  latches : List (Nat × Sample) := []
  stopped : Bool := false
  lastFail : Option Time := none
  next : Sample := 0
deriving DecidableEq, Repr

/-- A branch that fired (R140, R145): what the trigger network needs to resolve it and to write its records. -/
structure Fire where
  hand : Fin 32
  sample : Sample
  trick : Nat
  branch : Nat
  ambig : Bool
  user : Option (Nat × Word)
  groups : BitVec 16
  tout : Bool
  evt : Option Nat
deriving DecidableEq, Repr

/-- A forced trigger that waits for its groups' decisions (R156): its command, its sample, the groups still undecided, those
that accepted, and whether ANYFILL was set. -/
structure Force where
  ring : Fin 16
  cid : BitVec 16
  sample : Sample
  groups : BitVec 16
  accepted : BitVec 16
  anyfill : Bool
deriving DecidableEq, Repr

/-- A trigger that a group accepted and whose record is not yet written (R149, R154). -/
structure Accepted where
  group : Fin 16
  sample : Sample
  forced : Bool
deriving DecidableEq, Repr

/-- The trigger network (chapter 6): branches fired, forces, accepted triggers, groups that a sample's triggers have been
presented to, and TRIG_OUT: the fclk that the pulse in progress still lasts, and the value of TRIG_OUT_CTRL that the last pulse took
(R152). -/
structure TrigSt where
  fires : List Fire := []
  forces : List Force := []
  accepted : List Accepted := []
  presented : List (Nat × Sample) := []
  out : Option Nat := none
  outCtrl : Word := 0xF00
deriving DecidableEq, Repr

/-- Table 7-4. -/
inductive GroupState where
  | idle
  | prefill
  | armed
  | post
  | holdoff
  | stopped
  | stoppedOvf
deriving DecidableEq, Repr

/-- The segment a group has open (R169-R176, R180): its number, epoch, trigger sample with its time word, its POST and the sample at which
its post part ends, and the descriptor flags that it has collected. -/
structure SegSt where
  seg : Nat
  epoch : Sample
  trig : Option Sample := none
  trigTime : BitVec 96 := 0
  post : Nat := 0
  postEnd : Sample := 0
  forced : Bool := false
  preShort : Bool := false
deriving DecidableEq, Repr

/-- One fold group (R167-R176, R182): state, POST in force, closed segments, open segment, what is known of the hold-off
(events ignored since the trigger, its end sample once known), the epoch of the last segment, and segments closed whose
descriptor is not yet written: last sample and closing flags. -/
structure GroupSt where
  st : GroupState := .idle
  post : Nat := 0
  closed : Nat := 0
  seg : Option SegSt := none
  ignored : Nat := 0
  holdEnd : Option Sample := none
  epoch : Sample := 0
  lastSeg : Option SegSt := none
  closing : Option (Sample × Nat) := none
deriving DecidableEq, Repr

/-- One stored unit of a fold (R171, R178, R179): instance or substream, unit number (capture page j, record page, window or
compressed page m), data-area offset, length, index-entry number of a compressed page, first and last sample, brand, and
FLAGGED, VOID, BLOCKED, and whether the segment's end cut it short. -/
structure UnitRec where
  inst : Nat
  num : Nat
  ofs : Nat
  len : Nat
  ix : Nat := 0
  first : Sample
  last : Sample
  brand : Word := 0
  flagged : Bool
  void : Bool
  blocked : Bool
  cut : Bool
deriving DecidableEq, Repr

/-- Compressed output of substream `sub`: `bytes` from fclk `from_` to fclk `until_` of the capture (R203). -/
structure OutSpan where
  sub : Nat
  from_ : Nat
  until_ : Nat
  bytes : Nat
deriving DecidableEq, Repr

/-- What a fold holds of one segment (R171, R463): its epoch, retained units, oldest first, the next data-area offset and the next
index entry of each substream; the records of its unfinished record page, newest first, with the page's number, first sample,
last sample and marks; and how far its records have been formed: the index of the latest EPOCH record, the next sample
(TRANSITIONS, STATE), the next window of each list position (DENSITY, ENVELOPE) and the list positions last written as
flagged; and its write buffer (R203): the compressed output of the segment, or, in a record fold, the bytes that the buffer held in fclk
`fillAt`, times the deal period; and the range that a compressed fold without room dropped last before its trigger (R171). -/
structure FoldSt where
  seg : Nat := 0
  epoch : Sample := 0
  units : List UnitRec := []
  wr : Tab Nat := []
  ix : Tab Nat := []
  recs : List (List Byte) := []
  page : Nat := 0
  recFirst : Sample := 0
  recLast : Sample := 0
  recVoid : Bool := false
  recFlag : Bool := false
  base : Sample := 0
  next : Sample := 0
  nextWin : Tab Nat := []
  flagged : List Nat := []
  spans : List OutSpan := []
  fill : Nat := 0
  fillAt : Nat := 0
  skip : Option Nat := none
deriving DecidableEq, Repr

/-- Fold storage (chapter 7): groups, the segment in progress of each fold, and the closed segments' units by fold × 65536 +
segment. -/
structure FoldsSt where
  groups : Tab GroupSt := []
  folds : Tab FoldSt := []
  closedUnits : List (Nat × FoldSt) := []
deriving DecidableEq, Repr

/-- A COMPRESS or DECOMPRESS stream between jobs or in one (R212): its parameters, the bytes of output already coded and not yet
delivered, unconsumed input, history and totals. `inSegs` and `outSegs` are the buffers still to be used: (in device HBM,
address, length). For DECOMPRESS `coded` holds all compressed input consumed so far and `done` the bytes delivered. `bits` are coded
bits that do not yet complete a byte, `hist` the history, newest first, and `flushed` the FLUSH whose bytes a suspended job has coded
already. -/
structure StreamSt where
  comp : Bool
  raw : Bool
  mode : Nat := 0
  search : Nat := 0
  inSegs : List (Bool × Nat × Nat) := []
  outSegs : List (Bool × Nat × Nat) := []
  held : List Byte := []
  pendingIn : List Byte := []
  coded : List Byte := []
  done : Nat := 0
  adlerA : Nat := 1
  adlerB : Nat := 0
  started : Bool := false
  ended : Bool := false
  bits : List Bool := []
  hist : List Byte := []
  flushed : Nat := 0
deriving DecidableEq, Repr

/-- One resume-context slot (R212): its generation, and the stream it keeps, if any. -/
structure CtxSlot where
  gen : BitVec 32 := 0
  stream : Option StreamSt := none
  busy : Option (BitVec 16) := none
deriving DecidableEq, Repr

/-- A COMPRESS or DECOMPRESS job waiting for a free engine (R193): its command, its stream, the slot its token named, FLUSH,
MORE_INPUT, ADLER_CHECK and OUT_LIMIT. -/
structure EngineJob where
  ring : Fin 16
  cid : BitVec 16
  stream : StreamSt
  slot : Option Nat
  flush : Nat
  more : Bool
  adler : Bool
  limit : Nat
deriving DecidableEq, Repr

/-- A readout verification waiting for a free decompression engine, or done (R205): fold, substream, segment, page-index entry,
and whether every capture page agreed with its brand. -/
structure Verified where
  fold : Nat
  sub : Nat
  seg : Nat
  entry : Nat
  good : Bool
deriving DecidableEq, Repr

/-- The open compressed page of a substream (R198-R203): its range m, the capture pages it holds so far, its coded bits, whether a block was
stored, FLAGGED and VOID, the history, newest first, and the cut points, newest first: capture pages before each, bit offset, end-of-block
code. -/
structure CompPage where
  m : Nat
  pages : Nat := 0
  out : List Bool := []
  stored : Bool := false
  flagged : Bool := false
  void : Bool := false
  hist : List Byte := []
  cuts : List (Nat × Nat × List Bool) := []
deriving DecidableEq, Repr

/-- Compression and decompression (chapter 8): open pages by engine, the times of recent self-check failures, quarantined
engines (kept over every reset in the wear log, R216), decompression engines' uncorrectable errors and quarantine (R217),
contexts, job queues, readout verifications done, and the engines that a job or a verification keeps busy, compression engine e or
decompression engine 64 + d, with the fclk still to pass and what USE shows (Tables 8-8, 8-10). -/
structure CompSt where
  pages : List (Nat × CompPage) := []
  fails : Tab (List Time) := []
  quar : List Nat := []
  dFails : Tab (List Time) := []
  dQuar : List Nat := []
  ctx : Tab CtxSlot := []
  jobs : List EngineJob := []
  verified : List Verified := []
  busy : List (Nat × Nat × Nat) := []
deriving DecidableEq, Repr

/-- Table 9-6, PGEN_STATE.STATE. -/
inductive PgenState where
  | idle
  | prefill
  | waitStart
  | run
deriving DecidableEq, Repr

/-- A PATTERN_STOP that waits for playback to end (R226). -/
structure StopWait where
  ring : Fin 16
  cid : BitVec 16
deriving DecidableEq, Repr

/-- A loaded pattern segment (R219): LEN_BLOCKS, the pattern-memory offset of its stream table, and its streams: engine, offset,
length. -/
structure Pseg where
  blocks : Nat
  table : Nat
  streams : List (Nat × Nat × Nat)
deriving DecidableEq, Repr

/-- Pattern playback (R223-R227): the loaded segments, state, the entry and pass count in progress, the next pass once decided, STOP_MODE, the
stop that will apply at the end of the pass, what PATTERN_PLAY named, its command until P0, the entry of the last pass played, the commands waiting
for the end, the fclk that pass before P0 can come or before the first block, the block of the pass that the next slot plays, the segment and number of the last block played, the blocks on
their way to the lanes by position, with the fclk until each has left its lane (R225), and the words that positions hold after a stop
(R226). -/
structure PgenSt where
  psegs : List (Nat × Pseg) := []
  st : PgenState := .idle
  entry : Nat := 0
  pass : Nat := 0
  next : Option (Nat × Nat) := none
  decided : Bool := false
  hold : Bool := false
  stopping : Bool := false
  startFlag : Option (Nat × Nat) := none
  checkers : BitVec 32 := 0
  cmd : Option (Fin 16 × BitVec 16) := none
  lastEntry : Nat := 0
  stops : List StopWait := []
  wait : Nat := 0
  block : Nat := 0
  lastBlock : Option (Nat × Nat) := none
  pipe : List (Nat × List (Nat × BitVec 256)) := []
  held : List (Nat × BitVec 16) := []
deriving DecidableEq, Repr

/-- Table 9-7, MCHK_STATE.STATE. -/
inductive CheckState where
  | off
  | waitSync
  | check
  | done
  | stopped
deriving DecidableEq, Repr

/-- Checker n (R230-R233): state, first sample of WAIT_SYNC, s_0, expected samples consumed, and the window that holds a
violation: number, violating samples, first violating sample, channels failing there, lowest of them. -/
structure CheckerSt where
  st : CheckState := .off
  from_ : Sample := 0
  s0 : Sample := 0
  window : Option (Nat × Nat × Sample × Nat × Nat) := none
  firstSeen : Bool := false
deriving DecidableEq, Repr

/-- Table 10-12, MEAS_STATE.STATE. -/
inductive MeasState where
  | idle
  | waitGate
  | waitStart
  | stops
  | collect
deriving DecidableEq, Repr

/-- One STATS accumulator (Table 10-5). -/
structure StatAcc where
  count : Nat := 0
  under : Nat := 0
  ambig : Nat := 0
  min : Nat := 0
  max : Nat := 0
  sum : Nat := 0
  sumsq : Nat := 0
deriving DecidableEq, Repr

/-- What a measurement unit waits to handle (R246, R247): a stamp (its time, its input, whether it is a falling one), an open or a
close of the unit's gate, or a crossing of the measured input that was lost to dead time (R256). -/
inductive MeasEvent where
  | gate (t : Time) (opens : Bool)
  | stamp (t : Time) (n : Nat) (falling : Bool)
  | dead (t : Time)
deriving DecidableEq, Repr

/-- A running measurement (R247-R256): its command, its parameters, when it was accepted, its gate (open and close times of the
interval in progress), start and stop progress, STATS accumulators, kept stamps with the count of all stamps in the gate, dead-time
losses in the gate, the destination and the bytes written there, the stamps of the latest instant that no start has taken (R249),
events that wait until all that came before them have arrived, in the order in which they are handled, with the next sample whose
result a RECOG gate looks at, the offset of the last START record,
and the last stamp of the chosen polarity. -/
structure MeasRun where
  ring : Fin 16
  cid : BitVec 16
  interval : Option IntervalParams
  freq : Option FreqParams
  at_ : Time
  gateOpen : Option Time := none
  gateClose : Option Time := none
  ts : Time := 0
  startNo : Nat := 0
  stopNo : Nat := 0
  stats : Tab StatAcc := []
  kept : List Time := []
  edges : Nat := 0
  openAmbig : Bool := false
  closeAmbig : Bool := false
  dead : Nat := 0
  outAddr : List (Bool × Nat × Nat) := []
  written : Nat := 0
  lately : List (Time × Nat × Bool) := []
  waiting : List MeasEvent := []
  gateNext : Sample := 0
  startOfs : Option Nat := none
  prev : Option Time := none
deriving DecidableEq, Repr

/-- Measurement unit (chapter 10). -/
structure MeasSt where
  st : MeasState := .idle
  run : Option MeasRun := none
deriving DecidableEq, Repr

/-- A TIN_CONFIG in progress (R240): its command and settings, until they are written in OFF; then none, and STATE ON ends it. -/
structure TinCmd where
  ring : Fin 16
  cid : BitVec 16
  p : Option TinParams
deriving DecidableEq, Repr

/-- Timing input n (R240-R245): the TIN_CONFIG in progress, the last stamp's time while its dead time may run, the time of the
last failed calibration, and whether only a device reset clears FAULT. -/
structure TinSt where
  cmd : Option TinCmd := none
  lastStamp : Option Time := none
  lastFail : Option Time := none
  stuck : Bool := false
deriving DecidableEq, Repr

/-- Timing inputs and measurement units (chapter 10): inputs, units, and the accepted level of GATE_IN for measurement gates. -/
structure TinsSt where
  ins : Tab TinSt := []
  meas : Tab MeasSt := []
  gateLevel : Bool := false
deriving DecidableEq, Repr

/-- A DAC_SET or DDS_SET in progress on a channel (R263, R265, R266): what it will write once the channel is OFF, and the
command that waits. -/
structure DacCmd where
  ring : Fin 16
  cid : BitVec 16
  span : Option (BitVec 2)
  code : Option (BitVec 16)
  dds : Option DdsParams
  t0 : Time := 0
  reset : Bool := false
deriving DecidableEq, Repr

/-- DAC channel ch (chapter 11): a staged code not yet output, the command in progress, T0, and the DDS: phase accumulator and the tuning word in force; DDS_FTW_LO
held until DDS_FTW_HI is written. -/
structure DacSt where
  staged : Bool := false
  busy : Option DacCmd := none
  t0 : Option Time := none
  acc : BitVec 48 := 0
  ftw : BitVec 48 := 0
  heldLo : Option Word := none
  since : Nat := 0
deriving DecidableEq, Repr

/-- Table 13-1. -/
inductive TrainState where
  | off
  | detect
  | clockLock
  | levelTrain
  | blockLock
  | deskew
  | spareMap
  | active
  | parked
  | eidle
  | dataOff
deriving DecidableEq, Repr

/-- Table 13-3. -/
inductive LaneState where
  | down
  | active
  | relock
  | relevel
  | waitMarker
  | excluded
  | test
deriving DecidableEq, Repr

/-- A sideband request awaiting its answer (R287): TYPE, SEQ, payload, and how often it has been sent. -/
structure SbReq where
  type : Byte
  seq : Byte
  payload : List Byte
  sends : Nat := 1
deriving DecidableEq, Repr

/-- A spare negotiation (R304): position, switching index, the step (0 asked, 1 agreed and waiting for the switching marker), and
failures so far. -/
structure SpareNeg where
  pos : Fin 16
  index : Sample
  step : Nat
  fails : Nat
deriving DecidableEq, Repr

/-- One group lane (R282-R288, R298, R302): lane state, attempts of the current step, whether the next RELOCK is the single one after
RELEVEL, equaliser adapted, block lock, symbol offset, consecutive good blocks, DATA taken since the marker, CRC failures since
the marker, slots since the last failed CRC (up to 8), descrambler register, last symbol received (precoding), checker
locked, loopback kind, whether the pattern checker or generator runs (MRX_LANE_TEST holds the settings), and the slot number within the
marker interval, the index of the last marker since the lane was last locked, and the index that followed at the last failed CRC. `passed` is
that the lane has passed the training state, or, in RELEVEL, that the partner has accepted; `mark` is the index and the arrival of the
lane's last marker in DESKEW (R88). -/
structure LaneSt where
  st : LaneState := .down
  attempts : Nat := 0
  single : Bool := false
  level : Bool := false
  lock : Bool := false
  slip : Nat := 0
  good : Nat := 0
  dataCnt : Nat := 0
  crcFails : Nat := 0
  sinceFail : Nat := 9
  lastY : BitVec 2 := 0
  prbsLock : Bool := false
  loop : Nat := 0
  slot : Nat := 0
  passed : Bool := false
  markerNo : Option Sample := none
  scr : BitVec 31 := 0
  failAt : Sample := 0
  mark : Option (Sample × Time) := none
deriving DecidableEq, Repr

/-- A command that waits on a group (R299, R308): kind 0 LINK_TRAIN, 1 + ACTION LINK_SLEEP, 6 PRBS with PEER. -/
structure LinkCmd where
  ring : Fin 16
  cid : BitVec 16
  kind : Nat
deriving DecidableEq, Repr

/-- One Myras group (chapters 12, 13): training state, lanes by group lane, failed attempts of each state of the run by code, the mask of
the attempt in progress and the step it has reached (1 asked, 2 judging, 3 done frame sent, 4 failed frame sent for lanes, 5 for the
alignment window, 6 ACTIVE exchange asked, 7 SPARE asked), excluded lanes, the open request and those queued behind it, SEQ of the next
request, the partner that began the run, whether a HELLO has come and its CAPS, precoding agreed, spare mapping and negotiation, positions
waiting for the spare in the order they were declared, sideband sleep of the device's direction and of the partner's, whether the
sideband is lost, whether PARKED has been set since the group was last ACTIVE, commands waiting, EIDLE entry under way (1 agreed, 2 the CTRL block is on the lanes), whether the
run is a wake that keeps settings, when the clock was lost (R305) and when a HELLO last began a re-probe (R300), the sender's rate mode,
the stimulus INDEX (R280), how many fclk ago a transmit group sent the first marker of its slot count (R294) and whether DATA has followed
a marker slot since it was last in ACTIVE (R294, R309), and sideband frames sent (newest first). -/
structure GroupLink where
  st : TrainState := .off
  lanes : Tab LaneSt := []
  attempts : Tab Nat := []
  mask : BitVec 17 := 0
  step : Nat := 0
  excl : BitVec 17 := 0
  req : Option SbReq := none
  queue : List SbReq := []
  seq : Byte := 0
  runPeer : Option Word := none
  hello : Bool := false
  caps : Byte := 0
  precode : Bool := false
  mapped : Option (Fin 16) := none
  neg : Option SpareNeg := none
  wantSpare : List (Fin 16) := []
  asleep : Bool := false
  peerAsleep : Bool := false
  sbLost : Bool := false
  parkedSeen : Bool := false
  cmds : List LinkCmd := []
  sleeping : Nat := 0
  wakeKeep : Bool := false
  clockLost : Option Time := none
  lastProbe : Option Time := none
  mode : BitVec 2 := 0
  txIndex : Option Sample := none
  txClock : Nat := 0
  txData : Bool := false
  sent : List SbReq := []
deriving DecidableEq, Repr

/-- What a drover's job does: a read-out (Table 15-9), or the host side of another command, which has its effect then (R332). -/
inductive ReadJob where
  | fold (p : ReadFoldParams)
  | range (p : ReadRangeParams)
  | index (p : ReadIndexParams)
  | cmd (i : Instr)
deriving DecidableEq, Repr

/-- A read-out that waits for a drover, or that a drover holds (R332): its command, CHECK, what it delivers, the number of its segment, and
the units that the segment retained when its drover started (R336). -/
structure DroverJob where
  ring : Fin 16
  cid : BitVec 16
  check : Bool
  job : ReadJob
  seg : Nat
  units : List UnitRec := []
deriving DecidableEq, Repr

/-- The drovers (R332): jobs that wait, oldest first, and the job of each drover. -/
structure DrovSt where
  waiting : List DroverJob := []
  jobs : List (Nat × DroverJob) := []
deriving DecidableEq, Repr

/-- Supplies, clocks and sleep (chapter 18). `waking` holds the commands that wait for the regions (R419); `held` the stacks
that MEM_POWER keeps in self-refresh (R418); `outOfRange` that some rail has left its operating range since POR_N
rose (R444); `slept` the banks, by region × 64 + bank, that sleep put into RETAIN (R416); `warnIo` and `warnAon` the
two warnings (R410); `holdover` the start of holdover (R414); `classF` that class F is in force (R25); `por` that
POR_N is low (R420). `changing` are the scratch banks and stacks on their way to a state (R393): region × 64 +
bank, or 512 + stack, with the state and the number of the command that asked; `bankGiven` the state that MEM_POWER last gave each bank,
by region × 64 + bank (R394). -/
structure PwrSt where
  waking : List Instr := []
  held : List Nat := []
  slept : List Nat := []
  outOfRange : Bool := false
  warnIo : Bool := false
  warnAon : Bool := false
  holdover : Option Time := none
  classF : Bool := false
  por : Bool := false
  changing : List (Nat × Nat × Option (Fin 16 × BitVec 16)) := []
  bankGiven : Tab Nat := []
deriving DecidableEq, Repr

/-- State of one Shepherd core (SHEP_CORES). -/
inductive CoreState where
  | paired
  | warm
  | staged
  | selfTest
  | single
  | quarantined
deriving DecidableEq, Repr

/-- One engine block's patrol (R426, R427): the slot shadowed, whether a mismatch is being confirmed, the physical engines with
unconfirmed mismatches in the last 24 h, and whether the spare has failed. -/
structure PatrolSt where
  slot : Option Nat := none
  confirming : Bool := false
  unconf : List (Nat × Time) := []
  failed : Bool := false
deriving DecidableEq, Repr

/-- One wear entry (R435). -/
structure WearEntry where
  seq : Nat
  time : Time
  kind : Nat
  unit : Nat
  value : Nat
deriving DecidableEq, Repr

/-- The contents of one copy of the wear log (R435): the repair map (cores, slots taken over, engines quarantined, spares failed, pages
remapped and quarantined, spare rows used and rows quarantined, compression and decompression engines quarantined), and the entries with
the next number. -/
structure WearImage where
  cores : CoreState × CoreState × CoreState := (.paired, .paired, .warm)
  standing : List Nat := []
  quarEngines : List Nat := []
  failed : List Nat := []
  remaps : List Nat := []
  pageQuar : List Nat := []
  rows : Tab Nat := []
  deadRows : List Nat := []
  quar : List Nat := []
  dQuar : List Nat := []
  wear : List WearEntry := []
  wearNext : Nat := 0
deriving DecidableEq, Repr

/-- The Shepherd (chapter 19): core states; whether the device came up in recovery (R421), the version of the running image; the image staged by
FW_STAGE; a handover in progress with its command (R431) and whether the serving cores wait for the spare; a takeover in
progress: the cores in self-test; whether every core is lost; patrol by engine block 4q + b; pages remapped and quarantined by
stack × 2^24 + page; the times of recent LOCK_LOST events of
each position's lane; the wear log, newest first, its next number, the generations of its two copies, whether a commit waits (R435), and whether
the last commit failed once; `checkpoint` the number of commands in flight that the last checkpoint holds, and `record` the STATE codes of
the fold groups and the hands in it (R346, R429); `imageA` and `imageB` what the two copies hold, `snapAt` the time of the last daily ageing
snapshot (R435); `engCe` the times of each span engine's recent corrected errors (R425); `precursors` the precursor events of the last 90
days by UNIT, `laneProm` the time of each Myras group's last promotion, and `forecast` the units whose forecast lies within the horizon (R434). -/
structure ShepSt where
  cores : CoreState × CoreState × CoreState := (.paired, .paired, .warm)
  recovery : Bool := false
  image : Word := 1
  stagedImage : Option Word := none
  handover : Option (Fin 16 × BitVec 16) := none
  lost : Bool := false
  patrol : Tab PatrolSt := []
  remaps : List Nat := []
  pageQuar : List Nat := []
  laneLost : Tab (List Time) := []
  wear : List WearEntry := []
  wearNext : Nat := 0
  genA : Nat := 1
  genB : Nat := 0
  goodA : Bool := true
  goodB : Bool := true
  retry : Bool := false
  commitDue : Bool := false
  checkpoint : Nat := 0
  record : List Nat := []
  imageA : WearImage := {}
  imageB : WearImage := {}
  snapAt : Time := 0
  engCe : Tab (List Time) := []
  precursors : List (Nat × Time) := []
  laneProm : Tab Time := []
  forecast : List Nat := []
deriving DecidableEq, Repr

/-- Security and life cycle (chapter 20) and the non-volatile memories: the fused life-cycle state, policy and tamper count, the
fused serial number and key hash, latched tamper bits, whether a wipe completed since the last CLEAR, sources still active, licences
valid, the sealed items by slot and kind with the fuse values they were sealed under, the calibration,
deck-store and firmware areas of the SPI flash (R361), the version of the flash image, and whether unsealing waits for a tamper source (R444). -/
structure SecSt where
  life : Nat := 0
  policy : Byte := 0
  count : Nat := 0
  serial : BitVec 128 := 0
  vendorHash : BitVec 384 := 0
  latched : BitVec 5 := 0
  wiped : Bool := false
  active : BitVec 5 := 0
  licences : BitVec 32 := 0
  sealedItems : List (Nat × Nat × List Byte × Nat × Nat) := []
  nvCal : Mem := []
  nvDeck : Mem := []
  nvFirm : Mem := []
  flashImage : Word := 1
  unsealing : Bool := false
deriving DecidableEq, Repr

/-- The whole machine. `pending` is the queue of commands that wait; `regs` the stored BAR0 registers by offset, an unlisted one
being at its reset value; `host` and `shepM` the two register masters; `reply` and `free` the model's own fields (the answer
to the last read; the number of free values taken); `eq`, `hands`, `checkers`, `dac` and `link` are keyed by queue, hand,
checker, channel and Myras group (0-3 receive, 4-5 transmit). -/
structure State where
  pending : List Instr := []
  regs : Tab Word := []
  host : MasterSt := {}
  shepM : MasterSt := {}
  reply : Reply := .none
  free : Nat := 0
  tb : TimeSt := {}
  cmd : CmdSt := {}
  pcie : PcieSt := {}
  drov : DrovSt := {}
  log : LogSt := {}
  mem : MemSt := {}
  eq : Tab EqSt := []
  deck : DeckSt := {}
  ingest : IngestSt := {}
  recog : RecogSt := {}
  flock : FlockSt := {}
  hands : Tab HandSt := []
  trig : TrigSt := {}
  folds : FoldsSt := {}
  comp : CompSt := {}
  pgen : PgenSt := {}
  checkers : Tab CheckerSt := []
  tins : TinsSt := {}
  dac : Tab DacSt := []
  link : Tab GroupLink := []
  pwr : PwrSt := {}
  shep : ShepSt := {}
  sec : SecSt := {}
deriving DecidableEq, Repr

/-- The machine right after reset. -/
def State.reset : State := {}

/-! Updates of one field. -/

namespace State

def setPending (s : State) (x : List Instr) : State := { s with pending := x }
def setRegs (s : State) (x : Tab Word) : State := { s with regs := x }
def setHost (s : State) (x : MasterSt) : State := { s with host := x }
def setShepM (s : State) (x : MasterSt) : State := { s with shepM := x }
def setReply (s : State) (x : Reply) : State := { s with reply := x }
def setFree (s : State) (x : Nat) : State := { s with free := x }
def setTb (s : State) (x : TimeSt) : State := { s with tb := x }
def setCmd (s : State) (x : CmdSt) : State := { s with cmd := x }
def setPcie (s : State) (x : PcieSt) : State := { s with pcie := x }
def setDrov (s : State) (x : DrovSt) : State := { s with drov := x }
def setLog (s : State) (x : LogSt) : State := { s with log := x }
def setMem (s : State) (x : MemSt) : State := { s with mem := x }
def setEq (s : State) (x : Tab EqSt) : State := { s with eq := x }
def setDeck (s : State) (x : DeckSt) : State := { s with deck := x }
def setIngest (s : State) (x : IngestSt) : State := { s with ingest := x }
def setRecog (s : State) (x : RecogSt) : State := { s with recog := x }
def setFlock (s : State) (x : FlockSt) : State := { s with flock := x }
def setHands (s : State) (x : Tab HandSt) : State := { s with hands := x }
def setTrig (s : State) (x : TrigSt) : State := { s with trig := x }
def setFolds (s : State) (x : FoldsSt) : State := { s with folds := x }
def setComp (s : State) (x : CompSt) : State := { s with comp := x }
def setPgen (s : State) (x : PgenSt) : State := { s with pgen := x }
def setCheckers (s : State) (x : Tab CheckerSt) : State := { s with checkers := x }
def setTins (s : State) (x : TinsSt) : State := { s with tins := x }
def setDac (s : State) (x : Tab DacSt) : State := { s with dac := x }
def setLink (s : State) (x : Tab GroupLink) : State := { s with link := x }
def setPwr (s : State) (x : PwrSt) : State := { s with pwr := x }
def setShep (s : State) (x : ShepSt) : State := { s with shep := x }
def setSec (s : State) (x : SecSt) : State := { s with sec := x }
def modRegs (s : State) (f : Tab Word → Tab Word) : State := s.setRegs (f s.regs)
def modHost (s : State) (f : MasterSt → MasterSt) : State := s.setHost (f s.host)
def modShepM (s : State) (f : MasterSt → MasterSt) : State := s.setShepM (f s.shepM)
def modTb (s : State) (f : TimeSt → TimeSt) : State := s.setTb (f s.tb)
def modCmd (s : State) (f : CmdSt → CmdSt) : State := s.setCmd (f s.cmd)
def modPcie (s : State) (f : PcieSt → PcieSt) : State := s.setPcie (f s.pcie)
def modDrov (s : State) (f : DrovSt → DrovSt) : State := s.setDrov (f s.drov)
def modLog (s : State) (f : LogSt → LogSt) : State := s.setLog (f s.log)
def modMem (s : State) (f : MemSt → MemSt) : State := s.setMem (f s.mem)
def modEq (s : State) (f : Tab EqSt → Tab EqSt) : State := s.setEq (f s.eq)
def modDeck (s : State) (f : DeckSt → DeckSt) : State := s.setDeck (f s.deck)
def modIngest (s : State) (f : IngestSt → IngestSt) : State := s.setIngest (f s.ingest)
def modRecog (s : State) (f : RecogSt → RecogSt) : State := s.setRecog (f s.recog)
def modFlock (s : State) (f : FlockSt → FlockSt) : State := s.setFlock (f s.flock)
def modHands (s : State) (f : Tab HandSt → Tab HandSt) : State := s.setHands (f s.hands)
def modTrig (s : State) (f : TrigSt → TrigSt) : State := s.setTrig (f s.trig)
def modFolds (s : State) (f : FoldsSt → FoldsSt) : State := s.setFolds (f s.folds)
def modComp (s : State) (f : CompSt → CompSt) : State := s.setComp (f s.comp)
def modPgen (s : State) (f : PgenSt → PgenSt) : State := s.setPgen (f s.pgen)
def modCheckers (s : State) (f : Tab CheckerSt → Tab CheckerSt) : State := s.setCheckers (f s.checkers)
def modTins (s : State) (f : TinsSt → TinsSt) : State := s.setTins (f s.tins)
def modDac (s : State) (f : Tab DacSt → Tab DacSt) : State := s.setDac (f s.dac)
def modLink (s : State) (f : Tab GroupLink → Tab GroupLink) : State := s.setLink (f s.link)
def modPwr (s : State) (f : PwrSt → PwrSt) : State := s.setPwr (f s.pwr)
def modShep (s : State) (f : ShepSt → ShepSt) : State := s.setShep (f s.shep)
def modSec (s : State) (f : SecSt → SecSt) : State := s.setSec (f s.sec)

end State

end Sys2Proof.Machine
end

