-- ==== Sys2Proof/Machine/Ops.lean ====
section
/-!
DEFINITION. The operations every unit shares: sparse tables, bit fields and byte strings, byte memories, the stored registers,
time words, the event log and free values.
-/

namespace Sys2Proof.Machine

/-! Sparse tables -/

/-- What stands at key `k`, `d` where it is not listed. -/
def tabGet {α : Type} (d : α) : List (Nat × α) → Nat → α
  | [], _ => d
  | (j, v) :: t, k => if j = k then v else tabGet d t k

/-- The table without key `k`. -/
def tabDel {α : Type} : List (Nat × α) → Nat → List (Nat × α)
  | [], _ => []
  | (j, w) :: t, k => if j = k then tabDel t k else (j, w) :: tabDel t k

/-- The table with `v` at key `k`, before the first larger key. -/
def tabIns {α : Type} : List (Nat × α) → Nat → α → List (Nat × α)
  | [], k, v => [(k, v)]
  | (j, w) :: t, k, v => if k < j then (k, v) :: (j, w) :: t else (j, w) :: tabIns t k v

/-- The table with `v` at key `k`; a value equal to the default is not listed. -/
def tabPut {α : Type} [DecidableEq α] (d : α) (t : List (Nat × α)) (k : Nat) (v : α) : List (Nat × α) :=
  if v = d then tabDel t k else tabIns (tabDel t k) k v

/-- The table with `f` applied at key `k`. -/
def tabMod {α : Type} [DecidableEq α] (d : α) (t : List (Nat × α)) (k : Nat) (f : α → α) : List (Nat × α) :=
  tabPut d t k (f (tabGet d t k))

/-- The canonical form: keys strictly rise, and no listed value equals the default. -/
def tabWf {α : Type} [DecidableEq α] (d : α) : List (Nat × α) → Bool
  | [] => true
  | (j, v) :: t => decide (v ≠ d) && t.all (fun e => decide (j < e.1)) && tabWf d t

/-! Sorting -/

/-- An item joins a list in ascending order of a key. -/
def insertBy {α : Type} (key : α → Nat) (x : α) : List α → List α
  | [] => [x]
  | y :: t => if key x ≤ key y then x :: y :: t else y :: insertBy key x t

/-- A list in ascending order of a key. -/
def sortBy {α : Type} (key : α → Nat) (l : List α) : List α := l.foldr (insertBy key) []

/-! Bits and bytes -/

/-- The field [hi:lo] of a number (R5). -/
def nbits (x hi lo : Nat) : Nat := x / 2 ^ lo % 2 ^ (hi + 1 - lo)

/-- Bit `i` of a number. -/
def nbit (x i : Nat) : Bool := x / 2 ^ i % 2 == 1

/-- The field [hi:lo] of a register (R5). -/
def fieldOf (w : Word) (hi lo : Nat) : Nat := nbits w.toNat hi lo

/-- The register with `v` in its field [hi:lo]. -/
def withField (w : Word) (hi lo v : Nat) : Word :=
  (w &&& ~~~(BitVec.ofNat 32 ((2 ^ (hi + 1 - lo) - 1) * 2 ^ lo))) |||
    BitVec.ofNat 32 (v % 2 ^ (hi + 1 - lo) * 2 ^ lo)

/-- A number of width `w` bits read as two's complement. -/
def signed (w x : Nat) : Int := if x % 2 ^ w < 2 ^ (w - 1) then (x % 2 ^ w : Nat) else (x % 2 ^ w : Nat) - (2 ^ w : Nat)

/-- `n` bytes of a number, least significant first (R5). -/
def leBytes : Nat → Nat → List Byte
  | 0, _ => []
  | n + 1, x => BitVec.ofNat 8 x :: leBytes n (x / 256)

/-- The number that bytes spell, least significant first (R5). -/
def leNat : List Byte → Nat
  | [] => 0
  | b :: t => b.toNat + 256 * leNat t

/-- The bytes from position `ofs`, `n` of them, as a number. -/
def leAt (bs : List Byte) (ofs n : Nat) : Nat := leNat ((bs.drop ofs).take n)

/-- The mask of a set of bit numbers. -/
def bitMask : List Nat → Nat
  | [] => 0
  | i :: t => (2 ^ i) ||| bitMask t

/-- The bits of `x` that are set below bit `n`, ascending. -/
def bitsOf (n x : Nat) : List Nat := (List.range n).filter (nbit x)

/-! Byte memories (unlisted bytes read 0, notes/assumptions/6.md) -/

/-- The byte at address `a`. -/
def memByte (m : Mem) (a : Nat) : Byte := tabGet 0 m a

/-- The memory with byte `b` at address `a`. -/
def memPut (m : Mem) (a : Nat) (b : Byte) : Mem := tabPut 0 m a b

/-- `n` bytes from address `a`. -/
def memRead (m : Mem) (a : Nat) : Nat → List Byte
  | 0 => []
  | n + 1 => memByte m a :: memRead m (a + 1) n

/-- The memory with `bs` written from address `a`. -/
def memWrite (m : Mem) (a : Nat) : List Byte → Mem
  | [] => m
  | b :: t => memWrite (memPut m a b) (a + 1) t

/-- The little-endian number in `n` bytes from address `a`. -/
def memNat (m : Mem) (a n : Nat) : Nat := leNat (memRead m a n)

/-- The canonical form of a byte memory. -/
def memWf (m : Mem) : Bool := tabWf (0 : Byte) m

/-- The memory without the bytes of addresses `lo` to `hi - 1`. -/
def memErase (m : Mem) (lo hi : Nat) : Mem := m.filter (fun c => !(decide (lo ≤ c.1) && decide (c.1 < hi)))

/-! Registers -/

/-- Whether `r` has a register at BAR0 offset `o`. -/
def regAt (o : Nat) (r : RegD) : Bool :=
  match r.dims with
  | [] => o == r.base
  | [(st, n)] => decide (r.base ≤ o) && (o - r.base) % st == 0 && decide ((o - r.base) / st < n)
  | (st, n) :: (st2, n2) :: _ =>
    decide (r.base ≤ o) && decide ((o - r.base) / st < n) && (o - r.base) % st % st2 == 0 &&
      decide ((o - r.base) % st / st2 < n2)

/-- The register at BAR0 offset `o`. -/
def findReg (o : Nat) : Option RegD := (blockRegs o).find? (regAt o)

/-- The reset value of the register at offset `o`; a position is served by its own lane (R83, R103). -/
def resetWord (o : Nat) : Word :=
  match findReg o with
  | none => 0
  | some r =>
    let w := r.fields.foldl (fun a f => a + f.rst * 2 ^ f.lo) 0
    if r.base = 0x20200C0 then
      BitVec.ofNat 32 (w + 16 * ((o - 0x2000000) / 0x400000) + (o % 0x400000 - 0x200C0) / 4)
    else BitVec.ofNat 32 w

/-- The stored register at offset `o`, or its reset value. -/
def rdR (r : Tab Word) (o : Nat) : Word := tabGet (resetWord o) r o

/-- The registers with `v` at offset `o`. -/
def wrR (r : Tab Word) (o : Nat) (v : Word) : Tab Word := tabPut (resetWord o) r o v

/-- The stored register at offset `o`. -/
def rd (s : State) (o : Nat) : Word := rdR s.regs o

/-- The state with `v` in the register at offset `o`. -/
def wr (s : State) (o : Nat) (v : Word) : State := s.setRegs (wrR s.regs o v)

/-- Field [hi:lo] of the register at `o`. -/
def rdF (s : State) (o hi lo : Nat) : Nat := fieldOf (rd s o) hi lo

/-- The state with `v` in field [hi:lo] of the register at `o`. -/
def wrF (s : State) (o hi lo v : Nat) : State := wr s o (withField (rd s o) hi lo v)

/-- Two registers, LO at `o` and HI at `o + 4`, as one number. -/
def rd64 (s : State) (o : Nat) : Nat := (rd s (o + 4)).toNat * 2 ^ 32 + (rd s o).toNat

/-- The state with a 64-bit value in LO at `o` and HI at `o + 4`. -/
def wr64 (s : State) (o v : Nat) : State :=
  wr (wr s o (BitVec.ofNat 32 v)) (o + 4) (BitVec.ofNat 32 (v / 2 ^ 32))

/-- A saturating 32-bit counter (Table 0-5) advanced by `n`. -/
def satAdd (w : Word) (n : Nat) : Word := BitVec.ofNat 32 (min (w.toNat + n) 0xFFFFFFFF)

/-- The counter register at `o` advanced by `n`, saturating. -/
def incCnt (s : State) (o n : Nat) : State := wr s o (satAdd (rd s o) n)

/-- The address-capture register at `o` takes `v` unless flag `b` of the status register at `st` is set already (R379). -/
def capture (s : State) (st b o : Nat) (v : Word) : State :=
  if (tabGet 0 s.regs st).getLsbD b then s else wr s o v

/-! Time (R8, R31) -/

/-- The time that the device stamps with. -/
def now (s : State) : Time := s.tb.now

/-- A time word (R8): NS and FRAC from a time, and a source number. -/
def timeWord (t : Time) (src : Nat) : Nat := t % 2 ^ 80 * 65536 + src % 65536

/-- The time of a time word, without its source. -/
def wordTime (w : BitVec 96) : Time := w.toNat / 65536

/-- Milliseconds, microseconds and nanoseconds in units of 2^-16 ns. -/
def nsT (n : Nat) : Time := n * 65536

/-- One fclk (R7) in units of 2^-16 ns. -/
def fclkT : Time := 40960

/-- The times of a list that lie within the last `ns` nanoseconds: counting windows slide (R425). -/
def recent (s : State) (ns : Nat) (l : List Time) : List Time := l.filter (fun t => decide (now s < t + nsT ns))

/-- One second. -/
def second : Nat := 1000000000

/-- The times of a list within the last `ns`, and now. -/
def noteTime (s : State) (ns : Nat) (l : List Time) : List Time := now s :: recent s ns l

/-! The event log (R28, R349, R366) -/

/-- The base of the block that BAR0 offset `o` lies in (Table 14-2). -/
def blockBase (o : Nat) : Nat :=
  if 0x2000000 ≤ o ∧ o < 0x3000000 then o / 0x400000 * 0x400000 else o / 0x100000 * 0x100000

/-- The UNIT field of Table 15-16. -/
def unitCode (o cell : Nat) : Nat := blockBase o + cell % 0x100000

/-- A log entry is appended; the newest 2^20 are kept. -/
def logAdd (s : State) (event cls src unit : Nat) (data : List Byte) : State :=
  s.setLog { s.log with
    entries := ({ time := now s, src := src, seq := s.log.next, event := event, cls := cls, unit := unit, data := data } ::
      s.log.entries).take 1048576
    next := s.log.next + 1 }

/-- The ERROR entry of flag `b` of the status register at `o` (Table 15-17). The 16 bits of the register offset are those
of its offset within the block (notes/assumptions/15.md). -/
def logError (s : State) (o b cls src cell : Nat) : State :=
  logAdd s 1 cls src (unitCode o cell) (leBytes 2 b ++ leBytes 2 (o - blockBase o))

/-- The THRESHOLD entry of a class C counter (Table 15-17). -/
def logThreshold (s : State) (o src cell count : Nat) : State := logAdd s 2 1 src (unitCode o cell) (leBytes 8 count)

/-- The order in which a block grants its waiting cells from cell `turn` on: round-robin, with quarantined cells skipped (R20). -/
def grantOrder (turn : Nat) (quar cells : List Nat) : List Nat :=
  let l := sortBy id (cells.filter (fun c => !quar.contains c))
  l.filter (turn ≤ ·) ++ l.filter (· < turn)

/-- The cells of a block report over its error-report channel in that order, and its pointer moves past the last (R20). -/
def reportCells (s : State) (block : Nat) (quar cells : List Nat) (report : State → Nat → State) : State :=
  let order := grantOrder (tabGet 0 s.log.turns block) quar cells
  let s1 := order.foldl report s
  match order.getLast? with
  | none => s1
  | some c => s1.setLog { s1.log with turns := tabPut 0 s1.log.turns block (c + 1) }

/-- A wear entry of a persistent event, which a commit will carry to flash (R424, R435). -/
def wearAdd (s : State) (kind unit value : Nat) : State :=
  s.setShep { s.shep with
    wear := { seq := s.shep.wearNext, time := now s, kind := kind, unit := unit, value := value } :: s.shep.wear
    wearNext := s.shep.wearNext + 1
    commitDue := true }

/-- A day, in ns. -/
def day : Nat := 24 * 3600 * second

/-- A precursor event of the spared block `unit`, kept for 90 days (R434). -/
def precursor (s : State) (unit : Nat) : State :=
  s.modShep (fun h => { h with
    precursors := (unit, now s) :: h.precursors.filter (fun e => decide (now s < e.2 + nsT (90 * day))) })

/-! Free values (notes/assumptions/10.md) -/

/-- The next free value of width `w`. -/
def freeVal (w : Nat) (s : State) : BitVec w := Config.freeBits w s.free

/-- The state after one free value has been taken. -/
def useFree (s : State) : State := s.setFree (s.free + 1)

/-! Lookup in association lists that are not sparse tables -/

/-- The first value listed at `k`. -/
def assoc {α : Type} : List (Nat × α) → Nat → Option α
  | [], _ => none
  | (j, v) :: t, k => if j = k then some v else assoc t k

/-- The list with `v` at `k` in place of what stood there. -/
def assocSet {α : Type} (t : List (Nat × α)) (k : Nat) (v : α) : List (Nat × α) :=
  (k, v) :: t.filter (fun e => e.1 != k)

/-- The list without `k`. -/
def assocDel {α : Type} (t : List (Nat × α)) (k : Nat) : List (Nat × α) := t.filter (fun e => e.1 != k)

/-- The list with `k` in it once, ascending. -/
def insertNat : List Nat → Nat → List Nat
  | [], k => [k]
  | j :: t, k => if k < j then k :: j :: t else if k = j then j :: t else j :: insertNat t k

end Sys2Proof.Machine
end

