-- ==== Sys2Proof/Machine/Flags.lean ====
section
/-!
DEFINITION. Sequence-clear status registers (R374) and the interrupt tree above them (R381-R384): which leaf a flag raises,
how a rising condition climbs to CHIP_IRQ_SUM, and what its rising edge sends (R322, R338). Every flag of the device is set
by `raise`.
-/

namespace Sys2Proof.Machine

/-! Table 16-9 -/

/-- Chip-level leaf `n` (node 0). -/
def leafChip (n : Nat) : Nat × Nat := (n / 24, n % 24)

/-- Command-interface leaf `n` (node 1). -/
def leafCmd (n : Nat) : Nat × Nat := (2 + n / 24, n % 24)

/-- The lane leaf of bit `c` of group lane `i`, group `g` (0-3 receive, 4-5 transmit). -/
def blkGroup (g : Nat) : Nat := if g < 4 then 9 + 18 * g else 81 + 18 * (g - 4)

/-- The block register and leaf that flag `b` of the status register at offset `o` raises (Table 16-9; R74, R103, R136, R161,
R190, R218, R237, R257, R258, R293, R313, R340, R402, R403, R423, R438, R446). -/
def leafOf (o b : Nat) : Option (Nat × Nat) :=
  let blk := o / 0x100000
  let r := o % 0x100000
  let u := r % 0x1000 / 0x40
  if blk = 0 then
    if r = 0x20 then (if b < 16 then some (leafChip b) else none)
    else if r = 0x1000 then some (leafChip 16)
    else if r = 0x40 then some (leafChip (17 + b)) else none
  else if blk = 1 then
    if r = 0 then some (leafCmd (25 + b))
    else if 0x11000 ≤ r then some (if b = 0 then leafCmd u else leafCmd 24) else none
  else if blk = 2 then some (4, b)
  else if blk = 3 then some (5, b)
  else if blk = 5 then some (158 + u / 12, 2 * (u % 12) + (if b = 0 then 1 else 0))
  else if blk = 6 then some (160 + u / 24, u % 24)
  else if blk = 7 then some (155 + u / 12, 2 * (u % 12) + (if b = 0 then 0 else 1))
  else if blk = 8 then
    if r = 0 then some (7, b) else if r = 0x400 then some (7, 4 + b)
    else some (117 + 8 * (u / 8) + 5, 2 * (u % 8) + b / 2)
  else if blk = 9 then some (8, b)
  else if blk = 10 then
    if r < 0x10000 then some (149 + u, 4 + b) else some (149 + u / 4, u % 4)
  else if blk = 11 then some (leafCmd (16 + u))
  else if blk = 12 then
    some (117 + 8 * (u / 16) + 6 + u % 16 / 8, 2 * (u % 8) + (if b = 3 then 1 else 0))
  else if blk = 13 then some (153 + u / 24, u % 24)
  else if blk = 14 then some (7, if r < 0x1000 then 6 else 7)
  else if 0x10 ≤ blk ∧ blk < 0x16 then
    let g := blk - 0x10
    if r = 0x100 then some (blkGroup g, b)
    else if r = 0x4 then some (blkGroup g, 5 + b / 3)
    else if r % 0x40 = 0x20 then some (blkGroup g + 1 + u, if g < 4 then 3 else 0)
    else some (blkGroup g + 1 + u, if g < 4 then (if b < 2 then 0 else if b < 5 then 1 else 2) else 1)
  else if 0x20 ≤ blk ∧ blk < 0x30 then
    let q := (blk - 0x20) / 4
    if r = 0x10000 then some (117 + 8 * q, 0)
    else if r = 0x20004 then some (117 + 8 * q, 1)
    else some (117 + 8 * q, 2 + b)
  else if blk = 0x30 then some (6, b)
  else none

/-- The status registers, with the flags of each, that leaf `i` of block register `m` stands for: the inverse of `leafOf`. The
span engines (m = 118 to 121 of each quad) have no status register of their own. -/
def leafFlags (m i : Nat) : List (Nat × Nat) :=
  if m < 2 then
    let n := 24 * m + i
    if n < 16 then [(Reg.CHIP_STATUS, 2 ^ n)]
    else if n = 16 then [(0x1000, 0xFFFFFF)]
    else if n < 32 then [(Reg.CHIP_PWR_STATUS, 2 ^ (n - 17))] else []
  else if m < 4 then
    let n := 24 * (m - 2) + i
    if n < 16 then [(Reg.CMDQ_STATUS n, 1)]
    else if n < 24 then [(Reg.DROV_STATUS (n - 16), 0xFFFFFF)]
    else if n = 24 then (List.range 16).map (fun k => (Reg.CMDQ_STATUS k, 0xFFFFFE))
    else if n < 32 then [(Reg.SHEP_STATUS, 2 ^ (n - 25))] else []
  else if m = 4 then (if i < 8 then [(Reg.SEC_STATUS, 2 ^ i)] else [])
  else if m = 5 then (if i < 16 then [(Reg.PCIE_STATUS, 2 ^ i)] else [])
  else if m = 6 then (if i < 14 then [(Reg.MEM_STATUS, 2 ^ i)] else [])
  else if m = 7 then
    if i < 4 then [(Reg.TRIG_REC_STATUS, 2 ^ i)]
    else if i < 6 then [(Reg.TRIG_NET_STATUS, 2 ^ (i - 4))]
    else if i = 6 then [(Reg.PGEN_STATUS, 0xFFFFFF)]
    else if i = 7 then (List.range 32).map (fun k => (Reg.MCHK_STATUS k, 0xFFFFFF)) else []
  else if m = 8 then (if i < 5 then [(Reg.FLOCK_STATUS, 2 ^ i)] else [])
  else if m < 117 then
    let g := if m < 81 then (m - 9) / 18 else 4 + (m - 81) / 18
    let j := if m < 81 then (m - 9) % 18 else (m - 81) % 18
    if j = 0 then
      if i < 5 then [(Reg.MRX_SB_STATUS g, 2 ^ i)]
      else if i < 8 then [(Reg.MRX_TRAIN_STATUS g, 7 * 2 ^ (3 * (i - 5)))] else []
    else if g < 4 then
      if i = 0 then [(Reg.MRX_LANE_STATUS g (j - 1), 0x3)]
      else if i = 1 then [(Reg.MRX_LANE_STATUS g (j - 1), 0x1C)]
      else if i = 2 then [(Reg.MRX_LANE_STATUS g (j - 1), 0x60)]
      else if i = 3 then [(Reg.MRX_LANE_TSTAT g (j - 1), 0xFFFFFF)] else []
    else
      if i = 0 then [(Reg.MRX_LANE_TSTAT g (j - 1), 0xFFFFFF)]
      else if i = 1 then [(Reg.MRX_LANE_STATUS g (j - 1), 0xFFFFFF)] else []
  else if m < 149 then
    let q := (m - 117) / 8
    let j := (m - 117) % 8
    if j = 0 then
      if i = 0 then [(Reg.GUARD_STATUS q, 0xFFFFFF)]
      else if i = 1 then [(Reg.INGEST_STATUS q, 0xFFFFFF)]
      else if i < 16 then [(Reg.QUAD_STATUS q, 2 ^ (i - 2))] else []
    else if j = 5 then
      if i < 16 then [(Reg.HAND_STATUS (8 * q + i / 2), if i % 2 = 0 then 0x3 else 0xC)] else []
    else if 6 ≤ j then
      if i < 16 then [(Reg.CMP_STATUS (16 * q + 8 * (j - 6) + i / 2), if i % 2 = 0 then 0x7 else 0x8)] else []
    else []
  else if m < 153 then
    let s := m - 149
    if i < 4 then [(Reg.FOLD_GRP_STATUS (4 * s + i), 0xFFFFFF)]
    else if i < 16 then [(Reg.HBM_STATUS s, 2 ^ (i - 4))] else []
  else if m < 155 then
    let d := 24 * (m - 153) + i
    if d < 32 then [(Reg.DCMP_STATUS d, 0xFFFFFF)] else []
  else if m < 158 then
    let n := 12 * (m - 155) + i / 2
    if n < 32 then [(Reg.EQ_STATUS n, if i % 2 = 0 then 0x1 else 0x1E)] else []
  else if m < 160 then
    let n := 12 * (m - 158) + i / 2
    if n < 16 then [(Reg.TIN_STATUS n, if i % 2 = 0 then 0x6 else 0x1)] else []
  else if m < 162 then
    let ch := 24 * (m - 160) + i
    if ch < 34 then [(Reg.DAC_STATUS ch, 0xFFFFFF)] else []
  else []

/-- The node of block register `m`, and its bit there (R381). -/
def nodeOf (m : Nat) : Nat × Nat :=
  if m < 2 then (0, m) else if m < 4 then (1, m - 2)
  else if m < 9 then (m - 2, 0)
  else if m < 81 then (7 + (m - 9) / 18, (m - 9) % 18)
  else if m < 117 then (11 + (m - 81) / 18, (m - 81) % 18)
  else if m < 149 then (13 + (m - 117) / 8, (m - 117) % 8)
  else if m < 153 then (17 + (m - 149), 0)
  else if m < 155 then (21, m - 153)
  else if m < 158 then (22, m - 155)
  else if m < 160 then (23, m - 158)
  else (24, m - 160)

/-- The block registers of node `k`. -/
def blocksOf (k : Nat) : List Nat := (List.range 162).filter (fun m => (nodeOf m).1 == k)

/-! Flags and levels. A status or tree register is 0 after reset, so it is read with default 0. -/

/-- The flags of a status register: bits [23:0]. -/
def flagsR (r : Tab Word) (o : Nat) : Word := tabGet 0 r o &&& 0xFFFFFF

/-- Hardware sets the flags of `mask`: SEQ increases by 1 (R374). -/
def sqSetR (r : Tab Word) (o : Nat) (mask : Word) : Tab Word :=
  tabPut 0 r o ((tabGet 0 r o ||| mask) + 0x1000000)

/-- A write clears the flags of `mask` and leaves SEQ (R374). -/
def sqClearR (r : Tab Word) (o : Nat) (mask : Word) : Tab Word :=
  tabPut 0 r o (tabGet 0 r o &&& ~~~(mask &&& 0xFFFFFF))

/-- A leaf's child condition (R382). -/
def leafCond (r : Tab Word) (m i : Nat) : Bool :=
  (leafFlags m i).any (fun p => flagsR r p.1 &&& BitVec.ofNat 32 p.2 != 0)

/-- Whether block register `m` is raised (R382). -/
def blkRaised (r : Tab Word) (m : Nat) : Bool :=
  flagsR r (Reg.IRQ_BLK_STATUS m) &&& tabGet 0 r (Reg.IRQ_BLK_EN m) != 0

/-- Whether node `k` is raised (R382). -/
def nodeRaised (r : Tab Word) (k : Nat) : Bool :=
  flagsR r (Reg.IRQ_NODE_STATUS k) &&& tabGet 0 r (Reg.IRQ_NODE_EN k) != 0

/-- CHIP_IRQ_SUM (R382). -/
def irqSum (r : Tab Word) : Word :=
  BitVec.ofNat 32 (bitMask ((List.range 25).filter (nodeRaised r))) &&& tabGet 0 r Reg.CHIP_IRQ_EN

/-- IRQ_N is asserted, low, while CHIP_IRQ_SUM is not 0 (R383). -/
def irqN (s : State) : Bool := irqSum s.regs == 0

/-- Groups pairs by their first component. -/
def groupBits (l : List (Nat × Nat)) : List (Nat × Nat) :=
  l.foldl (fun acc p => assocSet acc p.1 ((2 ^ p.2) ||| (assoc acc p.1).getD 0)) []

/-- Sets tree bits: each register listed takes its mask in one setting cycle. -/
def setTree (f : Nat → Nat) (r : Tab Word) (l : List (Nat × Nat)) : Tab Word :=
  l.foldl (fun r p => sqSetR r (f p.1) (BitVec.ofNat 32 p.2)) r

/-- Node bits whose block register is raised in `r'` and was not in `r` are set (R382). -/
def climb (r r' : Tab Word) (ms : List Nat) : Tab Word :=
  setTree Reg.IRQ_NODE_STATUS r' (groupBits ((ms.filter (fun m => !blkRaised r m && blkRaised r' m)).map nodeOf))

/-- Hardware sets the flags of `mask` in the status register at `o`, and the tree bits whose child condition rises (R374,
R382). -/
def raiseR (r : Tab Word) (o : Nat) (mask : Word) : Tab Word :=
  let r1 := sqSetR r o mask
  let leaves := ((bitsOf 24 mask.toNat).filterMap (leafOf o)).eraseDups
  let rising := leaves.filter (fun p => !leafCond r p.1 p.2)
  let r2 := setTree Reg.IRQ_BLK_STATUS r1 (groupBits rising)
  climb r r2 (rising.map Prod.fst).eraseDups

/-- What a rising edge of CHIP_IRQ_SUM's OR sends: MSI-X vector 0, or its PBA bit while masked (R322); in D3hot with PME
enabled, a PME, or WAKE_N in L2 (R338). -/
def irqEdge (s : State) : State :=
  let p := s.pcie
  let p1 := if p.msixMask then { p with pba := true } else { p with vectors := p.vectors + 1 }
  if p.d3hot && p.pmeEn then
    if p.inL2 then s.setPcie { p1 with wake := true }
    else (s.setPcie { p1 with pmes := p1.pmes + 1 }).setRegs (raiseR s.regs Reg.PCIE_STATUS 0x1000)
  else s.setPcie p1

/-- The state with registers `r`: a rise of CHIP_IRQ_SUM's OR from 0 is signalled. -/
def withRegs (s : State) (r : Tab Word) : State :=
  if irqSum s.regs = 0 ∧ irqSum r ≠ 0 then irqEdge (s.setRegs r) else s.setRegs r

/-- Hardware sets the flags of `mask` in the status register at `o`. -/
def raise (s : State) (o : Nat) (mask : Word) : State := withRegs s (raiseR s.regs o mask)

/-- Flag `b` of the status register at `o` is set. -/
def raiseBit (s : State) (o b : Nat) : State := raise s o (BitVec.ofNat 32 (2 ^ b))

/-- Flag `b` is set and its error, of class `cls`, is logged (R28). -/
def raiseErr (s : State) (o b cls src cell : Nat) : State := logError (raiseBit s o b) o b cls src cell

/-- Whether flag `b` of the status register at `o` is set. -/
def flagSet (s : State) (o b : Nat) : Bool := (tabGet 0 s.regs o).getLsbD b

/-- A leaf with no status register of its own is set (the span engines, R28). -/
def raiseLeaf (s : State) (m i : Nat) : State :=
  let r2 := sqSetR s.regs (Reg.IRQ_BLK_STATUS m) (BitVec.ofNat 32 (2 ^ i))
  withRegs s (climb s.regs r2 [m])

/-- The leaf of physical span engine `p` (Table 16-9). -/
def raiseEngine (s : State) (p : Nat) : State :=
  raiseLeaf s (117 + 8 * (p / 68) + 1 + p % 68 / 17) (p % 17)

/-- A master clears flags of the tree register at `o` (R382): a bit whose child condition is still true stays set. -/
def treeClearR (r : Tab Word) (o : Nat) (mask : Word) : Tab Word :=
  let keep :=
    if 0x400 ≤ o then bitMask ((bitsOf 24 mask.toNat).filter (leafCond r ((o - 0x400) / 8)))
    else
      let k := (o - 0x200) / 8
      bitMask ((bitsOf 24 mask.toNat).filter
        (fun j => (blocksOf k).any (fun m => (nodeOf m).2 == j && blkRaised r m)))
  sqClearR r o (mask &&& ~~~(BitVec.ofNat 32 keep))

/-- Block EN and STATE (R375): the field codes of every CTRL register. -/
def stOff : Nat := 0
def stStarting : Nat := 1
def stOn : Nat := 2
def stStopping : Nat := 3
def stFault : Nat := 4

/-- STATE of the block whose CTRL register is at `o`: [6:4] in CMDQ_CTRL, TIN_CTRL, DAC_CTRL and EQ_CTRL alike. -/
def blkState (s : State) (o : Nat) : Nat := rdF s o 6 4

/-- The block with its STATE changed. -/
def setBlkState (s : State) (o v : Nat) : State := wrF s o 6 4 v

end Sys2Proof.Machine
end

