-- ==== Sys2Proof/Machine/Deck.lean ====
section
/-!
DEFINITION. The deck image as data: where its header, directory and sections hold what the device runs by (R55-R62, R134,
R159, R186, R187, R206, R234, R235), and the places in HBM that its extents name (R163, R164, R219).
-/

namespace Sys2Proof.Machine

/-- `n` bytes at offset `o` of a deck, as a number. -/
def dk (d : DeckImage) (o n : Nat) : Nat := memNat d.bytes o n

/-! The header (R55) -/

def dkId (d : DeckImage) : Nat := dk d 0x10 8
def dkPeriod (d : DeckImage) : Nat := dk d 0x18 2
def dkMode (d : DeckImage) : Nat := dk d 0x1A 1
def dkRegions (d : DeckImage) : Nat := dk d 0x1B 1
def dkNsect (d : DeckImage) : Nat := dk d 0x1E 2
def dkLFlock (d : DeckImage) : Nat := dk d 0x5A 2
def dkLStoreMax (d : DeckImage) : Nat := dk d 0x5C 4
def dkLPlay (d : DeckImage) : Nat := dk d 0x60 4
def dkNfold (d : DeckImage) : Nat := dk d 0x90 1
def dkNgroup (d : DeckImage) : Nat := dk d 0x91 1
def dkHbmMib (d : DeckImage) (s : Nat) : Nat := dk d (0x94 + 4 * s) 4
def dkPatMib (d : DeckImage) : Nat := dk d 0xA4 4

/-- The rate mode k (R55, R85). -/
def dkK (d : DeckImage) : Nat := 2 ^ (dkMode d % 4)

/-- Whether the deck uses region `r` (0-3 quads, 4 SPINE). -/
def dkUses (d : DeckImage) (r : Nat) : Bool := nbit (dkRegions d) r

/-- Whether receive group `g` runs in state mode (R92). -/
def dkStateMode (d : DeckImage) (g : Nat) : Bool := nbit (dkMode d) (4 + g)

/-! The directory (R56, R57) -/

def dirType (d : DeckImage) (i : Nat) : Nat := dk d (0x100 + 16 * i) 2
def dirOfs (d : DeckImage) (i : Nat) : Nat := dk d (0x104 + 16 * i) 4
def dirLen (d : DeckImage) (i : Nat) : Nat := dk d (0x108 + 16 * i) 4
def dirCrc (d : DeckImage) (i : Nat) : Nat := dk d (0x10C + 16 * i) 4

/-- The directory entry of the section of type `t` of region `r`. -/
def secIndex (d : DeckImage) (t r : Nat) : Option Nat :=
  (List.range (dkNsect d)).find? (fun i => dirType d i == t + 256 * r)

/-- The offset of that section. -/
def secOfs (d : DeckImage) (t r : Nat) : Option Nat := (secIndex d t r).map (dirOfs d)

/-- A chip-wide section's offset (region 0xF). -/
def secChip (d : DeckImage) (t : Nat) : Option Nat := secOfs d t 0xF

/-- `n` bytes at offset `o` of a chip-wide section; 0 where the deck has no such section. -/
def sec (d : DeckImage) (t o n : Nat) : Nat :=
  match secChip d t with
  | some b => dk d (b + o) n
  | none => 0

/-! Slot tables (R50, R51, R58) -/

/-- The section type and region that hold resource kind `kind` of region `r` (Table 3-6). -/
def kindSec (kind : Nat) : Nat :=
  if kind ≤ 1 then 0x03 else if kind = 4 then 0x05 else if kind = 5 then 0x06 else 0x04

/-- The ports of a resource kind in one region, and the entries of each (Table 3-1). -/
def kindPorts (kind : Nat) : Nat := ([1, 4, 64, 32, 128, 16, 64, 16, 32, 32].drop kind).headD 0
def kindEntries (d : DeckImage) (kind : Nat) : Nat :=
  if kind = 4 then 3 * dkPeriod d / 8 else if kind = 6 then 64 else dkPeriod d

/-- Sub-headers of a slot-table section from offset `o`: (kind, offset of the entries, ports, entries per port). -/
def subHeaders (d : DeckImage) : Nat → Nat → List (Nat × Nat × Nat × Nat)
  | 0, _ => []
  | fuel + 1, o =>
    (dk d o 1, o + 16, dk d (o + 4) 4, dk d (o + 8) 4) ::
      (if dk d (o + 12) 4 = 0 then [] else subHeaders d fuel (o + dk d (o + 12) 4))

/-- The table of resource kind `kind` in region `r`. -/
def kindTable (d : DeckImage) (kind r : Nat) : Option (Nat × Nat × Nat) :=
  match secOfs d (kindSec kind) r with
  | none => none
  | some o => ((subHeaders d 8 o).find? (fun h => h.1 == kind)).map (fun h => h.2)

/-- Entry `i` of logical engine `l`'s instruction pattern (R59). -/
def kPattern (d : DeckImage) (l i : Nat) : Nat := nbits (sec d 0x01 (128 * l + i / 2) 1) (4 * (i % 2) + 3) (4 * (i % 2))

/-- Entry `e` of port `p` of resource kind `kind` in region `r`: Table 3-2. A span engine's instruction slots (kind 0x6) are its PATTERN's
(R59): each belongs to the engine and reads. -/
def slotWord (d : DeckImage) (kind r p e : Nat) : Nat :=
  if kind = 6 then
    (if p < 64 ∧ kPattern d (64 * r + p) (e % 64) ≠ 0xF then 2 ^ 31 + (64 * r + p) * 65536 else 0)
  else
    match kindTable d kind r with
    | none => 0
    | some (o, ports, n) => if p < ports ∧ e < n then dk d (o + 4 * (p * n + e)) 4 else 0

def slotV (w : Nat) : Bool := nbit w 31
def slotOp (w : Nat) : Nat := nbits w 30 28
def slotOwner (w : Nat) : Nat := nbits w 27 16

/-- The entries of port `p`. -/
def slotPort (d : DeckImage) (kind r p : Nat) : List Nat :=
  match kindTable d kind r with
  | none => []
  | some (o, ports, n) => if p < ports then (List.range n).map (fun e => dk d (o + 4 * (p * n + e)) 4) else []

/-- Number of ports dealt for `kind` in region `r`. -/
def slotPorts (d : DeckImage) (kind r : Nat) : Nat :=
  match kindTable d kind r with
  | none => 0
  | some (_, ports, _) => ports

/-- Queues to which the deck deals producer slots (kind 0x9), and whether it deals any of queue `q` to `owner` (R401, R160). -/
def dealsQueue (d : DeckImage) (q : Nat) : Bool := (slotPort d 9 4 q).any slotV
def dealsQueueTo (d : DeckImage) (q owner : Nat) : Bool :=
  (slotPort d 9 4 q).any (fun w => slotV w && slotOwner w == owner)

/-! Kernels and the engine map (R59, R60, R66, R466). PARAM fields without a layout of their own are packed in the order of
Table 3-9 (notes/assumptions/14.md). -/

def kKid (d : DeckImage) (l n : Nat) : Nat := sec d 0x01 (128 * l + 32 + 24 * n) 1
def kValid (d : DeckImage) (l n : Nat) : Bool := nbit (sec d 0x01 (128 * l + 33 + 24 * n) 1) 0
def kOut (d : DeckImage) (l n : Nat) : Nat := sec d 0x01 (128 * l + 34 + 24 * n) 2
def kParam (d : DeckImage) (l n i sz : Nat) : Nat := sec d 0x01 (128 * l + 36 + 24 * n + i) sz
def busEntry (d : DeckImage) (id i : Nat) : Nat := sec d 0x01 (0x8000 + 64 * id + i) 1

/-- An instance reference as REDUCTIONS, COMPRESSION and MASK_CHECK code it: engine, instance. -/
def instRef (w : Nat) : Nat × Nat := (w % 256, nbits w 9 8)

/-- Whether engine `l`'s pattern ever names instance `n`: one it never names does not run (R59, R66). -/
def kRuns (d : DeckImage) (l n : Nat) : Bool := (List.range 64).any (fun i => kPattern d l i == n)

/-- Every instance of kernel `kid` that runs. -/
def instsOf (d : DeckImage) (kid : Nat) : List (Nat × Nat) :=
  (List.range 1024).filterMap (fun i =>
    if kValid d (i / 4) (i % 4) && kKid d (i / 4) (i % 4) == kid && kRuns d (i / 4) (i % 4) then some (i / 4, i % 4) else none)

/-- The slot of logical engine `l` in the deck's ENGINE_MAP, and the physical engine of that slot (R68). -/
def mapSlot (d : DeckImage) (l : Nat) : Nat := sec d 0x02 (2 * l) 2
def mapPhys (d : DeckImage) (l : Nat) : Nat := 68 * (l / 64) + 17 * (l % 64 / 16) + mapSlot d l

/-! Fold layout and reductions (R186, R187) -/

def gV (d : DeckImage) (g : Nat) : Bool := nbit (sec d 0x09 (64 * g) 4) 0
def gHoldEvents (d : DeckImage) (g : Nat) : Bool := nbit (sec d 0x09 (64 * g) 4) 1
def gShedRank (d : DeckImage) (g : Nat) : Nat := nbits (sec d 0x09 (64 * g) 4) 7 4
def gSegments (d : DeckImage) (g : Nat) : Nat := sec d 0x09 (64 * g + 4) 4
def gPre (d : DeckImage) (g : Nat) : Nat := sec d 0x09 (64 * g + 8) 8
def gPost (d : DeckImage) (g : Nat) : Nat := sec d 0x09 (64 * g + 16) 8
def gHoldoff (d : DeckImage) (g : Nat) : Nat := sec d 0x09 (64 * g + 24) 8
def gFolds (d : DeckImage) (g : Nat) : List Nat := bitsOf 64 (sec d 0x09 (64 * g + 32) 8)
def gOwners (d : DeckImage) (g : Nat) : List Nat :=
  (List.range (sec d 0x09 (64 * g + 44) 2)).map (fun i => sec d 0x09 (sec d 0x09 (64 * g + 40) 4 + 2 * i) 2)
def fCtrl (d : DeckImage) (f : Nat) : Nat := sec d 0x09 (0x400 + 64 * f) 4
def fV (d : DeckImage) (f : Nat) : Bool := nbit (fCtrl d f) 0
def fRed (d : DeckImage) (f : Nat) : Nat := nbits (fCtrl d f) 3 1
def fComp (d : DeckImage) (f : Nat) : Nat := nbits (fCtrl d f) 5 4
def fGroup (d : DeckImage) (f : Nat) : Nat := nbits (fCtrl d f) 9 6
def fRatio (d : DeckImage) (f : Nat) : Nat := sec d 0x09 (0x404 + 64 * f) 2
def fExtCnt (d : DeckImage) (f : Nat) : Nat := sec d 0x09 (0x40C + 64 * f) 4
def fExtent (d : DeckImage) (f i : Nat) : Nat := sec d 0x09 (sec d 0x09 (0x408 + 64 * f) 4 + 4 * i) 4
def fStride (d : DeckImage) (f : Nat) : Nat := sec d 0x09 (0x410 + 64 * f) 8
def fData (d : DeckImage) (f : Nat) : Nat := sec d 0x09 (0x418 + 64 * f) 8
def fBrand (d : DeckImage) (f : Nat) : Nat := sec d 0x09 (0x420 + 64 * f) 4
def fVoid (d : DeckImage) (f : Nat) : Nat := sec d 0x09 (0x424 + 64 * f) 4
def fIndex (d : DeckImage) (f : Nat) : Nat := sec d 0x09 (0x428 + 64 * f) 4
def fNinst (d : DeckImage) (f : Nat) : Nat := sec d 0x0A (16 * f) 2
def fWindow (d : DeckImage) (f : Nat) : Nat := 2 ^ sec d 0x0A (16 * f + 8) 1
def fInst (d : DeckImage) (f i : Nat) : Nat × Nat := instRef (sec d 0x0A (sec d 0x0A (16 * f + 4) 4 + 2 * i) 2)
def fInsts (d : DeckImage) (f : Nat) : List (Nat × Nat) := (List.range (fNinst d f)).map (fInst d f)

/-- Compressed FULL (R162, R165). -/
def fIsComp (d : DeckImage) (f : Nat) : Bool := fRed d f == 0 && fComp d f != 0

/-- The folds that the deck defines, and the groups. -/
def dkFolds (d : DeckImage) : List Nat := (List.range 64).filter (fV d)
def dkGroups (d : DeckImage) : List Nat := (List.range 16).filter (gV d)

/-- The page length S of R101. -/
def pageLen (d : DeckImage) : Nat := 512 * dkK d

/-- Samples of one fclk under the deck. -/
def groupLenD (d : DeckImage) : Nat := 4 * dkK d

/-- Substream areas (R165): the size A of one, and those of the brand table, void sidecar and page index. -/
def subBytes (d : DeckImage) (f total : Nat) : Nat := total / (4 * fNinst d f)
def subArea (d : DeckImage) (f : Nat) : Nat := subBytes d f (fData d f) / 4096 * 4096

/-- The sample capacity C of a fold (Table 7-3), which a small data area makes negative; none for TRANSITIONS and STATE (R166). -/
def foldCap (d : DeckImage) (f : Nat) : Option Int :=
  let whole (a lost : Nat) (l : Nat) : Option Int := some (((a : Int) - lost) * l)
  match fRed d f with
  | 0 =>
    if fComp d f = 0 then whole (fData d f / (4096 * fNinst d f)) 2 (pageLen d)
    else whole (4 * (subArea d f * fRatio d f / 256 / 4096)) 2048 (pageLen d)
  | 2 => whole (fData d f / 4096 * 28 / fNinst d f) 2 (fWindow d f)
  | 3 => whole (fData d f / 4096 * 128 / fNinst d f) 2 (fWindow d f)
  | _ => none

/-- The group capacity (R166). -/
def groupCap (d : DeckImage) (g : Nat) : Option Int :=
  ((gFolds d g).filterMap (foldCap d)).foldl
    (fun a c => some (match a with | none => c | some b => min b c)) none

/-! Hands (R159), recognizers (R134), compression (R206), playback (R234), mask checkers (R235), latencies (R61) -/

def hByte (d : DeckImage) (h o n : Nat) : Nat := sec d 0x08 (0x440 * h + o) n
def hEn (d : DeckImage) (h : Nat) : Bool := nbit (hByte d h 0 4) 0
def hStart (d : DeckImage) (h : Nat) : Nat := nbits (hByte d h 0 4) 4 1
def hInterp (d : DeckImage) (h : Nat) : Bool := nbit (hByte d h 0 4) 5
def hInterpTin (d : DeckImage) (h : Nat) : Nat := nbits (hByte d h 0 4) 9 6
def hInterpEdge (d : DeckImage) (h : Nat) : Nat := nbits (hByte d h 0 4) 11 10
def hArmGroups (d : DeckImage) (h : Nat) : Nat := hByte d h 4 2
def hHc0T (d : DeckImage) (h : Nat) : Nat := hByte d h 8 4
def hHc1T (d : DeckImage) (h : Nat) : Nat := hByte d h 12 4
def hHtLimit (d : DeckImage) (h : Nat) : Nat := hByte d h 16 6
def hDtap (d : DeckImage) (h i : Nat) : Nat := hByte d h (24 + 4 * i) 4
def brWord (d : DeckImage) (h t b w : Nat) : Nat := hByte d h (64 + 64 * t + 16 * b + 4 * w) 4
def brV (d : DeckImage) (h t b : Nat) : Bool := nbit (brWord d h t b 0) 31
def brA (d : DeckImage) (h t b : Nat) : Nat := nbits (brWord d h t b 0) 10 0
def brB (d : DeckImage) (h t b : Nat) : Nat := nbits (brWord d h t b 0) 21 11
def brOp (d : DeckImage) (h t b : Nat) : Nat := nbits (brWord d h t b 0) 24 22
def brCount (d : DeckImage) (h t b : Nat) : Nat := brWord d h t b 1
def brAct (d : DeckImage) (h t b : Nat) : Nat := brWord d h t b 2
def brFlow (d : DeckImage) (h t b : Nat) : Nat := brWord d h t b 3

/-- The route entry of group `g` (R155, R159): its queue, where V is 1. -/
def route (d : DeckImage) (g : Nat) : Option Nat :=
  let e := sec d 0x08 (0x8800 + 4 * g) 4
  if nbit e 7 then some (nbits e 4 0) else none

/-- Recognizer `r`'s entry: its offset in RECOG_MASKS and that of its CTRL word. -/
def recOfs (r : Nat) : Nat :=
  if r < 0x80 then 288 * r
  else if r < 0x100 then 0x9000 + 272 * (r - 0x80)
  else if r < 0x140 then 0x11800 + 96 * (r - 0x100)
  else if r < 0x180 then 0x13000 + 32 * (r - 0x140)
  else if r < 0x1A0 then 0x13800 + 32 * (r - 0x180)
  else if r < 0x1B0 then 0x13C00 + 16 * (r - 0x1A0)
  else if r < 0x1C0 then 0x13D00 + 8 * (r - 0x1B0)
  else 0x13D80 + 8 * (r - 0x1C0)
def recCtrlOfs (r : Nat) : Nat :=
  if r < 0x100 then recOfs r + 256 else if r < 0x140 then recOfs r + 80 else recOfs r
def recB (d : DeckImage) (r o n : Nat) : Nat := sec d 0x07 (recOfs r + o) n
def recCtrl (d : DeckImage) (r : Nat) : Nat := sec d 0x07 (recCtrlOfs r) 4
def recEn (d : DeckImage) (r : Nat) : Bool := decide (r < 0x1C2) && nbit (recCtrl d r) 0

def cmpWord (d : DeckImage) (e : Nat) : Nat := sec d 0x0B (16 * e) 4
def cmpV (d : DeckImage) (e : Nat) : Bool := nbit (cmpWord d e) 0
def cmpFold (d : DeckImage) (e : Nat) : Nat := nbits (cmpWord d e) 6 1
def cmpSub (d : DeckImage) (e : Nat) : Nat := nbits (cmpWord d e) 12 7
def cmpDepth (d : DeckImage) (e : Nat) : Nat := nbits (cmpWord d e) 14 13
/-- DEPTH with LAZY (Table 8-3). -/
def cmpSearch (d : DeckImage) (e : Nat) : Nat := nbits (cmpWord d e) 15 13
def cmpPre (d : DeckImage) (e : Nat) : Nat × Nat := instRef (sec d 0x0B (16 * e + 4) 2)

/-- The engine that compresses substream `u` of fold `f` (R198). -/
def cmpEngine (d : DeckImage) (f u : Nat) : Option Nat :=
  (List.range 64).find? (fun e => cmpV d e && cmpFold d e == f && cmpSub d e == u)

def pbHas (d : DeckImage) : Bool := (secChip d 0x0C).isSome
def pbNlist (d : DeckImage) : Nat := sec d 0x0C 0 2
def pbExtCnt (d : DeckImage) : Nat := sec d 0x0C 2 2
def pbRole (d : DeckImage) (e : Nat) : Nat := sec d 0x0C (0x40 + 16 * e) 1
def pbTarget (d : DeckImage) (e : Nat) : Nat := sec d 0x0C (0x41 + 16 * e) 1 % 32
def pbQuarter (d : DeckImage) (e : Nat) : Nat := sec d 0x0C (0x42 + 16 * e) 1
def pbRest (d : DeckImage) (e : Nat) : Nat := sec d 0x0C (0x44 + 16 * e) 2
def plPseg (d : DeckImage) (n : Nat) : Nat := sec d 0x0C (0x240 + 16 * n) 2 % 4096
def plNext (d : DeckImage) (n : Nat) : Nat := sec d 0x0C (0x242 + 16 * n) 2
def plRepeat (d : DeckImage) (n : Nat) : Nat := sec d 0x0C (0x244 + 16 * n) 4
def plBranch (d : DeckImage) (n : Nat) : Nat := sec d 0x0C (0x248 + 16 * n) 2
def plTarget (d : DeckImage) (n : Nat) : Nat := sec d 0x0C (0x24A + 16 * n) 2
def pbExtent (d : DeckImage) (i : Nat) : Nat := sec d 0x0C (0x240 + 16 * pbNlist d + 4 * i) 4

def mcCtrl (d : DeckImage) (n : Nat) : Nat := sec d 0x0D (192 * n) 4
def mcEn (d : DeckImage) (n : Nat) : Bool := nbit (mcCtrl d n) 0
def mcSync (d : DeckImage) (n : Nat) : Nat := nbits (mcCtrl d n) 10 1
def mcTol (d : DeckImage) (n : Nat) : Nat := nbits (mcCtrl d n) 12 11
def mcNinst (d : DeckImage) (n : Nat) : Nat := nbits (mcCtrl d n) 15 13 + 1
def mcActions (d : DeckImage) (n : Nat) : Nat := nbits (mcCtrl d n) 19 16
def mcLogEq (d : DeckImage) (n : Nat) : Nat := nbits (mcCtrl d n) 24 20
def mcStopGrp (d : DeckImage) (n : Nat) : Nat := nbits (mcCtrl d n) 28 25
def mcSyncOfs (d : DeckImage) (n : Nat) : Nat := sec d 0x0D (192 * n + 4) 4
def mcPseg (d : DeckImage) (n : Nat) : Nat := sec d 0x0D (192 * n + 8) 2 % 4096
def mcNseg (d : DeckImage) (n : Nat) : Nat := sec d 0x0D (192 * n + 10) 2
def mcInst (d : DeckImage) (n i : Nat) : Nat × Nat := instRef (sec d 0x0D (192 * n + 12 + 2 * i) 2)
def mcMask (d : DeckImage) (n c : Nat) : Bool := nbit (sec d 0x0D (192 * n + 64 + c / 8) 1) (c % 8)

/-- LATENCY entries (R61): (PATH, UNIT, latency). -/
def latEntries (d : DeckImage) : List (Nat × Nat × Nat) :=
  match secIndex d 0x0E 0xF with
  | none => []
  | some i => (List.range (dirLen d i / 8)).map (fun n =>
      (dk d (dirOfs d i + 8 * n) 2, dk d (dirOfs d i + 8 * n + 2) 2, dk d (dirOfs d i + 8 * n + 4) 4))

/-! The active deck -/

/-- The active deck. -/
def actDeck (s : State) : Option DeckImage := s.deck.active.map Prod.snd

/-- The rate mode in force; ×1 with no deck active. -/
def rateK (s : State) : Nat := match actDeck s with | some d => dkK d | none => 1

/-- P (R43): the sample period in units of 2^-16 ns. -/
def period (s : State) : Nat := 10240 / rateK s

/-- Samples per fclk of a channel: the size of a sample group (R105). -/
def groupLen (s : State) : Nat := 4 * rateK s

/-- The grid time G(s) = E + s × P (R112); none while no E stands. -/
def gridTime (s : State) (i : Sample) : Option Time := s.tb.epoch.map (fun e => e + i * period s)

/-- The sample groups that have come, by now, `n` fclk past the acceptance of their block: acceptance is T_PATH after the grid time of the
group's first sample (R63, R151, Table 6-15). -/
def groupsBy (s : State) (n : Nat) : Nat :=
  match s.tb.epoch with
  | none => 0
  | some e =>
    let due := (e + (rd s Reg.TRIG_PATH_LAT).toNat + n * fclkT) % 2 ^ 80
    if now s < due then 0 else (now s - due) / fclkT + 1

/-- The samples that the recognizers have evaluated by now: those below it (Table 5-2, R119). -/
def evalCount (s : State) : Sample := groupsBy s 64 * groupLen s

/-- The samples that the hands have evaluated by now (R148). -/
def handCount (s : State) : Sample := groupsBy s 88 * groupLen s

/-- G(s), taken from 0 while no E stands. -/
def gridT (s : State) (i : Sample) : Time := (gridTime s i).getD (i * period s)

/-! HBM geometry (R163) -/

/-- Z, the size of a stack, by ordering code. -/
def stackSize (s : State) : Nat := if rdF s Reg.CHIP_ID 3 0 = 1 then 36 * 2 ^ 30 else 24 * 2 ^ 30

/-- Bytes of an extent. -/
def extentSize : Nat := 64 * 2 ^ 20

/-- Extents that a stack has outside its top 2 GiB. -/
def extentMax (s : State) : Nat := (stackSize s - 2 * 2 ^ 30) / extentSize

/-- Stack and extent number of an extent-list entry (R186). -/
def extStack (w : Nat) : Nat := w % 4
def extNum (w : Nat) : Nat := nbits w 11 2

/-- The HBM address of an extent-list entry. -/
def extAddr (s : State) (w : Nat) : Nat := extStack w * stackSize s + extNum w * extentSize

/-- The HBM address of logical offset `x` of fold `f` (R163). -/
def foldAddr (s : State) (d : DeckImage) (f x : Nat) : Nat := extAddr s (fExtent d f (x / extentSize)) + x % extentSize

/-- The HBM address of offset `x` of pattern memory (R219). -/
def patAddr (s : State) (d : DeckImage) (x : Nat) : Nat := extAddr s (pbExtent d (x / extentSize)) + x % extentSize

/-- Every extent-list entry of the deck: its folds' and its pattern memory's. -/
def dkExtents (d : DeckImage) : List Nat :=
  (dkFolds d).flatMap (fun f => (List.range (fExtCnt d f)).map (fExtent d f)) ++
    (List.range (pbExtCnt d)).map (pbExtent d)

/-- Whether the HBM byte at `a` may be written through BAR2 (R319): it is HBM, not in the top 2 GiB of its stack, and not in an
extent of the active deck. -/
def hbmWritable (s : State) (a : Nat) : Bool :=
  decide (a < 4 * stackSize s) && decide (a % stackSize s < stackSize s - 2 * 2 ^ 30) &&
    (match actDeck s with
     | none => true
     | some d => (dkExtents d).all (fun w => !(decide (extAddr s w ≤ a) && decide (a < extAddr s w + extentSize))))

/-- Whether every byte of a buffer in HBM may be written (R331). A buffer of bytes crosses extent bounds only at their edges. -/
def hbmRangeWritable (s : State) (a n : Nat) : Bool :=
  decide (0 < n) && decide (a + n ≤ 4 * stackSize s) &&
    hbmWritable s a && hbmWritable s (a + n - 1) &&
    (List.range ((a + n - 1) / extentSize - a / extentSize)).all (fun i => hbmWritable s ((a / extentSize + 1 + i) * extentSize))

end Sys2Proof.Machine
end

