-- ==== Sys2Proof/Machine/Operands.lean ====
section
/-!
DEFINITION. What a command's operands name outside its entry: buffer lists in host memory (R331), and the bytes that a transfer
reads or writes through them.
-/

namespace Sys2Proof.Machine

/-- One buffer of a list: whether it lies in device HBM (SPACE), its address, its length. -/
abbrev Seg := Bool × Nat × Nat

/-- Entries of a buffer list that the model follows before it takes the list as one that never ends (notes/assumptions/9.md). -/
def listFuel : Nat := 65536

/-- The buffers of the list whose next entry is at `a`; `left` is the number of entries of a chained segment that remain. `none`
for an entry with a reserved bit set or without bytes, and for a list that does not end (R331, R6). -/
def listSegs (m : Mem) : Nat → Nat → Option Nat → Option (List Seg)
  | 0, _, _ => none
  | fuel + 1, a, left =>
    if left = some 0 then some []
    else
      let addr := memNat m a 8
      let len := memNat m (a + 8) 4
      let fl := memNat m (a + 12) 4
      if 8 ≤ fl then none
      else if nbit fl 1 then listSegs m fuel addr (some (len / 16))
      else if len = 0 then none
      else if nbit fl 2 then some [(nbit fl 0, addr, len)]
      else (listSegs m fuel (a + 16) (left.map (· - 1))).map (fun t => (nbit fl 0, addr, len) :: t)

/-- The buffers of the list that an operand names. -/
def bufSegs (s : State) (a : BitVec 64) : Option (List Seg) := listSegs s.mem.host listFuel a.toNat none

/-- Those buffers, none where the list is malformed. -/
def bufList (s : State) (a : BitVec 64) : List Seg := (bufSegs s a).getD []

/-- Whether the list is well-formed and each of its buffers with SPACE 1 lies wholly in writable HBM (R331). -/
def bufOk (s : State) (a : BitVec 64) : Bool :=
  match bufSegs s a with
  | none => false
  | some l => l.all (fun g => !g.1 || hbmRangeWritable s g.2.1 g.2.2)

/-- The bytes that the buffers hold together. -/
def segsLen (l : List Seg) : Nat := (l.map (fun g => g.2.2)).sum

/-- The first `n` bytes of the buffers, in list order; fewer where they end. -/
def segsRead (mm : MemSt) : List Seg → Nat → List Byte
  | [], _ => []
  | (h, a, len) :: t, n =>
    memRead (if h then mm.hbm else mm.host) a (min len n) ++ segsRead mm t (n - len)

/-- The buffers left once their first `n` bytes are used. -/
def segsDrop : List Seg → Nat → List Seg
  | [], _ => []
  | (h, a, len) :: t, n => if n < len then (h, a + n, len - n) :: t else segsDrop t (n - len)

/-- The memories with `bs` written into the buffers in list order; bytes beyond the last buffer are not written. -/
def segsWrite (mm : MemSt) : List Seg → List Byte → MemSt
  | [], _ => mm
  | (h, a, len) :: t, bs =>
    let c := bs.take len
    segsWrite (if h then { mm with hbm := memWrite mm.hbm a c } else { mm with host := memWrite mm.host a c }) t
      (bs.drop len)

/-- What HBM keeps of a write: the bytes of a quarantined page stay 0 (R436), and a word that was written whole holds no error any
more (R386). -/
def settleHbm (s : State) (a n : Nat) : State :=
  let dead (m : Mem) (p : Nat) : Mem :=
    let b := p / 2 ^ 24 * stackSize s + p % 2 ^ 24 * 4096
    memErase m b (b + 4096)
  s.setMem { s.mem with
    hbm := s.shep.pageQuar.foldl dead s.mem.hbm
    badHbm := s.mem.badHbm.filter (fun w => !(decide (a ≤ w) && decide (w + 8 ≤ a + n))) }

/-- Whether one of `n` bytes of HBM from `a` reads with an uncorrectable error: a bad word, or a quarantined page (R386, R436). -/
def hbmBad (s : State) (a n : Nat) : Bool :=
  s.mem.badHbm.any (fun w => decide (a < w + 8) && decide (w < a + n)) ||
    s.shep.pageQuar.any (fun p =>
      let b := p / 2 ^ 24 * stackSize s + p % 2 ^ 24 * 4096
      decide (b < a + n) && decide (a < b + 4096))

/-- A transfer of `bs` into the buffers. -/
def putBuf (s : State) (l : List Seg) (bs : List Byte) : State := settleHbm (s.setMem (segsWrite s.mem l bs)) 0 0

/-- Bytes written at one host address. -/
def putHost (s : State) (a : Nat) (bs : List Byte) : State :=
  s.setMem { s.mem with host := memWrite s.mem.host a bs }

/-- Bytes written in HBM by the device itself. -/
def putHbm (s : State) (a : Nat) (bs : List Byte) : State :=
  settleHbm (s.setMem { s.mem with hbm := memWrite s.mem.hbm a bs }) a bs.length

end Sys2Proof.Machine
end

