-- ==== Sys2Proof/Machine/Command.lean ====
section
/-!
DEFINITION. How a Zalou command starts and completes: the status codes (R344), the order of starts (R325, R326), the checks in
the order of R345, block ownership (R347, R464), and completions waiting to be written (R328, R366). A command's row is the
command's start; a row of a command that may not start yet leaves it waiting (notes/assumptions/2.md).
-/

namespace Sys2Proof.Machine

/-! Table 15-3 -/

abbrev cOk : Nat := 0x00
abbrev cClamped : Nat := 0x01
abbrev cSuspended : Nat := 0x02
abbrev cBusy : Nat := 0x03
abbrev cField : Nat := 0x04
abbrev cState : Nat := 0x05
abbrev cUnknown : Nat := 0x06
abbrev cIdInUse : Nat := 0x07
abbrev cTimeout : Nat := 0x08
abbrev cAborted : Nat := 0x09
abbrev cChipFault : Nat := 0x0A
abbrev cDeckInvalid : Nat := 0x0B
abbrev cNoSegments : Nat := 0x0C
abbrev cThermal : Nat := 0x0D
abbrev cFlockFull : Nat := 0x0E
abbrev cNotFound : Nat := 0x0F
abbrev cBadToken : Nat := 0x10
abbrev cNoContext : Nat := 0x11
abbrev cDataError : Nat := 0x12
abbrev cOutLimit : Nat := 0x13
abbrev cAdler : Nat := 0x14
abbrev cPattern : Nat := 0x15
abbrev cNoSpace : Nat := 0x16
abbrev cEngine : Nat := 0x17
abbrev cLinkDown : Nat := 0x18
abbrev cNak : Nat := 0x19
abbrev cHostError : Nat := 0x1A
abbrev cBrand : Nat := 0x1B
abbrev cBufferFull : Nat := 0x1C
abbrev cMedia : Nat := 0x1D
abbrev cNoSpare : Nat := 0x1E
abbrev cAuth : Nat := 0x1F
abbrev cDenied : Nat := 0x20
abbrev cNv : Nat := 0x21

/-- RESULT of a BUSY that comes from a state (R344). -/
def busyState : Nat := 0xFFFF

/-- The opcodes of the command tables of chapter 15. -/
def opcodes : List Nat :=
  [0x0101, 0x0102, 0x0103, 0x0201, 0x0202, 0x0203, 0x0204, 0x0301, 0x0302, 0x0303, 0x0304, 0x0305, 0x0401, 0x0402, 0x0403,
    0x0501, 0x0502, 0x0601, 0x0602, 0x0603, 0x0701, 0x0702, 0x0703, 0x0801, 0x0802, 0x0901, 0x0902, 0x0903, 0x0904, 0x0905,
    0x0906, 0x0A01, 0x0A02, 0x0A03, 0x0A04, 0x0B01, 0x0C01, 0x0C02, 0x0C03, 0x0C04, 0x0C05, 0x0C06, 0x0D01, 0x0D02, 0x0D03,
    0x0D04]

/-- The kinds of which every command is logged (R366). -/
def loggedOps : List Nat :=
  [0x0201, 0x0203, 0x0204, 0x0103, 0x0D01, 0x0D02, 0x0D04, 0x0C04, 0x0C05, 0x0C06, 0x0303, 0x0602]

/-! Completions -/

/-- Commands in flight (R325). -/
def inFlight (s : State) : Nat := s.cmd.fetched.length + s.cmd.running.length + s.cmd.finished.length

/-- Whether a command in flight on any ring has this ID (R326). -/
def cidInFlight (s : State) (cid : BitVec 16) : Bool :=
  s.cmd.fetched.any (fun f => f.cid == cid) || s.cmd.running.any (fun f => f.cid == cid) ||
    s.cmd.finished.any (fun f => f.cid == cid)

/-- A completion joins those that wait to be written; a logged kind leaves a COMMAND entry (R366). -/
def complete (s : State) (ring : Fin 16) (cid : BitVec 16) (op status result result2 : Nat) : State :=
  let s1 := s.modCmd (fun c => { c with finished := c.finished ++
    [{ ring := ring, cid := cid, status := status, result := BitVec.ofNat 32 result, result2 := BitVec.ofNat 64 result2 }] })
  if loggedOps.contains op then
    logAdd s1 6 0 0x0482 0x100000 (leBytes 2 op ++ leBytes 2 cid.toNat ++ leBytes 2 status)
  else s1

/-- A completion whose bytes 4-15 are one time word (R342). -/
def completeTime (s : State) (ring : Fin 16) (cid : BitVec 16) (op status : Nat) (t : Time) : State :=
  complete s ring cid op status (timeWord t 0 % 2 ^ 32) (timeWord t 0 / 2 ^ 32)

/-- The command is no longer fetched or running. -/
def dropCmd (s : State) (ring : Fin 16) (cid : BitVec 16) : State :=
  s.modCmd (fun c => { c with
    fetched := c.fetched.filter (fun f => !(f.ring == ring && f.cid == cid))
    running := c.running.filter (fun f => !(f.ring == ring && f.cid == cid)) })

/-- The command whose start is under way completes. -/
def finish (s : State) (h : CmdHdr) (op status result result2 : Nat) : State :=
  complete s h.ring h.cid op status result result2

/-- A refusal at a step of R345: RESULT by Table 15-3. -/
def refuse (s : State) (h : CmdHdr) (op status result : Nat) : State := finish s h op status result 0

/-- The command keeps running; `obj` and `aux` are what Table 15-15 asks of it. -/
def keepRunning (s : State) (h : CmdHdr) (op obj aux : Nat) : State :=
  s.modCmd (fun c => { c with running := c.running ++ [{ ring := h.ring, cid := h.cid, op := op, obj := obj, aux := aux }] })

/-- The running command of that ring and ID. -/
def findRun (s : State) (ring : Fin 16) (cid : BitVec 16) : Option Running :=
  s.cmd.running.find? (fun f => f.ring == ring && f.cid == cid)

/-- The completion of an orphan is discarded (R339). -/
def discard (s : State) (ring : Fin 16) (cid : BitVec 16) : State :=
  s.modCmd (fun c => { c with
    finished := c.finished.filter (fun f => !(f.ring == ring && f.cid == cid))
    running := c.running.map (fun f => if f.ring = ring ∧ f.cid = cid then { f with orphan := true } else f) })

/-- A running command completes. -/
def endRun (s : State) (ring : Fin 16) (cid : BitVec 16) (status result result2 : Nat) : State :=
  match findRun s ring cid with
  | none => s
  | some r =>
    let s1 := complete (dropCmd s ring cid) ring cid r.op status result result2
    if r.orphan then discard s1 ring cid else s1

/-- A running command completes with a time word. -/
def endRunTime (s : State) (ring : Fin 16) (cid : BitVec 16) (status : Nat) (t : Time) : State :=
  endRun s ring cid status (timeWord t 0 % 2 ^ 32) (timeWord t 0 / 2 ^ 32)

/-- The CID of the first running command of which `p` holds (Table 15-15). -/
def holder (s : State) (p : Running → Bool) : Option (BitVec 16) := (s.cmd.running.find? p).map Running.cid

/-- The first running command with one of these opcodes. -/
def holderOp (s : State) (ops : List Nat) : Option (BitVec 16) := holder s (fun r => ops.contains r.op)

/-- The first running command with one of these opcodes and this object. -/
def holderObj (s : State) (ops : List Nat) (obj : Nat) : Option (BitVec 16) :=
  holder s (fun r => ops.contains r.op && r.obj == obj)

/-! What a command is checked against -/

/-- What R345 checks of a command: its opcode; its fields in ascending offset with whether each is within its range (CFLAGS at 3); whether
it is marked †; whether it needs a deck, and whether the active deck has the section it needs; the fields that name objects of the deck; the blocks it writes, by base / 2^20; whether the
life-cycle policy forbids what it names (R439); the holder of a conflict under Table 15-15; and whether no earlier command that acts on its object holds its start back (R364). -/
structure Checks where
  op : Nat
  fields : List (Nat × Bool)
  dagger : Bool := false
  deck : Bool := false
  deckPart : Bool := true
  objects : List (Nat × Bool) := []
  blocks : List Nat := []
  denied : Bool := false
  held : Option (BitVec 16) := none
  ready : Bool := true

/-- The checks with a byte at `r` that the command does not define and that is not zero, in its place among the fields (R341). -/
def Checks.withReserved (c : Checks) (r : Option Nat) : Checks :=
  match r with
  | none => c
  | some o => { c with fields := c.fields.filter (fun f => decide (f.1 < o)) ++ [(o, false)] }

/-- The offset of the first field that fails. -/
def firstBad (l : List (Nat × Bool)) : Option Nat := (l.find? (fun f => !f.2)).map Prod.fst

/-- Whether CFLAGS uses no bit outside `mask`. -/
def cflagsOk (h : CmdHdr) (mask : Byte) : Nat × Bool := (3, h.cflags &&& ~~~mask == 0)

/-- CFLAGS bit `i`. -/
def cflag (h : CmdHdr) (i : Nat) : Bool := h.cflags.getLsbD i

/-- The bit of CHIP_OWNER that holds the OWNER of the block with BAR0 base `b * 2^20` (Table 16-6). -/
def ownerBit (b : Nat) : Option Nat :=
  if b = 0x0 then some 0 else if b = 0x1 then some 1 else if b = 0x2 then some 3
  else if b < 0xF then some (b + 1)
  else if 0x10 ≤ b ∧ b < 0x14 then some b
  else if 0x14 ≤ b ∧ b < 0x16 then some b
  else if 0x20 ≤ b ∧ b < 0x30 then some (22 + (b - 0x20) / 4)
  else if b = 0x30 then some 26
  else if b = 0x3F then some 27 else none

/-- Whether HOST owns that block. -/
def hostOwns (s : State) (b : Nat) : Bool :=
  match ownerBit b with
  | some i => (rd s Reg.CHIP_OWNER).getLsbD i
  | none => false

/-- The lowest of these blocks that HOST owns (R347). -/
def hostOwned (s : State) (bs : List Nat) : Option Nat := (bs.filter (hostOwns s)).min?

/-- Block bases / 2^20. -/
def bQuad (q : Nat) : Nat := 0x20 + 4 * q
def bMrx (g : Nat) : Nat := 0x10 + g
def bMtx (t : Nat) : Nat := 0x14 + t

/-- Whether the device is scrapped, or acts as scrapped for its tamper count of 32 (R439, R445). -/
def scrapped (s : State) : Bool := s.sec.life == 4 || decide (32 ≤ s.sec.count)

/-- The commands that the life-cycle policy permits in SCRAP (R439). -/
def scrapOps : List Nat := [0x0101, 0x0102, 0x0D03, 0x0D04]

/-- The commands accepted in recovery (R421). -/
def recoveryOps : List Nat := [0x0101, 0x0102, 0x0C04, 0x0C05, 0x0C06]

/-- Steps 3 to 8 of R345, recovery (R421) before them: the status and RESULT of the first check that fails. -/
def judge (c : Checks) (s : State) : Option (Nat × Nat) :=
  if s.shep.recovery && !recoveryOps.contains c.op then some (cState, 0)
  else match firstBad c.fields with
  | some o => some (cField, o)
  | none =>
    if c.dagger && s.pwr.classF then some (cChipFault, 0)
    else if c.deck && ((actDeck s).isNone || !c.deckPart) then some (cState, 0)
    else match firstBad c.objects with
    | some o => some (cField, o)
    | none =>
      if (scrapped s && !scrapOps.contains c.op) || c.denied then some (cDenied, 0)
      else match hostOwned s c.blocks with
      | some b => some (cDenied, b)
      | none => match c.held with
        | some cid => some (cBusy, cid.toNat)
        | none => none

/-! Starting -/

/-- Whether the Shepherd processes commands: a core runs Zalou (R26, R429). -/
def processing (s : State) : Bool :=
  let run (c : CoreState) : Bool := c == .paired || c == .single
  !s.shep.lost && (run s.shep.cores.1 || run s.shep.cores.2.1 || run s.shep.cores.2.2)

/-- Whether a FENCE holds the command back: an earlier command of its ring is still running (R326). -/
def fenced (s : State) (h : CmdHdr) : Bool := h.fence && s.cmd.running.any (fun r => r.ring == h.ring)

/-- The arrival of a command at its start: the state in which it is no longer fetched, and whether it starts now. A command that no
COMMAND_FETCH has brought counts as fetched now; its ID is judged then (R325, R326). -/
def arrive (h : CmdHdr) (op : Nat) (ready : Bool) (s : State) : State × Bool :=
  let mine (f : Fetched) : Bool := f.ring == h.ring && f.cid == h.cid
  if (s.cmd.fetched.head?.map mine).getD false then
    if fenced s h || !ready then (s, false) else (s.modCmd (fun c => { c with fetched := c.fetched.tail }), true)
  else if s.cmd.fetched.any mine then (s, false)
  else if cidInFlight s h.cid then (complete s h.ring h.cid op cIdInUse 0 0, false)
  else if 1024 ≤ inFlight s then (s, false)
  else if s.cmd.fetched.isEmpty && !fenced s h && ready then (s, true)
  else (s.modCmd (fun c => { c with fetched := c.fetched ++ [{ ring := h.ring, cid := h.cid, fence := h.fence }] }), false)

/-- Whether the regions sleep or are on their way out of sleep (R416, R419). -/
def asleep (s : State) : Bool :=
  (List.range 5).any (fun r =>
    let f := rdF s Reg.CHIP_PWR_STATE (2 * r + 1) (2 * r)
    f == 1 || f == 3)

/-- A wake begins: the regions that sleep read as waking (R419, Table 18-9). -/
def beginWake (s : State) : State :=
  (List.range 5).foldl (fun s r =>
    if rdF s Reg.CHIP_PWR_STATE (2 * r + 1) (2 * r) = 3 then wrF s Reg.CHIP_PWR_STATE (2 * r + 1) (2 * r) 1 else s) s

/-- A command starts: it is judged by R345 and, where every check passes, has its effect `body`. A command that needs the
sleeping regions (`wake`: the command itself) wakes them and has its effect once they are ready (R419). -/
def startCmd (h : CmdHdr) (c : Checks) (wake : Option Instr) (body : State → State) (s : State) : State :=
  if !processing s then s
  else
    let p := arrive h c.op c.ready s
    let resv := (s.cmd.fetched.find? (fun f => f.ring == h.ring && f.cid == h.cid)).bind Fetched.resv
    if !p.2 then p.1
    else match judge (c.withReserved resv) p.1 with
    | some (st, r) => refuse p.1 h c.op st r
    | none =>
      match wake with
      | none => body p.1
      | some i =>
        if asleep p.1 then
          (beginWake (keepRunning p.1 h c.op 0xFFFFFFFF 0)).modPwr (fun w => { w with waking := w.waking ++ [i] })
        else body p.1

/-- The effect of a command that waited for the regions (R419). -/
def wakeCmd (h : CmdHdr) (body : State → State) (s : State) : State :=
  let s1 := body (dropCmd s h.ring h.cid)
  if (findRun s h.ring h.cid).any Running.orphan then discard s1 h.ring h.cid else s1

end Sys2Proof.Machine
end

