-- ==== Sys2Proof/Machine/Busy.lean ====
section
/-!
DEFINITION. What the rules ask of the machine as a whole: whether capture, playback or a measurement runs, which units are in
use, and the access to the tables of units.
-/

namespace Sys2Proof.Machine

/-! Units -/

def handOf (s : State) (h : Nat) : HandSt := tabGet {} s.hands h
def setHand (s : State) (h : Nat) (x : HandSt) : State := s.setHands (tabPut {} s.hands h x)
def grpOf (s : State) (g : Nat) : GroupSt := tabGet {} s.folds.groups g
def setGrp (s : State) (g : Nat) (x : GroupSt) : State := s.modFolds (fun f => { f with groups := tabPut {} f.groups g x })
def foldOf (s : State) (f : Nat) : FoldSt := tabGet {} s.folds.folds f
def setFold (s : State) (f : Nat) (x : FoldSt) : State := s.modFolds (fun t => { t with folds := tabPut {} t.folds f x })
def eqOf (s : State) (q : Nat) : EqSt := tabGet {} s.eq q
def setEqSt (s : State) (q : Nat) (x : EqSt) : State := s.setEq (tabPut {} s.eq q x)
def checkerOf (s : State) (n : Nat) : CheckerSt := tabGet {} s.checkers n
def setChecker (s : State) (n : Nat) (x : CheckerSt) : State := s.setCheckers (tabPut {} s.checkers n x)
def dacOf (s : State) (ch : Nat) : DacSt := tabGet {} s.dac ch
def setDacSt (s : State) (ch : Nat) (x : DacSt) : State := s.setDac (tabPut {} s.dac ch x)
def linkOf (s : State) (g : Nat) : GroupLink := tabGet {} s.link g
def setLinkSt (s : State) (g : Nat) (x : GroupLink) : State := s.setLink (tabPut {} s.link g x)
def tinOf (s : State) (n : Nat) : TinSt := tabGet {} s.tins.ins n
def setTin (s : State) (n : Nat) (x : TinSt) : State := s.modTins (fun t => { t with ins := tabPut {} t.ins n x })
def measOf (s : State) (u : Nat) : MeasSt := tabGet {} s.tins.meas u
def setMeas (s : State) (u : Nat) (x : MeasSt) : State := s.modTins (fun t => { t with meas := tabPut {} t.meas u x })
def cqOf (s : State) (n : Nat) : CqSt := tabGet {} s.cmd.cq n
def setCq (s : State) (n : Nat) (x : CqSt) : State := s.modCmd (fun c => { c with cq := tabPut {} c.cq n x })

/-- Whether every channel of quad `q` is void: its region is quarantined, or a block of it whose failure makes its channels void (R24, R73;
blocks are numbered as in `BoundaryUpset`). -/
def quadVoid (s : State) (q : Nat) : Bool :=
  s.deck.quarRegions.contains q || [q, 24 + q, 28 + q].any s.deck.quarBlocks.contains

/-- The VOID bit of receive position `p` (R103). -/
def posVoid (s : State) (p : Nat) : Bool := rdF s (Reg.INGEST_POS (p / 16) (p % 16)) 16 16 == 1
def setPosVoid (s : State) (p : Nat) (b : Bool) : State :=
  wrF s (Reg.INGEST_POS (p / 16) (p % 16)) 16 16 (if b || quadVoid s (p / 16) then 1 else 0)

/-- Whether REFCLK is lost: holdover has begun and not ended (R414). -/
def refclkGone (s : State) : Bool := s.pwr.holdover.isSome

/-! What runs -/

/-- Some fold group is in a state other than IDLE or STOPPED; STOPPED_OVF counts as STOPPED (R39, R167, R361, R363, R440). -/
def captureBusy (s : State) : Bool :=
  (List.range 16).any (fun g => (grpOf s g).st != .idle && (grpOf s g).st != .stopped && (grpOf s g).st != .stoppedOvf)

/-- Pattern playback runs (R39, R225): a PATTERN_PLAY has started and its playback has not ended. -/
def playing (s : State) : Bool := s.pgen.st != .idle

/-- Some measurement runs (R39, R247). -/
def measuring (s : State) : Bool := (List.range 4).any (fun u => (measOf s u).run.isSome)

/-- The regions sleep (R416). -/
def regionsAsleep (s : State) : Bool :=
  (List.range 5).any (fun r => rdF s Reg.CHIP_PWR_STATE (2 * r + 1) (2 * r) == 3)

/-- A receive group is in a training run, in ACTIVE or in EIDLE (R417). -/
def rxNeedsTime (s : State) : Bool :=
  (List.range 4).any (fun g =>
    match (linkOf s g).st with
    | .detect | .clockLock | .levelTrain | .blockLock | .deskew | .spareMap | .active | .eidle => true
    | .off | .parked | .dataOff => false)

/-- The conditions under which TBASE stops (R417). -/
def tbaseMayStop (s : State) : Bool :=
  (regionsAsleep s || (actDeck s).isNone) && !rxNeedsTime s &&
    !((List.range 16).any (fun n => blkState s (Reg.TIN_CTRL n) == stOn)) &&
    !measuring s && s.tb.wait.isNone &&
    !([32, 33].any (fun ch => blkState s (Reg.DAC_CTRL ch) != stOff && rdF s (Reg.DAC_CTRL ch) 11 10 != 0)) &&
    !((rd s Reg.TBASE_CTRL).getLsbD 0)

/-- The stack of HBM that MEM_POWER holds in self-refresh, or that is OFF, cannot serve commands (R418). -/
def stackUsable (s : State) (n : Nat) : Bool :=
  !s.pwr.held.contains n && rdF s Reg.CHIP_PWR_STATE (13 + 2 * n) (12 + 2 * n) != 0

/-- An access wakes stacks that sleep by themselves (R418). -/
def wakeStacks (s : State) (ns : List Nat) : State :=
  ns.foldl (fun s n =>
    if rdF s Reg.CHIP_PWR_STATE (13 + 2 * n) (12 + 2 * n) = 1 ∧ !s.pwr.held.contains n then
      raiseBit (wrF s Reg.CHIP_PWR_STATE (13 + 2 * n) (12 + 2 * n) 2) Reg.CHIP_PWR_STATUS 11
    else s) s

/-- Bytes delivered into a destination list, and whether the list was too short for them (R331). -/
def deliver (s : State) (dest : BitVec 64) (bs : List Byte) : State × Bool :=
  let l := bufList s dest
  (putBuf s l bs, decide (segsLen l < bs.length))

/-! Drovers (R332) -/

/-- One of several that are equally free: which one is open (notes/assumptions/10.md). -/
def pickFree (s : State) (l : List Nat) : Option (Nat × State) :=
  match l with
  | [] => none
  | a :: _ => some (l.getD ((freeVal 16 s).toNat % l.length) a, useFree s)

/-- The drovers that hold no job. -/
def freeDrovers (s : State) : List Nat := (List.range 8).filter (fun n => !s.drov.jobs.any (fun p => p.1 == n))

/-- Whether a job accepted now finds a drover: those that wait go first. -/
def droverReady (s : State) : Bool := s.drov.waiting.isEmpty && !(freeDrovers s).isEmpty

/-- A drover that is free moves `n` bytes, and counts them (Table 14-9). -/
def drove (s : State) (n : Nat) : State :=
  match pickFree s (freeDrovers s) with
  | none => s
  | some (d, s1) => wr64 s1 (Reg.DROV_BYTES_LO d) (rd64 s1 (Reg.DROV_BYTES_LO d) + n)

/-- The host side of command `i` goes to a drover: it has its effect `go` now, or waits its turn (R332). -/
def carry (h : CmdHdr) (op obj : Nat) (i : Instr) (go : State → State) (s : State) : State :=
  if droverReady s then go s
  else (keepRunning s h op obj 0).modDrov (fun x => { x with
    waiting := x.waiting ++ [{ ring := h.ring, cid := h.cid, check := false, job := .cmd i, seg := 0 }] })

/-! STATE codes -/

/-- Table 6-1. -/
def handCode : HandState → Nat
  | .idle => 0 | .run => 1 | .halted => 2 | .fault => 3

/-- Table 7-4. -/
def groupCode : GroupState → Nat
  | .idle => 0 | .prefill => 1 | .armed => 2 | .post => 3 | .holdoff => 4 | .stopped => 5 | .stoppedOvf => 6

/-- What the Shepherd's record holds of the fold groups and the hands (R346): their STATE codes, groups first. -/
def unitStates (s : State) : List Nat :=
  (List.range 16).map (fun g => groupCode (grpOf s g).st) ++ (List.range 32).map (fun h => handCode (handOf s h).st)

end Sys2Proof.Machine
end

