-- ==== Sys2Proof/Machine/Queues.lean ====
section
/-!
DEFINITION. Event queues (R395-R401): producer words, lines, the two banks, pops, flushes and timeouts.
-/

namespace Sys2Proof.Machine

/-- The banks swap where the draining bank is empty and the filling bank holds a closed line (R396). -/
def eqSwap (e : EqSt) : EqSt := if e.drain.isEmpty && !e.fill.isEmpty then { e with drain := e.fill, fill := [] } else e

/-- Whether a word that opens a line finds the queue full (R399). -/
def eqFull (e : EqSt) : Bool := decide (64 ≤ e.opens.length + e.fill.length) && !e.drain.isEmpty

/-- DEPTH (R396). -/
def eqDepth (e : EqSt) : Nat := e.fill.length + e.drain.length

/-- The open line of a producer. -/
def eqOpen (e : EqSt) (owner : BitVec 12) : Option OpenLine := e.opens.find? (fun l => l.owner == owner)

/-- The queue with the open line of `owner` put to `l`. -/
def eqSetOpen (e : EqSt) (owner : BitVec 12) (l : Option OpenLine) : EqSt :=
  { e with opens := l.toList ++ e.opens.filter (fun o => o.owner != owner), part := e.part.filter (· != owner) }

/-- A line of words (newest first) closes: `last` is the number of valid bytes of its last word, `eoi` that the item ends, `tmo`
that the timeout closed it (R395, R397). -/
def eqClose (e : EqSt) (owner : BitVec 12) (ws : List Word) (last : Nat) (eoi tmo : Bool) : EqSt :=
  let line : Line := { words := (ws.reverse ++ List.replicate 7 0).take 7, ovr := e.ovr, cut := e.cut, tmo := tmo, eoi := eoi,
                       bytes := 4 * (ws.length - 1) + last, lseq := e.lseq }
  let e1 := eqSetOpen e owner none
  { e1 with fill := e.fill ++ [line], ovr := false, cut := false, lseq := e.lseq + 1,
            part := if eoi then e1.part else owner :: e1.part }

/-- What became of a producer word. -/
inductive Landed where
  | ignored
  | dropped
  | overflow
  | landed
deriving DecidableEq, Repr

/-- A producer word at the queue (R395-R399); `bytes` is 0 where the item goes on, else the valid bytes of its last word. -/
def eqWordSt (e0 : EqSt) (owner : BitVec 12) (w : Word) (bytes : Nat) : EqSt × Landed :=
  let e := eqSwap e0
  let last := bytes != 0
  if e.dropping.contains owner then
    ({ e with dropping := if last then e.dropping.filter (· != owner) else e.dropping }, .dropped)
  else
    match eqOpen e owner with
    | none =>
      if eqFull e then
        ({ e with ovr := true, part := e.part.filter (· != owner), dropping := if last then e.dropping else owner :: e.dropping }, .overflow)
      else if last then (eqClose e owner [w] bytes true false, .landed)
      else (eqSetOpen e owner (some { owner := owner, words := [w] }), .landed)
    | some l =>
      let ws := w :: l.words
      if last then (eqClose e owner ws bytes true false, .landed)
      else if 7 ≤ ws.length then (eqClose e owner ws 4 false false, .landed)
      else (eqSetOpen e owner (some { owner := owner, words := ws }), .landed)

/-- The queue changes from `e` to `e'`: LINE is set where DEPTH rises to WMARK (Table 17-9). -/
def eqUpdate (s : State) (q : Nat) (e e' : EqSt) : State :=
  let s1 := setEqSt s q e'
  if eqDepth e < eqDepth e' ∧ eqDepth e' = rdF s (Reg.EQ_CTRL q) 31 24 then raiseBit s1 (Reg.EQ_STATUS q) 0 else s1

/-- Whether queue `q` is ON. -/
def eqOn (s : State) (q : Nat) : Bool := blkState s (Reg.EQ_CTRL q) == stOn

/-- A producer presents a word (R395, R399, R401). -/
def eqWord (s : State) (q : Nat) (owner : BitVec 12) (w : Word) (bytes : Nat) : State × Landed :=
  if !eqOn s q then (s, .ignored)
  else
    let e := eqOf s q
    let p := eqWordSt e owner w bytes
    let s1 := eqUpdate s q e p.1
    match p.2 with
    | .overflow => (incCnt (raise s1 (Reg.EQ_STATUS q) 0x6) (Reg.EQ_DROP_CNT q) 1, .overflow)
    | .dropped => (incCnt s1 (Reg.EQ_DROP_CNT q) 1, .dropped)
    | r => (s1, r)

/-- An item of words, the last of four bytes; whether the queue took it whole. -/
def eqItem (s : State) (q : Nat) (owner : BitVec 12) : List Word → State × Bool
  | [] => (s, true)
  | [w] => let p := eqWord s q owner w 4; (p.1, p.2 == .landed)
  | w :: t =>
    let p := eqWord s q owner w 0
    let r := eqItem p.1 q owner t
    (r.1, r.2 && p.2 == .landed)

/-- A tag word (Table 17-4). -/
def lineTag (l : Line) : Word :=
  BitVec.ofNat 32 (2 ^ 31 + (if l.ovr then 2 ^ 30 else 0) + (if l.cut then 2 ^ 29 else 0) + (if l.tmo then 2 ^ 28 else 0) +
    (if l.eoi then 2 ^ 27 else 0) + l.bytes % 32 * 2 ^ 22 + l.lseq.toNat)

/-- A pop: the queue after it, the tag and the seven words (R398). -/
def eqPopSt (e0 : EqSt) : EqSt × Word × List Word :=
  let e := eqSwap e0
  match e.drain with
  | [] => (e, 0, List.replicate 7 0)
  | l :: t => ({ e with drain := t }, lineTag l, l.words)

/-- A flush (R400): the items part-way written are discarded, and the rest of each is ignored. -/
def eqFlushSt (e0 : EqSt) : EqSt :=
  let e := eqSwap e0
  let cutOff := e.opens.map OpenLine.owner ++ e.part
  if cutOff.isEmpty then e else { e with opens := [], part := [], dropping := e.dropping ++ cutOff, cut := true }

/-- A line times out; a word that arrives in that cycle lands first (R397). -/
def eqTimeoutSt (e : EqSt) (owner : BitVec 12) (word : Option (Word × Nat)) : EqSt :=
  match eqOpen e owner, word with
  | none, _ => e
  | some l, none => eqClose e owner l.words 4 false true
  | some l, some (w, b) => eqClose e owner (w :: l.words) (if b = 0 then 4 else b) (b != 0) true

/-- The `bad` oldest lines show an uncorrectable error and are discarded (R398). -/
def eqSpoil (e0 : EqSt) (bad : Nat) : EqSt :=
  let e := eqSwap e0
  { e with drain := e.drain.drop bad, fill := e.fill.drop (bad - e.drain.length) }

/-- A queue that is cleared: every line is discarded (R401). -/
def eqClear (s : State) (q : Nat) : State := setEqSt s q {}

/-- EQ_PRODUCER_WORD (R395). -/
def execEqProducerWord (q : Fin 32) (owner : BitVec 12) (word : Word) (bytes : Fin 5) (s : State) :
    Host.Outcome State Fault Refusal :=
  .next (eqWord s q owner word bytes).1

/-- EQ_LINE_TIMEOUT (R397). -/
def execEqLineTimeout (q : Fin 32) (owner : BitVec 12) (s : State) (word : Option (Word × Fin 5) := none) : Host.Outcome State Fault Refusal :=
  let w := word.map (fun p => (p.1, p.2.val))
  .next (if eqOn s q then eqUpdate s q (eqOf s q) (eqTimeoutSt (eqOf s q) owner w) else s)

end Sys2Proof.Machine
end

