-- ==== Sys2Proof/Machine/Blocks.lean ====
section
/-!
DEFINITION. Blocks with CTRL.EN and STATE (R375), and the power states of scratch banks (R393).
-/

namespace Sys2Proof.Machine

/-- EN of the block whose CTRL register is at `o`. -/
def blkEn (s : State) (o : Nat) : Bool := (rd s o).getLsbD 0

/-- The block with EN put to `b`. -/
def setEn (s : State) (o : Nat) (b : Bool) : State := wrF s o 0 0 (if b then 1 else 0)

/-- A write to EN (Table 16-3). -/
def writeEn (s : State) (o : Nat) (b : Bool) : State :=
  let st := blkState s o
  let s1 := setEn s o b
  if b then (if st = stOff then setBlkState s1 o stStarting else s1)
  else if st = stStarting ∨ st = stOn ∨ st = stFault then setBlkState s1 o stStopping
  else s1

/-- What a STARTING or STOPPING block settles in: ON, or OFF, or STARTING again where a restart is pending. -/
def settled (s : State) (o : Nat) : Option Nat :=
  let st := blkState s o
  if st = stStarting then some stOn
  else if st = stStopping then some (if blkEn s o then stStarting else stOff)
  else none

/-- DECK_ACTIVATE sets EN: a block that was OFF is ON when the activation ends (notes/assumptions/23.md). -/
def enableNow (s : State) (o : Nat) : State :=
  if blkState s o = stOff then setBlkState (setEn s o true) o stOn else writeEn s o true

/-! Scratch banks -/

/-- The number of banks of MEM region `r` (Table 17-1). -/
def bankCount (r : Nat) : Nat := if r < 4 then 64 else if r = 4 then 32 else if r = 5 then 16 else if r = 6 then 8 else 0

/-- The aperture offset of region `r` (Table 14-3). -/
def regionBase (r : Nat) : Nat := if r < 5 then r * 16 * 2 ^ 20 else if r = 5 then 72 * 2 ^ 20 else if r = 6 then 80 * 2 ^ 20 else 96 * 2 ^ 20

/-- The aperture offset of bank `b`. -/
def bankBase (r b : Nat) : Nat := regionBase r + b * 256 * 1024

/-- The power state of a bank: 0 OFF, 1 RETAIN, 2 ON, 3 CHANGING; regions 5 and 6 are always ON (R393). -/
def bankState (s : State) (r b : Nat) : Nat :=
  if 5 ≤ r then 2 else rdF s (Reg.MEM_BANK_PWR r (b / 16)) (2 * (b % 16) + 1) (2 * (b % 16))

/-- The contents of a bank are lost. -/
def bankLose (s : State) (r b : Nat) : State :=
  let lo := bankBase r b
  let hi := lo + 256 * 1024
  s.modMem (fun m => { m with
    scratch := memErase m.scratch lo hi
    badWords := m.badWords.filter (fun w => !(decide (lo ≤ w) && decide (w < hi))) })

/-- A bank takes a power state: it loses its contents in OFF. -/
def setBank (s : State) (r b v : Nat) : State :=
  let s1 := wrF s (Reg.MEM_BANK_PWR r (b / 16)) (2 * (b % 16) + 1) (2 * (b % 16)) v
  if v = 0 then bankLose s1 r b else s1

/-- Every bank of a list in one state. -/
def setBanks (s : State) (l : List (Nat × Nat)) (v : Nat) : State := l.foldl (fun s p => setBank s p.1 p.2 v) s

end Sys2Proof.Machine
end

