-- ==== Sys2Proof/Machine/Deflate.lean ====
section
/-!
DEFINITION. DEFLATE and zlib streams (R194-R196, R204, R207-R209, RFC 1950, RFC 1951): bits, stored and flush blocks, Adler-32, and
the decoder of the decompression engines with the detail codes of Table 8-4. A stream is a list of bits, each byte's least significant bit
first.
-/

namespace Sys2Proof.Machine

/-! Bits and bytes -/

/-- The bits of a byte. -/
def byteBits (b : Byte) : List Bool := (List.range 8).map b.getLsbD

/-- The bits of a byte string. -/
def bytesBits : List Byte → List Bool
  | [] => []
  | b :: t => byteBits b ++ bytesBits t

/-- The number that bits spell, the first the least significant. -/
def bitsNat : List Bool → Nat
  | [] => 0
  | b :: t => (if b then 1 else 0) + 2 * bitsNat t

/-- The bytes that bits fill, the last one padded with 0; `n` bounds their number. -/
def bitsBytes : Nat → List Bool → List Byte
  | 0, _ => []
  | n + 1, bs => if bs.isEmpty then [] else BitVec.ofNat 8 (bitsNat (bs.take 8)) :: bitsBytes n (bs.drop 8)

/-- The bytes of a bit string. -/
def packBits (bs : List Bool) : List Byte := bitsBytes (bs.length / 8 + 1) bs

/-- 0 bits up to the next byte boundary of a stream of `n` bits. -/
def padBits (n : Nat) : List Bool := List.replicate ((8 - n % 8) % 8) false

/-! Blocks that the compressors make -/

/-- A stored block after `off` bits of a stream (RFC 1951, R196). -/
def storedBits (final : Bool) (off : Nat) (bs : List Byte) : List Bool :=
  [final, false, false] ++ padBits (off + 3) ++ bytesBits (leBytes 2 bs.length ++ leBytes 2 (65535 - bs.length) ++ bs)

/-- The empty stored block of a sync or full flush (Table 8-2). -/
def flushBits (off : Nat) : List Bool := storedBits false off []

/-- The empty final fixed block (R209): BFINAL 1, BTYPE 01, the seven zero bits of symbol 256. -/
def emptyFixed : List Bool := [true, true, false] ++ List.replicate 7 false

/-! Adler-32 (RFC 1950) -/

def adlerStep (p : Nat × Nat) (b : Byte) : Nat × Nat :=
  let a := (p.1 + b.toNat) % 65521
  (a, (p.2 + a) % 65521)

/-- The running sums after `bs`. -/
def adlerOn (p : Nat × Nat) (bs : List Byte) : Nat × Nat := bs.foldl adlerStep p

/-- The Adler-32 of running sums. -/
def adlerWord (p : Nat × Nat) : Nat := p.2 * 65536 + p.1

/-- Four bytes, most significant first (RFC 1950). -/
def beBytes4 (x : Nat) : List Byte := (leBytes 4 x).reverse

/-- A zlib header of R204 and R209. -/
def zlibHeader : List Byte := [0x78, 0x01]

/-! The decoder -/

/-- Where a decoder stands: bits to come, bits taken, output newest first, its length, and the output length at the end of each block,
newest first. -/
structure Inf where
  bits : List Bool
  pos : Nat := 0
  rev : List Byte := []
  len : Nat := 0
  ends : List Nat := []
deriving DecidableEq, Repr

/-- How a decoder stops: the stream has ended, input is wanting, the next byte exceeds the output allowed, or R207 is broken (Table
8-4). -/
inductive InfStop where
  | done
  | short
  | full
  | bad (code : Nat)
deriving DecidableEq, Repr

/-- Takes `n` bits as a number. -/
def infBits (z : Inf) (n : Nat) : Option (Nat × Inf) :=
  let b := z.bits.take n
  if b.length < n then none else some (bitsNat b, { z with bits := z.bits.drop n, pos := z.pos + n })

/-- One byte of output. -/
def infPut (z : Inf) (b : Byte) : Inf := { z with rev := b :: z.rev, len := z.len + 1 }

/-- A canonical code: how many codes each length from 1 on has, and the symbols in code order. -/
structure Huff where
  counts : List Nat
  syms : List Nat
deriving DecidableEq, Repr

/-- The code of a list of lengths, symbol by symbol. -/
def mkHuff (lens : List Nat) : Huff :=
  let ix := (List.range lens.length).zip lens
  { counts := (List.range 15).map (fun i => (lens.filter (· == i + 1)).length)
    syms := (List.range 15).flatMap (fun i => (ix.filter (fun p => p.2 == i + 1)).map Prod.fst) }

/-- What is left of the code space: negative where a code is over-subscribed, 0 where it is complete, in units of 2^-15. -/
def huffLeft (h : Huff) : Int :=
  (2 ^ 15 : Int) - ((((List.range 15).zip h.counts).map (fun p => p.2 * 2 ^ (14 - p.1))).sum : Nat)

/-- Decodes one symbol: `none` where bits are wanting, `some none` where no code matches. -/
def huffGo (syms : List Nat) : List Nat → Nat → Nat → Nat → Inf → Option (Option Nat × Inf)
  | [], _, _, _, z => some (none, z)
  | c :: t, code, first, index, z =>
    match z.bits with
    | [] => none
    | b :: r =>
      let code := code + if b then 1 else 0
      let z1 : Inf := { z with bits := r, pos := z.pos + 1 }
      if code < first + c then some (syms[index + (code - first)]?, z1)
      else huffGo syms t (2 * code) (2 * (first + c)) (index + c) z1

def huffSym (h : Huff) (z : Inf) : Option (Option Nat × Inf) := huffGo h.syms h.counts 0 0 0 z

/-- Base and extra bits of length symbol 257 + i and of distance symbol i (RFC 1951). -/
def lenBase : List Nat :=
  [3, 4, 5, 6, 7, 8, 9, 10, 11, 13, 15, 17, 19, 23, 27, 31, 35, 43, 51, 59, 67, 83, 99, 115, 131, 163, 195, 227, 258]
def lenExtra : List Nat := [0, 0, 0, 0, 0, 0, 0, 0, 1, 1, 1, 1, 2, 2, 2, 2, 3, 3, 3, 3, 4, 4, 4, 4, 5, 5, 5, 5, 0]
def distBase : List Nat :=
  [1, 2, 3, 4, 5, 7, 9, 13, 17, 25, 33, 49, 65, 97, 129, 193, 257, 385, 513, 769, 1025, 1537, 2049, 3073, 4097, 6145, 8193, 12289,
    16385, 24577]
def distExtra : List Nat := [0, 0, 0, 0, 1, 1, 2, 2, 3, 3, 4, 4, 5, 5, 6, 6, 7, 7, 8, 8, 9, 9, 10, 10, 11, 11, 12, 12, 13, 13]

/-- A match of `n` bytes from `d` bytes back; `false` where it exceeds the output allowed. -/
def infCopy (limit d : Nat) : Nat → Inf → Inf × Bool
  | 0, z => (z, true)
  | n + 1, z => if limit ≤ z.len then (z, false) else infCopy limit d n (infPut z ((z.rev[d - 1]?).getD 0))

/-- The symbols of a Huffman block; `none` as the stop where the block has ended. -/
def infCodes (limit : Nat) (lh dh : Huff) : Nat → Inf → Inf × Option InfStop
  | 0, z => (z, some .short)
  | fuel + 1, z =>
    match huffSym lh z with
    | none => (z, some .short)
    | some (none, z1) => (z1, some (.bad 5))
    | some (some y, z1) =>
      if y < 256 then
        if limit ≤ z.len then (z1, some .full) else infCodes limit lh dh fuel (infPut z1 (BitVec.ofNat 8 y))
      else if y = 256 then (z1, none)
      else if 285 < y then (z1, some (.bad 5))
      else
        match infBits z1 (lenExtra[y - 257]?.getD 0) with
        | none => (z, some .short)
        | some (le, z2) =>
          match huffSym dh z2 with
          | none => (z, some .short)
          | some (none, z3) => (z3, some (.bad 5))
          | some (some ds, z3) =>
            if 29 < ds then (z3, some (.bad 5))
            else
              match infBits z3 (distExtra[ds]?.getD 0) with
              | none => (z, some .short)
              | some (de, z4) =>
                let d := (distBase[ds]?.getD 1) + de
                if z4.len < d then (z4, some (.bad 6))
                else
                  let r := infCopy limit d ((lenBase[y - 257]?.getD 0) + le) z4
                  if r.2 then infCodes limit lh dh fuel r.1 else (r.1, some .full)

/-- A stored block's bytes. -/
def infStored (limit : Nat) : Nat → Inf → Inf × Option InfStop
  | 0, z => (z, none)
  | n + 1, z =>
    match infBits z 8 with
    | none => (z, some .short)
    | some (b, z1) => if limit ≤ z.len then (z, some .full) else infStored limit n (infPut z1 (BitVec.ofNat 8 b))

/-- The fixed codes (RFC 1951). -/
def fixedLit : Huff :=
  mkHuff (List.replicate 144 8 ++ List.replicate 112 9 ++ List.replicate 24 7 ++ List.replicate 8 8)
def fixedDist : Huff := mkHuff (List.replicate 32 5)

/-- The order in which code-length code lengths are sent. -/
def clenOrder : List Nat := [16, 17, 18, 0, 8, 7, 9, 6, 10, 5, 11, 4, 12, 3, 13, 2, 14, 1, 15]

/-- `n` three-bit lengths. -/
def infTriples : Nat → Inf → Option (List Nat × Inf)
  | 0, z => some ([], z)
  | n + 1, z =>
    match infBits z 3 with
    | none => none
    | some (v, z1) => (infTriples n z1).map (fun p => (v :: p.1, p.2))

/-- The code lengths of a dynamic block, newest first, until `n` are there: `.error none` where bits are wanting. -/
def infLens (h : Huff) (n : Nat) : Nat → List Nat → Inf → Except (Option Nat) (List Nat × Inf)
  | 0, _, _ => .error none
  | fuel + 1, l, z =>
    if n ≤ l.length then .ok (l, z)
    else
      match huffSym h z with
      | none => .error none
      | some (none, _) => .error (some 5)
      | some (some y, z1) =>
        if y < 16 then infLens h n fuel (y :: l) z1
        else
          let k := if y = 16 then (2, 3) else if y = 17 then (3, 3) else (7, 11)
          match infBits z1 k.1 with
          | none => .error none
          | some (v, z2) =>
            let m := k.2 + v
            if (y = 16 ∧ l = []) ∨ n < l.length + m then .error (some 4)
            else infLens h n fuel (List.replicate m (if y = 16 then l.headD 0 else 0) ++ l) z2

/-- The two codes of a dynamic block header. -/
def infTables (z : Inf) : Except (Option Nat) (Huff × Huff × Inf) :=
  match infBits z 14 with
  | none => .error none
  | some (v, z1) =>
    let nl := v % 32 + 257
    let nd := v / 32 % 32 + 1
    let nc := v / 1024 + 4
    if 286 < nl ∨ 30 < nd then .error (some 4)
    else
      match infTriples nc z1 with
      | none => .error none
      | some (cl, z2) =>
        let ch := mkHuff ((List.range 19).map (fun i => cl[clenOrder.idxOf i]?.getD 0))
        if huffLeft ch ≠ 0 then .error (some 4)
        else
          match infLens ch (nl + nd) (nl + nd + 1) [] z2 with
          | .error e => .error e
          | .ok (rev, z3) =>
            let lens := rev.reverse
            let lh := mkHuff (lens.take nl)
            let dl := lens.drop nl
            let dh := mkHuff dl
            let one := dl.all (· ≤ 1) && decide ((dl.filter (· == 1)).length ≤ 1)
            if huffLeft lh ≠ 0 ∨ (huffLeft dh ≠ 0 ∧ !one) ∨ lens[256]?.getD 0 = 0 then .error (some 4)
            else .ok (lh, dh, z3)

/-- One block after its three header bits. -/
def infBlock (limit type : Nat) (z : Inf) : Inf × Option InfStop :=
  if type = 0 then
    let skip := (8 - z.pos % 8) % 8
    match infBits { z with bits := z.bits.drop skip, pos := z.pos + skip } 32 with
    | none => (z, some .short)
    | some (v, z1) => if v / 65536 ≠ 65535 - v % 65536 then (z1, some (.bad 3)) else infStored limit (v % 65536) z1
  else if type = 1 then infCodes limit fixedLit fixedDist (z.bits.length + 1) z
  else if type = 2 then
    match infTables z with
    | .error none => (z, some .short)
    | .error (some c) => (z, some (.bad c))
    | .ok (lh, dh, z1) => infCodes limit lh dh (z1.bits.length + 1) z1
  else (z, some (.bad 2))

/-- Blocks up to the final one. -/
def infBlocks (limit : Nat) : Nat → Inf → Inf × InfStop
  | 0, z => (z, .short)
  | fuel + 1, z =>
    match infBits z 3 with
    | none => (z, .short)
    | some (v, z1) =>
      match infBlock limit (v / 2) z1 with
      | (z2, some st) => (z2, st)
      | (z2, none) =>
        let z3 : Inf := { z2 with ends := z2.len :: z2.ends }
        if v % 2 = 1 then (z3, .done) else infBlocks limit fuel z3

/-- Raw DEFLATE from a byte string, `limit` bytes of output at most. -/
def inflateRaw (limit : Nat) (bs : List Byte) : Inf × InfStop :=
  let bits := bytesBits bs
  infBlocks limit (bits.length + 1) { bits := bits }

/-- What an inflation gave: output, bytes of input taken, output length at each block's end, how it stopped, and the trailer's Adler-32
in ZLIB format. -/
structure Inflated where
  out : List Byte
  used : Nat
  ends : List Nat
  stop : InfStop
  adler : Option Nat
deriving DecidableEq, Repr

/-- A zlib header keeps R207. -/
def zlibOk (a b : Nat) : Bool := a % 16 == 8 && decide (a / 16 ≤ 7) && (256 * a + b) % 31 == 0 && !nbit b 5

/-- A stream in RAW or ZLIB format (R207). -/
def inflate (zlib : Bool) (limit : Nat) (bs : List Byte) : Inflated :=
  let of (skip : Nat) (r : Inf × InfStop) : Inflated :=
    { out := r.1.rev.reverse, used := skip + (r.1.pos + 7) / 8, ends := r.1.ends.reverse, stop := r.2, adler := none }
  if !zlib then of 0 (inflateRaw limit bs)
  else
    match bs with
    | a :: b :: t =>
      if !zlibOk a.toNat b.toNat then { out := [], used := 2, ends := [], stop := .bad 1, adler := none }
      else
        let r := of 2 (inflateRaw limit t)
        if r.stop = .done then
          let tr := (bs.drop r.used).take 4
          if tr.length < 4 then { r with stop := .short, used := bs.length }
          else { r with used := r.used + 4, adler := some (leNat tr.reverse) }
        else r
    | _ => { out := [], used := bs.length, ends := [], stop := .short, adler := none }

/-! The coder (R194-R196) -/

/-- A literal, or a match: length and distance. -/
inductive Token where
  | lit (b : Byte)
  | copy (len dist : Nat)
deriving DecidableEq, Repr

/-- The bytes of a compressor's history (Table 8-2). -/
def histLen : Nat := 16384

/-- The history, newest first, after `bs`. -/
def histOn (hist bs : List Byte) : List Byte := (bs.reverse ++ hist).take histLen

/-- Byte `i` of a match from `dist` back, before `rest` and after the history `hist`, newest first. -/
def copyByte (hist rest : List Byte) (dist i : Nat) : Option Byte :=
  if i < dist then hist[dist - 1 - i]? else rest[i - dist]?

/-- Whether a match keeps Table 8-2 and repeats what stands there. -/
def copyOk (hist rest : List Byte) (len dist : Nat) : Bool :=
  decide (4 ≤ len) && decide (len ≤ 258) && decide (len ≤ rest.length) && decide (1 ≤ dist) && decide (dist ≤ hist.length) &&
    (List.range len).all (fun i => copyByte hist rest dist i == rest[i]?)

/-- The tokens of `rest`: at each place the match that the search finds, which the spec leaves open (notes/assumptions/12.md), or a literal.
`p` is the place in the block `n`. -/
def tokensOf (search n : Nat) : Nat → Nat → List Byte → List Byte → List Token
  | 0, _, _, _ => []
  | _, _, _, [] => []
  | fuel + 1, p, hist, b :: t =>
    let m := Config.matchAt search n p
    if copyOk (hist.take histLen) (b :: t) m.1 m.2 then
      .copy m.1 m.2 :: tokensOf search n fuel (p + m.1) (((b :: t).take m.1).reverse ++ hist) ((b :: t).drop m.1)
    else .lit b :: tokensOf search n fuel (p + 1) (b :: hist) t

/-- The code of symbol `y`: the lengths from `len` on, the first code of that length, and the place of its first symbol. -/
def huffCodeGo (i : Nat) : List Nat → Nat → Nat → Nat → List Bool
  | [], _, _, _ => []
  | c :: t, len, first, index =>
    if i < index + c then ((List.range len).map (fun k => nbit (first + (i - index)) k)).reverse
    else huffCodeGo i t (len + 1) (2 * (first + c)) (index + c)

/-- The bits of symbol `y`, the most significant first (RFC 1951). -/
def huffCode (h : Huff) (y : Nat) : List Bool := huffCodeGo (h.syms.idxOf y) h.counts 1 0 0

/-- `n` bits of a number, the least significant first. -/
def lowBits (n v : Nat) : List Bool := (List.range n).map (nbit v)

/-- The symbol whose values begin at or below `v`: the last of the bases that do not exceed it. -/
def symOf (bases : List Nat) (v : Nat) : Nat := (bases.filter (· ≤ v)).length - 1

/-- The literal/length and the distance symbols that a token needs. -/
def tokenSyms : Token → List Nat × List Nat
  | .lit b => ([b.toNat], [])
  | .copy l d => ([257 + symOf lenBase l], [symOf distBase d])

/-- The bits of a token. -/
def tokenBits (lh dh : Huff) : Token → List Bool
  | .lit b => huffCode lh b.toNat
  | .copy l d =>
    let a := symOf lenBase l
    let b := symOf distBase d
    huffCode lh (257 + a) ++ lowBits (lenExtra[a]?.getD 0) (l - lenBase[a]?.getD 0) ++ huffCode dh b ++
      lowBits (distExtra[b]?.getD 0) (d - distBase[b]?.getD 0)

/-- A coded block: its bits, whether it is stored, and at the end of each piece of its input the bits up to there, with the end-of-block
code (R201). A stored block can be cut only where it ends. -/
structure Coded where
  bits : List Bool
  stored : Bool
  cuts : List (Nat × List Bool)
deriving DecidableEq, Repr

/-- The pieces of a Huffman block one after another. -/
def codePieces (lh dh : Huff) : List Bool → List (List Token) → List Bool × List (Nat × List Bool)
  | out, [] => (out, [])
  | out, t :: ts =>
    let o := out ++ t.flatMap (tokenBits lh dh)
    let r := codePieces lh dh o ts
    (r.1, (o.length, huffCode lh 256) :: r.2)

/-- A Huffman block of type `type` with table header `head`. -/
def huffBlock (final : Bool) (type : List Bool) (head : List Bool) (lh dh : Huff) (ts : List (List Token)) : Coded :=
  let r := codePieces lh dh ([final] ++ type ++ head) ts
  { bits := r.1 ++ huffCode lh 256, stored := false, cuts := r.2 }

/-- The tables that the engine builds for a block, where they are ones that R194 allows: the header is used up, every symbol of the block has
a code, and HLIT and HDIST are as small as the codes allow. Which tables it builds is open (notes/assumptions/12.md). -/
def dynTables (n : Nat) (ts : List (List Token)) : Option (List Bool × Huff × Huff) :=
  let head := Config.dynHeader n
  match infTables { bits := head } with
  | .ok (lh, dh, z) =>
    let v := bitsNat (head.take 10)
    let nl := v % 32 + 257
    let nd := v / 32 + 1
    let used := ts.flatten.map tokenSyms
    if z.bits.isEmpty && used.all (fun u => u.1.all lh.syms.contains && u.2.all dh.syms.contains) &&
        (nl == 257 || lh.syms.contains (nl - 1)) && (nd == 1 || dh.syms.contains (nd - 1)) then some (head, lh, dh)
    else none
  | .error _ => none

/-- The shorter of two codings, the first where they are equal (R196). -/
def shorter (a b : Coded) : Coded := if b.bits.length < a.bits.length then b else a

/-- Pieces of input with the history and the place before each. -/
def pieceTokens (search n : Nat) : Nat → List Byte → List (List Byte) → List (List Token)
  | _, _, [] => []
  | p, hist, b :: t => tokensOf search n (b.length + 1) p hist b :: pieceTokens search n (p + b.length) (histOn hist b) t

/-- A block coded in the shortest type its mode allows, preferring stored, then fixed, then dynamic (R196): `mode` is 0 stored, 1 fixed, 2
dynamic; `pass` is what the shadow decoder found (R197). The input comes in pieces; no match crosses from one into the next, so that a cut
point lies between them (R201; DEDUCED, notes/assumptions/12.md). -/
def codeBlock (mode search n : Nat) (pass final : Bool) (off : Nat) (hist : List Byte) (pieces : List (List Byte)) : Coded :=
  let bits := storedBits final off pieces.flatten
  let st : Coded := { bits := bits, stored := true, cuts := [] }
  if mode = 0 ∨ !pass then st
  else
    let ts := pieceTokens search n 0 hist pieces
    let fx := shorter st (huffBlock final [true, false] [] fixedLit fixedDist ts)
    if mode = 1 then fx
    else match dynTables n ts with
      | some (head, lh, dh) => shorter fx (huffBlock final [false, true] head lh dh ts)
      | none => fx

end Sys2Proof.Machine
end

