-- ==== Sys2Proof/Machine/Channels.lean ====
section
/-!
DEFINITION. Channels, positions and brands: the lane sets of the rate modes (R85, R86), and CRC-32C (R100).
-/

namespace Sys2Proof.Machine

/-- One bit of the reflected CRC-32C division. -/
def crcBit (c : BitVec 32) : BitVec 32 := if c.getLsbD 0 then (c >>> 1) ^^^ 0x82F63B78 else c >>> 1

/-- One byte of it. -/
def crcByte (c : BitVec 32) (b : Byte) : BitVec 32 :=
  crcBit (crcBit (crcBit (crcBit (crcBit (crcBit (crcBit (crcBit (c ^^^ b.zeroExtend 32))))))))

/-- CRC-32C of a byte string (R100). -/
def crc32c (bs : List Byte) : BitVec 32 := ~~~(bs.foldl crcByte 0xFFFFFFFF)

/-- The number of channels at rate mode `k`. -/
def nChan (k : Nat) : Nat := 1024 / k

/-- The lane set of channel `c` (R85). -/
def laneSet (k c : Nat) : List Nat := (List.range k).map (fun i => k * (c / 16) + i)

/-- The position that carries sample `s` of channel `c` (R86). -/
def samplePos (k c s : Nat) : Nat := k * (c / 16) + s / 16 % k

/-- The first of the 16 channels that position `p` carries. -/
def posChan (k p : Nat) : Nat := 16 * (p / k)

/-- The quad of channel `c`. -/
def chanQuad (k c : Nat) : Nat := k * (c / 16) / 16

/-- The channel that is quad-local number `i` of quad `q` (R111). -/
def quadChan (k q i : Nat) : Nat := 256 / k * q + i

/-- The positions that carry any of `n` channels from `c`. -/
def chanPositions (k c n : Nat) : List Nat :=
  ((List.range n).flatMap (fun i => laneSet k (c + i))).eraseDups.filter (· < 64)

end Sys2Proof.Machine
end

