-- ==== Sys2Proof/Machine/Crypto.lean ====
section
/-!
DEFINITION. The two standards by which the device judges decks, firmware, authorisations and licences (R55, R62, R441, R445): SHA-384
and ECDSA P-384 signature verification.
-/

namespace Sys2Proof.Machine

/-! SHA-384 -/

/-- The round constants: the first 64 bits of the fractional parts of the cube roots of the first 80 primes. -/
def shaRound1 : List (BitVec 64) :=
  [0x428A2F98D728AE22, 0x7137449123EF65CD, 0xB5C0FBCFEC4D3B2F, 0xE9B5DBA58189DBBC,
   0x3956C25BF348B538, 0x59F111F1B605D019, 0x923F82A4AF194F9B, 0xAB1C5ED5DA6D8118,
   0xD807AA98A3030242, 0x12835B0145706FBE, 0x243185BE4EE4B28C, 0x550C7DC3D5FFB4E2,
   0x72BE5D74F27B896F, 0x80DEB1FE3B1696B1, 0x9BDC06A725C71235, 0xC19BF174CF692694,
   0xE49B69C19EF14AD2, 0xEFBE4786384F25E3, 0x0FC19DC68B8CD5B5, 0x240CA1CC77AC9C65,
   0x2DE92C6F592B0275, 0x4A7484AA6EA6E483, 0x5CB0A9DCBD41FBD4, 0x76F988DA831153B5,
   0x983E5152EE66DFAB, 0xA831C66D2DB43210, 0xB00327C898FB213F, 0xBF597FC7BEEF0EE4,
   0xC6E00BF33DA88FC2, 0xD5A79147930AA725, 0x06CA6351E003826F, 0x142929670A0E6E70,
   0x27B70A8546D22FFC, 0x2E1B21385C26C926, 0x4D2C6DFC5AC42AED, 0x53380D139D95B3DF,
   0x650A73548BAF63DE, 0x766A0ABB3C77B2A8, 0x81C2C92E47EDAEE6, 0x92722C851482353B]

/-- The rest of them. -/
def shaRound2 : List (BitVec 64) :=
  [0xA2BFE8A14CF10364, 0xA81A664BBC423001, 0xC24B8B70D0F89791, 0xC76C51A30654BE30,
   0xD192E819D6EF5218, 0xD69906245565A910, 0xF40E35855771202A, 0x106AA07032BBD1B8,
   0x19A4C116B8D2D0C8, 0x1E376C085141AB53, 0x2748774CDF8EEB99, 0x34B0BCB5E19B48A8,
   0x391C0CB3C5C95A63, 0x4ED8AA4AE3418ACB, 0x5B9CCA4F7763E373, 0x682E6FF3D6B2B8A3,
   0x748F82EE5DEFB2FC, 0x78A5636F43172F60, 0x84C87814A1F0AB72, 0x8CC702081A6439EC,
   0x90BEFFFA23631E28, 0xA4506CEBDE82BDE9, 0xBEF9A3F7B2C67915, 0xC67178F2E372532B,
   0xCA273ECEEA26619C, 0xD186B8C721C0C207, 0xEADA7DD6CDE0EB1E, 0xF57D4F7FEE6ED178,
   0x06F067AA72176FBA, 0x0A637DC5A2C898A6, 0x113F9804BEF90DAE, 0x1B710B35131C471B,
   0x28DB77F523047D84, 0x32CAAB7B40C72493, 0x3C9EBE0A15C9BEBC, 0x431D67C49C100D4C,
   0x4CC5D4BECB3E42B6, 0x597F299CFC657E2A, 0x5FCB6FAB3AD6FAEC, 0x6C44198C4A475817]

/-- The initial hash value: those of the square roots of the ninth to the sixteenth prime. -/
def shaInit : List (BitVec 64) :=
  [0xCBBB9D5DC1059ED8, 0x629A292A367CD507, 0x9159015A3070DD17, 0x152FECD8F70E5939,
   0x67332667FFC00B31, 0x8EB44A8768581511, 0xDB0C2E0D64F98FA7, 0x47B5481DBEFA4FA4]

/-- A number as bytes give it, the most significant first. -/
def beNat (bs : List Byte) : Nat := bs.foldl (fun a b => a * 256 + b.toNat) 0

/-- The next word of the message schedule, from the last sixteen, newest first. -/
def shaNext (w : List (BitVec 64)) : BitVec 64 :=
  let a := w.getD 14 0
  let b := w.getD 1 0
  w.getD 15 0 + (a.rotateRight 1 ^^^ a.rotateRight 8 ^^^ (a >>> 7)) + w.getD 6 0 +
    (b.rotateRight 19 ^^^ b.rotateRight 61 ^^^ (b >>> 6))

/-- `n` more words of the schedule. -/
def shaSchedule : Nat → List (BitVec 64) → List (BitVec 64)
  | 0, w => w
  | n + 1, w => shaSchedule n (shaNext w :: w)

/-- One round on the working variables a to h, with its constant and its word. -/
def shaRound (v : List (BitVec 64)) (k w : BitVec 64) : List (BitVec 64) :=
  match v with
  | [a, b, c, d, e, f, g, h] =>
    let t1 := h + (e.rotateRight 14 ^^^ e.rotateRight 18 ^^^ e.rotateRight 41) + ((e &&& f) ^^^ (~~~e &&& g)) + k + w
    let t2 := (a.rotateRight 28 ^^^ a.rotateRight 34 ^^^ a.rotateRight 39) + ((a &&& b) ^^^ (a &&& c) ^^^ (b &&& c))
    [t1 + t2, a, b, c, d + t1, e, f, g]
  | _ => v

/-- One block of 128 bytes. -/
def shaBlock (v : List (BitVec 64)) (bs : List Byte) : List (BitVec 64) :=
  let w := ((List.range 16).map (fun i => BitVec.ofNat 64 (beNat ((bs.drop (8 * i)).take 8)))).reverse
  let ws := (shaSchedule 64 w).reverse
  List.zipWith (· + ·) v (((shaRound1 ++ shaRound2).zip ws).foldl (fun v p => shaRound v p.1 p.2) v)

/-- `n` blocks. -/
def shaBlocks : Nat → List (BitVec 64) → List Byte → List (BitVec 64)
  | 0, v, _ => v
  | n + 1, v, bs => shaBlocks n (shaBlock v (bs.take 128)) (bs.drop 128)

/-- The message with its padding: a one bit, zeros, and its length in bits as 16 bytes, the most significant first. -/
def shaPad (bs : List Byte) : List Byte :=
  let n := bs.length
  bs ++ [0x80] ++ List.replicate ((239 - n % 128) % 128) 0 ++ (leBytes 16 (8 * n)).reverse

/-- SHA-384 of a byte string, as the number that its 48 bytes give, the most significant first. -/
def sha384 (bs : List Byte) : BitVec 384 :=
  let p := shaPad bs
  BitVec.ofNat 384 (((shaBlocks (p.length / 128) shaInit p).take 6).foldl (fun a w => a * 2 ^ 64 + w.toNat) 0)

/-! ECDSA P-384 -/

/-- The field prime, the curve's b, the order of its base point, and that point. -/
def ecP : Nat := 2 ^ 384 - 2 ^ 128 - 2 ^ 96 + 2 ^ 32 - 1
def ecB : Nat :=
  0xB3312FA7E23EE7E4988E056BE3F82D19181D9C6EFE8141120314088F5013875AC656398D8A2ED19D2A85C8EDD3EC2AEF
def ecN : Nat :=
  0xFFFFFFFFFFFFFFFFFFFFFFFFFFFFFFFFFFFFFFFFFFFFFFFFC7634D81F4372DDF581A0DB248B0A77AECEC196ACCC52973
def ecG : Nat × Nat :=
  (0xAA87CA22BE8B05378EB1C71EF320AD746E1D3B628BA79B9859F741E082542A385502F25DBF55296C3A545E3872760AB7,
    0x3617DE4A96262C6F5D9E98BF9292DC29F8F41DBD289A147CE9DA3113B5F0B8C00A60B1CE1D7E819D7A431D7C90EA0E5F)

/-- `a` to the power `e` modulo `m`, for exponents below 2 ^ 384. -/
def powMod (m a e : Nat) : Nat :=
  (List.range 384).reverse.foldl (fun r i =>
    let q := r * r % m
    if e.testBit i then q * a % m else q) 1

/-- The inverse modulo a prime. -/
def invMod (m a : Nat) : Nat := powMod m a (m - 2)

/-- The sum of two points of the curve; none is the point at infinity. -/
def ecAdd (p q : Option (Nat × Nat)) : Option (Nat × Nat) :=
  match p, q with
  | none, q => q
  | p, none => p
  | some (x1, y1), some (x2, y2) =>
    if x1 = x2 ∧ (y1 + y2) % ecP = 0 then none
    else
      let l := if x1 = x2 then (3 * x1 * x1 + ecP - 3) * invMod ecP (2 * y1 % ecP) % ecP
        else (y2 + ecP - y1) * invMod ecP ((x2 + ecP - x1) % ecP) % ecP
      let x := (l * l + 2 * ecP - x1 - x2) % ecP
      some (x, (l * (x1 + ecP - x) + ecP - y1) % ecP)

/-- u × p + v × q. -/
def ecMul2 (u v : Nat) (p q : Nat × Nat) : Option (Nat × Nat) :=
  (List.range 384).reverse.foldl (fun r i =>
    let r1 := ecAdd r r
    let r2 := if u.testBit i then ecAdd r1 (some p) else r1
    if v.testBit i then ecAdd r2 (some q) else r2) none

/-- Whether a point lies on the curve. -/
def ecOn (q : Nat × Nat) : Bool :=
  decide (q.1 < ecP) && decide (q.2 < ecP) && q.2 * q.2 % ecP == (q.1 * q.1 * q.1 + (ecP - 3) * q.1 + ecB) % ecP

/-- An uncompressed public key of 97 bytes (R442). -/
def ecKey (key : List Byte) : Option (Nat × Nat) :=
  let q := (beNat ((key.drop 1).take 48), beNat ((key.drop 49).take 48))
  if key.length = 97 ∧ key.head? = some 4 ∧ ecOn q = true then some q else none

/-- Whether (r, s) is an ECDSA P-384 signature of the digest under a public key (R62, R441, R445). -/
def ecdsaOk (key : List Byte) (digest r s : BitVec 384) : Bool :=
  match ecKey key with
  | none => false
  | some q =>
    let w := invMod ecN s.toNat
    decide (1 ≤ r.toNat) && decide (r.toNat < ecN) && decide (1 ≤ s.toNat) && decide (s.toNat < ecN) &&
      (match ecMul2 (digest.toNat * w % ecN) (r.toNat * w % ecN) ecG q with
       | none => false
       | some p => p.1 % ecN == r.toNat)

/-- The same under the vendor's key, whose SHA-384 hash is fused (R441, R445; notes/assumptions/11.md). -/
def vendorSigOk (hash digest r s : BitVec 384) : Bool :=
  sha384 Config.vendorKey == hash && ecdsaOk Config.vendorKey digest r s

end Sys2Proof.Machine
end

