-- ==== Sys2Proof/Machine/Serves.lean ====
section
/-!
DEFINITION. What the kernels of a deck are given (Table 3-9, R466), and which units serve a fold group (R462).
-/

namespace Sys2Proof.Machine

/-- A kernel step: (logical engine, number n) of the four it may run. -/
abbrev KInst := Nat × Nat

/-- Every valid one. -/
def allInsts (d : DeckImage) : List KInst :=
  (List.range 1024).filterMap (fun i => if kValid d (i / 4) (i % 4) then some (i / 4, i % 4) else none)

def kidOf (d : DeckImage) (i : KInst) : Nat := kKid d i.1 i.2
def par (d : DeckImage) (i : KInst) (o n : Nat) : Nat := kParam d i.1 i.2 o n

/-! PARAM fields (notes/assumptions/14.md) -/

def pTransGroup (d : DeckImage) (i : KInst) : Nat := par d i 0 2
def pTransChan (d : DeckImage) (i : KInst) : Nat := par d i 2 2
def pTransFold (d : DeckImage) (i : KInst) : Nat := par d i 4 1
def pWinChan (d : DeckImage) (i : KInst) : Nat := par d i 0 2
def pWinLog (d : DeckImage) (i : KInst) : Nat := par d i 2 1
def pWinFold (d : DeckImage) (i : KInst) : Nat := par d i 3 1
def pPackPos (d : DeckImage) (i : KInst) (j : Nat) : Nat := par d i j 1
def pPackFold (d : DeckImage) (i : KInst) : Nat := par d i 4 1
def pKeyBus (d : DeckImage) (i : KInst) : Nat := par d i 0 2
def pKeyPos (d : DeckImage) (i : KInst) (j : Nat) : Nat := par d i (2 + j) 1
def pKeyQual (d : DeckImage) (i : KInst) : Nat := par d i 14 2
def pKeyTarget (d : DeckImage) (i : KInst) : KInst := instRef (kOut d i.1 i.2)
def pLookFlock (d : DeckImage) (i : KInst) : Nat := par d i 0 1
def pLookPort (d : DeckImage) (i : KInst) : Nat := par d i 1 1
def pCmpChecker (d : DeckImage) (i : KInst) : Nat := par d i 0 1
def pCmpChan (d : DeckImage) (i : KInst) : Nat := par d i 1 2
def pCmpTol (d : DeckImage) (i : KInst) : Nat := par d i 3 1
def pExpPos (d : DeckImage) (i : KInst) : Nat := par d i 0 1
def pBrandFold (d : DeckImage) (i : KInst) : Nat := par d i 0 1
def pHashEngine (d : DeckImage) (i : KInst) : Nat := par d i 0 1
def pVoidPos (d : DeckImage) (i : KInst) : Nat := par d i 0 1
def pVoidCnt (d : DeckImage) (i : KInst) : Nat := par d i 1 1
def pVoidFold (d : DeckImage) (i : KInst) : Nat := par d i 2 1
def pBus (d : DeckImage) (i : KInst) : Nat := par d i 0 2
def pBusWidth (d : DeckImage) (i : KInst) : Nat := par d i 2 1 + 1
def pQualGroup (d : DeckImage) (i : KInst) : Nat := par d i 0 1
def pDecN (d : DeckImage) (i : KInst) : Nat := par d i 0 1
def pDecChan (d : DeckImage) (i : KInst) : Nat := par d i 1 2
def pFeedCnt (d : DeckImage) (i : KInst) : Nat := par d i 0 1
def pFeedSrc (d : DeckImage) (i : KInst) : Nat := par d i 1 2

/-- The kernel of a reduction (Table 7-1). -/
def redKid (red : Nat) : Nat :=
  if red = 0 then 4 else if red = 1 then 1 else if red = 2 then 2 else if red = 3 then 3 else 0xD

/-- The fold that PARAM names, for the kernels that name one. -/
def instFold (d : DeckImage) (i : KInst) : Option Nat :=
  let k := kidOf d i
  if k = 1 then some (pTransFold d i) else if k = 2 ∨ k = 3 then some (pWinFold d i)
  else if k = 4 then some (pPackFold d i) else if k = 9 then some (pBrandFold d i)
  else if k = 0xB then some (pVoidFold d i) else none

/-- How many bytes of PARAM a kernel has (Table 3-9, Table 3-17, R92). -/
def parUsed (kid : Nat) : Nat := ([0, 5, 4, 4, 5, 16, 2, 4, 3, 1, 1, 3, 3, 3, 3, 3].drop kid).headD 20

/-- What DECIMATE gives for sample `i` of its 64 channels (Table 3-9): it keeps one in 2^n, the samples whose index is a multiple of it
(notes/assumptions/14.md). -/
def decimated (d : DeckImage) (j : KInst) (value : Nat → Sample → Bool) (i : Sample) : Option (List Bool) :=
  if i % 2 ^ pDecN d j = 0 then some ((List.range 64).map (fun c => value (pDecChan d j + c) i)) else none

/-- The quad of an engine. -/
def engQuad (l : Nat) : Nat := l / 64

/-- The positions whose blocks a kernel reads. -/
def instPositions (d : DeckImage) (i : KInst) : List Nat :=
  let k := kidOf d i
  let m := dkK d
  if k = 1 then chanPositions m (pTransChan d i) 64
  else if k = 2 ∨ k = 3 then chanPositions m (pWinChan d i) 64
  else if k = 4 then (List.range 4).map (pPackPos d i)
  else if k = 7 then chanPositions m (pCmpChan d i) 64
  else if k = 0xB then (List.range (pVoidCnt d i)).map (fun j => pVoidPos d i + j)
  else if k = 0xC then
    ((List.range (pBusWidth d i)).flatMap (fun j =>
      laneSet m (quadChan m (engQuad i.1) (busEntry d (pBus d i) j)))).eraseDups
  else if k = 0xD then (List.range 16).map (fun j => 16 * pQualGroup d i + j)
  else if k = 0xE then chanPositions m (pDecChan d i) 64
  else []

/-! Recognizers as sources -/

def rPatMask (d : DeckImage) (r c : Nat) : Bool := nbit (recB d r (128 + c / 8) 1) (c % 8)
def rPatValue (d : DeckImage) (r c : Nat) : Bool := nbit (recB d r (c / 8) 1) (c % 8)
def rEdgeCode (d : DeckImage) (r c : Nat) : Nat := nbits (recB d r (c / 4) 1) (2 * (c % 4) + 1) (2 * (c % 4))
def rRangeQuad (d : DeckImage) (r : Nat) : Nat := nbits (recCtrl d r) 6 5
def rRangeWidth (d : DeckImage) (r : Nat) : Nat := nbits (recCtrl d r) 13 8 + 1
def rRangeChan (d : DeckImage) (r i : Nat) : Nat := quadChan (dkK d) (rRangeQuad d r) (recB d r i 1)
def rSrcA (d : DeckImage) (r : Nat) : Nat := nbits (recCtrl d r) 13 4
def rSrcB (d : DeckImage) (r : Nat) : Nat := nbits (recCtrl d r) 23 14
def rQual (d : DeckImage) (r : Nat) : Option Nat :=
  if nbit (recCtrl d r) 4 then some (nbits (recCtrl d r) 11 5) else none

/-- The recognizers that recognizer `r` uses directly. -/
def recSources (d : DeckImage) (r : Nat) : List Nat :=
  if 0x140 ≤ r ∧ r < 0x1A0 then [rSrcA d r, rSrcB d r].filter (· < 0x1C2)
  else if 0x80 ≤ r ∧ r < 0x100 then (rQual d r).toList else []

/-- `r` and everything it uses: sources are two levels deep at most (R113, R115). -/
def recClosure (d : DeckImage) (r : Nat) : List Nat :=
  let a := recSources d r
  r :: a ++ a.flatMap (recSources d)

/-- The positions that carry a channel that recognizer `r` reads. -/
def recPositions (d : DeckImage) (r : Nat) : List Nat :=
  let m := dkK d
  if r < 0x80 then ((List.range (nChan m)).filter (rPatMask d r)).flatMap (laneSet m)
  else if r < 0x100 then ((List.range (nChan m)).filter (fun c => rEdgeCode d r c != 0)).flatMap (laneSet m)
  else if r < 0x140 then (List.range (rRangeWidth d r)).flatMap (fun i => laneSet m (rRangeChan d r i))
  else []

/-! Hands -/

/-- The terms that a branch uses (Table 6-2). -/
def brTerms (d : DeckImage) (h t b : Nat) : List Nat :=
  if !brV d h t b then [] else if brOp d h t b = 0 then [brA d h t b]
  else if brOp d h t b < 5 then [brA d h t b, brB d h t b] else []

/-- Every (trick, branch) of a program. -/
def branches : List (Nat × Nat) := (List.range 64).map (fun i => (i / 4, i % 4))

/-- Every term of a hand. -/
def handTerms (d : DeckImage) (h : Nat) : List Nat := branches.flatMap (fun p => brTerms d h p.1 p.2)

/-- The recognizers that a hand uses (R462). -/
def handRecs (d : DeckImage) (h : Nat) : List Nat :=
  ((handTerms d h).flatMap (fun c =>
    if c < 0x1C2 then recClosure d c
    else if 0x400 ≤ c ∧ c < 0x404 then recClosure d (nbits (hDtap d h (c - 0x400)) 9 0) else [])).eraseDups

/-- The mask checkers whose violation latch a hand uses. -/
def handCheckers (d : DeckImage) (h : Nat) : List Nat :=
  ((handTerms d h).filterMap (fun c => if 0x4A0 ≤ c ∧ c < 0x4C0 then some (c - 0x4A0) else none)).eraseDups

/-- The groups that a hand triggers. -/
def handGroups (d : DeckImage) (h : Nat) : Nat :=
  branches.foldl (fun a p => if brV d h p.1 p.2 then a ||| (brAct d h p.1 p.2 % 65536) else a) 0

/-- Whether hand `h` serves group `g`. -/
def handServes (d : DeckImage) (g h : Nat) : Bool := hEn d h && (nbit (handGroups d h) g || nbit (hArmGroups d h) g)

/-- The queues that a hand's event records go to. -/
def handQueues (d : DeckImage) (h : Nat) : List Nat :=
  (branches.filterMap (fun p =>
    let f := brFlow d h p.1 p.2
    if brV d h p.1 p.2 && nbit f 6 then some (nbits f 11 7) else none)).eraseDups

/-! R462 -/

def grpHands (d : DeckImage) (g : Nat) : List Nat := (List.range 32).filter (handServes d g)
def grpRecs (d : DeckImage) (g : Nat) : List Nat := ((grpHands d g).flatMap (handRecs d)).eraseDups
def grpCheckers (d : DeckImage) (g : Nat) : List Nat := ((grpHands d g).flatMap (handCheckers d)).eraseDups
def grpCompEngines (d : DeckImage) (g : Nat) : List Nat :=
  (List.range 64).filter (fun e => cmpV d e && (gFolds d g).contains (cmpFold d e))

/-- The kernel steps that serve group `g`. -/
def grpInsts (d : DeckImage) (g : Nat) : List KInst :=
  let folds := gFolds d g
  let recs := grpRecs d g
  let all := allInsts d
  let looks := all.filter (fun i => kidOf d i == 6 && recs.contains (0x1A0 + pLookFlock d i))
  let keys := all.filter (fun i => kidOf d i == 5 && looks.contains (pKeyTarget d i))
  (folds.flatMap (fInsts d) ++
    all.filter (fun i => (kidOf d i == 9 || kidOf d i == 0xB) && (instFold d i).any folds.contains) ++
    all.filter (fun i => kidOf d i == 0xA && (grpCompEngines d g).contains (pHashEngine d i)) ++
    looks ++ keys ++
    all.filter (fun i => kidOf d i == 0xC &&
      keys.any (fun j => pKeyBus d j == pBus d i && engQuad j.1 == engQuad i.1)) ++
    all.filter (fun i => kidOf d i == 0xF && recs.contains (0x140 + pFeedCnt d i)) ++
    (grpCheckers d g).flatMap (fun n => (List.range (mcNinst d n)).map (mcInst d n))).eraseDups

def grpEngines (d : DeckImage) (g : Nat) : List Nat := ((grpInsts d g).map Prod.fst).eraseDups

/-- The buses that those engines make. -/
def grpBuses (d : DeckImage) (g : Nat) : List Nat :=
  (((allInsts d).filter (fun i => kidOf d i == 0xC && (grpEngines d g).contains i.1)).map (pBus d)).eraseDups

/-- The owner codes of the units that serve group `g` (R462). -/
def grpOwners (d : DeckImage) (g : Nat) : List Nat :=
  let recs := grpRecs d g
  ((gFolds d g).map (0x240 + ·) ++ grpEngines d g ++ (grpCompEngines d g).map (0x100 + ·) ++
    (grpHands d g).map (0x160 + ·) ++
    (recs.filter (fun r => decide (0x1A0 ≤ r) && decide (r < 0x1B0))).map (fun r => 0x200 + (r - 0x1A0)) ++
    (grpCheckers d g).map (0x1E0 + ·) ++
    (List.range 32).filterMap (fun e =>
      if pbRole d e = 2 ∧ (grpCheckers d g).contains (pbTarget d e) then some (0x140 + e) else none) ++
    (((grpInsts d g).flatMap (instPositions d) ++ recs.flatMap (recPositions d)).eraseDups).map (0x180 + ·) ++
    [0x210] ++ (route d g).toList.map (0x280 + ·) ++ ((grpHands d g).flatMap (handQueues d)).map (0x280 + ·)).eraseDups

end Sys2Proof.Machine
end

