-- ==== Sys2Proof/Machine/Samples.lean ====
section
/-!
DEFINITION. What every consumer sees of a channel at a sample (R82-R97): the stored blocks, state words and held values, and
bus words (R466).
-/

namespace Sys2Proof.Machine

/-- The block of position `p` that holds sample `i`. -/
def blockOf (s : State) (p i : Nat) : Block := tabGet {} s.ingest.blocks (p + 64 * (i / 16))

/-- A channel's sample as ingest passes it on: its value and whether it is void (R86, R91, R96). -/
def rawSample (s : State) (k c i : Nat) : Bool × Bool :=
  let b := blockOf s (samplePos k c i) i
  (!b.void && b.bits.getLsbD (16 * (i % 16) + c % 16), b.void)

/-- The qualifier channel of receive group `g` (R92, R93). -/
def qualChan (s : State) (g : Nat) : Nat :=
  256 * g + 16 * rdF s (Reg.INGEST_STATE_CFG g) 7 4 + rdF s (Reg.INGEST_STATE_CFG g) 3 0

/-- Whether group `g` forms a state word at sample `i` (R93, R95). -/
def isWord (s : State) (g i : Nat) : Bool :=
  let q := rawSample s 1 (qualChan s g) i
  let p := rawSample s 1 (qualChan s g) (i - 1)
  let m := rdF s (Reg.INGEST_STATE_CFG g) 9 8
  !q.2 && (if m = 0 then q.1 else if m = 1 then !q.1
    else decide (s.ingest.first < i) && !p.2 && (if m = 2 then q.1 && !p.1 else !q.1 && p.1))

/-- The last sample, at or before `i` and at most `n` back, at which group `g` formed a word. -/
def lastWord (s : State) (g i : Nat) : Nat → Option Sample
  | 0 => none
  | n + 1 => if isWord s g i then some i else if i = 0 then none else lastWord s g (i - 1) n

/-- The value that state-mode channel `c` of group `g` holds at sample `i` (R94, R95). -/
def heldSample (s : State) (g c i : Nat) : Bool × Bool :=
  match lastWord s g i (i + 1 - s.ingest.first) with
  | none => (false, true)
  | some w =>
    let v := rawSample s 1 c w
    (v.1, v.2 || (rawSample s 1 (qualChan s g) i).2)

/-- Channel `c` at sample `i` as recognizers and kernels see it: value and void. -/
def chanAt (s : State) (d : DeckImage) (c i : Nat) : Bool × Bool :=
  let k := dkK d
  let g := c / 256
  if k = 1 ∧ dkStateMode d g ∧ c ≠ qualChan s g then heldSample s g c i else rawSample s k c i

/-- Whether there is a sample before `i` since DECK_ACTIVATE (R110, R113). -/
def hasPrev (s : State) (i : Sample) : Bool := decide (s.recog.first < i)

/-- The sample `back` before `i`, where it has been evaluated since DECK_ACTIVATE (R113, R141, R466). -/
def sampleBack (s : State) (i back : Nat) : Option Sample := if s.recog.first + back ≤ i then some (i - back) else none

/-- The first sample that nothing has evaluated yet, neither in its time nor by a row that ran ahead of it. -/
def evalNext (s : State) : Sample := max (evalCount s) ((s.recog.evalTo.map (· + 1)).getD s.recog.first)

/-- The bus word of bus `b` in quad `q` at sample `i`, and whether any of its channels is void (R466). -/
def busAt (s : State) (d : DeckImage) (q b width i : Nat) : Nat × Bool :=
  let cs := (List.range width).map (fun j => chanAt s d (quadChan (dkK d) q (busEntry d b j)) i)
  (bitMask ((List.range width).filter (fun j => ((cs.drop j).head?.getD (false, false)).1)), cs.any Prod.snd)

end Sys2Proof.Machine
end

