-- ==== Sys2Proof/Machine/Recog.lean ====
section
/-!
DEFINITION. The recognizers (chapter 5): the result of each at a sample, and the counters and timers that step from sample to
sample. Pattern, edge and range results are read from the stored blocks; a late FEED increment, a stamp and a flock result come
with their rows.
-/

namespace Sys2Proof.Machine

/-- What a term gives for a sample (R105, R139). -/
structure Res where
  res : Bool := false
  pause : Bool := false
  ambig : Bool := false
deriving DecidableEq, Repr

/-- The AMBIG band (R46): 131 units. -/
def inBand (a b : Nat) : Bool := decide (a ≤ b + 131) && decide (b ≤ a + 131)

/-- Whether recognizer `r` is paused at sample `i` because its slice has failed its parity check (R120). -/
def slicePaused (s : State) (r i : Nat) : Bool :=
  s.recog.slices.any (fun f => f.r == r && decide (f.from_ ≤ i) && (f.until_.map (fun b => decide (i < b))).getD true)

/-- VOID_POLICY applied to `dont` (the result with void samples taken as DONT_CARE takes them) where `void` says that a channel
the recognizer depends on is void (R107). -/
def voidPolicy (pol : Nat) (void : Bool) (dont : Bool) : Res :=
  if !void ∨ pol = 0 then { res := dont } else if pol = 1 then {} else { pause := true }

/-- A pattern recognizer (R108, R109). -/
def patternAt (s : State) (d : DeckImage) (r i : Nat) : Res :=
  let cs := (List.range (nChan (dkK d))).filter (rPatMask d r)
  let vs := cs.map (fun c => (c, chanAt s d c i))
  let all := vs.all (fun p => p.2.2 || p.2.1 == rPatValue d r p.1)
  voidPolicy (nbits (recCtrl d r) 3 2) (vs.any (fun p => p.2.2)) (all != nbit (recCtrl d r) 1)

/-- An edge of channel `c` at sample `i` that `code` selects (R110). -/
def edgeAt (s : State) (d : DeckImage) (code c i : Nat) : Bool :=
  let a := chanAt s d c i
  let b := chanAt s d c (i - 1)
  hasPrev s i && !a.2 && !b.2 && ((nbit code 0 && a.1 && !b.1) || (nbit code 1 && !a.1 && b.1))

/-- An edge recognizer (R110). -/
def edgeRecAt (s : State) (d : DeckImage) (r i : Nat) : Res :=
  let cs := (List.range (nChan (dkK d))).filter (fun c => rEdgeCode d r c != 0)
  let any := cs.any (fun c => edgeAt s d (rEdgeCode d r c) c i)
  let qual := match rQual d r with
    | none => true
    | some p => !slicePaused s p i && recEn d p && (patternAt s d p i).res
  let void := cs.any (fun c => (chanAt s d c i).2 || (hasPrev s i && (chanAt s d c (i - 1)).2))
  voidPolicy (nbits (recCtrl d r) 3 2) void (any && qual)

/-- A range recognizer (R111). -/
def rangeAt (s : State) (d : DeckImage) (r i : Nat) : Res :=
  let w := rRangeWidth d r
  let cs := (List.range w).map (fun j => chanAt s d (rRangeChan d r j) i)
  let v := bitMask ((List.range w).filter (fun j => let x := (cs.drop j).headD (false, false); x.1 && !x.2))
  let lo := recB d r 64 8 % 2 ^ w
  let hi := recB d r 72 8 % 2 ^ w
  let inside := if nbit (recCtrl d r) 4 then decide (signed w lo ≤ signed w v) && decide (signed w v ≤ signed w hi)
    else decide (lo ≤ v) && decide (v ≤ hi)
  voidPolicy (nbits (recCtrl d r) 3 2) (cs.any Prod.snd) (inside != nbit (recCtrl d r) 1)

/-- Whether a flock outcome meets MODE (R127). -/
def flockMeets (d : DeckImage) (f : Nat) (k : FlockKey) : Bool :=
  let m := nbits (recCtrl d (0x1A0 + f)) 2 1
  let hit := k.action.getLsbD 31
  !k.bad && (if m = 0 then hit else if m = 1 then !hit
    else if m = 2 then hit && nbit (recCtrl d (0x1A0 + f)) (4 + fieldOf k.action 27 24) else false)

/-- The keys of flock recognizer `f` whose outcome has been delivered with sample `i` (R127). -/
def flockGiven (s : State) (d : DeckImage) (f i : Nat) : List FlockKey :=
  s.recog.keys.filter (fun k => k.fk.val == f && k.given && k.sample + 4 * dkK d * dkLFlock d == i)

/-- An edge selected by EDGE (R117). -/
def edgeSel (e : Nat) (falling : Bool) : Bool := if falling then nbit e 1 else nbit e 0

/-- The stamps that fall in the grid window of sample `i` (R112, R117). -/
def stampsIn (s : State) (l : List Stamp) (e i : Nat) : List Stamp :=
  l.filter (fun x => !x.late && edgeSel e x.falling && decide (gridT s i ≤ x.t) && decide (x.t < gridT s (i + 1)))

/-- A stamped edge recognizer (R117, R118). -/
def stampRecAt (s : State) (l : List Stamp) (e i : Nat) : Res :=
  let hits := stampsIn s l e i
  { res := !hits.isEmpty, ambig := hits.any (fun x => inBand x.t (gridT s i) || inBand x.t (gridT s (i + 1))) }

/-- The accepted level of GATE_IN at G(`i`) (R118, R119): changes are newest first. Before any change it is low (DESIGN CHOICE,
notes/assumptions/27.md). -/
def gateLevelAt (s : State) (i : Nat) : Bool :=
  ((s.recog.gate.find? (fun c => decide (c.t ≤ gridT s i) && decide (c.from_ ≤ i))).map GateChange.level).getD false

/-- GATE_IN (R118): its level at G(`i`), and AMBIG where a change lies in the band of either end of the sample's window (R117). -/
def gateRecAt (s : State) (d : DeckImage) (i : Nat) : Res :=
  { res := gateLevelAt s i != nbit (recCtrl d 0x1C1) 1
    ambig := s.recog.gate.any (fun c => inBand c.t (gridT s i) || inBand c.t (gridT s (i + 1))) }

/-- The result of a recognizer that is neither a counter nor a timer. -/
def recSimple (s : State) (d : DeckImage) (r i : Nat) : Res :=
  if !recEn d r then {}
  else if slicePaused s r i then { pause := true }
  else if r < 0x80 then patternAt s d r i
  else if r < 0x100 then edgeRecAt s d r i
  else if r < 0x140 then rangeAt s d r i
  else if 0x1A0 ≤ r ∧ r < 0x1B0 then { res := (flockGiven s d (r - 0x1A0) i).any (flockMeets d (r - 0x1A0)) }
  else if 0x1B0 ≤ r ∧ r < 0x1C0 then
    stampRecAt s (tabGet [] s.recog.stamps (nbits (recCtrl d r) 7 4)) (nbits (recCtrl d r) 2 1) i
  else if r = 0x1C0 then stampRecAt s s.recog.trigIn (nbits (recCtrl d r) 2 1) i
  else if r = 0x1C1 then gateRecAt s d i
  else {}

/-! Counters -/

def counterOf (s : State) (n : Nat) : CounterSt := tabGet {} s.recog.counters n
def timerOf (s : State) (n : Nat) : TimerSt := tabGet {} s.recog.timers n
def setCounter (s : State) (n : Nat) (c : CounterSt) : State := s.modRecog (fun r => { r with counters := tabPut {} r.counters n c })
def setTimer (s : State) (n : Nat) (t : TimerSt) : State := s.modRecog (fun r => { r with timers := tabPut {} r.timers n t })

/-- The result at sample `i` of a history, newest first; `dflt` before it. -/
def resAt (l : List ResChange) (dflt : Bool) (i : Sample) : Res :=
  match l.find? (fun c => decide (c.from_ ≤ i)) with
  | some c => { res := c.res, ambig := c.ambig }
  | none => { res := dflt }

/-- A result from sample `i` on joins a history where it differs from the last. -/
def pushRes (l : List ResChange) (dflt : Bool) (i : Sample) (res ambig : Bool) : List ResChange :=
  let cur := match l with
    | c :: _ => (c.res, c.ambig)
    | [] => (dflt, false)
  if cur = (res, ambig) then l else { from_ := i, res := res, ambig := ambig } :: l

def cntTarget (d : DeckImage) (n : Nat) : Nat := recB d (0x140 + n) 8 6

/-- The result of any recognizer at a sample that counters and timers have taken (R104, R120). -/
def recAt (s : State) (d : DeckImage) (r i : Nat) : Res :=
  if 0x140 ≤ r ∧ r < 0x1A0 then
    if !recEn d r then {}
    else if slicePaused s r i then { pause := true }
    else if r < 0x180 then resAt (counterOf s (r - 0x140)).results (cntTarget d (r - 0x140) == 0) i
    else resAt (timerOf s (r - 0x180)).results false i
  else recSimple s d r i

/-- The COUNTER_FEED step that feeds counter `n`. -/
def feedInst (d : DeckImage) (n : Nat) : Option KInst := (instsOf d 0xF).find? (fun k => pFeedCnt d k == n)

/-- The samples between a FEED increment's own and the one that takes it (R113). -/
def feedLag (d : DeckImage) : Nat := 256 * dkK d

/-- The increment of counter `n` at sample `i` (R113). A FEED increment is the result of the step's source 256k samples earlier, where it
has not come late (R114). -/
def cntInc (s : State) (d : DeckImage) (n i : Nat) (c : CounterSt) : Nat :=
  let src := rSrcA d (0x140 + n)
  let mode := nbits (recCtrl d (0x140 + n)) 2 1
  let one (b : Bool) : Nat := if b then 1 else 0
  if mode = 0 then one (recSimple s d src i).res
  else if mode = 1 then one ((recSimple s d src i).res && hasPrev s i && !(recSimple s d src (i - 1)).res)
  else
    match feedInst d n, sampleBack s i (feedLag d) with
    | some k, some j => if c.late.contains j then 0 else one (recAt s d (pFeedSrc d k) j).res
    | _, _ => 0

/-- The largest COUNT. -/
def cntMax : Nat := 2 ^ 48 - 1

/-- COUNT with `inc` added, saturating, and its result from sample `i` on. -/
def cntAdd (d : DeckImage) (n i inc : Nat) (c : CounterSt) : CounterSt :=
  let v := c.count.toNat + inc
  let count := min v cntMax
  { c with count := BitVec.ofNat 48 count, sat := c.sat || decide (cntMax < v)
           results := pushRes c.results (cntTarget d n == 0) i (decide (cntTarget d n ≤ count)) false }

/-- Counter `n` takes sample `i` (R113). -/
def cntStep (s : State) (d : DeckImage) (n i : Nat) (c : CounterSt) : CounterSt :=
  let clr := rSrcB d (0x140 + n)
  let c1 := if clr ≠ 0x3FF ∧ (recSimple s d clr i).res then { c with count := 0, sat := false } else c
  { cntAdd d n i (cntInc s d n i c) c1 with last := some i }

/-- A unit that steps from sample to sample takes `n` samples up to `i`, in order. -/
def stepN {α : Type} (f : Nat → α → α) (i : Nat) : Nat → α → α
  | 0, a => a
  | n + 1, a => f i (stepN f (i - 1) n a)

/-- The next sample of a unit that last took `last`. -/
def unitNext (s : State) (last : Option Sample) : Sample := (last.map (· + 1)).getD s.recog.first

/-- Counter `n` takes sample `i` where that is its next. -/
def advCounter (d : DeckImage) (i : Sample) (s : State) (n : Nat) : State :=
  let c := counterOf s n
  if i < unitNext s c.last then s
  else
    let c1 := cntStep s d n i c
    let s1 := setCounter s n c1
    if c1.sat && !c.sat then raiseBit s1 Reg.TRIG_REC_STATUS 2 else s1

/-! Timers -/

def tmrLimit (d : DeckImage) (n : Nat) : Nat := recB d (0x180 + n) 8 6

/-- Whether a timer started at `start` has expired at G(i), and whether that is within the band (R115). -/
def expired (s : State) (start limit i : Nat) : Bool × Bool :=
  let e := start + nsT limit
  (decide (e ≤ gridT s i), inBand (gridT s i) e)

/-- Whole ns from START to `t`. -/
def elapsedNs (start t : Time) : Nat := (t - start) / 65536

/-- Timer `n` takes sample `i` (R115). -/
def tmrStep (s : State) (d : DeckImage) (n i : Nat) (t : TimerSt) : TimerSt :=
  let stop := rSrcB d (0x180 + n)
  let t1 := if stop ≠ 0x3FF ∧ (recSimple s d stop i).res then
      { t with start := none, elapsed := match t.start with | some a => elapsedNs a (gridT s i) | none => t.elapsed }
    else t
  let go := (recSimple s d (rSrcA d (0x180 + n)) i).res && (t1.start.isNone || nbit (recCtrl d (0x180 + n)) 1)
  let t2 := if go then { t1 with start := some (gridT s i) } else t1
  let e := match t2.start with
    | some a => expired s a (tmrLimit d n) i
    | none => (false, false)
  { t2 with last := some i, results := pushRes t2.results false i e.1 e.2 }

/-- Timer `n` takes sample `i` where that is its next. -/
def advTimer (d : DeckImage) (i : Sample) (s : State) (n : Nat) : State :=
  let t := timerOf s n
  if i < unitNext s t.last then s else setTimer s n (tmrStep s d n i t)

/-- The counters and the timers that the deck enables. -/
def usedCounters (d : DeckImage) : List Nat := (List.range 64).filter (fun n => recEn d (0x140 + n))
def usedTimers (d : DeckImage) : List Nat := (List.range 32).filter (fun n => recEn d (0x180 + n))

/-- Every counter and timer takes sample `i` (R113, R115). -/
def advUnits (d : DeckImage) (cs ts : List Nat) (i : Sample) (s : State) : State :=
  ts.foldl (advTimer d i) (cs.foldl (advCounter d i) s)

/-- Sample `i` is evaluated: the counters and timers have taken it, sample by sample (R105). -/
def noteEval (s : State) (d : DeckImage) (i : Sample) : State :=
  let s1 := s.modRecog (fun r => { r with evalTo := some (max (r.evalTo.getD i) i) })
  let cs := usedCounters d
  let ts := usedTimers d
  match (cs.map (fun n => unitNext s (counterOf s n).last) ++ ts.map (fun n => unitNext s (timerOf s n).last)).min? with
  | none => s1
  | some a => stepN (advUnits d cs ts) i (i + 1 - a) s1

/-- Whether a source is watched (R119): timing input `n`. -/
def tinWatched (d : DeckImage) (n : Nat) : Bool :=
  (List.range 16).any (fun j => recEn d (0x1B0 + j) && nbits (recCtrl d (0x1B0 + j)) 7 4 == n) ||
    (List.range 32).any (fun h => hEn d h && hInterp d h && hInterpTin d h == n)

/-- Whether an event at `t` comes after the sample of its grid window has been evaluated (R119). -/
def arrivesLate (s : State) (t : Time) : Bool := decide (t < gridT s (evalNext s)) && decide (s.recog.first < evalNext s)

/-- A late event of a watched source is counted once (R119). -/
def countLate (s : State) : State :=
  let o := Reg.TRIG_LATE_CNT
  raiseErr (wrF s o 15 0 (min (rdF s o 15 0 + 1) 0xFFFF)) Reg.TRIG_REC_STATUS 1 2 0x0480 0

/-! Arms (R114, R115): the counters and timers that group `g` clears at sample `i`. -/

/-- A history without its results from sample `i` on. -/
def before (l : List ResChange) (i : Sample) : List ResChange := l.filter (fun c => decide (c.from_ < i))

/-- The last sample of a unit that takes sample `i` next. -/
def lastBefore (i : Sample) : Option Sample := if i = 0 then none else some (i - 1)

/-- Counters and timers clear at sample `i`, and take it next; every sample before it has been taken. -/
def clearBy (s0 : State) (d : DeckImage) (g : Nat) (i : Sample) : State :=
  let s := if i = 0 then s0 else noteEval s0 d (i - 1)
  let named (r : Nat) : Bool := nbit (recB d r 4 2) g
  let s1 := ((usedCounters d).filter (fun n => named (0x140 + n))).foldl (fun s n =>
      let c := counterOf s n
      let zero := cntTarget d n == 0
      setCounter s n { c with count := 0, sat := false, last := lastBefore i, results := pushRes (before c.results i) zero i zero false }) s
  ((usedTimers d).filter (fun n => named (0x180 + n))).foldl (fun s n =>
      let t := timerOf s n
      let el := match t.start with | some a => elapsedNs a (gridT s i) | none => t.elapsed
      setTimer s n { t with start := none, elapsed := el, last := lastBefore i, results := pushRes (before t.results i) false i false false }) s1

/-! Rows -/

/-- COUNTER_FEED_LATE (R114): the increment for sample `i` has not come in its time, and is added on arrival, unless a row that ran ahead
has taken it with its sample already. -/
def counterFeedLate (n : Nat) (i : Sample) (inc : Nat) (s : State) (d : DeckImage) : State :=
  if recEn d (0x140 + n) && nbits (recCtrl d (0x140 + n)) 2 1 == 2 then
    let c := counterOf s n
    let c1 := if i + feedLag d < unitNext s c.last then c
      else { cntAdd d n (unitNext s c.last) inc c with late := i :: c.late }
    let s1 := setCounter s n c1
    let s2 := if c1.sat && !c.sat then raiseBit s1 Reg.TRIG_REC_STATUS 2 else s1
    let o := Reg.TRIG_LATE_CNT
    raiseErr (wrF s2 o 31 16 (min (rdF s2 o 31 16 + 1) 0xFFFF)) Reg.TRIG_REC_STATUS 3 2 0x0480 n
  else s

def execCounterFeedLate (n : Fin 64) (inc : BitVec 48) (s : State) (i : Sample := 0) : Host.Outcome State Fault Refusal :=
  match actDeck s with
  | none => .next s
  | some d => .next (counterFeedLate n i inc.toNat s d)

/-- A slice's recognizer is paused from the next sample that is evaluated on. -/
def sliceFails (r : Nat) (s : State) : State :=
  raiseErr (s.modRecog (fun x => { x with slices := { r := r, from_ := evalNext s } :: x.slices })) Reg.TRIG_REC_STATUS 0 2 0x0480 r

/-- Every failed slice is reloaded, with effect from the next sample that is evaluated on (R120). -/
def slicesReload (s : State) : State :=
  s.modRecog (fun x => { x with slices := x.slices.map (fun f => if f.until_.isNone then { f with until_ := some (evalNext s) } else f) })

/-- RECOG_SLICE_PARITY (R120). The spec does not say which recognizers one slice holds: a slice here is the settings of one recognizer
(DESIGN CHOICE, notes/assumptions/27.md). -/
def execRecogSliceParity (r : Fin 450) (s : State) : Host.Outcome State Fault Refusal :=
  match actDeck s with
  | none => .next s
  | some _ => .next (sliceFails r s)

end Sys2Proof.Machine
end

