-- ==== Sys2Proof/Machine/Hands.lean ====
section
/-!
DEFINITION. The hands (R137-R147, R157, R158): terms, the evaluation of a sample, actions, resets and parity failures.
-/

namespace Sys2Proof.Machine

/-- Flag values of hand `h` after the last sample of a group (R143): the newest change at or before `e`. -/
def flagsAfter (x : HandSt) (e : Sample) : BitVec 4 :=
  ((x.flagHist.find? (fun p => decide (p.1 ≤ e))).map Prod.snd).getD 0

/-- Flag `j` of hand `h` as every hand sees it at sample `i` (R143). -/
def flagSeen (s : State) (d : DeckImage) (h j i : Nat) : Bool :=
  let n := 4 * dkK d
  let grp := i / n
  if grp < 24 then false else (flagsAfter (handOf s h) (n * (grp - 24) + n - 1)).getLsbD j

/-- The sample that delay tap `w` looks at from sample `i`, where it is not before the first sample evaluated (R141). -/
def tapSample (s : State) (d : DeckImage) (w i : Nat) : Option Sample := sampleBack s i (4 * dkK d * nbits w 16 10)

/-- A term of hand `h` at sample `i` (Table 6-3). -/
def termAt (s : State) (d : DeckImage) (h i c : Nat) : Res :=
  let x := handOf s h
  if c < 0x1C2 then recAt s d c i
  else if 0x400 ≤ c ∧ c < 0x404 then
    let w := hDtap d h (c - 0x400)
    match tapSample s d w i with
    | none => {}
    | some j => recAt s d (nbits w 9 0) j
  else if c = 0x404 then { res := decide (hHc0T d h ≤ x.hc0) }
  else if c = 0x405 then { res := decide (hHc1T d h ≤ x.hc1) }
  else if c = 0x406 then
    match x.ht with
    | none => {}
    | some a => let e := expired s a (hHtLimit d h) i; { res := e.1, ambig := e.2 }
  else if 0x408 ≤ c ∧ c < 0x40C then { res := x.flags.getLsbD (c - 0x408) }
  else if 0x420 ≤ c ∧ c < 0x4A0 then { res := flagSeen s d ((c - 0x420) / 4) ((c - 0x420) % 4) i }
  else if 0x4A0 ≤ c ∧ c < 0x4C0 then { res := x.latches.any (fun l => l.1 == c - 0x4A0 && decide (l.2 ≤ i)) }
  else {}

/-- A branch's condition at sample `i` (Table 6-2, R139). -/
def condAt (s : State) (d : DeckImage) (h t i b : Nat) : Res :=
  let a := termAt s d h i (brA d h t b)
  let c := termAt s d h i (brB d h t b)
  let op := brOp d h t b
  if op = 0 then a
  else if op = 5 then { res := true }
  else
    { res := if op = 1 then a.res && c.res else if op = 2 then a.res || c.res else if op = 3 then a.res && !c.res else a.res != c.res
      pause := a.pause || c.pause
      ambig := a.ambig || c.ambig }

/-- The flock result that a condition's term supplies to the record (R154): recognizer and ACTION of a hit. -/
def termUser (s : State) (d : DeckImage) (h i c : Nat) : Option (Nat × Word) :=
  let at_ (r j : Nat) : Option (Nat × Word) :=
    if 0x1A0 ≤ r ∧ r < 0x1B0 then
      ((flockGiven s d (r - 0x1A0) j).find? (fun k => flockMeets d (r - 0x1A0) k && k.action.getLsbD 31)).map
        (fun k => (r - 0x1A0, k.action))
    else none
  if c < 0x1C2 then at_ c i
  else if 0x400 ≤ c ∧ c < 0x404 then
    match tapSample s d (hDtap d h (c - 0x400)) i with
    | none => none
    | some j => at_ (nbits (hDtap d h (c - 0x400)) 9 0) j
  else none

/-- A 32-bit hand counter under an action (Table 6-4). -/
def hcOp (op v : Nat) : Nat := if op = 1 then min (v + 1) 0xFFFFFFFF else if op = 2 then 0 else v

/-- Flags cleared, then set (Table 6-4). -/
def flagOp (act : Nat) (f : BitVec 4) : BitVec 4 :=
  (f &&& ~~~(BitVec.ofNat 4 (nbits act 24 21))) ||| BitVec.ofNat 4 (nbits act 20 17)

/-- The violation latches that are not yet seen at sample `i`; the others clear (R140, R144). -/
def clearLatches (l : List (Nat × Sample)) (i : Sample) : List (Nat × Sample) := l.filter (fun p => decide (i < p.2))

/-- Branch `b` of the current trick fires at sample `i`: the hand after it (R140, R145, R146). -/
def fireHand (s : State) (d : DeckImage) (h i b : Nat) (bc : List Nat) (x : HandSt) : HandSt :=
  let t := x.trick
  let act := brAct d h t b
  let flow := brFlow d h t b
  let next := nbits flow 4 0
  let flags := flagOp act x.flags
  let htOp := nbits act 30 29
  let x1 : HandSt := { x with
    flags := flags
    flagHist := if flags = x.flags then x.flagHist else (i, flags) :: x.flagHist
    hc0 := hcOp (nbits act 26 25) x.hc0
    hc1 := hcOp (nbits act 28 27) x.hc1
    ht := if htOp = 1 then (match x.ht with | some a => some a | none => some (gridT s i))
      else if htOp = 2 then some (gridT s i) else if htOp = 3 then none else x.ht
    st := if nbit flow 5 then .halted else x.st }
  if next = 0x10 then { x1 with bc := bc.set b 0 }
  else { x1 with trick := next, bc := [0, 0, 0, 0], latches := clearLatches x.latches i }

/-- What the trigger network takes of a branch that fires (R145, R148, R154, R155). -/
def fireOf (s : State) (d : DeckImage) (h : Fin 32) (i b : Nat) (c : Res) : Fire :=
  let t := (handOf s h).trick
  let act := brAct d h t b
  let flow := brFlow d h t b
  let terms := brTerms d h t b
  { hand := h, sample := i, trick := t, branch := b, ambig := c.ambig
    user := terms.findSome? (termUser s d h i)
    groups := BitVec.ofNat 16 act
    tout := nbit act 16
    evt := if nbit flow 6 then some (nbits flow 11 7) else none }

/-- Hand `h` evaluates sample `i` (R140). -/
def handEval (d : DeckImage) (h : Fin 32) (i : Nat) (s : State) : State :=
  let x := handOf s h
  let adv (x : HandSt) : HandSt := { x with next := i + 1 }
  if x.st != .run then setHand s h (adv x)
  else if x.stopped then setHand s h (adv x)
  else
    let t := x.trick
    let valid := (List.range 4).filter (brV d h t)
    let conds := (List.range 4).map (condAt s d h t i)
    let cond (b : Nat) : Res := (conds.drop b).head?.getD {}
    if valid.any (fun b => (cond b).pause) then incCnt (setHand s h (adv x)) (Reg.HAND_PAUSE_CNT h) 1
    else
      let bc := (List.range 4).map (fun b =>
        let v := (x.bc.drop b).head?.getD 0
        if brV d h t b && (cond b).res then min (v + 1) 0xFFFFFFFF else v)
      match valid.find? (fun b => (cond b).res && decide (brCount d h t b ≤ (bc.drop b).head?.getD 0)) with
      | none => setHand s h (adv { x with bc := bc })
      | some b =>
        let fr := fireOf s d h i b (cond b)
        let x1 := fireHand s d h i b bc x
        let s1 := setHand s h (adv x1)
        let s2 := s1.modTrig (fun n => { n with fires := n.fires ++ [fr] })
        let s3 := incCnt (incCnt s2 (Reg.HAND_FIRE_CNT h) 1) (Reg.HAND_TRIG_CNT h) (bitsOf 16 fr.groups.toNat).length
        let s4 := wr64 s3 (Reg.HAND_LAST_LO h) i
        let m := (if fr.groups != 0 || fr.tout then 1 else 0) + (if x1.st = .halted then 2 else 0)
        if m = 0 then s4 else raise s4 (Reg.HAND_STATUS h) (BitVec.ofNat 32 m)

/-- Hand `h` evaluates every sample up to `i` (R140); out of RUN, or stopped by a parity failure, it passes them over. -/
def handRun (d : DeckImage) (h : Fin 32) (i : Sample) (s0 : State) : State :=
  let s := noteEval s0 d i
  let x := handOf s h
  if x.st != .run || x.stopped then setHand s h { x with next := max x.next (i + 1) }
  else stepN (handEval d h) i (i + 1 - x.next) s

/-- What hand `h` did at samples from `i` on is undone, but for its pauses: its firings there count no more (R147). -/
def unfire (s : State) (h : Nat) (i : Sample) : State :=
  let gone (f : Fire) : Bool := f.hand.val == h && decide (i ≤ f.sample)
  let l := s.trig.fires.filter gone
  if l.isEmpty then s
  else
    let less (s : State) (o n : Nat) : State := wr s o (BitVec.ofNat 32 ((rd s o).toNat - n))
    less (less (s.modTrig (fun t => { t with fires := t.fires.filter (fun f => !gone f) })) (Reg.HAND_FIRE_CNT h) l.length)
      (Reg.HAND_TRIG_CNT h) ((l.map (fun f => (bitsOf 16 f.groups.toNat).length)).sum)

/-- A reset of hand `h` at sample `i` (R147). It overrides what a row that ran ahead had the hand do from there on. The spec does not say on
which side of sample `i` the cleared flags fall for the other hands: they are the value after sample `i` - 1 here (DESIGN CHOICE,
notes/assumptions/27.md). -/
def handReset (d : DeckImage) (i : Sample) (s0 : State) (h : Nat) : State :=
  let s := unfire s0 h i
  let x := handOf s h
  if !hEn d h || x.st == .fault then s
  else
    setHand s h { x with
      st := .run, trick := hStart d h, bc := [0, 0, 0, 0], hc0 := 0, hc1 := 0, ht := none, flags := 0, next := i
      latches := clearLatches x.latches i
      flagHist := let l := x.flagHist.filter (fun p => decide (p.1 < i)); if i = 0 then [] else (i - 1, 0) :: l }

/-- The hands that group `g` arms. -/
def armHands (d : DeckImage) (g : Nat) : List (Fin 32) := (List.finRange 32).filter (fun h => nbit (hArmGroups d h) g)

/-- Group `g` is armed or re-armed at sample `i`: its hands, counters and timers are reset there (R114, R115, R147), once they have taken
every sample before it. -/
def armResets (s : State) (d : DeckImage) (g : Nat) (i : Sample) : State :=
  let s1 := if i = 0 then s else (armHands d g).foldl (fun s (h : Fin 32) => if (handOf s h).next < i then handRun d h (i - 1) s else s) s
  let ran := (armHands d g).map (fun (h : Fin 32) => (h, (handOf s1 h).next))
  let s2 := (armHands d g).foldl (fun s (h : Fin 32) => handReset d i s h) (clearBy s1 d g i)
  ran.foldl (fun s p => if i < p.2 then handRun d p.1 (p.2 - 1) s else s) s2

/-- A group state in which it counts as not armed (Table 6-1, R167). -/
def groupDone (s : State) (g : Nat) : Bool :=
  match (grpOf s g).st with
  | .idle | .stopped | .stoppedOvf => true
  | _ => false

/-- Hands all of whose groups are IDLE or STOPPED become IDLE (Table 6-1). -/
def handsIdle (s : State) (d : DeckImage) : State :=
  (List.range 32).foldl (fun s h =>
    let x := handOf s h
    if (x.st == .run || x.st == .halted) && (bitsOf 16 (hArmGroups d h)).all (groupDone s) then setHand s h { x with st := .idle }
    else s) s

/-- HAND_PARITY (R157, R158): the hand has evaluated its samples up to now. -/
def handParity (h : Fin 32) (s0 : State) (d : DeckImage) : State :=
  let s := if (handOf s0 h).next < handCount s0 then handRun d h (handCount s0 - 1) s0 else s0
  let x := handOf s h
  if !hEn d h || x.st == .fault then s0
  else
    let again := (x.lastFail.map (fun t => decide (now s < t + nsT 1000000000))).getD false
    if again then
      let s1 := setHand s h { x with st := .fault, lastFail := some (now s) }
      logError (raise s1 (Reg.HAND_STATUS h) 0xC) (Reg.HAND_STATUS h) 3 3 (0x0410 + h) h
    else
      raiseErr (setHand s h { x with stopped := true, lastFail := some (now s) }) (Reg.HAND_STATUS h) 2 2 (0x0410 + h) h

def execHandParity (h : Fin 32) (s : State) : Host.Outcome State Fault Refusal :=
  match actDeck s with
  | none => .next s
  | some d => .next (handParity h s d)

/-- At the next deal-period boundary the hand reloads its program and is reset, from the next sample that the hands evaluate on (R157). A
hand none of whose groups is armed leaves RUN at once (Table 6-1). -/
def handReload (d : DeckImage) (s : State) (h : Nat) : State :=
  let x := handOf s h
  if x.stopped then handReset d (max x.next (handCount s)) (setHand s h { x with stopped := false }) h
  else s

/-- Every hand that a parity failure has stopped is reloaded (R157). -/
def handsReload (d : DeckImage) (s : State) : State :=
  if (List.range 32).any (fun h => (handOf s h).stopped) then handsIdle ((List.range 32).foldl (handReload d) s) d else s

end Sys2Proof.Machine
end

