-- ==== Sys2Proof/Machine/Units.lean ====
section
/-!
DEFINITION. Where a fold stores its data (R163-R165, R177, R178), the flag that a failing engine leaves (R70, R102), and the
capture pages of raw FULL folds (R101, R171).
-/

namespace Sys2Proof.Machine

/-! Engines behind a logical engine -/

/-- The spare of physical engine `p`'s block: slot 16 (R68). -/
def spareOf (p : Nat) : Nat := p / 17 * 17 + 16

/-- The physical engine that serves logical engine `l` (R68): the block's spare where it has taken the slot over. -/
def liveEng (s : State) (d : DeckImage) (l : Nat) : Nat :=
  if s.deck.standing.contains (mapPhys d l) then spareOf (mapPhys d l) else mapPhys d l

/-- Whether outputs of logical engine `l` are flagged now (R70): its engine has been declared failing in this deal period, or is
quarantined with no spare to serve it. -/
def engFlagged (s : State) (d : DeckImage) (l : Nat) : Bool :=
  let p := liveEng s d l
  s.deck.promos.any (fun x => x.engine == p && x.flagged) || s.deck.quarEngines.contains p

/-- Whether logical engine `l` has stopped: it is quarantined and no spare serves it (R70). -/
def engStopped (s : State) (d : DeckImage) (l : Nat) : Bool := s.deck.quarEngines.contains (liveEng s d l)

/-- Whether a step still runs from a reset context (R70). -/
def ctxLost (s : State) (i : KInst) : Bool := s.deck.ctxBad.contains (4 * i.1 + i.2)

/-- Whether what step `i` puts out is flagged (R70). -/
def instFlagged (s : State) (d : DeckImage) (i : KInst) : Bool := engFlagged s d i.1 || ctxLost s i

/-- A step reaches its natural boundary, the end of a window, page or key (R70). -/
def endCtx (s : State) (i : KInst) : State :=
  if ctxLost s i then s.modDeck (fun k => { k with ctxBad := k.ctxBad.filter (· != 4 * i.1 + i.2) }) else s

/-- Whether the guards of SPINE or of quad `q` block every scheduled access in this deal period (R73). -/
def storeBlocked (s : State) (q : Nat) : Bool := s.deck.blocked.contains 4 || s.deck.blocked.contains q

/-- Whether a unit without a spare is quarantined by its guard (R72): its outputs are flagged for as long as the deck runs. -/
def unitFlagged (s : State) (code : Nat) : Bool := s.deck.quarUnits.contains code

/-! Places (R164) -/

/-- `bs` written at logical offset `x` of fold `f`. Nothing that a fold writes at once reaches beyond the next extent. -/
def putLogical (s : State) (d : DeckImage) (f x : Nat) (bs : List Byte) : State :=
  let room := extentSize - x % extentSize
  putHbm (putHbm s (foldAddr s d f x) (bs.take room)) (foldAddr s d f (x + room)) (bs.drop room)

/-- `n` bytes at logical offset `x` of fold `f`. -/
def getLogical (s : State) (d : DeckImage) (f x n : Nat) : List Byte :=
  let room := extentSize - x % extentSize
  memRead s.mem.hbm (foldAddr s d f x) (min n room) ++ memRead s.mem.hbm (foldAddr s d f (x + room)) (n - room)

/-- Logical offsets of the parts of segment `k` (Table 7-2). -/
def segBase (d : DeckImage) (f k : Nat) : Nat := k * fStride d f
def dataBase (d : DeckImage) (f k : Nat) : Nat := segBase d f k + 4096
def brandBase (d : DeckImage) (f k : Nat) : Nat := dataBase d f k + fData d f
def voidBase (d : DeckImage) (f k : Nat) : Nat := brandBase d f k + fBrand d f
def indexBase (d : DeckImage) (f k : Nat) : Nat := voidBase d f k + fVoid d f

/-- `bs` written from offset `x` of a ring of `size` bytes at logical offset `base`. -/
def putRing (s : State) (d : DeckImage) (f base size x : Nat) (bs : List Byte) : State :=
  let room := size - x % size
  putLogical (putLogical s d f (base + x % size) (bs.take room)) d f base (bs.drop room)

/-- `n` bytes from offset `x` of that ring. -/
def getRing (s : State) (d : DeckImage) (f base size x n : Nat) : List Byte :=
  let room := size - x % size
  getLogical s d f (base + x % size) (min n room) ++ getLogical s d f base (n - room)

/-- A brand entry (R178). -/
def brandEntry (brand : Word) (flagged void blocked : Bool) : List Byte :=
  leBytes 8 (brand.toNat + 2 ^ 32 * bitMask ((if flagged then [0] else []) ++ (if void then [1] else []) ++ (if blocked then [2] else [])))

/-- Pages of 4 KiB in a fold's data area. -/
def ringPages (d : DeckImage) (f : Nat) : Nat := fData d f / 4096

/-- The first and the last sample of capture page `j` (R101). -/
def pageFirst (d : DeckImage) (j : Nat) : Sample := j * pageLen d
def pageLast (d : DeckImage) (j : Nat) : Sample := j * pageLen d + pageLen d - 1

/-! Capture pages (R101, R177) -/

/-- The positions of a FULL_PACK step, ascending. -/
def packPositions (d : DeckImage) (i : KInst) : List Nat := ((List.range 4).map (pPackPos d i)).foldl insertNat []

/-- The block of position `p` in block slot `r` of page `j`: void where a guard blocked its write (R72). -/
def pageBlock (s : State) (d : DeckImage) (p j r : Nat) : Block :=
  let n := dkK d * (32 * j + r) + p % dkK d
  if s.deck.blockedItems.contains (.block (Fin.ofNat 64 p) n) then {} else tabGet {} s.ingest.blocks (p + 64 * n)

/-- Row `r` of capture page `j`. -/
def pageRow (s : State) (d : DeckImage) (ps : List Nat) (j r : Nat) : List Byte :=
  ps.flatMap (fun p =>
    let b := pageBlock s d p j r
    if b.void then List.replicate 32 0 else leBytes 32 b.bits.toNat)

/-- The page as formed; a step whose engine has stopped gives zeros (R70; notes/assumptions/22.md). -/
def pageBytes (s : State) (d : DeckImage) (i : KInst) (j : Nat) : List Byte :=
  if engStopped s d i.1 then List.replicate 4096 0
  else (List.range 32).flatMap (pageRow s d (packPositions d i) j)

/-- The page's void sidecar bits. -/
def pageVoids (s : State) (d : DeckImage) (i : KInst) (j : Nat) : Nat :=
  let ps := packPositions d i
  if engStopped s d i.1 then 2 ^ 128 - 1
  else bitMask ((List.range 128).filter (fun b =>
    match (ps.drop (b % 4)).head? with
    | some p => (pageBlock s d p j (b / 4)).void
    | none => false))

/-- The BRAND step of fold `f`. -/
def brandInst (d : DeckImage) (f : Nat) : Option KInst :=
  (instsOf d 9).find? (fun i => pBrandFold d i == f)

/-- Whether a failing engine touches what step `i` of fold `f` puts out (R70, R102). -/
def outFlagged (s : State) (d : DeckImage) (f : Nat) (i : KInst) : Bool :=
  instFlagged s d i || (match brandInst d f with | some b => instFlagged s d b | none => false) ||
    unitFlagged s (0x240 + f) || (instPositions d i).any (fun p => unitFlagged s (0x180 + p))

/-- The rows, of `n`, of a page that a guard of SPINE or quad `q` blocked (R72, R73). -/
def blockedRows (s : State) (q f inst j n : Nat) : List Nat :=
  if storeBlocked s q then List.range n
  else (List.range n).filter (fun r => s.deck.blockedItems.any (fun x =>
    match x with
    | .page p => p.fold.val == f && p.inst == inst && p.page == j && p.row == r
    | _ => false))

/-- A page written at offset `x` of a ring but for the rows that are blocked, which keep what stood there (R102). -/
def putRingRows (s : State) (d : DeckImage) (f base size x : Nat) (bytes : List Byte) (bad : List Nat) : State :=
  if bad.isEmpty then putRing s d f base size x bytes
  else ((List.range ((bytes.length + 127) / 128)).filter (fun r => !bad.contains r)).foldl
    (fun s r => putRing s d f base size (x + 128 * r) ((bytes.drop (128 * r)).take 128)) s

/-- A page of 4 KiB in slot `slot` of fold `f`'s ring, and its brand entry. -/
def putPage (s : State) (d : DeckImage) (f slot : Nat) (bytes : List Byte) (bad : List Nat) (u : UnitRec) : State :=
  let k := (foldOf s f).seg
  putLogical (putRingRows s d f (dataBase d f k) (fData d f) (4096 * slot) bytes bad) d f (brandBase d f k + 8 * slot)
    (brandEntry u.brand u.flagged u.void u.blocked)

/-- Whether slot `slot` of fold `f`'s ring lies on a page of HBM that is quarantined (R433): what is stored there is lost. -/
def deadSlot (s : State) (d : DeckImage) (f slot : Nat) : Bool :=
  hbmBad s (foldAddr s d f (dataBase d f (foldOf s f).seg + 4096 * slot)) 4096 && !s.shep.pageQuar.isEmpty

/-- The place of page `j` of list position `inst` in the segment's order: ascending page number, list order within it
(Table 14-5). -/
def unitSeq (d : DeckImage) (f : Nat) (fs : FoldSt) (inst j : Nat) : Nat := (j - fs.epoch / pageLen d) * fNinst d f + inst

/-- A unit joins the retained ones in that order. -/
def insertUnit (key : UnitRec → Nat) (u : UnitRec) : List UnitRec → List UnitRec
  | [] => [u]
  | v :: t => if key u < key v then u :: v :: t else v :: insertUnit key u t

/-- The step at position `inst` of a fold's instance list. -/
def foldInst (d : DeckImage) (f inst : Nat) : KInst := fInst d f inst

/-- Capture page `j` of list position `inst` of a raw FULL fold is stored with its brand and void entries; the page that stood in its
place of the ring is dropped (R171). A blocked row keeps what its place held (R102). -/
def storeRawPage (s : State) (d : DeckImage) (f inst j : Nat) : State :=
  let fs := foldOf s f
  let key (u : UnitRec) : Nat := unitSeq d f fs u.inst u.num
  let n := unitSeq d f fs inst j
  if fs.units.any (fun u => key u == n || decide (n + ringPages d f ≤ key u)) then s
  else
    let i := foldInst d f inst
    let slot := n % ringPages d f
    let bytes := pageBytes s d i j
    let bad := blockedRows s (engQuad i.1) f inst j 32
    let voids := pageVoids s d i j
    let u : UnitRec := { inst := inst, num := j, ofs := 4096 * slot, len := 4096, first := pageFirst d j, last := pageLast d j,
                         brand := crc32c bytes, flagged := outFlagged s d f i, void := voids != 0,
                         blocked := !bad.isEmpty || deadSlot s d f slot, cut := false }
    let s1 := endCtx (putPage s d f slot bytes bad u) i
    let s2 := putLogical s1 d f (voidBase d f fs.seg + 16 * slot) (leBytes 16 voids)
    setFold s2 f { fs with units := insertUnit key u (fs.units.filter (fun v => decide (n < key v + ringPages d f))) }

/-- Every page of a raw FULL fold that holds a sample from the epoch to `last`, and is not stored yet, is stored; pages that the
ring would drop again are passed over. -/
def storeRawTo (s : State) (d : DeckImage) (f : Nat) (last : Sample) : State :=
  let fs := foldOf s f
  let j0 := fs.epoch / pageLen d
  let j1 := last / pageLen d
  let keep := ringPages d f / max 1 (fNinst d f) + 1
  let from_ := max j0 (j1 + 1 - keep)
  (List.range (j1 + 1 - from_)).foldl (fun s a =>
    (List.range (fNinst d f)).foldl (fun s inst => storeRawPage s d f inst (from_ + a)) s) s

end Sys2Proof.Machine
end

