-- ==== Sys2Proof/Machine/Records.lean ====
section
/-!
DEFINITION. Record folds (R162, R183-R185, R463): the records of TRANSITIONS, DENSITY, ENVELOPE and STATE, and the record pages they
fill.
-/

namespace Sys2Proof.Machine

/-- Records per record page (Table 7-1). -/
def pageCap (d : DeckImage) (f : Nat) : Nat :=
  if fRed d f = 1 then 256 else if fRed d f = 2 then 28 else if fRed d f = 3 then 128 else 64

/-- The first sample that a fold still has to keep once its group has its trigger (R171): s − PRE. -/
def keepFrom (s : State) (d : DeckImage) (g : Nat) : Option (Sample × Sample) :=
  let x := grpOf s g
  match (if x.closing.isSome then x.lastSeg else x.seg) with
  | some seg => seg.trig.map (fun t => (t, t - gPre d g))
  | none => none

/-- Units that may not be dropped for one that ends with sample `last` (R171): those that hold a sample from s − PRE on, once the
trigger sample s has come. -/
def protected_ (keep : Option (Sample × Sample)) (last : Sample) (u : UnitRec) : Bool :=
  match keep with
  | some (t, k) => decide (t ≤ last) && decide (k ≤ u.last)
  | none => false

/-! The fold writer (R203) -/

/-- The bytes of its write buffer. -/
def bufferSize : Nat := 65536

/-- Bytes that the HBM write entries dealt to fold `f` take in one deal period: the entries of its writer, of the engines of its steps and of
its compression engines (Table 3-3). -/
def drainBytes (d : DeckImage) (f : Nat) : Nat :=
  let owners := (0x240 + f) :: (List.range (fNinst d f)).map (fun n => (fInst d f n).1) ++
    ((List.range 64).filter (fun e => cmpV d e && cmpFold d e == f)).map (0x100 + ·)
  64 * ((List.range 128).map (fun pc =>
    ((slotPort d 4 4 pc).filter (fun w => slotV w && slotOp w == 1 && owners.contains (slotOwner w))).length)).sum

/-- The buffer of a TRANSITIONS or STATE fold takes a record of `n` bytes in fclk `t`; `none` where it is full (R181). -/
def bufTake (d : DeckImage) (f t n : Nat) (fs : FoldSt) : Option FoldSt :=
  if fRed d f = 1 ∨ fRed d f = 4 then
    let fill := fs.fill - drainBytes d f * (t - fs.fillAt) + n * dkPeriod d
    if bufferSize * dkPeriod d < fill then none else some { fs with fill := fill, fillAt := max t fs.fillAt }
  else some fs

/-- The unfinished record page of fold `f` is stored, with the bytes after its last record 0, and branded (R162, R178). -/
def storeRecPage (s : State) (d : DeckImage) (f : Nat) : State :=
  let fs := foldOf s f
  if fs.recs.isEmpty then s
  else
    let bytes := (fs.recs.reverse.flatten ++ List.replicate 4096 0).take 4096
    let slot := fs.page % ringPages d f
    let bad := blockedRows s 4 f 0 fs.page 32
    let u : UnitRec := { inst := 0, num := fs.page, ofs := 4096 * slot, len := 4096, first := fs.recFirst, last := fs.recLast,
                         brand := crc32c bytes, flagged := fs.recFlag || unitFlagged s (0x240 + f), void := fs.recVoid,
                         blocked := !bad.isEmpty || deadSlot s d f slot, cut := decide (fs.recs.length < pageCap d f) }
    setFold (putPage s d f slot bytes bad u) f { fs with units := fs.units ++ [u], recs := [], page := fs.page + 1, recVoid := false, recFlag := false }

/-- Whether a record opens a page whose place holds units that have to go, and which: the page that stood there, or, in a
TRANSITIONS fold, the oldest stretch (R171, R463). -/
def dropsFor (d : DeckImage) (f : Nat) (fs : FoldSt) : List UnitRec :=
  if !fs.recs.isEmpty then []
  else if fRed d f = 1 then
    if fs.page % 256 = 0 then fs.units.filter (fun u => decide (u.num / 256 + ringPages d f / 256 ≤ fs.page / 256)) else []
  else fs.units.filter (fun u => decide (u.num + ringPages d f ≤ fs.page))

/-- What forming a record gives: the state, or the cause of the overflow that it meets (Table 7-6). -/
abbrev Formed1 := Except Nat State

/-- A record of samples `first` to `last` joins the page being filled; a full page is stored. The fold overflows where its write buffer is full
(CAUSE RATE), or where its room holds a unit that may not be dropped (CAUSE SPACE; R181). -/
def addRecord (d : DeckImage) (f : Nat) (keep : Option (Sample × Sample)) (first last : Sample) (void flag : Bool) (bytes : List Byte)
    (s : State) : Formed1 :=
  let fs := foldOf s f
  let drops := dropsFor d f fs
  -- a stretch holds every sample up to the one before the next stretch's keyframe
  let next := ((fs.units.filter (fun u => !drops.contains u)).head?.map (fun u => u.first - 1)).getD 0
  if drops.any (fun u => protected_ keep last (if fRed d f = 1 then { u with last := max u.last next } else u)) then .error 2
  else match bufTake d f (last / groupLenD d) bytes.length fs with
  | none => .error 1
  | some fs0 =>
    let fs1 := { fs0 with
      units := fs.units.filter (fun u => !drops.contains u)
      recFirst := if fs.recs.isEmpty then first else fs.recFirst
      recLast := last
      recs := bytes :: fs.recs
      recVoid := fs.recVoid || void
      recFlag := fs.recFlag || flag }
    let s1 := setFold s f fs1
    .ok (if pageCap d f ≤ fs1.recs.length then storeRecPage s1 d f else s1)

/-! TRANSITIONS (R183, R184) -/

/-- Channel `c` at sample `i` as step `x` sees it: value, 0 where void, and void. A step whose engine has stopped sees nothing (R70;
notes/assumptions/22.md). -/
def stepChan (s : State) (d : DeckImage) (x : KInst) (c i : Nat) : Bool × Bool :=
  if engStopped s d x.1 then (false, true)
  else
    let v := chanAt s d c i
    (v.1 && !v.2, v.2)

/-- VALUES at sample `i`. -/
def transValues (s : State) (d : DeckImage) (x : KInst) (i : Nat) : Nat :=
  bitMask ((List.range 64).filter (fun j => (stepChan s d x (pTransChan d x + j) i).1))

/-- Whether some channel of quarter `t` of the 64 from `c0` is void at sample `i`. -/
def quarterVoid (s : State) (d : DeckImage) (x : KInst) (c0 t i : Nat) : Bool :=
  (List.range 16).any (fun j => (stepChan s d x (c0 + 16 * t + j) i).2)

/-- The void mask at sample `i`: bit t for quarter t. -/
def transMask (s : State) (d : DeckImage) (x : KInst) (i : Nat) : Nat :=
  bitMask ((List.range 4).filter (fun t => quarterVoid s d x (pTransChan d x) t i))

/-- Whether a value record is due at sample `i`: a channel valid at both samples differs, or a quarter is valid again after a void
span. -/
def transDue (s : State) (d : DeckImage) (x : KInst) (i : Nat) : Bool :=
  (List.range 64).any (fun j =>
    let a := stepChan s d x (pTransChan d x + j) i
    let b := stepChan s d x (pTransChan d x + j) (i - 1)
    !a.2 && (b.2 || a.1 != b.1))

/-- A 16-byte record. -/
def transRec (time group values : Nat) : List Byte := leBytes 6 time ++ leBytes 2 group ++ leBytes 8 values

/-- What a TRANSITIONS fold writes at a sample: a list position with the kind of its record (0 VOIDMASK, 1 FLAG, 2 value). -/
abbrev TransItem := Nat × Nat

def transBytes (s : State) (d : DeckImage) (f : Nat) (base i : Sample) (it : TransItem) : List Byte :=
  let x := foldInst d f it.1
  let g := pTransGroup d x
  if it.2 = 0 then transRec (i - base) 0xFFFE (g + 65536 * transMask s d x i)
  else if it.2 = 1 then transRec (i - base) 0xFFFD (g + (if outFlagged s d f x then 65536 else 0))
  else transRec (i - base) g (transValues s d x i)

/-- The items that sample `i` owes, in the order of R184. -/
def transItems (s : State) (d : DeckImage) (f : Nat) (i : Sample) : List TransItem :=
  let fs := foldOf s f
  (List.range (fNinst d f)).flatMap (fun n =>
    let x := foldInst d f n
    (if i ≠ fs.epoch ∧ transMask s d x i ≠ transMask s d x (i - 1) then [(n, 0)] else []) ++
      (if outFlagged s d f x != fs.flagged.contains n then [(n, 1)] else []) ++
      (if i ≠ fs.epoch ∧ transDue s d x i then [(n, 2)] else []))

/-- One record of sample `i`. -/
def addTrans (d : DeckImage) (f : Nat) (keep : Option (Sample × Sample)) (i : Sample) (void flag : Bool) (bytes : List Byte) :
    Formed1 → Formed1
  | .error c => .error c
  | .ok s => addRecord d f keep i i void flag bytes s

/-- A keyframe for sample `i` (R184): an EPOCH record, then each step's VOIDMASK and value record. -/
def addKeyframe (d : DeckImage) (f : Nat) (keep : Option (Sample × Sample)) (i : Sample) (s : State) : Formed1 :=
  let s1 := setFold s f { foldOf s f with base := i }
  (List.range (fNinst d f)).foldl (fun o n =>
    let x := foldInst d f n
    let v := transMask s1 d x i != 0
    let g := outFlagged s1 d f x
    addTrans d f keep i v g (transBytes s1 d f i i (n, 2)) (addTrans d f keep i v g (transBytes s1 d f i i (n, 0)) o))
    (addTrans d f keep i false false (transRec 0 0xFFFF i) (.ok s1))

/-- Whether the next record of fold `f` begins a stretch (R463). -/
def atStretch (fs : FoldSt) : Bool := fs.recs.isEmpty && fs.page % 256 == 0

/-- The items of sample `i` are written: a keyframe first where a stretch begins, after which no value record is repeated, and an EPOCH
record where TIME would not fit (R184). -/
def addItems (d : DeckImage) (f : Nat) (keep : Option (Sample × Sample)) (i : Sample) : Nat → List TransItem → State → Formed1
  | 0, _, s => .ok s
  | _, [], s => .ok s
  | fuel + 1, it :: t, s =>
    let fs := foldOf s f
    if atStretch fs then
      match addKeyframe d f keep i s with
      | .error c => .error c
      | .ok s1 => addItems d f keep i fuel ((it :: t).filter (fun p => p.2 != 2)) s1
    else if 2 ^ 48 ≤ i - fs.base then
      match addRecord d f keep i i false false (transRec 0 0xFFFF i) (setFold s f { fs with base := i }) with
      | .error c => .error c
      | .ok s1 => addItems d f keep i fuel (it :: t) s1
    else
      let x := foldInst d f it.1
      match addRecord d f keep i i (transMask s d x i != 0) (outFlagged s d f x) (transBytes s d f fs.base i it) s with
      | .error c => .error c
      | .ok s1 =>
        let fs1 := foldOf s1 f
        let fl := if it.2 = 1 then (if fs1.flagged.contains it.1 then fs1.flagged.filter (· != it.1) else it.1 :: fs1.flagged)
          else fs1.flagged
        addItems d f keep i fuel t (setFold s1 f { fs1 with flagged := fl })

/-- A TRANSITIONS fold takes sample `i`: the first sample of a segment begins with its keyframe. -/
def transSample (d : DeckImage) (f : Nat) (keep : Option (Sample × Sample)) (i : Sample) (s : State) : Formed1 :=
  let start := if i = (foldOf s f).epoch then addKeyframe d f keep i s else .ok s
  match start with
  | .error c => .error c
  | .ok s1 =>
    let items := transItems s1 d f i
    addItems d f keep i (3 * items.length + 3) items s1

/-! STATE (R185) -/

/-- The record of a state word of step `x` of fold `f` at sample `i`. -/
def stateRec (s : State) (d : DeckImage) (f : Nat) (x : KInst) (i : Nat) : List Byte :=
  let g := pQualGroup d x
  leBytes 8 i ++
    leBytes 32 (bitMask ((List.range 256).filter (fun c => (rawSample s 1 (256 * g + c) i).1))) ++
    leBytes 2 (bitMask ((List.range 16).filter (fun p => (blockOf s (16 * g + p) i).void))) ++
    leBytes 1 (if outFlagged s d f x then 1 else 0) ++ List.replicate 21 0

/-- A STATE fold takes sample `i`; a step whose engine has stopped forms no word (R70). -/
def stateSample (d : DeckImage) (f : Nat) (keep : Option (Sample × Sample)) (i : Sample) (s : State) : Formed1 :=
  (List.range (fNinst d f)).foldl (fun o n =>
    match o with
    | .error c => .error c
    | .ok s =>
      let x := foldInst d f n
      let g := pQualGroup d x
      if isWord s g i && !engStopped s d x.1 then
        addRecord d f keep i i ((List.range 16).any (fun p => (blockOf s (16 * g + p) i).void)) (outFlagged s d f x)
          (stateRec s d f x i) s
      else .ok s) (.ok s)

/-! DENSITY and ENVELOPE (R185) -/

/-- The record of window `w` of list position `n`, whose samples are `a` to `b`. -/
def windowRec (s : State) (d : DeckImage) (f n w a b : Nat) : List Byte :=
  let x := foldInst d f n
  let c0 := pWinChan d x
  let is := (List.range (b + 1 - a)).map (fun k => a + k)
  let partial_ := decide (b + 1 - a < fWindow d f)
  let voids := (List.range 4).filter (fun t => is.any (quarterVoid s d x c0 t))
  let counts := (List.range 64).map (fun j =>
    (is.filter (fun i => !engStopped s d x.1 && edgeAt s d 3 (c0 + j) i)).length)
  let seen (v : Bool) (j : Nat) : Bool := is.any (fun i => let y := stepChan s d x (c0 + j) i; !y.2 && y.1 == v)
  let sat := fRed d f == 2 && counts.any (fun c => decide (0xFFFF < c))
  leBytes 6 w ++ leBytes 2 c0 ++
    leBytes 1 (bitMask (voids ++ (if sat then [4] else []) ++ (if partial_ then [5] else []) ++
      (if outFlagged s d f x then [6] else []))) ++
    List.replicate 3 0 ++ leBytes 4 (if partial_ then b + 1 - a else 0) ++
    (if fRed d f = 2 then (counts.map (fun c => leBytes 2 (min c 0xFFFF))).flatten
     else leBytes 16 (bitMask ((List.range 64).flatMap (fun j =>
       (if seen false j then [2 * j] else []) ++ (if seen true j then [2 * j + 1] else [])))))

/-- Window `w` of list position `n` up to sample `b` is recorded. -/
def addWindow (d : DeckImage) (f : Nat) (keep : Option (Sample × Sample)) (n w : Nat) (b : Sample) (s : State) : Formed1 :=
  let x := foldInst d f n
  let fs := foldOf s f
  let a := fs.epoch + w * fWindow d f
  let bytes := windowRec s d f n w a b
  let void := (List.range 4).any (fun t => (List.range (b + 1 - a)).any (fun k => quarterVoid s d x (pWinChan d x) t (a + k)))
  (addRecord d f keep a b void (outFlagged s d f x) bytes s).map (fun s1 =>
    let fs1 := foldOf s1 f
    endCtx (setFold s1 f { fs1 with nextWin := tabPut 0 fs1.nextWin n (w + 1) }) x)

/-! Progress -/

/-- What a storing step does: the state, and the overflow, cause and sample, that it met (R181). -/
abbrev Taken := State × Option (Nat × Sample)

/-- A TRANSITIONS or STATE fold takes `n` samples from `i` on. -/
def takeSamples (d : DeckImage) (f : Nat) (keep : Option (Sample × Sample)) : Nat → Sample → State → Taken
  | 0, _, s => (s, none)
  | n + 1, i, s =>
    match (if fRed d f = 1 then transSample d f keep i s else stateSample d f keep i s) with
    | .error c => (s, some (c, i))
    | .ok s1 => takeSamples d f keep n (i + 1) (setFold s1 f { foldOf s1 f with next := i + 1 })

/-- The windows of fold `f` that are still to be recorded up to sample `last`, in order: window, list position, last sample. -/
def windowsTo (d : DeckImage) (f : Nat) (fs : FoldSt) (last : Sample) : List (Nat × Nat × Sample) :=
  if last < fs.epoch then []
  else
    let w1 := (last - fs.epoch) / fWindow d f
    let w0 := ((List.range (fNinst d f)).map (fun n => tabGet 0 fs.nextWin n)).foldl min (w1 + 1)
    (List.range (w1 + 1 - w0)).flatMap (fun k =>
      (List.range (fNinst d f)).filterMap (fun n =>
        let w := w0 + k
        if w < tabGet 0 fs.nextWin n then none
        else some (w, n, min last (fs.epoch + (w + 1) * fWindow d f - 1))))

/-- A DENSITY or ENVELOPE fold records windows. -/
def takeWindows (d : DeckImage) (f : Nat) (keep : Option (Sample × Sample)) : List (Nat × Nat × Sample) → State → Taken
  | [], s => (s, none)
  | (w, n, b) :: t, s =>
    match addWindow d f keep n w b s with
    | .error c => (s, some (c, (foldOf s f).epoch + w * fWindow d f))
    | .ok s1 => takeWindows d f keep t s1

/-- A record fold forms the records of every sample up to `last`. -/
def formTo (s : State) (d : DeckImage) (f : Nat) (last : Sample) : Taken :=
  let fs := foldOf s f
  let keep := keepFrom s d (fGroup d f)
  if fRed d f = 2 ∨ fRed d f = 3 then takeWindows d f keep (windowsTo d f fs last) s
  else takeSamples d f keep (last + 1 - fs.next) fs.next s

/-- Samples that every channel of the deck can have by now: those before the end of the last block slot stored. -/
def storedTo (s : State) : Sample := s.ingest.blocks.foldl (fun a b => max a ((b.1 / 64 + 1) * 16)) 0

/-- A TRANSITIONS or STATE fold takes samples until page `unit` is stored; `none` where it is not complete by sample `left + i`. -/
def takeUntil (d : DeckImage) (f unit : Nat) (keep : Option (Sample × Sample)) : Nat → Sample → State → Option Taken
  | left, i, s =>
    if unit < (foldOf s f).page then some (s, none)
    else match left with
      | 0 => none
      | n + 1 =>
        match (if fRed d f = 1 then transSample d f keep i s else stateSample d f keep i s) with
        | .error c => some (s, some (c, i))
        | .ok s1 => takeUntil d f unit keep n (i + 1) (setFold s1 f { foldOf s1 f with next := i + 1 })

end Sys2Proof.Machine
end

