-- ==== Sys2Proof/Machine/CompFold.lean ====
section
/-!
DEFINITION. The compressors on capture data (R195-R203, R216): coded blocks, compressed pages with their index entries, and the
ring that drops pages of one range together.
-/

namespace Sys2Proof.Machine

/-! Layout of a compressed fold (R165, R202) -/

def idxArea (d : DeckImage) (f : Nat) : Nat := fIndex d f / (4 * fNinst d f)
def brandArea (d : DeckImage) (f : Nat) : Nat := fBrand d f / (4 * fNinst d f) / 4096 * 4096
def voidArea (d : DeckImage) (f : Nat) : Nat := fVoid d f / (4 * fNinst d f) / 4096 * 4096

/-- Index entries of one substream. -/
def idxCount (d : DeckImage) (f : Nat) : Nat := idxArea d f / 32

/-- The first capture page of substream `u` in a segment of epoch `e` (R199). -/
def subFirst (d : DeckImage) (u e : Nat) : Nat :=
  let j := e / pageLen d
  j + (u % 4 + 4 - j % 4) % 4

/-- The capture page at place `i` of range `m` of substream `u`. -/
def rangePage (m u i : Nat) : Nat := 1024 * m + u % 4 + 4 * i

/-- The open compressed page of engine `e`, a new one where the segment has none yet. -/
def compPage (s : State) (d : DeckImage) (f u e : Nat) : CompPage :=
  match assoc s.comp.pages e with
  | some p => p
  | none => { m := subFirst d u (foldOf s f).epoch / 1024 }

def setCompPage (s : State) (e : Nat) (p : CompPage) : State := s.modComp (fun c => { c with pages := assocSet c.pages e p })

/-- A capture page as it enters the compressor: bytes, void bits, and flags of R70; a page before the substream's first is void filler
(R199). -/
def compInput (s : State) (d : DeckImage) (f u j : Nat) : List Byte × Nat × Bool :=
  let fs := foldOf s f
  if j < subFirst d u fs.epoch then (List.replicate 4096 0, 2 ^ 128 - 1, false)
  else
    let i := foldInst d f (u / 4)
    (pageBytes s d i j, pageVoids s d i j, outFlagged s d f i)

/-- The place of the brand entry of capture page `i` of the compressed page with index entry `x` of substream `u` (R202). -/
def compBrandAt (s : State) (d : DeckImage) (f u x i : Nat) : Nat :=
  brandBase d f (foldOf s f).seg + u * brandArea d f + 2048 * x + 8 * i

/-- The brand and void entries of capture page `j` at place `i` of the page that will take index entry `x` of substream `u` (R178,
R202). -/
def putCompSide (s : State) (d : DeckImage) (f u x i j : Nat) : State :=
  let p := compInput s d f u j
  let s1 := putLogical s d f (compBrandAt s d f u x i) (brandEntry (crc32c p.1) p.2.2 (p.2.1 != 0) false)
  putLogical s1 d f (voidBase d f (foldOf s f).seg + u * voidArea d f + 4096 * x + 16 * i) (leBytes 16 p.2.1)

/-- The brand entries of the first `n` capture pages of a compressed page are marked BLOCKED (R178). -/
def blockCompSide (s : State) (d : DeckImage) (f u x n : Nat) : State :=
  (List.range n).foldl (fun s i =>
    let o := compBrandAt s d f u x i
    putLogical s d f o (leBytes 8 (leNat (getLogical s d f o 8) ||| 2 ^ 34))) s

/-- The next index entry of substream `u`. -/
def nextIdx (s : State) (d : DeckImage) (f u : Nat) : Nat := tabGet 0 (foldOf s f).ix u % max 1 (idxCount d f)

/-! The write buffer (R203) -/

/-- Bytes of a span that have arrived by fclk `t`: they come evenly while their input comes. -/
def spanAt (t : Nat) (x : OutSpan) : Nat :=
  if x.until_ ≤ t then x.bytes else x.bytes * (t - x.from_) / (x.until_ - x.from_)

def arrivedBy (l : List OutSpan) (t : Nat) : Nat := (l.map (spanAt t)).sum

/-- The fclk in which a span begins or ends. -/
def spanEdges (l : List OutSpan) : List Nat := l.flatMap (fun x => [x.from_, x.until_])

/-- Whether more than `n` bytes that arrive from fclk `a` to fclk `b` find no write entry by then. -/
def moreThan (d : DeckImage) (f n : Nat) (l : List OutSpan) (a b : Nat) : Bool :=
  decide ((arrivedBy l a + n) * dkPeriod d + drainBytes d f * (b - a) < arrivedBy l b * dkPeriod d)

/-- The first fclk in which the 64 KiB are exceeded. -/
def bufferFull (d : DeckImage) (f : Nat) (l : List OutSpan) : Option Nat :=
  let es := spanEdges l
  (es.flatMap (fun a => (es.filter (fun b => decide (a ≤ b) && moreThan d f bufferSize l a b)).filterMap (fun b =>
    ((List.range (b + 1 - a)).find? (fun k => moreThan d f bufferSize l a (a + k))).map (a + ·)))).min?

/-- The bytes in the buffer in fclk `t`. -/
def bufferLevel (d : DeckImage) (f : Nat) (l : List OutSpan) (t : Nat) : Nat :=
  ((spanEdges l).filter (· ≤ t)).foldl (fun m a => max m (arrivedBy l t - arrivedBy l a - drainBytes d f * (t - a) / max 1 (dkPeriod d))) 0

/-- The fclk at which the oldest byte that the buffer holds in fclk `t` arrived. -/
def storedUntil (d : DeckImage) (f : Nat) (l : List OutSpan) (t : Nat) : Nat :=
  let keep := arrivedBy l t - bufferLevel d f l t
  let a := ((spanEdges l).filter (fun a => decide (a ≤ t) && decide (arrivedBy l a ≤ keep))).foldl max 0
  ((List.range (t + 1 - a)).map (a + ·)).foldl (fun m x => if arrivedBy l x ≤ keep then max m x else m) a

/-! Engines -/

/-- Engine `e` is quarantined, which holds over every reset (R216, R424). -/
def quarCmp (s : State) (e : Nat) : State :=
  (wearAdd (raiseErr s (Reg.CMP_STATUS e) 2 3 0x0480 e) 2 (unitCode (Reg.CMP_STATUS e) e) 0).modComp
    (fun c => { c with quar := insertNat c.quar e })

/-- SELFCHK of engine `e`: the failure is counted, and at SELFCHK_LIM within the second the engine is quarantined (R197, R216). -/
def selfCheckFail (s : State) (e : Nat) : State :=
  let s1 := incCnt (raiseBit s (Reg.CMP_STATUS e) 0) (Reg.CMP_SELFCHK_CNT e) 1
  let l := noteTime s second (tabGet [] s.comp.fails e)
  let s2 := s1.modComp (fun c => { c with fails := tabPut [] c.fails e l })
  if rdF s Reg.CMP_CTRL 7 0 ≤ l.length then quarCmp s2 e else s2

/-- What a block's check brings for engine `e` (R197). -/
def checkedBlock (s : State) (e : Nat) : EngineCheck → State
  | .pass => s
  | .mismatch => selfCheckFail s e
  | .ecc => if s.comp.quar.contains e then s else quarCmp (raiseBit s (Reg.CMP_STATUS e) 1) e

/-- The cut points of a block of `n` capture pages after `off` bits and `p` capture pages (R201). -/
def blockCuts (p off n : Nat) (c : Coded) : List (Nat × Nat × List Bool) :=
  (p + n, off + c.bits.length, []) ::
    ((List.range (n - 1)).zip c.cuts).reverse.map (fun k => (p + k.1 + 1, off + k.2.1, k.2.2))

/-- Engine `e` takes `n` capture pages of its open page and codes them as one block, followed by a full flush where `last` (R195, R196,
R198). A quarantined engine is bypassed (R216). -/
def compBlock (s : State) (d : DeckImage) (f u e n : Nat) (chk : EngineCheck) (last : Bool) : State :=
  let p := compPage s d f u e
  let x := nextIdx s d f u
  let js := (List.range n).map (fun i => rangePage p.m u (p.pages + i))
  let ins := js.map (compInput s d f u)
  let bypass := s.comp.quar.contains e
  let b := codeBlock (if bypass then 0 else fComp d f) (cmpSearch d e) s.free (chk == .pass) false p.out.length p.hist (ins.map Prod.fst)
  let o1 := p.out ++ b.bits
  let out := if last then o1 ++ flushBits o1.length else o1
  let len := out.length / 8 - p.out.length / 8
  let s1 := (List.range n).foldl (fun s i => putCompSide s d f u x (p.pages + i) (rangePage p.m u (p.pages + i))) (useFree s)
  let s2 := wr64 s1 (Reg.CMP_IN_LO e) (rd64 s1 (Reg.CMP_IN_LO e) + 4096 * n)
  let s3 := wr64 s2 (Reg.CMP_OUT_LO e) (rd64 s2 (Reg.CMP_OUT_LO e) + len)
  let s4 := if b.stored then incCnt s3 (Reg.CMP_STORED_CNT e) 1 else s3
  let s5 := endCtx (if bypass then s4 else checkedBlock s4 e chk) (foldInst d f (u / 4))
  let span : OutSpan := { sub := u, from_ := pageFirst d (rangePage p.m u p.pages) / groupLenD d,
                          until_ := (pageLast d (rangePage p.m u (p.pages + n - 1)) + 1) / groupLenD d, bytes := len }
  let p1 : CompPage := { p with
    pages := p.pages + n
    out := out
    stored := p.stored || b.stored
    flagged := p.flagged || bypass || chk == .ecc || unitFlagged s (0x100 + e) || ins.any (fun i => i.2.2)
    void := p.void || ins.any (fun i => i.2.1 != 0)
    hist := histOn p.hist (ins.map Prod.fst).flatten
    cuts := blockCuts p.pages p.out.length n b ++ p.cuts }
  setCompPage (setFold s5 f { foldOf s5 f with spans := span :: (foldOf s5 f).spans }) e p1

/-! The ring -/

/-- Bytes and entries that substream `u` keeps. -/
def subUsed (fs : FoldSt) (u : Nat) : Nat := ((fs.units.filter (fun r => r.inst == u)).map UnitRec.len).sum
def subKept (fs : FoldSt) (u : Nat) : Nat := (fs.units.filter (fun r => r.inst == u)).length

/-- Whether substream `u` has room for a page of `len` bytes. -/
def subRoom (d : DeckImage) (f : Nat) (fs : FoldSt) (u len : Nat) : Bool :=
  decide (subUsed fs u + len ≤ subArea d f) && decide (subKept fs u + 1 ≤ idxCount d f)

/-- The oldest pages are dropped, range by range in every substream, until substream `u` has room for a page of range `m` that ends with
sample `last` (R171, R202); `none` where a page that must be kept would go. -/
def makeRoom (d : DeckImage) (f : Nat) (keep : Option (Sample × Sample)) (last : Sample) (m u len : Nat) : Nat → FoldSt → Option FoldSt
  | 0, _ => none
  | fuel + 1, fs =>
    if subRoom d f fs u len then some fs
    else
      match (fs.units.map UnitRec.num).min? with
      | none => none
      | some old =>
        let drops := fs.units.filter (fun r => r.num == old)
        if old = m ∨ drops.any (protected_ keep last) then none
        else makeRoom d f keep last m u len fuel { fs with units := fs.units.filter (fun r => r.num != old) }

/-- An index entry (R179). -/
def indexEntry (s : State) (d : DeckImage) (f u : Nat) (p : CompPage) (last : Bool) (ofs : Nat) : List Byte :=
  let j := rangePage p.m u 0
  leBytes 6 j ++ leBytes 1 u ++
    leBytes 1 (bitMask ((if p.stored then [0] else []) ++ (if p.flagged then [1] else []) ++ (if p.void then [2] else []) ++
      (if last then [3] else []))) ++
    leBytes 8 ofs ++ leBytes 12 (timeWord (gridT s (pageFirst d j)) (posChan (dkK d) ((packPositions d (foldInst d f (u / 4))).headD 0))) ++
    leBytes 4 (packBits p.out).length

/-- The last sample of an open page. -/
def compPageLast (d : DeckImage) (u : Nat) (p : CompPage) : Sample := pageLast d (rangePage p.m u (p.pages - 1))

/-- Compressed page `p` of substream `u` is stored: its bytes, its index entry and its unit; RATE_WARN where it exceeds 1 MiB / RATIO (R198,
R203). What a guard blocks keeps its old bytes (R102). `none` where the ring has no room. -/
def storeCompPage (s : State) (d : DeckImage) (f u e : Nat) (p : CompPage) (last : Bool) : Option State :=
  let out := packBits p.out
  let fs := foldOf s f
  match makeRoom d f (keepFrom s d (fGroup d f)) (compPageLast d u p) p.m u out.length (fs.units.length + 1) fs with
  | none => none
  | some fs1 =>
    let ofs := tabGet 0 fs1.wr u
    let x := nextIdx s d f u
    let base := dataBase d f fs.seg + u * subArea d f
    let bad := blockedRows s (e / 16) f u p.m ((out.length + 127) / 128)
    let r : UnitRec := { inst := u, num := p.m, ofs := ofs, len := out.length, ix := x, first := pageFirst d (rangePage p.m u 0),
                         last := compPageLast d u p, flagged := p.flagged, void := p.void, blocked := !bad.isEmpty, cut := last }
    let s1 := putRingRows s d f base (subArea d f) ofs out bad
    let s2 := putLogical s1 d f (indexBase d f fs.seg + u * idxArea d f + 32 * x) (indexEntry s d f u p last ofs)
    let s3 := if bad.isEmpty then s2 else blockCompSide s2 d f u x p.pages
    let s4 := setFold s3 f { fs1 with
      units := fs1.units ++ [r]
      wr := tabPut 0 fs1.wr u ((ofs + out.length) % max 1 (subArea d f))
      ix := tabPut 0 fs1.ix u (tabGet 0 fs1.ix u + 1) }
    some (setCompPage (if 256 * 2 ^ 20 < out.length * fRatio d f then raiseBit s4 (Reg.CMP_STATUS e) 3 else s4) e { m := p.m + 1 })

/-- A range that finds no room before the trigger is dropped in every substream, the oldest as the newest (R171): the fold does not overflow
for it. -/
def dropRange (s : State) (f e m : Nat) : State :=
  let fs := foldOf s f
  setCompPage (setFold s f { fs with units := fs.units.filter (fun r => r.num != m), skip := some m }) e { m := m + 1 }

/-- Whether the open page `p` of substream `u` holds a sample from the trigger on. -/
def afterTrigger (s : State) (d : DeckImage) (f u : Nat) (p : CompPage) : Bool :=
  match keepFrom s d (fGroup d f) with
  | some k => decide (k.1 ≤ compPageLast d u p)
  | none => false

/-- The open page of engine `e` ends (R198, R200). Where the ring has no room, the fold overflows if the page holds a sample from the trigger
on, else the range is dropped. -/
def endCompPage (s : State) (d : DeckImage) (f u e : Nat) (last : Bool) : Taken :=
  let p := compPage s d f u e
  let hit := afterTrigger s d f u p
  if (foldOf s f).skip = some p.m ∧ hit = false then (setCompPage s e { m := p.m + 1 }, none)
  else
    match storeCompPage s d f u e p last with
    | some s1 => (s1, none)
    | none => if hit then (s, some (2, compPageLast d u p + 1)) else (dropRange s f e p.m, none)

/-! Taking input -/

/-- Capture pages of its open page that engine `e` still has to take for a segment whose last sample is `last`; all of them where that is
not known. -/
def compLeft (d : DeckImage) (u : Nat) (p : CompPage) (last : Option Sample) : Nat :=
  ((List.range 256).filter (fun i => decide (p.pages ≤ i) &&
    (match last with | some l => decide (pageFirst d (rangePage p.m u i) ≤ l) | none => true))).length

/-- Engine `e` takes its next block of up to eight capture pages, fewer where its page or the segment ends, and ends its compressed page there
(R195, R198, R200). A page that has no more to take ends. -/
def compStep (s : State) (d : DeckImage) (f u e : Nat) (chk : EngineCheck) (last : Option Sample) : Taken :=
  let p := compPage s d f u e
  let left := compLeft d u p last
  let n := min 8 left
  if n = 0 then
    if p.pages = 0 then (s, none)
    else endCompPage (setCompPage s e { p with out := p.out ++ flushBits p.out.length }) d f u e true
  else
    let full := p.pages + n == 256
    let s1 := compBlock s d f u e n chk (full || n == left)
    match bufferFull d f (foldOf s1 f).spans with
    | some t => (s1, some (1, t * groupLenD d))
    | none => if full || n == left then endCompPage s1 d f u e (!full) else (s1, none)

/-- Substream `u` takes what it holds for the segment up to sample `last`, block by block, and ends its last page (R200). -/
def compTo (d : DeckImage) (f u e : Nat) (last : Sample) : Nat → State → Taken
  | 0, s => (s, none)
  | fuel + 1, s =>
    let p := compPage s d f u e
    if compLeft d u p (some last) = 0 ∧ p.pages = 0 then (s, none)
    else
      match compStep s d f u e .pass (some last) with
      | (s1, none) => compTo d f u e last fuel s1
      | r => r

/-- The substreams of a compressed fold with their engines. -/
def subEngines (d : DeckImage) (f : Nat) : List (Nat × Nat) :=
  (List.range (4 * fNinst d f)).filterMap (fun u => (cmpEngine d f u).map (fun e => (u, e)))

/-- Every substream ends at a segment close; the first that overflows stops it (R181). -/
def compClose (s : State) (d : DeckImage) (f : Nat) (last : Sample) : Taken :=
  (subEngines d f).foldl (fun r p =>
    match r with
    | (s, none) =>
      if last < pageFirst d (subFirst d p.1 (foldOf s f).epoch) then (s, none)
      else compTo d f p.1 p.2 last (last / pageLen d + 2) s
    | r => r) (s, none)

/-! The cut of an overflow (R182, R201) -/

/-- Engine `e` takes the `n` whole capture pages before `so` that are left to it, and ends the pages that they fill: the block in progress
ends early (R195). -/
def cutTake (d : DeckImage) (f u e : Nat) (so : Sample) : Nat → State → State
  | 0, s => s
  | fuel + 1, s =>
    let p := compPage s d f u e
    let n := min 8 ((List.range 256).filter (fun i => decide (p.pages ≤ i) && decide (pageLast d (rangePage p.m u i) < so))).length
    if n = 0 then s
    else
      let full := p.pages + n == 256
      let s1 := compBlock s d f u e n .pass full
      if full then
        match endCompPage s1 d f u e false with
        | (s2, none) => cutTake d f u e so fuel s2
        | _ => s1
      else s1

/-- Bytes of the open page of substream `u` that the write entries have taken by fclk `t`. -/
def storedBytes (d : DeckImage) (f u : Nat) (l : List OutSpan) (p : CompPage) (t : Nat) : Nat :=
  let mine := l.filter (fun x => x.sub == u)
  arrivedBy mine (storedUntil d f l t) - ((mine.map OutSpan.bytes).sum - p.out.length / 8)

/-- Substream `u` ends at its last cut point whose preceding bytes are stored and for which there is room: the end-of-block code and a full
flush follow (R201). Pages that have ended count as stored (notes/assumptions/24.md). -/
def cutPage (d : DeckImage) (f u e : Nat) (l : List OutSpan) (t : Nat) (s : State) : State :=
  let p := compPage s d f u e
  let n := storedBytes d f u l p t
  let tries := (p.cuts.filter (fun c => decide (c.2.1 ≤ 8 * n))).map (fun c =>
    let o := p.out.take c.2.1 ++ c.2.2
    { p with pages := c.1, out := o ++ flushBits o.length })
  (tries.findSome? (fun q => storeCompPage s d f u e q true)).getD s

/-- Every substream ends where it stands when its group stops at sample `so`. -/
def compCut (s : State) (d : DeckImage) (f : Nat) (so : Sample) : State :=
  let s1 := (subEngines d f).foldl (fun s p => cutTake d f p.1 p.2 so (so / pageLen d + 2) s) s
  let l := (foldOf s1 f).spans
  (subEngines d f).foldl (fun s p => cutPage d f p.1 p.2 l (so / groupLenD d) s) s1

/-- The first capture page that some substream has not stored (R182). -/
def compStored (s : State) (d : DeckImage) (f : Nat) : Nat :=
  let fs := foldOf s f
  ((subEngines d f).map (fun p =>
    match (fs.units.filter (fun r => r.inst == p.1)).getLast? with
    | some r => (r.last + 1) / pageLen d + 3
    | none => subFirst d p.1 fs.epoch)).min?.getD 0

/-- A new segment's streams begin anew: history never crosses a full flush. -/
def compOpen (s : State) (d : DeckImage) (f : Nat) : State :=
  s.modComp (fun c => { c with pages := (subEngines d f).foldl (fun l p => assocDel l p.2) c.pages })

end Sys2Proof.Machine
end

