-- ==== Sys2Proof/Machine/Folds.lean ====
section
/-!
DEFINITION. Fold groups (R167-R176, R180-R182): opening and closing segments, hold-off and re-arming, overflow, and the scheduled changes
that a group makes by itself.
-/

namespace Sys2Proof.Machine

/-! Descriptors (R180) -/

/-- The first sample of the first retained unit, not before the segment's epoch. A fold that keeps no unit gives its epoch
(notes/assumptions/24.md). -/
def foldFirst (fs : FoldSt) : Sample :=
  match fs.units with
  | [] => fs.epoch
  | u :: _ => max fs.epoch u.first

/-- START_OFS and USED of Table 7-5. The units of a compressed fold lie in as many rings as it has substreams, and the table gives one offset:
the model takes those of the substream of the oldest unit (DESIGN CHOICE, notes/assumptions/24.md). -/
def foldSpan (d : DeckImage) (f : Nat) (fs : FoldSt) : Nat × Nat :=
  match fs.units with
  | [] => (0, 0)
  | u :: _ =>
    if fIsComp d f then (32 * u.ix, 32 * (fs.units.filter (fun r => r.inst == u.inst)).length)
    else (u.ofs, (fs.units.map UnitRec.len).sum)

/-- Whether the kept data begin after the pre-trigger part (R170, R171). -/
def isPreShort (d : DeckImage) (g : Nat) (seg : SegSt) (fs : FoldSt) : Bool :=
  match seg.trig with
  | none => false
  | some t => seg.preShort || decide (t - gPre d g < foldFirst fs)

/-- The descriptor of fold `f` for segment `seg` whose last sample is `last`; `extra` holds POST_CUT and NOTRIG, `ovf` the OVF record. -/
def descriptor (d : DeckImage) (g f : Nat) (seg : SegSt) (fs : FoldSt) (last : Sample) (extra : Nat) (ovf : List Byte) : List Byte :=
  let sp := foldSpan d f fs
  let bit (b : Bool) (i : Nat) : Nat := if b then 2 ^ i else 0
  let flags := 1 + bit seg.trig.isSome 1 + bit seg.forced 2 + extra + bit (isPreShort d g seg fs) 4 + bit (!ovf.isEmpty) 6 +
    bit (fs.units.any UnitRec.void) 7 + bit (fs.units.any UnitRec.flagged) 8 + bit (fs.units.any UnitRec.blocked) 9
  (leBytes 8 seg.epoch ++ leBytes 8 (foldFirst fs) ++ leBytes 8 (seg.trig.getD 0) ++ leBytes 8 last ++
    leBytes 12 seg.trigTime.toNat ++ leBytes 4 flags ++ leBytes 8 sp.1 ++ leBytes 8 sp.2 ++ leBytes 4 seg.seg ++ leBytes 4 0 ++
    leBytes 8 seg.post ++ List.replicate 48 0 ++ ovf ++ List.replicate 4096 0).take 4096

/-- The OVF record (Table 7-7). -/
def ovfRecord (s : State) (cause fold : Nat) (stop last : Sample) : List Byte :=
  leBytes 1 cause ++ leBytes 1 fold ++ List.replicate 6 0 ++ leBytes 8 stop ++ leBytes 12 (timeWord (gridT s last) 0x0480) ++
    List.replicate 4 0

/-- The descriptors of a group's folds are written, and the folds' units kept as those of a closed segment. -/
def writeDescriptors (s : State) (d : DeckImage) (g : Nat) (seg : SegSt) (last : Sample) (extra : Nat) (ovf : List Byte) : State :=
  let s1 := (gFolds d g).foldl (fun s f =>
    let fs := foldOf s f
    (putLogical s d f (segBase d f seg.seg) (descriptor d g f seg fs last extra ovf)).modFolds (fun x =>
      { x with closedUnits := assocSet x.closedUnits (f * 65536 + seg.seg) fs })) s
  let short := (gFolds d g).any (fun f => isPreShort d g seg (foldOf s f))
  let s2 := raise (wr64 s1 (Reg.FOLD_GRP_LAST_LO g) last) (Reg.FOLD_GRP_STATUS g) (if short then 0x12 else 0x2)
  setGrp s2 g { grpOf s2 g with closing := none }

/-- The last sample up to which fold `f` has stored every unit of its open segment; `none` where it has stored none. -/
def foldStored (s : State) (d : DeckImage) (f : Nat) : Option Sample :=
  let fs := foldOf s f
  let ends : List (Option Sample) :=
    if fIsComp d f then [if compStored s d f * pageLen d ≤ fs.epoch then none else some (compStored s d f * pageLen d - 1)]
    else (List.range (if fRed d f = 0 then fNinst d f else 1)).map (fun i =>
      ((fs.units.filter (fun u => u.inst == i)).getLast?).map UnitRec.last)
  if ends.any Option.isNone then none else (ends.filterMap id).min?

/-- FOLD_GRP_LAST (Table 7-12): the last sample stored by the group, in the open segment while it stores data, else in the last one that
closed. -/
def groupLast (s : State) (d : DeckImage) (g : Nat) : Sample :=
  let x := grpOf s g
  let l := (gFolds d g).map (foldStored s d)
  if (x.seg.isSome || x.closing.isSome) && !l.any Option.isNone then ((l.filterMap id).min?).getD (rd64 s (Reg.FOLD_GRP_LAST_LO g))
  else rd64 s (Reg.FOLD_GRP_LAST_LO g)

/-! Overflow (R181, R182) -/

/-- What fold `f` stores of a segment that stops at sample `so`, and its last sample stored. -/
def stopFold (s : State) (d : DeckImage) (f : Nat) (so : Sample) : State × Sample :=
  if fRed d f = 0 then
    let j := so / pageLen d
    if fIsComp d f then
      let s1 := compCut s d f so
      (s1, min (compStored s1 d f) j * pageLen d - 1)
    else
      let last := j * pageLen d - 1
      (if (foldOf s f).epoch ≤ last then storeRawTo s d f last else s, last)
  else
    let r := formTo s d f (so - 1)
    (storeRecPage r.1 d f, match r.2 with | some (_, i) => i - 1 | none => so - 1)

/-- The group stops at sample `so` (R182). A group with no open segment writes the OVF record into the descriptor of the segment it
closed last. -/
def stopOvf (s : State) (d : DeckImage) (g fold cause : Nat) (so : Sample) : State :=
  let x := grpOf s g
  let mark (s : State) : State :=
    handsIdle (raiseErr (setGrp s g { grpOf s g with st := .stoppedOvf, seg := none, closing := none }) (Reg.FOLD_GRP_STATUS g) 3 2 0x0480 g) d
  match (if x.closing.isSome then x.lastSeg else x.seg) with
  | some seg =>
    let p := (gFolds d g).foldl (fun (a : State × Option Sample) f =>
      let r := stopFold a.1 d f so
      (r.1, some (match a.2 with | none => r.2 | some m => min m r.2))) (s, none)
    let last := p.2.getD (so - 1)
    let extra := match x.closing with | some c => c.2 | none => if seg.trig.isSome then 0 else 8
    let seg1 := if seg.trig.isSome then seg else { seg with post := x.post }
    let s1 := writeDescriptors p.1 d g seg1 last extra (ovfRecord s cause fold so last)
    mark (setGrp s1 g { grpOf s1 g with closed := if x.closing.isSome then x.closed else x.closed + 1, lastSeg := some seg1 })
  | none =>
    match x.lastSeg with
    | none => mark s
    | some seg =>
      let last := rd64 s (Reg.FOLD_GRP_LAST_LO g)
      mark ((gFolds d g).foldl (fun s f =>
        let b := segBase d f seg.seg
        let fl := leNat (getLogical s d f (b + 0x2C) 4)
        putLogical (putLogical s d f (b + 0x2C) (leBytes 4 (fl ||| 0x40))) d f (b + 0x80) (ovfRecord s cause fold so last)) s)

/-! Closing (R175, R176) -/

/-- The open segment ends: after sample `last` nothing more is stored; its descriptor is still to be written. -/
def endSegment (s : State) (g : Nat) (last : Sample) (extra : Nat) (next : GroupState) : State :=
  let x := grpOf s g
  setGrp s g { x with st := next, seg := none, lastSeg := x.seg, closed := x.closed + 1, closing := some (last, extra) }

/-- A fold stores what remains of a segment up to sample `last`. -/
def storeRest (s : State) (d : DeckImage) (f : Nat) (last : Sample) : Taken :=
  if fRed d f = 0 then (if fIsComp d f then compClose s d f last else (storeRawTo s d f last, none))
  else
    match formTo s d f last with
    | (s1, none) => (storeRecPage s1 d f, none)
    | r => r

/-- The folds store the remaining data of the segment that has ended, and its descriptor is written (R175); a fold that finds no room
overflows instead (R181). -/
def finishClose (s : State) (d : DeckImage) (g : Nat) : State :=
  let x := grpOf s g
  match x.closing, x.lastSeg with
  | some (last, extra), some seg0 =>
    let seg := if seg0.trig.isSome then seg0 else { seg0 with post := x.post }
    let r := (gFolds d g).foldl (fun (a : State × Option (Nat × Nat × Sample)) f =>
      match a.2 with
      | some _ => a
      | none =>
        let q := storeRest a.1 d f last
        (q.1, q.2.map (fun i => (f, i)))) (s, none)
    match r.2 with
    | some (f, c, i) => stopOvf r.1 d g f c (min i (last + 1))
    | none => writeDescriptors r.1 d g seg last extra []
  | _, _ => s

/-! Opening (R169, R174) -/

/-- Segment `k` opens with epoch `e`, and the group enters PREFILL, or ARMED when PRE is 0 (R169); hands, counters and timers are reset
(R114, R115, R147). A group whose last segment overflows as it closes stays stopped (R182). -/
def openSegment (s : State) (d : DeckImage) (g k : Nat) (e : Sample) : State :=
  let s0 := finishClose s d g
  if (grpOf s g).closing.isSome && (grpOf s0 g).st == .stoppedOvf then s0
  else
  let s1 := (gFolds d g).foldl (fun s f =>
    let s1 := setFold s f { seg := k, epoch := e, next := e, base := e }
    compOpen (putLogical s1 d f (segBase d f k + 0x2C) (leBytes 4 0)) d f) s0
  let s2 := setGrp s1 g { grpOf s1 g with
    st := if gPre d g = 0 then .armed else .prefill
    seg := some { seg := k, epoch := e }
    ignored := 0, holdEnd := none, epoch := e, closing := none }
  armResets s2 d g e

/-- s_h where it is known (R174), for a trigger at sample `t`. -/
def holdStart (s : State) (d : DeckImage) (g : Nat) (t : Sample) : Option Sample :=
  if gHoldoff d g = 0 then some t
  else if gHoldEvents d g then none
  else some (t + (nsT (gHoldoff d g) + period s - 1) / period s)

/-- `n` rounded up to a multiple of `m`. -/
def roundUp (n m : Nat) : Nat := (n + m - 1) / m * m

/-- The first sample group none of which a row has taken. -/
def takenBy (s : State) : Sample :=
  match s.recog.evalTo with
  | some i => roundUp (i + 1) (groupLen s)
  | none => 0

/-- s_r where it is known (R174). -/
def rearmAt (s : State) (g : Nat) : Option Sample :=
  let x := grpOf s g
  match x.lastSeg, x.holdEnd with
  | some seg, some h => some (roundUp (max seg.postEnd h) (groupLen s))
  | _, _ => none

/-- Whether a re-deal that waits names group `g` (R78). -/
def redealNames (s : State) (g : Nat) : Bool :=
  match s.deck.redeal with
  | some r => nbit r.groups.toNat g
  | none => false

/-- The hold-off ends at s_r: the next segment opens (R174). A group that a waiting re-deal names waits for it (R78). -/
def reArm (s : State) (d : DeckImage) (g : Nat) (sr : Sample) : State :=
  if redealNames s g then
    match s.deck.redeal with
    | some r => s.modDeck (fun k => { k with redeal := some { r with waiting := assocSet r.waiting g sr } })
    | none => s
  else openSegment s d g (grpOf s g).closed sr

/-- The post part has ended: HOLDOFF, or STOPPED after the last segment (R174). SEGS_DONE is set here only: R174 sets it with the end of the
post part, and the spec does not say that a DISARM or an overflow of the last segment sets it (DESIGN CHOICE, notes/assumptions/28.md). -/
def endPost (s : State) (d : DeckImage) (g : Nat) : State :=
  let x := grpOf s g
  match x.seg with
  | none => s
  | some seg =>
    if gSegments d g ≤ x.closed + 1 then
      handsIdle (raiseBit (endSegment s g (seg.postEnd - 1) 0 .stopped) (Reg.FOLD_GRP_STATUS g) 2) d
    else endSegment s g (seg.postEnd - 1) 0 .holdoff

/-- The first of the group's own scheduled changes, where it falls at or before sample `i` (R168). -/
def ownChange (s : State) (d : DeckImage) (g : Nat) (i : Sample) : State :=
  let x := grpOf s g
  match x.st, x.seg with
  | .post, some seg => if seg.postEnd ≤ i then endPost s d g else s
  | .holdoff, _ =>
    match rearmAt s g with
    | some sr => if sr ≤ i then reArm s d g sr else s
    | none => s
  | .prefill, some seg => if seg.epoch + gPre d g ≤ i then setGrp s g { x with st := .armed } else s
  | _, _ => s

/-- The group's own scheduled changes up to sample `i` (R168): at most the end of a post part, a re-arm and the end of prefill. -/
def settle (s : State) (d : DeckImage) (g : Nat) (i : Sample) : State :=
  ownChange (ownChange (ownChange s d g i) d g i) d g i

/-! Rows -/

/-- PREFILL_COMPLETE (R170). -/
def execPrefillComplete (g : Fin 16) (s : State) : Host.Outcome State Fault Refusal :=
  .next (if (grpOf s g).st = .prefill then setGrp s g { grpOf s g with st := .armed } else s)

/-- SEGMENT_CLOSE (R174, R175). -/
def execSegmentClose (g : Fin 16) (s : State) : Host.Outcome State Fault Refusal :=
  match actDeck s with
  | none => .next s
  | some d => .next (finishClose (if (grpOf s g).st = .post then endPost s d g else s) d g)

/-- HOLDOFF_END (R174, R78). -/
def execHoldoffEnd (g : Fin 16) (s : State) : Host.Outcome State Fault Refusal :=
  match actDeck s with
  | none => .next s
  | some d =>
    match (grpOf s g).st, rearmAt s g with
    | .holdoff, some sr => .next (reArm s d g sr)
    | _, _ => .next s

/-- Whether a group stores data (Table 7-4). -/
def storing (s : State) (g : Nat) : Bool :=
  match (grpOf s g).st with
  | .prefill | .armed | .post => true
  | _ => false

/-- FOLD_OVERFLOW (R181, R182): CAUSE RATE in any storing state, SPACE in POST for a fold that has no capacity or is compressed. -/
def execFoldOverflow (f : Fin 64) (cause : Byte) (so : Sample) (s : State) : Host.Outcome State Fault Refusal :=
  match actDeck s with
  | none => .next s
  | some d =>
    let g := fGroup d f
    if !fV d f then .next s
    else
      let s1 := settle s d g so
      let x := grpOf s1 g
      if cause = 1 ∧ storing s1 g then .next (stopOvf s1 d g f 1 so)
      else if cause = 2 ∧ x.st = .post ∧ ((foldCap d f).isNone || fIsComp d f) then .next (stopOvf s1 d g f 2 so)
      else .next s

/-- The last sample of the segment that fold `f` still stores, where it is known. -/
def segEnd (s : State) (g : Nat) : Option Sample :=
  let x := grpOf s g
  match x.closing with
  | some c => some c.1
  | none => match x.st, x.seg with
    | .post, some seg => some (seg.postEnd - 1)
    | _, _ => none

/-- Whether fold `f` has a segment to store into. -/
def hasSegment (s : State) (g : Nat) : Bool := storing s g || (grpOf s g).closing.isSome

/-- A fold that overflowed stops its group (R181, R182). -/
def overflowed (r : Taken) (d : DeckImage) (g f : Nat) : State :=
  match r with
  | (s, none) => s
  | (s, some (c, i)) => stopOvf s d g f c i

/-- CAPTURE_PAGE_STORE (R171): the unit is stored with its brand and its sidecar entries. A unit outside the segment, or one that no
samples complete, is none of the fold's. -/
def storeUnit (s : State) (d : DeckImage) (f inst unit : Nat) : State :=
  let g := fGroup d f
  let fs := foldOf s f
  let within (a b : Sample) : Bool := decide (fs.epoch ≤ b) && (match segEnd s g with | some e => decide (a ≤ e) | none => true)
  if !fV d f || !hasSegment s g then s
  else if fRed d f = 0 then
    if fIsComp d f then
      match cmpEngine d f inst with
      | none => s
      | some e =>
        let p := compPage s d f inst e
        if p.m = unit ∧ within (pageFirst d (rangePage unit inst 0)) (pageLast d (rangePage unit inst 255)) then
          overflowed ((List.range 32).foldl (fun (r : Taken) _ =>
            match r with
            | (s, none) => if (compPage s d f inst e).m = unit then compStep s d f inst e .pass (segEnd s g) else (s, none)
            | r => r) (s, none)) d g f
        else s
    else if inst < fNinst d f ∧ within (pageFirst d unit) (pageLast d unit) then storeRawPage s d f inst unit
    else s
  else if fRed d f = 1 ∨ fRed d f = 4 then
    let stop := match segEnd s g with | some e => min (e + 1) (storedTo s) | none => storedTo s
    match takeUntil d f unit (keepFrom s d g) (stop - fs.next) fs.next s with
    | none => s
    | some r => overflowed r d g f
  else s

def execCapturePageStore (f : Fin 64) (inst : Nat) (unit : Nat) (s : State) : Host.Outcome State Fault Refusal :=
  match actDeck s with
  | none => .next s
  | some d => .next (storeUnit s d f inst unit)

/-- WINDOW_RECORD (R185): window `w` of list position `inst`, where it is the next and the segment reaches its end. -/
def windowRecord (s : State) (d : DeckImage) (f n w : Nat) : State :=
  let g := fGroup d f
  let fs := foldOf s f
  let b := fs.epoch + (w + 1) * fWindow d f - 1
  if !fV d f || !hasSegment s g || !(fRed d f == 2 || fRed d f == 3) || decide (fNinst d f ≤ n) then s
  else if tabGet 0 fs.nextWin n != w || (match segEnd s g with | some e => decide (e < b) | none => false) then s
  else
    match addWindow d f (keepFrom s d g) n w b s with
    | .ok s1 => s1
    | .error c => stopOvf s d g f c (fs.epoch + w * fWindow d f)

def execWindowRecord (f : Fin 64) (inst : Nat) (w : Nat) (s : State) : Host.Outcome State Fault Refusal :=
  match actDeck s with
  | none => .next s
  | some d => .next (windowRecord s d f inst w)

/-- COMPRESSED_BLOCK_OUT (R195-R198): engine `e` codes its next block of its substream; the blocks that CAPTURE_PAGE_STORE or a segment's close
brings pass their check, since one that fails is a row of its own. -/
def execCompressedBlockOut (e : Fin 64) (chk : EngineCheck) (s : State) : Host.Outcome State Fault Refusal :=
  match actDeck s with
  | none => .next s
  | some d =>
    let f := cmpFold d e
    let g := fGroup d f
    if !cmpV d e || !fIsComp d f || !hasSegment s g then .next s
    else .next (overflowed (compStep s d f (cmpSub d e) e chk (segEnd s g)) d g f)

end Sys2Proof.Machine
end

