-- ==== Sys2Proof/Machine/Capture.lean ====
section
/-!
DEFINITION. The capture commands (R169, R172, R173, R176, R189, R351-R353) and the trigger network (R148-R156).
-/

namespace Sys2Proof.Machine

/-- The groups of a mask, ascending. -/
def maskGroups (m : BitVec 16) : List Nat := bitsOf 16 m.toNat

/-- Whether the active deck defines every group of a mask. -/
def groupsDefined (s : State) (m : BitVec 16) : Bool :=
  match actDeck s with
  | some d => (maskGroups m).all (gV d)
  | none => true

/-- TRIG and HBM (Table 15-18). -/
def captureBlocks : List Nat := [0x8, 0xA]

/-- Every named group makes its own scheduled changes up to sample `i` (R168). -/
def settleAll (s : State) (d : DeckImage) (gs : List Nat) (i : Sample) : State := gs.foldl (fun s g => settle s d g i) s

/-- The sample from which a command acts (R114, R156, R168): the first that the hands evaluate in the fclk in which it reaches the trigger
network, an operand of its row, and never one that a row has taken already. -/
def actSample (s : State) (i : Sample) : Sample := max i (takenBy s)

/-! ARM -/

/-- Whether a group is IDLE or STOPPED (R167). -/
def groupIdle (s : State) (g : Nat) : Bool := groupDone s g

/-- What keeps group `g` from being armed (R169): the status and its RESULT. -/
def armFails (s : State) (d : DeckImage) (mode : Byte) (g : Nat) : Option (Nat × Nat) :=
  if !groupIdle s g then some (cBusy, busyState)
  else if mode = 1 ∧ gSegments d g ≤ (grpOf s g).closed then some (cNoSegments, 0)
  else if s.deck.stage = 3 then some (cThermal, 0)
  else none

/-- POST as R172 clamps it for group `g`. -/
def clampPost (d : DeckImage) (g post : Nat) : Nat :=
  match groupCap d g with
  | some c => if c < gPre d g + post then (c - gPre d g).toNat else post
  | none => post

/-- The closed segments of a group are discarded (R169). -/
def discardClosed (s : State) (d : DeckImage) (g : Nat) : State :=
  let s0 := finishClose s d g
  let s1 := (gFolds d g).foldl (fun s f =>
    let ks := (s.folds.closedUnits.filter (fun c => c.1 / 65536 == f)).map (fun c => c.1 % 65536)
    (ks.foldl (fun s k => putLogical s d f (segBase d f k + 0x2C) (leBytes 4 0)) s).modFolds (fun x =>
      { x with closedUnits := x.closedUnits.filter (fun c => c.1 / 65536 != f) })) s0
  setGrp s1 g { grpOf s1 g with closed := 0 }

/-- Group `g` is armed at sample `sa` (R169, R172). -/
def armGroup (d : DeckImage) (mode : Byte) (sa : Sample) (s : State) (g : Nat) : State :=
  let s0 := s.modDeck (fun k => { k with shed := k.shed.filter (· != g) })
  let s1 := if mode = 0 then discardClosed s0 d g else s0
  let post := clampPost d g (grpOf s1 g).post
  let s2 := if post = (grpOf s1 g).post then s1
    else raiseBit (setGrp s1 g { grpOf s1 g with post := post }) (Reg.FOLD_GRP_STATUS g) 5
  openSegment s2 d g (grpOf s2 g).closed sa

def armBody (h : CmdHdr) (groups : BitVec 16) (mode : Byte) (at_ : Sample) (s : State) : State :=
  match actDeck s with
  | none => refuse s h 0x0301 cState 0
  | some d =>
    let sa := actSample s at_
    let gs := maskGroups groups
    let s1 := gs.foldl (fun s g => finishClose s d g) (settleAll s d gs sa)
    match gs.findSome? (armFails s1 d mode) with
    | some (st, r) => refuse s1 h 0x0301 st r
    | none =>
      let clamped := gs.filter (fun g => clampPost d g (grpOf s1 g).post != (grpOf s1 g).post)
      let s2 := gs.foldl (armGroup d mode sa) s1
      match clamped with
      | [] => finish s2 h 0x0301 cOk 0 sa
      | g :: _ => finish s2 h 0x0301 cClamped (grpOf s2 g).post sa

/-- The readout that runs on a fold of one of these groups (Table 15-15). -/
def readoutOf (s : State) (groups : BitVec 16) : Option (BitVec 16) :=
  match actDeck s with
  | none => none
  | some d => holder s (fun r => (r.op == 0x0401 || r.op == 0x0402 || r.op == 0x0403) && nbit groups.toNat (fGroup d r.obj))

def armChecks (h : CmdHdr) (groups : BitVec 16) (mode : Byte) (s : State) : Checks :=
  { op := 0x0301
    fields := [cflagsOk h 0, (8, groups != 0), (10, decide (mode.toNat ≤ 1))]
    dagger := true
    deck := true
    objects := [(8, groupsDefined s groups)]
    blocks := captureBlocks
    held := (holderOp s [0x0203, 0x0204, 0x0103]).or (if mode = 0 then readoutOf s groups else none) }

/-- ARM (R169, R352). -/
def execArm (h : CmdHdr) (groups : BitVec 16) (mode : Byte) (sa : Sample) (s : State) : Host.Outcome State Fault Refusal :=
  .next (startCmd h (armChecks h groups mode s) (some (.arm h groups mode sa)) (armBody h groups mode sa) s)

/-! DISARM -/

/-- Group `g` is disarmed at sample `sd` (R176). -/
def disarmGroup (sd : Sample) (s : State) (g : Nat) : State :=
  let x := grpOf s g
  match x.st, x.seg with
  | .prefill, some seg | .armed, some seg =>
    if sd ≤ seg.epoch then setGrp s g { x with st := .stopped, seg := none }
    else endSegment s g (sd - 1) 8 .stopped
  | .post, some _ => endSegment s g (sd - 1) 0x20 .stopped
  | .holdoff, _ => setGrp s g { x with st := .stopped }
  | _, _ => s

def disarmBody (h : CmdHdr) (groups : BitVec 16) (at_ : Sample) (s : State) : State :=
  match actDeck s with
  | none => refuse s h 0x0302 cState 0
  | some d =>
    let sd := actSample s at_
    let gs := maskGroups groups
    finish (handsIdle (gs.foldl (disarmGroup sd) (settleAll s d gs sd)) d) h 0x0302 cOk 0 sd

/-- What R345 checks of DISARM. -/
def disarmChecks (h : CmdHdr) (groups : BitVec 16) (s : State) : Checks :=
  { op := 0x0302, fields := [cflagsOk h 0, (8, groups != 0)], deck := true, objects := [(8, groupsDefined s groups)],
    blocks := captureBlocks }

/-- DISARM (R176). -/
def execDisarm (h : CmdHdr) (groups : BitVec 16) (sd : Sample) (s : State) : Host.Outcome State Fault Refusal :=
  .next (startCmd h (disarmChecks h groups s)
    none (disarmBody h groups sd) s)

/-! FORCE_TRIGGER and SET_POST -/

def forceBody (h : CmdHdr) (groups : BitVec 16) (sf : Sample) (s : State) : State :=
  let f : Force := { ring := h.ring, cid := h.cid, sample := actSample s sf, groups := groups, accepted := 0, anyfill := cflag h 0 }
  (keepRunning s h 0x0303 groups.toNat 0).modTrig (fun t => { t with forces := t.forces ++ [f] })

/-- What R345 checks of FORCE_TRIGGER. -/
def forceTriggerChecks (h : CmdHdr) (groups : BitVec 16) (s : State) : Checks :=
  { op := 0x0303, fields := [cflagsOk h 1, (8, groups != 0)], dagger := true, deck := true
    objects := [(8, groupsDefined s groups)], blocks := captureBlocks, held := holderOp s [0x0203, 0x0204] }

/-- FORCE_TRIGGER (R156): it completes once every named group has met its trigger. -/
def execForceTrigger (h : CmdHdr) (groups : BitVec 16) (sf : Sample) (s : State) : Host.Outcome State Fault Refusal :=
  .next (startCmd h (forceTriggerChecks h groups s)
    none (forceBody h groups sf) s)

/-- POST of group `g` becomes `post` at sample `sc` (R173). -/
def setPostAt (d : DeckImage) (s : State) (g post : Nat) (sc : Sample) : State :=
  let x := grpOf s g
  let s1 := match x.st, x.seg with
    | .post, some seg =>
      setGrp s g { x with post := post, seg := some { seg with post := post, postEnd := max (seg.trig.getD 0 + post) sc } }
    | _, _ => setGrp s g { x with post := post }
  ownChange s1 d g sc

def setPostBody (h : CmdHdr) (group : Byte) (post : BitVec 64) (at_ : Sample) (s : State) : State :=
  match actDeck s with
  | none => refuse s h 0x0304 cState 0
  | some d =>
    let sc := actSample s at_
    let g := group.toNat
    let p := clampPost d g post.toNat
    let s1 := setPostAt d (settle s d g sc) g p sc
    if p = post.toNat then finish s1 h 0x0304 cOk p p
    else finish (raiseBit s1 (Reg.FOLD_GRP_STATUS g) 5) h 0x0304 cClamped p p

/-- What R345 checks of SET_POST. -/
def setPostChecks (h : CmdHdr) (group : Byte) (post : BitVec 64) (s : State) : Checks :=
  { op := 0x0304
    fields := [cflagsOk h 0, (8, decide (group.toNat < 16)), (16, decide (1 ≤ post.toNat) && decide (post.toNat < 2 ^ 63))]
    deck := true
    objects := [(8, match actDeck s with | some d => gV d group.toNat | none => true)]
    blocks := captureBlocks, held := holderOp s [0x0203, 0x0204] }

/-- SET_POST (R173). -/
def execSetPost (h : CmdHdr) (group : Byte) (post : BitVec 64) (sc : Sample) (s : State) : Host.Outcome State Fault Refusal :=
  .next (startCmd h (setPostChecks h group post s)
    none (setPostBody h group post sc) s)

/-! FOLD_STATUS -/

/-- A FOLD_STATUS record (Table 15-8). -/
def statusRecord (s : State) (g : Nat) : List Byte :=
  let x := grpOf s g
  leBytes 1 g ++ leBytes 1 (groupCode x.st) ++ leBytes 2 0 ++ leBytes 4 (rdF s (Reg.FOLD_GRP_STATUS g) 23 0) ++
    leBytes 4 x.closed ++ leBytes 4 (rd s (Reg.TRIG_GRP_IGN g)).toNat ++ leBytes 8 x.post ++
    leBytes 8 (rd64 s (Reg.FOLD_GRP_TRIG_LO g)) ++ leBytes 8 (match actDeck s with | some d => groupLast s d g | none => rd64 s (Reg.FOLD_GRP_LAST_LO g)) ++
    leBytes 8 x.epoch ++
    leBytes 4 (rd s (Reg.TRIG_GRP_REC g)).toNat ++ List.replicate 12 0

def foldStatusBody (h : CmdHdr) (groups : BitVec 16) (dest : BitVec 64) (at_ : Sample) (s : State) : State :=
  match actDeck s with
  | none => refuse s h 0x0305 cState 0
  | some d =>
    let gs := maskGroups groups
    let s1 := settleAll s d gs at_
    let n := min gs.length (segsLen (bufList s dest) / 64)
    let s2 := (deliver s1 dest ((gs.take n).flatMap (statusRecord s1))).1
    finish s2 h 0x0305 (if n < gs.length then cBufferFull else cOk) n at_

/-- What R345 checks of FOLD_STATUS. -/
def foldStatusChecks (h : CmdHdr) (groups : BitVec 16) (dest : BitVec 64) (s : State) : Checks :=
  { op := 0x0305, fields := [cflagsOk h 0, (8, groups != 0), (16, bufOk s dest)], deck := true
    objects := [(8, groupsDefined s groups)] }

/-- FOLD_STATUS (R189, R353). -/
def execFoldStatus (h : CmdHdr) (groups : BitVec 16) (dest : BitVec 64) (at_ : Sample) (s : State) : Host.Outcome State Fault Refusal :=
  .next (startCmd h (foldStatusChecks h groups dest s)
    none (foldStatusBody h groups dest at_) s)

/-! The trigger network -/

/-- The hands that trigger group `g` at sample `i` (R148); a group without a route entry meets forces only (R160). -/
def firesAt (s : State) (d : DeckImage) (g : Nat) (i : Sample) : List Fire :=
  if (route d g).isNone then [] else s.trig.fires.filter (fun f => f.sample == i && nbit f.groups.toNat g)

/-- The forces that are still to meet group `g` at sample `i`. -/
def forcesAt (s : State) (g : Nat) (i : Sample) : List Force :=
  s.trig.forces.filter (fun f => f.sample == i && nbit f.groups.toNat g)

/-- The cause hand of a set of fires (R148). -/
def causeOf (l : List Fire) : Option Fire :=
  l.foldl (fun a f => match a with
    | none => some f
    | some b => if f.hand.val < b.hand.val then some f else some b) none

/-- The time word of a trigger (R154). -/
def trigWord (s : State) (cause : Option Fire) (i : Sample) : Nat :=
  timeWord (gridT s i) (match cause with | some f => 0x0410 + f.hand.val | none => 0x0482)

/-- Group `g` accepts the trigger at sample `i` (R170, R172, R174). -/
def acceptAt (s : State) (d : DeckImage) (g : Nat) (i : Sample) (cause : Option Fire) (forced : Bool) : State :=
  let x := grpOf s g
  match x.seg with
  | none => s
  | some seg =>
    let short := x.st == .prefill && decide (i < seg.epoch + gPre d g)
    let seg1 : SegSt := { seg with
      trig := some i, trigTime := BitVec.ofNat 96 (trigWord s cause i), forced := forced, preShort := short
      post := x.post, postEnd := i + x.post }
    let s1 := setGrp s g { x with st := .post, seg := some seg1, ignored := 0, holdEnd := holdStart s d g i }
    let s2 := raiseBit (wr64 s1 (Reg.FOLD_GRP_TRIG_LO g) i) (Reg.FOLD_GRP_STATUS g) 0
    s2.modTrig (fun t => { t with accepted := t.accepted ++ [{ group := Fin.ofNat 16 g, sample := i, forced := forced }] })

/-- Group `g` ignores the trigger at sample `i` (R149); it counts towards an event hold-off (R174). -/
def ignoreAt (s : State) (d : DeckImage) (g : Nat) (i : Sample) : State :=
  let s1 := incCnt s (Reg.TRIG_GRP_IGN g) 1
  let x := grpOf s1 g
  if (x.st = .post ∨ x.st = .holdoff) ∧ gHoldEvents d g ∧ x.holdEnd.isNone then
    let n := x.ignored + 1
    setGrp s1 g { x with ignored := n, holdEnd := if gHoldoff d g ≤ n then some (i + 1) else none }
  else s1

/-- The forces that met group `g` learn the outcome; a command whose groups have all met theirs completes (R156). -/
def resolveForces (s : State) (g : Nat) (i : Sample) (acc : Bool) : State :=
  let m : BitVec 16 := BitVec.ofNat 16 (2 ^ g)
  let hit (f : Force) : Bool := f.sample == i && nbit f.groups.toNat g
  let upd (f : Force) : Force :=
    if hit f then { f with groups := f.groups &&& ~~~m, accepted := if acc then f.accepted ||| m else f.accepted } else f
  let done := (s.trig.forces.filter hit).map upd |>.filter (fun f => f.groups == 0)
  done.foldl (fun s f => endRun s f.ring f.cid cOk f.accepted.toNat f.sample)
    (s.modTrig (fun t => { t with forces := t.forces.map upd }))

/-- TRIGGER_ACCEPT (R148, R149, R156, R170). -/
def triggerAccept (g : Nat) (i : Sample) (s0 : State) (d : DeckImage) : State :=
  let s := settle s0 d g i
  let fires := firesAt s d g i
  let forces := forcesAt s g i
  if (fires.isEmpty && forces.isEmpty) || s.trig.presented.contains (g, i) then s
  else
    let s1 := s.modTrig (fun t => { t with presented := (g, i) :: t.presented })
    let x := grpOf s1 g
    let ok := x.st == .armed || (x.st == .prefill && forces.any Force.anyfill)
    let s2 := if ok then acceptAt s1 d g i (causeOf fires) (!forces.isEmpty) else ignoreAt s1 d g i
    resolveForces s2 g i ok

def execTriggerAccept (g : Fin 16) (i : Sample) (s : State) : Host.Outcome State Fault Refusal :=
  match actDeck s with
  | none => .next s
  | some d => .next (triggerAccept g i s d)

/-- TRIG_OUT_PULSE (R150-R152): a pulse of W + 1 fclk begins, with the control value that stands; in a pulse that goes on it moves the end. -/
def trigOutPulse (i : Sample) (s : State) : State :=
  let c := rd s Reg.TRIG_OUT_CTRL
  let due := s.trig.fires.any (fun f => f.sample == i && f.tout) ||
    (c.getLsbD 2 && s.trig.forces.any (fun f => f.sample == i))
  let len := nbits c.toNat 15 8 + 1
  if due && c.getLsbD 0 then
    match s.trig.out with
    | none => s.modTrig (fun t => { t with out := some len, outCtrl := c })
    | some n => s.modTrig (fun t => { t with out := some (max n len) })
  else s

def execTrigOutPulse (i : Sample) (s : State) : Host.Outcome State Fault Refusal := .next (trigOutPulse i s)

/-- A pulse ends with its last fclk (R152). -/
def trigOutEnd (s : State) : State := s.modTrig (fun t => { t with out := t.out.filter (fun n => decide (1 < n)) })

/-- TRIG_OUT_PULSE_END (R152). -/
def execTrigOutPulseEnd (s : State) : Host.Outcome State Fault Refusal := .next (trigOutEnd s)

/-- One fclk of a pulse passes (R152). -/
def tickTrigOut (s : State) : State :=
  if (s.trig.out.getD 2) ≤ 1 then trigOutEnd s else s.modTrig (fun t => { t with out := t.out.map (· - 1) })

/-- The level of the TRIG_OUT pin (R152): `true` is high. POL is that of the control value which the last pulse took. EN cleared within a pulse
takes effect after it: the rule says both that the pin is inactive while EN is 0 and that a write takes effect at the next pulse (DESIGN
CHOICE, notes/assumptions/28.md). -/
def trigOutPin (s : State) : Bool := s.trig.out.isSome != s.trig.outCtrl.getLsbD 1

/-! Trigger records -/

/-- FINE_V, FINE_AMBIG and FINE of hand `h` at sample `i` (R153). -/
def fineOf (s : State) (d : DeckImage) (h : Nat) (i : Sample) : Bool × Bool × Nat :=
  if !hInterp d h then (false, false, 0)
  else
    let a := gridT s i
    let b := gridT s (i + 1)
    match (tabGet [] s.recog.stamps (hInterpTin d h)).find? (fun x =>
      edgeSel (hInterpEdge d h) x.falling && decide (a ≤ x.t) && decide (x.t < b)) with
    | some x => (true, inBand x.t a || inBand x.t b, x.t - a)
    | none => (false, false, 0)

/-- Word 0 of a record (Table 6-6). -/
def recordWord0 (rtype group hand trick branch : Nat) (coin forced fineV ambig fineAmbig userV : Bool) : Word :=
  let bit (b : Bool) (i : Nat) : Nat := if b then 2 ^ i else 0
  BitVec.ofNat 32 (rtype * 2 ^ 28 + group * 2 ^ 24 + hand * 2 ^ 19 + trick * 2 ^ 15 + branch * 2 ^ 13 + bit coin 12 + bit forced 11 +
    bit fineV 10 + bit ambig 9 + bit fineAmbig 8 + bit userV 7)

/-- Word 5: the flock result (Table 6-6). -/
def userWord : Option (Nat × Word) → Word
  | some (f, a) => BitVec.ofNat 32 (f * 2 ^ 28 + a.toNat % 2 ^ 28)
  | none => 0

/-- The seven words of a record. -/
def recordWords (w0 : Word) (time : Nat) (w4 w5 w6 : Word) : List Word :=
  [w0, BitVec.ofNat 32 time, BitVec.ofNat 32 (time / 2 ^ 32), BitVec.ofNat 32 (time / 2 ^ 64), w4, w5, w6]

/-- The trigger record of group `g` at sample `i` (R154, R156), and whether it is COINCIDENT. -/
def triggerRecord (s : State) (d : DeckImage) (g : Nat) (i : Sample) (forced : Bool) : List Word × Bool :=
  let fires := firesAt s d g i
  let co := bitMask (fires.map (fun f => f.hand.val))
  let coin := decide (1 < fires.length)
  match causeOf fires with
  | some f =>
    let n := fineOf s d f.hand.val i
    (recordWords (recordWord0 1 g f.hand.val f.trick f.branch coin forced n.1 f.ambig n.2.1 f.user.isSome) (trigWord s (some f) i)
      (BitVec.ofNat 32 (n.2.2 + if n.1 then hInterpTin d f.hand.val * 2 ^ 16 else 0)) (userWord f.user) (BitVec.ofNat 32 co), coin)
  | none => (recordWords (recordWord0 1 g 0 0 0 false true false false false false) (trigWord s none i) 0 0 0, false)

/-- A hand event record (R155). -/
def eventRecord (s : State) (f : Fire) : List Word :=
  recordWords (recordWord0 2 0 f.hand.val f.trick f.branch false false false f.ambig false f.user.isSome) (trigWord s (some f) f.sample)
    0 (userWord f.user) 0

/-- The owner code of the trigger network (Table 3-3). -/
def trigOwner : BitVec 12 := 0x210

/-- A record at queue `q`: a lost one is counted (R155). -/
def putRecord (s : State) (q : Nat) (ws : List Word) : State × Bool :=
  let r := eqItem s q trigOwner ws
  if r.2 then r else (raiseErr (incCnt r.1 Reg.TRIG_REC_LOST 1) Reg.TRIG_NET_STATUS 0 2 0x0480 0, false)

/-- The record of an accepted trigger goes to its group's queue. -/
def writeTrigger (d : DeckImage) (s : State) (a : Accepted) : State :=
  match route d a.group.val with
  | none => s
  | some q =>
    let rec_ := triggerRecord s d a.group.val a.sample a.forced
    let r := putRecord s q rec_.1
    let s1 := if r.2 then incCnt r.1 (Reg.TRIG_GRP_REC a.group.val) 1 else r.1
    if rec_.2 && r.2 then raiseBit s1 Reg.TRIG_NET_STATUS 1 else s1

/-- TRIGGER_RECORD_WRITE (R154, R155): the trigger records of sample `i` in ascending group number, then its hand event records in
ascending hand number. -/
def writeRecords (i : Sample) (s : State) (d : DeckImage) : State :=
  let acc := sortBy (fun a : Accepted => a.group.val) (s.trig.accepted.filter (fun a => a.sample == i))
  let evs := sortBy (fun f : Fire => f.hand.val) (s.trig.fires.filter (fun f => f.sample == i && f.evt.isSome))
  let s1 := acc.foldl (writeTrigger d) s
  let s2 := evs.foldl (fun s f => (putRecord s (f.evt.getD 0) (eventRecord s f)).1) s1
  s2.modTrig (fun t => { t with
    fires := t.fires.filter (fun f => f.sample != i)
    accepted := t.accepted.filter (fun a => a.sample != i)
    forces := t.forces.filter (fun f => f.sample != i || f.groups != 0)
    presented := t.presented.filter (fun p => p.2 != i) })

def execTriggerRecordWrite (i : Sample) (s : State) : Host.Outcome State Fault Refusal :=
  match actDeck s with
  | none => .next s
  | some d => .next (writeRecords i s d)

end Sys2Proof.Machine
end

