-- ==== Sys2Proof/Machine/DeckCheck.lean ====
section
/-!
DEFINITION. The deck checks of Table 3-12 in their order, with the section and region that R465 reports.
-/

namespace Sys2Proof.Machine

/-- A failed check: code, section type, region. -/
abbrev Fail := Nat × Nat × Nat

/-- The result word of a failed check (R75). -/
def failWord (f : Fail) : Nat := f.2.1 * 2 ^ 24 + f.2.2 * 2 ^ 20 + f.1

/-- `none` where the check holds. -/
def failUnless (ok : Bool) (code type region : Nat) : Option Fail := if ok then none else some (code, type, region)

/-- The first failure among checks in order. -/
def firstFail (l : List (Option Fail)) : Option Fail := (l.find? Option.isSome).join

/-- Whether `n` bytes at `o` are 0. -/
def zeroAt (d : DeckImage) (o n : Nat) : Bool := (memRead d.bytes o n).all (· == 0)

/-! The key slots of the secure scratch (R442) -/

/-- The offset of the secure scratch in the aperture (Table 14-3). -/
def secBase : Nat := 80 * 2 ^ 20

/-- The item in a key or licence slot, where its V is 1 and its kind is `kind`. -/
def keySlot (s : State) (n kind : Nat) : Option (List Byte) :=
  let a := secBase + 256 * n
  let w := memNat s.mem.scratch a 4
  if nbit w 0 && nbits w 15 8 == kind then some (memRead s.mem.scratch (a + 4) (nbits w 31 16)) else none

/-- A 48-byte number of a signature. -/
def sigNum (bs : List Byte) (o : Nat) : BitVec 384 := BitVec.ofNat 384 (leAt bs o 48)

/-! 0x0001 to 0x0007 -/

/-- The loaded size within which DECK_LEN and a signature block must lie. -/
def deckSized (d : DeckImage) (loaded : Nat) : Bool :=
  let n := dk d 0xC 4
  n % 64 == 0 && decide (n ≤ 64 * 2 ^ 20) && decide (6 ≤ dkNsect d) && decide (dkNsect d ≤ 64) &&
    decide (0x100 + 16 * dkNsect d ≤ n) && decide (n + (if dk d 0x1D 1 % 2 = 1 then 128 else 0) ≤ loaded)

/-- The image with HASH as zeros (R55). -/
def hashInput (d : DeckImage) : List Byte :=
  memRead d.bytes 0 0x20 ++ List.replicate 48 0 ++ memRead d.bytes 0x50 (dk d 0xC 4 - 0x50)

/-- The HASH field, the digest's first byte first. -/
def dkHash (d : DeckImage) : BitVec 384 := BitVec.ofNat 384 (beNat (memRead d.bytes 0x20 48))

def dkSigned (d : DeckImage) : Bool := dk d 0x1D 1 % 2 == 1

/-- Whether the life-cycle policy requires a signature (R439). -/
def sigRequired (s : State) : Bool := s.sec.life == 2 && s.sec.policy.getLsbD 0

/-- Whether the signature block that is present verifies (R62). -/
def sigValid (s : State) (d : DeckImage) : Bool :=
  match d.sig with
  | none => false
  | some b =>
    leAt b 0 4 == 0x4E474953 &&
      (match keySlot s (leAt b 4 1) 0 with
       | some key => decide (leAt b 4 1 < 16) && ecdsaOk key (dkHash d) (sigNum b 8) (sigNum b 56)
       | none => false)

/-! Sections -/

def dirList (d : DeckImage) : List Nat := List.range (dkNsect d)
def dirT (d : DeckImage) (i : Nat) : Nat := dirType d i % 256
def dirR (d : DeckImage) (i : Nat) : Nat := nbits (dirType d i) 11 8

/-- The regions in which a section type may appear (Table 3-6). -/
def secRegionOk (t r : Nat) : Bool :=
  if t = 3 ∨ t = 4 then decide (r ≤ 4) else if t = 5 ∨ t = 6 then r == 4 else decide (1 ≤ t) && decide (t ≤ 0xE) && r == 0xF

/-- 0x0008, in ascending OFFSET (R465). -/
def chkCrc (d : DeckImage) : Option Fail :=
  firstFail ((sortBy (dirOfs d) (dirList d)).map (fun i =>
    failUnless ((crc32c (memRead d.bytes (dirOfs d i) (dirLen d i))).toNat == dirCrc d i) 8 (dirT d i) (dirR d i)))

/-- The section's slot tables with their entries (R58). -/
def secTables (d : DeckImage) (i : Nat) : List (Nat × Nat × Nat × Nat) := subHeaders d 8 (dirOfs d i)

/-- All entries of a table. -/
def tableWords (d : DeckImage) (h : Nat × Nat × Nat × Nat) : List Nat :=
  (List.range (h.2.2.1 * h.2.2.2)).map (fun i => dk d (h.2.1 + 4 * i) 4)

/-- The directory entries of slot-table sections. -/
def slotSecs (d : DeckImage) : List Nat := (dirList d).filter (fun i => decide (3 ≤ dirT d i) && decide (dirT d i ≤ 6))

/-- The units that the deck names by owner code: in slot entries and in the owner lists of its groups. -/
def namedOwners (d : DeckImage) : List Nat :=
  ((slotSecs d).flatMap (fun i => (secTables d i).flatMap (fun h => ((tableWords d h).filter slotV).map slotOwner)) ++
    (dkGroups d).flatMap (gOwners d)).eraseDups

/-- Whether it names a unit whose code is `a` or one of the `n - 1` that follow. -/
def namesUnit (d : DeckImage) (a n : Nat) : Bool := (namedOwners d).any (fun o => decide (a ≤ o) && decide (o < a + n))

/-- Whether some instance of kernel `kid` is there. -/
def hasKernel (d : DeckImage) (kid : Nat) : Bool := (allInsts d).any (fun i => kidOf d i == kid)

/-- Whether the deck uses a flock recognizer, a hand, a mask checker, patterns, or any recognizer (Table 3-6). -/
def usesFlock (d : DeckImage) : Bool :=
  (List.range 16).any (fun f => recEn d (0x1A0 + f)) || hasKernel d 6 || namesUnit d 0x200 16
def usesHand (d : DeckImage) : Bool := namesUnit d 0x160 32
def usesChecker (d : DeckImage) : Bool :=
  hasKernel d 7 || namesUnit d 0x1E0 32 || (pbHas d && (List.range 32).any (fun e => pbRole d e == 2))
def usesPatterns (d : DeckImage) : Bool := hasKernel d 8 || namesUnit d 0x140 32 || decide (0 < dkPatMib d)
def usesRecog (d : DeckImage) : Bool :=
  (List.range 32).any (fun h => hEn d h && !(handRecs d h).isEmpty) || hasKernel d 5 || hasKernel d 0xF || usesFlock d ||
    (List.range 32).any (mcEn d)

/-- The sections that must be there (R57), in Table 3-6's order: (type, region). -/
def requiredSections (d : DeckImage) : List (Nat × Nat) :=
  [(1, 0xF), (2, 0xF)] ++ ((List.range 5).filter (fun r => r == 4 || dkUses d r)).flatMap (fun r => [(3, r), (4, r)]) ++
    [(5, 4)] ++ (if usesFlock d then [(6, 4)] else []) ++ (if usesRecog d then [(7, 0xF)] else []) ++
    (if usesHand d then [(8, 0xF)] else []) ++
    (if 0 < dkNfold d then [(9, 0xF), (0xA, 0xF)] else []) ++
    (if (dkFolds d).any (fIsComp d) then [(0xB, 0xF)] else []) ++ (if usesPatterns d then [(0xC, 0xF)] else []) ++
    (if usesChecker d then [(0xD, 0xF)] else []) ++ [(0xE, 0xF)]

/-- Whether the slot tables of a section have the ports and entries of Table 3-1 and lie one after the other within it (R58). -/
def tablesOk (d : DeckImage) (i : Nat) : Bool :=
  (secTables d i).all (fun h =>
    let next := dk d (h.2.1 - 4) 4
    let size := 16 + 4 * (h.2.2.1 * h.2.2.2)
    h.2.2.1 == kindPorts h.1 && h.2.2.2 == kindEntries d h.1 &&
      (if next = 0 then decide (h.2.1 - 16 + size ≤ dirOfs d i + dirLen d i) else decide (size ≤ next)))

/-- Whether a section has the length that the spec gives it where that depends on nothing inside it (R58-R61; notes/assumptions/22.md). -/
def lengthOk (d : DeckImage) (i : Nat) : Bool :=
  let t := dirT d i
  if t = 1 then dirLen d i == 0xC000 else if t = 2 then dirLen d i == 512 else if t = 0xE then dirLen d i % 8 == 0
  else if 3 ≤ t ∧ t ≤ 6 then tablesOk d i else true

/-- 0x0009: alignment, order, overlap, duplicates, required sections (R56, R57). -/
def chkLayout (d : DeckImage) : Option Fail :=
  let startOf (i : Nat) : Nat := if i = 0 then 0x100 + 16 * dkNsect d else dirOfs d (i - 1) + dirLen d (i - 1)
  (firstFail ((dirList d).map (fun i =>
    failUnless (dirOfs d i % 64 == 0 && decide (startOf i ≤ dirOfs d i) &&
      decide (dirOfs d i + dirLen d i ≤ dk d 0xC 4) && lengthOk d i &&
      !((List.range i).any (fun j => dirType d j == dirType d i))) 9 (dirT d i) (dirR d i)))).or
  (firstFail ((requiredSections d).map (fun p => failUnless ((secIndex d p.1 p.2).isSome) 9 p.1 p.2)))

/-! 0x000A: reserved fields and reserved encodings (R6) -/

/-- The header's. -/
def resHeader (d : DeckImage) : Bool :=
  let m := dkMode d
  m % 4 != 3 && nbits m 3 2 == 0 && (nbits m 7 4 == 0 || m % 4 == 0) &&
    nbits (dkRegions d) 7 4 == 1 && decide (dk d 0x1C 1 ≤ 1) && decide (dk d 0x1D 1 ≤ 1) &&
    dkPeriod d % 64 == 0 && decide (256 ≤ dkPeriod d) && decide (dkPeriod d ≤ 4096) &&
    zeroAt d 0x64 12 && zeroAt d 0x84 12 && decide (dkNfold d ≤ 64) && decide (dkNgroup d ≤ 16) && zeroAt d 0x92 2 &&
    zeroAt d 0xAC 84

/-- An owner code of Table 3-3 that a slot may name. -/
def ownerCode (o : Nat) : Bool := decide (o ≤ 0x211) || (decide (0x240 ≤ o) && decide (o < 0x2A0))

/-- A slot entry of kind `k` (R51). -/
def resSlot (k w : Nat) : Bool :=
  if nbit w 31 then
    (slotOp w == 0 || slotOp w == 1 || (slotOp w == 2 && k == 4) || (slotOp w == 3 && k == 5)) && ownerCode (slotOwner w)
  else w == 0

/-- The kinds that a slot-table section of type `t` and region `r` may hold (Table 3-6). -/
def secKinds (t r : Nat) : List Nat :=
  if t = 3 then (if r < 4 then [0] else [1])
  else if t = 4 then (if r < 4 then [2, 7] else [3, 8, 9]) else if t = 5 then [4] else [5]

/-- The entries of one port of a table. -/
def portWords (d : DeckImage) (h : Nat × Nat × Nat × Nat) (p : Nat) : List Nat :=
  (List.range h.2.2.2).map (fun i => dk d (h.2.1 + 4 * (p * h.2.2.2 + i)) 4)

def resSlots (d : DeckImage) (i : Nat) : Bool :=
  (secTables d i).all (fun h =>
    (secKinds (dirT d i) (dirR d i)).contains h.1 && zeroAt d (h.2.1 - 15) 3 && (tableWords d h).all (resSlot h.1))

/-- The PARAM and OUT of an instance: unused bytes, and the reserved bits of KEY_EXTRACT and STATE_QUALIFY (R59, R92, R466). -/
def resParam (d : DeckImage) (i : KInst) : Bool :=
  let k := kidOf d i
  (List.range (20 - parUsed k)).all (fun j => par d i (parUsed k + j) 1 == 0) &&
    (k != 5 || ((List.range 12).all (fun j => pKeyPos d i j == 0xFF || nbit (pKeyPos d i j) 3 == false) &&
      decide (pKeyQual d i < 1024) && decide (kOut d i.1 i.2 < 1024))) &&
    (k != 0xD || decide (par d i 2 1 < 4))

def resKernels (d : DeckImage) : Bool :=
  (List.range 256).all (fun l =>
    (List.range 64).all (fun i => decide (kPattern d l i ≤ 3) || kPattern d l i == 0xF) &&
      (List.range 4).all (fun n => decide (sec d 1 (128 * l + 33 + 24 * n) 1 ≤ 1))) &&
    (allInsts d).all (resParam d)

def resRecog (d : DeckImage) : Bool :=
  (List.range 0x1C2).all (fun r =>
    let w := recCtrl d r
    let pol := nbits w 3 2
    let zero (o n : Nat) : Bool := zeroAt d ((secChip d 7).getD 0 + recOfs r + o) n
    let edge := !nbit w 0 || nbits w 2 1 != 0
    if r < 0x80 then nbits w 31 4 == 0 && pol != 3 && zero 260 28
    else if r < 0x100 then nbits w 31 12 == 0 && nbit w 1 == false && pol != 3 && zero 260 12
    else if r < 0x140 then nbits w 31 14 == 0 && nbit w 7 == false && pol != 3 && zero 84 12
    else if r < 0x180 then nbits w 31 24 == 0 && nbit w 3 == false && nbits w 2 1 != 3 && zero 6 2 && zero 14 18
    else if r < 0x1A0 then nbits w 31 24 == 0 && nbits w 3 2 == 0 && zero 6 2 && zero 14 18
    else if r < 0x1B0 then nbits w 31 20 == 0 && nbit w 3 == false && nbits w 2 1 != 3 && zero 4 12
    else if r < 0x1C0 then nbits w 31 8 == 0 && nbit w 3 == false && edge && zero 4 4
    else if r = 0x1C0 then nbits w 31 16 == 0 && nbits w 7 3 == 0 && edge && zero 4 4
    else nbits w 31 16 == 0 && nbits w 7 2 == 0 && zero 4 4) &&
    zeroAt d ((secChip d 7).getD 0 + 0x13D90) 0x30

def resHands (d : DeckImage) : Bool :=
  (List.range 32).all (fun h =>
    let o := (secChip d 8).getD 0 + 0x440 * h
    nbits (hByte d h 0 4) 31 12 == 0 && (!hInterp d h || hInterpEdge d h != 0) && zeroAt d (o + 6) 2 && zeroAt d (o + 22) 2 &&
      zeroAt d (o + 40) 24 &&
      (List.range 4).all (fun j => !nbit (hDtap d h j) 31 ||
        (nbits (hDtap d h j) 30 17 == 0 && decide (nbits (hDtap d h j) 16 10 ≤ 64))) &&
      branches.all (fun p =>
        let c := brWord d h p.1 p.2 0
        nbits c 30 25 == 0 && decide (nbits c 24 22 ≤ 5) && nbit (brAct d h p.1 p.2) 31 == false &&
          nbits (brAct d h p.1 p.2) 26 25 != 3 && nbits (brAct d h p.1 p.2) 28 27 != 3 &&
          nbits (brWord d h p.1 p.2 3) 31 12 == 0)) &&
    (List.range 16).all (fun g => let e := sec d 8 (0x8800 + 4 * g) 4; nbits e 6 5 == 0 && nbits e 31 8 == 0)

def resFolds (d : DeckImage) : Bool :=
  let b := (secChip d 9).getD 0
  (List.range 16).all (fun g => nbits (sec d 9 (64 * g) 4) 31 8 == 0 && nbits (sec d 9 (64 * g) 4) 3 2 == 0 &&
      zeroAt d (b + 64 * g + 46) 18) &&
    (List.range 64).all (fun f => nbits (fCtrl d f) 31 10 == 0 && decide (fRed d f ≤ 4) && fComp d f != 3 &&
      zeroAt d (b + 0x406 + 64 * f) 2 && zeroAt d (b + 0x42C + 64 * f) 20 &&
      (!fV d f || (List.range (min (fExtCnt d f) 2176)).all (fun i => decide (fExtent d f i < 4096))))

def resReds (d : DeckImage) : Bool :=
  let b := (secChip d 0xA).getD 0
  (List.range 64).all (fun f => zeroAt d (b + 16 * f + 2) 2 && zeroAt d (b + 16 * f + 9) 7 &&
    (List.range (min (fNinst d f) 1024)).all (fun i => decide (sec d 0xA (sec d 0xA (16 * f + 4) 4 + 2 * i) 2 < 1024)))

def resComp (d : DeckImage) : Bool :=
  let b := (secChip d 0xB).getD 0
  (List.range 64).all (fun e => nbits (cmpWord d e) 31 16 == 0 && nbits (cmpWord d e) 14 13 != 3 &&
    nbits (sec d 0xB (16 * e + 4) 2) 15 10 == 0 && zeroAt d (b + 16 * e + 6) 10)

def resPlay (d : DeckImage) : Bool :=
  let b := (secChip d 0xC).getD 0
  zeroAt d (b + 4) 60 &&
    (List.range 32).all (fun e => decide (pbRole d e ≤ 2) && zeroAt d (b + 0x43 + 16 * e) 1 && zeroAt d (b + 0x46 + 16 * e) 10) &&
    (List.range (pbNlist d)).all (fun n => decide (sec d 0xC (0x240 + 16 * n) 2 < 4096) &&
      nbits (plBranch d n) 15 9 == 0 && zeroAt d (b + 0x24C + 16 * n) 4) &&
    (List.range 32).all (fun e => decide (sec d 0xC (0x41 + 16 * e) 1 < 32)) &&
    (List.range (min (pbExtCnt d) 2176)).all (fun i => decide (pbExtent d i < 4096))

def resMask (d : DeckImage) : Bool :=
  let b := (secChip d 0xD).getD 0
  (List.range 32).all (fun n => nbits (mcCtrl d n) 31 29 == 0 && decide (sec d 0xD (192 * n + 8) 2 < 4096) &&
    (List.range 8).all (fun j => decide (sec d 0xD (192 * n + 12 + 2 * j) 2 < 1024)) && zeroAt d (b + 192 * n + 28) 36)

/-- The section that directory entry `i` describes. -/
def resSection (d : DeckImage) (i : Nat) : Bool :=
  let t := dirT d i
  nbits (dirType d i) 15 12 == 0 && secRegionOk t (dirR d i) && dk d (0x102 + 16 * i) 2 == 1 &&
    (if 3 ≤ t ∧ t ≤ 6 then resSlots d i else if t = 1 then resKernels d else if t = 7 then resRecog d
     else if t = 8 then resHands d else if t = 9 then resFolds d else if t = 0xA then resReds d
     else if t = 0xB then resComp d else if t = 0xC then resPlay d else if t = 0xD then resMask d
     else if t = 0xE then (latEntries d).all (fun e => decide (1 ≤ e.1) && decide (e.1 ≤ 3)) else true)

/-- The reserved bytes of the signature block (R62). -/
def resSig (d : DeckImage) : Bool :=
  match d.sig with
  | none => true
  | some b => leAt b 5 3 == 0 && leAt b 104 24 == 0

/-- 0x000A; the signature block, which no section holds, is reported as the header (notes/assumptions/22.md). -/
def chkReserved (d : DeckImage) : Option Fail :=
  ((failUnless (resHeader d) 0xA 0 0).or
    (firstFail ((dirList d).map (fun i => failUnless (resSection d i) 0xA (dirT d i) (dirR d i))))).or
    (failUnless (resSig d) 0xA 0 0)

/-! 0x000B to 0x0012 -/

/-- The largest fold store latency of LATENCY (R55). -/
def maxStore (d : DeckImage) : Nat := ((latEntries d).filter (fun e => e.1 == 1)).foldl (fun a e => max a e.2.2) 0

/-- 0x000B (R64) -/
def chkLatency (d : DeckImage) : Option Fail :=
  (failUnless (dk d 0x50 2 == 48 && dk d 0x52 2 == 24 && dk d 0x54 2 == 16 && dk d 0x56 2 == 120 && dk d 0x58 2 == 200 &&
      decide (32 ≤ dkLFlock d) && decide (dkLFlock d ≤ 64)) 0xB 0 0).or
    (failUnless (dkLStoreMax d == maxStore d) 0xB 0xE 0xF)

/-- 0x000C -/
def chkGrade (s : State) (d : DeckImage) : Option Fail :=
  failUnless ((dk d 0x1C 1 == 0 || rdF s Reg.CHIP_ID 3 0 == 1) &&
    (List.range 4).all (fun k => decide (dkHbmMib d k * 2 ^ 20 ≤ stackSize s - 2 * 2 ^ 30))) 0xC 0 0

/-- The bytes per fclk that quad `q` sends to SPINE as FULL data (Tables 1-8 and 3-9): 32 for each FULL_PACK instance, less by RATIO in
a compressed fold. -/
def fullDemand (d : DeckImage) (q : Nat) : Nat :=
  (((allInsts d).filter (fun i => kidOf d i == 4 && engQuad i.1 == q)).map (fun i =>
    32 * 256 / max 1 (if fIsComp d (pPackFold d i) then fRatio d (pPackFold d i) else 256))).sum

/-- 0x000D: the FULL data of each quad's crossbar, and the paths for which the spec gives a deck no demand (R29;
notes/assumptions/22.md). -/
def chkCapacity (d : DeckImage) : Option Fail :=
  (firstFail ((List.range 4).map (fun q => failUnless (decide (fullDemand d q ≤ 256)) 0xD 3 q))).or
    ((Config.deckCapacity d.len d.bytes).map (fun p => (0xD, p.1, p.2)))

/-- The tables of kind 0x4. -/
def hbmTables (d : DeckImage) : List (Nat × Nat × Nat × Nat) :=
  match secOfs d 5 4 with
  | none => []
  | some o => (subHeaders d 8 o).filter (fun h => h.1 == 4)

/-- The ports of a table. -/
def tablePorts (d : DeckImage) (h : Nat × Nat × Nat × Nat) : List (List Nat) := (List.range h.2.2.1).map (portWords d h)

def scheduled (l : List Nat) : Nat := (l.filter slotV).length

/-- 0x000E -/
def chkOvercommit (d : DeckImage) : Option Fail :=
  failUnless ((hbmTables d).all (fun h => (tablePorts d h).all (fun l => decide (10 * scheduled l ≤ 7 * l.length)))) 0xE 5 4

/-- Whether every 32 consecutive entries, cyclically, hold a refresh entry (R54). -/
def refreshed (l : List Nat) : Bool :=
  let c := l ++ l.take 31
  (List.range l.length).all (fun i => ((c.drop i).take 32).any (fun w => slotV w && slotOp w == 2 && slotOwner w == 0x211))

/-- 0x000F -/
def chkRefresh (d : DeckImage) : Option Fail :=
  failUnless ((hbmTables d).all (fun h => (tablePorts d h).all refreshed)) 0xF 5 4

/-- Whether one unit owns entries of two ports in one cycle of a table whose unit makes one access per fclk: a flock lookup, a word of
compression input or of decompression output (Tables 3-1 and 3-9). -/
def bookedTwice (d : DeckImage) (h : Nat × Nat × Nat × Nat) : Bool :=
  (h.1 == 5 || h.1 == 7 || h.1 == 8) && (List.range h.2.2.2).any (fun e =>
    let os := (((tablePorts d h).map (fun l => (l.drop e).headD 0)).filter slotV).map slotOwner
    os.eraseDups.length != os.length)

/-- 0x0010: those, and what else a unit's hardware cannot make in one cycle (notes/assumptions/22.md). -/
def chkDouble (d : DeckImage) : Option Fail :=
  (firstFail ((slotSecs d).map (fun i => failUnless (!(secTables d i).any (bookedTwice d)) 0x10 (dirT d i) (dirR d i)))).or
    ((Config.deckDoubleBooked d.len d.bytes).map (fun p => (0x10, p.1, p.2)))

/-- The idle minimum of one table (Table 3-4). -/
def idleOk (d : DeckImage) (h : Nat × Nat × Nat × Nat) : Bool :=
  let ps := tablePorts d h
  if h.1 ≤ 1 then ps.all (fun l => decide (l.length ≤ 16 * (l.length - scheduled l)))
  else if h.1 = 4 then ps.all (fun l => decide (3 * l.length ≤ 10 * (l.length - scheduled l)))
  else if h.1 = 5 then
    (List.range (h.2.2.2 / 64)).all (fun b => ps.any (fun l => ((l.drop (64 * b)).take 64).any (fun w => !slotV w)))
  else true

/-- 0x0011 -/
def chkIdle (d : DeckImage) : Option Fail :=
  firstFail ((slotSecs d).map (fun i => failUnless ((secTables d i).all (idleOk d)) 0x11 (dirT d i) (dirR d i)))

/-- 0x0012 (R60) -/
def chkMap (d : DeckImage) : Option Fail :=
  failUnless ((List.range 256).all (fun l => decide (mapSlot d l < 16) &&
    (List.range (l % 16)).all (fun j => mapSlot d (l / 16 * 16 + j) != mapSlot d l))) 0x12 2 0xF

/-! 0x0013 KERNEL_PARAM -/

/-- Whether position `p` begins a whole lane set of positions in a page at rate `k` (R101). -/
def packOk (d : DeckImage) (i : KInst) : Bool :=
  let k := dkK d
  let ps := (List.range 4).map (pPackPos d i)
  ps.all (fun p => decide (p < 64) && decide (p / 16 = engQuad i.1) && !dkStateMode d (p / 16) &&
    (laneSet k (posChan k p)).all ps.contains) && ps.eraseDups.length == 4

/-- The PARAM of one kernel step (Table 3-9, R92, R101, R126, R184, R466). -/
def paramOk (d : DeckImage) (i : KInst) : Bool :=
  let k := kidOf d i
  let n := nChan (dkK d)
  let all := allInsts d
  if k = 0 then true
  else if k = 1 then decide (pTransGroup d i ≤ 0xFEFF) && decide (pTransChan d i + 64 ≤ n) && pTransChan d i % 16 == 0 &&
    decide (pTransFold d i < 64)
  else if k = 2 ∨ k = 3 then decide (pWinChan d i + 64 ≤ n) && decide (6 ≤ pWinLog d i) && decide (pWinLog d i ≤ 32) &&
    decide (pWinFold d i < 64)
  else if k = 4 then packOk d i && decide (pPackFold d i < 64)
  else if k = 5 then
    all.any (fun j => kidOf d j == 0xC && pBus d j == pKeyBus d i && engQuad j.1 == engQuad i.1) &&
      decide (pKeyQual d i < 0x1C2) &&
      (let t := pKeyTarget d i
       all.contains t && kidOf d t == 6 && engQuad t.1 == engQuad i.1)
  else if k = 6 then
    decide (pLookFlock d i < 16) && decide (pLookPort d i < 16) &&
      (all.filter (fun j => kidOf d j == 5 && pKeyTarget d j == i)).length == 1 &&
      (all.filter (fun j => kidOf d j == 6 && pLookFlock d j == pLookFlock d i)).length == 1
  else if k = 7 then decide (pCmpChecker d i < 32) && decide (pCmpChan d i + 64 ≤ n) && pCmpChan d i % 64 == 0 &&
    decide (pCmpTol d i ≤ 3)
  else if k = 8 then decide (pExpPos d i < 32)
  else if k = 9 then decide (pBrandFold d i < 64)
  else if k = 0xA then decide (pHashEngine d i < 64)
  else if k = 0xB then decide (1 ≤ pVoidCnt d i) && decide (pVoidCnt d i ≤ 16) && decide (pVoidPos d i + pVoidCnt d i ≤ 64) &&
    decide (pVoidFold d i < 64)
  else if k = 0xC then
    decide (pBus d i < 256) && decide (pBusWidth d i ≤ 64) &&
      (all.filter (fun j => kidOf d j == 0xC && pBus d j == pBus d i)).length == 1 &&
      (List.range 64).all (fun b =>
        if b < pBusWidth d i then decide (busEntry d (pBus d i) b < 256 / dkK d) else busEntry d (pBus d i) b == 0)
  else if k = 0xD then decide (pQualGroup d i < 4) && dkStateMode d (pQualGroup d i)
  else if k = 0xE then decide (1 ≤ pDecN d i) && decide (pDecN d i ≤ 16) && decide (pDecChan d i + 64 ≤ n)
  else if k = 0xF then decide (pFeedCnt d i < 64) && decide (pFeedSrc d i < 0x1C2)
  else false

/-- 0x0013: kernel IDs, PARAM, one STATE_QUALIFY for each state-mode group, and bus entries that no step uses are 0. -/
def chkKernel (d : DeckImage) : Option Fail :=
  let all := allInsts d
  failUnless (all.all (paramOk d) &&
    (List.range 4).all (fun g => !dkStateMode d g ||
      (all.filter (fun i => kidOf d i == 0xD && pQualGroup d i == g)).length == 1) &&
    (List.range 256).all (fun b => all.any (fun i => kidOf d i == 0xC && pBus d i == b) ||
      (List.range 64).all (fun i => busEntry d b i == 0))) 0x13 1 0xF

/-! 0x0014 FOLD_LAYOUT (R188) -/

/-- The extents of the folds, and those of pattern memory. -/
def foldExtents (d : DeckImage) : List Nat := (dkFolds d).flatMap (fun f => (List.range (fExtCnt d f)).map (fExtent d f))
def patExtents (d : DeckImage) : List Nat := (List.range (pbExtCnt d)).map (pbExtent d)

def extentsOk (s : State) (d : DeckImage) : Bool :=
  let all := foldExtents d ++ patExtents d
  (foldExtents d).all (fun w => decide (extNum w < extentMax s)) &&
    (foldExtents d).eraseDups.length == (foldExtents d).length && (foldExtents d).all (fun w => !(patExtents d).contains w) &&
    (List.range 4).all (fun k => decide (64 * (all.filter (fun w => extStack w == k)).length ≤ dkHbmMib d k))

/-- Whole units that a fold's data area holds: capture pages, or record pages. -/
def dataPages (d : DeckImage) (f : Nat) : Nat := fData d f / 4096

/-- One fold's sizes (R164, R188, R202, R463). The sidecars must hold an entry for every 4 KiB of the data area, in a TRANSITIONS or STATE fold
too, which has no capacity: the spec does not say which entries "the fold's capacity" requires (DESIGN CHOICE, notes/assumptions/24.md). -/
def foldSizesOk (d : DeckImage) (f : Nat) : Bool :=
  let full := fRed d f == 0
  let comp := fIsComp d f
  decide (1 ≤ fExtCnt d f) && decide (fExtCnt d f ≤ 2176) && decide (0 < fNinst d f) &&
    decide (gSegments d (fGroup d f) * fStride d f ≤ fExtCnt d f * extentSize) &&
    decide (4096 + fData d f + fBrand d f + fVoid d f + fIndex d f ≤ fStride d f) &&
    [fStride d f, fData d f, fBrand d f, fVoid d f, fIndex d f].all (fun x => x % 4096 == 0) &&
    (full || fVoid d f == 0) && (comp || fIndex d f == 0) &&
    (fRed d f != 1 || (fData d f % 2 ^ 20 == 0 && decide (2 * 2 ^ 20 ≤ fData d f))) &&
    (if comp then
      fBrand d f == 64 * fIndex d f && fVoid d f == 128 * fIndex d f &&
        decide (32 * ((subArea d f * fRatio d f / 256 + (2 ^ 20 - 1)) / 2 ^ 20) ≤ subBytes d f (fIndex d f))
     else
      decide (8 * dataPages d f ≤ fBrand d f) && (!full || decide (16 * dataPages d f ≤ fVoid d f)))

/-- 0x0014 -/
def chkFolds (s : State) (d : DeckImage) : Option Fail :=
  (failUnless (extentsOk s d && (dkFolds d).all (foldSizesOk d) &&
    (dkFolds d).length == dkNfold d && (dkGroups d).length == dkNgroup d &&
    (dkGroups d).all (fun g =>
      match groupCap d g with
      | none => true
      | some c => decide ((gPre d g : Int) ≤ c))) 0x14 9 0xF).or
    (failUnless (64 * pbExtCnt d == dkPatMib d) 0x14 0xC 0xF)

/-! 0x0015 SECTION_CONTENT -/

/-- A source field of a counter or timer (R113, R115, R135). -/
def sourceOk (d : DeckImage) (r : Nat) (none_ : Bool) : Bool :=
  (none_ && r == 0x3FF) || (recEn d r && !(decide (0x140 ≤ r) && decide (r < 0x1A0)))

/-- The bytes of recognizer `r`'s entry. -/
def recSize (r : Nat) : Nat :=
  if r < 0x80 then 288 else if r < 0x100 then 272 else if r < 0x140 then 96 else if r < 0x1A0 then 32
  else if r < 0x1B0 then 16 else 8

def recogOk (d : DeckImage) (r : Nat) : Bool :=
  let k := dkK d
  let n := nChan k
  if !recEn d r then zeroAt d ((secChip d 7).getD 0 + recOfs r) (recSize r)
  else if r < 0x80 then
    (List.range 1024).all (fun c =>
      if c < n then !rPatMask d r c || dkUses d (chanQuad k c) else !rPatMask d r c && !rPatValue d r c)
  else if r < 0x100 then
    ((rQual d r).map (recEn d)).getD true
  else if r < 0x140 then
    let w := rRangeWidth d r
    let lo := recB d r 64 8 % 2 ^ w
    let hi := recB d r 72 8 % 2 ^ w
    dkUses d (rRangeQuad d r) && (List.range w).all (fun i => decide (recB d r i 1 < 256 / k)) &&
      (if nbit (recCtrl d r) 4 then decide (signed w lo ≤ signed w hi) else decide (lo ≤ hi))
  else if r < 0x180 then
    sourceOk d (rSrcA d r) false && sourceOk d (rSrcB d r) true &&
      (nbits (recCtrl d r) 2 1 != 2 ||
        ((allInsts d).filter (fun i => kidOf d i == 0xF && pFeedCnt d i == r - 0x140)).length == 1)
  else if r < 0x1A0 then
    sourceOk d (rSrcA d r) false && sourceOk d (rSrcB d r) true && decide (1 ≤ recB d r 8 6)
  else if r < 0x1B0 then (allInsts d).any (fun i => kidOf d i == 6 && pLookFlock d i == r - 0x1A0)
  else true

def recogSecOk (d : DeckImage) (i : Nat) : Bool := dirLen d i == 0x13DC0 && (List.range 0x1C2).all (recogOk d)

/-- A used term of hand `h` (Table 6-3). -/
def termOk (d : DeckImage) (h c : Nat) : Bool :=
  if c < 0x1C2 then recEn d c
  else if 0x400 ≤ c ∧ c < 0x404 then
    let w := hDtap d h (c - 0x400)
    nbit w 31 && recEn d (nbits w 9 0) && decide (nbits w 16 10 ≤ 64)
  else if c = 0x404 ∨ c = 0x405 then true
  else if c = 0x406 then decide (1 ≤ hByte d h 16 6)
  else (decide (0x408 ≤ c) && decide (c < 0x40C)) || (decide (0x420 ≤ c) && decide (c < 0x4C0))

def branchOk (d : DeckImage) (h t b : Nat) : Bool :=
  let w (i : Nat) : Nat := brWord d h t b i
  let op := brOp d h t b
  let next := nbits (w 3) 4 0
  if !brV d h t b then
    (brA d h t b == 0 || brA d h t b == 0x3FF) && (brB d h t b == 0 || brB d h t b == 0x3FF) && w 1 == 0
  else (brTerms d h t b).all (termOk d h) &&
    (decide (1 ≤ op) && decide (op < 5) || brB d h t b == 0x3FF) && (op != 5 || brA d h t b == 0x3FF) &&
    decide (1 ≤ w 1) && decide (next ≤ 0x10) &&
    (bitsOf 16 (w 2 % 65536)).all (fun g => gV d g && (route d g).isSome) &&
    (nbits (w 2) 30 29 == 0 || decide (1 ≤ hByte d h 16 6)) &&
    (!nbit (w 3) 6 || dealsQueueTo d (nbits (w 3) 11 7) 0x210)

/-- R159, R160 -/
def handSecOk (d : DeckImage) (i : Nat) : Bool :=
  dirLen d i == 0x8840 && (List.range 32).all (fun h =>
    if hEn d h then
      dkUses d (h / 8) && hArmGroups d h != 0 && branches.all (fun p => branchOk d h p.1 p.2) &&
        (hInterp d h || hInterpEdge d h == 0) &&
        (List.range 4).all (fun j => !nbit (hDtap d h j) 31 || decide (nbits (hDtap d h j) 9 0 < 0x1C2))
    else zeroAt d ((secChip d 8).getD 0 + 0x440 * h) 0x440)

/-- The instances that a fold's list must name (R188). -/
def redInsts (d : DeckImage) (f : Nat) : List KInst :=
  (allInsts d).filter (fun i => kidOf d i == redKid (fRed d f) &&
    (if fRed d f = 4 then (fInsts d f).contains i else instFold d i == some f))

def sameSet {α : Type} [BEq α] (a b : List α) : Bool := a.all b.contains && b.all a.contains && a.length == b.length

/-- R186, R188: the group and fold entries. -/
def foldSecOk (d : DeckImage) : Bool :=
  (List.range 16).all (fun g =>
    if gV d g then
      let fs := gFolds d g
      fs != [] && decide (fs.length ≤ 4) && fs.all (fun f => fV d f && fGroup d f == g) &&
        decide (1 ≤ gSegments d g) && decide (gSegments d g ≤ 65536) && decide (1 ≤ gPost d g) &&
        decide (gHoldoff d g < 2 ^ 48) && sameSet (gOwners d g) (grpOwners d g)
    else zeroAt d ((secChip d 9).getD 0 + 64 * g) 64) &&
  (List.range 64).all (fun f =>
    if fV d f then gV d (fGroup d f) && (gFolds d (fGroup d f)).contains f && (fComp d f == 0 || fRed d f == 0) &&
      (if fComp d f = 0 then fRatio d f == 0x100 else decide (0x100 ≤ fRatio d f) && decide (fRatio d f ≤ 0x1000))
    else zeroAt d ((secChip d 9).getD 0 + 0x400 + 64 * f) 64)

/-- R187, R188: the instance lists. -/
def redSecOk (d : DeckImage) : Bool :=
  (dkFolds d).all (fun f =>
    sameSet (fInsts d f) (redInsts d f) &&
      (if fRed d f = 2 ∨ fRed d f = 3 then (fInsts d f).all (fun i => pWinLog d i == sec d 0xA (16 * f + 8) 1)
       else sec d 0xA (16 * f + 8) 1 == 0) &&
      (if fRed d f = 4 then (fInsts d f).all (fun i => dkStateMode d (pQualGroup d i)) else true))

/-- R206 -/
def compSecOk (d : DeckImage) (i : Nat) : Bool :=
  dirLen d i == 0x400 && (List.range 64).all (fun e =>
    if cmpV d e then
      let f := cmpFold d e
      fV d f && fIsComp d f && decide (cmpSub d e < 4 * fNinst d f) && e / 16 == engQuad (fInst d f (cmpSub d e / 4)).1 &&
        (let p := cmpPre d e
         (allInsts d).contains p && kidOf d p == 0xA && engQuad p.1 == e / 16 && pHashEngine d p == e) &&
        ((List.range 64).filter (fun e2 => cmpV d e2 && cmpFold d e2 == f && cmpSub d e2 == cmpSub d e)).length == 1
    else zeroAt d ((secChip d 0xB).getD 0 + 16 * e) 16)

/-- Every substream of a compressed fold has its engine (R206). -/
def compAllOk (d : DeckImage) : Bool :=
  (dkFolds d).all (fun f => !fIsComp d f || (List.range (4 * fNinst d f)).all (fun u => (cmpEngine d f u).isSome))

/-- R234, R236 -/
def playSecOk (s : State) (d : DeckImage) (i : Nat) : Bool :=
  let n := pbNlist d
  let lats := (latEntries d).filter (fun e => e.1 == 3)
  decide (1 ≤ n) && decide (n ≤ 4096) && decide (1 ≤ pbExtCnt d) && decide (pbExtCnt d ≤ 2176) &&
    dirLen d i == (0x240 + 16 * n + 4 * pbExtCnt d + 63) / 64 * 64 &&
    (List.range 32).all (fun e =>
      let r := pbRole d e
      if r = 0 then zeroAt d ((secChip d 0xC).getD 0 + 0x40 + 16 * e) 16
      else if r = 1 then
        (allInsts d).any (fun k => kidOf d k == 8 && pExpPos d k == pbTarget d e) && pbQuarter d e == 0 &&
          ((List.range 32).filter (fun e2 => pbRole d e2 == 1 && pbTarget d e2 == pbTarget d e)).length == 1
      else mcEn d (pbTarget d e) && decide (pbQuarter d e < 4 * mcNinst d (pbTarget d e)) && pbRest d e == 0) &&
    (List.range n).all (fun j => (decide (plNext d j < n) || plNext d j == 0xFFFF) &&
      (if nbit (plBranch d j) 0 then decide (plTarget d j < n) else plTarget d j == 0)) &&
    (patExtents d).all (fun w => decide (extNum w < extentMax s)) &&
    (patExtents d).eraseDups.length == (patExtents d).length &&
    lats.all (fun e => e.2.2 == ((lats.head?.map (fun x => x.2.2)).getD 0))

/-- R229, R235, R236 -/
def maskSecOk (d : DeckImage) (i : Nat) : Bool :=
  dirLen d i == 0x1800 && (List.range 32).all (fun n =>
    if mcEn d n then
      dkK d == 1 &&
        (List.range (4 * mcNinst d n)).all (fun q =>
          ((List.range 32).filter (fun e => pbRole d e == 2 && pbTarget d e == n && pbQuarter d e == q)).length == 1) &&
        (List.range 8).all (fun j =>
          let p := mcInst d n j
          if j < mcNinst d n then (allInsts d).contains p && kidOf d p == 7 && pCmpChecker d p == n && pCmpTol d p == mcTol d n
          else p == (0, 0)) &&
        (List.range 1024).all (fun c => !mcMask d n c ||
          (List.range (mcNinst d n)).any (fun j => decide (pCmpChan d (mcInst d n j) ≤ c) && decide (c < pCmpChan d (mcInst d n j) + 64))) &&
        recEn d (mcSync d n) && decide (1 ≤ mcNseg d n) && decide (mcPseg d n + mcNseg d n ≤ 4096) &&
        (!nbit (mcActions d n) 0 || dealsQueueTo d (mcLogEq d n) (0x1E0 + n)) &&
        (!nbit (mcActions d n) 1 || gV d (mcStopGrp d n))
    else zeroAt d ((secChip d 0xD).getD 0 + 192 * n) 192)

/-- 0x0015 -/
def chkContent (s : State) (d : DeckImage) : Option Fail :=
  (firstFail ((dirList d).map (fun i =>
    let t := dirT d i
    failUnless (if t = 7 then recogSecOk d i else if t = 8 then handSecOk d i else if t = 9 then foldSecOk d
      else if t = 0xA then redSecOk d else if t = 0xB then compSecOk d i && compAllOk d
      else if t = 0xC then playSecOk s d i else if t = 0xD then maskSecOk d i else true) 0x15 t 0xF)))

/-- The checks of DECK_VERIFY, in order: the first that fails (R75). `loaded` is the number of bytes loaded. -/
def deckChecks (s : State) (d : DeckImage) (loaded : Nat) : Option Fail :=
  firstFail [
    failUnless (dk d 0 4 == 0x4B434544 && dk d 6 2 == 0x100) 1 0 0,
    failUnless (dk d 4 2 == 0x200) 2 0 0,
    failUnless (dk d 8 4 == 0xB1) 3 0 0,
    failUnless (deckSized d loaded) 4 0 0,
    failUnless (sha384 (hashInput d) == dkHash d) 5 0 0,
    failUnless (!sigRequired s || dkSigned d) 6 0 0,
    failUnless (!dkSigned d || sigValid s d) 7 0 0,
    chkCrc d, chkLayout d, chkReserved d, chkLatency d, chkGrade s d, chkCapacity d, chkOvercommit d, chkRefresh d,
    chkDouble d, chkIdle d, chkMap d, chkKernel d, chkFolds s d, chkContent s d]

end Sys2Proof.Machine
end

