-- ==== Sys2Proof/Machine/Promote.lean ====
section
/-!
DEFINITION. Failing units (R24, R69, R70, R72, R424, R425): the promotion of a span engine's spare and quarantine.
-/

namespace Sys2Proof.Machine

/-- The quad and the engine block (0-15) of physical span engine `p`. -/
def engQuadP (p : Nat) : Nat := p / 68
def engBlock (p : Nat) : Nat := p / 17

def patrolOf (s : State) (b : Nat) : PatrolSt := tabGet {} s.shep.patrol b
def setPatrol (s : State) (b : Nat) (x : PatrolSt) : State := s.modShep (fun h => { h with patrol := tabPut {} h.patrol b x })

/-- Whether block `b`'s spare serves a slot. -/
def spareServes (s : State) (b : Nat) : Bool := s.deck.standing.any (fun p => engBlock p == b)

/-- Whether block `b`'s spare may still be promoted. -/
def spareFree (s : State) (b : Nat) : Bool :=
  !spareServes s b && !(patrolOf s b).failed && !s.deck.promos.any (fun x => engBlock x.engine == b)

/-- The UNIT code of physical engine `p` (Table 15-16). -/
def engUnit (p : Nat) : Nat := unitCode (Reg.QUAD_STATUS (engQuadP p)) (p % 68)

/-- The UNIT code of engine block `b`: that of its spare. -/
def engBlockUnit (b : Nat) : Nat := engUnit (17 * b + 16)

/-- What suspends patrol in block `b` (R426). -/
def patrolSuspended (s : State) (b : Nat) : Bool :=
  !(rd s Reg.SHEP_CTRL).getLsbD 0 || decide (2 ≤ s.deck.stage) || s.deck.promos.any (fun x => engBlock x.engine == b)

/-- Patrol stops in every block whose spare patrols, and PATROL_SUSP is set (R426). -/
def suspendPatrol (s : State) : State :=
  let ks := (List.range 16).filter (fun b => !spareServes s b && !(patrolOf s b).failed)
  let s1 := ks.foldl (fun s b => setPatrol s b { patrolOf s b with slot := none, confirming := false }) s
  ((ks.map (· / 4)).eraseDups).foldl (fun s q => raiseBit s (Reg.QUAD_STATUS q) 11) s1

/-- A confirmation that another declaration cuts short counts as an unconfirmed mismatch (R427). -/
def abandonConfirm (s : State) (b p : Nat) : State :=
  let x := patrolOf s b
  match x.slot with
  | some n =>
    if x.confirming && 17 * b + n != p then
      precursor (setPatrol s b { x with slot := none, confirming := false, unconf := (17 * b + n, now s) :: x.unconf }) (engBlockUnit b)
    else setPatrol s b { x with slot := none, confirming := false }
  | none => s

/-- Engine `p` is quarantined with no spare to serve its slot (R70): class S. -/
def quarantineEngine (s : State) (p : Nat) : State :=
  let o := Reg.QUAD_STATUS (engQuadP p)
  let s1 := s.modDeck (fun d => { d with quarEngines := insertNat d.quarEngines p })
  wearAdd (raiseEngine (raiseErr s1 o 3 3 0x0480 (p % 68)) p) 2 (engUnit p) 0

/-- A spare is declared failing: it neither patrols nor can be promoted (R426). -/
def failSpare (s : State) (b : Nat) : State :=
  let sp := 17 * b + 16
  let s1 := setPatrol s b { patrolOf s b with slot := none, confirming := false, failed := true }
  wearAdd (raiseEngine (raiseErr s1 (Reg.QUAD_STATUS (b / 4)) 4 3 0x0480 (sp % 68)) sp) 7 (engUnit sp) 0

/-- Physical engine `p` is declared failing (R69, R70, R425). A spare in lockstep serves from the next deal boundary, another from the
one after it. A failure of an engine under promotion is charged to the spare once it serves, and one of a quarantined engine to that
engine (R27). -/
def declareFailing (s : State) (p : Nat) : State :=
  let b := engBlock p
  if s.deck.quarEngines.contains p then logError s (Reg.QUAD_STATUS (engQuadP p)) 3 3 0x0480 (p % 68)
  else if s.deck.promos.any (fun x => x.engine == p) then
    s.modDeck (fun d => { d with promos := d.promos.map (fun x => if x.engine = p then { x with charge := true } else x) })
  else if p % 17 = 16 then (if spareServes s b then quarantineEngine s p else failSpare s b)
  else if spareFree s b then
    let x := patrolOf s b
    let s1 := (abandonConfirm s b p).modDeck (fun d => { d with
      promos := d.promos ++ [{ engine := p, wait := if x.slot == some (p % 17) then 1 else 2 }] })
    if x.slot.isSome then raiseBit s1 (Reg.QUAD_STATUS (b / 4)) 11 else s1
  else quarantineEngine s p

/-- A memory of engine `p` reports a corrected error: 64 within 1 s declare it failing (R425). -/
def engineCe (s : State) (p : Nat) : State :=
  let o := Reg.QUAD_STATUS (engQuadP p)
  let c := Reg.QUAD_CE_CNT (engQuadP p)
  let l := noteTime s second (tabGet [] s.shep.engCe p)
  let s1 := incCnt (s.modShep (fun h => { h with engCe := tabPut [] h.engCe p l })) c 1
  if l.length = 64 then
    declareFailing (precursor (raiseEngine (logThreshold (raiseBit s1 o 5) o 0x0480 (p % 68) (rd s1 c).toNat) p) (engBlockUnit (engBlock p))) p
  else s1

/-- Its context or instruction memory reports an uncorrectable error: it is failing (R425), class D. -/
def engineUe (s : State) (p : Nat) : State :=
  declareFailing (raiseEngine (raiseErr s (Reg.QUAD_STATUS (engQuadP p)) 6 2 0x0480 (p % 68)) p) p

/-- The spare takes the slot of failing engine `p` (R69): the live map is rewritten and the engine quarantined, class S; a SPARE_COMMIT
that asked for it completes. -/
def servePromotion (s : State) (p : Nat) : State :=
  let o := Reg.QUAD_STATUS (engQuadP p)
  let s1 := s.modDeck (fun d => { d with standing := insertNat d.standing p, quarEngines := insertNat d.quarEngines p })
  let s2 := logError (raise s1 o 0x1004) o 2 3 0x0480 (p % 68)
  let s3 := wearAdd (raiseEngine s2 p) 1 (engUnit p) (spareOf p)
  match s3.cmd.running.find? (fun r => r.op == 0x0C02 && r.aux == 0 && r.obj == p) with
  | some r => endRun s3 r.ring r.cid cOk (spareOf p) 0
  | none => s3

/-- Promotions at a deal boundary (R69). -/
def promoteStep (s : State) : State :=
  let due := (s.deck.promos.filter (fun x => decide (x.wait ≤ 1))).map Promotion.engine
  let s1 := s.modDeck (fun d => { d with
    promos := (d.promos.filter (fun x => decide (1 < x.wait))).map (fun x => { x with wait := x.wait - 1, flagged := false }) })
  let again := (s.deck.promos.filter (fun x => decide (x.wait ≤ 1) && x.charge)).map (fun x => 17 * engBlock x.engine + 16)
  again.foldl declareFailing (due.foldl servePromotion s1)

/-- The SRC of a unit's errors, by its owner code (R28, R34): hands, mask checkers and lanes have numbers of their own. -/
def unitSrc (s : State) (code : Nat) : Nat :=
  if 0x160 ≤ code ∧ code < 0x180 then 0x0410 + (code - 0x160)
  else if 0x180 ≤ code ∧ code < 0x1C0 then
    0x0500 + rdF s (Reg.INGEST_POS ((code - 0x180) / 16) ((code - 0x180) % 16)) 6 0
  else if 0x1C0 ≤ code ∧ code < 0x1E0 then 0x0544 + (code - 0x1C0)
  else if 0x1E0 ≤ code ∧ code < 0x200 then 0x0430 + (code - 0x1E0)
  else 0x0480

/-- The leaf of a receive lane's error flags (Table 16-9). -/
def laneLeaf (n : Nat) : Nat × Nat :=
  if n < 64 then (blkGroup (n / 16) + 1 + n % 16, 1) else (blkGroup (n - 64) + 17, 1)

/-- A unit without a spare is quarantined by its guard (R72), class S: its outputs are flagged for as long as the deck runs. A hand enters FAULT
with QUAR, a queue FAULT, and each sets the leaf that it has (R28). -/
def quarantineUnit (s : State) (code : Nat) : State :=
  if unitFlagged s code then s
  else
    let s1 := s.modDeck (fun d => { d with quarUnits := insertNat d.quarUnits code })
    let src := unitSrc s code
    if 0x100 ≤ code ∧ code < 0x140 then raiseErr s1 (Reg.CMP_STATUS (code - 0x100)) 2 3 src (code - 0x100)
    else if 0x140 ≤ code ∧ code < 0x160 then raiseErr s1 (Reg.DCMP_STATUS (code - 0x140)) 3 3 src (code - 0x140)
    else if 0x160 ≤ code ∧ code < 0x180 then
      let h := code - 0x160
      raiseErr (setHand s1 h { handOf s1 h with st := .fault }) (Reg.HAND_STATUS h) 3 3 src h
    else if 0x180 ≤ code ∧ code < 0x1C0 then
      let p := code - 0x180
      let l := laneLeaf (src - 0x0500)
      logError (raiseLeaf s1 l.1 l.2) (Reg.INGEST_STATUS (p / 16)) 0 3 src p
    else if 0x1E0 ≤ code ∧ code < 0x200 then
      logError (raiseLeaf s1 7 7) (Reg.MCHK_STATUS (code - 0x1E0)) 0 3 src (code - 0x1E0)
    else if 0x280 ≤ code ∧ code < 0x2A0 then
      let q := code - 0x280
      let s2 := setBlkState s1 (Reg.EQ_CTRL q) stFault
      logError (raiseLeaf s2 (155 + q / 12) (2 * (q % 12) + 1)) (Reg.EQ_STATUS q) 1 3 src q
    else logError s1 (Reg.GUARD_STATUS 4) 0 3 src code

end Sys2Proof.Machine
end

