-- ==== Sys2Proof/Machine/Timebase.lean ====
section
/-!
DEFINITION. The bellwether timebase (chapter 2): SET_TIME, SYNC_IN and SYNC_OUT, the stop and the restart of TBASE.
-/

namespace Sys2Proof.Machine

/-- Times are 80 bits. -/
def timeMod : Nat := 2 ^ 80

/-- An interval in which the AON counter counts the oscillator begins (bit 4) or ends (bit 5): logged as holdover is, class D (R33, R414). -/
def logCoarse (s : State) (b : Nat) : State :=
  if refclkGone s then logError s Reg.CHIP_PWR_STATUS b 2 0x0480 0 else s

/-- TBASE stops on an edge of REFCLK ÷ 4, and the AON counter carries time on from the bellwether's value (R33). -/
def stopTbase (s : State) : State :=
  let s1 := (logCoarse s 4).modTb (fun t => { t with running := false, crossed := false })
  raiseBit (wrF s1 Reg.CHIP_CLK_STATUS 1 1 0) Reg.TBASE_STATUS 2

/-- TBASE restarts on an edge of REFCLK ÷ 4: the next one, at which the counter has added its 40 ns, unless one stands now. The
bellwether continues from the counter's value there (R33). -/
def startTbase (s : State) : State :=
  if s.tb.running then s
  else
    let s1 := logCoarse s 5
    if s.tb.sub = 0 then s1.modTb (fun t => { t with running := true })
    else s1.modTb (fun t => { t with running := true, sub := 0, now := (t.now + nsT 40) % timeMod })

/-- The moment of a pin's edge that crossed the ball at `t`, as the 6.4 GHz sampler resolves it: one TBASE cycle, 10,240 units (R32;
notes/assumptions/18.md). -/
def sampledTime (s : State) (t : Time) : Time := t - ((t + (10240 - s.tb.now % 10240)) % 10240)

/-- The time of the sample of index `k` on physical RX lane `n`: E + k × P + OFS(n) (R43, R44); none while no E stands. -/
def laneSampleTime (s : State) (n : Nat) (k : Sample) : Option Time :=
  s.tb.epoch.map (fun e => (e + k * period s + (timeMod + (tabGet 0 s.tb.laneOfs n).toInt).toNat) % timeMod)

/-- The time word of a channel's sample, stamped on the lane that carries it (R8, R32, R34). -/
def channelTimeWord (s : State) (n ch : Nat) (k : Sample) : Option Nat :=
  (laneSampleTime s n k).map (fun t => timeWord t ch)

/-- SET_TIME loads `t`: the link epoch moves by the same amount, STEPPED is set and the step is logged (R37, R38, R40). -/
def loadTime (s : State) (t : Time) (bits : Word) : State :=
  let old := s.tb.now
  let s1 := s.modTb (fun b => { b with
    now := t % timeMod
    crossed := false
    epoch := b.epoch.map (fun e => (e + t + (timeMod - old % timeMod)) % timeMod) })
  logAdd (raise s1 Reg.TBASE_STATUS bits) 4 0 0x0481 0x400000
    (leBytes 12 (timeWord old 0) ++ leBytes 4 0 ++ leBytes 12 (timeWord (t % timeMod) 0))

/-- Whether the timebase PLL is locked. -/
def tbaseLocked (s : State) : Bool := (rd s Reg.CHIP_CLK_STATUS).getLsbD 1

/-- What SET_TIME does once admitted (R37-R39, R41). -/
def setTimeBody (h : CmdHdr) (mode : Byte) (time : BitVec 96) (s : State) : State :=
  if captureBusy s then refuse s h 0x0103 cBusy busyState
  else if measuring s then refuse s h 0x0103 cBusy (((holderOp s [0x0702, 0x0703]).map BitVec.toNat).getD busyState)
  else if playing s then refuse s h 0x0103 cBusy busyState
  else if mode = 0 ∧ s.tb.running ∧ tbaseLocked s then finish (loadTime s (wordTime time) 1) h 0x0103 cOk 0 0
  else
    let w : TimeWait := { ring := h.ring, cid := h.cid, atSync := mode != 0, time := wordTime time, edge := none }
    keepRunning (startTbase (s.modTb (fun t => { t with wait := some w }))) h 0x0103 0 0

def setTimeChecks (h : CmdHdr) (mode : Byte) (timeout : BitVec 32) (time : BitVec 96) (s : State) : Checks :=
  { op := 0x0103
    fields := [cflagsOk h 0, (8, decide (mode.toNat ≤ 1)),
      (12, if mode = 1 then decide (1 ≤ timeout.toNat) && decide (timeout.toNat ≤ 10000) else timeout == 0),
      (16, time.toNat % 65536 == 0)]
    blocks := [0x4]
    held := holderOp s [0x0103] }

/-- SET_TIME (R37-R41). -/
def execSetTime (h : CmdHdr) (mode : Byte) (timeout : BitVec 32) (time : BitVec 96) (s : State) :
    Host.Outcome State Fault Refusal :=
  .next (startCmd h (setTimeChecks h mode timeout time s) none (setTimeBody h mode time) s)

/-- An edge of the chosen polarity that holds its level for SYNCIN_FILT + 1 AON cycles is accepted, at the moment the 6.4 GHz sampler gives
it (R32, R38). SYNCIN_SEEN is set by accepted edges: of the chosen polarity, while TBASE runs (notes/assumptions/18.md). -/
def syncInEdge (falling : Bool) (t : Time) (held : Nat) (s : State) : State :=
  if s.tb.running && (rd s Reg.TBASE_CTRL).getLsbD 1 == falling && decide (rdF s Reg.TBASE_CTRL 15 8 + 1 ≤ held) then
    let s1 := raiseBit s Reg.TBASE_STATUS 3
    match s.tb.wait with
    | some w => if w.atSync && w.edge.isNone then s1.modTb (fun b => { b with wait := some { w with edge := some (sampledTime s t) } }) else s1
    | none => s1
  else s

def execSyncInEdge (falling : Bool) (t : Time) (held : Nat) (s : State) : Host.Outcome State Fault Refusal :=
  .next (syncInEdge falling t held s)

/-- The load that gives the accepted edge the given time (R38). -/
def execAtSyncLoad (s : State) : Host.Outcome State Fault Refusal :=
  match s.tb.wait with
  | some { ring := r, cid := c, atSync := true, time := t, edge := some e } =>
    let v := t + (s.tb.now + (timeMod - e % timeMod))
    .next (endRun (loadTime (s.modTb (fun b => { b with wait := none })) v 3) r c cOk 0 0)
  | _ => .next s

/-- No edge was accepted within the timeout (R38). -/
def execSetTimeTimeout (s : State) : Host.Outcome State Fault Refusal :=
  match s.tb.wait with
  | some { ring := r, cid := c, atSync := true, time := _, edge := none } =>
    .next (endRun (s.modTb (fun b => { b with wait := none })) r c cTimeout 0 0)
  | _ => .next s

/-- A whole second of NS with FRAC 0. -/
def wholeSecond (t : Time) : Bool := t % nsT second == 0

/-- Whether the bellwether takes a whole-second value in one of the four TBASE cycles of an fclk that begins at `a` (R31, R42). -/
def crossesSecond (a : Time) : Bool := (List.range 4).any (fun i => wholeSecond (a + 10240 * (i + 1)))

/-- SYNC_OUT rises, for SYNCOUT_W + 1 AON cycles, where counting has taken a whole-second value in the last fclk (R42). -/
def syncOutPulse (s : State) : State :=
  if s.tb.running && s.tb.crossed && (rd s Reg.TBASE_CTRL).getLsbD 0 then
    s.modTb (fun b => { b with syncOut := true, syncLeft := 64 * (rdF s Reg.TBASE_CTRL 23 16 + 1) })
  else s

def execSyncOutPulse (s : State) : Host.Outcome State Fault Refusal := .next (syncOutPulse s)

/-- SYNC_OUT falls in the last fclk of its high time (R42). -/
def syncOutEnd (s : State) : State :=
  if s.tb.syncLeft ≤ 1 then s.modTb (fun b => { b with syncOut := false, syncLeft := 0 }) else s

def execSyncOutPulseEnd (s : State) : Host.Outcome State Fault Refusal := .next (syncOutEnd s)

/-- TBASE stops where every condition of R417 holds, on an edge of REFCLK ÷ 4 (R33). -/
def execTbaseStop (s : State) : Host.Outcome State Fault Refusal :=
  .next (if s.tb.running && s.tb.sub == 0 && tbaseMayStop s then stopTbase s else s)

/-- TBASE restarts where a condition of R417 fails. -/
def execTbaseStart (s : State) : Host.Outcome State Fault Refusal :=
  .next (if tbaseMayStop s then s else startTbase s)

/-- The timebase PLL locks; a SET_TIME IMMEDIATE that waits for it loads the bellwether (R41). -/
def execTimebasePllLock (s : State) : Host.Outcome State Fault Refusal :=
  let s1 := wrF s Reg.CHIP_CLK_STATUS 1 1 1
  match s.tb.wait with
  | some { ring := r, cid := c, atSync := false, time := t, edge := _ } =>
    if s.tb.running then .next (endRun (loadTime (s1.modTb (fun b => { b with wait := none })) t 1) r c cOk 0 0)
    else .next s1
  | _ => .next s1

end Sys2Proof.Machine
end

