-- ==== Sys2Proof/Machine/Activate.lean ====
section
/-!
DEFINITION. Loading, verifying and activating decks (R75, R76, R350), and what activation sets up in every unit (R68, R92, R103, R114,
R115, R137, R167, R173, R218, R221, R394, R401, R416).
-/

namespace Sys2Proof.Machine

/-- The deck in slot `n`. -/
def slotDeck (s : State) (n : Nat) : Option DeckImage := assoc s.deck.slots n

/-- Whether slot `n` holds the active deck. -/
def slotActive (s : State) (n : Nat) : Bool :=
  match s.deck.active with
  | some a => a.1 == n
  | none => false

/-- Whether internal HBM, where the slots lie, can be used: every stack answers. -/
def hbmAll (s : State) : Bool := (List.range 4).all (stackUsable s)

/-- Bytes as a memory from address `a`. -/
def memOf (a : Nat) : List Byte → Mem
  | [] => []
  | b :: t => if b = 0 then memOf (a + 1) t else (a, b) :: memOf (a + 1) t

/-- The image in a list of loaded bytes: those up to DECK_LEN, and the signature block that follows where SIGNED is set (R55, R62). -/
def imageOf (bs : List Byte) : DeckImage :=
  let len := leAt bs 0xC 4
  { len := len, bytes := memOf 0 (bs.take len),
    sig := if leAt bs 0x1D 1 % 2 = 1 then some ((bs.drop len).take 128) else none }

/-! DECK_LOAD and DECK_VERIFY -/

/-- A drover brings the image into the slot, which holds it if it passes every check (R75, R350). -/
def deckLoadGo (h : CmdHdr) (slot : Byte) (len : BitVec 32) (src : BitVec 64) (s : State) : State :=
  let n := slot.toNat
  let d := imageOf (segsRead s.mem (bufList s src) len.toNat)
  let s0 := (drove s len.toNat).modDeck (fun k => { k with slots := assocDel k.slots n })
  match deckChecks s d len.toNat with
  | some f => finish s0 h 0x0201 cDeckInvalid (failWord f) (dkId d)
  | none => finish (s0.modDeck (fun k => { k with slots := assocSet k.slots n d })) h 0x0201 cOk 0 (dkId d)

def deckLoadBody (h : CmdHdr) (slot : Byte) (len : BitVec 32) (src : BitVec 64) (s : State) : State :=
  let n := slot.toNat
  if slotActive s n then refuse s h 0x0201 cBusy busyState
  else if !hbmAll s then refuse s h 0x0201 cState 0
  else carry h 0x0201 n (.deckLoad h slot len src) (deckLoadGo h slot len src) s

/-- What R345 checks of DECK_LOAD. -/
def deckLoadChecks (h : CmdHdr) (slot : Byte) (len : BitVec 32) (src : BitVec 64) (s : State) : Checks :=
  { op := 0x0201
    fields := [cflagsOk h 0, (8, decide (slot.toNat < 16)),
      (12, decide (1 ≤ len.toNat) && decide (len.toNat ≤ 64 * 2 ^ 20 + 128) &&
        (!bufOk s src || decide (len.toNat ≤ segsLen (bufList s src)))),
      (16, bufOk s src)]
    held := holderObj s [0x0201, 0x0202] slot.toNat }

/-- DECK_LOAD (R75). -/
def execDeckLoad (h : CmdHdr) (slot : Byte) (len : BitVec 32) (src : BitVec 64) (s : State) : Host.Outcome State Fault Refusal :=
  .next (startCmd h (deckLoadChecks h slot len src s)
    none (deckLoadBody h slot len src) s)

def deckVerifyBody (h : CmdHdr) (slot : Byte) (s : State) : State :=
  let n := slot.toNat
  if slotActive s n then refuse s h 0x0202 cBusy busyState
  else
    match slotDeck s n with
    | none => refuse s h 0x0202 cState 0
    | some d =>
      match deckChecks s d (d.len + (if d.sig.isSome then 128 else 0)) with
      | some f => finish s h 0x0202 cDeckInvalid (failWord f) (dkId d)
      | none => finish s h 0x0202 cOk 0 (dkId d)

/-- What R345 checks of DECK_VERIFY. -/
def deckVerifyChecks (h : CmdHdr) (slot : Byte) (s : State) : Checks :=
  { op := 0x0202, fields := [cflagsOk h 0, (8, decide (slot.toNat < 16))], held := holderObj s [0x0201, 0x0202] slot.toNat }

/-- DECK_VERIFY (R75). -/
def execDeckVerify (h : CmdHdr) (slot : Byte) (s : State) : Host.Outcome State Fault Refusal :=
  .next (startCmd h (deckVerifyChecks h slot s)
    none (deckVerifyBody h slot) s)

/-! What activation sets up -/

/-- Fold groups (R167), hands (R137), counters and timers (R114, R115), checkers and playback begin anew. -/
def resetCapture (d : DeckImage) (s : State) : State :=
  let groups := (dkGroups d).foldl (fun t g => tabPut {} t g ({ post := gPost d g } : GroupSt)) []
  let s1 := (s.setFolds { groups := groups }).setHands []
  let s2 := s1.setTrig { s.trig with fires := [], forces := [], accepted := [], presented := [] }
  let s3 := s2.modRecog (fun r => { r with
    counters := [], timers := [], slices := [], keys := [], lastKeyFclk := [], first := evalCount s, evalTo := none })
  ((s3.setPgen { psegs := s3.pgen.psegs }).setCheckers []).modComp (fun c => { c with pages := [], verified := [] })

/-- The byte counts of the compression and decompression engines begin anew (R218). -/
def resetCounts (s : State) : State :=
  let s1 := (List.range 64).foldl (fun s e => wr64 (wr64 s (Reg.CMP_IN_LO e) 0) (Reg.CMP_OUT_LO e) 0) s
  (List.range 32).foldl (fun s d => wr64 s (Reg.DCMP_OUT_LO d) 0) s1

/-- USE, FOLD and SUB of CMP_STATE, and USE of DCMP_STATE, as the deck deals the engines (R192, R218). -/
def dealEngines (d : DeckImage) (s : State) : State :=
  let s1 := (List.range 64).foldl (fun s e =>
    let w := if cmpV d e then 2 + 8 + 32 * cmpFold d e + 2048 * cmpSub d e else 0
    wrF s (Reg.CMP_STATE e) 16 0 w) s
  (List.range 32).foldl (fun s e =>
    let used := pbHas d && pbRole d e != 0
    wrF (wrF s (Reg.DCMP_STATE e) 4 3 (if used then 1 else 0)) (Reg.DCMP_STATE e) 2 0 (if used then 2 else 0)) s1

/-- INGEST_STATE_CFG of each quad (R92). -/
def dealState (d : DeckImage) (s : State) : State :=
  (List.range 4).foldl (fun s g =>
    match (instsOf d 0xD).find? (fun i => pQualGroup d i == g) with
    | some i =>
      let st := par d i 1 1
      wrF s (Reg.INGEST_STATE_CFG g) 10 0 (1024 + 256 * (par d i 2 1 % 4) + st)
    | none => wrF s (Reg.INGEST_STATE_CFG g) 10 0 0) s

/-- Ingest and the queues are enabled as R103 and R401 say; ingest of an unnamed quad is off with its region. -/
def dealBlocks (d : DeckImage) (s : State) : State :=
  let s1 := (List.range 4).foldl (fun s q =>
    if dkUses d q then enableNow s (Reg.INGEST_CTRL q)
    else setBlkState (setEn s (Reg.INGEST_CTRL q) false) (Reg.INGEST_CTRL q) stOff) s
  (List.range 32).foldl (fun s q => if dealsQueue d q then enableNow s (Reg.EQ_CTRL q) else s) s1

/-- The scratch banks that the deck schedules: region and bank. -/
def dealtBanks (d : DeckImage) : List (Nat × Nat) :=
  (List.range 4).flatMap (fun q => ((List.range 64).filter (fun b => (slotPort d 2 q b).any slotV)).map (fun b => (q, b))) ++
    ((List.range 32).filter (fun b => (slotPort d 3 4 b).any slotV)).map (fun b => (4, b))

/-- Scheduled banks come ON, the banks of an unnamed quad go OFF with it, and one that only the deck before scheduled goes back to the state
that MEM_POWER last gave it (R30, R394). -/
def dealBanks (old : Option DeckImage) (d : DeckImage) (s : State) : State :=
  let mine := dealtBanks d
  let lone := ((old.map dealtBanks).getD []).filter (fun b => !mine.contains b)
  let s1 := lone.foldl (fun s b => setBank s b.1 b.2 (tabGet 0 s.pwr.bankGiven (64 * b.1 + b.2))) s
  let s2 := setBanks s1 (((List.range 4).filter (fun q => !dkUses d q)).flatMap (fun q => (List.range 64).map (fun b => (q, b)))) 0
  setBanks s2 mine 2

/-- The REGION and HBM fields of CHIP_PWR_STATE: named regions ON, the others OFF, and every stack ON that MEM_POWER does not hold
(R76, R416, R418). -/
def dealPower (d : DeckImage) (s : State) : State :=
  let s1 := (List.range 5).foldl (fun s r => wrF s Reg.CHIP_PWR_STATE (2 * r + 1) (2 * r) (if dkUses d r then 2 else 0)) s
  (List.range 4).foldl (fun s n =>
    if rdF s Reg.CHIP_PWR_STATE (13 + 2 * n) (12 + 2 * n) = 1 ∧ !s.pwr.held.contains n then
      wrF s Reg.CHIP_PWR_STATE (13 + 2 * n) (12 + 2 * n) 2 else s) s1

/-- Pattern memory is kept where the extent list is the old deck's; else V is cleared in every directory entry (R221). -/
def dealPatterns (old : Option DeckImage) (d : DeckImage) (s : State) : State :=
  if !pbHas d then s
  else if (match old with | some o => pbHas o && patExtents o == patExtents d | none => false) then s
  else
    let a := patAddr s d 0
    let clearV (m : Mem) (p : Nat) : Mem := memPut m (a + 16 * p) (memByte m (a + 16 * p) &&& 0xFE)
    let m := (List.range 4096).foldl clearV s.mem.hbm
    (s.setPgen { s.pgen with psegs := [] }).setMem { s.mem with hbm := m }

/-- DECK_ID in every guard (Table 3-11). -/
def dealIds (d : DeckImage) (s : State) : State :=
  (List.range 5).foldl (fun s r => wr64 s (Reg.GUARD_DECKID_LO r) (dkId d)) s

/-- The DECK log entry (Table 15-17): activation or re-deal. -/
def logDeck (s : State) (d : DeckImage) (num kind : Nat) : State :=
  logAdd s 7 0 0x0483 0 (leBytes 8 (dkId d) ++ leBytes 8 num ++ leBytes 1 kind)

/-- The deck in slot `n` becomes the active deck (R76): its regions are woken, the fabric and timebase PLLs locked, its tables loaded, and the deal counters start at deal
cycle 0 and deal number 0. -/
def activate (s : State) (n : Nat) (d : DeckImage) : State :=
  let old := actDeck s
  let s1 := s.modDeck (fun k => { k with
    active := some (n, d), cycle := 0, num := [], blocked := [], viol := [], violSec := [], quarUnits := [], spineReload := false
    ctxBad := [], quarBlocks := [], shed := [], blockedItems := [] })
  let s2 := dealBanks old d (dealPower d (resetCounts (resetCapture d (s1.modIngest (fun i => { i with first := storedTo s })))))
  let s3 := dealPatterns old d (dealBlocks d (dealState d (dealEngines d s2)))
  logDeck (dealIds d (wrF (startTbase s3) Reg.CHIP_CLK_STATUS 1 0 3)) d 0 0

/-! DECK_ACTIVATE -/

/-- Whether a measurement uses a recognizer as its gate (R76, R247). -/
def recogMeasuring (s : State) : Bool :=
  (List.range 4).any (fun u =>
    match (measOf s u).run with
    | none => false
    | some r =>
      (match r.interval with | some p => p.gate.source == 4 | none => false) ||
        (match r.freq with | some p => p.gate.source == 4 | none => false))

/-- The blocks that DECK_ACTIVATE and DECK_REDEAL write (Table 15-18), for the deck in slot `n`. -/
def deckBlocks (s : State) (n : Nat) : List Nat :=
  [0x0, 0x7, 0x8, 0xA, 0xC, 0xD, 0xE] ++
    (match slotDeck s n with
     | some d => ((List.range 4).filter (dkUses d)).map bQuad
     | none => [])

def deckActivateBody (h : CmdHdr) (slot : Byte) (s : State) : State :=
  match slotDeck s slot.toNat with
  | none => refuse s h 0x0203 cState 0
  | some d =>
    if captureBusy s || playing s || recogMeasuring s then refuse s h 0x0203 cBusy busyState
    else finish (activate s slot.toNat d) h 0x0203 cOk 0 0

/-- What R345 checks of DECK_ACTIVATE. -/
def deckActivateChecks (h : CmdHdr) (slot : Byte) (s : State) : Checks :=
  { op := 0x0203, fields := [cflagsOk h 0, (8, decide (slot.toNat < 16))], dagger := true, blocks := deckBlocks s slot.toNat
    held := (holderObj s [0x0201, 0x0202] slot.toNat).or (holderOp s [0x0203, 0x0204, 0x0301, 0x0302, 0x0303, 0x0304]) }

/-- DECK_ACTIVATE (R76). -/
def execDeckActivate (h : CmdHdr) (slot : Byte) (s : State) : Host.Outcome State Fault Refusal :=
  .next (startCmd h (deckActivateChecks h slot s)
    (some (.deckActivate h slot)) (deckActivateBody h slot) s)

end Sys2Proof.Machine
end

