-- ==== Sys2Proof/Machine/Dac.lean ====
section
/-!
DEFINITION. The DAC channels (chapter 11): codes and spans, the update tick, DAC_SET, DDS_SET and the start time T0.
-/

namespace Sys2Proof.Machine

/-! Codes (R259, R265) -/

/-- The bottom and the full scale of a precision span, in mV (Table 11-5). -/
def thrSpan (sp : Nat) : Int × Int :=
  if sp = 0 then (0, 2500) else if sp = 1 then (0, 5000) else if sp = 2 then (-2500, 5000) else (-5000, 10000)

/-- The nearest integer to `num / den`, ties up, within 0 to `top`. -/
def nearestCode (num den : Int) (top : Nat) : Nat := min ((2 * num + den) / (2 * den)).toNat top

/-- The code of a voltage in mV on channel `ch` in span `sp` (R259, R265). -/
def mvCode (ch sp : Nat) (mv : Int) : Nat :=
  if ch < 32 then nearestCode ((mv - (thrSpan sp).1) * 65536) (thrSpan sp).2 0xFFFF
  else nearestCode ((if sp = 0 then mv else mv + 400) * 16384) 800 0x3FFF

/-! The DDS (R267) -/

/-- π scaled by 2^96. -/
def piScaled : Nat := 248902613312231085230521944622

/-- The Taylor series of the sine of `x / 2^96`, from the term `t` of degree `2n - 1` on. -/
def sinTerms (x2 : Int) : Nat → Nat → Int → Int
  | 0, _, _ => 0
  | fuel + 1, n, t => t + sinTerms x2 fuel (n + 1) (-(t * x2 / 2 ^ 96) / ((2 * n : Nat) * (2 * n + 1 : Nat) : Int))

/-- Entry `i` of the quarter-wave table: round(32,767 × sin(2π(i + 0.5) / 16,384)). -/
def sineEntry (i : Nat) : Nat :=
  let x : Int := ((2 * i + 1) * piScaled / 16384 : Nat)
  let s := sinTerms (x * x / 2 ^ 96) 16 1 x
  ((2 * 32767 * s + 2 ^ 96) / 2 ^ 97).toNat

/-- s of R267 for a 16-bit phase. -/
def sineOf (p : Nat) : Int :=
  let q := nbits p 15 14
  let a := nbits p 13 2
  let e : Int := sineEntry (if q % 2 = 1 then 4095 - a else a)
  if 2 ≤ q then -e else e

/-- The DACX cycle that a time lies in: 156.25 ps each. -/
def dacx (t : Time) : Nat := t / 10240

/-- The accumulator of CALOUT channel `ch` in DACX cycle `c`. -/
def ddsAcc (s : State) (ch c : Nat) : Nat :=
  let x := dacOf s ch
  (x.acc.toNat + x.ftw.toNat * (c - x.since)) % 2 ^ 48

/-- The sum OFS + round(AMP × s / 32,768) in DACX cycle `c`, before it is clamped. -/
def ddsRaw (s : State) (ch c : Nat) : Int :=
  let p := (nbits (ddsAcc s ch c) 47 32 + rdF s (Reg.DDS_PHASE ch) 15 0) % 65536
  (rdF s (Reg.DDS_SCALE ch) 13 0 : Nat) + (2 * (rdF s (Reg.DDS_SCALE ch) 31 16 : Nat) * sineOf p + 32768) / 65536

/-- The DDS output M, clamped. -/
def ddsOut (s : State) (ch c : Nat) : Nat := min (ddsRaw s ch c).toNat 16383

/-- Whether that sample is clamped. -/
def ddsClips (s : State) (ch c : Nat) : Bool := decide (ddsRaw s ch c < 0) || decide (16383 < ddsRaw s ch c)

/-- Whether channel `ch` runs its DDS. -/
def ddsRuns (s : State) (ch : Nat) : Bool := blkState s (Reg.DAC_CTRL ch) == stOn && rdF s (Reg.DAC_CTRL ch) 11 10 == 2

/-- The code M that CALOUT channel `ch` gives in DACX cycle `c` (R265-R267): none where it sources no current or MODE is reserved. A
square wave is LO until T0, then HI for HI_LEN cycles and LO for LO_LEN, again and again. -/
def calCode (s : State) (ch c : Nat) : Option Nat :=
  let mode := rdF s (Reg.DAC_CTRL ch) 11 10
  if blkState s (Reg.DAC_CTRL ch) ≠ stOn then none
  else if mode = 0 then some (rdF s (Reg.DAC_OUT ch) 13 0)
  else if mode = 1 then
    let n := rdF s (Reg.SQ_HI_LEN ch) 23 0 + 1
    let high := match (dacOf s ch).t0 with
      | none => false
      | some t0 => decide (dacx t0 ≤ c) && decide ((c - dacx t0) % (n + rdF s (Reg.SQ_LO_LEN ch) 23 0 + 1) < n)
    some (if high then rdF s (Reg.SQ_LEVELS ch) 29 16 else rdF s (Reg.SQ_LEVELS ch) 13 0)
  else if mode = 2 then some (ddsOut s ch c)
  else none

/-- What CALOUT channel `ch` puts on its ball in DACX cycle `c`, into 50 Ω, in units of 2^-14 mV (R265). -/
def calLevel (s : State) (ch c : Nat) : Int :=
  match calCode s ch c with
  | none => 0
  | some m => (800 * m : Nat) - (if rdF s (Reg.DAC_CTRL ch) 9 8 = 0 then 0 else 400 * 16384)

/-- What precision channel `ch` gives, in units of 2^-16 mV (R259): in ON the code being output, in every other state 0 V, at which
a THR ball is held with its driver off (R262, R263). -/
def thrLevel (s : State) (ch : Nat) : Int :=
  let sp := thrSpan (rdF s (Reg.DAC_CTRL ch) 9 8)
  if blkState s (Reg.DAC_CTRL ch) = stOn then sp.1 * 65536 + sp.2 * (rdF s (Reg.DAC_OUT ch) 15 0 : Nat) else 0

/-- The accumulator brought up to now. -/
def ddsCatch (s : State) (ch : Nat) : State :=
  let c := dacx (now s)
  let x := dacOf s ch
  if ddsRuns s ch then setDacSt s ch { x with acc := BitVec.ofNat 48 (ddsAcc s ch c), since := c } else s

/-- A tuning word takes effect without a step of phase (R268). -/
def ddsTune (s : State) (ch : Nat) (ftw : BitVec 48) : State :=
  let s1 := ddsCatch s ch
  setDacSt s1 ch { dacOf s1 ch with ftw := ftw }

/-- The DDS samples of the DACX cycles `c` to `c + n - 1` are output: CLIP is set where one is clamped (R267). -/
def ddsCycles (s : State) (ch c n : Nat) : State :=
  if ddsRuns s ch && (List.range n).any (fun i => ddsClips s ch (c + i)) then raiseBit s (Reg.DAC_STATUS ch) 2 else s

/-! Commands in progress -/

/-- Registers that DDS_SET writes. -/
def ddsRegs (s : State) (ch : Nat) (p : DdsParams) : State :=
  if p.mode = 2 then
    let s1 := wr (wr s (Reg.DDS_FTW_LO ch) (BitVec.ofNat 32 p.ftw.toNat)) (Reg.DDS_FTW_HI ch)
      (BitVec.ofNat 32 (p.ftw.toNat / 2 ^ 32))
    let s2 := wr (wr s1 (Reg.DDS_PHASE ch) (p.phase.zeroExtend 32)) (Reg.DDS_SCALE ch)
      (BitVec.ofNat 32 (p.amp.toNat * 65536 + p.ofs.toNat))
    ddsTune s2 ch p.ftw
  else
    wr (wr (wr s (Reg.SQ_LEVELS ch) (BitVec.ofNat 32 (p.hi.toNat * 65536 + p.lo.toNat))) (Reg.SQ_HI_LEN ch)
      (p.hiLen - 1)) (Reg.SQ_LO_LEN ch) (p.loLen - 1)

/-- In OFF, what the command in progress changes is written: the span, a CALOUT's mode, the code, the DDS registers. -/
def dacProgram (s : State) (ch : Nat) (c : DacCmd) : State :=
  let o := Reg.DAC_CTRL ch
  let s1 := match c.span with | some sp => wrF s o 9 8 sp.toNat | none => s
  let s2 := if 32 ≤ ch then wrF s1 o 11 10 (match c.dds with | some p => p.mode.toNat | none => 0) else s1
  let s3 := match c.code with | some v => wr s2 (Reg.DAC_CODE ch) (v.zeroExtend 32) | none => s2
  match c.dds with
  | some p => ddsRegs s3 ch p
  | none => s3

def setDacBusy (s : State) (ch : Nat) (c : Option DacCmd) : State := setDacSt s ch { dacOf s ch with busy := c }

/-- The settings are written and the channel starts. -/
def dacRestart (s : State) (ch : Nat) (c : DacCmd) : State :=
  let s1 := dacProgram s ch c
  let s2 := setDacSt s1 ch { dacOf s1 ch with busy := some { c with span := none }, t0 := none }
  writeEn s2 (Reg.DAC_CTRL ch) true

/-- Every DAC channel. -/
def dacChans : List Nat := List.range 34

/-- A DAC_SET completes once none of its channels is busy. -/
def dacDone (s : State) (ring : Fin 16) (cid : BitVec 16) : State :=
  if dacChans.any (fun ch => ((dacOf s ch).busy.map (fun c => c.ring == ring && c.cid == cid)).getD false) then s
  else
    match findRun s ring cid with
    | some r => if r.op = 0x0801 then endRun s ring cid cOk 0 0 else s
    | none => s

/-- The channel has done what the command asked. -/
def dacFree (s : State) (ch : Nat) : State :=
  match (dacOf s ch).busy with
  | some c => dacDone (setDacBusy s ch none) c.ring c.cid
  | none => s

/-- DAC_CODE is output. -/
def dacOutput (s : State) (ch : Nat) : State :=
  let s1 := wr s (Reg.DAC_OUT ch) (rd s (Reg.DAC_CODE ch))
  setDacSt s1 ch { dacOf s1 ch with staged := false }

/-- A code reaches DAC_CODE: it is staged, or, on a CALOUT that is ON in DC mode, output (R261, R265). -/
def dacStage (s : State) (ch : Nat) (v : BitVec 16) : State :=
  let s1 := wr s (Reg.DAC_CODE ch) (v.zeroExtend 32)
  if ch < 32 then setDacSt s1 ch { dacOf s1 ch with staged := true }
  else if blkState s (Reg.DAC_CTRL ch) = stOn ∧ rdF s (Reg.DAC_CTRL ch) 11 10 = 0 then dacOutput s1 ch
  else s1

/-- A command starts on channel `ch`: through OFF (`off`), or by a code alone (R263, R358). -/
def dacBegin (s : State) (ch : Nat) (c : DacCmd) (off : Bool) : State :=
  let o := Reg.DAC_CTRL ch
  if blkState s o = stOff then dacRestart s ch c
  else if off then writeEn (setDacBusy (ddsCatch s ch) ch (some c)) o false
  else
    let s1 := match c.code with | some v => dacStage s ch v | none => s
    let s2 := writeEn s1 o true
    if 32 ≤ ch ∧ blkState s o = stOn then s2 else setDacBusy s2 ch (some { c with span := none })

/-- The channel enters ON (R262, R263, R265). -/
def dacOn (s : State) (ch : Nat) : State :=
  if ch < 32 then dacFree (dacOutput s ch) ch
  else
    let m := rdF s (Reg.DAC_CTRL ch) 11 10
    let s1 :=
      if m = 0 then dacOutput s ch
      else if m = 1 then wr s (Reg.DAC_OUT ch) (BitVec.ofNat 32 (rdF s (Reg.SQ_LEVELS ch) 13 0))
      else setDacSt s ch { dacOf s ch with since := dacx (now s) }
    match (dacOf s ch).busy with
    | some { dds := none, .. } => dacFree s1 ch
    | _ => s1

/-- The channel enters OFF: a command in progress writes its settings there and starts it again. -/
def dacOff (s : State) (ch : Nat) : State :=
  match (dacOf s ch).busy with
  | some c => if c.span.isSome then dacRestart s ch c else s
  | none => s

/-! DAC_SET -/

/-- VALUE[i] (R358). -/
def dacValue (values : BitVec 288) (ch : Nat) : BitVec 16 :=
  BitVec.ofNat 16 (values.toNat / 2 ^ (16 * (if ch < 32 then ch else ch - 16)))

/-- The channels that DAC_SET may name. -/
def dacNameable : List Nat := List.range 16 ++ [32, 33]

def dacNamed (channels : BitVec 64) : List Nat := dacNameable.filter channels.getLsbD

/-- The span of channel `ch` after the command. -/
def dacTarget (s : State) (span : Byte) (ch : Nat) : Nat :=
  if span = 0xFF then rdF s (Reg.DAC_CTRL ch) 9 8 else span.toNat

def dacSetOne (h : CmdHdr) (span : Byte) (values : BitVec 288) (s : State) (ch : Nat) : State :=
  let sp := dacTarget s span ch
  let v := dacValue values ch
  let code : BitVec 16 := if cflag h 0 then BitVec.ofNat 16 (mvCode ch sp v.toInt) else v
  let c : DacCmd := { ring := h.ring, cid := h.cid, span := some (BitVec.ofNat 2 sp), code := some code, dds := none }
  let o := Reg.DAC_CTRL ch
  dacBegin s ch c (rdF s o 9 8 != sp || (decide (32 ≤ ch) && rdF s o 11 10 != 0))

/-- The effect of DAC_SET: with several channels it ends with FREEZE clear, so that they change in one tick (R261, R358). -/
def dacSetBody (h : CmdHdr) (channels : BitVec 64) (span : Byte) (values : BitVec 288) (s : State) : State :=
  let l := dacNamed channels
  let s1 := l.foldl (dacSetOne h span values) (keepRunning s h 0x0801 0 0)
  let s2 := if 2 ≤ (l.filter (· < 32)).length then wrF s1 Reg.DAC_GLOBAL 0 0 0 else s1
  dacDone s2 h.ring h.cid

def dacIdle (s : State) (l : List Nat) : Bool := l.all (fun ch => (dacOf s ch).busy.isNone)

/-- What R345 checks of DAC_SET. -/
def dacSetChecks (h : CmdHdr) (channels : BitVec 64) (span : Byte) (values : BitVec 288) (s : State) : Checks :=
  let cal := channels.getLsbD 32 || channels.getLsbD 33
  { op := 0x0801
    fields := [cflagsOk h 1, (8, channels &&& ~~~0x30000FFFF == 0),
      (16, span == 0xFF || decide (span.toNat ≤ if cal then 1 else 3)),
      (20, dacNameable.all (fun ch =>
        if channels.getLsbD ch then decide (ch < 32) || cflag h 0 || decide ((dacValue values ch).toNat < 16384)
        else dacValue values ch == 0))]
    blocks := [0x6], ready := dacIdle s (dacNamed channels) }

/-- DAC_SET (R258-R263, R265, R358). -/
def execDacSet (h : CmdHdr) (channels : BitVec 64) (span : Byte) (values : BitVec 288) (s : State) :
    Host.Outcome State Fault Refusal :=
  .next (startCmd h (dacSetChecks h channels span values s)
    none (dacSetBody h channels span values) s)

/-! DDS_SET -/

/-- A time rounded up to a whole TBASE cycle (R266). -/
def tbaseCeil (t : Time) : Time := (t + 10239) / 10240 * 10240

/-- Whether DDS_SET writes a running SINE channel without passing through OFF (R358). -/
def ddsLive (s : State) (p : DdsParams) : Bool :=
  let o := Reg.DAC_CTRL p.ch.toNat
  blkState s o == stOn && rdF s o 11 10 == 2 && p.mode == 2 && rdF s o 9 8 == p.span.toNat

def ddsSetBody (h : CmdHdr) (p : DdsParams) (s : State) : State :=
  let ch := p.ch.toNat
  let soon := now s + nsT 2000
  if p.start = 1 ∧ wordTime p.t0 < soon then refuse s h 0x0802 cField 40
  else
    let t0 := tbaseCeil (if p.start = 1 then wordTime p.t0 else soon)
    let c : DacCmd := { ring := h.ring, cid := h.cid, span := some (BitVec.ofNat 2 p.span.toNat), code := none, dds := some p,
                        t0 := t0, reset := cflag h 0 }
    let s1 := keepRunning s h 0x0802 ch 0
    if ddsLive s p then setDacBusy (ddsRegs s1 ch p) ch (some { c with span := none }) else dacBegin s1 ch c true

/-- What R345 checks of DDS_SET. -/
def ddsSetChecks (h : CmdHdr) (p : DdsParams) (s : State) : Checks :=
  let sine := p.mode == 2
  let len (l : BitVec 32) : Bool := sine || (decide (1 ≤ l.toNat) && decide (l.toNat ≤ 2 ^ 24))
  { op := 0x0802
    fields := [cflagsOk h 1, (8, p.ch == 32 || p.ch == 33), (9, p.mode == 1 || sine), (10, decide (p.span.toNat ≤ 1)),
      (11, decide (p.start.toNat ≤ 1)), (16, !sine || decide (p.ftw.toNat ≤ 0x666666666666)),
      (26, !sine || decide (p.ofs.toNat < 16384)), (28, sine || decide (p.hi.toNat < 16384)),
      (30, sine || decide (p.lo.toNat < 16384)), (32, len p.hiLen), (36, len p.loLen), (40, p.start == 1 || p.t0 == 0)]
    blocks := [0x6], ready := dacIdle s [p.ch.toNat] }

/-- DDS_SET (R266-R268, R358). -/
def execDdsSet (h : CmdHdr) (p : DdsParams) (s : State) : Host.Outcome State Fault Refusal :=
  .next (startCmd h (ddsSetChecks h p s)
    none (ddsSetBody h p) s)

/-- T0 of channel `ch` is reached: its output starts there, and DDS_SET completes (R266-R268). -/
def ddsT0 (s : State) (ch : Nat) : State :=
  match (dacOf s ch).busy with
  | some c =>
    if c.dds.isSome ∧ c.span.isNone then
      let cyc := dacx c.t0
      let x := dacOf s ch
      let x1 : DacSt := { x with t0 := some c.t0, busy := none }
      let s1 := setDacSt s ch (if c.reset then { x1 with acc := 0, since := cyc } else x1)
      let s2 :=
        if rdF s1 (Reg.DAC_CTRL ch) 11 10 = 1 then wr s1 (Reg.DAC_OUT ch) (BitVec.ofNat 32 (rdF s1 (Reg.SQ_LEVELS ch) 29 16))
        else ddsCycles (wr s1 (Reg.DAC_OUT ch) (BitVec.ofNat 32 (ddsOut s1 ch cyc))) ch cyc 1
      endRunTime s2 c.ring c.cid cOk c.t0
    else s
  | none => s

/-- DDS_T0 (R266). -/
def execDdsT0 (ch : Fin 2) (s : State) : Host.Outcome State Fault Refusal := .next (ddsT0 s (32 + ch))

/-! The precision channels -/

/-- The update tick of one channel (R261). -/
def dacTickOne (s : State) (ch : Nat) : State :=
  if (dacOf s ch).staged && blkState s (Reg.DAC_CTRL ch) == stOn then dacFree (dacOutput s ch) ch else s

/-- The update tick (R261). -/
def dacTick (s : State) : State := if (rd s Reg.DAC_GLOBAL).getLsbD 0 then s else (List.range 32).foldl dacTickOne s

/-- DAC_UPDATE_TICK (R261). -/
def execDacUpdateTick (s : State) : Host.Outcome State Fault Refusal := .next (dacTick s)

/-- THR_CURRENT_LIMIT (R264): the driver of a THR ball is on in ON alone. -/
def thrLimit (ch : Nat) (s : State) : State :=
  if blkState s (Reg.DAC_CTRL ch) = stOn then raiseErr s (Reg.DAC_STATUS ch) 0 2 0x0480 ch else s

def execThrCurrentLimit (ch : Fin 16) (s : State) : Host.Outcome State Fault Refusal := .next (thrLimit ch s)

/-! Register writes -/

/-- A write of DDS_FTW_LO is held; one of DDS_FTW_HI makes the two halves the tuning word (R268). -/
def ddsFtwWrite (ch : Nat) (hi : Bool) (v : Word) (s : State) : State :=
  if hi then
    let x := dacOf s ch
    let lo := x.heldLo.getD (rd s (Reg.DDS_FTW_LO ch))
    let s1 := wr (wr s (Reg.DDS_FTW_LO ch) lo) (Reg.DDS_FTW_HI ch) (v &&& 0xFFFF)
    let s2 := setDacSt s1 ch { x with heldLo := none }
    ddsTune s2 ch (BitVec.ofNat 48 ((v.toNat % 65536) * 2 ^ 32 + lo.toNat))
  else setDacSt s ch { dacOf s ch with heldLo := some v }

end Sys2Proof.Machine
end

