-- ==== Sys2Proof/Machine/Deal.lean ====
section
/-!
DEFINITION. What happens at the deal-period boundary and between boundaries (R67-R74, R77-R81, R120, R157): promotions, realignment,
reloads, thermal stages, shedding and re-deals.
-/

namespace Sys2Proof.Machine

/-- The first sample of the sample group that the hands evaluate in the fclk that begins now: its block was accepted 88 fclk earlier, a
fixed path after its grid time (R63, R148, R151); never a sample that a row has taken (notes/assumptions/25.md). -/
def nextGroup (s : State) : Sample :=
  max (takenBy s) ((groupsBy s 88 - 1) * groupLen s)

/-! Deal numbers (R49, R73) -/

def dealNum (s : State) (r : Nat) : Nat := tabGet 0 s.deck.num r

/-- The number that most guards hold. -/
def majority (l : List Nat) : Nat :=
  l.foldl (fun a x => if (l.filter (· == a)).length < (l.filter (· == x)).length then x else a) (l.headD 0)

/-- Every position of quad `q` becomes void (R24, R73). -/
def quadToVoid (s : State) (q : Nat) : State := (List.range 16).foldl (fun s i => setPosVoid s (16 * q + i) true) s

/-- Guard `r` realigns (R73): its region's accesses are blocked for the period; three times within 1 s quarantine a quad, and make SPINE
reload. -/
def realignRegion (s : State) (r : Nat) : State :=
  let l := noteTime s second (tabGet [] s.deck.realigns r)
  let s1 := raiseErr (s.modDeck (fun d => { d with blocked := insertNat d.blocked r, realigns := tabPut [] d.realigns r l }))
    (Reg.GUARD_STATUS r) 2 2 0x0480 r
  if l.length < 3 then s1
  else if r < 4 then
    quadToVoid (logError (s1.modDeck (fun d => { d with quarRegions := insertNat d.quarRegions r })) (Reg.GUARD_STATUS r) 2 3 0x0480 r) r
  else s1.modDeck (fun d => { d with spineReload := true })

/-- The numbers move on and are compared; a guard that was blocked takes the majority number, and one of `skew` has failed to count
(R73). -/
def realign (skew : BitVec 5) (s : State) : State :=
  let next := (List.range 5).map (fun r => if skew.getLsbD r then dealNum s r else dealNum s r + 1)
  let m := majority next
  let nums := (List.range 5).map (fun r => if s.deck.blocked.contains r then m else (next.drop r).headD m)
  let s1 := s.modDeck (fun d => { d with
    cycle := 0, blocked := []
    num := (List.range 5).foldl (fun t r => tabPut 0 t r ((nums.drop r).headD m)) d.num })
  ((List.range 5).filter (fun r => (nums.drop r).headD m != m)).foldl realignRegion s1

/-! Thermal stages (R80, R81) -/

/-- The reading of a sensor in eighths of a degree: 0 the die, 1 + n stack n. -/
def tempOf (s : State) (k : Nat) : Int := (tabGet 0 s.deck.temps k).toInt

/-- Whether some sensor that counts for stage `k` reads above `t` eighths of a degree less than the stage's threshold (Table 3-14). -/
def stageHeld (s : State) (k : Nat) (t : Int) : Bool :=
  let anyStack (c : Int) : Bool := (List.range 4).any (fun n => decide (8 * c - t < tempOf s (n + 1)))
  let die (c : Int) : Bool := decide (8 * c - t < tempOf s 0)
  if k = 1 then anyStack 85 else if k = 2 then anyStack 95 || die 110 else anyStack 100 || die 118

/-- The stage that the readings call for: one whose threshold a sensor has reached, or one that runs and that not every sensor is 5 °C
below. -/
def stageFor (s : State) : Nat :=
  let keeps (k : Nat) : Bool := stageHeld s k 1 || (decide (k ≤ s.deck.stageNext) && stageHeld s k 40)
  if keeps 3 then 3 else if keeps 2 then 2 else if keeps 1 then 1 else 0

/-- THERMAL_SENSOR_CROSSING (R80): the new stage waits for the next boundary. A stack that reaches 85 °C is logged (Table 3-13). -/
def thermalCrossing (stack : Option (Fin 4)) (temp : BitVec 16) (s : State) : State :=
  let k := match stack with | none => 0 | some n => n.val + 1
  let s1 := s.modDeck (fun d => { d with temps := tabPut 0 d.temps k temp })
  let s2 := s1.modDeck (fun d => { d with stageNext := stageFor s1 })
  match stack with
  | none => s2
  | some n =>
    if tempOf s k < 680 ∧ 680 ≤ temp.toInt then raiseErr s2 (Reg.HBM_STATUS n) 8 0 0x0480 n else s2

def execThermalSensorCrossing (stack : Option (Fin 4)) (temp : BitVec 16) (s : State) : Host.Outcome State Fault Refusal :=
  .next (thermalCrossing stack temp s)

/-- Whether every pseudo-channel has at most 35% of its entries scheduled once the entries of owners `idle` are idle (R81). -/
def within35 (d : DeckImage) (idle : List Nat) : Bool :=
  (List.range 128).all (fun pc =>
    let es := slotPort d 4 4 pc
    decide (100 * (es.filter (fun w => slotV w && !idle.contains (slotOwner w))).length ≤ 35 * es.length))

/-- The owners whose HBM entries become idle when the groups `gs` are shed: those that serve no other group. -/
def shedOwners (d : DeckImage) (gs : List Nat) : List Nat :=
  let others := ((dkGroups d).filter (fun g => !gs.contains g)).flatMap (grpOwners d)
  (gs.flatMap (grpOwners d)).filter (fun o => !others.contains o)

/-- The groups shed, `done` and then those that follow in order, descending rank and descending number within a rank, until the limit
holds (R81). -/
def shedList (d : DeckImage) : List Nat → List Nat → List Nat
  | done, [] => done
  | done, g :: t => if within35 d (shedOwners d done) then done else shedList d (done ++ [g]) t

/-- Shedding at the entry to stage 3 (R81): of the groups that store or wait to; those that are idle or stopped store nothing. -/
def shed (s : State) (d : DeckImage) : State :=
  let sb := nextGroup s
  let s0 := settleAll s d (dkGroups d) sb
  let order := (sortBy (fun g => gShedRank d g * 16 + g) ((dkGroups d).filter (fun g => !groupDone s0 g))).reverse
  ((shedList d s0.deck.shed order).filter order.contains).foldl (fun s g =>
    let s1 := finishClose s d g
    (if (grpOf s1 g).st = .stoppedOvf then s1
      else raiseErr (stopOvf s1 d g 0xFF 3 sb) (Reg.GUARD_STATUS 4) 4 2 0x0480 g).modDeck
      (fun k => { k with shed := insertNat k.shed g })) s0

/-- A thermal stage takes effect (R80). Stage 3 is class D; from stage 2 on patrol is suspended (R426). -/
def applyStage (s : State) (d : DeckImage) : State :=
  let n := s.deck.stageNext
  if n = s.deck.stage then s
  else
    let s1 := wrF (s.modDeck (fun k => { k with stage := n })) (Reg.GUARD_THERM 4) 1 0 n
    let s2 := if n = 3 then raiseErr s1 (Reg.GUARD_STATUS 4) 3 2 0x0480 0 else raiseBit s1 (Reg.GUARD_STATUS 4) 3
    let s3 := if 2 ≤ n ∧ s.deck.stage < 2 ∧ (rd s Reg.SHEP_CTRL).getLsbD 0 = true then suspendPatrol s2 else s2
    if n = 3 then shed s3 d else s3

/-! Re-deal (R77, R78, R465) -/

/-- Equal bytes of two decks. -/
def sameBytes (a b : DeckImage) (oa ob n : Nat) : Bool := memRead a.bytes oa n == memRead b.bytes ob n

/-- `n` bytes at offset `o` of a chip-wide section that both decks have alike. -/
def sameSec (a b : DeckImage) (t o n : Nat) : Bool :=
  match secChip a t, secChip b t with
  | some x, some y => sameBytes a b (x + o) (y + o) n
  | none, none => true
  | _, _ => false

/-- The slot entries of kind `kind` in region `r` that either deck gives to one of `owners` are alike. -/
def sameSlots (a b : DeckImage) (owners : List Nat) (kind r : Nat) : Bool :=
  let mine (w : Nat) : Bool := slotV w && owners.contains (slotOwner w)
  (List.range (max (slotPorts a kind r) (slotPorts b kind r))).all (fun p =>
    let x := slotPort a kind r p
    let y := slotPort b kind r p
    (List.range (max x.length y.length)).all (fun e =>
      let v := (x.drop e).headD 0
      let w := (y.drop e).headD 0
      v == w || (!mine v && !mine w)))

/-- The units of a running playback and of the checkers that run (R78): their decompression engines, transmit positions, the span engines
of their PATTERN_EXPAND and MASK_COMPARE steps, and the receive positions that those read. -/
def playOwners (s : State) (a : DeckImage) : List Nat :=
  (if playing s then
      ((List.range 32).filter (fun e => pbRole a e == 1)).flatMap (fun e => [0x140 + e, 0x1C0 + pbTarget a e]) ++
        (instsOf a 8).map Prod.fst else []) ++
    ((List.range 32).filter (fun n =>
        match (checkerOf s n).st with | .waitSync | .check => true | _ => false)).flatMap (fun n =>
      let is := (List.range (mcNinst a n)).map (mcInst a n)
      [0x1E0 + n] ++ is.map Prod.fst ++ (is.flatMap (instPositions a)).map (0x180 + ·) ++
        ((List.range 32).filter (fun e => pbRole a e == 2 && pbTarget a e == n)).map (0x140 + ·))

/-- The first of these sections in the image of `b`; one that `b` lacks comes last (R465). -/
def firstSection (b : DeckImage) (l : List (Nat × Nat)) : Option (Nat × Nat) :=
  (sortBy (fun p => (secOfs b p.1 p.2).getD (2 ^ 32)) l).head?

/-- The first entry that differs, in image order of the new deck: section type and region (R465). -/
def redealConflict (s : State) (a b : DeckImage) (groups : BitVec 16) : Option (Nat × Nat) :=
  let gs := (dkGroups a).filter (fun g => !nbit groups.toNat g)
  let owners := gs.flatMap (grpOwners a) ++ playOwners s a
  let engines := (gs.flatMap (grpEngines a)).eraseDups
  let folds := gs.flatMap (gFolds a)
  let slotsOk (t r : Nat) : Option (Nat × Nat) :=
    if (List.range 10).all (fun k => k = 6 || kindSec k != t || sameSlots a b owners k r) then none else some (t, r)
  let chk (ok : Bool) (t : Nat) : Option (Nat × Nat) := if ok then none else some (t, 0xF)
  let l : List (Option (Nat × Nat)) :=
    [chk (engines.all (fun l => sameSec a b 1 (128 * l) 128) &&
       (gs.flatMap (grpBuses a)).all (fun i => sameSec a b 1 (0x8000 + 64 * i) 64)) 1,
     chk (engines.all (fun l => sameSec a b 2 (2 * l) 2)) 2] ++
    (List.range 5).map (slotsOk 3) ++ (List.range 5).map (slotsOk 4) ++ [slotsOk 5 4, slotsOk 6 4,
     chk ((gs.flatMap (grpRecs a)).all (fun r => sameSec a b 7 (recOfs r) (recSize r))) 7,
     chk ((gs.flatMap (grpHands a)).all (fun h => sameSec a b 8 (0x440 * h) 0x440) &&
       gs.all (fun g => sameSec a b 8 (0x8800 + 4 * g) 4)) 8,
     chk (gs.all (fun g => sameSec a b 9 (64 * g) 64) &&
       folds.all (fun f => sameSec a b 9 (0x400 + 64 * f) 64 &&
         (List.range (fExtCnt a f)).map (fExtent a f) == (List.range (fExtCnt b f)).map (fExtent b f))) 9,
     chk (folds.all (fun f => sameSec a b 0xA (16 * f) 16 && fInsts a f == fInsts b f)) 0xA,
     chk ((gs.flatMap (grpCompEngines a)).all (fun e => sameSec a b 0xB (16 * e) 16)) 0xB,
     chk (folds.all (fun f =>
       (latEntries a).filter (fun x => x.1 == 1 && x.2.1 == f) == (latEntries b).filter (fun x => x.1 == 1 && x.2.1 == f))) 0xE]
  if dkPeriod a = dkPeriod b ∧ dkMode a = dkMode b ∧ dkRegions a = dkRegions b then firstSection b (l.filterMap id) else some (0, 0)

def deckRedealBody (h : CmdHdr) (slot : Byte) (groups : BitVec 16) (s : State) : State :=
  let n := slot.toNat
  match actDeck s, slotDeck s n with
  | some a, some b =>
    if slotActive s n then refuse s h 0x0204 cBusy busyState
    else
      match redealConflict s a b groups with
      | some (t, r) => refuse s h 0x0204 cDeckInvalid (failWord (0x16, t, r))
      | none =>
        let w : RedealSt := { ring := h.ring, cid := h.cid, slot := n, groups := groups, waiting := [] }
        (keepRunning s h 0x0204 n 0).modDeck (fun k => { k with redeal := some w })
  | _, _ => refuse s h 0x0204 cState 0

/-- What R345 checks of DECK_REDEAL. -/
def deckRedealChecks (h : CmdHdr) (slot : Byte) (groups : BitVec 16) (timeout : BitVec 32) (s : State) : Checks :=
  { op := 0x0204
    fields := [cflagsOk h 0, (8, decide (slot.toNat < 16)), (10, groups != 0),
      (12, decide (1 ≤ timeout.toNat) && decide (timeout.toNat ≤ 100000))]
    dagger := true, deck := true, blocks := deckBlocks s slot.toNat
    held := (holderObj s [0x0201, 0x0202] slot.toNat).or (holderOp s [0x0203, 0x0204, 0x0301, 0x0302, 0x0303, 0x0304]) }

/-- DECK_REDEAL (R77, R78): it waits for its boundary. -/
def execDeckRedeal (h : CmdHdr) (slot : Byte) (groups : BitVec 16) (timeout : BitVec 32) (s : State) :
    Host.Outcome State Fault Refusal :=
  .next (startCmd h (deckRedealChecks h slot groups timeout s)
    (some (.deckRedeal h slot groups timeout)) (deckRedealBody h slot groups) s)

/-- The named groups that wait re-arm in deal cycle 0 of the new deck (R78). -/
def rearmWaiting (d : DeckImage) (ws : List (Nat × Sample)) (sb : Sample) (s : State) : State :=
  ws.foldl (fun s w => openSegment s d w.1 (grpOf s w.1).closed (max w.2 (roundUp sb (groupLen s)))) s

/-- The new deck takes effect (R77). The result word is the longest wait of a group past its s_r, in fclk. -/
def applyRedeal (s : State) (r : RedealSt) (b : DeckImage) (sb : Sample) : State :=
  let wait := (r.waiting.map (fun w => (max w.2 sb - w.2) / groupLen s)).foldl max 0
  let s0 := (maskGroups r.groups).foldl (fun s g => finishClose s ((actDeck s).getD b) g) s
  let s1 := s0.modDeck (fun k => { k with
    active := some (r.slot, b), redeal := none, quarUnits := []
    shed := k.shed.filter (fun g => !(maskGroups r.groups).contains g) })
  let s2 := (maskGroups r.groups).foldl (fun s g => setGrp s g { grpOf s g with post := if gV b g then gPost b g else 0 }) s1
  let s3 := rearmWaiting b r.waiting sb (dealEngines b (dealIds b s2))
  endRun (logDeck s3 b (dealNum s3 4) 1) r.ring r.cid cOk wait (dealNum s3 4)

/-- Whether group `g` lets a re-deal take effect (R77). -/
def redealReady (s : State) (g : Nat) : Bool := groupDone s g || (grpOf s g).st == .holdoff

/-- A re-deal that waits takes effect at the first boundary at which every named group lets it. -/
def redealStep (s : State) (d : DeckImage) : State :=
  match s.deck.redeal with
  | none => s
  | some r =>
    let sb := nextGroup s
    let s1 := settleAll s d (maskGroups r.groups) sb
    match s1.deck.redeal, slotDeck s1 r.slot with
    | some r1, some b => if (maskGroups r.groups).all (redealReady s1) then applyRedeal s1 r1 b sb else s1
    | _, _ => s1

/-- DECK_REDEAL_TIMEOUT (R77): the active deck stays, and groups that waited re-arm now. -/
def execDeckRedealTimeout (s : State) : Host.Outcome State Fault Refusal :=
  match s.deck.redeal, actDeck s with
  | some r, some d =>
    let s1 := s.modDeck (fun k => { k with redeal := none })
    .next (endRun (rearmWaiting d r.waiting (nextGroup s) s1) r.ring r.cid cTimeout 0 0)
  | _, _ => .next s

/-! The boundary -/

/-- A region quarantines block `b`, whose own control has failed (R24), class S: of a receive group, a recognizer block or a scratch block
of a quad the quad's channels become void; of an engine block or a compression block its engines are quarantined. -/
def quarantineBlock (s : State) (b : Nat) : State :=
  let q := if b < 4 then b else if b < 20 then (b - 4) / 4 else if b < 24 then b - 20 else if b < 28 then b - 24 else b - 28
  if s.deck.quarBlocks.contains b then s
  else
    let s1 := logError (s.modDeck (fun d => { d with quarBlocks := insertNat d.quarBlocks b }))
      (if q < 4 then Reg.QUAD_STATUS q else Reg.GUARD_STATUS 4) 3 3 0x0480 b
    if 4 ≤ b ∧ b < 20 then
      s1.modDeck (fun d => { d with quarEngines := (List.range 17).foldl (fun l n => insertNat l (17 * (b - 4) + n)) d.quarEngines })
    else if 20 ≤ b ∧ b < 24 then
      s1.modDeck (fun d => { d with quarUnits := (List.range 16).foldl (fun l n => insertNat l (0x100 + 16 * q + n)) d.quarUnits })
    else if q < 4 then quadToVoid s1 q else s1

/-- What is stored so far is stored before a guard begins or ends to block (R73). -/
def storeSoFar (s : State) (d : DeckImage) (skew : BitVec 5) : State :=
  if s.deck.blocked.isEmpty && skew == 0 then s else settleAll s d (dkGroups d) (nextGroup s)

/-- The errors that span engine memories have reported in the period that ends (R425). -/
def engineErrors (u : BoundaryUpset) (s : State) : State :=
  u.ue.foldl (fun s e => engineUe s e.val) (u.ce.foldl (fun s e => engineCe s e.val) s)

/-- The deal-period boundary (R24, R69, R70, R73, R77, R80, R81, R120, R157, R425). -/
def dealBoundary (u : BoundaryUpset) (s : State) : State :=
  match actDeck s with
  | none => s
  | some d =>
    let s0 := u.failed.foldl (fun s b => quarantineBlock s b.val) (engineErrors u (storeSoFar s d u.skew))
    let s1 := (realign u.skew s0).modDeck (fun k => { k with ctxBad := u.badCtx.foldl (fun l i => insertNat l i.val) k.ctxBad })
    let s2 := promoteStep (s1.modDeck (fun k => { k with viol := [] }))
    let s3 := handsReload d (slicesReload s2)
    let s4 := if s.deck.spineReload then
        logError (s3.modDeck (fun k => { k with spineReload := false })) (Reg.GUARD_STATUS 4) 2 2 0x0480 4 else s3
    redealStep (applyStage s4 d) d

def execDealBoundary (s : State) (u : BoundaryUpset := {}) : Host.Outcome State Fault Refusal := .next (dealBoundary u s)

/-! The schedule guard (R71, R72) -/

/-- The entry of a port that deal cycle `c` falls in (Table 3-1). Of the eight fclk of a group the model gives its three HBM slots cycles
0-2, 3-5 and 6-7: the spec gives the group and the order only (DESIGN CHOICE, notes/assumptions/22.md). -/
def entryAt (kind c : Nat) : Nat := if kind = 4 then 3 * (c / 8) + c % 8 * 3 / 8 else if kind = 6 then c % 64 else c

/-- The region that guards a resource kind (Table 3-1). -/
def guardedIn (kind r : Nat) : Bool :=
  if kind = 0 ∨ kind = 2 ∨ kind = 6 ∨ kind = 7 then decide (r < 4) else decide (kind < 10) && r == 4

/-- The entry as it stands now: the HBM entries of a shed group are idle (R81). -/
def slotNow (s : State) (d : DeckImage) (kind r port e : Nat) : Nat :=
  let w := slotWord d kind r port e
  if kind = 4 ∧ s.deck.shed ≠ [] ∧ (shedOwners d s.deck.shed).contains (slotOwner w) = true then 0 else w

/-- What a blocked access does to what it belonged to (R72): a write is discarded and its item flagged, a queue's line is cut; a read gives
the owner zeros flagged void. -/
def blockAccess (s : State) (kind port owner op : Nat) (item : BlockedItem) : State :=
  let s1 := if item = .none then s else s.modDeck (fun k => { k with blockedItems := item :: k.blockedItems })
  if op = 1 ∧ kind = 9 then setEqSt s1 port { eqOf s1 port with cut := true }
  else if op ≠ 1 ∧ owner < 0x100 then
    s1.modDeck (fun k => { k with ctxBad := (List.range 4).foldl (fun l n => insertNat l (4 * owner + n)) k.ctxBad })
  else s1

/-- The unit that presented too many accesses is failing (R72). -/
def failUnit (s : State) (d : DeckImage) (owner : Nat) : State :=
  if owner < 0x100 then declareFailing s (liveEng s d owner) else quarantineUnit s owner

/-- The blocked access is recorded and counted, and what it wrote is flagged (R72, R74). An access in its slot is blocked while its region's
guard is misaligned, and is no violation of its unit (R73). -/
def guardViolation (r kind port owner op cycle : Nat) (item : BlockedItem) (s : State) (d : DeckImage) : State :=
  let e := slotNow s d kind r port (entryAt kind cycle)
  if !guardedIn kind r || decide (kindPorts kind ≤ port) then s
  else if slotV e && slotOwner e == owner && slotOp e == op then
    (if s.deck.blocked.contains r then blockAccess (incCnt s (Reg.GUARD_VIOL_CNT r) 1) kind port owner op item else s)
  else
    let o := Reg.GUARD_STATUS r
    let first := !flagSet s o 0
    let s1 := incCnt (raiseErr s o 0 2 (unitSrc s owner) owner) (Reg.GUARD_VIOL_CNT r) 1
    let s2 :=
      if first then
        wr (wr s1 (Reg.GUARD_FIRST_LO r) (BitVec.ofNat 32 (cycle * 65536 + kind * 4096 + owner))) (Reg.GUARD_FIRST_HI r)
          (BitVec.ofNat 32 ((if slotV e then slotOwner e else 0xFFF) * 65536 + port))
      else raiseBit s1 o 1
    let s3 := blockAccess s2 kind port owner op item
    let key := r * 4096 + owner
    let n := tabGet 0 s.deck.viol key + 1
    let l := noteTime s second (tabGet [] s.deck.violSec key)
    let s4 := s3.modDeck (fun k => { k with viol := tabPut 0 k.viol key n, violSec := tabPut [] k.violSec key l })
    if rdF s (Reg.GUARD_CTRL r) 15 8 ≤ n ∨ rdF s (Reg.GUARD_CTRL r) 7 0 ≤ l.length then failUnit s4 d owner else s4

/-- GUARD_VIOLATION (R71, R72). -/
def execGuardViolation (region : Fin 5) (kind : BitVec 4) (port : BitVec 16) (owner : BitVec 12) (op : BitVec 3) (cycle : BitVec 16)
    (item : BlockedItem) (s : State) : Host.Outcome State Fault Refusal :=
  match actDeck s with
  | none => .next s
  | some d => .next (guardViolation region kind.toNat port.toNat owner.toNat op.toNat cycle.toNat item s d)

end Sys2Proof.Machine
end

