-- ==== Sys2Proof/Machine/Device.lean ====
section
/-!
DEFINITION. The device commands IDENTIFY and GET_LOG (R348, R349) and the layouts of log entries (R366, R435).
-/

namespace Sys2Proof.Machine

/-- An event-log entry (Table 15-16). -/
def logBytes (e : LogEntry) : List Byte :=
  (leBytes 12 (timeWord e.time e.src) ++ leBytes 4 0 ++ leBytes 8 e.seq ++ leBytes 2 e.event ++ leBytes 1 e.cls ++
    leBytes 1 0 ++ leBytes 4 e.unit ++ e.data ++ List.replicate 32 0).take 64

/-- A wear entry (R435). -/
def wearBytes (e : WearEntry) : List Byte :=
  leBytes 8 e.seq ++ leBytes 12 (timeWord e.time 0x0480) ++ leBytes 1 e.kind ++ leBytes 3 0 ++ leBytes 4 e.unit ++
    leBytes 4 e.value

/-- Resume-context slots that keep no stream. -/
def freeContexts (s : State) : Nat :=
  ((List.range 256).filter (fun i => (tabGet ({} : CtxSlot) s.comp.ctx i).stream.isNone)).length

/-- The version of the running image: 0 in recovery (R421). -/
def fwVer (s : State) : Nat := if s.shep.recovery then 0 else s.shep.image.toNat

/-- Table 15-5; `ctx` is the CONTEXTS byte. -/
def identifyData (s : State) (ctx : Nat) : List Byte :=
  leBytes 4 0x00030002 ++ leBytes 4 0xB1 ++ leBytes 1 (rdF s Reg.CHIP_ID 3 0) ++ leBytes 1 s.sec.life ++ leBytes 2 0 ++
    leBytes 4 (fwVer s) ++ leBytes 16 s.sec.serial.toNat ++ leBytes 4 s.sec.licences.toNat ++ leBytes 2 1024 ++
    leBytes 1 16 ++ leBytes 1 ctx ++ List.replicate 216 0

/-- IDENTIFY (R348). CONTEXTS is one byte wide in Table 15-5 and counts to 256: the byte that stands for 256 is a free value
(notes/assumptions/16.md). -/
def identifyBody (h : CmdHdr) (dest : BitVec 64) (s : State) : State :=
  let n := freeContexts s
  let p := if n < 256 then deliver s dest (identifyData s n)
    else deliver (useFree s) dest (identifyData s (freeVal 8 s).toNat)
  finish p.1 h 0x0101 (if p.2 then cBufferFull else cOk) 0x00030002 0

/-- What R345 checks of IDENTIFY. -/
def identifyChecks (h : CmdHdr) (dest : BitVec 64) (s : State) : Checks :=
  { op := 0x0101, fields := [cflagsOk h 0, (8, bufOk s dest)] }

def execIdentify (h : CmdHdr) (dest : BitVec 64) (s : State) : Host.Outcome State Fault Refusal :=
  .next (startCmd h (identifyChecks h dest s) none (identifyBody h dest) s)

/-- The entries of a log from `fromSeq` on, ascending, at most `max`; the log is newest first (R349). -/
def logSlice {α : Type} (seq : α → Nat) (l : List α) (fromSeq max : Nat) : List α :=
  ((l.filter (fun e => decide (fromSeq ≤ seq e))).reverse).take max

/-- The entries of GET_LOG are delivered (R349). -/
def getLogGo (h : CmdHdr) (log : Byte) (max : BitVec 32) (fromSeq dest : BitVec 64) (s : State) : State :=
  let size := if log = 0 then 64 else 32
  let es :=
    if log = 0 then (logSlice LogEntry.seq s.log.entries fromSeq.toNat max.toNat).map logBytes
    else (logSlice WearEntry.seq s.shep.wear fromSeq.toNat max.toNat).map wearBytes
  let n := min es.length (segsLen (bufList s dest) / size)
  let next := if log = 0 then s.log.next else s.shep.wearNext
  let s1 := drove (deliver s dest (es.take n).flatten).1 (size * n)
  finish s1 h 0x0102 (if n < es.length then cBufferFull else cOk) n next

/-- GET_LOG (R332, R349). -/
def getLogBody (h : CmdHdr) (log : Byte) (max : BitVec 32) (fromSeq dest : BitVec 64) (s : State) : State :=
  carry h 0x0102 0 (.getLog h log max fromSeq dest) (getLogGo h log max fromSeq dest) s

/-- What R345 checks of GET_LOG. -/
def getLogChecks (h : CmdHdr) (log : Byte) (max : BitVec 32) (dest : BitVec 64) (s : State) : Checks :=
  { op := 0x0102
    fields := [cflagsOk h 0, (8, decide (log.toNat ≤ 1)), (12, decide (1 ≤ max.toNat) && decide (max.toNat ≤ 2 ^ 20)),
      (24, bufOk s dest)] }

def execGetLog (h : CmdHdr) (log : Byte) (max : BitVec 32) (fromSeq dest : BitVec 64) (s : State) :
    Host.Outcome State Fault Refusal :=
  .next (startCmd h (getLogChecks h log max dest s)
    none (getLogBody h log max fromSeq dest) s)

end Sys2Proof.Machine
end

