-- ==== Sys2Proof/Machine/Flock.lean ====
section
/-!
DEFINITION. The flock table (R121-R133, R360): placement, removal, lookups by command and by the kernels, the stash and the
backup.
-/

namespace Sys2Proof.Machine

/-- The four sub-tables and the stash of one copy of the table. -/
structure FlockTab where
  main : Tab FlockEntry
  stash : Tab FlockEntry
deriving DecidableEq, Repr

/-- Hash function `i` of a key (R123). -/
def flockHash (i : Nat) (key : BitVec 96) : Nat := (crc32c (leBytes 1 i ++ leBytes 12 key.toNat)).toNat % 16384

/-- The number of entry `w` of the candidate bucket of `key` in sub-table `i` (R121, R360). -/
def flockLoc (key : BitVec 96) (i w : Nat) : Nat := i * 131072 + flockHash i key * 8 + w

/-- V of Table 5-4. -/
def entryV (e : FlockEntry) : Bool := e.action.getLsbD 31

/-- V is cleared (R124, R130); the other bits stay. -/
def entryClear (e : FlockEntry) : FlockEntry := { e with action := e.action &&& 0x7FFFFFFF }

def mainAt (t : FlockTab) (n : Nat) : FlockEntry := tabGet {} t.main n
def stashAt (t : FlockTab) (n : Nat) : FlockEntry := tabGet {} t.stash n
def setMain (t : FlockTab) (n : Nat) (e : FlockEntry) : FlockTab := { t with main := tabPut {} t.main n e }
def setStash (t : FlockTab) (n : Nat) (e : FlockEntry) : FlockTab := { t with stash := tabPut {} t.stash n e }

/-- The first empty way of the candidate bucket of `key` in sub-table `i`. -/
def emptyWay (t : FlockTab) (key : BitVec 96) (i : Nat) : Option Nat :=
  ((List.range 8).map (flockLoc key i)).find? (fun n => !entryV (mainAt t n))

/-- The first empty way of a key's candidate buckets, in the order of these sub-tables. -/
def emptyIn (t : FlockTab) (key : BitVec 96) (subs : List Nat) : Option Nat := subs.findSome? (emptyWay t key)

/-- Where the key stands: whether in the stash, and its number (R123, R125). -/
def flockFind (t : FlockTab) (key : BitVec 96) : Option (Bool × Nat) :=
  let holds (e : FlockEntry) : Bool := entryV e && e.key == key
  match ((List.range 32).map (fun j => flockLoc key (j / 8) (j % 8))).find? (fun n => holds (mainAt t n)) with
  | some n => some (false, n)
  | none => ((List.range 256).find? (fun n => holds (stashAt t n))).map (fun n => (true, n))

/-- The entry at a place. -/
def flockGet (t : FlockTab) (p : Bool × Nat) : FlockEntry := if p.1 then stashAt t p.2 else mainAt t p.2
def flockPut (t : FlockTab) (p : Bool × Nat) (e : FlockEntry) : FlockTab := if p.1 then setStash t p.2 e else setMain t p.2 e

/-- The displacement chain of R129 from displacement `d` on, entry `x` to be placed in sub-table `sub`: the table after its
moves and the number of displacements. -/
def flockChain (d : Nat) (sub : Nat) (x : FlockEntry) (t : FlockTab) : Nat → Option (FlockTab × Nat)
  | 0 => none
  | fuel + 1 =>
    let n := flockLoc x.key sub ((d - 1) % 8)
    let y := mainAt t n
    let t1 := setMain t n x
    let i := (sub + 1) % 4
    match emptyIn t1 y.key [i, (i + 1) % 4, (i + 2) % 4] with
    | some m => some (setMain t1 m y, d)
    | none => flockChain (d + 1) i y t1 fuel

/-- What became of an insert (R129): the table, the place of the key, displacements, and whether it replaced. -/
structure Placed where
  tab : FlockTab
  place : Bool × Nat
  moves : Nat := 0
  replaced : Bool := false

/-- An insert (R129); none where the table has no place for it. -/
def flockPlace (t : FlockTab) (e : FlockEntry) : Option Placed :=
  match flockFind t e.key with
  | some p => some { tab := flockPut t p e, place := p, replaced := true }
  | none =>
    match emptyIn t e.key [0, 1, 2, 3] with
    | some n => some { tab := setMain t n e, place := (false, n) }
    | none =>
      match flockChain 1 0 e t 64 with
      | some (t1, d) => some { tab := t1, place := (flockFind t1 e.key).getD (false, 0), moves := d }
      | none =>
        ((List.range 256).find? (fun n => !entryV (stashAt t n))).map
          (fun n => { tab := setStash t n e, place := (true, n) })

/-- RESULT of Table R360. -/
def placeWord (p : Placed) : Nat :=
  p.place.2 + (if p.place.1 then 2 ^ 20 else 0) + p.moves * 2 ^ 21 + (if p.replaced then 2 ^ 28 else 0)

def flockTab (s : State) : FlockTab := { main := s.flock.main, stash := s.flock.stash }

/-- Valid entries of a table. -/
def occupancy (t : Tab FlockEntry) : Nat := (t.filter (fun e => entryV e.2)).length

/-- A committed change reaches the table and its backup (R132); STASH_WARN is set where the stash fills up to WARN. -/
def flockCommit (s : State) (t : FlockTab) : State :=
  let s1 := s.setFlock { s.flock with main := t.main, stash := t.stash, backMain := t.main, backStash := t.stash }
  let w := rdF s Reg.FLOCK_CTRL 8 0
  if occupancy s.flock.stash < w ∧ w ≤ occupancy t.stash then raiseBit s1 Reg.FLOCK_STATUS 2 else s1

/-! Commands -/

def flockInsertBody (h : CmdHdr) (key : BitVec 96) (action : BitVec 32) (s : State) : State :=
  match flockPlace (flockTab s) { key := key, action := action } with
  | some p => finish (flockCommit s p.tab) h 0x0A01 cOk (placeWord p) 0
  | none => finish (raiseBit s Reg.FLOCK_STATUS 1) h 0x0A01 cFlockFull 0 0

/-- What R345 checks of FLOCK_INSERT. -/
def flockInsertChecks (h : CmdHdr) (action : BitVec 32) (s : State) : Checks :=
  { op := 0x0A01, fields := [cflagsOk h 0, (28, action.getLsbD 31 && nbits action.toNat 30 28 == 0)], blocks := [0x9],
    held := holderOp s [0x0A04] }

/-- FLOCK_INSERT (R129, R360). -/
def execFlockInsert (h : CmdHdr) (key : BitVec 96) (action : BitVec 32) (s : State) : Host.Outcome State Fault Refusal :=
  .next (startCmd h (flockInsertChecks h action s)
    none (flockInsertBody h key action) s)

def flockDeleteBody (h : CmdHdr) (key : BitVec 96) (s : State) : State :=
  let t := flockTab s
  match flockFind t key with
  | none => finish s h 0x0A02 cNotFound 0 0
  | some p =>
    finish (flockCommit s (flockPut t p (entryClear (flockGet t p)))) h 0x0A02 cOk (placeWord { tab := t, place := p }) 0

/-- What R345 checks of FLOCK_DELETE. -/
def flockDeleteChecks (h : CmdHdr) (s : State) : Checks :=
  { op := 0x0A02, fields := [cflagsOk h 0], blocks := [0x9], held := holderOp s [0x0A04] }

/-- FLOCK_DELETE (R130). -/
def execFlockDelete (h : CmdHdr) (key : BitVec 96) (s : State) : Host.Outcome State Fault Refusal :=
  .next (startCmd h (flockDeleteChecks h s) none
    (flockDeleteBody h key) s)

/-- What a lookup gives (R125, R128): none where a bucket that it reads holds an uncorrectable error, else the hit's ACTION, or 0. -/
def flockLook (s : State) (key : BitVec 96) : Option Word :=
  if (List.range 4).any (fun i => s.flock.bad.contains (i * 16384 + flockHash i key)) then none
  else some (match flockFind (flockTab s) key with
    | some p => (flockGet (flockTab s) p).action
    | none => 0)

/-- A lookup met an uncorrectable error (R128): class D. -/
def flockUe (s : State) : State := raiseErr (incCnt s Reg.FLOCK_ECC_CNT 1) Reg.FLOCK_STATUS 3 2 0x0480 0

def flockLookupBody (h : CmdHdr) (key : BitVec 96) (s : State) : State :=
  match flockLook s key with
  | some a => finish s h 0x0A03 cOk a.toNat 0
  | none => finish (flockUe s) h 0x0A03 cMedia 0 0

/-- What R345 checks of FLOCK_LOOKUP. -/
def flockLookupChecks (h : CmdHdr) : Checks :=
  { op := 0x0A03, fields := [cflagsOk h 0] }

/-- FLOCK_LOOKUP (R131, R360). -/
def execFlockLookup (h : CmdHdr) (key : BitVec 96) (s : State) : Host.Outcome State Fault Refusal :=
  .next (startCmd h (flockLookupChecks h) none (flockLookupBody h key) s)

/-- The 16-byte entries that a byte string holds (R124). -/
def flockEntries : Nat → List Byte → List FlockEntry
  | 0, _ => []
  | n + 1, bs => { key := BitVec.ofNat 96 (leAt bs 0 12), action := BitVec.ofNat 32 (leAt bs 12 4) } ::
      flockEntries n (bs.drop 16)

/-- Inserts in order up to the first that finds no place (R133): the table, and how many were committed. -/
def flockSeries (t : FlockTab) : List FlockEntry → FlockTab × Nat
  | [] => (t, 0)
  | e :: l =>
    match flockPlace t e with
    | none => (t, 0)
    | some p => let r := flockSeries p.tab l; (r.1, r.2 + 1)

def clearAll (t : Tab FlockEntry) : Tab FlockEntry := t.filterMap (fun e =>
  let x := entryClear e.2
  if x = {} then none else some (e.1, x))

/-- Whether the active deck enables a flock recognizer (R133). -/
def flockUsed (s : State) : Bool :=
  match actDeck s with
  | none => false
  | some d => (List.range 16).any (fun f => recEn d (0x1A0 + f))

def flockBulkBody (h : CmdHdr) (mode : Byte) (count : BitVec 32) (src : BitVec 64) (s : State) : State :=
  if mode = 1 ∧ flockUsed s ∧ captureBusy s then refuse s h 0x0A04 cBusy busyState
  else
    let l := bufList s src
    let n := count.toNat
    if segsLen l < 16 * n then refuse s h 0x0A04 cField 12
    else
      let es := flockEntries n (segsRead s.mem l (16 * n))
      if es.any (fun e => !entryV e || nbits e.action.toNat 30 28 != 0) then refuse s h 0x0A04 cField 16
      else
        let t := flockTab s
        let t0 : FlockTab := if mode = 1 then { main := clearAll t.main, stash := clearAll t.stash } else t
        let r := flockSeries t0 es
        let s1 := flockCommit s r.1
        if r.2 < n then finish (raiseBit s1 Reg.FLOCK_STATUS 1) h 0x0A04 cFlockFull r.2 0
        else finish s1 h 0x0A04 cOk r.2 0

/-- What R345 checks of FLOCK_BULK. -/
def flockBulkChecks (h : CmdHdr) (mode : Byte) (count : BitVec 32) (src : BitVec 64) (s : State) : Checks :=
  { op := 0x0A04
    fields := [cflagsOk h 0, (8, decide (mode.toNat ≤ 1)), (12, decide (1 ≤ count.toNat) && decide (count.toNat ≤ 524544)),
      (16, bufOk s src)]
    blocks := [0x9], held := holderOp s [0x0203, 0x0204, 0x0A04] }

/-- FLOCK_BULK (R133, R360). -/
def execFlockBulk (h : CmdHdr) (mode : Byte) (count : BitVec 32) (src : BitVec 64) (s : State) :
    Host.Outcome State Fault Refusal :=
  .next (startCmd h (flockBulkChecks h mode count src s)
    none (flockBulkBody h mode count src) s)

/-! What the table controller does by itself -/

/-- FLOCK_STASH_MIGRATE (R130, R131): stash entry `n` moves into the first empty way of its candidate buckets. -/
def execFlockStashMigrate (n : Fin 256) (s : State) : Host.Outcome State Fault Refusal :=
  let t := flockTab s
  let e := stashAt t n
  match (if entryV e then emptyIn t e.key [0, 1, 2, 3] else none) with
  | none => .next s
  | some m => .next (flockCommit s (setStash (setMain t m e) n (entryClear e)))

/-- FLOCK_BUCKET_RESTORE (R132): the Shepherd rewrites a bucket in error from the backup. -/
def flockRestore (b : Nat) (s : State) : State :=
  if s.flock.bad.contains b then
    let m := (List.range 8).foldl (fun m w => tabPut {} m (8 * b + w) (tabGet {} s.flock.backMain (8 * b + w))) s.flock.main
    raiseBit (s.setFlock { s.flock with main := m, bad := s.flock.bad.filter (· != b) }) Reg.FLOCK_STATUS 4
  else s

def execFlockBucketRestore (sub : Fin 4) (bucket : Fin 16384) (s : State) : Host.Outcome State Fault Refusal :=
  .next (flockRestore (sub * 16384 + bucket) s)

/-! KEY_EXTRACT and FLOCK_LOOKUP instances -/

/-- Byte `b` of the bus word of sample `c - back` of bus `bus` in quad `q`, and whether it has a void bit (R466). -/
def busByte (s : State) (d : DeckImage) (q bus b c back : Nat) : Byte × Bool :=
  match sampleBack s c back, (instsOf d 0xC).find? (fun i => pBus d i == bus) with
  | some e, some i =>
    let bits := (List.range 8).map (fun j =>
      let n := 8 * b + j
      if n < pBusWidth d i then chanAt s d (quadChan (dkK d) q (busEntry d bus n)) e else (false, false))
    (BitVec.ofNat 8 (bitMask ((List.range 8).filter (fun j => ((bits.drop j).head?.getD (false, false)).1))), bits.any Prod.snd)
  | _, _ => (0, true)

/-- The key that instance `i` forms at completing sample `c`, and whether it has a void bit (R126, R128, R466). -/
def keyOf (s : State) (d : DeckImage) (i : KInst) (c : Nat) : BitVec 96 × Bool :=
  let bs := (List.range 12).map (fun j =>
    let p := pKeyPos d i j
    if p = 0xFF then ((0 : Byte), false) else busByte s d (engQuad i.1) (pKeyBus d i) (p % 8) c (p / 16))
  (BitVec.ofNat 96 (leNat (bs.map Prod.fst)), bs.any Prod.snd)

/-- Whether the key that step `i` completes at sample `c` is flagged void whatever its bits: a guard blocked it (R72), or its step has stopped or
runs from a reset context (R70). -/
def keyLost (s : State) (d : DeckImage) (i : KInst) (c : Sample) (f : Fin 16) : Bool :=
  s.deck.blockedItems.contains (.key f c) || storeBlocked s (engQuad i.1) || engStopped s d i.1 || ctxLost s i

/-- A key goes to the port of the FLOCK_LOOKUP instance that takes it (R125-R128). Its counts advance whether or not recognizer `f` is enabled
(DESIGN CHOICE, notes/assumptions/29.md: the spec gives EN no effect on them). -/
def flockKey (s0 : State) (d : DeckImage) (i : KInst) (c : Sample) (f : Fin 16) : State :=
  let k := keyOf s0 d i c
  let lost := keyLost s0 d i c f
  let s := endCtx s0 i
  if k.2 || lost then raiseBit (incCnt s (Reg.FLOCK_REC_CNT_VOID_KEYS f) 1) Reg.FLOCK_STATUS 0
  else
    let s1 := incCnt s (Reg.FLOCK_REC_CNT_LOOKUPS f) 1
    let note (s : State) (a : Word) (bad : Bool) : State := s.modRecog (fun r => { r with
      keys := r.keys ++ [{ fk := f, sample := c, action := a, bad := bad, given := false }] })
    match flockLook s k.1 with
    | none => note (flockUe s1) 0 true
    | some a => note (if a.getLsbD 31 then incCnt s1 (Reg.FLOCK_REC_CNT_HITS f) 1 else s1) a false

/-- A KEY_EXTRACT instance runs on sample `c` (R126): its key completes where its qualifier is 1. -/
def keyComplete (l n : Nat) (c : Sample) (s : State) (d : DeckImage) : State :=
  let i : KInst := (l, n)
  if (instsOf d 5).contains i then
    let s1 := noteEval s d c
    if (recAt s1 d (pKeyQual d i % 1024) c).res then
      let f : Fin 16 := Fin.ofNat 16 (pLookFlock d (pKeyTarget d i))
      let cyc := c / groupLen s
      let id := 4 * l + n
      if assoc s.recog.lastKeyFclk id = some cyc then incCnt s1 (Reg.FLOCK_REC_CNT_DROPPED f) 1
      else flockKey (s1.modRecog (fun r => { r with lastKeyFclk := assocSet r.lastKeyFclk id cyc })) d i c f
    else s1
  else s

def execFlockKeyComplete (l : Fin 256) (inst : Fin 4) (c : Sample) (s : State) : Host.Outcome State Fault Refusal :=
  match actDeck s with
  | none => .next s
  | some d => .next (keyComplete l inst c s d)

/-- FLOCK_RESULT (R127): the outcome of the key whose result falls on sample `i` is delivered to flock recognizer `f`. -/
def execFlockResult (f : Fin 16) (i : Sample) (s : State) : Host.Outcome State Fault Refusal :=
  match actDeck s with
  | none => .next s
  | some d => .next (s.modRecog (fun r => { r with
      keys := r.keys.map (fun k => if k.fk == f && k.sample + 4 * dkK d * dkLFlock d == i then { k with given := true } else k) }))

end Sys2Proof.Machine
end

