-- ==== Sys2Proof/Machine/Meas.lean ====
section
/-!
DEFINITION. The measurement units (R246-R256): gates, interval measurement, frequency measurement, records and ends.
-/

namespace Sys2Proof.Machine

/-- A stamp as the units see it: its time, its input, and whether it is a falling one. -/
abbrev MStamp := Time × Nat × Bool

/-- A unit in state `st` with run `r`. -/
def setRun (s : State) (u : Nat) (st : MeasState) (r : MeasRun) : State := setMeas s u { st := st, run := some r }

/-- The gate block of a run. -/
def runGate (r : MeasRun) : GateBlock :=
  match r.interval, r.freq with
  | some p, _ => p.gate
  | none, some p => p.gate
  | none, none => { source := 0, opt := 0, arg := 0, len := 0, openAt := 0 }

/-- The input that names the END record, and the timeout in ms. -/
def runInput (r : MeasRun) : Nat :=
  match r.interval, r.freq with
  | some p, _ => p.start.toNat % 16
  | none, some p => p.input.toNat % 16
  | none, none => 0
def runTimeout (r : MeasRun) : Nat :=
  match r.interval, r.freq with
  | some p, _ => p.timeout.toNat
  | none, some p => p.timeout.toNat
  | none, none => 0

/-- The inputs that a run uses (R240, R245). -/
def runUses (r : MeasRun) (n : Nat) : Bool :=
  let g := runGate r
  (g.source == 3 && g.arg.toNat % 16 == n) || runInput r == n ||
    (match r.interval with | some p => p.stopSet.getLsbD n | none => false)

/-- The running measurement that uses input `n`. -/
def measUser (s : State) (n : Nat) : Option (BitVec 16) :=
  (List.range 4).findSome? (fun u =>
    match (measOf s u).run with
    | some r => if runUses r n then some r.cid else none
    | none => none)

/-! The gate (R247) -/

/-- 100 s, at which a gate interval is cut. -/
def gateCut : Time := nsT (100 * second)

/-- The close of the interval in progress, as far as it is known. -/
def gateEnd (r : MeasRun) : Option Time :=
  match r.gateClose with
  | some c => some c
  | none => if (runGate r).source = 0 then none else r.gateOpen.map (· + gateCut)

/-- Whether a stamp lies in the gate (R45). -/
def inGate (r : MeasRun) (t : Time) : Bool :=
  match r.gateOpen with
  | none => false
  | some o => decide (o ≤ t) && (match gateEnd r with | some c => decide (t < c) | none => true)

/-- Whether a stamp lies in the band of a known boundary of the gate (R46). -/
def gateAmbig (r : MeasRun) (t : Time) : Bool :=
  (runGate r).source != 0 &&
    ((r.gateOpen.map (inBand t)).getD false || (r.gateClose.map (inBand t)).getD false)

/-! Records -/

/-- The destination with `bs` at byte `o` of it, which a drover brings there (R332). -/
def putAt (s : State) (r : MeasRun) (o : Nat) (bs : List Byte) : State := drove (putBuf s (segsDrop r.outAddr o) bs) bs.length

/-- Whether `n` more bytes fit the destination. -/
def fits (r : MeasRun) (n : Nat) : Bool := decide (r.written + n ≤ segsLen r.outAddr)

/-- A LIST record (Table 10-4): bytes 0-11, 12-14, 15. -/
def listRecord (body : List Byte) (no ty : Nat) : List Byte := (body ++ List.replicate 12 0).take 12 ++ leBytes 3 no ++ leBytes 1 ty

/-- Whether an interval measurement is in STATS mode. -/
def isStats (r : MeasRun) : Bool := match r.interval with | some p => p.stop.getLsbD 4 | none => false

/-- A STATS record (Table 10-5). -/
def statBytes (a : StatAcc) : List Byte :=
  leBytes 4 a.count ++ leBytes 4 a.under ++ leBytes 4 a.ambig ++ leBytes 4 0 ++ leBytes 6 a.min ++ leBytes 6 a.max ++ leBytes 4 0 ++
    leBytes 8 a.sum ++ leBytes 16 a.sumsq ++ leBytes 8 0

/-- An interval joins its accumulator (R254). -/
def statAdd (a : StatAcc) (v : Nat) (under ambig : Bool) : StatAcc :=
  { count := a.count + 1, under := a.under + (if under then 1 else 0), ambig := a.ambig + (if ambig then 1 else 0),
    min := if a.count = 0 then v else Nat.min a.min v, max := Nat.max a.max v, sum := a.sum + v, sumsq := a.sumsq + v * v }

/-! The fit (R255) -/

/-- The least-squares fit of stamps against their numbers: numerator and denominator of T_k, in 2^-16 ns, and those of the mean
squared residual. -/
def fitOf (l : List Time) : Nat × Nat × Nat × Nat :=
  let n := l.length
  let t0 := l.head?.getD 0
  let ts := l.map (fun t => (t - t0 : Nat))
  let is := List.range n
  let si := is.sum
  let sii := (is.map (fun i => i * i)).sum
  let st := ts.sum
  let stt := (ts.map (fun t => t * t)).sum
  let sit := ((is.zip ts).map (fun p => p.1 * p.2)).sum
  let num := n * sit - si * st
  let den := n * sii - si * si
  (num, den, (n * stt - st * st) * den - num * num, n * n * den)

/-- `a / b` to the nearest whole number, ties up. -/
def nearest (a b : Nat) : Nat := if b = 0 then 0 else (2 * a + b) / (2 * b)

/-- The frequency record (Table 10-7). -/
def freqRecord (p : FreqParams) (r : MeasRun) (closeAmbig cut : Bool) : List Byte :=
  let n := r.kept.length
  let d := p.d.toNat
  let src := 0x0400 + p.input.toNat % 16
  let f := fitOf r.kept
  let few := decide (n < 3)
  let freq := if few ∨ f.1 = 0 then 0 else nearest (second * 65536 * d * f.2.1 * 2 ^ 32) f.1
  let per := if few then 0 else nearest (f.1 * 256) (f.2.1 * d)
  let resid := if few then 0 else (Nat.sqrt (4 * f.2.2.1 / f.2.2.2) + 1) / 2
  let nonlin := !few && decide (f.1 * f.1 * f.2.2.2 < 256 * f.2.2.1 * (f.2.1 * f.2.1))
  let word (t : Option Time) : Nat := match t with | some x => timeWord x src | none => 0
  let flags := (if decide (2 ^ 24 ≤ n) && decide (n * d < r.edges) then 1 else 0) + (if few then 2 else 0) + (if nonlin then 4 else 0) +
    (if r.openAmbig then 8 else 0) + (if r.closeAmbig || closeAmbig then 16 else 0) + (if r.dead = 0 then 0 else 32) +
    (if cut then 64 else 0)
  leBytes 8 freq ++ leBytes 8 per ++ leBytes 12 (word r.kept.head?) ++ leBytes 12 (word r.kept.getLast?) ++ leBytes 4 n ++ leBytes 4 d ++
    leBytes 6 r.edges ++ leBytes 2 flags ++ leBytes 4 (min resid 0xFFFFFFFF) ++ leBytes 4 (min r.dead 0xFFFFFFFF)

/-! Ends (R252) -/

/-- Whether a stamp is one of the chosen input and polarity. -/
def isChosen (p : FreqParams) (x : MStamp) : Bool := p.input.toNat % 16 == x.2.1 && edgeSel (nbits p.input.toNat 5 4) x.2.2

/-- The status of a cause (Table 10-3). -/
def causeStatus (cause : Nat) : Nat :=
  if cause ≤ 1 then cOk else if cause = 2 then cTimeout else if cause = 3 then cAborted else if cause = 4 then cBufferFull else cEngine

/-- Whether a stamp of the chosen polarity lies in the band of a close at `t`: the last one handled, or one that waits (R46, R256). -/
def closeBand (p : FreqParams) (r : MeasRun) (t : Time) : Bool :=
  (r.prev.map (inBand t)).getD false || r.waiting.any (fun e =>
    match e with
    | .stamp x n falling => isChosen p (x, n, falling) && inBand t x
    | _ => false)

/-- The measurement of unit `u` ends at time `t` with a cause of Table 10-3; `cut` says that the gate interval was cut. -/
def measEnd (u cause : Nat) (t : Time) (cut : Bool) (s : State) : State :=
  match (measOf s u).run with
  | none => s
  | some r =>
    let idle := setMeas s u {}
    match r.interval, r.freq with
    | some p, _ =>
      if isStats r then
        endRun (putAt idle r 0 ((List.range p.nstop.toNat).flatMap (fun k => statBytes (tabGet {} r.stats k)))) r.ring r.cid
          (causeStatus cause) r.startNo 0
      else if cause ≠ 4 ∧ fits r 16 then
        endRun (putAt idle r r.written (listRecord (leBytes 12 (timeWord t (0x0400 + runInput r))) r.startNo (3 * 64 + cause))) r.ring
          r.cid (causeStatus cause) r.startNo 0
      else endRun idle r.ring r.cid cBufferFull r.startNo 0
    | none, some p =>
      if fits r 64 then
        endRun (putAt idle r 0 (freqRecord p r (closeBand p r t && (measOf s u).st == .collect && decide (cause ≠ 5)) (cut && (measOf s u).st == .collect)))
          r.ring r.cid (causeStatus cause) r.kept.length 0
      else endRun idle r.ring r.cid cBufferFull r.kept.length 0
    | none, none => idle

/-! Interval measurement (R248-R254) -/

/-- The end of the window of the start in progress. -/
def stopEnd (r : MeasRun) : Time := r.ts + nsT (match r.interval with | some p => p.stopWin.toNat | none => 0)

/-- Whether a TIME gate has closed by `t`. -/
def timeClosed (r : MeasRun) (t : Time) : Bool :=
  (runGate r).source == 1 && (match r.gateClose with | some c => decide (c ≤ t) | none => false)

/-- The stops phase ends at `t`: the measurement ends, or the unit waits for a start again. -/
def ivAgain (u : Nat) (t : Time) (s : State) : State :=
  match (measOf s u).run with
  | none => s
  | some r =>
    if (match r.interval with | some p => decide (p.nstart.toNat ≤ r.startNo) | none => true) then measEnd u 0 t false s
    else if timeClosed r t then measEnd u 1 t false s
    else setRun s u .waitStart { r with lately := [] }

/-- A stop of the start in progress, at `t` on input `n` (R248, R249, R251). -/
def ivStop (u : Nat) (t : Time) (n : Nat) (s : State) : State :=
  match (measOf s u).run with
  | none => s
  | some r =>
    let v := (t - r.ts) / 64
    let under := decide (v ≤ 3)
    let x := if under then 0 else v
    let ambig := inBand t (stopEnd r)
    let r1 : MeasRun := { r with stopNo := r.stopNo + 1 }
    let go (s : State) (r : MeasRun) : State :=
      if (match r.interval with | some p => decide (p.nstop.toNat ≤ r.stopNo) | none => true) then ivAgain u t (setRun s u .stops r)
      else setRun s u .stops r
    if isStats r then go s { r1 with stats := tabMod {} r.stats r.stopNo (fun a => statAdd a x under ambig) }
    else if fits r 16 then
      let bs := listRecord (leBytes 6 x ++ leBytes 2 r.stopNo ++
        leBytes 1 (n + (if under then 16 else 0) + (if ambig then 32 else 0))) (r.startNo - 1) (2 * 64)
      go (putAt s r r.written bs) { r1 with written := r.written + 16 }
    else measEnd u 4 t false s

/-- Whether a stamp is a stop candidate, and whether it is a start (R248). -/
def isStop (p : IntervalParams) (x : MStamp) : Bool := p.stopSet.getLsbD x.2.1 && edgeSel (p.stop.toNat % 4) x.2.2
def isStart (p : IntervalParams) (x : MStamp) : Bool := p.start.toNat % 16 == x.2.1 && edgeSel (nbits p.start.toNat 5 4) x.2.2

/-- A counter that saturates moves down by `n`. -/
def decCnt (s : State) (o n : Nat) : State := wr s o (BitVec.ofNat 32 ((rd s o).toNat - n))

/-- A start at `t` (R248, R249): stop candidates of the same instant, counted as early, belong to it. -/
def ivStart (u : Nat) (p : IntervalParams) (t : Time) (s : State) : State :=
  match (measOf s u).run with
  | none => s
  | some r =>
    let r1 : MeasRun := { r with ts := t, startNo := r.startNo + 1, stopNo := 0, lately := [] }
    let same := (r.lately.filter (fun x => x.1 == t && isStop p x)).map (fun x => x.2.1)
    let go (s : State) (r : MeasRun) : State :=
      let s1 := incCnt (setRun s u .stops r) (Reg.MEAS_STARTS u) 1
      let s2 := if same.isEmpty then s1 else decCnt s1 (Reg.MEAS_EARLY u) same.length
      (same.mergeSort (· ≤ ·)).foldl (fun s n => if (measOf s u).st = .stops then ivStop u t n s else s) s2
    if isStats r then go s r1
    else if fits r 16 then
      let bs := listRecord (leBytes 12 (timeWord t (0x0400 + runInput r))) r.startNo (64 + (if gateAmbig r t then 32 else 0))
      go (putAt s r r.written bs) { r1 with written := r.written + 16, startOfs := some r.written }
    else measEnd u 4 t false s

/-- A stamp while the unit waits for a start. -/
def ivWait (u : Nat) (p : IntervalParams) (x : MStamp) (s : State) : State :=
  match (measOf s u).run with
  | none => s
  | some r =>
    if timeClosed r x.1 then measEnd u 1 (r.gateClose.getD x.1) false s
    else if isStart p x && inGate r x.1 then ivStart u p x.1 s
    else
      let s1 := setMeas s u { measOf s u with
        run := some { r with lately := r.lately.filter (fun y => y.1 == x.1) ++ [x] } }
      if isStop p x then incCnt s1 (Reg.MEAS_EARLY u) 1 else s1

/-- A stamp at an interval measurement (R248). -/
def ivStamp (u : Nat) (p : IntervalParams) (x : MStamp) (s : State) : State :=
  match (measOf s u).run with
  | none => s
  | some r =>
    if (measOf s u).st = .stops then
      if x.1 < stopEnd r then
        if isStop p x then ivStop u x.1 x.2.1 s else if isStart p x then incCnt s (Reg.MEAS_BUSY u) 1 else s
      else
        let s1 := ivAgain u (stopEnd r) s
        if (measOf s1 u).st = .waitStart then ivWait u p x s1 else s1
    else ivWait u p x s

/-! Frequency measurement (R255) -/

/-- A stamp at a frequency measurement: every D-th of the gate interval is kept, 2^24 at most. -/
def fqStamp (u : Nat) (p : FreqParams) (x : MStamp) (s : State) : State :=
  match (measOf s u).run with
  | none => s
  | some r =>
    if isChosen p x then
      let band (b : Option Time) : Bool := (runGate r).source != 0 && (b.map (inBand x.1)).getD false
      let r1 : MeasRun := { r with prev := some x.1, openAmbig := r.openAmbig || band r.gateOpen,
                                   closeAmbig := r.closeAmbig || band r.gateClose }
      if inGate r x.1 then
        let keep := r.edges % p.d.toNat == 0 && decide (r.kept.length < 2 ^ 24)
        let r2 : MeasRun := { r1 with edges := r.edges + 1, kept := if keep then r.kept ++ [x.1] else r.kept }
        wr (setMeas s u { measOf s u with run := some r2 }) (Reg.MEAS_STARTS u) (BitVec.ofNat 32 r2.kept.length)
      else setMeas s u { measOf s u with run := some r1 }
    else s

/-! Opens and closes of a gate other than TIME (R247) -/

/-- A stamp at unit `u`. -/
def unitStamp (u : Nat) (x : MStamp) (s : State) : State :=
  match (measOf s u).run with
  | none => s
  | some r =>
    match r.interval, r.freq with
    | some p, _ => ivStamp u p x s
    | none, some p => fqStamp u p x s
    | none, none => s

/-- The gate opens at `t`. An interval of a frequency measurement starts with nothing kept (R255). -/
def gateOpens (u : Nat) (t : Time) (s : State) : State :=
  match (measOf s u).run with
  | none => s
  | some r =>
    if r.gateOpen.isSome && r.gateClose.isNone then s
    else
      let r1 : MeasRun := { r with gateOpen := some t, gateClose := none }
      if r.interval.isSome then setMeas s u { measOf s u with run := some r1 }
      else
        wr (setRun s u .collect { r1 with kept := [], edges := 0, dead := 0, closeAmbig := false,
                                          openAmbig := (r.prev.map (inBand t)).getD false }) (Reg.MEAS_STARTS u) 0

/-- The gate closes at `t`. A start in the band before it is marked; a frequency measurement ends, or passes over an interval of
less than 1 µs. -/
def gateCloses (u : Nat) (t : Time) (cut : Bool) (s : State) : State :=
  match (measOf s u).run with
  | none => s
  | some r =>
    match r.gateOpen, r.interval, r.freq with
    | some _, some _, _ =>
      if r.gateClose.isSome then s
      else
        let s1 := setMeas s u { measOf s u with run := some { r with gateClose := some t } }
        match r.startOfs with
        | some o => if r.startNo ≠ 0 ∧ inBand t r.ts then putAt s1 r (o + 15) (leBytes 1 (64 + 32)) else s1
        | none => s1
    | some o, none, some _ =>
      if t < o + nsT 1000 then
        wr (setRun s u .waitGate { r with gateOpen := none, gateClose := none, kept := [], edges := 0, dead := 0, openAmbig := false })
          (Reg.MEAS_STARTS u) 0
      else measEnd u 0 t cut s
    | _, _, _ => s

/-! Events in time order (R246) -/

/-- The time of an event. -/
def MeasEvent.time : MeasEvent → Time
  | .gate t _ => t
  | .stamp t _ _ => t
  | .dead t => t

/-- The place of an event in the order: its time, and at one time the gate's changes come first, so that a stamp on an open lies in the
gate and one on a close does not (R45), and stamps go by their SRC, which is by input (R35). -/
def MeasEvent.place : MeasEvent → Nat
  | .gate t _ => t * 32
  | .stamp t n _ => t * 32 + 1 + n
  | .dead t => t * 32 + 31

/-- `e` in its place; events of one place stay in the order of arrival. -/
def eventPut (l : List MeasEvent) (e : MeasEvent) : List MeasEvent :=
  l.takeWhile (fun x => decide (x.place ≤ e.place)) ++ e :: l.dropWhile (fun x => decide (x.place ≤ e.place))

/-- An event joins those that unit `u` waits to handle. A change of the gate before the command's acceptance opens and closes nothing
(R247, R255), and an interval measurement sees no stamp from before it. -/
def measEvent (u : Nat) (e : MeasEvent) (s : State) : State :=
  match (measOf s u).run with
  | none => s
  | some r =>
    let early := decide (e.time < r.at_) && (match e with | .gate _ _ => true | _ => r.interval.isSome)
    if early then s else setMeas s u { measOf s u with run := some { r with waiting := eventPut r.waiting e } }

/-- A crossing at `t` that was lost to dead time joins the lost ones of the gate (R256). -/
def unitDead (u : Nat) (t : Time) (s : State) : State :=
  match (measOf s u).run with
  | none => s
  | some r => if inGate r t then setMeas s u { measOf s u with run := some { r with dead := r.dead + 1 } } else s

/-- Unit `u` handles an event. -/
def unitEvent (u : Nat) (e : MeasEvent) (s : State) : State :=
  match e with
  | .gate t opens => if opens then gateOpens u t s else gateCloses u t false s
  | .stamp t n falling => unitStamp u (t, n, falling) s
  | .dead t => unitDead u t s

/-- Unit `u` handles its oldest event if that lies before `t`. -/
def pumpOne (u : Nat) (t : Time) (s : State) : State :=
  match (measOf s u).run with
  | none => s
  | some r =>
    match r.waiting with
    | [] => s
    | e :: l =>
      if e.time < t then unitEvent u e (setMeas s u { measOf s u with run := some { r with waiting := l } }) else s

/-- How many events wait at unit `u`. -/
def pumpCount (s : State) (u : Nat) : Nat := ((measOf s u).run.map (fun r => r.waiting.length)).getD 0

/-- Unit `u` handles its events before `t`. -/
def pumpTo (u : Nat) (t : Time) (s : State) : State := (List.range (pumpCount s u)).foldl (fun s _ => pumpOne u t s) s

/-- Gate source RECOG: the turn of the recognizer at sample `i` joins the events (R247). -/
def gateSample (u : Nat) (d : DeckImage) (s : State) (i : Sample) : State :=
  match (measOf s u).run with
  | none => s
  | some r =>
    let s1 := setMeas s u { measOf s u with run := some { r with gateNext := i + 1 } }
    let n := (runGate r).arg.toNat % 1024
    let a := (recAt s d n i).res
    let b := hasPrev s i && (recAt s d n (i - 1)).res
    if a = b then s1 else measEvent u (.gate (gridT s i) a) s1

/-- A unit with a RECOG gate takes the results of the samples evaluated since it last did (R247). -/
def gateSamples (u : Nat) (s : State) : State :=
  match (measOf s u).run, s.recog.evalTo, actDeck s with
  | some r, some e, some d =>
    if (runGate r).source = 4 then (List.range (e + 1 - r.gateNext)).foldl (fun s j => gateSample u d s (r.gateNext + j)) s else s
  | _, _, _ => s

/-- The time before which unit `u` knows every event: 40 fclk back for stamps (R119), FILT further for GATE_IN (R118, R119), the
end of the last sample evaluated for RECOG. A band of 131 units more lets a close see the stamps on its other side (R46). -/
def horizon (s : State) (r : MeasRun) : Time :=
  let back := if (runGate r).source = 2 then rdF s Reg.TIN_GATE_CTRL 7 0 * 10240 else 0
  let known := now s - (40 * fclkT + back)
  (if (runGate r).source = 4 then min known ((s.recog.evalTo.map (fun e => gridT s (e + 1))).getD 0) else known) - 132

/-- Unit `u` handles the events that all earlier ones have joined (R246). -/
def measPump (u : Nat) (s : State) : State :=
  let s1 := gateSamples u s
  match (measOf s1 u).run with
  | none => s1
  | some r => pumpTo u (horizon s1 r) s1

/-- Every unit. -/
def pumpAll (s : State) : State := (List.range 4).foldl (fun s u => measPump u s) s

/-- What unit `u` has been given up to `t` is handled, for what happens at `t`. -/
def measUpTo (u : Nat) (t : Time) (s : State) : State := pumpTo u t (gateSamples u s)

/-- A stamp reaches unit `u` (R244): a TIN gate's input opens or closes the gate with it (Table 10-2). -/
def measStamp (x : MStamp) (s : State) (u : Nat) : State :=
  match (measOf s u).run with
  | none => s
  | some r =>
    let g := runGate r
    let s1 := if g.source = 3 ∧ g.arg.toNat % 16 = x.2.1 then measEvent u (.gate x.1 (x.2.2 == g.opt.getLsbD 0)) s else s
    measPump u (measEvent u (.stamp x.1 x.2.1 x.2.2) s1)

/-- Gate source GATE_IN: an accepted change at `t` to `level`; POL = 0 is active high (R118). -/
def gatePin (u : Nat) (t : Time) (level : Bool) (s : State) : State :=
  match (measOf s u).run with
  | none => s
  | some r => if (runGate r).source = 2 then measPump u (measEvent u (.gate t (level != (runGate r).opt.getLsbD 0)) s) else s

/-- A crossing at `t` on input `n` is lost to dead time (R256). -/
def measDead (n : Nat) (t : Time) (s : State) (u : Nat) : State :=
  match (measOf s u).run.bind MeasRun.freq with
  | some p => if p.input.toNat % 16 = n then measPump u (measEvent u (.dead t) s) else s
  | none => s

/-! Rows -/

/-- MEAS_STOP_WINDOW_END (R248): the window in progress ends, the stops before its end having been taken. -/
def measWindowEnd (u : Nat) (s0 : State) : State :=
  match (measOf s0 u).run with
  | none => s0
  | some r0 =>
    let s := measUpTo u (stopEnd r0) s0
    match (measOf s u).run with
    | none => s
    | some r => if (measOf s u).st = .stops ∧ r.ts = r0.ts then ivAgain u (stopEnd r) s else s

def execMeasStopWindowEnd (u : Fin 4) (s : State) : Host.Outcome State Fault Refusal := .next (measWindowEnd u s)

/-- MEAS_GATE_TIMER (R247, R252): a TIME gate opens or closes, or an interval that another source opened is cut at 100 s. What came
before the moment of the timer has been handled. -/
def measGateTimer (u : Nat) (s0 : State) : State :=
  let s := measUpTo u (((measOf s0 u).run.bind gateEnd).getD 0) s0
  match (measOf s u).run with
  | none => s
  | some r =>
    if (runGate r).source = 1 then
      match (measOf s u).st with
      | .waitGate => setRun s u (if r.interval.isSome then .waitStart else .collect) r
      | .waitStart => measEnd u 1 (r.gateClose.getD r.at_) false s
      | .collect => measEnd u 0 (r.gateClose.getD r.at_) false s
      | _ => s
    else
      match gateEnd r with
      | some c => if r.gateClose.isNone then gateCloses u c true s else s
      | none => s

def execMeasGateTimer (u : Fin 4) (s : State) : Host.Outcome State Fault Refusal := .next (measGateTimer u s)

/-- MEAS_TIMEOUT (R252). -/
def measTimeout (u : Nat) (s0 : State) : State :=
  match (measOf s0 u).run with
  | none => s0
  | some r =>
    let t := r.at_ + nsT (runTimeout r * 1000000)
    measEnd u 2 t true (measUpTo u t s0)

def execMeasTimeout (u : Fin 4) (s : State) : Host.Outcome State Fault Refusal := .next (measTimeout u s)

/-! The commands -/

/-- The ranges of a gate block (Table 15-12). -/
def gateFields (g : GateBlock) : List (Nat × Bool) :=
  let time := g.source == 1
  let at_ := g.opt.getLsbD 1
  [(28, decide (g.source.toNat ≤ 4)), (29, g.opt &&& 0xFC == 0 && (time || !at_)),
    (30, if g.source = 3 then decide (g.arg.toNat < 16) else if g.source = 4 then decide (g.arg.toNat < 0x1C2) else g.arg == 0),
    (32, if time then decide (1000 ≤ g.len.toNat) && decide (g.len.toNat ≤ 10 ^ 11) else g.len == 0),
    (40, (time && at_) || g.openAt == 0)]

/-- STAMP of input `n`: the polarities that it stamps. -/
def stampSet (s : State) (n : Nat) : Nat := rdF s (Reg.TIN_CTRL n) 15 14

/-- Whether input `n` stamps every polarity of `e`. -/
def stamps (s : State) (n e : Nat) : Bool := e &&& stampSet s n == e

/-- What R247 and R248 ask of the gate: a TIN gate's input stamps both polarities; a RECOG gate's results come within 4 µs. -/
def gateNeeds (s : State) (g : GateBlock) : List (Nat × Bool) :=
  [(28, g.source != 4 || decide ((rd s Reg.TRIG_PATH_LAT).toNat + nsT 45 ≤ nsT 4000)),
    (30, g.source != 3 || stampSet s (g.arg.toNat % 16) == 3)]

/-- A RECOG gate names a recognizer that the deck enables. -/
def gateObject (s : State) (g : GateBlock) : Bool :=
  g.source != 4 || (match actDeck s with | some d => recEn d g.arg.toNat | none => true)

/-- The first sample whose grid time is at or after `t`. -/
def sampleFrom (s : State) (t : Time) : Sample := (t - gridT s 0 + period s - 1) / period s

/-- The last stamp of input and polarity of `p`, if it is the input's last: it may lie in the band of an open that follows (R46). -/
def lastChosen (s : State) (p : FreqParams) : Option Time :=
  let n := p.input.toNat % 16
  let f := (rd s (Reg.TIN_LAST_FRAC n)).toNat
  if rd64 s (Reg.TIN_EDGE_LO n) ≠ 0 ∧ isChosen p (0, n, nbit f 16) then some (rd64 s (Reg.TIN_LAST_NS_LO n) * 65536 + f % 65536) else none

/-- A measurement starts (R246-R248, R255). -/
def measBegin (h : CmdHdr) (op u : Nat) (iv : Option IntervalParams) (fq : Option FreqParams) (dest : BitVec 64) (s : State) : State :=
  let t := now s
  let r : MeasRun := { ring := h.ring, cid := h.cid, interval := iv, freq := fq, at_ := t, outAddr := bufList s dest,
                       gateNext := sampleFrom s t, prev := fq.bind (lastChosen s) }
  let g := runGate r
  let ot := if g.opt.getLsbD 1 ∧ t ≤ wordTime g.openAt then wordTime g.openAt else t
  let r1 : MeasRun :=
    if g.source = 0 then { r with gateOpen := some t }
    else if g.source = 1 then { r with gateOpen := some ot, gateClose := some (ot + nsT g.len.toNat) }
    else r
  let later := g.source == 1 && decide (t < ot)
  let st : MeasState :=
    if later then .waitGate else if iv.isSome then .waitStart
    else if decide (g.source.toNat ≤ 1) then .collect else .waitGate
  let s1 := keepRunning s h op u 0
  setRun (wr (wr (wr s1 (Reg.MEAS_STARTS u) 0) (Reg.MEAS_EARLY u) 0) (Reg.MEAS_BUSY u) 0) u st r1

/-- ABORT (R357): the unit's measurement ends with cause 3, and the command completes. -/
def measAbort (h : CmdHdr) (op u : Nat) (s : State) : State := finish (measEnd u 3 (now s) true (measUpTo u (now s) s)) h op cOk 0 0

/-- The conflicts of Table 15-15. -/
def measHeld (h : CmdHdr) (u : Nat) (s : State) : Option (BitVec 16) :=
  (holderOp s [0x0103]).or (if cflag h 0 then none else holderObj s [0x0702, 0x0703] u)

def intervalBody (h : CmdHdr) (p : IntervalParams) (s : State) : State :=
  let u := p.unit.toNat
  if cflag h 0 then measAbort h 0x0702 u s
  else
    match firstBad ([(9, stamps s (p.start.toNat % 16) (nbits p.start.toNat 5 4)),
        (12, (bitsOf 16 p.stopSet.toNat).all (fun n => stamps s n (p.stop.toNat % 4)))] ++ gateNeeds s p.gate ++
        [(56, !p.stop.getLsbD 4 || decide (64 * p.nstop.toNat ≤ segsLen (bufList s p.dest)))]) with
    | some o => refuse s h 0x0702 cField o
    | none => measBegin h 0x0702 u (some p) none p.dest s

/-- What R345 checks of MEASURE_INTERVAL. -/
def measureIntervalChecks (h : CmdHdr) (p : IntervalParams) (s : State) : Checks :=
  let abort := cflag h 0
  let z (b : Bool) (v : Bool) : Bool := if abort then b else v
  { op := 0x0702
    fields := [cflagsOk h 1, (8, decide (p.unit.toNat < 4)),
      (9, z (p.start == 0) (decide (p.start.toNat < 64) && nbits p.start.toNat 5 4 != 0)), (10, z (p.stopSet == 0) (p.stopSet != 0)),
      (12, z (p.stop == 0) (p.stop &&& 0xEC == 0 && p.stop.toNat % 4 != 0)),
      (14, z (p.nstop == 0) (decide (1 ≤ p.nstop.toNat) && decide (p.nstop.toNat ≤ 1024))),
      (16, z (p.nstart == 0) (decide (1 ≤ p.nstart.toNat) && decide (p.nstart.toNat ≤ 2 ^ 24))),
      (20, z (p.stopWin == 0) (decide (1 ≤ p.stopWin.toNat) && decide (p.stopWin.toNat ≤ 10 ^ 9))),
      (24, z (p.timeout == 0) (decide (1 ≤ p.timeout.toNat) && decide (p.timeout.toNat ≤ 10 ^ 6)))] ++
      (if abort then [(28, p.gate.source == 0), (29, p.gate.opt == 0), (30, p.gate.arg == 0), (32, p.gate.len == 0), (40, p.gate.openAt == 0)]
       else gateFields p.gate) ++ [(56, z (p.dest == 0) (bufOk s p.dest))]
    deck := !abort && p.gate.source == 4
    objects := [(30, abort || gateObject s p.gate)]
    blocks := [0x5], held := measHeld h p.unit.toNat s }

/-- MEASURE_INTERVAL (R248, R357). -/
def execMeasureInterval (h : CmdHdr) (p : IntervalParams) (s : State) : Host.Outcome State Fault Refusal :=
  .next (startCmd h (measureIntervalChecks h p s)
    none (intervalBody h p) s)

def freqBody (h : CmdHdr) (p : FreqParams) (s : State) : State :=
  let u := p.unit.toNat
  if cflag h 0 then measAbort h 0x0703 u s
  else
    match firstBad ([(9, stamps s (p.input.toNat % 16) (nbits p.input.toNat 5 4))] ++ gateNeeds s p.gate) with
    | some o => refuse s h 0x0703 cField o
    | none => measBegin h 0x0703 u none (some p) p.dest s

/-- What R345 checks of MEASURE_FREQ. -/
def measureFreqChecks (h : CmdHdr) (p : FreqParams) (s : State) : Checks :=
  let abort := cflag h 0
  let z (b : Bool) (v : Bool) : Bool := if abort then b else v
  { op := 0x0703
    fields := [cflagsOk h 1, (8, decide (p.unit.toNat < 4)),
      (9, z (p.input == 0) (decide (p.input.toNat < 64) && (nbits p.input.toNat 5 4 == 1 || nbits p.input.toNat 5 4 == 2))),
      (12, z (p.d == 0) (decide (1 ≤ p.d.toNat) && decide (p.d.toNat ≤ 2 ^ 20))),
      (24, z (p.timeout == 0) (decide (1 ≤ p.timeout.toNat) && decide (p.timeout.toNat ≤ 10 ^ 6)))] ++
      (if abort then [(28, p.gate.source == 0), (29, p.gate.opt == 0), (30, p.gate.arg == 0), (32, p.gate.len == 0), (40, p.gate.openAt == 0)]
       else gateFields p.gate) ++ [(56, z (p.dest == 0) (bufOk s p.dest))]
    deck := !abort && p.gate.source == 4
    objects := [(30, abort || gateObject s p.gate)]
    blocks := [0x5], held := measHeld h p.unit.toNat s }

/-- MEASURE_FREQ (R255, R357). -/
def execMeasureFreq (h : CmdHdr) (p : FreqParams) (s : State) : Host.Outcome State Fault Refusal :=
  .next (startCmd h (measureFreqChecks h p s)
    none (freqBody h p) s)

end Sys2Proof.Machine
end

