-- ==== Sys2Proof/Machine/Tin.lean ====
section
/-!
DEFINITION. The timing inputs (R237-R245), the pins TRIG_IN and GATE_IN (R118, R119), and the rows in which samples are evaluated,
since measurement gates follow recognizers (R247).
-/

namespace Sys2Proof.Machine

/-! Stamps (R241, R242, R244) -/

/-- The time of a stamp: the TDC's 2^-10 ns, and OFS (R241). -/
def stampTime (s : State) (n : Nat) (t : Time) : Time :=
  (((t / 64 * 64 : Nat) : Int) + signed 16 (rdF s (Reg.TIN_OFS n) 15 0) * 64).toNat % 2 ^ 80

/-- A crossing at `t` falls in the dead time of 1.6 ns after a stamped crossing at `l` (R242). -/
def inDead (l t : Time) : Bool := decide (10 * (t - l) < 1048576)

/-- A stamp of a watched or unwatched input reaches the recognizers (R117, R119). -/
def recogStamp (s : State) (n : Nat) (t : Time) (falling : Bool) : State :=
  let late := (actDeck s).isSome && arrivesLate s t
  let s1 := s.modRecog (fun r => { r with
    stamps := tabMod [] r.stamps n (fun l => { t := t, falling := falling, late := late } :: l) })
  if late && ((actDeck s).map (fun d => tinWatched d n)).getD false then countLate s1 else s1

/-- TIN_EDGE and TIN_LAST of a stamp (R244, R257). -/
def noteStamp (s : State) (n : Nat) (t : Time) (falling : Bool) : State :=
  let e := (rd64 s (Reg.TIN_EDGE_LO n) + 1) % 2 ^ 48
  let s1 := wr64 s (Reg.TIN_EDGE_LO n) e
  wr (wr64 s1 (Reg.TIN_LAST_NS_LO n) (t / 65536)) (Reg.TIN_LAST_FRAC n)
    (BitVec.ofNat 32 (t % 65536 + if falling then 65536 else 0))

/-- A crossing at the ball of input `n` (R241, R242, R244). -/
def tinStamp (n : Nat) (t : Time) (falling : Bool) (s : State) : State :=
  let o := Reg.TIN_CTRL n
  let fall := falling != (rd s o).getLsbD 13
  if blkState s o ≠ stOn ∨ !edgeSel (rdF s o 15 14) fall then s
  else
    let x := tinOf s n
    let at_ := stampTime s n t
    if (x.lastStamp.map (fun l => inDead l t)).getD false then
      (List.range 4).foldl (fun s u => measDead n at_ s u)
        (incCnt (raiseBit s (Reg.TIN_STATUS n) 0) (Reg.TIN_DEAD_CNT n) 1)
    else
      let s1 := noteStamp (setTin s n { x with lastStamp := some t }) n at_ fall
      (List.range 4).foldl (measStamp (at_, n, fall)) (recogStamp s1 n at_ fall)

/-- TIN_STAMP (R241). -/
def execTinStamp (n : Fin 16) (t : Time) (falling : Bool) (s : State) : Host.Outcome State Fault Refusal :=
  .next (tinStamp n t falling s)

/-! TRIG_IN and GATE_IN -/

/-- FILT of a pin's recognizer (R134); 0 while no deck gives one (DESIGN CHOICE, notes/assumptions/27.md). -/
def pinFilt (s : State) (r : Nat) : Nat := ((actDeck s).map (fun d => nbits (recCtrl d r) 15 8)).getD 0

/-- Whether the active deck enables a pin's recognizer. -/
def pinWatched (s : State) (r : Nat) : Bool := ((actDeck s).map (fun d => recEn d r)).getD false

/-- A change of TRIG_IN, at the moment that its sampler resolves; its level is followed whether or not a deck is active (R32, R118, R119). -/
def trigInEdge (t0 : Time) (level : Bool) (held : Nat) (s : State) : State :=
  if level = s.recog.trigLevel ∨ held < pinFilt s 0x1C0 then s
  else
    let t := sampledTime s t0
    let late := (actDeck s).isSome && arrivesLate s t
    let s1 := s.modRecog (fun r => { r with
      trigLevel := level, trigIn := { t := t, falling := !level, late := late } :: r.trigIn })
    if late && pinWatched s 0x1C0 then countLate s1 else s1

/-- TRIG_IN_EDGE (R118). -/
def execTrigInEdge (t : Time) (level : Bool) (held : Nat) (s : State) : Host.Outcome State Fault Refusal :=
  .next (trigInEdge t level held s)

/-- The level of GATE_IN that the recognizer has accepted last. -/
def gateAccepted (s : State) : Bool := (s.recog.gate.head?.map GateChange.level).getD false

/-- A change of GATE_IN at its recognizer; a late one is presented from the next sample that is evaluated (R119). -/
def gateRecog (t0 : Time) (level : Bool) (held : Nat) (s : State) : State :=
  if level = gateAccepted s ∨ held < pinFilt s 0x1C1 then s
  else
    let t := sampledTime s t0
    let late := (actDeck s).isSome && arrivesLate s t
    let from_ := if late then evalNext s else 0
    let s1 := s.modRecog (fun r => { r with gate := { t := t, level := level, from_ := from_ } :: r.gate })
    if late && pinWatched s 0x1C1 then countLate s1 else s1

/-- A change of GATE_IN at the measurement gates, with their own filter (R247). -/
def gateMeas (t : Time) (level : Bool) (held : Nat) (s : State) : State :=
  if level = s.tins.gateLevel ∨ held < rdF s Reg.TIN_GATE_CTRL 7 0 then s
  else (List.range 4).foldl (fun s u => gatePin u (sampledTime s t) level s) (s.modTins (fun x => { x with gateLevel := level }))

/-- GATE_IN_CHANGE (R118). -/
def execGateInChange (t : Time) (level : Bool) (held : Nat) (s : State) : Host.Outcome State Fault Refusal :=
  .next (gateMeas t level held (gateRecog t level held s))

/-! TIN_CONFIG (R240) -/

/-- Input `n` leaves OFF: its counts start again (R257). -/
def tinLeaveOff (s : State) (n : Nat) : State :=
  wr64 (setTin s n { tinOf s n with lastStamp := none }) (Reg.TIN_EDGE_LO n) 0

/-- A write to EN of input `n` (R375); FAULT after a second failure within 1 s stays until a device reset (R245). -/
def tinEn (s : State) (n : Nat) (b : Bool) : State :=
  let o := Reg.TIN_CTRL n
  if (tinOf s n).stuck then setEn s o b
  else if b && blkState s o == stOff then tinLeaveOff (writeEn s o true) n
  else writeEn s o b

/-- In OFF the settings are written, the threshold's DAC channel with them, and the input starts. -/
def tinProgram (s : State) (n : Nat) (c : TinCmd) (p : TinParams) : State :=
  let o := Reg.TIN_CTRL n
  let v := p.mode.toNat * 2 ^ 8 + p.term.toNat * 2 ^ 9 + p.hyst.toNat * 2 ^ 10 + p.slope.toNat * 2 ^ 13 + p.stamp.toNat * 2 ^ 14
  let s1 := wr (wr s o ((rd s o &&& 0x71) ||| BitVec.ofNat 32 v)) (Reg.TIN_OFS n) (p.ofs.zeroExtend 32)
  let ch := 16 + n
  let dc : DacCmd := { ring := c.ring, cid := c.cid, span := some 2, code := some (BitVec.ofNat 16 (mvCode ch 2 p.thresh.toInt)),
                       dds := none }
  let s2 := dacBegin s1 ch dc (rdF s1 (Reg.DAC_CTRL ch) 9 8 != 2)
  tinEn (setTin s2 n { tinOf s2 n with cmd := some { c with p := none } }) n true

/-- The active deck watches input `n` while a group runs (R240). -/
def tinLocked (s : State) (n : Nat) : Bool :=
  captureBusy s && (match actDeck s with | some d => tinWatched d n | none => false)

def tinConfigBody (h : CmdHdr) (p : TinParams) (s : State) : State :=
  let n := p.input.toNat
  match measUser s n with
  | some c => refuse s h 0x0701 cBusy c.toNat
  | none =>
    if tinLocked s n then refuse s h 0x0701 cBusy busyState
    else if (tinOf s n).stuck then refuse s h 0x0701 cEngine 0
    else
      let c : TinCmd := { ring := h.ring, cid := h.cid, p := some p }
      let s1 := keepRunning s h 0x0701 n 0
      if blkState s (Reg.TIN_CTRL n) = stOff then tinProgram s1 n c p
      else tinEn (setTin s1 n { tinOf s1 n with cmd := some c }) n false

/-- What R345 checks of TIN_CONFIG. -/
def tinConfigChecks (h : CmdHdr) (p : TinParams) (s : State) : Checks :=
  { op := 0x0701
    fields := [cflagsOk h 0, (8, decide (p.input.toNat < 16)), (9, decide (p.mode.toNat ≤ 1)), (10, decide (p.term.toNat ≤ 1)),
      (11, decide (p.hyst.toNat ≤ 7)), (12, decide (p.slope.toNat ≤ 1)), (13, decide (1 ≤ p.stamp.toNat) && decide (p.stamp.toNat ≤ 3)),
      (16, if p.mode = 1 then p.thresh == 0 else decide (-2500 ≤ p.thresh.toInt) && decide (p.thresh.toInt ≤ 2500))]
    blocks := [0x5, 0x6], ready := (tinOf s p.input.toNat).cmd.isNone }

/-- TIN_CONFIG (R240, R357). -/
def execTinConfig (h : CmdHdr) (p : TinParams) (s : State) : Host.Outcome State Fault Refusal :=
  .next (startCmd h (tinConfigChecks h p s)
    none (tinConfigBody h p) s)

/-- The input enters ON: the TIN_CONFIG that waits completes. -/
def tinOn (s : State) (n : Nat) : State :=
  match (tinOf s n).cmd with
  | some { ring := r, cid := c, p := none } => endRun (setTin s n { tinOf s n with cmd := none }) r c cOk 0 0
  | _ => s

/-- The input enters OFF: a TIN_CONFIG writes its settings there. -/
def tinOff (s : State) (n : Nat) : State :=
  match (tinOf s n).cmd with
  | some { ring := r, cid := c, p := some p } => tinProgram s n { ring := r, cid := c, p := some p } p
  | _ => s

/-! TDC_RECALIBRATION (R245) -/

/-- A calibration outside its limits: class S; the measurements that use the input end. -/
def tdcFail (n : Nat) (s : State) : State :=
  let x := tinOf s n
  let again := (x.lastFail.map (fun t => decide (now s < t + nsT second))).getD false
  let s1 := setBlkState (setTin s n { x with lastFail := some (now s), stuck := x.stuck || again, cmd := none }) (Reg.TIN_CTRL n) stFault
  let s2 := raiseErr s1 (Reg.TIN_STATUS n) 1 3 (0x0400 + n) n
  let s3 := (List.range 4).foldl (fun s u =>
    match (measOf s u).run with
    | some r => if runUses r n then measEnd u 5 (now s) false (measUpTo u (now s) s) else s
    | none => s) s2
  match x.cmd with
  | some c => endRun s3 c.ring c.cid cEngine 0 0
  | none => s3

def execTdcRecalibration (n : Fin 16) (ok : Bool) (s : State) : Host.Outcome State Fault Refusal :=
  let st := blkState s (Reg.TIN_CTRL n)
  .next (if !ok && (st == stOn || st == stStarting) then tdcFail n s else s)

/-! Rows in which samples are evaluated -/

/-- Hand `h` evaluates every sample up to `i`, after the scheduled changes of the groups that arm it (R147, R168). -/
def handTo (s : State) (d : DeckImage) (h : Fin 32) (i : Sample) : State :=
  pumpAll (handRun d h i ((bitsOf 16 (hArmGroups d h)).foldl (fun s g => settle s d g i) s))

/-- HAND_FIRE (R140): hand `h` evaluates every sample up to `i`. -/
def execHandFire (h : Fin 32) (i : Sample) (s : State) : Host.Outcome State Fault Refusal :=
  match actDeck s with
  | none => .next s
  | some d => .next (handTo s d h i)

/-- HAND_TIMER_EXPIRY (R142): HT of hand `h` has reached its limit by sample `i`; the term is read at each evaluation, which
this row brings up to `i`. -/
def execHandTimerExpiry (h : Fin 32) (i : Sample) (s : State) : Host.Outcome State Fault Refusal :=
  match actDeck s with
  | none => .next s
  | some d =>
    match (handOf s h).ht with
    | none => .next s
    | some a => if (expired s a (hHtLimit d h) i).1 then .next (handTo s d h i) else .next s

/-- COUNTER_TARGET_REACHED (R113): counter `n` takes the samples up to `i`; its RES is 1 from the sample at which COUNT reaches
TARGET. -/
def execCounterTargetReached (n : Fin 64) (i : Sample) (s : State) : Host.Outcome State Fault Refusal :=
  match actDeck s with
  | none => .next s
  | some d => .next (if recEn d (0x140 + n) then pumpAll (noteEval s d i) else s)

/-- TIMER_EXPIRY (R115). -/
def execTimerExpiry (n : Fin 32) (i : Sample) (s : State) : Host.Outcome State Fault Refusal :=
  match actDeck s with
  | none => .next s
  | some d => .next (if recEn d (0x180 + n) then pumpAll (noteEval s d i) else s)

end Sys2Proof.Machine
end

