-- ==== Sys2Proof/Machine/Pattern.lean ====
section
/-!
DEFINITION. Pattern memory, the playback list and the mask checkers (chapter 9).
-/

namespace Sys2Proof.Machine

/-! Pattern memory (R219) -/

/-- `n` bytes of pattern memory from offset `o`. -/
def patRead (s : State) (d : DeckImage) (o n : Nat) : List Byte := (List.range n).map (fun i => memByte s.mem.hbm (patAddr s d (o + i)))

/-- Pattern memory with `bs` at offset `o`. -/
def patWrite (s : State) (d : DeckImage) (o : Nat) (bs : List Byte) : State :=
  s.setMem { s.mem with hbm := ((List.range bs.length).zip bs).foldl (fun m p => memPut m (patAddr s d (o + p.1)) p.2) s.mem.hbm }

def psegOf (s : State) (p : Nat) : Option Pseg := assoc s.pgen.psegs p

/-- The stream of engine `e` in a segment. -/
def streamOf (g : Pseg) (e : Nat) : Option (Nat × Nat) := assoc g.streams e

/-- The quarantined pages of pattern memory (R436). -/
def patDead (s : State) (d : DeckImage) : List (Nat × Nat) :=
  s.shep.pageQuar.flatMap (fun p =>
    let b := p / 2 ^ 24 * stackSize s + p % 2 ^ 24 * 4096
    ((List.range (pbExtCnt d)).filter (fun i =>
      decide (extAddr s (pbExtent d i) ≤ b) && decide (b < extAddr s (pbExtent d i) + extentSize))).map (fun i =>
        (i * extentSize + (b - extAddr s (pbExtent d i)), 4096)))

/-- The parts of pattern memory in use: the directory, quarantined pages and every loaded segment. -/
def patUsed (s : State) (d : DeckImage) : List (Nat × Nat) :=
  (0, 65536) :: patDead s d ++ s.pgen.psegs.flatMap (fun p => (p.2.table, 16 * p.2.streams.length) :: p.2.streams.map (fun x => (x.2.1, x.2.2)))

/-- The first place of `len` bytes from `at_` on, the used parts being given in ascending order. -/
def fitFrom (len : Nat) : Nat → List (Nat × Nat) → Nat
  | at_, [] => at_
  | at_, (o, n) :: t => if at_ + len ≤ o then at_ else fitFrom len (max at_ (o + n)) t

/-- First-fit allocation of several pieces (R221): their offsets, none where space runs out. -/
def allocate (total : Nat) : List (Nat × Nat) → List Nat → Option (List Nat)
  | _, [] => some []
  | used, len :: t =>
    let o := fitFrom len 0 (used.mergeSort (fun a b => decide (a.1 ≤ b.1)))
    if total < o + len then none else (allocate total ((o, len) :: used) t).map (fun l => o :: l)

/-! PATTERN_LOAD (R220, R221) -/

/-- What an engine finds of a ZLIB stream that must inflate to `n` bytes: the stream without header and trailer, or a detail code; `none`
for one that fails its Adler-32, of which the spec names no code. -/
def loadZlib (n : Nat) (bs : List Byte) : Except (Option Nat) (List Byte) :=
  let r := inflate true (2 ^ 40) bs
  let sizes := (r.ends.zip (0 :: r.ends)).map (fun p => p.1 - p.2)
  match r.stop with
  | .bad c => .error (some c)
  | .short | .full => .error (some 7)
  | .done =>
    if r.adler ≠ some (adlerWord (adlerOn (1, 0) r.out)) then .error none
    else if r.out.length ≠ n ∨ !(sizes.dropLast.all (768 ≤ ·)) then .error (some 0x10)
    else .ok ((bs.drop 2).take (r.used - 6))

/-- Uncompressed input coded block by block after the history, the last one final, in DYNAMIC mode (R196, R220). -/
def codeAll (bs : List Byte) : Nat → List Byte → List Bool → Nat → List Bool × Nat
  | 0, _, out, n => (out, n)
  | fuel + 1, hist, out, n =>
    let b := bs.take 32768
    let t := bs.drop 32768
    let o := out ++ (codeBlock 2 0 n true t.isEmpty out.length hist [b]).bits
    if t.isEmpty then (o, n + 1) else codeAll t fuel (histOn hist b) o (n + 1)

/-- The payloads of a DATA stream of `n` bytes: what a shorter list lacks is open (notes/assumptions/32.md), since such a stream always
passes (R220). -/
def loadData (n k : Nat) (bs : List Byte) : List Byte :=
  bs.take n ++ (List.range (n - bs.length)).map (fun i => Config.freeBits 8 (k + i))

/-- The stored bytes of each engine's stream, or the RESULT of PATTERN_INVALID. -/
def loadStreams (format n : Nat) : List (Nat × List Byte) → Nat → Except (Nat × Nat) (List (Nat × List Byte) × Nat)
  | [], k => .ok ([], k)
  | (e, bs) :: t, k =>
    let here : Except (Nat × Nat) (List Byte × Nat) :=
      if format = 0 then
        match loadZlib n bs with
        | .ok x => .ok (x, k)
        | .error (some c) => .error (256 * e + c, k)
        | .error none => .error (256 * e + (Config.freeBits 8 k).toNat, k + 1)
      else let c := codeAll (loadData n k bs) (n / 32768 + 1) [] [] (k + (n - bs.length)); .ok (packBits c.1, c.2)
    match here with
    | .error x => .error x
    | .ok (x, k1) =>
      match loadStreams format n t k1 with
      | .error y => .error y
      | .ok (l, k2) => .ok ((e, x) :: l, k2)

/-- The buffer-list addresses of the engines set in ENGINES (R356). -/
def loadLists (s : State) (p : PatternLoadParams) : List (Nat × BitVec 64) :=
  let es := bitsOf 32 p.engines.toNat
  (es.zip (List.range es.length)).map (fun x => (x.1, BitVec.ofNat 64 (memNat s.mem.host (p.lists.toNat + 8 * x.2) 8)))

/-- The expect chain of a checker. -/
def chainOf (d : DeckImage) (n : Nat) : List Nat := (List.range (mcNseg d n)).map (fun i => mcPseg d n + i)

/-- Whether checker `n` is in WAIT_SYNC or CHECK. -/
def checkerRuns (s : State) (n : Nat) : Bool := (checkerOf s n).st == .waitSync || (checkerOf s n).st == .check

/-- The segments that PATTERN_LOAD must not replace while playback runs (R221). -/
def psegBusy (s : State) (d : DeckImage) (p : Nat) : Bool :=
  playing s && ((List.range (pbNlist d)).any (fun e => plPseg d e == p) ||
    (List.range 32).any (fun n => checkerRuns s n && (chainOf d n).contains p))

/-- A segment's streams, its stream table and last its directory entry are written (R219, R221). -/
def storePseg (s : State) (d : DeckImage) (p blocks : Nat) (streams : List (Nat × List Byte)) (ofs : List Nat) : State :=
  let place := streams.zip ofs
  let table := ofs.getLastD 0
  let s1 := place.foldl (fun s x => patWrite s d x.2 x.1.2) s
  let s2 := patWrite s1 d table (place.flatMap (fun x => leBytes 4 x.1.1 ++ leBytes 4 x.1.2.length ++ leBytes 8 x.2))
  let s3 := patWrite s2 d (16 * p) (leBytes 4 1 ++ leBytes 4 blocks ++ leBytes 8 table)
  let g : Pseg := { blocks := blocks, table := table, streams := place.map (fun x => (x.1.1, x.2, x.1.2.length)) }
  s3.modPgen (fun x => { x with psegs := assocSet x.psegs p g })

/-- A drover brings the streams, which are checked, coded and stored (R219-R221). -/
def patternLoadGo (h : CmdHdr) (p : PatternLoadParams) (s0 : State) : State :=
  match actDeck s0 with
  | none => refuse s0 h 0x0601 cState 0
  | some d =>
      let n := 32 * p.lenBlocks.toNat
      let ins := (loadLists s0 p).map (fun x => let l := bufList s0 x.2; (x.1, segsRead s0.mem l (segsLen l)))
      let s := drove s0 ((ins.map (fun x => x.2.length)).sum)
      match loadStreams p.format.toNat n ins s.free with
      | .error (r, k) => finish (s.setFree k) h 0x0601 cPattern r 0
      | .ok (l, k) =>
        let s1 := s.setFree k
        match allocate (extentSize * pbExtCnt d) (patUsed s1 d) (l.map (fun x => x.2.length) ++ [16 * l.length]) with
        | none => finish s1 h 0x0601 cNoSpace 0 0
        | some ofs => finish (storePseg s1 d p.pseg.toNat p.lenBlocks.toNat l ofs) h 0x0601 cOk ((l.map (fun x => x.2.length)).sum) 0

def patternLoadBody (h : CmdHdr) (p : PatternLoadParams) (s : State) : State :=
  match actDeck s with
  | none => refuse s h 0x0601 cState 0
  | some d =>
    if psegBusy s d p.pseg.toNat then refuse s h 0x0601 cBusy busyState
    else carry h 0x0601 p.pseg.toNat (.patternLoad h p) (patternLoadGo h p) s

/-- Whether the active deck has a PLAYBACK section (R356). -/
def hasPlayback (s : State) : Bool := match actDeck s with | some d => pbHas d | none => false

/-- What R345 checks of PATTERN_LOAD. -/
def patternLoadChecks (h : CmdHdr) (p : PatternLoadParams) (s : State) : Checks :=
  { op := 0x0601
    fields := [cflagsOk h 0, (8, decide (p.pseg.toNat < 4096)), (10, decide (p.format.toNat ≤ 1)),
      (12, decide (64 ≤ p.lenBlocks.toNat) && decide (p.lenBlocks.toNat ≤ 2 ^ 26)), (16, p.engines != 0),
      (24, (loadLists s p).all (fun x => bufOk s x.2))]
    deck := true, deckPart := hasPlayback s
    held := (holderOp s [0x0203, 0x0204]).or (holderObj s [0x0601] p.pseg.toNat) }

/-- PATTERN_LOAD (R220, R221, R356). -/
def execPatternLoad (h : CmdHdr) (p : PatternLoadParams) (s : State) : Host.Outcome State Fault Refusal :=
  .next (startCmd h (patternLoadChecks h p s)
    none (patternLoadBody h p) s)

/-! Expected samples (R229, R231) -/

/-- The EXPECT engine of quarter `q` of checker `n`. -/
def expEngine (d : DeckImage) (n q : Nat) : Option Nat :=
  (List.range 32).find? (fun e => pbRole d e == 2 && pbTarget d e == n && pbQuarter d e == q)

/-- The number N of expected samples of checker `n`. -/
def expCount (s : State) (d : DeckImage) (n : Nat) : Nat :=
  16 * ((chainOf d n).map (fun p => ((psegOf s p).map Pseg.blocks).getD 0)).sum

/-- Block `b` of a chain of segments: the segment and the block within it. -/
def chainBlock (s : State) : List Nat → Nat → Option (Pseg × Nat)
  | [], _ => none
  | p :: t, b =>
    match psegOf s p with
    | none => chainBlock s t b
    | some g => if b < g.blocks then some (g, b) else chainBlock s t (b - g.blocks)

/-- The 256-bit payload of block `i` of engine `e`'s stream in a segment. -/
def streamBlock (s : State) (d : DeckImage) (g : Pseg) (e i : Nat) : Option Nat :=
  (streamOf g e).map (fun x => leNat (((inflate false (32 * g.blocks) (patRead s d x.1 x.2)).out.drop (32 * i)).take 32))

/-- The 256-bit payload of expected block `b` of quarter `q`. -/
def expPayload (s : State) (d : DeckImage) (n q b : Nat) : Nat :=
  match expEngine d n q, chainBlock s (chainOf d n) b with
  | some e, some (g, i) => (streamBlock s d g e i).getD 0
  | _, _ => 0

/-- The expected value e(y) of the channel at place `o` of checker `n`. -/
def expAt (s : State) (d : DeckImage) (n o y : Nat) : Bool := nbit (expPayload s d n (o / 16) (y / 16)) (16 * (y % 16) + o % 16)

/-- The compared channels: place among the checker's channels, and channel. -/
def compared (d : DeckImage) (n : Nat) : List (Nat × Nat) :=
  (List.range (64 * mcNinst d n)).filterMap (fun o =>
    let c := pCmpChan d (mcInst d n (o / 64)) + o % 64
    if mcMask d n c then some (o, c) else none)

/-- The channels that fail at captured sample `i` (R231), ascending as the checker lists them. -/
def failing (s : State) (d : DeckImage) (n i : Nat) : List Nat :=
  let x := i - (checkerOf s n).s0
  let k := mcTol d n
  let top := expCount s d n - 1
  (compared d n).filterMap (fun p =>
    let v := chanAt s d p.2 i
    let ok := (List.range (2 * k + 1)).any (fun j => expAt s d n p.1 (min (x + j - k) top) == v.1)
    if v.2 || ok then none else some p.2)

/-! What the positions play (R222, R223) -/

/-- The DRIVE engine of transmit position `p`. -/
def driveEngine (d : DeckImage) (p : Nat) : Option Nat :=
  if pbHas d then (List.range 32).find? (fun e => pbRole d e == 1 && pbTarget d e == p) else none

/-- The REST word of position `p`, 0 where no engine names it (R222). -/
def restWord (d : DeckImage) (p : Nat) : BitVec 16 :=
  match driveEngine d p with
  | some e => BitVec.ofNat 16 (pbRest d e)
  | none => 0

/-- A block with one word in every sample. -/
def wordBlock (w : BitVec 16) : BitVec 256 := BitVec.ofNat 256 (w.toNat * ((2 ^ 256 - 1) / 65535))

/-- The positions that a DRIVE engine plays. -/
def drivenPos (d : DeckImage) : List Nat := (List.range 32).filter (fun p => (driveEngine d p).isSome)

/-- What position `p` plays in block `b` of segment `g`: its stream, or its REST word where the segment holds none for its engine. -/
def playBlock (s : State) (d : DeckImage) (g b p : Nat) : BitVec 256 :=
  match driveEngine d p, psegOf s g with
  | some e, some x =>
    match streamBlock s d x e b with
    | some v => BitVec.ofNat 256 v
    | none => wordBlock (restWord d p)
  | _, _ => wordBlock (restWord d p)

/-- LEN_BLOCKS of the segment of list entry `e`. -/
def passLen (s : State) (d : DeckImage) (e : Nat) : Nat := ((psegOf s (plPseg d e)).map Pseg.blocks).getD 0

/-- The blocks of the pass up to number `n` are played; their engines count their output. -/
def playTo (s : State) (d : DeckImage) (n : Nat) : State :=
  let p := s.pgen
  if n ≤ p.block then s
  else
    let g := plPseg d p.entry
    let out (s : State) (q : Nat) : State :=
      match driveEngine d q, psegOf s g with
      | some e, some x =>
        if (streamOf x e).isSome then wr64 s (Reg.DCMP_OUT_LO e) (rd64 s (Reg.DCMP_OUT_LO e) + 32 * (n - p.block)) else s
      | _, _ => s
    ((drivenPos d).foldl out s).setPgen { p with block := n, lastBlock := some (g, n - 1) }

/-! The end of playback (R226) -/

/-- The word that each position holds with STOP_MODE HOLD: the last sample of each channel. -/
def heldWords (s : State) (d : DeckImage) : List (Nat × BitVec 16) :=
  match s.pgen.lastBlock with
  | none => s.pgen.held
  | some (g, b) => (drivenPos d).map (fun p => (p, (playBlock s d g b p).extractLsb' 240 16))

/-- Playback ends at a block slot, from which each position sends its REST word or what it holds; the commands that wait for it complete. -/
def playEnd (s : State) : State :=
  if s.pgen.st = .run then
    let p := s.pgen
    let held := match actDeck s with | some d => if p.hold then heldWords s d else [] | none => []
    let s1 := (raiseBit s Reg.PGEN_STATUS 1).setPgen { p with
      st := .idle, lastEntry := p.entry, next := none, decided := false, stopping := false, stops := [], wait := 0, block := 0
      lastBlock := none, held := held }
    p.stops.foldl (fun s w => endRun s w.ring w.cid cOk p.entry 0) s1
  else s

/-! Mask checkers (R229-R233) -/

/-- SRC and owner code of checker `n`. -/
def checkerSrc (n : Nat) : Nat := 0x0430 + n
def checkerOwner (n : Nat) : BitVec 12 := BitVec.ofNat 12 (0x1E0 + n)

/-- Word 0 of a mask-check record (Table 9-1). -/
def maskWord0 (n nviol : Nat) : Word := BitVec.ofNat 32 (3 * 2 ^ 28 + n * 2 ^ 23 + nviol)

/-- The record of the window in hand goes to LOG_EQ where ACTIONS has LOG; a lost one is counted, class D (R232, R233). -/
def windowOut (s : State) (d : DeckImage) (n : Nat) : State :=
  let x := checkerOf s n
  match x.window with
  | none => s
  | some (_, nviol, first, nfail, ch) =>
    let s1 := setChecker s n { x with window := none }
    if !nbit (mcActions d n) 0 then s1
    else
      let ws := recordWords (maskWord0 n nviol) (timeWord (gridT s first) (checkerSrc n)) (BitVec.ofNat 32 (nfail * 65536 + ch))
        (BitVec.ofNat 32 (first - x.s0)) (rd s (Reg.MCHK_VIOL_CNT n))
      let r := eqItem s1 (mcLogEq d n) (checkerOwner n) ws
      if r.2 then r.1
      else
        let o := Reg.MCHK_REC_LOST n
        let s2 := incCnt r.1 o 1
        logAdd (useFree s2) 1 2 (checkerSrc n) (unitCode o n) (leBytes 2 (freeVal 16 s2).toNat ++ leBytes 2 (o - blockBase o))

/-- The checker leaves CHECK or WAIT_SYNC: a window cut short is written. -/
def leaveCheck (s : State) (d : DeckImage) (n : Nat) (st : CheckState) : State :=
  let s1 := windowOut s d n
  setChecker s1 n { checkerOf s1 n with st := st }

/-- The sample group that the hands evaluate in the fclk of checker `n`'s verdict for sample `i`: its first sample (R65, R232). -/
def verdictSample (s : State) (d : DeckImage) (n i : Nat) : Sample :=
  let lat := ((latEntries d).find? (fun e => e.1 == 2 && e.2.1 == n)).map (fun e => e.2.2)
  groupLen s * (i / groupLen s + lat.getD 0 - 88)

/-- The actions of a violation (R232): `first` for the first one. -/
def violationActs (s : State) (d : DeckImage) (n i : Nat) (first : Bool) : State :=
  let a := mcActions d n
  let s1 := if nbit a 2 then
      s.setHands ((List.range 32).foldl (fun t h => tabMod {} t h (fun x => { x with latches := (n, verdictSample s d n i) :: x.latches })) s.hands)
    else s
  if !first then s1
  else
    let g := mcStopGrp d n
    let sd := verdictSample s d n i
    let s2 := if nbit a 1 then handsIdle (disarmGroup sd (settleAll s1 d [g] sd) g) d else s1
    if nbit a 3 then playEnd s2 else s2

/-- The EXPECT engines of checker `n` put out a block each, where expected sample `x` begins one. -/
def expOut (s : State) (d : DeckImage) (n x : Nat) : State :=
  if x % 16 ≠ 0 then s
  else ((List.range 32).filter (fun e => pbRole d e == 2 && pbTarget d e == n)).foldl
    (fun s e => wr64 s (Reg.DCMP_OUT_LO e) (rd64 s (Reg.DCMP_OUT_LO e) + 32)) s

/-- Captured sample `i` is compared (R231, R232). -/
def checkOne (d : DeckImage) (n i : Nat) (s : State) : State :=
  let x := checkerOf s n
  let done := (rd s (Reg.MCHK_CMP n)).toNat
  if x.st ≠ .check ∨ i < x.s0 ∨ expCount s d n ≤ done then s
  else
    let f := failing s d n i
    let s0 := wr (expOut s d n done) (Reg.MCHK_CMP n) (BitVec.ofNat 32 (done + 1))
    if f.isEmpty then s0
    else
      let old := match x.window with | some w => w.1 != i / 32 | none => false
      let s1 := if old then windowOut s0 d n else s0
      let y := checkerOf s1 n
      let w := match y.window with
        | some (k, nv, first, nf, ch) => (k, nv + 1, first, nf, ch)
        | none => (i / 32, 1, i, f.length, (f.min?).getD 0)
      let s2 := incCnt (raiseBit (setChecker s1 n { y with window := some w, firstSeen := true }) (Reg.MCHK_STATUS n) 1)
        (Reg.MCHK_VIOL_CNT n) 1
      let s3 := if x.firstSeen then s2 else wr64 s2 (Reg.MCHK_FIRST_LO n) i
      violationActs s3 d n i (!x.firstSeen)

/-- Checker `n` compares every captured sample up to `i`. -/
def checkTo (s : State) (d : DeckImage) (n i : Nat) : State :=
  let x := checkerOf s n
  let next := x.s0 + (rd s (Reg.MCHK_CMP n)).toNat
  if x.st = .check then stepN (checkOne d n) i (i + 1 - next) s else s

/-- CHECKER_VIOLATION (R231, R232): the checker compares the samples up to `i`. -/
def execCheckerViolation (n : Fin 32) (i : Sample) (s : State) : Host.Outcome State Fault Refusal :=
  match actDeck s with
  | none => .next s
  | some d => .next (checkTo s d n i)

/-- The sync sample (R230): the first one from `a` on, among `k`, at which SYNC has RES = 1. -/
def syncAt (s : State) (d : DeckImage) (n a k : Nat) : Option Sample :=
  ((List.range k).map (a + ·)).find? (fun i => (recAt s d (mcSync d n) i).res)

/-- CHECKER_SYNC (R230). -/
def checkerSync (n : Nat) (i : Sample) (s0 : State) (d : DeckImage) : State :=
  let s := noteEval s0 d i
  let x := checkerOf s n
  if x.st ≠ .waitSync then pumpAll s
  else
    match syncAt s d n x.from_ (i + 1 - x.from_) with
    | none => pumpAll s
    | some y =>
      let s1 := setChecker s n { x with st := .check, s0 := y + mcSyncOfs d n, window := none, firstSeen := false }
      pumpAll (raiseBit (wr (wr64 s1 (Reg.MCHK_SYNC_LO n) y) (Reg.MCHK_CMP n) 0) (Reg.MCHK_STATUS n) 0)

def execCheckerSync (n : Fin 32) (i : Sample) (s : State) : Host.Outcome State Fault Refusal :=
  match actDeck s with
  | none => .next s
  | some d => .next (checkerSync n i s d)

/-- MASK_CHECK_RECORD (R233): window `w` has had its last verdict. -/
def maskRecord (n w : Nat) (s : State) (d : DeckImage) : State :=
  let x := checkerOf s n
  match x.window with
  | some (k, _) => if k = w ∧ 32 * w + 32 ≤ x.s0 + (rd s (Reg.MCHK_CMP n)).toNat then windowOut s d n else s
  | none => s

def execMaskCheckRecord (n : Fin 32) (w : Nat) (s : State) : Host.Outcome State Fault Refusal :=
  match actDeck s with
  | none => .next s
  | some d => .next (maskRecord n w s d)

/-- CHECKER_DONE (R230): the samples up to s_0 + N − 1 that are left are compared, and the checker enters DONE. -/
def checkerDone (n : Nat) (s : State) (d : DeckImage) : State :=
  let x := checkerOf s n
  if x.st = .check then
    raiseBit (leaveCheck (if expCount s d n = 0 then s else checkTo s d n (x.s0 + expCount s d n - 1)) d n .done) (Reg.MCHK_STATUS n) 2
  else s

def execCheckerDone (n : Fin 32) (s : State) : Host.Outcome State Fault Refusal :=
  match actDeck s with
  | none => .next s
  | some d => .next (checkerDone n s d)

/-! PATTERN_PLAY (R225) -/

/-- The entries reachable from those of `l` in `n` further steps (R223). -/
def reachable (d : DeckImage) : Nat → List Nat → List Nat
  | 0, l => l
  | n + 1, l =>
    let next (e : Nat) : List Nat :=
      (if plRepeat d e ≠ 0 ∧ plNext d e ≠ 0xFFFF then [plNext d e] else []) ++ (if nbit (plBranch d e) 0 then [plTarget d e] else [])
    let l1 := (l ++ l.flatMap next).eraseDups
    if l1.length = l.length then l else reachable d n l1

/-- Every segment that a PATTERN_PLAY needs is loaded, with a stream for each EXPECT engine that reads it. -/
def playLoaded (s : State) (d : DeckImage) (p : PatternPlayParams) : Bool :=
  ((reachable d (pbNlist d) [p.entry.toNat]).map (plPseg d)).all (fun g => (psegOf s g).isSome) &&
    (bitsOf 32 p.checkers.toNat).all (fun n => (chainOf d n).all (fun g =>
      match psegOf s g with
      | none => false
      | some x => (List.range 32).all (fun e => !(pbRole d e == 2 && pbTarget d e == n) || (streamOf x e).isSome)))

/-- An engine that a PATTERN_PLAY needs is quarantined (R225, R228). -/
def playFaulty (s : State) (d : DeckImage) (p : PatternPlayParams) : Bool :=
  s.comp.dQuar.any (fun e => pbRole d e == 1 || (pbRole d e == 2 && nbit p.checkers.toNat (pbTarget d e)))

/-- L_LANE, the playback lane latency (R61, R225). -/
def laneLat (d : DeckImage) : Nat := (((latEntries d).find? (fun e => e.1 == 3)).map (fun e => e.2.2)).getD 0

def patternPlayBody (h : CmdHdr) (p : PatternPlayParams) (s : State) : State :=
  match actDeck s with
  | none => refuse s h 0x0602 cState 0
  | some d =>
    if playing s then refuse s h 0x0602 cBusy busyState
    else if !playLoaded s d p then refuse s h 0x0602 cPattern 0
    else if playFaulty s d p then refuse s h 0x0602 cEngine 0
    else
      let flag := p.start == 1
      (keepRunning s h 0x0602 0 0).modPgen (fun x => { x with
        st := .prefill, wait := dkLPlay d - laneLat d
        entry := p.entry.toNat, pass := 0, next := none, decided := false, hold := p.stopMode == 1, stopping := false
        startFlag := if flag then some (p.startFlag.toNat % 32, nbits p.startFlag.toNat 6 5) else none
        checkers := p.checkers, cmd := some (h.ring, h.cid) })

/-- What R345 checks of PATTERN_PLAY. -/
def patternPlayChecks (h : CmdHdr) (p : PatternPlayParams) (s : State) : Checks :=
  let obj (f : DeckImage → Bool) : Bool := match actDeck s with | some d => f d | none => true
  { op := 0x0602
    fields := [cflagsOk h 0, (10, decide (p.start.toNat ≤ 1)), (11, decide (p.stopMode.toNat ≤ 1)),
      (12, decide (p.startFlag.toNat < 128) && (p.start == 1 || p.startFlag == 0))]
    dagger := true, deck := true, deckPart := hasPlayback s
    objects := [(8, obj (fun d => decide (p.entry.toNat < pbNlist d))),
      (12, obj (fun d => p.start != 1 || hEn d (p.startFlag.toNat % 32))),
      (16, obj (fun d => (bitsOf 32 p.checkers.toNat).all (mcEn d)))]
    blocks := [0xD, 0xE], held := (holderOp s [0x0203, 0x0204, 0x0103]).or (holderOp s [0x0602]) }

/-- PATTERN_PLAY (R225, R356). -/
def execPatternPlay (h : CmdHdr) (p : PatternPlayParams) (s : State) : Host.Outcome State Fault Refusal :=
  .next (startCmd h (patternPlayChecks h p s)
    (some (.patternPlay h p)) (patternPlayBody h p) s)

/-! PATTERN_STOP (R226) -/

/-- The checkers that PATTERN_PLAY named stop at sample `i`. -/
def stopCheckers (s : State) (d : DeckImage) (i : Sample) : State :=
  (bitsOf 32 s.pgen.checkers.toNat).foldl (fun s n =>
    if checkerRuns s n then
      let s1 := if i = 0 then s else checkTo s d n (i - 1)
      leaveCheck s1 d n .stopped
    else s) s

def patternStopBody (h : CmdHdr) (mode : Byte) (i : Sample) (s : State) : State :=
  match actDeck s with
  | none => refuse s h 0x0603 cState 0
  | some d =>
    let p := s.pgen
    match p.st with
    | .idle => finish s h 0x0603 cOk p.lastEntry 0
    | .prefill | .waitStart =>
      let s1 := s.setPgen { p with st := .idle, cmd := none }
      let s2 := match p.cmd with | some c => endRun s1 c.1 c.2 cAborted 0 0 | none => s1
      finish s2 h 0x0603 cOk p.lastEntry 0
    | .run =>
      let s1 := stopCheckers s d i
      if mode = 0 ∨ s1.pgen.st ≠ .run then
        let s2 := playEnd s1
        finish s2 h 0x0603 cOk s2.pgen.lastEntry 0
      else (keepRunning s1 h 0x0603 0 0).modPgen (fun x => { x with stopping := true, stops := x.stops ++ [{ ring := h.ring, cid := h.cid }] })

/-- What R345 checks of PATTERN_STOP. -/
def patternStopChecks (h : CmdHdr) (mode : Byte) (s : State) : Checks :=
  { op := 0x0603, fields := [cflagsOk h 0, (8, decide (mode.toNat ≤ 1))], deck := true, deckPart := hasPlayback s, blocks := [0xD, 0xE] }

/-- PATTERN_STOP (R226, R356). -/
def execPatternStop (h : CmdHdr) (mode : Byte) (i : Sample) (s : State) : Host.Outcome State Fault Refusal :=
  .next (startCmd h (patternStopChecks h mode s)
    none (patternStopBody h mode i) s)

/-! Passes (R223, R224, R226) -/

/-- The next pass of the list, or its end; `i` is the first sample of the group that the hands evaluate in the decision fclk. -/
def nextPass (s : State) (d : DeckImage) (i : Sample) : Option (Nat × Nat) :=
  let e := s.pgen.entry
  let b := plBranch d e
  let flag := flagSeen s d (nbits b 5 1) (nbits b 7 6) i
  if nbit b 0 && flag == nbit b 8 then some (plTarget d e, 1)
  else if plRepeat d e = 0 ∨ s.pgen.pass < plRepeat d e then some (e, s.pgen.pass + 1)
  else if plNext d e = 0xFFFF then none
  else some (plNext d e, 1)

/-- The decision fclk of a pass, 128 fclk before its end: the blocks before it have been played. -/
def passDecision (i : Sample) (s : State) (d : DeckImage) : State :=
  if s.pgen.st = .run ∧ !s.pgen.decided then
    let s1 := playTo s d (passLen s d s.pgen.entry - 32)
    s1.setPgen { s1.pgen with next := nextPass s d i, decided := true }
  else s

/-- PASS_DECISION (R223). -/
def execPassDecision (s : State) (i : Sample := 0) : Host.Outcome State Fault Refusal :=
  match actDeck s with
  | none => .next s
  | some d => .next (passDecision i s d)

/-- PASS_END (R223, R226): every block of the pass has been played. -/
def passEnd (s0 : State) : State :=
  let s := match actDeck s0 with
    | some d => if s0.pgen.st = .run ∧ (s0.pgen.stopping ∨ s0.pgen.decided) then playTo s0 d (passLen s0 d s0.pgen.entry) else s0
    | none => s0
  let p := s.pgen
  if p.st ≠ .run then s
  else if p.stopping then playEnd s
  else if !p.decided then s
  else
    match p.next with
    | none => playEnd s
    | some (e, n) => s.setPgen { p with entry := e, pass := n, next := none, decided := false, block := 0 }

def execPassEnd (s : State) : Host.Outcome State Fault Refusal := .next (passEnd s)

/-! Block slots (R223, R225) -/

/-- The first sample of the group that the hands evaluate in this fclk (R65, R148). -/
def handNow (s : State) : Sample := handCount s - groupLen s

/-- A block slot while playback runs: a pass that has been played ends, the decision falls 32 blocks before the end, and every position plays a
block, which leaves its lane L_LANE + 4 fclk later. -/
def playSlot (s : State) (d : DeckImage) : State :=
  let s1 := if passLen s d s.pgen.entry ≤ s.pgen.block then passEnd s else s
  if s1.pgen.st = .run then
    let b := s1.pgen.block
    let s2 := if passLen s1 d s1.pgen.entry ≤ b + 32 then passDecision (handNow s1) s1 d else s1
    let out := (drivenPos d).map (fun p => (p, playBlock s2 d (plPseg d s2.pgen.entry) b p))
    playTo (s2.modPgen (fun p => { p with pipe := p.pipe ++ [(laneLat d + 4, out)] })) d (b + 1)
  else s1

/-- The fclk from now to the first block slot that PATTERN_PLAY allows (R225): slots are the fclk whose deal cycle is a multiple of 4. -/
def toSlot (s : State) : Nat := s.pgen.wait + (4 - (s.deck.cycle + s.pgen.wait) % 4) % 4

/-- PLAYBACK_START (R225, R230): P0 is the first block slot that PATTERN_PLAY allows, with START FLAG one in which playback sees the flag at 1
(R224). -/
def playbackStart (i : Sample) (s : State) (d : DeckImage) : State :=
  let p := s.pgen
  let seen := match p.startFlag with | some (h, j) => flagSeen s d h j i | none => true
  if (p.st = .prefill ∨ p.st = .waitStart) ∧ seen = true then
    let t := (now s + toSlot s * fclkT) % timeMod
    let s1 := s.setPgen { p with st := .run, pass := 1, next := none, decided := false, cmd := none, wait := toSlot s, block := 0
                                 lastBlock := none }
    let s2 := wr (wr64 (raiseBit s1 Reg.PGEN_STATUS 0) Reg.PGEN_START_LO (t / 65536)) Reg.PGEN_START_FRAC (BitVec.ofNat 32 (t % 65536))
    let s3 := (bitsOf 32 p.checkers.toNat).foldl (fun s n =>
      wr (setChecker s n { st := .waitSync, from_ := i }) (Reg.MCHK_CMP n) 0) s2
    let s4 := match p.cmd with
      | some c =>
        let w := timeWord t 0x0482
        endRun s3 c.1 c.2 cOk (w % 2 ^ 32) (w / 2 ^ 32)
      | none => s3
    if toSlot s = 0 then playSlot s4 d else s4
  else s

def execPlaybackStart (i : Sample) (s : State) : Host.Outcome State Fault Refusal :=
  match actDeck s with
  | none => .next s
  | some d => .next (playbackStart i s d)

/-- One fclk of playback (R223, R225): the FIFOs fill until P0 can come, P0 comes in its block slot, and the slots of the passes follow. -/
def tickPlay (s : State) : State :=
  let s1 := s.modPgen (fun p => { p with
    pipe := (p.pipe.filter (fun x => decide (1 < x.1))).map (fun x => (x.1 - 1, x.2)), wait := p.wait - 1 })
  match actDeck s1 with
  | none => s1
  | some d =>
    if s1.pgen.wait ≠ 0 then s1
    else
      let slot := s1.deck.cycle % 4 == 0
      match s1.pgen.st with
      | .idle => s1
      | .run => if slot then playSlot s1 d else s1
      | .prefill | .waitStart =>
        let s2 := if s1.pgen.startFlag.isSome then s1.modPgen (fun p => { p with st := .waitStart }) else s1
        if slot then playbackStart (handNow s2) s2 d else s2

/-! Underruns (R227) -/

/-- The detail code of a stream that ends in a DATA_ERROR reaches DCMP_STATE (R208, R227). -/
def streamDetail (s : State) (e detail : Nat) : State :=
  if detail = 0 then s
  else
    let s1 := wrF s (Reg.DCMP_STATE e) 15 8 detail
    if detail < 8 then incCnt (raiseBit s1 (Reg.DCMP_STATUS e) 0) (Reg.DCMP_ERR_CNT e) 1 else s1

/-- Engine `e` has no block in its slot: a drive engine ends playback, an expect engine stops its checker. Both are class D. -/
def underrun (s : State) (d : DeckImage) (e detail : Nat) : State :=
  if pbRole d e = 1 then
    if s.pgen.st = .run then
      let s1 := wr (streamDetail s e detail) Reg.PGEN_UR_POS (BitVec.ofNat 32 (pbTarget d e))
      playEnd (raiseErr s1 Reg.PGEN_STATUS 2 2 0x0480 (pbTarget d e))
    else s
  else if pbRole d e = 2 ∧ checkerRuns s (pbTarget d e) then
    let n := pbTarget d e
    raiseErr (leaveCheck (streamDetail s e detail) d n .stopped) (Reg.MCHK_STATUS n) 3 2 (checkerSrc n) n
  else s

/-- PLAYBACK_UNDERRUN (R227). -/
def execPlaybackUnderrun (e : Fin 32) (detail : Byte) (s : State) : Host.Outcome State Fault Refusal :=
  match actDeck s with
  | none => .next s
  | some d => .next (underrun s d e detail.toNat)

end Sys2Proof.Machine
end

