-- ==== Sys2Proof/Machine/Readout.lean ====
section
/-!
DEFINITION. Readout (R204, R205, R331-R336, R354): READ_FOLD, READ_RANGE and READ_INDEX, the drovers that carry them, and the verification
of compressed pages.
-/

namespace Sys2Proof.Machine

/-! Segments and their units -/

/-- Segment `k` of fold `f` is closed: its descriptor has V = 1 (R175). -/
def segClosed (s : State) (f k : Nat) : Bool := (assoc s.folds.closedUnits (f * 65536 + k)).isSome

/-- The number of the open segment of group `g`. -/
def segOpen (s : State) (g : Nat) : Option Nat := (grpOf s g).seg.map SegSt.seg

/-- The units that segment `k` of fold `f` retains. -/
def segUnits (s : State) (f k : Nat) : List UnitRec :=
  match assoc s.folds.closedUnits (f * 65536 + k) with
  | some fs => fs.units
  | none => if (foldOf s f).seg = k then (foldOf s f).units else []

/-- Capture pages that a compressed page holds, and the page at place `i`. -/
def compCount (d : DeckImage) (r : UnitRec) : Nat := (r.last / pageLen d - rangePage r.num r.inst 0) / 4 + 1

/-- Units in page-index order: substream after substream, each in its ring order (R333, R354). -/
def subUnits (d : DeckImage) (f sub : Nat) (us : List UnitRec) : List UnitRec :=
  if sub = 0xFF then (List.range (4 * fNinst d f)).flatMap (fun u => us.filter (fun r => r.inst == u))
  else us.filter (fun r => r.inst == sub)

/-- Capture pages of compressed units in the order of PAGES (R354). -/
def inflatedOrder (d : DeckImage) (us : List UnitRec) : List (UnitRec × Nat) :=
  (us.flatMap (fun r => (List.range (compCount d r)).map (fun i => (r, i)))).mergeSort (fun a b =>
    decide (64 * rangePage a.1.num a.1.inst a.2 + a.1.inst / 4 ≤ 64 * rangePage b.1.num b.1.inst b.2 + b.1.inst / 4))

/-! What is read -/

/-- A page judged against its brand (R334, R335): page number, byte 6 of its list entry, FLAGGED, VOID, BLOCKED, failure to inflate,
brand, computed CRC-32C, and whether HBM gave it with an uncorrectable error. -/
structure Judged where
  num : Nat
  who : Nat
  flagged : Bool
  void : Bool
  blocked : Bool
  fail : Bool
  brand : Nat
  crc : Nat
  ecc : Bool
deriving DecidableEq, Repr

def Judged.bad (j : Judged) : Bool := j.fail || j.ecc || j.brand != j.crc

/-- One piece of a delivery: the unit it comes from, its bytes, the pages judged, its first and last sample, and its marks; `counts` where it is
a page of Table 14-6. -/
structure Chunk where
  unit : Option UnitRec
  bytes : List Byte
  judged : List Judged := []
  counts : Bool := true
  first : Sample := 0
  last : Sample := 0
  flagged : Bool := false
  void : Bool := false
  blocked : Bool := false
deriving DecidableEq, Repr

/-- Whether a word with an uncorrectable error lies in `n` bytes of logical space from `x`. -/
def logicalBad (s : State) (d : DeckImage) (f x n : Nat) : Bool :=
  hbmBad s (foldAddr s d f x) n

/-- A page with its brand entry `e`. -/
def judge1 (num who e : Nat) (fail ecc : Bool) (crc : Nat) : Judged :=
  { num := num, who := who, flagged := nbit e 32, void := nbit e 33, blocked := nbit e 34, fail := fail, brand := e % 2 ^ 32,
    crc := if fail then 0 else crc, ecc := ecc }

/-- The brand entry of a raw or record page. -/
def rawBrand (s : State) (d : DeckImage) (f k : Nat) (r : UnitRec) : Nat := leNat (getLogical s d f (brandBase d f k + r.ofs / 512) 8)

/-- A capture or record page as stored, checked in line (R333, R334). -/
def pageChunk (s : State) (d : DeckImage) (f k : Nat) (r : UnitRec) : Chunk :=
  let x := dataBase d f k + r.ofs
  let bs := getLogical s d f x 4096
  let j := judge1 r.num (if fRed d f = 0 then r.inst else 0xFF) (rawBrand s d f k r) false (logicalBad s d f x 4096) (crc32c bs).toNat
  { unit := some r, bytes := bs, judged := [j], first := r.first, last := r.last, flagged := j.flagged, void := j.void,
    blocked := j.blocked }

/-- The bytes of a compressed page, and its index entry. -/
def compBytes (s : State) (d : DeckImage) (f k : Nat) (r : UnitRec) : List Byte :=
  getRing s d f (dataBase d f k + r.inst * subArea d f) (subArea d f) r.ofs r.len
def compEntry (s : State) (d : DeckImage) (f k : Nat) (r : UnitRec) : List Byte :=
  getLogical s d f (indexBase d f k + r.inst * idxArea d f + 32 * r.ix) 32

/-- The capture pages that a compressed page inflates to; `none` where it fails (R205). -/
def compInflate (s : State) (d : DeckImage) (f k : Nat) (r : UnitRec) : Option (List Byte) :=
  let x := inflate false (2 ^ 21) (compBytes s d f k r)
  if (x.stop = .short ∨ x.stop = .done) ∧ x.out.length = 4096 * compCount d r ∧
      !logicalBad s d f (dataBase d f k + r.inst * subArea d f + r.ofs) r.len then some x.out
  else none

/-- Capture page `i` of a compressed page, judged by readout verification (R205). -/
def compJudged (s : State) (d : DeckImage) (f k : Nat) (r : UnitRec) (out : Option (List Byte)) (i : Nat) : Judged :=
  let e := leNat (getLogical s d f (brandBase d f k + r.inst * brandArea d f + 2048 * r.ix + 8 * i) 8)
  judge1 (rangePage r.num r.inst i) r.inst e out.isNone false
    (match out with | some bs => (crc32c ((bs.drop (4096 * i)).take 4096)).toNat | none => 0)

/-- A compressed page as stored, its index entry before it where `entry`, and its capture pages judged where `check`. -/
def compChunk (s : State) (d : DeckImage) (f k : Nat) (entry check : Bool) (r : UnitRec) : Chunk :=
  let e := compEntry s d f k r
  let out := if check then compInflate s d f k r else none
  let fl := leAt e 7 1
  { unit := some r, bytes := (if entry then e else []) ++ compBytes s d f k r,
    judged := if check then (List.range (compCount d r)).map (compJudged s d f k r out) else [],
    first := r.first, last := r.last, flagged := nbit fl 1, void := nbit fl 2 }

/-- Capture page `i` of a compressed page, inflated. What is delivered for a page that fails to inflate is open
(notes/assumptions/10.md). -/
def inflChunk (s : State) (d : DeckImage) (f k : Nat) (p : UnitRec × Nat) : Chunk :=
  let r := p.1
  let out := compInflate s d f k r
  let j := compJudged s d f k r out p.2
  let n := rangePage r.num r.inst p.2
  { unit := some r,
    bytes := match out with
      | some bs => (bs.drop (4096 * p.2)).take 4096
      | none => leBytes 4096 (Config.freeBits 32768 s.free).toNat
    judged := [j], first := pageFirst d n, last := pageLast d n, flagged := j.flagged, void := j.void, blocked := j.blocked }

/-- One zlib stream of compressed pages (R204). -/
def zlibChunks (s : State) (d : DeckImage) (f k : Nat) (us : List UnitRec) : List Chunk :=
  let out := us.flatMap (fun r => (compInflate s d f k r).getD [])
  [{ unit := none, bytes := zlibHeader, counts := false }] ++ us.map (compChunk s d f k false true) ++
    [{ unit := none, bytes := [0x03, 0x00] ++ beBytes4 (adlerWord (adlerOn (1, 0) out)), counts := false }]

/-- The entries of a sidecar part, as stored (R333): the brand table, the void sidecar or the page index; the descriptor whole. -/
def sidecarChunks (s : State) (d : DeckImage) (f k part sub : Nat) (us : List UnitRec) : List Chunk :=
  let one (r : UnitRec) (x n : Nat) (a b : Sample) : Chunk := { unit := some r, bytes := getLogical s d f x n, first := a, last := b }
  if part = 0 then [{ unit := none, bytes := getLogical s d f (segBase d f k) 4096, counts := false }]
  else if fIsComp d f then
    (subUnits d f sub us).flatMap (fun r =>
      if part = 3 then [one r (indexBase d f k + r.inst * idxArea d f + 32 * r.ix) 32 r.first r.last]
      else (List.range (compCount d r)).map (fun i =>
        let n := rangePage r.num r.inst i
        if part = 1 then one r (brandBase d f k + r.inst * brandArea d f + 2048 * r.ix + 8 * i) 8 (pageFirst d n) (pageLast d n)
        else one r (voidBase d f k + r.inst * voidArea d f + 4096 * r.ix + 16 * i) 16 (pageFirst d n) (pageLast d n)))
  else if part = 1 then us.map (fun r => one r (brandBase d f k + r.ofs / 512) 8 r.first r.last)
  else if part = 2 ∧ fRed d f = 0 then us.map (fun r => one r (voidBase d f k + r.ofs / 256) 16 r.first r.last)
  else []

/-- `count` from `first` on; 0 means to the end. -/
def slice {α : Type} (first count : Nat) (l : List α) : List α :=
  let t := l.drop first
  if count = 0 then t else t.take count

/-- How many units FIRST counts (R354). -/
def readUnits (d : DeckImage) (f format part sub : Nat) (us : List UnitRec) : Nat :=
  if format = 0 then us.length
  else if format = 3 then (inflatedOrder d (subUnits d f sub us)).length
  else if format = 4 then
    if fIsComp d f ∧ part ≠ 3 then ((subUnits d f sub us).map (compCount d)).sum
    else if fIsComp d f then (subUnits d f sub us).length
    else if part = 1 ∨ (part = 2 ∧ fRed d f = 0) then us.length
    else 0
  else (subUnits d f sub us).length

/-- Whether the grid time of a sample lies within 131 units of `t` (R46, R336). -/
def boundAmbig (s : State) (t : Time) : Bool :=
  let i := sampleFrom s t
  decide (gridT s i ≤ t + 131) || (decide (gridT s (i - 1) ≤ t) && decide (t ≤ gridT s (i - 1) + 131))

/-- The sample bounds [s0, s1) of a READ_RANGE (R336). -/
def rangeBounds (s : State) (p : ReadRangeParams) : Sample × Sample :=
  if p.bounds = 0 then (nbits p.start.toNat 63 0, nbits p.stop.toNat 63 0)
  else (sampleFrom s (wordTime p.start), sampleFrom s (wordTime p.stop))

/-- Whether samples `a` to `b` hold a selected one. -/
def overlaps (bd : Sample × Sample) (a b : Sample) : Bool := decide (a < bd.2) && decide (bd.1 ≤ b)

/-- Whether a compressed page holds a selected sample. -/
def compHolds (d : DeckImage) (bd : Sample × Sample) (r : UnitRec) : Bool :=
  (List.range (compCount d r)).any (fun i =>
    let n := rangePage r.num r.inst i
    overlaps bd (pageFirst d n) (pageLast d n))

/-- What a job delivers, piece by piece. -/
def jobChunks (s : State) (d : DeckImage) (j : DroverJob) : List Chunk :=
  match j.job with
  | .fold p =>
    let f := p.fold.toNat
    let sl {α : Type} (l : List α) : List α := slice p.first.toNat p.count.toNat l
    let us := subUnits d f p.sub.toNat j.units
    match p.format.toNat with
    | 0 => (sl j.units).map (pageChunk s d f j.seg)
    | 1 => (sl us).map (compChunk s d f j.seg true j.check)
    | 2 => zlibChunks s d f j.seg (sl us)
    | 3 => (sl (inflatedOrder d us)).map (inflChunk s d f j.seg)
    | _ => sl (sidecarChunks s d f j.seg p.part.toNat p.sub.toNat j.units)
  | .range p =>
    let f := p.fold.toNat
    let bd := rangeBounds s p
    match p.format.toNat with
    | 0 => (j.units.filter (fun r => overlaps bd r.first r.last)).map (pageChunk s d f j.seg)
    | 1 => ((subUnits d f 0xFF j.units).filter (compHolds d bd)).map (compChunk s d f j.seg true j.check)
    | _ => ((inflatedOrder d j.units).filter (fun p =>
        let n := rangePage p.1.num p.1.inst p.2
        overlaps bd (pageFirst d n) (pageLast d n))).map (inflChunk s d f j.seg)
  | .index p =>
    let f := p.fold.toNat
    if p.kind = 0 then
      let n := gSegments d (fGroup d f) - j.seg
      (List.range (if p.count = 0 then n else min n p.count.toNat)).map (fun i =>
        { unit := none, bytes := getLogical s d f (segBase d f (j.seg + i)) 4096 })
    else slice p.first.toNat p.count.toNat (sidecarChunks s d f j.seg 3 0xFF j.units)
  | .cmd _ => []

/-! Delivery -/

def jobFold (j : DroverJob) : Nat := match j.job with | .fold p => p.fold.toNat | .range p => p.fold.toNat | .index p => p.fold.toNat | .cmd _ => 0
def jobOp (j : DroverJob) : Nat := match j.job with | .fold _ => 0x0401 | .range _ => 0x0402 | .index _ => 0x0403 | .cmd _ => 0
def jobDest (j : DroverJob) : BitVec 64 := match j.job with | .fold p => p.dest | .range p => p.dest | .index p => p.dest | .cmd _ => 0
def jobReport (j : DroverJob) : Option (BitVec 64) := match j.job with | .fold p => some p.report | .range p => some p.report | .index _ | .cmd _ => none
def jobList (j : DroverJob) : BitVec 64 := match j.job with | .fold p => p.mlist | .range p => p.mlist | .index _ | .cmd _ => 0

/-- The format of a job: 4 where no page is judged. -/
def jobFormat (j : DroverJob) : Nat := match j.job with | .fold p => p.format.toNat | .range p => p.format.toNat | .index _ | .cmd _ => 4

/-- Whether the job's compressed pages must be verified before they are delivered (R333). -/
def jobVerifies (j : DroverJob) : Bool := (jobFormat j == 1 && j.check) || jobFormat j == 2 || jobFormat j == 3

/-- The pieces that fit the destination, and the bytes of the first that does not. -/
def fitChunks : Nat → List Chunk → List Chunk × List Byte × Bool
  | _, [] => ([], [], false)
  | room, c :: t =>
    if c.bytes.length ≤ room then
      let r := fitChunks (room - c.bytes.length) t
      (c :: r.1, r.2)
    else ([], c.bytes.take room, true)

/-- A mismatch-list entry (R335). -/
def mismatchEntry (j : Judged) : List Byte :=
  leBytes 6 j.num ++ leBytes 1 j.who ++
    leBytes 1 (bitMask ((if j.blocked then [0] else []) ++ (if j.flagged then [1] else []) ++ (if j.fail then [2] else []))) ++
    leBytes 4 j.brand ++ leBytes 4 j.crc

/-- The report (Table 14-6). -/
def report (cs : List Chunk) (bytes mism listed flags : Nat) : List Byte :=
  let us := cs.filter Chunk.counts
  let num (p : Chunk → Bool) : Nat := (us.filter p).length
  leBytes 8 ((us.head?.map Chunk.first).getD 0) ++ leBytes 8 ((us.getLast?.map Chunk.last).getD 0) ++ leBytes 8 bytes ++
    leBytes 4 us.length ++ leBytes 4 mism ++ leBytes 4 (num Chunk.flagged) ++ leBytes 4 (num Chunk.void) ++
    leBytes 4 (num Chunk.blocked) ++ leBytes 4 listed ++ leBytes 4 flags ++ List.replicate 12 0

/-- FLAGS of the report. -/
def reportFlags (s : State) (j : DroverJob) (overtaken : Bool) : Nat :=
  (match j.job with
   | .range p =>
     (if p.bounds = 1 ∧ boundAmbig s (wordTime p.start) = true then 1 else 0) +
     (if p.bounds = 1 ∧ boundAmbig s (wordTime p.stop) = true then 2 else 0) + (if p.seg = 0xFFFFFFFF then 4 else 0)
   | _ => 0) + (if overtaken then 8 else 0)

/-- The job of drover `n` has copied all it will; its command completes (R333-R336, R354). Units that the ring has dropped since the drover
started end the copy. -/
def finishReadout (s : State) (d : DeckImage) (n : Nat) (j : DroverJob) : State :=
  let kept := segUnits s (jobFold j) j.seg
  let all := jobChunks s d j
  let run := all.takeWhile (fun c => match c.unit with | some r => kept.contains r | none => true)
  let overtaken := decide (run.length < all.length)
  let dest := bufList s (jobDest j)
  let fit := fitChunks (segsLen dest) run
  let out := (fit.1.map Chunk.bytes).flatten ++ fit.2.1
  let bad := (fit.1.flatMap Chunk.judged).filter Judged.bad
  let mlist := if jobList j = 0 then [] else bufList s (jobList j)
  let listed := min bad.length (segsLen mlist / 16)
  let s1 := putBuf s dest out
  let s2 := putBuf s1 mlist ((bad.take listed).flatMap mismatchEntry)
  let s3 := match jobReport j with
    | some a => putHost s2 a.toNat (report fit.1 out.length bad.length listed (reportFlags s j overtaken))
    | none => s2
  let s4 := if overtaken then raiseBit s3 (Reg.DROV_STATUS n) 2 else s3
  let s5 := if bad.isEmpty then s4 else incCnt (raiseErr s4 (Reg.DROV_STATUS n) 0 2 0x0480 n) (Reg.DROV_MISMATCH_CNT n) bad.length
  let s6 := if bad.any Judged.ecc then raiseErr s5 (Reg.DROV_STATUS n) 3 2 0x0480 n else s5
  let moved := out.length + (if (jobReport j).isSome then 64 else 0) + 16 * listed
  let s7 := wrF (wr64 s6 (Reg.DROV_BYTES_LO n) (rd64 s6 (Reg.DROV_BYTES_LO n) + moved)) (Reg.DROV_STATE n) 31 0 0
  let s8 := (s7.modDrov (fun x => { x with jobs := assocDel x.jobs n })).modComp (fun c =>
    { c with verified := c.verified.filter (fun v => !(v.fold == jobFold j && v.seg == j.seg)) })
  let s9 := if jobFormat j = 3 then useFree s8 else s8
  let st := if fit.2.2 then cBufferFull else if bad.isEmpty then cOk else cBrand
  let r := match j.job with | .index _ => fit.1.length | _ => bad.length
  endRun s9 j.ring j.cid st r out.length

/-- Whether a job still waits for a verification (R333). -/
def unverified (s : State) (d : DeckImage) (j : DroverJob) : List UnitRec :=
  if !jobVerifies j then []
  else ((jobChunks s d j).filterMap Chunk.unit).eraseDups.filter (fun r =>
    !s.comp.verified.any (fun v => v.fold == jobFold j && v.sub == r.inst && v.seg == j.seg && v.entry == r.ix) &&
      (segUnits s (jobFold j) j.seg).contains r)

/-- The readout of that command, where a drover holds it: it ends once its pages are verified. -/
def readoutDone (s : State) (cid : BitVec 16) : State :=
  match actDeck s, s.drov.jobs.find? (fun p => p.2.cid == cid) with
  | some d, some (n, j) => if (unverified s d j).isEmpty then finishReadout s d n j else s
  | _, _ => s

/-- The stacks that hold fold `f`. -/
def foldStacks (d : DeckImage) (f : Nat) : List Nat := ((List.range (fExtCnt d f)).map (fun i => extStack (fExtent d f i))).eraseDups

/-- The effect of a command that has waited for a drover (R332). -/
def droverCmd (s : State) (i : Instr) : State :=
  match i with
  | .deckLoad h slot len src => wakeCmd h (deckLoadGo h slot len src) s
  | .getLog h log max fromSeq dest => wakeCmd h (getLogGo h log max fromSeq dest) s
  | .patternLoad h p => wakeCmd h (patternLoadGo h p) s
  | _ => s

/-- DROVER_JOB_START (R332, R336): the oldest waiting job takes a free drover, and its units are chosen. -/
def execDroverJobStart (s : State) : Host.Outcome State Fault Refusal :=
  .next (match s.drov.waiting with
  | [] => s
  | { job := .cmd i, .. } :: t =>
    if (freeDrovers s).isEmpty then s else droverCmd (s.modDrov (fun x => { x with waiting := t })) i
  | j :: t =>
    match pickFree s (freeDrovers s) with
    | none => s
    | some (n, s1) =>
      let j1 := { j with units := segUnits s1 (jobFold j) j.seg }
      let s1 := match actDeck s1 with | some d => wakeStacks s1 (foldStacks d (jobFold j)) | none => s1
      wrF (s1.modDrov (fun x => { x with waiting := t, jobs := assocSet x.jobs n j1 })) (Reg.DROV_STATE n) 31 16 j.cid.toNat)

/-! READOUT_VERIFICATION (R205) -/

/-- Whether a job or a verification keeps compression engine `k`, or decompression engine `k` − 64, busy. -/
def engineBusy (s : State) (k : Nat) : Bool := (assoc s.comp.busy k).isSome

/-- Engine `k` is in use for what it takes for `n` bytes (R191), and shows it. -/
def useEngine (s : State) (k use n : Nat) : State :=
  let o := if k < 64 then Reg.CMP_STATE k else Reg.DCMP_STATE (k - 64)
  (wrF s o 4 3 use).modComp (fun c => { c with busy := assocSet c.busy k (n / 8 + 1, use) })

/-- Whether decompression engine `e` is free (R192, R217). -/
def freeDcmp (s : State) (e : Nat) : Bool :=
  !s.comp.dQuar.contains e && !engineBusy s (64 + e) && (match actDeck s with | some d => pbRole d e == 0 | none => true)

/-- Compressed pages that wait for a verification, in the order in which their commands were accepted (R193): drovers take them in that
order, and the newest job stands first in the list. -/
def verifyWaiting (s : State) : List (Nat × Nat × UnitRec) :=
  match actDeck s with
  | none => []
  | some d => s.drov.jobs.reverse.flatMap (fun p => (unverified s d p.2).map (fun r => (jobFold p.2, p.2.seg, r)))

/-- The page is inflated on a free engine; one that fails to inflate ends the engine's work with a data error (R208). -/
def verifyPage (s : State) (d : DeckImage) (e f k : Nat) (r : UnitRec) : State :=
  let out := compInflate s d f k r
  let s1 := s.modComp (fun c => { c with
    verified := { fold := f, sub := r.inst, seg := k, entry := r.ix, good := out.isSome } :: c.verified })
  match out with
  | some bs => useEngine (wr64 s1 (Reg.DCMP_OUT_LO e) (rd64 s1 (Reg.DCMP_OUT_LO e) + bs.length)) (64 + e) 3 bs.length
  | none =>
    let code := match (inflate false (2 ^ 21) (compBytes s d f k r)).stop with | .bad c => c | _ => 7
    incCnt (raiseBit (wrF s1 (Reg.DCMP_STATE e) 15 8 code) (Reg.DCMP_STATUS e) 0) (Reg.DCMP_ERR_CNT e) 1

/-- READOUT_VERIFICATION (R205): the oldest verification that waits starts, where it is the one named (R193). -/
def execReadoutVerification (f : Fin 64) (sub : Nat) (seg : Nat) (entry : Nat) (s : State) : Host.Outcome State Fault Refusal :=
  .next (match actDeck s, (verifyWaiting s).head?.filter (fun w =>
      w.1 == f.val && w.2.1 == seg && w.2.2.inst == sub && w.2.2.ix == entry) with
  | some d, some (_, _, r) =>
    match pickFree s ((List.range 32).filter (freeDcmp s)) with
    | some (e, s1) => verifyPage s1 d e f seg r
    | none => s
  | _, _ => s)

/-! The commands (R354) -/

/-- A readout waits for a drover. -/
def queueRead (s : State) (h : CmdHdr) (seg : Nat) (job : ReadJob) : State :=
  let j : DroverJob := { ring := h.ring, cid := h.cid, check := cflag h 0, job := job, seg := seg }
  (keepRunning s h (jobOp j) (jobFold j) 0).modDrov (fun x => { x with waiting := x.waiting ++ [j] })

/-- What a deck condition says of the active deck; true where none is active, since that is refused before. -/
def ofDeck (s : State) (p : DeckImage → Bool) : Bool := match actDeck s with | some d => p d | none => true

/-- A format that Table 14-5 allows for the fold. -/
def formatOk (d : DeckImage) (f format : Nat) : Bool :=
  if format = 4 then true else if format = 0 then !fIsComp d f else fIsComp d f

/-- A substream of a compressed fold, or all. -/
def subOk (d : DeckImage) (f format sub : Nat) : Bool :=
  !fIsComp d f || (sub == 0xFF && format != 2) || decide (sub < 4 * fNinst d f)

/-- FIRST lies within `n` units. -/
def firstOk (first n : Nat) : Bool := first == 0 || decide (first < n)

def readFoldBody (h : CmdHdr) (p : ReadFoldParams) (s : State) : State :=
  match actDeck s with
  | none => refuse s h 0x0401 cState 0
  | some d =>
    let f := p.fold.toNat
    let us := segUnits s f p.seg.toNat
    if !segClosed s f p.seg.toNat then refuse s h 0x0401 cState 0
    else if p.format = 4 ∧ p.part = 0 then
      if p.first ≠ 0 then refuse s h 0x0401 cField 16
      else if p.count ≠ 0 then refuse s h 0x0401 cField 24
      else queueRead s h p.seg.toNat (.fold p)
    else if !firstOk p.first.toNat (readUnits d f p.format.toNat p.part.toNat p.sub.toNat us) then refuse s h 0x0401 cField 16
    else queueRead s h p.seg.toNat (.fold p)

/-- What R345 checks of READ_FOLD. -/
def readFoldChecks (h : CmdHdr) (p : ReadFoldParams) (s : State) : Checks :=
  let f := p.fold.toNat
  { op := 0x0401
    fields := [cflagsOk h 1, (8, decide (f < 64)), (9, decide (p.format.toNat ≤ 4)), (10, p.format != 4 || decide (p.part.toNat ≤ 3)),
      (32, bufOk s p.dest), (48, p.mlist == 0 || bufOk s p.mlist)]
    deck := true
    objects := [(8, ofDeck s (fun d => fV d f)), (9, ofDeck s (fun d => formatOk d f p.format.toNat)),
      (11, ofDeck s (fun d => subOk d f p.format.toNat p.sub.toNat)),
      (12, ofDeck s (fun d => decide (p.seg.toNat < gSegments d (fGroup d f))))] }

/-- READ_FOLD (R333, R354). -/
def execReadFold (h : CmdHdr) (p : ReadFoldParams) (s : State) : Host.Outcome State Fault Refusal :=
  .next (startCmd h (readFoldChecks h p s)
    none (readFoldBody h p) s)

def readRangeBody (h : CmdHdr) (p : ReadRangeParams) (s : State) : State :=
  match actDeck s with
  | none => refuse s h 0x0402 cState 0
  | some d =>
    let f := p.fold.toNat
    if p.seg = 0xFFFFFFFF then
      match segOpen s (fGroup d f) with
      | none => refuse s h 0x0402 cState 0
      | some k => queueRead s h k (.range p)
    else if !segClosed s f p.seg.toNat then refuse s h 0x0402 cState 0
    else queueRead s h p.seg.toNat (.range p)

/-- What R345 checks of READ_RANGE. -/
def readRangeChecks (h : CmdHdr) (p : ReadRangeParams) (s : State) : Checks :=
  let f := p.fold.toNat
  let later := if p.bounds = 0 then decide (nbits p.start.toNat 63 0 < nbits p.stop.toNat 63 0)
    else decide (wordTime p.start < wordTime p.stop)
  { op := 0x0402
    fields := [cflagsOk h 1, (8, decide (f < 64)), (9, decide (p.bounds.toNat ≤ 1)),
      (10, p.format == 0 || p.format == 1 || p.format == 3),
      (16, p.bounds != 0 || decide (p.start.toNat < 2 ^ 64)), (28, (p.bounds != 0 || decide (p.stop.toNat < 2 ^ 64)) && later),
      (40, bufOk s p.dest), (56, p.mlist == 0 || bufOk s p.mlist)]
    deck := true
    objects := [(8, ofDeck s (fun d => fV d f)), (10, ofDeck s (fun d => formatOk d f p.format.toNat)),
      (12, p.seg == 0xFFFFFFFF || ofDeck s (fun d => decide (p.seg.toNat < gSegments d (fGroup d f))))] }

/-- READ_RANGE (R336, R354). -/
def execReadRange (h : CmdHdr) (p : ReadRangeParams) (s : State) : Host.Outcome State Fault Refusal :=
  .next (startCmd h (readRangeChecks h p s)
    none (readRangeBody h p) s)

def readIndexBody (h : CmdHdr) (p : ReadIndexParams) (s : State) : State :=
  let f := p.fold.toNat
  if p.kind = 0 then queueRead s h p.seg.toNat (.index p)
  else if !segClosed s f p.seg.toNat then refuse s h 0x0403 cState 0
  else if !firstOk p.first.toNat (segUnits s f p.seg.toNat).length then refuse s h 0x0403 cField 16
  else queueRead s h p.seg.toNat (.index p)

/-- What R345 checks of READ_INDEX. -/
def readIndexChecks (h : CmdHdr) (p : ReadIndexParams) (s : State) : Checks :=
  let f := p.fold.toNat
  { op := 0x0403
    fields := [cflagsOk h 1, (8, decide (f < 64)), (9, decide (p.kind.toNat ≤ 1)), (32, bufOk s p.dest)]
    deck := true
    objects := [(8, ofDeck s (fun d => fV d f)), (9, p.kind == 0 || ofDeck s (fun d => fIsComp d f)),
      (12, ofDeck s (fun d => decide (p.seg.toNat < gSegments d (fGroup d f))))] }

/-- READ_INDEX (R354). -/
def execReadIndex (h : CmdHdr) (p : ReadIndexParams) (s : State) : Host.Outcome State Fault Refusal :=
  .next (startCmd h (readIndexChecks h p s)
    none (readIndexBody h p) s)

end Sys2Proof.Machine
end

