-- ==== Sys2Proof/Machine/Jobs.lean ====
section
/-!
DEFINITION. COMPRESS and DECOMPRESS jobs, their resume contexts (R209-R215, R355), and the engines that run them (R193, R217).
-/

namespace Sys2Proof.Machine

/-! Resume contexts (R212) -/

def ctxOf (s : State) (k : Nat) : CtxSlot := tabGet {} s.comp.ctx k
def setCtx (s : State) (k : Nat) (c : CtxSlot) : State := s.modComp (fun x => { x with ctx := tabPut {} x.ctx k c })

def tokenSlot (t : BitVec 64) : Nat := nbits t.toNat 15 0
def tokenGen (t : BitVec 64) : BitVec 32 := BitVec.ofNat 32 (nbits t.toNat 47 16)
def mkToken (k : Nat) (g : BitVec 32) : Nat := k + 65536 * g.toNat

/-- The slot that a token names: its generation agrees, and it keeps a stream of the command's kind. -/
def tokenCtx (s : State) (comp : Bool) (t : BitVec 64) : Option (Nat × StreamSt) :=
  let k := tokenSlot t
  let c := ctxOf s k
  if 256 ≤ k ∨ nbits t.toNat 63 48 ≠ 0 ∨ c.gen ≠ tokenGen t then none
  else match c.stream with
    | some st => if st.comp == comp then some (k, st) else none
    | none => none

/-- The command that runs a job on a token (Table 15-15). -/
def tokenHolder (s : State) (t : BitVec 64) : Option (BitVec 16) :=
  let c := ctxOf s (tokenSlot t)
  if t ≠ 0 ∧ c.gen = tokenGen t then c.busy else none

def freeSlots (s : State) : List Nat :=
  (List.range 256).filter (fun k => (ctxOf s k).stream.isNone)

/-- The slot in which an open stream is kept: its own, or a free one with the next generation. -/
def keepCtx (s : State) (slot : Option Nat) (st : StreamSt) : Option (Nat × State) :=
  match slot with
  | some k => some (mkToken k (ctxOf s k).gen, setCtx s k { ctxOf s k with stream := some st, busy := none })
  | none =>
    match pickFree s (freeSlots s) with
    | none => none
    | some (k, s1) =>
      let g := (ctxOf s1 k).gen + 1
      some (mkToken k g, setCtx s1 k { gen := g, stream := some st, busy := none })

def dropCtx (s : State) (slot : Option Nat) : State :=
  match slot with
  | none => s
  | some k => setCtx s k { ctxOf s k with stream := none, busy := none }

/-- A job ends with its stream open: a context is kept, else NO_CONTEXT (R212). -/
def endOpen (s : State) (j : EngineJob) (status n : Nat) (st : StreamSt) : State :=
  match keepCtx s j.slot st with
  | some (t, s1) => endRun s1 j.ring j.cid status (n % 2 ^ 32) t
  | none => endRun s j.ring j.cid cNoContext (n % 2 ^ 32) 0

/-- A job ends and its stream with it. -/
def endClosed (s : State) (j : EngineJob) (status r : Nat) : State :=
  endRun (dropCtx s j.slot) j.ring j.cid status (r % 2 ^ 32) 0

/-! Free engines (R192) -/

def freeCmp (s : State) (e : Nat) : Bool :=
  !s.comp.quar.contains e && !engineBusy s e && (match actDeck s with | some d => !cmpV d e | none => true)

/-! COMPRESS (R209-R211) -/

/-- The block mode of a stream (Table 15-10) as `codeBlock` counts it. -/
def blockMode (m : Nat) : Nat := if m = 0 then 1 else if m = 1 then 2 else 0

/-- Coded bits join the stream's output; whole bytes leave the engine. -/
def streamOut (st : StreamSt) (b : List Bool) : StreamSt :=
  let all := st.bits ++ b
  let n := all.length / 8 * 8
  { st with held := st.held ++ packBits (all.take n), bits := all.drop n }

/-- What a COMPRESS job has under way: its stream, free values taken, input bytes, blocks coded and how many of them stored, and the checks of
the blocks that did not pass (R197), with the numbers of those to come. -/
structure CmpWork where
  st : StreamSt
  free : Nat
  ins : Nat := 0
  blocks : Nat := 0
  stored : Nat := 0
  fails : List EngineCheck := []
  upset : JobUpset := {}
deriving DecidableEq, Repr

/-- What the check of the next block finds. -/
def cmpCheck (w : CmpWork) : EngineCheck :=
  if w.upset.eccAt = some w.blocks then .ecc else if w.upset.badBlocks.contains w.blocks then .mismatch else .pass

/-- One block of the stream's pending input is coded. -/
def cmpOne (w : CmpWork) (final : Bool) : CmpWork :=
  let chk := cmpCheck w
  let c := codeBlock (blockMode w.st.mode) w.st.search w.free (chk == .pass) final w.st.bits.length w.st.hist [w.st.pendingIn]
  { w with
    st := streamOut { w.st with pendingIn := [], hist := histOn w.st.hist w.st.pendingIn } c.bits
    free := w.free + 1
    blocks := w.blocks + 1
    stored := w.stored + (if c.stored then 1 else 0)
    fails := if chk = .pass then w.fails else w.fails ++ [chk] }

/-- Input is taken into the open block, up to 32 KiB of it (R194). -/
def cmpTake (mm : MemSt) (w : CmpWork) : CmpWork :=
  let n := min (32768 - w.st.pendingIn.length) (segsLen w.st.inSegs)
  let b := segsRead mm w.st.inSegs n
  let a := adlerOn (w.st.adlerA, w.st.adlerB) b
  { w with
    st := { w.st with pendingIn := w.st.pendingIn ++ b, inSegs := segsDrop w.st.inSegs n, adlerA := a.1, adlerB := a.2,
                      flushed := 0 }
    ins := w.ins + n }

/-- Whether the output buffers still hold what has left the engine. -/
def cmpFits (w : CmpWork) : Bool := decide (w.st.held.length ≤ segsLen w.st.outSegs)

/-- Whole blocks are coded until the input or the output list ends. -/
def cmpBlocks (mm : MemSt) : Nat → CmpWork → CmpWork
  | 0, w => w
  | fuel + 1, w =>
    if !cmpFits w || segsLen w.st.inSegs == 0 then w
    else
      let w1 := cmpTake mm w
      if w1.st.pendingIn.length < 32768 then w1 else cmpBlocks mm fuel (cmpOne w1 false)

/-- FLUSH at the end of the input (Table 8-5). -/
def cmpFlush (w : CmpWork) (flush : Nat) : CmpWork :=
  if flush = 0 ∨ w.st.flushed = flush ∨ w.st.ended then w
  else if flush = 3 then
    let w1 := if w.st.pendingIn.isEmpty then { w with st := streamOut w.st emptyFixed } else cmpOne w true
    let st := streamOut w1.st (padBits w1.st.bits.length)
    let t := if st.raw then [] else beBytes4 (adlerWord (st.adlerA, st.adlerB))
    { w1 with st := { st with held := st.held ++ t, ended := true } }
  else
    let w1 := if w.st.pendingIn.isEmpty then w else cmpOne w false
    { w1 with st := { streamOut w1.st (flushBits w1.st.bits.length) with
      flushed := flush, hist := if flush = 2 then [] else w1.st.hist } }

/-- A COMPRESS job runs on engine `e` and completes; a block whose check fails goes out stored (R197). -/
def runCompress (s : State) (e : Nat) (j : EngineJob) (u : JobUpset) : State :=
  let st := if j.stream.started ∨ j.stream.raw then { j.stream with started := true }
    else { j.stream with started := true, held := zlibHeader }
  let w1 := cmpBlocks s.mem (segsLen st.inSegs / 32768 + 2) { st := st, free := s.free, upset := u }
  let w := if cmpFits w1 && segsLen w1.st.inSegs == 0 then cmpFlush w1 j.flush else w1
  let fits := cmpFits w
  let n := min w.st.held.length (segsLen w.st.outSegs)
  let s1 := drove ((putBuf s w.st.outSegs (w.st.held.take n)).setFree w.free) (w.ins + n)
  let s2 := wr64 s1 (Reg.CMP_IN_LO e) (rd64 s1 (Reg.CMP_IN_LO e) + w.ins)
  let s3 := wr64 s2 (Reg.CMP_OUT_LO e) (rd64 s2 (Reg.CMP_OUT_LO e) + n)
  let s4 := useEngine (w.fails.foldl (fun s c => checkedBlock s e c) (incCnt s3 (Reg.CMP_STORED_CNT e) w.stored)) e 2 w.ins
  let st1 := { w.st with held := w.st.held.drop n, outSegs := segsDrop w.st.outSegs n, done := w.st.done + n }
  if !fits || segsLen st1.inSegs != 0 then endOpen s4 j cSuspended n st1
  else if j.flush = 3 then endClosed s4 j cOk n
  else endOpen s4 j cOk n { st1 with flushed := 0 }

/-! DECOMPRESS (R213-R215) -/

/-- DATA_ERROR on engine `e` (R208). -/
def jobDataError (s : State) (e : Nat) (j : EngineJob) (code : Nat) : State :=
  endClosed (wrF (incCnt (raiseBit s (Reg.DCMP_STATUS e) 0) (Reg.DCMP_ERR_CNT e) 1) (Reg.DCMP_STATE e) 15 8 code) j cDataError code

/-- Decompression engine `e` has met an uncorrectable ECC error; a second within 1 s quarantines it (R217). -/
def dcmpEcc (s : State) (e : Nat) : State :=
  let l := noteTime s second (tabGet [] s.comp.dFails e)
  let s1 := (raiseErr s (Reg.DCMP_STATUS e) 2 2 0x0480 e).modComp (fun c => { c with dFails := tabPut [] c.dFails e l })
  if l.length < 2 then s1
  else
    (wearAdd (raiseErr s1 (Reg.DCMP_STATUS e) 3 3 0x0480 e) 2 (unitCode (Reg.DCMP_STATUS e) e) 0).modComp
      (fun c => { c with dQuar := insertNat c.dQuar e })

/-- A DECOMPRESS job runs on engine `e` and completes. Where the cap and the end of the last output buffer coincide, it ends with OUT_LIMIT;
where the cap and the end of the input coincide before the stream's end, as one whose input ended: SUSPENDED or TRUNCATED (DESIGN CHOICE,
notes/assumptions/34.md). With `u`, the engine's ECC error ends the job where it comes, with the output so far kept (R208). -/
def runDecompress (s : State) (e : Nat) (j : EngineJob) (u : JobUpset) : State :=
  let st := j.stream
  let space := segsLen st.outSegs
  let room := if j.limit = 0 then space else min space (j.limit - st.done)
  let left := match u.eccAt with | some k => min k room | none => room
  let all := st.coded ++ segsRead s.mem st.inSegs (segsLen st.inSegs)
  let r := inflate (!st.raw) (st.done + left) all
  let out := r.out.drop st.done
  let n := out.length
  let s1 := putBuf s st.outSegs out
  let used := match r.stop with | .short => all.length | _ => max r.used st.coded.length
  let s2 := drove (useEngine (wr64 s1 (Reg.DCMP_OUT_LO e) (rd64 s1 (Reg.DCMP_OUT_LO e) + n)) (64 + e) 2 n) (used - st.coded.length + n)
  let st1 := { st with
    coded := all.take used, inSegs := segsDrop st.inSegs (used - st.coded.length), outSegs := segsDrop st.outSegs n,
    done := st.done + n, started := true }
  if left < room ∧ r.stop = .full then jobDataError (dcmpEcc s2 e) e j 8
  else match r.stop with
  | .done =>
    let a := adlerWord (adlerOn (1, 0) r.out)
    if j.adler ∧ r.adler ≠ some a then
      endClosed (incCnt (raiseBit s2 (Reg.DCMP_STATUS e) 1) (Reg.DCMP_ERR_CNT e) 1) j cAdler a
    else endClosed s2 j cOk n
  | .full => endOpen s2 j (if j.limit ≠ 0 ∧ j.limit - st.done ≤ space then cOutLimit else cSuspended) n st1
  | .short => if j.more then endOpen s2 j cSuspended n st1 else jobDataError s2 e j 7
  | .bad c => jobDataError s2 e j c

/-! Jobs wait for a free engine (R193) -/

/-- The engines that are free for the job: decompression engines take the verifications that wait first. -/
def jobEngines (s : State) (j : EngineJob) : List Nat :=
  if j.stream.comp then (List.range 64).filter (freeCmp s)
  else
    let es := (List.range 32).filter (freeDcmp s)
    if (verifyWaiting s).length < es.length then es else []

/-- ENGINE_JOB_START (R193): the oldest job for which an engine is free runs, and keeps its engine busy for the bytes that it took; a drover
carries its host side (R332). -/
def execEngineJobStart (s : State) (u : JobUpset := {}) : Host.Outcome State Fault Refusal :=
  .next (match s.comp.jobs.find? (fun j => droverReady s && !(jobEngines s j).isEmpty) with
  | none => s
  | some j =>
    match pickFree s (jobEngines s j) with
    | none => s
    | some (e, s1) =>
      let s2 := s1.modComp (fun c => { c with jobs := c.jobs.filter (fun x => !(x.ring == j.ring && x.cid == j.cid)) })
      if j.stream.comp then runCompress s2 e j u else runDecompress s2 e j u)

/-- A job is queued; its token's stream has a job running. -/
def queueJob (s : State) (h : CmdHdr) (op : Nat) (j : EngineJob) : State :=
  let s1 := (keepRunning s h op 0 0).modComp (fun c => { c with jobs := c.jobs ++ [j] })
  match j.slot with
  | none => s1
  | some k => setCtx s1 k { ctxOf s1 k with busy := some h.cid }

/-- The job of a command on the stream that its token names, or a new one. -/
def startJob (s : State) (h : CmdHdr) (op : Nat) (token inList outList : BitVec 64) (new : StreamSt) (j : EngineJob) : State :=
  let inS := bufList s inList
  let outS := bufList s outList
  if token = 0 then
    if cflag h 0 then finish s h op cBadToken 0 0
    else queueJob s h op { j with stream := { new with inSegs := inS, outSegs := outS }, slot := none }
  else
    match tokenCtx s new.comp token with
    | none => finish s h op cBadToken 0 0
    | some (k, st) =>
      if cflag h 0 then finish (dropCtx s (some k)) h op cOk 0 0
      else
        let st1 := { st with
          inSegs := if inList = 0 then st.inSegs else inS
          outSegs := if outList = 0 then st.outSegs else outS }
        queueJob s h op { j with stream := st1, slot := some k }

/-- A list that a new stream must name and a continued one may leave out. -/
def listOk (s : State) (new : Bool) (a : BitVec 64) : Bool := if a = 0 then !new else bufOk s a

/-- What R345 checks of COMPRESS. -/
def compressChecks (h : CmdHdr) (p : CompressParams) (s : State) : Checks :=
  let new := p.token == 0
  let fresh := new && !cflag h 0
  { op := 0x0501
    fields := [cflagsOk h 1, (8, if new then decide (p.format.toNat ≤ 1) else p.format == 0),
      (9, if new then decide (p.mode.toNat ≤ 2) else p.mode == 0), (10, decide (p.flush.toNat ≤ 3)),
      (11, if new then decide (p.search.toNat < 8) && decide (p.search.toNat % 4 ≠ 3) else p.search == 0),
      (24, listOk s fresh p.inList), (32, listOk s fresh p.outList)]
    held := tokenHolder s p.token }

def compressBody (h : CmdHdr) (p : CompressParams) (s : State) : State :=
  startJob s h 0x0501 p.token p.inList p.outList
    { comp := true, raw := p.format == 1, mode := p.mode.toNat, search := p.search.toNat }
    { ring := h.ring, cid := h.cid, stream := { comp := true, raw := false }, slot := none, flush := p.flush.toNat,
      more := false, adler := false, limit := 0 }

/-- COMPRESS (R209-R212, R355). -/
def execCompress (h : CmdHdr) (p : CompressParams) (s : State) : Host.Outcome State Fault Refusal :=
  .next (startCmd h (compressChecks h p s) none (compressBody h p) s)

/-- The format of the stream that a DECOMPRESS acts on. -/
def rawStream (s : State) (p : DecompressParams) : Bool :=
  if p.token = 0 then p.format == 1
  else match tokenCtx s false p.token with
    | some (_, st) => st.raw
    | none => false

/-- What R345 checks of DECOMPRESS. -/
def decompressChecks (h : CmdHdr) (p : DecompressParams) (s : State) : Checks :=
  let new := p.token == 0
  let fresh := new && !cflag h 0
  { op := 0x0502
    fields := [(3, (cflagsOk h 7).2 && !(cflag h 2 && rawStream s p)),
      (8, if new then decide (p.format.toNat ≤ 1) else p.format == 0),
      (24, listOk s fresh p.inList), (32, listOk s fresh p.outList)]
    held := tokenHolder s p.token }

def decompressBody (h : CmdHdr) (p : DecompressParams) (s : State) : State :=
  startJob s h 0x0502 p.token p.inList p.outList { comp := false, raw := p.format == 1 }
    { ring := h.ring, cid := h.cid, stream := { comp := false, raw := false }, slot := none, flush := 0,
      more := cflag h 1, adler := cflag h 2, limit := p.outLimit.toNat }

/-- DECOMPRESS (R213-R215, R355). ADLER_CHECK of a RAW stream is refused for its CFLAGS. -/
def execDecompress (h : CmdHdr) (p : DecompressParams) (s : State) : Host.Outcome State Fault Refusal :=
  .next (startCmd h (decompressChecks h p s) none (decompressBody h p) s)

/-! Decompression engine faults (R208, R217, R228) -/

/-- DECOMPRESSION_ECC_ERROR: the stream that the engine plays ends with an engine fault; a second error within 1 s quarantines the engine. An
error in a DECOMPRESS job comes with ENGINE_JOB_START, which does the whole job. -/
def decompressionEccError (s : State) (e : Nat) : State :=
  if s.comp.dQuar.contains e then s
  else
    let s1 := dcmpEcc s e
    match actDeck s1 with
    | some d => underrun s1 d e 8
    | none => s1

/-- One fclk of the engines in use; one that has done shows that it is free (Tables 8-8, 8-10). -/
def tickEngines (s : State) : State :=
  let done := s.comp.busy.filter (fun b => decide (b.2.1 ≤ 1))
  done.foldl (fun s b =>
      let o := if b.1 < 64 then Reg.CMP_STATE b.1 else Reg.DCMP_STATE (b.1 - 64)
      if rdF s o 4 3 = b.2.2 then wrF s o 4 3 0 else s)
    (s.modComp (fun c => { c with busy := (c.busy.filter (fun b => decide (1 < b.2.1))).map (fun b => (b.1, b.2.1 - 1, b.2.2)) }))

def execDecompressionEccError (d : Fin 32) (s : State) : Host.Outcome State Fault Refusal :=
  .next (decompressionEccError s d.val)

end Sys2Proof.Machine
end

