-- ==== Sys2Proof/Machine/Host.lean ====
section
/-!
DEFINITION. The host interface (chapter 14): doorbells, command fetch, completions, the ring pairs, MSI-X, D3hot, the PCIe link and the
resets of the host-facing state.
-/

namespace Sys2Proof.Machine

/-! Ring pairs (R323-R330) -/

def sqSize (s : State) (n : Nat) : Nat := 2 ^ rdF s (Reg.CMDQ_CTRL n) 11 8
def cqSize (s : State) (n : Nat) : Nat := 2 ^ rdF s (Reg.CMDQ_CTRL n) 15 12
def sqBase (s : State) (n : Nat) : Nat := rd64 s (Reg.CMDQ_SQ_BASE_LO n)
def cqBase (s : State) (n : Nat) : Nat := rd64 s (Reg.CMDQ_CQ_BASE_LO n)
def shadow (s : State) (n : Nat) : Nat := rd64 s (Reg.CMDQ_SHADOW_LO n)
def sqHead (s : State) (n : Nat) : Nat := rdF s (Reg.CMDQ_SQ_PTR n) 11 0
def sqTail (s : State) (n : Nat) : Nat := rdF s (Reg.CMDQ_SQ_PTR n) 27 16
def cqHead (s : State) (n : Nat) : Nat := rdF s (Reg.CMDQ_CQ_PTR n) 11 0
def cqTail (s : State) (n : Nat) : Nat := rdF s (Reg.CMDQ_CQ_PTR n) 27 16

def pairState (s : State) (n : Nat) : Nat := blkState s (Reg.CMDQ_CTRL n)

/-- Places from `a` on to `b` in a ring of `size`. -/
def ringDist (size a b : Nat) : Nat := (b + size - a) % size

/-- Commands of pair `n` in flight (R325). -/
def pairInFlight (s : State) (n : Nat) : Nat :=
  (s.cmd.fetched.filter (fun f => f.ring.val == n)).length +
    (s.cmd.running.filter (fun f => f.ring.val == n && !f.orphan)).length + (s.cmd.finished.filter (fun f => f.ring.val == n)).length

/-- A pair starts (R323): heads and tails 0, the phase of a first pass. -/
def pairStart (s : State) (n : Nat) : State :=
  let s1 := wr (wr s (Reg.CMDQ_SQ_PTR n) 0) (Reg.CMDQ_CQ_PTR n) 0
  s1.modCmd (fun c => { c with cq := tabMod {} c.cq n (fun q => { q with phase := true }) })

/-- A STOPPING pair with nothing in flight enters OFF, and starts again where EN is set (R330). -/
def pairOff (s : State) (n : Nat) : State :=
  if pairState s n = stStopping ∧ pairInFlight s n = 0 then
    let s1 := setBlkState s (Reg.CMDQ_CTRL n) stOff
    if blkEn s (Reg.CMDQ_CTRL n) then pairStart (setBlkState s1 (Reg.CMDQ_CTRL n) stStarting) n else s1
  else s

/-- A write to EN of a pair (R323, R330). -/
def pairEn (s : State) (n : Nat) (b : Bool) : State :=
  let s1 := writeEn s (Reg.CMDQ_CTRL n) b
  if pairState s n = stOff ∧ b then pairStart s1 n else pairOff s1 n

/-- STARTING or STOPPING of a pair ends (R323, R330). -/
def pairSettle (s : State) (n : Nat) : State :=
  if pairState s n = stStarting then setBlkState s (Reg.CMDQ_CTRL n) stOn else pairOff s n

/-! Doorbells (R321, R324) -/

def dbErr (s : State) (n : Nat) : State := raiseBit s (Reg.CMDQ_STATUS n) 1

/-- SQ_DOORBELL. -/
def execSqDoorbell (n : Fin 16) (value : BitVec 32) (s : State) : Host.Outcome State Fault Refusal :=
  let v := nbits value.toNat 11 0
  let size := sqSize s n
  .next (
    if s.pcie.d3hot then s
    else if pairState s n ≠ stOn ∨ size ≤ v ∨ ringDist size (sqHead s n) v < ringDist size (sqHead s n) (sqTail s n) then dbErr s n
    else wrF s (Reg.CMDQ_SQ_PTR n) 27 16 v)

/-- CQ_DOORBELL. -/
def execCqDoorbell (n : Fin 16) (value : BitVec 32) (s : State) : Host.Outcome State Fault Refusal :=
  let v := nbits value.toNat 11 0
  let size := cqSize s n
  .next (
    if s.pcie.d3hot then s
    else if pairState s n ≠ stOn ∨ size ≤ v ∨ ringDist size (cqHead s n) (cqTail s n) < ringDist size (cqHead s n) v then dbErr s n
    else wrF s (Reg.CMDQ_CQ_PTR n) 11 0 v)

/-! Fetch (R325, R326) -/

/-- The pairs whose SQ holds work. -/
def hasWork (s : State) (n : Nat) : Bool := pairState s n == stOn && sqHead s n != sqTail s n

/-- The next pair in turn. -/
def nextRing (s : State) : Option Nat :=
  ((List.range 16).map (fun i => (s.cmd.turn + i) % 16)).find? (hasWork s)

/-- The bytes of an entry that each command defines besides its header, as first and last (Tables 15-4 to 15-14, R360, R361, R363). -/
def paramBytes : List (Nat × List (Nat × Nat)) :=
  [(0x0101, [(8, 15)]), (0x0102, [(8, 8), (12, 31)]), (0x0103, [(8, 8), (12, 27)]),
    (0x0201, [(8, 8), (12, 23)]), (0x0202, [(8, 8)]), (0x0203, [(8, 8)]), (0x0204, [(8, 8), (10, 15)]),
    (0x0301, [(8, 10)]), (0x0302, [(8, 9)]), (0x0303, [(8, 9)]), (0x0304, [(8, 8), (16, 23)]), (0x0305, [(8, 9), (16, 23)]),
    (0x0401, [(8, 27), (32, 55)]), (0x0402, [(8, 10), (12, 63)]), (0x0403, [(8, 9), (12, 27), (32, 39)]),
    (0x0501, [(8, 11), (16, 39)]), (0x0502, [(8, 8), (16, 47)]),
    (0x0601, [(8, 10), (12, 19), (24, 31)]), (0x0602, [(8, 12), (16, 19)]), (0x0603, [(8, 8)]),
    (0x0701, [(8, 17)]), (0x0702, [(8, 12), (14, 51), (56, 63)]), (0x0703, [(8, 9), (12, 15), (24, 51), (56, 63)])] ++
  [(0x0801, [(8, 16), (20, 55)]), (0x0802, [(8, 11), (16, 51)]),
    (0x0901, [(8, 9)]), (0x0902, [(8, 10)]), (0x0903, [(8, 10), (12, 17), (24, 31)]), (0x0904, [(8, 8), (10, 11)]),
    (0x0905, [(8, 9), (16, 31)]), (0x0906, [(8, 11), (16, 31)]),
    (0x0A01, [(16, 31)]), (0x0A02, [(16, 27)]), (0x0A03, [(16, 27)]), (0x0A04, [(8, 8), (12, 23)]),
    (0x0B01, [(8, 10), (16, 23)]), (0x0C01, [(8, 15)]), (0x0C02, [(8, 8), (10, 11)]), (0x0C03, [(8, 15)]), (0x0C04, [(12, 23)]),
    (0x0C05, []), (0x0C06, [(8, 8), (12, 19), (24, 31)]),
    (0x0D01, [(8, 8), (12, 23)]), (0x0D02, [(8, 9), (12, 23)]), (0x0D03, []), (0x0D04, [(8, 8)])]

/-- The first byte of entry `e` that command `op` does not define and that is not zero (R341). -/
def reservedByte (op : Nat) (e : List Byte) : Option Nat :=
  let l := (assoc paramBytes op).getD []
  (List.range 56).map (· + 8) |>.find? (fun k => leAt e k 1 != 0 && !l.any (fun r => decide (r.1 ≤ k) && decide (k ≤ r.2)))

/-- A fetched entry (Table 15-1) is judged as far as its header goes: opcode, command ID, reserved flags (R341, R345). Its reserved bytes are
judged with the command's fields. -/
def takeEntry (s : State) (ring : Fin 16) (e : List Byte) : State :=
  let op := leAt e 0 2
  let cid := BitVec.ofNat 16 (leAt e 4 2)
  if !opcodes.contains op then complete s ring cid op cUnknown op 0
  else if cidInFlight s cid then complete s ring cid op cIdInUse 0 0
  else if leAt e 2 1 / 2 ≠ 0 then complete s ring cid op cField 2 0
  else if leAt e 6 2 ≠ 0 then complete s ring cid op cField 6 0
  else s.modCmd (fun c => { c with fetched := c.fetched ++ [{ ring := ring, cid := cid, fence := nbit (leAt e 2 1) 0, resv := reservedByte op e }] })

/-- The SQ head moves past an entry as soon as it is fetched; the shadow follows (R325). -/
def moveHead (s : State) (n : Nat) : State :=
  let h := (sqHead s n + 1) % sqSize s n
  let s1 := wrF s (Reg.CMDQ_SQ_PTR n) 11 0 h
  if shadow s n = 0 then s1 else putHost s1 (shadow s n) (leBytes 4 h)

/-- COMMAND_FETCH. -/
def execCommandFetch (s : State) : Host.Outcome State Fault Refusal :=
  .next (
    if s.pcie.d3hot || decide (1024 ≤ inFlight s) || !processing s then s
    else match nextRing s with
    | none => s
    | some n =>
      let e := memRead s.mem.host (sqBase s n + 64 * sqHead s n) 64
      takeEntry ((moveHead s n).modCmd (fun c => { c with turn := (n + 1) % 16 })) (Fin.ofNat 16 n) e)

/-! Completions (R327-R330, R342) -/

def cqFull (s : State) (n : Nat) : Bool := (cqTail s n + 1) % cqSize s n == cqHead s n

def cqStOf (s : State) (n : Nat) : CqSt := tabGet {} s.cmd.cq n
def setCqSt (s : State) (n : Nat) (q : CqSt) : State := s.modCmd (fun c => { c with cq := tabPut {} c.cq n q })

/-- The 16 bytes of a completion entry (Table 15-2). -/
def completionBytes (f : Completion) (phase : Bool) : List Byte :=
  leBytes 2 f.cid.toNat ++ leBytes 2 (f.status % 256 + 256 * f.ring.val + (if phase then 32768 else 0)) ++
    leBytes 4 f.result.toNat ++ leBytes 8 f.result2.toNat

/-- One more completion is pending; CQ_POSTED by COAL.CNT (R329). -/
def posted (s : State) (n : Nat) : State :=
  let k := (cqStOf s n).pending + 1
  let s1 := setCqSt s n { cqStOf s n with pending := k }
  let cnt := rdF s (Reg.CMDQ_COAL n) 11 0
  if cnt ≤ 1 ∨ cnt ≤ k then raiseBit s1 (Reg.CMDQ_STATUS n) 0 else s1

/-- A finished command's entry is written into its CQ. -/
def writeCompletion (s : State) (f : Completion) : State :=
  let n := f.ring.val
  let q := cqStOf s n
  let t := (cqTail s n + 1) % cqSize s n
  let s1 := putHost s (cqBase s n + 16 * cqTail s n) (completionBytes f q.phase)
  let s2 := wrF s1 (Reg.CMDQ_CQ_PTR n) 27 16 t
  let s3 := setCqSt s2 n { q with phase := if t = 0 then !q.phase else q.phase }
  let s4 := s3.modCmd (fun c => { c with finished := c.finished.filter (fun g => !(g.ring == f.ring && g.cid == f.cid)) })
  pairOff (posted s4 n) n

/-- COMPLETION_WRITE: a readout whose drover is done ends first. A pair that is OFF or STARTING has no CQ to write into. -/
def completionWrite (s0 : State) (cid : BitVec 16) : State :=
  let s := readoutDone s0 cid
  match s.cmd.finished.find? (fun f => f.cid == cid) with
  | none => s
  | some f =>
    let n := f.ring.val
    if pairState s n = stOff ∨ pairState s n = stStarting then s
    else if cqFull s n then raiseBit s (Reg.CMDQ_STATUS n) 3
    else writeCompletion s f

def execCompletionWrite (cid : BitVec 16) (s : State) : Host.Outcome State Fault Refusal := .next (completionWrite s cid)

/-- COALESCE_TIMEOUT (R329). -/
def execCoalesceTimeout (n : Fin 16) (s : State) : Host.Outcome State Fault Refusal :=
  .next (if (cqStOf s n).pending ≠ 0 ∧ rdF s (Reg.CMDQ_COAL n) 31 16 ≠ 0 then raiseBit s (Reg.CMDQ_STATUS n) 0 else s)

/-- COMPLETION_TIMEOUT (R316, R328): the transfer ends. -/
def execCompletionTimeout (who : NpReader) (s : State) : Host.Outcome State Fault Refusal :=
  match who with
  | .drover d =>
    match assoc s.drov.jobs d.val with
    | none => .next s
    | some j =>
      let s1 := raiseErr (raiseBit s Reg.PCIE_STATUS 4) (Reg.DROV_STATUS d) 1 2 0x0480 d
      let s2 := wrF (s1.modDrov (fun x => { x with jobs := assocDel x.jobs d.val })) (Reg.DROV_STATE d) 31 0 0
      .next (endRun s2 j.ring j.cid cHostError 0 0)
  | .fetcher n =>
    if pairState s n = stOn then
      .next (raiseBit (setBlkState (raiseBit s Reg.PCIE_STATUS 4) (Reg.CMDQ_CTRL n) stFault) (Reg.CMDQ_STATUS n) 2)
    else .next s

/-! MSI-X and power states (R321, R322, R337, R338) -/

/-- MSIX_UNMASK (R322). -/
def execMsixUnmask (s : State) : Host.Outcome State Fault Refusal :=
  let p := s.pcie
  .next (if p.msixMask then
    let send := p.pba && irqSum s.regs != 0
    s.setPcie { p with msixMask := false, pba := false, vectors := if send then p.vectors + 1 else p.vectors }
  else s)

/-- PCIE_D3HOT_ENTRY (R337): with nothing in flight. What the host has put into the PMCSR, and whether the link goes on to L2, is
open (notes/assumptions/10.md). -/
def execPcieD3hotEntry (s : State) : Host.Outcome State Fault Refusal :=
  .next (if inFlight s = 0 ∧ s.pcie.d3hot = false then
    let f := freeVal 2 s
    (useFree s).setPcie { s.pcie with d3hot := true, pmeEn := f.getLsbD 0, inL2 := f.getLsbD 1 }
  else s)

/-- PCIE_D0_RETURN (R337). -/
def execPcieD0Return (s : State) : Host.Outcome State Fault Refusal :=
  .next (s.setPcie { s.pcie with d3hot := false, inL2 := false })

/-- PCIE_LINK_UP (R339, R340): SPEED 0 and WIDTH 0 mean that the link is down, so no link comes up with them. -/
def execPcieLinkUp (speed : Fin 7) (width : Fin 4) (reversed : Bool) (flit : Bool) (s : State) : Host.Outcome State Fault Refusal :=
  .next (if speed.val = 0 ∨ width.val = 0 then s
  else
    let s1 := wr (s.setPcie { s.pcie with linkUp := true, wake := false }) Reg.PCIE_LINK
      (BitVec.ofNat 32 (speed.val * 32 + width.val * 4 + (if reversed then 2 else 0) + (if flit then 1 else 0)))
    raise s1 Reg.PCIE_STATUS (BitVec.ofNat 32 (1 + (if speed.val < 6 then 4 else 0) + (if width.val < 3 then 8 else 0))))

/-! Host resets (R315, R339) -/

/-- Every ring pair goes to OFF, fetched commands are discarded, running ones become orphans, and readouts and jobs end. -/
def hostReset (s : State) : State :=
  let jobOps : List Nat := [0x0401, 0x0402, 0x0403, 0x0501, 0x0502]
  let s1 := (List.range 16).foldl (fun s n =>
    [Reg.CMDQ_CTRL n, Reg.CMDQ_SQ_BASE_LO n, Reg.CMDQ_SQ_BASE_HI n, Reg.CMDQ_CQ_BASE_LO n, Reg.CMDQ_CQ_BASE_HI n, Reg.CMDQ_SHADOW_LO n,
      Reg.CMDQ_SHADOW_HI n, Reg.CMDQ_SQ_PTR n, Reg.CMDQ_CQ_PTR n, Reg.CMDQ_COAL n].foldl (fun s o => wr s o (resetWord o)) s) s
  let s2 := s1.modCmd (fun c => { c with
    fetched := [], finished := [], cq := []
    running := (c.running.filter (fun r => !jobOps.contains r.op && !s.drov.waiting.any (fun j => j.ring == r.ring && j.cid == r.cid))).map (fun r => { r with orphan := true }) })
  let s3 := (List.range 8).foldl (fun s d => wrF s (Reg.DROV_STATE d) 31 0 0) (s2.setDrov {})
  let s4 := s3.modComp (fun c => { c with
    jobs := [], verified := []
    ctx := (List.range 256).foldl (fun t k => tabMod {} t k (fun x => if x.busy.isSome then { x with busy := none, stream := none } else x)) c.ctx })
  s4.setPcie { s4.pcie with d3hot := false, pmeEn := false, inL2 := false, msixAddr := 0, msixData := 0, msixMask := true, pba := false }

/-- The flag of PCIE_STATUS that a cause sets. -/
def resetFlag : HostResetCause → Option Nat
  | .perst => some 11
  | .hotReset => none
  | .flr => some 10
  | .linkDown => some 1

/-- HOST_RESET (R339): PERST_N and a link-down event take the link down; CHIP_RESET_CAUSE notes a host reset. -/
def execHostReset (cause : HostResetCause) (s : State) : Host.Outcome State Fault Refusal :=
  let down := cause == .perst || cause == .linkDown
  let s1 := hostReset s
  let s2 := if down then wr (s1.setPcie { s1.pcie with linkUp := false }) Reg.PCIE_LINK 0 else s1
  let s3 := wrF s2 Reg.CHIP_RESET_CAUSE 3 3 1
  .next (match resetFlag cause with
  | some b => raiseBit s3 Reg.PCIE_STATUS b
  | none => s3)

end Sys2Proof.Machine
end

