-- ==== Sys2Proof/Machine/Link.lean ====
section
/-!
DEFINITION. What the Myras groups share (chapters 12, 13): lanes and positions, sideband requests (R286, R287, R312), training runs from one
state to the next, and parking (R294-R301). Groups 0-3 receive and 4-5 transmit; lane 16 of a group is its spare.
-/

namespace Sys2Proof.Machine

/-! Groups, lanes and positions -/

def grpNo : LinkGroup → Nat
  | .rx g => g.val
  | .tx t => 4 + t.val

/-- The physical lane of group lane `i` (R10). -/
def physOf (g i : Nat) : Nat := if g < 4 then (if i < 16 then 16 * g + i else 64 + g) else (if i < 16 then 16 * (g - 4) + i else 28 + g)

/-- The group and group lane of physical RX lane `n`, and of physical TX lane `n`. -/
def rxLane (n : Nat) : Nat × Nat := if n < 64 then (n / 16, n % 16) else (n - 64, 16)
def txLane (n : Nat) : Nat × Nat := if n < 32 then (4 + n / 16, n % 16) else (n - 28, 16)

/-- The source number of a lane (Table 2-1). -/
def laneSrc (g i : Nat) : Nat := (if g < 4 then 0x0500 else 0x0544) + physOf g i

def modLk (s : State) (g : Nat) (f : GroupLink → GroupLink) : State := setLinkSt s g (f (linkOf s g))
def laneOf (s : State) (g i : Nat) : LaneSt := tabGet {} (linkOf s g).lanes i
def modLane (s : State) (g i : Nat) (f : LaneSt → LaneSt) : State := modLk s g (fun l => { l with lanes := tabMod {} l.lanes i f })

/-- The position within its group that a lane serves (R11, R99). -/
def servedBy (l : GroupLink) (i : Nat) : Option Nat :=
  match l.mapped with
  | some j => if i = 16 then some j.val else if i = j.val then none else some i
  | none => if i < 16 then some i else none

/-- The group lane that serves position `j`. -/
def lanePos (l : GroupLink) (j : Nat) : Nat := if (l.mapped.map Fin.val) = some j then 16 else j

/-- Whether a lane serves a logical position (R290): in ACTIVE or EIDLE, and not excluded. -/
def serves (s : State) (g i : Nat) : Bool :=
  let l := linkOf s g
  (l.st == .active || l.st == .eidle) && !l.excl.getLsbD i && (servedBy l i).isSome

/-- Whether a group serves logical positions (R299). -/
def grpServes (s : State) (g : Nat) : Bool := (List.range 17).any (serves s g)

/-- The lane that serves receive position `p` (R103), and the index of its next block. -/
def setPosLane (s : State) (p n : Nat) : State := wrF s (Reg.INGEST_POS (p / 16) (p % 16)) 6 0 n
def posNext (s : State) (p : Nat) : Option Sample := tabGet none s.ingest.pos p
def setPosNext (s : State) (p : Nat) (i : Option Sample) : State := s.modIngest (fun x => { x with pos := tabPut none x.pos p i })

/-- Every position of a receive group is void. -/
def voidGroup (s : State) (g : Nat) : State :=
  if g < 4 then (List.range 16).foldl (fun s i => setPosVoid s (16 * g + i) true) s else s

/-- Every position of a receive group is served by its own lane, with no count. -/
def mapOwn (s : State) (g : Nat) : State :=
  if g < 4 then (List.range 16).foldl (fun s i => setPosNext (setPosLane s (16 * g + i) (16 * g + i)) (16 * g + i) none) s else s

/-- The block slot in which a transmit group is, counted from its first marker: 35 slots of 136 UI take 136 fclk (R271, R279). -/
def txSlot (l : GroupLink) : Nat := l.txClock * 35 / 136

/-- Lanes of the group, as a mask: with or without the spare (R294, R297). -/
def fitted (l : GroupLink) : BitVec 17 := if l.caps.getLsbD 1 then 0x1FFFF else 0xFFFF

/-- How many positions the lanes outside `excl` can serve (R297). -/
def canServe (l : GroupLink) : Nat :=
  let n := ((List.range 16).filter (fun i => !l.excl.getLsbD i)).length
  if n < 16 ∧ l.caps.getLsbD 1 ∧ !l.excl.getLsbD 16 then n + 1 else n

/-- Table 13-1. -/
def trainCode : TrainState → Nat
  | .off => 0
  | .detect => 1
  | .clockLock => 2
  | .levelTrain => 3
  | .blockLock => 4
  | .deskew => 5
  | .spareMap => 6
  | .active => 7
  | .parked => 8
  | .eidle => 9
  | .dataOff => 10

/-- Table 13-3. -/
def laneCode : LaneState → Nat
  | .down => 0
  | .active => 1
  | .relock => 2
  | .relevel => 3
  | .waitMarker => 4
  | .excluded => 5
  | .test => 6

/-- Whether a training run is in progress. -/
def inRun (l : GroupLink) : Bool :=
  match l.st with
  | .detect | .clockLock | .levelTrain | .blockLock | .deskew | .spareMap => true
  | .off | .active | .parked | .eidle | .dataOff => false

/-- The code of the state that is being negotiated: ACTIVE once its exchange has been asked for. -/
def curCode (l : GroupLink) : Nat := if l.step = 6 then 7 else trainCode l.st

/-! Commands that wait on a group -/

/-- Those of the given kinds complete. -/
def endLk (s : State) (g : Nat) (kinds : List Nat) (status result : Nat) : State :=
  let l := linkOf s g
  let s1 := modLk s g (fun l => { l with cmds := l.cmds.filter (fun c => !kinds.contains c.kind) })
  (l.cmds.filter (fun c => kinds.contains c.kind)).foldl (fun s c => endRun s c.ring c.cid status result 0) s1

/-- Those of the given kinds complete with a status that the spec does not state: a free value. -/
def endLkFree (s : State) (g : Nat) (kinds : List Nat) : State :=
  if (linkOf s g).cmds.any (fun c => kinds.contains c.kind) then
    endLk (useFree s) g kinds (freeVal 8 s).toNat 0
  else s

/-- A PRBS with PEER has its answer from group `g`: it completes when no other group owes one, or at once where the partner
refuses. -/
def endPeer (s : State) (g : Nat) (ok : Bool) (status result : Nat) : State :=
  match (linkOf s g).cmds.find? (fun c => c.kind == 6) with
  | none => s
  | some c =>
    let mine (x : LinkCmd) : Bool := x.kind == 6 && x.ring == c.ring && x.cid == c.cid
    let drop (s : State) (k : Nat) : State := modLk s k (fun l => { l with cmds := l.cmds.filter (fun x => !mine x) })
    if ok then
      let s1 := drop s g
      if (List.range 6).any (fun k => (linkOf s1 k).cmds.any mine) then s1 else endRun s1 c.ring c.cid cOk 0 0
    else endRun ((List.range 6).foldl drop s) c.ring c.cid status result 0

/-- The SPARE_COMMIT that asked for the spare of position `j` completes. -/
def endCommit (s : State) (g j status result : Nat) : State :=
  match s.cmd.running.find? (fun r => r.op == 0x0C02 && r.aux == 1 && r.obj == 32 * g + j) with
  | some r => endRun s r.ring r.cid status result 0
  | none => s

/-! Sideband requests (R286, R287, R312) -/

/-- The device sends a frame; its own direction is awake then (R311). -/
def sbSend (s : State) (g : Nat) (type seq : Byte) (payload : List Byte) : State :=
  modLk s g (fun l => { l with asleep := false, sent := { type := type, seq := seq, payload := payload } :: l.sent })

/-- The next queued request is sent where none is open; in ACTIVE it waits while the sideband is lost (R306). -/
def pumpSb (s : State) (g : Nat) : State :=
  let l := linkOf s g
  match l.req, l.queue with
  | none, r :: t =>
    if l.sbLost && l.st == .active then s
    else sbSend (modLk s g (fun l => { l with req := some { r with seq := l.seq }, queue := t, seq := l.seq + 1 })) g r.type l.seq r.payload
  | _, _ => s

/-- The group-lane mask of a TRAIN frame. -/
def trainMask (payload : List Byte) : Nat := leAt payload 2 3

/-- TRAIN requests queue in ascending group lane number, the others in the order they come (R312). -/
def queueReq (r : SbReq) : List SbReq → List SbReq
  | [] => [r]
  | x :: t =>
    if r.type = 2 ∧ x.type = 2 ∧ trainMask r.payload < trainMask x.payload then r :: x :: t else x :: queueReq r t

/-- The device asks its partner. -/
def sbAsk (s : State) (g : Nat) (type : Byte) (payload : List Byte) : State :=
  pumpSb (modLk s g (fun l => { l with queue := queueReq { type := type, seq := 0, payload := payload } l.queue })) g

/-- The open request has ended. -/
def sbDone (s : State) (g : Nat) : State := pumpSb (modLk s g (fun l => { l with req := none })) g

/-- A TRAIN payload (Table 12-5). -/
def trainPay (code cmd mask param : Nat) : List Byte :=
  [BitVec.ofNat 8 code, BitVec.ofNat 8 cmd] ++ leBytes 3 mask ++ [BitVec.ofNat 8 param, 0, 0]

/-- A SPARE payload. -/
def sparePay (pos cmd : Nat) (index : Sample) : List Byte :=
  [BitVec.ofNat 8 pos, BitVec.ofNat 8 cmd, 0, 0] ++ leBytes 8 index

/-- The group without its TRAIN and SPARE requests. -/
def noTrainReqs (l : GroupLink) : GroupLink :=
  { l with
    req := l.req.filter (fun r => r.type != 2 && r.type != 3)
    queue := l.queue.filter (fun r => r.type != 2 && r.type != 3) }

/-! Training -/

/-- Software bit-slip is in use (R298). -/
def slipSw (s : State) (g : Nat) : Bool := (rd s (Reg.MRX_TRAIN_CTRL g)).getLsbD 7

/-- An attempt of state `st` begins; `fresh` where no lane has passed it yet (R294, R295, R297). -/
def beginState (s : State) (g : Nat) (st : TrainState) (fresh : Bool) : State :=
  let l := linkOf s g
  let lanes := if fresh then (List.range 17).foldl (fun t i => tabMod {} t i (fun x => { x with passed := false, good := 0, lock := false, mark := none })) l.lanes
    else l.lanes
  let pre := if st = .blockLock then l.caps.getLsbD 0 && (rd s (Reg.MRX_TRAIN_CTRL g)).getLsbD 2 else l.precode
  let mask := bitMask ((List.range 17).filter (fun i =>
    (fitted l).getLsbD i && !l.excl.getLsbD i && !(tabGet ({} : LaneSt) lanes i).passed))
  let s1 := setLinkSt s g (noTrainReqs { l with st := st, step := 1, lanes := lanes, precode := pre, mask := BitVec.ofNat 17 mask, txClock := if st = .blockLock ∧ fresh then 0 else l.txClock })
  let param := if st = .blockLock then (if pre then 1 else 0) + (if slipSw s g then 2 else 0) else 0
  sbAsk s1 g 2 (trainPay (trainCode st) 0 mask param)

/-- A lane at the start of a run: a test goes on; a wake keeps the equaliser (Table 13-4). -/
def laneFresh (keep : Bool) (x : LaneSt) : LaneSt :=
  { st := if x.st = .test then .test else .down, level := keep && x.level, slip := x.slip, prbsLock := x.prbsLock, loop := x.loop }

/-- A training run begins in state `st`; what ran in the group is abandoned (R299, R305, R312). -/
def startRun (s : State) (g : Nat) (st : TrainState) (keep : Bool) : State :=
  let commits := s.cmd.running.filter (fun r => r.op == 0x0C02 && r.aux == 1 && r.obj / 32 == g)
  let s0 := commits.foldl (fun s r => endRun s r.ring r.cid cAborted 0 0) (endLkFree (if g < 4 then startTbase (voidGroup s g) else s) g [1, 2, 4, 5, 6])
  let s1 := modLk s0 g (fun l => { l with
    attempts := [], step := 0, mask := 0, req := none, queue := [], neg := none, wantSpare := [], sleeping := 0, wakeKeep := keep
    excl := if keep then l.excl else 0
    mapped := if keep then l.mapped else none
    lanes := (List.range 17).foldl (fun t i => tabMod {} t i (laneFresh keep)) l.lanes })
  let s2 := if keep then s1 else mapOwn s1 g
  if st = .detect then modLk s2 g (fun l => { l with st := .detect, runPeer := none }) else beginState s2 g st true

/-- FAIL_STATE and FAIL_CAUSE are recorded, and ATT_FAIL is set (Table 13-2). -/
def noteFail (s : State) (g code cause : Nat) : State :=
  raiseBit (wrF (wrF s (Reg.MRX_TRAIN_STATE g) 23 20 code) (Reg.MRX_TRAIN_STATE g) 19 16 cause) (Reg.MRX_TRAIN_STATUS g) 2

/-- The group parks; commands that wait for ACTIVE complete with LINK_DOWN (R299, R300). -/
def park (s : State) (g : Nat) : State :=
  let l := linkOf s g
  let s1 := modLk (voidGroup s g) g (fun l => { l with
    st := .parked, step := 0, mask := 0, req := none, queue := [], neg := none, wantSpare := [], sleeping := 0, wakeKeep := false
    parkedSeen := true
    lanes := (List.range 17).foldl (fun t i => tabMod {} t i (laneFresh false)) l.lanes })
  let s2 := if l.parkedSeen then s1 else raiseBit s1 (Reg.MRX_TRAIN_STATUS g) 1
  endLk (endLkFree s2 g [4, 5, 6]) g [0, 1, 2, 3] cLinkDown
    (16 * rdF s (Reg.MRX_TRAIN_STATE g) 23 20 + rdF s (Reg.MRX_TRAIN_STATE g) 19 16)

/-- The POS that SPARE_MAP offers: what a wake has kept, or the excluded lane with the lowest number (R297). -/
def sparePos (l : GroupLink) : Nat :=
  if l.excl.getLsbD 16 ∨ !l.caps.getLsbD 1 then 0xFF
  else match l.mapped with
    | some j => j.val
    | none => ((List.range 16).find? (fun i => l.excl.getLsbD i)).getD 0xFF

/-- Positions left without a lane: class S (R297). -/
def noteUnserved (s : State) (g : Nat) : State :=
  let l := linkOf s g
  reportCells s g [] ((List.range 16).filter (fun i => l.excl.getLsbD i && l.mapped.map Fin.val != some i))
    (fun s i => raiseErr s (Reg.MRX_TRAIN_STATUS g) 5 3 (laneSrc g i) i)

/-- The rate mode: the active deck's, or without one the sender's (R85). -/
def linkK (s : State) (g : Nat) : Nat :=
  match actDeck s with
  | some d => dkK d
  | none => 2 ^ (linkOf s g).mode.toNat

/-- When the lanes of group `g` that are not excluded would have received index 0, by the last marker of each, in units of 2^-16 ns (R88,
R89); markers of a lane set carry indices 16 apart (R87). -/
def laneArrivals (s : State) (g : Nat) : List Int :=
  let l := linkOf s g
  let k := linkK s g
  (List.range 17).filterMap (fun i =>
    if l.excl.getLsbD i then none
    else (laneOf s g i).mark.map (fun m => (m.2 : Int) - ((m.1 : Int) - 16 * (i % 16 % k : Nat)) * (10240 / k : Nat)))

/-- 2,048 UI of 56 GBd, in units of 2^-16 ns (R88). -/
def skewMax : Int := 2396745

/-- Whether the arrivals of one marker on the lanes of `mask` lie within 2,048 UI of each other; every lane has received one (R88). -/
def deskewed (s : State) (g mask : Nat) : Bool :=
  let a := laneArrivals s g
  (List.range 17).all (fun i => !nbit mask i || (laneOf s g i).mark.isSome) &&
    a.all (fun x => a.all (fun y => decide (x - y ≤ skewMax)))

/-- When the group's deskewed blocks would have given index 0. -/
def groupArrival (s : State) (g : Nat) : Option Int := (laneArrivals s g).max?

/-- The same of the reference: B of R90 where E stands. -/
def refArrival (s : State) (r : Nat) : Option Int :=
  match s.tb.epoch with
  | some e => some ((e : Int) + s.ingest.feLat)
  | none => groupArrival s r

/-- By how many fclk the group's blocks come after those of the reference: none where either has received no marker (R89). -/
def groupLag (s : State) (r g : Nat) : Option Int :=
  match refArrival s r, groupArrival s g with
  | some a, some b => some ((b - a) / 40960)
  | _, _ => none

/-- Whether a group lies within the alignment window: no later than A + LATE and no earlier than A + LATE - 819 (R89). -/
def aligned (s : State) (g : Nat) : Bool :=
  let late : Int := rdF s (Reg.INGEST_XWIN 0) 9 0
  match s.ingest.ref with
  | none => true
  | some r => r == g || (match groupLag s r g with | some x => decide (x ≤ late) && decide (late - 819 ≤ x) | none => true)

/-- The reference group, the first to reach ACTIVE, and how long the group's blocks wait in the aligner: LATE fclk on the reference, less
its lag on another group (R89). -/
def setReference (s : State) (g : Nat) : State :=
  if g < 4 then
    let late := rdF s (Reg.INGEST_XWIN 0) 9 0
    match s.ingest.ref with
    | none => wrF (s.modIngest (fun x => { x with ref := some g })) (Reg.INGEST_GRP_DLY g) 9 0 late
    | some r =>
      let lag := if r = g then 0 else (groupLag s r g).getD 0
      wrF s (Reg.INGEST_GRP_DLY g) 9 0 ((late : Int) - lag).toNat
  else s

/-- The group reaches ACTIVE (R43, R89, R296, R299): lanes that are not excluded wait for their first marker. -/
def reachActive (s : State) (g : Nat) : State :=
  let l := linkOf s g
  let woke := l.cmds.any (fun c => c.kind == 3) || l.wakeKeep
  let s1 := modLk s g (fun l => { l with
    st := .active, step := 0, mask := 0, attempts := [], parkedSeen := false, wakeKeep := false, clockLost := none
    txData := false
    lanes := (List.range 17).foldl (fun t i => tabMod {} t i (fun x =>
      if x.st = .test then x
      else if l.excl.getLsbD i ∨ !(fitted l).getLsbD i then { x with st := .excluded }
      else { x with st := .active, dataCnt := 0, crcFails := 0, sinceFail := 9, markerNo := none, slot := 0, lock := true, level := true })) l.lanes })
  let s2 := if g < 4 then (List.range 16).foldl (fun s i => setPosNext s (16 * g + i) none) s1 else s1
  let s3 := setReference (noteUnserved s2 g) g
  let s4 := raise s3 (Reg.MRX_TRAIN_STATUS g) (if woke then 0x101 else 1)
  endLk (endLk s4 g [0] cOk 0) g [1, 2, 3] cOk 7

/-- The state that is being trained has passed (R295, R297). -/
def passState (s : State) (g : Nat) : State :=
  match (linkOf s g).st with
  | .clockLock => beginState s g (if (linkOf s g).wakeKeep then .blockLock else .levelTrain) true
  | .levelTrain => beginState s g .blockLock true
  | .blockLock => beginState s g .deskew true
  | .deskew => beginState s g .spareMap true
  | .spareMap =>
    let m := (linkOf s g).mask.toNat
    sbAsk (modLk s g (fun l => { noTrainReqs l with step := 6 })) g 2 (trainPay 7 0 m 0)
  | .off | .detect | .active | .parked | .eidle | .dataOff => s

/-- A lane is excluded in training (R297). -/
def excludeTrain (g : Nat) (s : State) (i : Nat) : State :=
  raiseErr (modLk s g (fun l => { l with excl := l.excl ||| BitVec.ofNat 17 (2 ^ i) })) (Reg.MRX_LANE_TSTAT g i) 3 3 (laneSrc g i) i

/-- An attempt fails (R295, R296, R297). -/
def failAttempt (s : State) (g cause : Nat) : State :=
  let l := linkOf s g
  let code := curCode l
  let charged := if cause = 5 then 2 else code
  let n := tabGet 0 l.attempts charged + 1
  let last := decide ((if charged = 4 ∧ slipSw s g then 1 else 3) ≤ n)
  let still := (List.range 17).filter (fun i => l.mask.getLsbD i && !(laneOf s g i).passed)
  let s0 := modLk s g (fun l => { noTrainReqs l with attempts := tabPut 0 l.attempts charged n })
  if last && cause == 9 && (code == 3 || code == 4) then
    let s1 := reportCells s0 g [] still (excludeTrain g)
    if rdF s (Reg.MRX_TRAIN_CTRL g) 19 15 ≤ canServe (linkOf s1 g) then passState (noteFail s1 g code 9) g
    else park (noteFail s1 g code 4) g
  else
    let s1 := noteFail s0 g code cause
    if last then park s1 g
    else if cause = 5 then beginState s1 g .clockLock true
    else if code = 1 then s1
    else if code = 4 ∧ l.wakeKeep then beginState (modLk s1 g (fun l => { l with wakeKeep := false })) g .levelTrain true
    else if code = 5 then beginState s1 g .blockLock true
    else if code = 7 then passState s1 g
    else beginState s1 g l.st false

/-- A HELLO with a wrong identity: the group returns to DETECT (R301). -/
def identityFail (s : State) (g : Nat) : State :=
  let l := linkOf s g
  let code := curCode l
  if inRun l then
    let n := tabGet 0 l.attempts code + 1
    let s1 := noteFail s g code 6
    if 3 ≤ n then park s1 g
    else modLk (startRun s1 g .detect false) g (fun x => { x with attempts := tabPut 0 l.attempts code n })
  else startRun (noteFail s g code 6) g .detect false

/-- Every lane of the mask has passed: the receiving end sends its done frame, or, as a transmit group's device, learns it. -/
def lanesPassed (s : State) (g : Nat) (mask : Nat) : State :=
  modLk s g (fun l => { l with
    lanes := ((List.range 17).filter (nbit mask)).foldl (fun t i => tabMod {} t i (fun x =>
      { x with passed := true, level := x.level || l.st == .levelTrain, lock := x.lock || l.st == .blockLock })) l.lanes })

end Sys2Proof.Machine
end

