-- ==== Sys2Proof/Machine/Lanes.lean ====
section
/-!
DEFINITION. The single-lane procedure (R302, R303), spare promotion (R304, R99), loss of the forwarded clock and of the sideband
(R305, R306), and the power states of a group (R308-R310).
-/

namespace Sys2Proof.Machine

/-! Spare promotion -/

/-- INDEX of the first marker slot of a transmit group that begins at least 400 µs from now, 164,706 block slots (R279, R280, R304). -/
def switchIndex (l : GroupLink) : Sample :=
  let b := (txSlot l + 164706 + 8191) / 8192 * 8192
  16 * ((l.txIndex.getD 0 + 4 * (136 * b / 35 - l.txClock) + 15) / 16)

/-- A negotiation is asked for (R304): the INDEX that the partner's marker will carry is one that its cadence settles (R279), hence a free
value; on a transmit group it is the device's own. -/
def negAsk (s : State) (g j fails : Nat) : State :=
  let idx := if g < 4 then (freeVal 64 s).toNat else switchIndex (linkOf s g)
  let s1 := modLk (if g < 4 then useFree s else s) g (fun l => { l with neg := some { pos := Fin.ofNat 16 j, index := idx, step := 0, fails := fails } })
  sbAsk s1 g 3 (sparePay j 0 idx)

/-- The spare goes to the position that was declared first, where it is ACTIVE and not mapped; otherwise SPARE_NONE (R304). -/
def trySpare (s : State) (g : Nat) : State :=
  let l := linkOf s g
  match l.neg, l.wantSpare with
  | none, j :: _ =>
    if l.st = .active ∧ l.mapped.isNone ∧ l.caps.getLsbD 1 ∧ !l.excl.getLsbD 16 ∧ (laneOf s g 16).st = .active then negAsk s g j.val 0
    else
      let s1 := modLk s g (fun l => { l with wantSpare := [] })
      reportCells s1 g [] (l.wantSpare.map Fin.val) (fun s k =>
        endCommit (raiseErr s (Reg.MRX_TRAIN_STATUS g) 5 3 (laneSrc g k) k) g k cNoSpare 0)
  | _, _ => s

/-- Position `j` asks for the spare. -/
def wantSpare (s : State) (g j : Nat) : State :=
  let k : Fin 16 := Fin.ofNat 16 j
  trySpare (modLk s g (fun l => { l with wantSpare := if l.wantSpare.contains k then l.wantSpare else l.wantSpare ++ [k] })) g

/-- The spare serves position `j` (R99, R304): the lane that it replaces is EXCLUDED. -/
def promoteSpare (s : State) (g j : Nat) : State :=
  let s1 := modLk s g (fun l => { l with
    mapped := some (Fin.ofNat 16 j), neg := none, wantSpare := l.wantSpare.filter (fun k => k.val != j)
    excl := l.excl ||| BitVec.ofNat 17 (2 ^ j)
    lanes := tabMod {} l.lanes j (fun x => { x with st := .excluded, lock := false }) })
  let s2 := if (linkOf s g).excl.getLsbD j then s1 else raiseBit s1 (Reg.MRX_LANE_TSTAT g j) 3
  let s3 := if g < 4 then setPosVoid (setPosLane s2 (16 * g + j) (64 + g)) (16 * g + j) false else s2
  let s4 := raiseErr s3 (Reg.MRX_TRAIN_STATUS g) 3 3 (laneSrc g 16) 16
  let s5 := s4.modShep (fun h => { h with laneProm := tabPut 0 h.laneProm g (now s) })
  trySpare (endCommit s5 g j cOk (physOf g 16)) g

/-- A lane is EXCLUDED (R302): with AUTO_SPARE its position asks for the spare. -/
def excludeLane (s : State) (g i : Nat) : State :=
  let served := servedBy (linkOf s g) i
  let s1 := modLk s g (fun l => { l with
    excl := l.excl ||| BitVec.ofNat 17 (2 ^ i), lanes := tabMod {} l.lanes i (fun x => { x with st := .excluded, lock := false }) })
  let s2 := logError (raise s1 (Reg.MRX_LANE_TSTAT g i) 0xA) (Reg.MRX_LANE_TSTAT g i) 3 3 (laneSrc g i) i
  match served with
  | some j => if (rd s (Reg.MRX_TRAIN_CTRL g)).getLsbD 3 then wantSpare s2 g j else s2
  | none => s2

/-- A negotiation fails: it is repeated, and after three failures the spare is excluded (R304). -/
def negFail (s : State) (g : Nat) : State :=
  match (linkOf s g).neg with
  | none => s
  | some n =>
    let s1 := raiseErr (modLk s g (fun l => { l with neg := none })) (Reg.MRX_TRAIN_STATUS g) 4 3 (laneSrc g 16) 16
    if n.fails + 1 < 3 then negAsk s1 g n.pos.val (n.fails + 1)
    else
      let s2 := modLk s1 g (fun l => { l with
        excl := l.excl ||| 0x10000, lanes := tabMod {} l.lanes 16 (fun x => { x with st := .excluded, lock := false }) })
      trySpare (logError (raiseBit s2 (Reg.MRX_LANE_TSTAT g 16) 3) (Reg.MRX_LANE_TSTAT g 16) 3 3 (laneSrc g 16) 16) g

/-! The lane procedure -/

/-- RELEVEL is asked of the partner for one lane (R302). -/
def askRelevel (s : State) (g i : Nat) : State :=
  sbAsk (modLane s g i (fun x => { x with st := .relevel, passed := false, level := false, lock := false, good := 0 })) g 2
    (trainPay 3 0 (2 ^ i) 0)

/-- An attempt of the lane's current step fails (R302, R303). `attempts` counts the RELOCK attempts, then the RELEVEL attempts. -/
def laneAttemptFailed (s : State) (g i : Nat) : State :=
  let x := laneOf s g i
  let n := x.attempts + 1
  let s0 := modLk s g (fun l => { l with queue := l.queue.filter (fun r => !(r.type == 2 && trainMask r.payload == 2 ^ i)) })
  if x.st = .relevel ∨ x.single then
    if 3 ≤ n then excludeLane (modLane s0 g i (fun x => { x with attempts := 3 })) g i
    else askRelevel (modLane s0 g i (fun x => { x with attempts := n, single := true })) g i
  else if 3 ≤ n then askRelevel (modLane s0 g i (fun x => { x with attempts := 0, single := true })) g i
  else modLane s0 g i (fun x => { x with st := .relock, attempts := n, good := 0, lock := false })

/-- A lane has passed RELEVEL: one RELOCK attempt follows. -/
def relevelPassed (s : State) (g i : Nat) : State :=
  modLane s g i (fun x => { x with st := .relock, single := true, level := true, good := 0, lock := false, passed := false })

/-- The UNIT code of a Myras group as a spared block: that of its spare lane. -/
def groupUnit (g : Nat) : Nat := unitCode (Reg.MRX_TRAIN_CTRL g) 16

/-- LOCK_LOST is counted; with LANE_AUTO, the fourth within an hour declares the lane failing (R425). -/
def countLost (s : State) (g i : Nat) : State :=
  let k := 32 * g + i
  let l := noteTime s (3600 * second) (tabGet [] s.shep.laneLost k)
  let s1 := s.modShep (fun p => { p with laneLost := tabPut [] p.laneLost k l })
  match servedBy (linkOf s g) i with
  | some j =>
    if (rd s Reg.SHEP_CTRL).getLsbD 2 ∧ i < 16 ∧ 4 ≤ l.length then wantSpare s1 g j else s1
  | none => s1

/-- A lane in ACTIVE loses lock: its position is void and RELOCK begins (R84, R96, R302). -/
def laneLost (s : State) (g i : Nat) : State :=
  let s1 := modLane s g i (fun x => { x with
    st := .relock, attempts := 0, single := false, good := 0, lock := false, dataCnt := 0, crcFails := 0, sinceFail := 9
    markerNo := none, passed := false })
  let s2 := match servedBy (linkOf s g) i with
    | some j => if g < 4 then setPosVoid s1 (16 * g + j) true else s1
    | none => s1
  countLost (raiseErr s2 (Reg.MRX_LANE_TSTAT g i) 0 2 (laneSrc g i) i) g i

/-- A lane rejoins (R303). -/
def laneRejoins (s : State) (g i : Nat) : State :=
  let s1 := modLane s g i (fun x => { x with
    st := .active, attempts := 0, single := false, lock := true, dataCnt := 0, crcFails := 0, sinceFail := 9 })
  let s2 := match servedBy (linkOf s g) i with
    | some j => if g < 4 then setPosVoid s1 (16 * g + j) false else s1
    | none => s1
  raiseBit s2 (Reg.MRX_LANE_TSTAT g i) 2

/-- A lane procedure or a spare negotiation runs in the group (R308, R312). -/
def procRuns (s : State) (g : Nat) : Bool :=
  let l := linkOf s g
  l.neg.isSome || (List.range 17).any (fun i =>
    match (laneOf s g i).st with
    | .relock | .relevel | .waitMarker => true
    | .down | .active | .excluded | .test => false)

/-- LANE_LOCK_LOST: the elastic buffer ran empty or overfull, or the lane lost clock recovery (R84). A lane that waits for its
marker goes back to RELOCK. -/
def execLaneLockLost (n : Fin 68) (s : State) : Host.Outcome State Fault Refusal :=
  let p := rxLane n.val
  if (linkOf s p.1).st = .active ∧ (laneOf s p.1 p.2).st = .active then .next (laneLost s p.1 p.2)
  else if (linkOf s p.1).st = .active ∧ (laneOf s p.1 p.2).st = .waitMarker then .next (laneAttemptFailed s p.1 p.2)
  else .next s

/-- LANE_RELOCK_EXPIRY (R302). -/
def execLaneRelockExpiry (n : Fin 68) (s : State) : Host.Outcome State Fault Refusal :=
  let p := rxLane n.val
  let st := (laneOf s p.1 p.2).st
  if (linkOf s p.1).st = .active ∧ (st = .relock ∨ st = .relevel) then .next (laneAttemptFailed s p.1 p.2) else .next s

/-! The forwarded clock and the sideband -/

/-- The group's clock is lost (R305): in ACTIVE or EIDLE the group returns to CLOCK_LOCK, or to DETECT where the sideband is lost as
well; in a training run the attempt fails with CLOCK (R295, R296). -/
def clockLost (s : State) (g : Nat) : State :=
  let l := linkOf s g
  if l.st = .active ∨ l.st = .eidle then
    let s1 := raiseErr s (Reg.MRX_TRAIN_STATUS g) 6 2 0x0480 0
    let s2 := startRun s1 g (if l.sbLost then .detect else .clockLock) false
    modLk s2 g (fun l => { l with clockLost := some (now s) })
  else if inRun l ∧ l.st ≠ .detect then failAttempt s g 5
  else s

/-- RX_CLOCK_LOST. -/
def execRxClockLost (g : Fin 4) (s : State) : Host.Outcome State Fault Refusal := .next (clockLost s g.val)

/-- SB_LOST (R287): a clock lost within the last 5 ms makes the group return to DETECT (R305). -/
def sbLost (s : State) (g : Nat) : State :=
  let l := linkOf s g
  if l.sbLost ∨ l.peerAsleep ∨ l.st = .off then s
  else
    let s1 := raiseBit (modLk s g (fun l => { l with sbLost := true })) (Reg.MRX_SB_STATUS g) 2
    match l.clockLost with
    | some t => if inRun l ∧ now s ≤ t + nsT 5000000 then startRun s1 g .detect false else s1
    | none => s1

def execSbLost (g : LinkGroup) (s : State) : Host.Outcome State Fault Refusal := .next (sbLost s (grpNo g))

/-! Power states (R308-R310) -/

/-- The group enters EIDLE: its positions are void. A LINK_SLEEP to DATA_OFF asks again. -/
def enterEidle (s : State) (g : Nat) : State :=
  let s1 := modLk (voidGroup s g) g (fun l => { l with
    st := .eidle, sleeping := 0, txData := false
    lanes := (List.range 17).foldl (fun t i => tabMod {} t i (fun x => if x.st = .active then { x with st := .down, markerNo := none } else x)) l.lanes })
  let s2 := endLk s1 g [1] cOk 9
  if (linkOf s2 g).cmds.any (fun c => c.kind == 2) then sbAsk s2 g 5 [0, 0, 0, 0] else s2

/-- The group enters DATA_OFF. -/
def enterDataOff (s : State) (g : Nat) : State :=
  endLk (modLk (voidGroup s g) g (fun l => { l with
    st := .dataOff, lanes := (List.range 17).foldl (fun t i => tabMod {} t i (fun x => { x with lock := false })) l.lanes })) g [2] cOk 10

/-- The group leaves EIDLE: DATA follows from the next marker slot (R309). -/
def leaveEidle (s : State) (g : Nat) : State :=
  let s1 := modLk s g (fun l => { l with
    st := .active
    lanes := (List.range 17).foldl (fun t i => tabMod {} t i (fun x =>
      if x.st = .down then { x with st := .active, dataCnt := 0, crcFails := 0, sinceFail := 9, markerNo := none } else x)) l.lanes })
  let s2 := if g < 4 then (List.range 16).foldl (fun s i => setPosNext s (16 * g + i) none) s1 else s1
  endLk (raiseBit s2 (Reg.MRX_TRAIN_STATUS g) 8) g [3] cOk 7

/-- The group leaves DATA_OFF by a run from CLOCK_LOCK that keeps the equaliser settings and the mapping (Table 13-4). -/
def leaveDataOff (s : State) (g : Nat) : State := startRun s g .clockLock true

/-- WAKE_BURST (R309). -/
def execWakeBurst (g : Fin 4) (s : State) : Host.Outcome State Fault Refusal :=
  .next (if (linkOf s g.val).st = .eidle then leaveEidle s g.val else s)

end Sys2Proof.Machine
end

