-- ==== Sys2Proof/Machine/Sideband.lean ====
section
/-!
DEFINITION. Sideband frames (R285-R287, R294, R295, R297, R300, R301, R304, R306-R312) and the end of training attempts.
-/

namespace Sys2Proof.Machine

/-! Frames (R286) -/

/-- LEN of each TYPE (Table 12-5). -/
def sbLen (t : Byte) : Option Nat :=
  if t = 1 then some 12 else if t = 2 then some 8 else if t = 3 then some 12 else if t = 4 then some 8
  else if t = 5 then some 4 else if t = 6 then some 8 else if t = 0x7F then some 2 else none

/-- Whether every field of a frame is in range (Table 12-5). -/
def sbFieldsOk (t : Byte) (p : List Byte) : Bool :=
  let b (i : Nat) : Nat := leAt p i 1
  if t = 1 then decide (b 0 ≤ 1) && decide (b 3 < 16)
  else if t = 2 then decide (1 ≤ b 0) && decide (b 0 ≤ 7) && decide (b 1 ≤ 3) && decide (b 4 ≤ 1) && leAt p 6 2 == 0
  else if t = 3 then (decide (b 0 ≤ 15) || b 0 == 0xFF) && decide (b 1 ≤ 3) && leAt p 2 2 == 0
  else if t = 4 then decide (b 0 ≤ 3) && decide (b 1 ≤ 7) && decide (b 4 ≤ 1) && decide (b 5 ≤ 3) && leAt p 6 2 == 0
  else if t = 5 then decide (b 0 ≤ 4) && leAt p 1 3 == 0
  else if t = 6 then leAt p 6 2 == 0
  else decide (1 ≤ b 1) && decide (b 1 ≤ 3)

/-- A frame that the receiver keeps. -/
def sbValid (f : SbFrame) : Bool := f.good && sbLen f.type == some f.payload.length && sbFieldsOk f.type f.payload

/-- A frame arrives: a bad one is dropped and counted; a valid one of TYPE `t` is handled by `body`, and shows that the sideband is
there. A group that is off, and a direction that sleeps, receive nothing (R299, R311). -/
def sbFrame (s : State) (g : Nat) (t : Byte) (f : SbFrame) (body : State → State) : State :=
  let l := linkOf s g
  if l.st = .off ∨ l.peerAsleep then s
  else if !sbValid f then raiseBit (incCnt s (Reg.MRX_SB_DROP g) 1) (Reg.MRX_SB_STATUS g) 1
  else if f.type ≠ t then s
  else pumpSb (body (modLk s g (fun l => { l with sbLost := false }))) g

/-- A request that the receiver's state does not allow is answered with NAK (R286, R312). -/
def sbNakTo (s : State) (g : Nat) (f : SbFrame) (reason : Nat) : State :=
  sbSend s g 0x7F f.seq [f.type, BitVec.ofNat 8 reason]

/-- NAK of a partner's request: busy where the device has an open request itself (R312). -/
def sbRefuse (s : State) (g : Nat) (f : SbFrame) : State := sbNakTo s g f (if (linkOf s g).req.isSome then 2 else 1)

/-- Whether a frame answers the open request. -/
def answers (l : GroupLink) (f : SbFrame) : Option SbReq := l.req.filter (fun r => r.type == f.type && r.seq == f.seq)

/-! HELLO and STATUS -/

/-- A HELLO that a group accepts as its partner's (Table 13-1). -/
def helloOk (g : Nat) (p : List Byte) : Bool := leAt p 0 1 == 0 && leAt p 1 1 == 1 && leAt p 2 1 == (if g < 4 then g else g - 4)

def helloBody (g : Nat) (p : List Byte) (s : State) : State :=
  let id := BitVec.ofNat 32 (leAt p 4 4)
  let s1 := wr (wr (wr s (Reg.MRX_PEER_ID g) id) (Reg.MRX_PEER_CAPS g) (BitVec.ofNat 32 (256 * leAt p 1 1 + leAt p 3 1)))
    (Reg.MRX_PEER_LAT g) (BitVec.ofNat 32 (leAt p 8 4))
  let s2 := raiseBit (modLk s1 g (fun l => { l with hello := true, caps := BitVec.ofNat 8 (leAt p 3 1) })) (Reg.MRX_SB_STATUS g) 0
  let l := linkOf s2 g
  let ok := helloOk g p
  if l.st = .parked then
    if ok && (match l.lastProbe with | some t => decide (t + nsT 100000000 ≤ now s) | none => true) then
      startRun (modLk s2 g (fun l => { l with lastProbe := some (now s) })) g .detect false
    else s2
  else if !ok || (match l.runPeer with | some r => r != id | none => false) then identityFail s2 g
  else if l.st = .detect then beginState (modLk s2 g (fun l => { l with runPeer := some id })) g .clockLock true
  else s2

/-- SB_HELLO. -/
def execSbHello (g : LinkGroup) (fr : SbFrame) (s : State) : Host.Outcome State Fault Refusal :=
  .next (sbFrame s (grpNo g) 1 fr (helloBody (grpNo g) fr.payload))

def statusBody (g : Nat) (p : List Byte) (s : State) : State :=
  wr (wr s (Reg.MRX_PEER_STATUS_LO g) (BitVec.ofNat 32 (leAt p 0 4))) (Reg.MRX_PEER_STATUS_HI g) (BitVec.ofNat 32 (leAt p 4 2))

/-- SB_STATUS. -/
def execSbStatus (g : LinkGroup) (fr : SbFrame) (s : State) : Host.Outcome State Fault Refusal :=
  .next (sbFrame s (grpNo g) 6 fr (statusBody (grpNo g) fr.payload))

/-- SB_HELLO_SEND: the device's HELLO; what it declares as CAPS[3:2], PART_ID and FE_LAT are free values. -/
def execSbHelloSend (g : LinkGroup) (s : State) : Host.Outcome State Fault Refusal :=
  let l := linkOf s (grpNo g)
  if l.st = .off ∨ l.asleep then .next s
  else
    let own := if grpNo g < 4 then grpNo g else grpNo g - 4
    let caps := 3 + 4 * (freeVal 2 s).toNat
    let s1 := useFree s
    .next (sbSend (useFree s1) (grpNo g) 1 0
      ([1, 1, BitVec.ofNat 8 own, BitVec.ofNat 8 caps] ++ leBytes 8 (freeVal 64 s1).toNat))

/-! The end of a training attempt -/

/-- The lanes of a mask that RELEVEL has passed or failed. -/
def relevelEnds (s : State) (g mask : Nat) (ok : Bool) : State :=
  ((List.range 17).filter (nbit mask)).foldl (fun s i =>
    if (laneOf s g i).st = .relevel then (if ok then relevelPassed s g i else laneAttemptFailed s g i) else s) s

/-- The done frame of the receiving end, or its failed frame, has been echoed, or has come from the partner (R295). -/
def judged (s : State) (g : Nat) (ok : Bool) (mask : Nat) : State :=
  let l := linkOf s g
  if ok then passState (lanesPassed s g mask) g
  else
    let s1 := lanesPassed s g (bitMask ((List.range 17).filter (fun i => l.mask.getLsbD i && !nbit mask i)))
    failAttempt s1 g (if l.st = .deskew then (if l.step = 5 then 7 else 8) else 9)

/-- SPARE is sent in SPARE_MAP once the partner has accepted the state (R297). -/
def askMapping (s : State) (g : Nat) : State :=
  sbAsk (modLk s g (fun l => { l with step := 7 })) g 3 (sparePay (sparePos (linkOf s g)) 0 0)

/-- An answer to the device's TRAIN. -/
def trainAnswer (s : State) (g : Nat) (r : SbReq) (cmd : Nat) : State :=
  let l := linkOf s g
  let asked := leAt r.payload 1 1
  let mask := trainMask r.payload
  let s1 := modLk s g (fun l => { l with req := none })
  if l.st = .active then
    if asked = 0 then
      if cmd = 1 then ((List.range 17).filter (nbit mask)).foldl (fun s i => modLane s g i (fun x => { x with passed := true })) s1
      else if cmd = 3 then relevelEnds s1 g mask false else s
    else if cmd = asked then relevelEnds s1 g mask (asked == 2) else s
  else if asked = 0 then
    if cmd = 1 then
      if l.step = 6 then reachActive s1 g
      else if l.st = .spareMap then askMapping s1 g
      else modLk s1 g (fun l => { l with step := 2 })
    else if cmd = 3 then failAttempt s1 g 3 else s
  else if cmd = asked then judged s1 g (asked == 2) mask else s

/-- A lane or the clock of a transmit group has lost lock, as the partner reports (R307). -/
def txLost (s : State) (g code mask : Nat) : State :=
  if code = 4 then
    reportCells s g [] ((List.range 17).filter (nbit mask)) (fun s i => if (laneOf s g i).st = .active then laneLost s g i else s)
  else if code = 2 then clockLost s g else s

/-- A TRAIN of the partner's: its judgement of a transmit group's lanes. On a receive group CMD 1 to 3 are replies alone, and one that
answers no open request is dropped (R287, R295). -/
def trainRequest (s : State) (g : Nat) (f : SbFrame) : State :=
  let l := linkOf s g
  let code := leAt f.payload 0 1
  let cmd := leAt f.payload 1 1
  let mask := trainMask f.payload
  let echo := sbSend s g 2 f.seq f.payload
  if cmd = 1 ∨ g < 4 ∧ cmd ≠ 0 then s
  else if cmd = 0 then sbRefuse s g f
  else if l.req.isSome then sbNakTo s g f 2
  else if inRun l ∧ l.step = 2 ∧ code = trainCode l.st then judged echo g (cmd == 2) mask
  else if l.st = .active ∧ code = 3 then relevelEnds echo g mask (cmd == 2)
  else if l.st = .active ∧ cmd = 3 ∧ (code = 2 ∨ code = 4) then txLost echo g code mask
  else if l.st = .eidle ∧ cmd = 3 ∧ code = 2 then txLost echo g code mask
  else if l.st = .active ∧ cmd = 2 ∧ code = 4 then
    ((List.range 17).filter (nbit mask)).foldl (fun s i => if (laneOf s g i).st = .relock then laneRejoins s g i else s) echo
  else sbNakTo s g f 1

def trainBody (g : Nat) (f : SbFrame) (s : State) : State :=
  match answers (linkOf s g) f with
  | some r => trainAnswer s g r (leAt f.payload 1 1)
  | none => trainRequest s g f

/-- SB_TRAIN. -/
def execSbTrain (g : LinkGroup) (fr : SbFrame) (s : State) : Host.Outcome State Fault Refusal :=
  .next (sbFrame s (grpNo g) 2 fr (trainBody (grpNo g) fr))

/-- A training state's mask has been judged by the receiving device: its step-3 frame (R295). -/
def sendDone (s : State) (g step cmd mask : Nat) : State :=
  let code := trainCode (linkOf s g).st
  sbAsk (modLk s g (fun l => { l with step := step })) g 2 (trainPay code cmd mask 0)

/-- The lanes of a group in ACTIVE whose RELEVEL the partner has accepted. -/
def relevelling (s : State) (g : Nat) : List Nat :=
  (List.range 17).filter (fun i => (laneOf s g i).st == .relevel && (laneOf s g i).passed)

/-- The judgement of RELEVEL attempts goes to the partner. -/
def sendRelevel (s : State) (g : Nat) (l : List Nat) (cmd : Nat) : State :=
  l.foldl (fun s i => sbAsk (modLane s g i (fun x => { x with passed := false })) g 2 (trainPay 3 cmd (2 ^ i) 0)) s

/-- DESKEW has been judged for a group whose lanes are deskewed: it passes, or fails the alignment window (R89). -/
def judgeAligned (s : State) (n mask : Nat) : State :=
  if aligned s n then sendDone s n 3 2 mask else sendDone (raiseErr s (Reg.INGEST_STATUS n) 3 2 0x0480 0) n 5 3 mask

/-- TRAIN_LANES_PASSED (R295): the device judges receive groups. In DESKEW every lane has passed once the markers have shown it (R88). -/
def execTrainLanesPassed (g : LinkGroup) (s : State) : Host.Outcome State Fault Refusal :=
  let n := grpNo g
  let l := linkOf s n
  if 4 ≤ n then .next s
  else if l.st = .active then .next (sendRelevel s n (relevelling s n) 2)
  else if inRun l ∧ l.step = 2 then
    if l.st = .deskew then .next (if deskewed s n l.mask.toNat then judgeAligned s n l.mask.toNat else s)
    else .next (sendDone s n 3 2 l.mask.toNat)
  else .next s

/-- TRAIN_JUDGE_DEADLINE (R295). In DESKEW the markers tell which lanes have passed, and the group as a whole fails where they differ by more
than 2,048 UI (R88) or lie outside the alignment window (R89). -/
def execTrainJudgeDeadline (g : LinkGroup) (passed : BitVec 17) (s : State) : Host.Outcome State Fault Refusal :=
  let n := grpNo g
  let l := linkOf s n
  let fail := l.mask.toNat - (l.mask &&& passed).toNat
  if 4 ≤ n then .next s
  else if l.st = .active then
    let r := relevelling s n
    .next (sendRelevel (sendRelevel s n (r.filter (fun i => passed.getLsbD i)) 2) n (r.filter (fun i => !passed.getLsbD i)) 3)
  else if inRun l ∧ l.step = 2 then
    if l.st = .deskew then
      let late := bitMask ((List.range 17).filter (fun i => l.mask.getLsbD i && (laneOf s n i).mark.isNone))
      .next (if deskewed s n l.mask.toNat then judgeAligned s n l.mask.toNat
        else sendDone s n 4 3 (if late = 0 then l.mask.toNat else late))
    else if fail ≠ 0 then .next (sendDone s n 4 3 fail)
    else .next (sendDone s n 3 2 l.mask.toNat)
  else .next s

/-- TRAIN_ATTEMPT_TIMEOUT (R295). -/
def execTrainAttemptTimeout (g : LinkGroup) (s : State) : Host.Outcome State Fault Refusal :=
  .next (if inRun (linkOf s (grpNo g)) then failAttempt s (grpNo g) 1 else s)

/-- REPROBE (R300). -/
def execReprobe (g : LinkGroup) (s : State) : Host.Outcome State Fault Refusal :=
  .next (if (linkOf s (grpNo g)).st = .parked then startRun s (grpNo g) .detect false else s)

/-! SPARE -/

/-- The partner agrees: the spare takes the position at the switching marker slot, on a transmit group the device's own (R304). -/
def spareAgreed (s : State) (g : Nat) : State :=
  match (linkOf s g).neg with
  | some n => modLk s g (fun l => { l with neg := some { n with step := 1 } })
  | none => s

/-- SPARE_MAP's exchange has completed (R297). -/
def mappingAgreed (s : State) (g pos : Nat) : State :=
  let s1 := modLk s g (fun l => { l with mapped := if pos < 16 then some (Fin.ofNat 16 pos) else none })
  let s2 := if g < 4 ∧ pos < 16 then setPosLane s1 (16 * g + pos) (64 + g) else s1
  if g < 4 then sendDone s2 g 3 2 (linkOf s2 g).mask.toNat else modLk s2 g (fun l => { l with step := 2 })

def spareBody (g : Nat) (f : SbFrame) (s : State) : State :=
  let cmd := leAt f.payload 1 1
  match answers (linkOf s g) f with
  | some r =>
    let s1 := modLk s g (fun l => { l with req := none })
    if cmd = 0 then s
    else if (linkOf s g).st = .spareMap then (if cmd = 3 then failAttempt s1 g 3 else mappingAgreed s1 g (leAt r.payload 0 1))
    else if cmd = 3 then negFail s1 g
    else spareAgreed s1 g
  | none => if cmd = 0 then sbRefuse s g f else s

/-- SB_SPARE. -/
def execSbSpare (g : LinkGroup) (fr : SbFrame) (s : State) : Host.Outcome State Fault Refusal :=
  .next (sbFrame s (grpNo g) 3 fr (spareBody (grpNo g) fr))

/-! TEST -/

/-- The functions of a lane's test register change (R288, R290): while one runs, the lane is in TEST and its position is void; when
none is left, a lane of an ACTIVE group locks again. -/
def testChanged (s : State) (g i : Nat) (chkWas : Bool) : State :=
  let w := rd s (Reg.MRX_LANE_TEST g i)
  let x := laneOf s g i
  let on := w &&& 0x830 != 0 || x.loop != 0
  let s1 := if w.getLsbD 5 && !chkWas || !w.getLsbD 5 then modLane s g i (fun x => { x with prbsLock := false }) else s
  if on then
    let s2 := modLane s1 g i (fun x => { x with st := .test, lock := false, markerNo := none })
    match servedBy (linkOf s g) i with
    | some j => if g < 4 then setPosVoid s2 (16 * g + j) true else s2
    | none => s2
  else if x.st = .test then
    if (linkOf s g).st = .active then
      if g < 4 then modLane s1 g i (fun x => { x with st := .relock, attempts := 0, single := false, good := 0 })
      else modLane s1 g i (fun x => { x with st := .active })
    else modLane s1 g i (fun x => { x with st := .down })
  else s1

/-- The pattern functions of a lane are set: FUNC 1 generate, 2 check, 3 both, 0 off (R288). -/
def setPattern (s : State) (g i func pattern : Nat) : State :=
  let o := Reg.MRX_LANE_TEST g i
  let chk := (rd s o).getLsbD 5
  let s1 := wrF (wrF s o 5 4 (func % 2 + 2 * (func / 2 % 2))) o 10 8 pattern
  testChanged (if func / 2 % 2 = 1 then modLane s1 g i (fun x => { x with prbsLock := false }) else s1) g i chk

/-- Whether a change of these lanes is refused (R290). -/
def testBusy (s : State) (ls : List (Nat × Nat)) : Bool :=
  ls.any (fun p => serves s p.1 p.2) && (captureBusy s || playing s)

/-- A TEST of the partner's sets the matching end's function: the device checks a receive group and generates on a transmit group. -/
def testRequest (s : State) (g : Nat) (f : SbFrame) : State :=
  let func := leAt f.payload 0 1
  let mask := trainMask f.payload
  let ls := (List.range 17).filter (nbit mask)
  if (linkOf s g).req.isSome ∨ testBusy s (ls.map (fun i => (g, i))) then sbNakTo s g f 2
  else if func = 0 ∨ func = (if g < 4 then 2 else 1) then
    ls.foldl (fun s i => setPattern s g i func (leAt f.payload 1 1)) (sbSend s g 4 f.seq (f.payload.set 5 1))
  else sbNakTo s g f 3

def testBody (g : Nat) (f : SbFrame) (s : State) : State :=
  let cmd := leAt f.payload 5 1
  match answers (linkOf s g) f with
  | some _ =>
    let s1 := modLk s g (fun l => { l with req := none })
    if cmd = 0 then s
    else if cmd = 3 then endPeer (useFree s1) g false cNak (freeVal 8 s1).toNat
    else endPeer s1 g true 0 0
  | none => if cmd = 0 then testRequest s g f else s

/-- SB_TEST. -/
def execSbTest (g : LinkGroup) (fr : SbFrame) (s : State) : Host.Outcome State Fault Refusal :=
  .next (sbFrame s (grpNo g) 4 fr (testBody (grpNo g) fr))

/-! POWER -/

/-- The partner has acknowledged the device's POWER request (R309-R311). -/
def powerAcked (s : State) (g cmd : Nat) : State :=
  let l := linkOf s g
  if cmd = 0 then
    if l.st = .eidle then enterDataOff s g
    else if l.st = .active then modLk s g (fun l => { l with sleeping := 1 })
    else s
  else if cmd = 1 then (if l.st = .dataOff then leaveDataOff s g else s)
  else if cmd = 2 then endLk (modLk s g (fun l => { l with asleep := true })) g [4] cOk (trainCode l.st)
  else endLk s g [5] cOk (trainCode l.st)

/-- A POWER request of the partner's. -/
def powerRequest (s : State) (g : Nat) (f : SbFrame) : State :=
  let l := linkOf s g
  let cmd := leAt f.payload 0 1
  let ack := sbSend s g 5 f.seq [4, 0, 0, 0]
  let nak (r : Nat) : State := raiseBit (sbNakTo s g f r) (Reg.MRX_TRAIN_STATUS g) 7
  if cmd = 3 then
    -- a wake request cancels a sleep request that the device is sending (R311)
    let open2 := match l.req with | some r => r.type == 5 && leAt r.payload 0 1 == 2 | none => false
    let s1 := if open2 then endLkFree (modLk s g (fun l => { l with req := none })) g [4] else s
    sbSend s1 g 5 f.seq [4, 0, 0, 0]
  else if l.req.isSome then nak 2
  else if cmd = 2 then modLk ack g (fun l => { l with peerAsleep := true })
  else if procRuns s g then nak 2
  else if cmd = 0 then
    if l.st = .active then modLk ack g (fun l => { l with sleeping := 1 })
    else if l.st = .eidle then enterDataOff ack g
    else nak 1
  else if l.st = .eidle then (if g < 4 then ack else leaveEidle ack g)
  else if l.st = .dataOff then leaveDataOff ack g
  else nak 1

def powerBody (g : Nat) (f : SbFrame) (s : State) : State :=
  let cmd := leAt f.payload 0 1
  if cmd = 4 then
    match answers (linkOf s g) f with
    | some r => powerAcked (modLk s g (fun l => { l with req := none })) g (leAt r.payload 0 1)
    | none => s
  else powerRequest s g f

/-- SB_POWER. -/
def execSbPower (g : LinkGroup) (fr : SbFrame) (s : State) : Host.Outcome State Fault Refusal :=
  .next (sbFrame s (grpNo g) 5 fr (powerBody (grpNo g) fr))

/-- SB_ACTIVITY_WAKE (R311). -/
def execSbActivityWake (g : LinkGroup) (s : State) : Host.Outcome State Fault Refusal :=
  .next (modLk s (grpNo g) (fun l => { l with peerAsleep := false }))

/-! Refused and failed exchanges -/

/-- The exchange of request `r` has been refused with `nak`, or has failed (`none`; R287). The status of a command whose exchange fails
is not stated: a free value. -/
def exchangeEnds (s : State) (g : Nat) (r : SbReq) (nak : Option Nat) : State :=
  let l := linkOf s g
  let s1 := modLk s g (fun l => { l with req := none })
  if r.type = 2 ∨ r.type = 3 then
    if inRun l then failAttempt s1 g (if nak.isSome then 3 else 2)
    else if r.type = 2 then relevelEnds s1 g (trainMask r.payload) false
    else negFail s1 g
  else if r.type = 4 then
    match nak with
    | some n => endPeer s1 g false cNak n
    | none => endPeer (useFree s1) g false (freeVal 8 s1).toNat 0
  else
    match nak with
    | some n => endLk (raiseBit s1 (Reg.MRX_TRAIN_STATUS g) 7) g [1, 2, 3, 4, 5] cNak n
    | none => endLkFree s1 g [1, 2, 3, 4, 5]

def nakBody (g : Nat) (f : SbFrame) (s : State) : State :=
  match (linkOf s g).req with
  | some r =>
    if r.seq = f.seq ∧ leAt f.payload 0 1 = r.type.toNat then
      exchangeEnds (raiseBit s (Reg.MRX_SB_STATUS g) 4) g r (some (leAt f.payload 1 1))
    else s
  | none => s

/-- SB_NAK. -/
def execSbNak (g : LinkGroup) (fr : SbFrame) (s : State) : Host.Outcome State Fault Refusal :=
  .next (sbFrame s (grpNo g) 0x7F fr (nakBody (grpNo g) fr))

/-- SB_RETRY: the open request is sent again, or its exchange fails after the third (R287). -/
def execSbRetry (g : LinkGroup) (s : State) : Host.Outcome State Fault Refusal :=
  let n := grpNo g
  match (linkOf s n).req with
  | none => .next s
  | some r =>
    if r.sends < 3 then
      .next (sbSend (modLk s n (fun l => { l with req := some { r with sends := r.sends + 1 } })) n r.type r.seq r.payload)
    else .next (pumpSb (exchangeEnds (raiseBit s (Reg.MRX_SB_STATUS n) 3) n r none) n)

end Sys2Proof.Machine
end

