-- ==== Sys2Proof/Machine/LinkCmd.lean ====
section
/-!
DEFINITION. The link commands (R359): LINK_TRAIN (R299), LINK_SLEEP (R308-R311), EYE_SCAN (R291), BIT_SLIP (R298), LOOPBACK and PRBS
(R288-R290).
-/

namespace Sys2Proof.Machine

/-- The group that DIR and GROUP name. -/
def cmdGroup (dir group : Byte) : Nat := if dir = 0 then group.toNat else 4 + group.toNat

/-- DIR and GROUP are in range (Table 15-14). -/
def dirGroupOk (dir group : Byte) : List (Nat × Bool) :=
  [(8, decide (dir.toNat ≤ 1)), (9, decide (group.toNat < (if dir = 0 then 4 else 2)))]

/-- The block of a group (Table 15-18). -/
def linkBlock (g : Nat) : Nat := 0x10 + g

/-! LINK_TRAIN -/

/-- The group is powered and its run begins (R299). -/
def linkOn (s : State) (g : Nat) : State :=
  if (linkOf s g).cmds.any (fun c => c.kind == 0) ∧ (linkOf s g).st ≠ .active then startRun s g .detect false else s

/-- EN is cleared: any run stops and the group is in OFF (R299). What waited on the group completes with a status that the spec does not
state. -/
def linkOff (s : State) (g : Nat) : State :=
  let s1 := endLkFree (voidGroup s g) g [0, 1, 2, 3, 4, 5, 6]
  modLk s1 g (fun l => { l with
    st := .off, step := 0, mask := 0, req := none, queue := [], neg := none, wantSpare := [], attempts := [], sleeping := 0
    hello := false, runPeer := none, mapped := none, excl := 0, sbLost := false, wakeKeep := false
    lanes := (List.range 17).foldl (fun t i => tabMod {} t i (laneFresh false)) l.lanes })

def linkTrainBody (h : CmdHdr) (g : Nat) (s : State) : State :=
  if grpServes s g && (captureBusy s || playing s) && !cflag h 0 then refuse s h 0x0901 cBusy busyState
  else
    let s1 := endLk s g [0, 1, 2, 3, 4, 5] cAborted 0
    let anyRx := (List.range 4).any (fun k => (linkOf s k).st == .active || (linkOf s k).st == .eidle)
    let s2 := if g < 4 ∧ !anyRx then (s1.modTb (fun t => { t with epoch := none })).modIngest (fun x => { x with ref := none }) else s1
    let s3 := modLk (keepRunning s2 h 0x0901 g 0) g (fun l => { l with cmds := l.cmds ++ [{ ring := h.ring, cid := h.cid, kind := 0 }] })
    let o := Reg.MRX_TRAIN_CTRL g
    if blkEn s3 o && blkState s3 o == stOn then startRun s3 g .detect false
    else if blkEn s3 o then s3
    else writeEn s3 o true

/-- What R345 checks of LINK_TRAIN. -/
def linkTrainChecks (h : CmdHdr) (dir : Byte) (group : Byte) : Checks :=
  { op := 0x0901, fields := cflagsOk h 1 :: dirGroupOk dir group, dagger := true, blocks := [linkBlock (cmdGroup dir group)] }

/-- LINK_TRAIN. -/
def execLinkTrain (h : CmdHdr) (dir : Byte) (group : Byte) (s : State) : Host.Outcome State Fault Refusal :=
  .next (startCmd h (linkTrainChecks h dir group)
    none (linkTrainBody h (cmdGroup dir group)) s)

/-! LINK_SLEEP -/

/-- The state from which an action of LINK_SLEEP acts, and the state that it ends in. -/
def sleepStep (l : GroupLink) (action : Nat) : Option (List Byte) :=
  if action = 0 ∧ l.st = .active then some [0, 0, 0, 0]
  else if action = 1 ∧ (l.st = .active ∨ l.st = .eidle) then some [0, 0, 0, 0]
  else if action = 2 ∧ (l.st = .eidle ∨ l.st = .dataOff) then some [1, 0, 0, 0]
  else if action = 3 ∧ l.st ≠ .off then some [2, 0, 0, 0]
  else if action = 4 ∧ l.st ≠ .off then some [3, 0, 0, 0]
  else none

/-- The group is already in the state that the action asks for. -/
def sleepReached (l : GroupLink) (action : Nat) : Bool :=
  (action == 0 && l.st == .eidle) || (action == 1 && l.st == .dataOff) || (action == 2 && l.st == .active) ||
    (action == 3 && l.asleep) || (action == 4 && !l.asleep && l.st != .off)

def linkSleepBody (h : CmdHdr) (g action : Nat) (s : State) : State :=
  let l := linkOf s g
  if l.sbLost then refuse s h 0x0902 cState 0
  else if sleepReached l action then finish s h 0x0902 cOk (trainCode l.st) 0
  else match sleepStep l action with
  | none => refuse s h 0x0902 cState 0
  | some p =>
    let busy := if g < 4 then grpServes s g && captureBusy s else playing s
    if busy || procRuns s g then refuse s h 0x0902 cBusy busyState
    else
      let s1 := modLk (keepRunning s h 0x0902 g 0) g (fun l => { l with
        cmds := l.cmds ++ [{ ring := h.ring, cid := h.cid, kind := 1 + action }] })
      if action = 2 ∧ 4 ≤ g ∧ l.st = .eidle then leaveEidle s1 g else sbAsk s1 g 5 p

/-- What R345 checks of LINK_SLEEP. -/
def linkSleepChecks (h : CmdHdr) (dir : Byte) (group : Byte) (action : Byte) (s : State) : Checks :=
  { op := 0x0902, fields := cflagsOk h 0 :: (dirGroupOk dir group ++ [(10, decide (action.toNat ≤ 4))]), dagger := true
    blocks := [linkBlock (cmdGroup dir group)]
    held := holderObj s [0x0901, 0x0902] (cmdGroup dir group) }

/-- LINK_SLEEP. -/
def execLinkSleep (h : CmdHdr) (dir : Byte) (group : Byte) (action : Byte) (s : State) : Host.Outcome State Fault Refusal :=
  .next (startCmd h (linkSleepChecks h dir group action s)
    none (linkSleepBody h (cmdGroup dir group) action.toNat) s)

/-! EYE_SCAN -/

/-- The points from `lo` to `hi` in steps. -/
def steps (lo hi : Int) (step : Nat) : List Int :=
  if hi < lo ∨ step = 0 then [] else (List.range ((hi - lo).toNat / step + 1)).map (fun n => lo + (n * step : Nat))

/-- The records of a scan (R291): each point's mismatch count is a free value of at most 2^DWELL. -/
def scanPoints (dwell : Nat) (pts : List (Int × Int)) (s : State) : State × List Byte :=
  let r := pts.foldl (fun (a : State × List (List Byte)) p =>
    (useFree a.1, ([BitVec.ofInt 8 p.1, BitVec.ofInt 8 p.2] ++ leBytes 6 ((freeVal 48 a.1).toNat % (2 ^ dwell + 1))) :: a.2)) (s, [])
  (r.1, r.2.reverse.flatten)

def eyeScanBody (h : CmdHdr) (p : EyeParams) (s : State) : State :=
  let q := rxLane p.lane.toNat
  if (linkOf s q.1).st ≠ .active ∨ (laneOf s q.1 q.2).st ≠ .active then refuse s h 0x0903 cState 0
  else
    let pts := (steps (signed 8 p.phMin.toNat) (signed 8 p.phMax.toNat) p.phStep.toNat).flatMap (fun x =>
      (steps (signed 8 p.vMin.toNat) (signed 8 p.vMax.toNat) p.vStep.toNat).map (fun y => (x, y)))
    let n := min pts.length (segsLen (bufList s p.dest) / 8)
    let r := scanPoints p.dwell.toNat (pts.take n) s
    finish (deliver r.1 p.dest r.2).1 h 0x0903 (if n < pts.length then cBufferFull else cOk) n 0

/-- What R345 checks of EYE_SCAN. -/
def eyeScanChecks (h : CmdHdr) (p : EyeParams) (s : State) : Checks :=
  let ph := decide (-64 ≤ signed 8 p.phMin.toNat) && decide (signed 8 p.phMin.toNat ≤ signed 8 p.phMax.toNat) &&
    decide (signed 8 p.phMax.toNat ≤ 63) && decide (1 ≤ p.phStep.toNat) && decide (p.phStep.toNat ≤ 127)
  let v := decide (-127 ≤ signed 8 p.vMin.toNat) && decide (signed 8 p.vMin.toNat ≤ signed 8 p.vMax.toNat) &&
    decide (1 ≤ p.vStep.toNat) && decide (p.vStep.toNat ≤ 254)
  { op := 0x0903
    fields := [cflagsOk h 0, (8, decide (p.lane.toNat ≤ 67)), (9, decide (p.eye.toNat ≤ 2)),
      (10, decide (10 ≤ p.dwell.toNat) && decide (p.dwell.toNat ≤ 40)), (12, ph), (15, v), (24, bufOk s p.dest)]
    blocks := [linkBlock (rxLane p.lane.toNat).1]
    held := (holderObj s [0x0901, 0x0902] (rxLane p.lane.toNat).1).or (holderObj s [0x0903] p.lane.toNat) }

/-- EYE_SCAN. -/
def execEyeScan (h : CmdHdr) (p : EyeParams) (s : State) : Host.Outcome State Fault Refusal :=
  .next (startCmd h (eyeScanChecks h p s)
    none (eyeScanBody h p) s)

/-! BIT_SLIP -/

def bitSlipBody (h : CmdHdr) (lane count : Nat) (s : State) : State :=
  let q := rxLane lane
  let l := linkOf s q.1
  if !slipSw s q.1 ∨ ¬(l.st = .blockLock ∨ (l.st = .active ∧ (laneOf s q.1 q.2).st = .relock)) then refuse s h 0x0904 cState 0
  else
    let v := ((laneOf s q.1 q.2).slip + count) % 136
    finish (modLane s q.1 q.2 (fun x => { x with slip := v, good := 0, lock := false })) h 0x0904 cOk v 0

/-- What R345 checks of BIT_SLIP. -/
def bitSlipChecks (h : CmdHdr) (lane : Byte) (count : BitVec 16) (s : State) : Checks :=
  { op := 0x0904
    fields := [cflagsOk h 0, (8, decide (lane.toNat ≤ 67)), (10, decide (1 ≤ count.toNat) && decide (count.toNat ≤ 135))]
    blocks := [linkBlock (rxLane lane.toNat).1]
    held := holderObj s [0x0901, 0x0902] (rxLane lane.toNat).1 }

/-- BIT_SLIP. -/
def execBitSlip (h : CmdHdr) (lane : Byte) (count : BitVec 16) (s : State) : Host.Outcome State Fault Refusal :=
  .next (startCmd h (bitSlipChecks h lane count s)
    none (bitSlipBody h lane.toNat count.toNat) s)

/-! LOOPBACK -/

/-- The lanes of a mask. -/
def maskLanes (lanes : BitVec 128) : List Nat := bitsOf 128 lanes.toNat

/-- The lanes that a loopback of physical lane `n` changes (Table 12-7); KIND 0 clears every loopback of the lane, at both its ends. -/
def loopLanes (s : State) (kind : Nat) (dir : Byte) (n : Nat) : List (Nat × Nat) :=
  let near := [txLane n, rxLane n, rxLane (n + 32)]
  if kind = 1 then near
  else if kind = 3 then [rxLane n, txLane n]
  else
    let own := if dir = 0 then rxLane n else txLane n
    if kind = 2 then [own]
    else
      let k := (laneOf s own.1 own.2).loop
      if k = 1 then [txLane (n % 32), rxLane (n % 32), rxLane (n % 32 + 32)]
      else if k = 3 then [rxLane n, txLane n]
      else [own]

/-- Whether KIND and DIR allow the lanes of the mask (R289, R359): KIND 1 names TX lanes 0-31 and KIND 3 RX lanes 0-31. -/
def loopMaskOk (kind : Nat) (dir : Byte) (lanes : BitVec 128) : Bool :=
  (maskLanes lanes).all (fun n => decide (n < (if kind = 1 ∨ kind = 3 then 32 else if dir = 0 then 68 else 34)))

/-- One lane's loopback changes. -/
def setLoop (kind : Nat) (s : State) (p : Nat × Nat) : State :=
  let o := Reg.MRX_LANE_TEST p.1 p.2
  let chk := (rd s o).getLsbD 5
  let s1 := if kind = 2 then wrF s o 11 11 1 else if kind = 0 then wrF s o 11 11 0 else s
  let s2 := if kind = 2 then s1 else modLane s1 p.1 p.2 (fun x => { x with loop := kind })
  testChanged s2 p.1 p.2 chk

def loopbackBody (h : CmdHdr) (kind : Nat) (ls : List (Nat × Nat)) (s : State) : State :=
  if testBusy s ls then refuse s h 0x0905 cBusy busyState
  else finish (ls.foldl (setLoop kind) s) h 0x0905 cOk 0 0

/-- The first holder of a conflict on any of the groups. -/
def linkHeld (s : State) (ls : List (Nat × Nat)) : Option (BitVec 16) :=
  holder s (fun r => [0x0901, 0x0902].contains r.op && ls.any (fun p => p.1 == r.obj))

/-- What R345 checks of LOOPBACK. -/
def loopbackChecks (h : CmdHdr) (kind : Byte) (dir : Byte) (lanes : BitVec 128) (s : State) : Checks :=
  let ls := ((maskLanes lanes).flatMap (loopLanes s kind.toNat dir)).eraseDups
  { op := 0x0905
    fields := [cflagsOk h 0, (8, decide (kind.toNat ≤ 3)), (9, decide (dir.toNat ≤ 1)), (16, loopMaskOk kind.toNat dir lanes)]
    blocks := ls.map (fun p => linkBlock p.1)
    held := linkHeld s ls }

/-- LOOPBACK. -/
def execLoopback (h : CmdHdr) (kind : Byte) (dir : Byte) (lanes : BitVec 128) (s : State) : Host.Outcome State Fault Refusal :=
  let ls := ((maskLanes lanes).flatMap (loopLanes s kind.toNat dir)).eraseDups
  .next (startCmd h (loopbackChecks h kind dir lanes s)
    none (loopbackBody h kind.toNat ls) s)

/-! PRBS -/

/-- The partner's matching function (R288): it checks what a transmit group generates, and generates what a receive group checks. -/
def peerFunc (dir : Byte) (func : Nat) : Nat := if func = 0 then 0 else if dir = 0 then 1 else 2

def prbsBody (h : CmdHdr) (dir : Byte) (func pattern : Nat) (peer : Bool) (ls : List (Nat × Nat)) (s : State) : State :=
  if testBusy s ls then refuse s h 0x0906 cBusy busyState
  else
    let s1 := ls.foldl (fun s p => setPattern s p.1 p.2 func pattern) s
    if peer && !ls.isEmpty then
      let gs := (List.range 6).filter (fun g => ls.any (fun p => p.1 == g))
      gs.foldl (fun s g =>
        let m := bitMask ((ls.filter (fun p => p.1 == g)).map Prod.snd)
        sbAsk (modLk s g (fun l => { l with cmds := l.cmds ++ [{ ring := h.ring, cid := h.cid, kind := 6 }] })) g 4
          ([BitVec.ofNat 8 (peerFunc dir func), BitVec.ofNat 8 pattern] ++ leBytes 3 m ++ [0, 0, 0]))
        (keepRunning s1 h 0x0906 0 0)
    else finish s1 h 0x0906 cOk 0 0

/-- What R345 checks of PRBS. -/
def prbsChecks (h : CmdHdr) (dir : Byte) (func : Byte) (pattern : Byte) (peer : Byte) (lanes : BitVec 128) (s : State) : Checks :=
  let ls := (maskLanes lanes).map (if dir = 0 then rxLane else txLane)
  { op := 0x0906
    fields := [cflagsOk h 0, (8, decide (dir.toNat ≤ 1)), (9, decide (func.toNat ≤ 3)), (10, decide (pattern.toNat ≤ 7)),
      (11, decide (peer.toNat ≤ 1)), (16, decide (lanes.toNat < 2 ^ (if dir = 0 then 68 else 34)))]
    blocks := ls.map (fun p => linkBlock p.1)
    held := linkHeld s ls }

/-- PRBS. -/
def execPrbs (h : CmdHdr) (dir : Byte) (func : Byte) (pattern : Byte) (peer : Byte) (lanes : BitVec 128) (s : State) :
    Host.Outcome State Fault Refusal :=
  let ls := (maskLanes lanes).map (if dir = 0 then rxLane else txLane)
  .next (startCmd h (prbsChecks h dir func pattern peer lanes s)
    none (prbsBody h dir func.toNat pattern.toNat (peer != 0) ls) s)

end Sys2Proof.Machine
end

