-- ==== Sys2Proof/Machine/Memory.lean ====
section
/-!
DEFINITION. On-die memories and HBM as BAR2 reaches them (R318-R320, R385-R394), error correction, scrubbing and repair (R386, R387,
R432, R436), and the power of banks and stacks (R361, R393, R394, R418).
-/

namespace Sys2Proof.Machine

/-! The scratch aperture (Table 14-3, R385) -/

/-- Region, bank and word of aperture offset `x`. -/
def apLoc (x : Nat) : Option (Nat × Nat × Nat) :=
  let mib := 2 ^ 20
  let at_ (r : Nat) : Nat × Nat × Nat := (r, (x - regionBase r) / 262144, (x - regionBase r) % 262144 / 8)
  if x < 64 * mib then some (at_ (x / (16 * mib)))
  else if x < 72 * mib then some (at_ 4)
  else if x < 76 * mib then some (at_ 5)
  else if 80 * mib ≤ x ∧ x < 82 * mib then some (at_ 6)
  else if 96 * mib ≤ x ∧ x < 104 * mib + 4096 then some (7, 0, (x - regionBase 7) / 8)
  else none

/-- The number by which a row is known: region, bank and row. -/
def rowKey (r b w : Nat) : Nat := (r * 64 + b) * 512 + w / 64

/-- The aperture offset of a word. -/
def wordAt (r b w : Nat) : Nat := bankBase r b + 8 * w

/-- Whether a bank serves accesses (R393). -/
def bankOn (s : State) (r b : Nat) : Bool := decide (7 ≤ r) || bankState s r b == 2

/-- MEM_ERR_LOC is captured while CE, UE, WW_COLLIDE, ALIAS_ABORT and OFF_ACCESS are all clear (Table 17-7). -/
def memLoc (s : State) (r b w kind : Nat) : State :=
  if tabGet 0 s.regs Reg.MEM_STATUS &&& 0x83C = 0 then
    wr s Reg.MEM_ERR_LOC (BitVec.ofNat 32 (r % 8 * 2 ^ 29 + b % 64 * 2 ^ 23 + w % 32768 * 256 + kind))
  else s

/-- The cell number of a bank in the MEM block. -/
def bankCell (r b : Nat) : Nat := r * 64 + b

/-- An access reached a bank that is not ON (R394). -/
def offAccess (s : State) (r b w : Nat) : State := raiseBit (memLoc s r b w 5) Reg.MEM_STATUS 11

/-- Whether a word reads with an uncorrectable error: it holds one, or its row is quarantined (R386, R387). -/
def wordBad (s : State) (r b w : Nat) : Bool :=
  s.mem.badWords.contains (wordAt r b w) || s.mem.deadRows.contains (rowKey r b w)

/-- A row of a bank is declared failing (R425). -/
def failRow (r b w : Nat) (m : MemSt) : MemSt :=
  if r < 7 then { m with failRows := insertNat m.failRows (rowKey r b w) } else m

/-- An uncorrectable error is read: counted, flagged and class D (R386); the row is failing. -/
def readUe (s : State) (r b w : Nat) : State :=
  incCnt (raiseErr ((memLoc s r b w 2).modMem (failRow r b w)) Reg.MEM_STATUS 3 2 0x0480 (bankCell r b)) (Reg.MEM_UE_CNT r) 1

/-- A row's corrected errors within 24 h: the eighth declares it failing (R425). -/
def noteRowCe (s : State) (r b w : Nat) : State :=
  let k := rowKey r b w
  let l := noteTime s day (tabGet [] s.mem.rowCe k)
  s.modMem (fun m =>
    let m1 := { m with rowCe := tabPut [] m.rowCe k l }
    if 8 ≤ l.length then failRow r b w m1 else m1)

/-- A corrected error: counted; class C, with CE where the region's errors within 1 s cross MEM_CE_THRESH (R386, Table 17-6). -/
def readCe (s : State) (r b w : Nat) : State :=
  let l := noteTime s second (tabGet [] s.mem.ceWin r)
  let s1 := incCnt ((noteRowCe (memLoc s r b w 1) r b w).modMem (fun m => { m with ceWin := tabPut [] m.ceWin r l })) (Reg.MEM_CE_CNT r) 1
  if l.length = rdF s Reg.MEM_CE_THRESH 15 0 then
    precursor (logThreshold (raiseBit s1 Reg.MEM_STATUS 2) Reg.MEM_STATUS 0x0480 (bankCell r b) (rd s1 (Reg.MEM_CE_CNT r)).toNat)
      (unitCode Reg.MEM_STATUS (bankCell r b))
  else s1

/-- A word is written with good check bits; a quarantined row discards it (R386, R387). -/
def putWord (s : State) (r b w v : Nat) : State :=
  if s.mem.deadRows.contains (rowKey r b w) then s
  else
    let x := wordAt r b w
    s.setMem { s.mem with scratch := memWrite s.mem.scratch x (leBytes 8 v), badWords := s.mem.badWords.filter (· != x) }

def getWord (s : State) (r b w : Nat) : Nat := memNat s.mem.scratch (wordAt r b w) 8

/-! Ports of a scratch bank (R19, R53, R388, R389) -/

/-- Whether port A of bank `b` is free to unscheduled requests `c` fclk from now: the deck's slot entry is idle. -/
def portAIdle (s : State) (r b c : Nat) : Bool :=
  match actDeck s with
  | none => true
  | some d => !slotV (slotWord d (if r < 4 then 2 else 3) r b ((s.deck.cycle + c) % dkPeriod d))

/-- A request of master `m` (0 the Shepherd, 1 drovers, 2 the host) stalls for a bank cycle. -/
def stall (r : Nat) (s : State) (m : Nat) : State :=
  let o := Reg.MEM_CONFLICT r m
  let s1 := incCnt s o 1
  if rd s o ≠ 0xFFFFFFFF ∧ rd s1 o = 0xFFFFFFFF then raiseBit s1 Reg.MEM_STATUS 10 else s1

/-- Requests that wait, by `rivals`' numbers (0 patrol and repair, 1 the Shepherd, 2 drovers), stall. -/
def stallAll (r : Nat) (s : State) (l : List Nat) : State := (l.filter (0 < ·)).foldl (fun s m => stall r s (m - 1)) s

/-- A host request on bank `b` waits until port B, or port A in an idle slot, is left to it (R388): in every bank cycle the requests are
served in the order of R19, one on port B and the next on an idle port A, and each that is not served stalls (R389). `left` are the requests
still unserved, `rivals` those that come cycle by cycle, `c` the cycle. An alias needs port B, for two cycles (R391). -/
def hostWait (r b : Nat) (rmw : Bool) : Nat → List (BitVec 3) → Nat → List Nat → State → State
  | 0, _, _, _, s => s
  | fuel + 1, rivals, c, left, s =>
    let reqs := (List.range 3).filter (fun m => left.contains m || (rivals.headD 0).getLsbD m)
    let served := if portAIdle s r b c then 2 else 1
    if reqs.isEmpty || (!rmw && decide (reqs.length < served)) then
      (if rmw then
        let next := (List.range 3).filter (fun m => (rivals.tail.headD 0).getLsbD m)
        stallAll r s (next.drop (if portAIdle s r b (c + 1) then 1 else 0))
      else s)
    else hostWait r b rmw fuel rivals.tail (c + 1) (reqs.drop served) (stall r (stallAll r s (reqs.drop served)) 2)

/-- The wait of a host request on aperture offset `x` of a quad or chip scratch bank. -/
def awaitPort (s : State) (x : Nat) (rmw : Bool) (rivals : List (BitVec 3)) : State :=
  match apLoc x with
  | some (r, b, _) => if r < 5 ∧ bankOn s r b = true then hostWait r b rmw (rivals.length + 4) rivals 0 [] s else s
  | none => s

/-! BAR2 writes (R319, R390-R392) -/

/-- UR is sent or logged. -/
def urSent (s : State) : State := raiseBit s Reg.PCIE_STATUS 5

/-- A posted write is discarded by R319. -/
def wdrop (s : State) (off : Nat) : State :=
  let s1 := if flagSet s Reg.PCIE_STATUS 13 then s else wr64 s Reg.PCIE_WDROP_ADDR_LO off
  raiseBit (incCnt s1 Reg.PCIE_WDROP 1) Reg.PCIE_STATUS 13

/-- Whether the host may write a word of the Shepherd or secure scratch or of the flock window (R318, R439, R442, R444). -/
def hostMayWrite (s : State) (r x : Nat) : Bool :=
  if r = 5 then (rd s Reg.CHIP_OWNER).getLsbD 1
  else if r = 6 then s.sec.life != 2 && !scrapped s && s.sec.active == 0 && decide (80 * 2 ^ 20 + 0x10000 ≤ x)
  else decide (r < 5)

/-- How a write merges: the normal aperture, the SET alias and the CLEAR alias (R391). -/
inductive Merge where
  | plain
  | set
  | clear
deriving DecidableEq, Repr

def Merge.word (m : Merge) (old new : BitVec 64) : BitVec 64 :=
  match m with
  | .plain => new
  | .set => old ||| new
  | .clear => old &&& ~~~new

/-- One whole word, with what port A writes to it in the same cycle or, for an alias, in either of its two (Table 17-2, R392). -/
def hostWord (m : Merge) (s : State) (r b w : Nat) (v : BitVec 64) (portA : Option (BitVec 64)) : State :=
  if !hostMayWrite s r (wordAt r b w) then s
  else if !bankOn s r b then offAccess s r b w
  else
    match m, portA with
    | .plain, none => putWord s r b w v.toNat
    | .plain, some a =>
      let s1 := putWord s r b w a.toNat
      if a = v then s1
      else
        let s2 := raiseBit (memLoc s1 r b w 3) Reg.MEM_STATUS 4
        if r < 5 then incCnt s2 (Reg.MEM_WW_CNT r) 1 else s2
    | _, some a => raiseBit (memLoc (putWord s r b w a.toNat) r b w 4) Reg.MEM_STATUS 5
    | _, none =>
      if wordBad s r b w then raiseBit (memLoc s r b w 4) Reg.MEM_STATUS 5
      else putWord s r b w (m.word (BitVec.ofNat 64 (getWord s r b w)) v).toNat

/-- A write into the scratch aperture at offset `x`, BAR2 offset `off`: whole words are written, partial ones discarded (R319). -/
def apertureWrite (m : Merge) (s0 : State) (off x : Nat) (bs : List Byte) (portA : Option (BitVec 64)) (rivals : List (BitVec 3)) : State :=
  match apLoc x with
  | none => urSent s0
  | some _ =>
    let s := awaitPort s0 x (m != .plain) rivals
    let lo := (x + 7) / 8 * 8
    let n := (x + bs.length) / 8 - lo / 8
    let s1 := if x % 8 ≠ 0 ∨ (x + bs.length) % 8 ≠ 0 then wdrop s off else s
    (List.range n).foldl (fun s i =>
      match apLoc (lo + 8 * i) with
      | none => s
      | some (r, b, w) =>
        hostWord m s r b w (BitVec.ofNat 64 (leAt bs (lo - x + 8 * i) 8)) (if i = 0 then portA else none)) s1

/-- A write into HBM (R319, R418). -/
def hbmWrite (s : State) (off : Nat) (bs : List Byte) : State :=
  let n := off / stackSize s
  if !stackUsable s n then urSent s
  else if !(hbmWritable s off && hbmWritable s (off + bs.length - 1)) then wdrop s off
  else putHbm (wakeStacks s [n]) off bs

/-- BAR2 offsets of the aperture and of its aliases (Table 14-3). -/
def apBase : Nat := 0x2400000000
def setBase : Nat := 0x2500000000
def clrBase : Nat := 0x2600000000

/-- A posted write through BAR2. -/
def bar2Put (s : State) (off : Nat) (bs : List Byte) (portA : Option (BitVec 64)) (rivals : List (BitVec 3)) : State :=
  if s.pcie.d3hot || bs.isEmpty then s
  else if off < 4 * stackSize s then hbmWrite s off bs
  else if apBase ≤ off ∧ off < setBase then apertureWrite .plain s off (off - apBase) bs portA rivals
  else if setBase ≤ off ∧ off < clrBase then apertureWrite .set s off (off - setBase) bs portA rivals
  else if clrBase ≤ off ∧ off < 0x2700000000 then apertureWrite .clear s off (off - clrBase) bs portA rivals
  else urSent s

/-- BAR2_WRITE (R319, R390). -/
def execBar2Write (off : BitVec 38) (data : List Byte) (portA : Option (BitVec 64)) (s : State) (rivals : List (BitVec 3) := []) :
    Host.Outcome State Fault Refusal :=
  .next (bar2Put s off.toNat data portA rivals)

/-- BAR2_SET_ALIAS_WRITE (R391, R392). -/
def execBar2SetAliasWrite (off : BitVec 38) (data : List Byte) (portA : Option (BitVec 64)) (s : State) (rivals : List (BitVec 3) := []) :
    Host.Outcome State Fault Refusal :=
  .next (if setBase ≤ off.toNat ∧ off.toNat < clrBase then bar2Put s off.toNat data portA rivals else s)

/-- BAR2_CLEAR_ALIAS_WRITE (R391, R392). -/
def execBar2ClearAliasWrite (off : BitVec 38) (data : List Byte) (portA : Option (BitVec 64)) (s : State) (rivals : List (BitVec 3) := []) :
    Host.Outcome State Fault Refusal :=
  .next (if clrBase ≤ off.toNat ∧ off.toNat < 0x2700000000 then bar2Put s off.toNat data portA rivals else s)

/-! BAR2 reads (R318, R320, R386, R394, R418) -/

/-- A flock entry's 16 bytes (R124). -/
def flockBytes (e : FlockEntry) : List Byte := leBytes 12 e.key.toNat ++ leBytes 4 e.action.toNat

/-- A byte of the flock window (R121). -/
def flockByte (s : State) (a : Nat) : Byte :=
  let e := if a < 0x800000 then tabGet {} s.flock.main (a / 16) else tabGet {} s.flock.stash ((a - 0x800000) / 16)
  (flockBytes e).getD (a % 16) 0

/-- The words that a read of `n` bytes at aperture offset `x` touches. -/
def apWords (x n : Nat) : List (Nat × Nat × Nat) :=
  if n = 0 then [] else (List.range ((x + n - 1) / 8 + 1 - x / 8)).filterMap (fun i => apLoc (x / 8 * 8 + 8 * i))

/-- Whether a word of the aperture reads with an uncorrectable error; a flock bucket counts as one. -/
def apBad (s : State) (p : Nat × Nat × Nat) : Bool :=
  if p.1 = 7 then decide (8 * p.2.2 < 0x800000) && s.flock.bad.contains (8 * p.2.2 / 0x200000 * 16384 + 8 * p.2.2 % 0x200000 / 128)
  else wordBad s p.1 p.2.1 p.2.2

/-- A byte of the aperture. -/
def apByte (s : State) (x : Nat) : Byte :=
  match apLoc x with
  | some (r, b, w) =>
    if r = 7 then flockByte s (x - regionBase 7)
    else if s.mem.deadRows.contains (rowKey r b w) then 0 else memByte s.mem.scratch x
  | none => 0

/-- A read of the aperture. -/
def apertureRead (s0 : State) (x n : Nat) (rivals : List (BitVec 3)) : State :=
  let s := awaitPort s0 x false rivals
  let ws := apWords x n
  match apLoc x with
  | none => (urSent s).setReply .unsupported
  | some (r, _, _) =>
    if r = 6 ∧ (s.sec.life = 2 ∨ scrapped s = true) then (urSent s).setReply .unsupported
    else
      match ws.find? (fun p => !bankOn s p.1 p.2.1) with
      | some p => (urSent (offAccess s p.1 p.2.1 p.2.2)).setReply .unsupported
      | none =>
        let bs := (List.range n).map (fun i => apByte s (x + i))
        let bad := ws.filter (apBad s)
        let s1 := bad.foldl (fun s p => readUe s p.1 p.2.1 p.2.2) s
        s1.setReply (if bad.isEmpty then .data bs else .poisoned bs)

/-- A read of HBM. -/
def hbmRead (s : State) (off n : Nat) : State :=
  let k := off / stackSize s
  if !stackUsable s k then (urSent s).setReply .unsupported
  else
    let s1 := wakeStacks s [k]
    let bs := memRead s.mem.hbm off n
    if hbmBad s off n then
      (incCnt (raiseErr s1 (Reg.HBM_STATUS k) 1 2 0x0480 k) (Reg.HBM_UE_CNT k) 1).setReply (.poisoned bs)
    else s1.setReply (.data bs)

/-- BAR2_READ. -/
def execBar2Read (off : BitVec 38) (len : Nat) (s : State) (rivals : List (BitVec 3) := []) : Host.Outcome State Fault Refusal :=
  let o := off.toNat
  .next (
    if s.pcie.d3hot then (urSent s).setReply .unsupported
    else if o < 4 * stackSize s then hbmRead s o len
    else if apBase ≤ o ∧ o < 0x2700000000 then apertureRead s (o % 0x100000000) len rivals
    else (urSent s).setReply .unsupported)

/-! Error correction, scrubbing and repair (R386, R387, R432, R436) -/

/-- ECC_WRITEBACK: the corrected word goes back, unless a port wrote it first, which leaves good check bits as well (R386). -/
def execEccWriteback (loc : MemLoc) (overwritten : Bool) (s : State) : Host.Outcome State Fault Refusal :=
  let s1 := readCe s loc.region loc.bank loc.word
  .next (if !bankOn s loc.region loc.bank then s else if overwritten then s1
    else s1.modMem (fun m => { m with badWords := m.badWords.filter (· != wordAt loc.region loc.bank loc.word) }))

/-- The banks that are ON (R387). -/
def banksOn (s : State) : List Nat :=
  (List.range 7).flatMap (fun r => ((List.range (bankCount r)).filter (bankOn s r)).map (bankCell r))

/-- A bank completes its pass: SCRUB_LAP once every bank in ON has, counted from when the flag was last clear. -/
def scrubPass (s : State) (r b : Nat) : State :=
  if flagSet s Reg.MEM_STATUS 9 then s
  else
    let lap := insertNat s.mem.lap (bankCell r b)
    if (banksOn s).all (lap.contains ·) then raiseBit (s.modMem (fun m => { m with lap := [] })) Reg.MEM_STATUS 9
    else s.modMem (fun m => { m with lap := lap })

/-- A word of the flock table (region 7) is found with a single or a double error; its words are 32,768 to a bank number here. A bucket with a
double error stays so until it is restored (R128, R132; notes/assumptions/29.md). -/
def flockWordErr (w : Nat) (err : Nat) (s : State) : State :=
  if err = 1 then readCe s 7 0 w
  else if err = 2 then
    readUe (if w < 65536 * 16 then s.setFlock { s.flock with bad := insertNat s.flock.bad (w / 16) } else s) 7 0 w
  else s

/-- SCRUB_STEP. -/
def execScrubStep (loc : MemLoc) (err : Fin 3) (s : State) : Host.Outcome State Fault Refusal :=
  let r := loc.region.val
  let b := loc.bank.val
  let w := loc.word.val
  .next (if r = 7 then (if 32768 * b + w < 65536 * 16 + 512 then flockWordErr (32768 * b + w) err.val s else s)
  else if 7 ≤ r ∨ bankCount r ≤ b ∨ !bankOn s r b then s
  else
    let s1 := if err.val = 1 then readCe s r b w
      else if err.val = 2 then
        readUe (s.modMem (fun m => { m with badWords := insertNat m.badWords (wordAt r b w) })) r b w
      else s
    if w = 32767 then scrubPass s1 r b else s1)

/-- ROW_REMAP (R387): a spare row takes the place of a failing one (R425), or that is quarantined. -/
def execRowRemap (loc : MemLoc) (s0 : State) : Host.Outcome State Fault Refusal :=
  let r := loc.region.val
  let b := loc.bank.val
  let w := loc.word.val
  let k := rowKey r b w
  let used := tabGet 0 s0.mem.rows (bankCell r b)
  let unit := unitCode Reg.MEM_STATUS (bankCell r b)
  let s := precursor (s0.modMem (fun m => { m with
    failRows := m.failRows.filter (· != k), rowCe := tabPut [] m.rowCe k [] })) unit
  .next (if 7 ≤ r ∨ bankCount r ≤ b ∨ s0.mem.deadRows.contains k = true ∨ s0.mem.failRows.contains k = false then s0
  else if used < 10 then
    let s1 := s.modMem (fun m => { m with rows := tabPut 0 m.rows (bankCell r b) (used + 1) })
    let s2 := wearAdd (raiseErr s1 Reg.MEM_STATUS 6 3 0x0480 (bankCell r b)) 3 unit (w / 64)
    let left := 10 - (used + 1)
    raise s2 Reg.MEM_STATUS (BitVec.ofNat 32 ((if left ≤ 2 then 0x80 else 0) + (if left = 0 then 0x100 else 0))) |> fun s3 =>
      if left ≤ 2 then s3 else s2
  else
    let lo := wordAt r b (w / 64 * 64)
    let s1 := s.modMem (fun m => { m with
      deadRows := insertNat m.deadRows k, scratch := memErase m.scratch lo (lo + 512) })
    wearAdd (raiseErr s1 Reg.MEM_STATUS 13 3 0x0480 (bankCell r b)) 2 unit (w / 64))

/-- HBM_PAGE_REMAP (R425, R432, R436): a pool page takes over, or the page is quarantined. -/
def hbmPageRemap (s : State) (k p : Nat) : State :=
  let key := k * 2 ^ 24 + p
  let o := Reg.HBM_STATUS k
  let unit := unitCode o k
  let pool := rdF s (Reg.HBM_POOL k) 18 0
  let s0 := if s.mem.badHbm.any (fun w => w / 4096 == (k * stackSize s + 4096 * p) / 4096) then s else raiseBit s o 0
  if stackSize s ≤ 4096 * p ∨ s.shep.pageQuar.contains key = true then s
  else if pool = 0 then
    let s1 := settleHbm (s0.modShep (fun h => { h with pageQuar := insertNat h.pageQuar key })) 0 0
    wearAdd (raiseErr s1 o 5 3 0x0480 k) 2 unit p
  else
    let s1 := wrF (precursor (s0.modShep (fun h => { h with remaps := insertNat h.remaps key })) unit) (Reg.HBM_POOL k) 18 0 (pool - 1)
    let s2 := wearAdd (raiseErr (raiseBit s1 o 10) o 2 3 0x0480 k) 4 unit p
    let s3 := if pool - 1 < 26214 ∧ 26214 ≤ pool then raiseBit s2 o 3 else s2
    if pool = 1 then raiseBit s3 o 4 else s3

def execHbmPageRemap (stack : Fin 4) (page : Fin 9437184) (s : State) : Host.Outcome State Fault Refusal :=
  .next (hbmPageRemap s stack page)

/-! MEM_POWER (R361, R393, R394, R418) -/

/-- The number by which pwr.changing knows a bank or a stack. -/
def powerKey : PowerUnit → Nat
  | .bank r b => bankCell r b
  | .stack n => 512 + n

def stackState (s : State) (n : Nat) : Nat := rdF s Reg.CHIP_PWR_STATE (13 + 2 * n) (12 + 2 * n)
def setStack (s : State) (n v : Nat) : State := wrF s Reg.CHIP_PWR_STATE (13 + 2 * n) (12 + 2 * n) v

/-- The units a MEM_POWER names. -/
def powerNamed (target region : Byte) (mask : BitVec 64) : List Nat :=
  if target = 0 then (bitsOf 4 mask.toNat).map (512 + ·)
  else (bitsOf (bankCount region.toNat) mask.toNat).map (bankCell region.toNat)

/-- The register code of the state it asks for. -/
def powerCode (state : Byte) : Nat := 2 - state.toNat

def unitPower (s : State) (k : Nat) : Nat := if 512 ≤ k then stackState s (k - 512) else bankState s (k / 64) (k % 64)

/-- What a stack or bank holds is lost when it goes OFF (R361, R393). -/
def stackLose (s : State) (n : Nat) : State :=
  let lo := n * stackSize s
  let s1 := s.modMem (fun m => { m with hbm := memErase m.hbm lo (lo + stackSize s), badHbm := m.badHbm.filter (fun w => w / stackSize s != n) })
  let s2 := s1.modComp (fun c => { c with ctx := c.ctx.map (fun p => (p.1, { p.2 with stream := none, busy := none })) })
  (((s2.modDeck (fun d => { d with slots := [] })).modLog (fun l => { l with entries := l.entries.filter (fun e => decide (e.seq < l.committed)) })).modPgen
    (fun p => { p with psegs := [] }))

/-- The active deck schedules the bank, or places extents in the stack. -/
def deckUses (s : State) (k : Nat) : Bool :=
  match actDeck s with
  | none => false
  | some d => if 512 ≤ k then (dkExtents d).any (fun w => extStack w == k - 512) else (dealtBanks d).contains (k / 64, k % 64)

/-- A unit has reached its state. -/
def unitArrives (s : State) (k v : Nat) : State :=
  if 512 ≤ k then
    let n := k - 512
    let s1 := setStack s n v
    if v = 0 then raiseBit (stackLose s1 n) Reg.CHIP_PWR_STATUS 12
    else if v = 1 then raiseBit s1 Reg.CHIP_PWR_STATUS 10
    else raiseBit s1 Reg.CHIP_PWR_STATUS 11
  else setBank s (k / 64) (k % 64) v

def memPowerBody (h : CmdHdr) (target state region : Byte) (mask : BitVec 64) (s : State) : State :=
  let us := powerNamed target region mask
  let v := powerCode state
  if (captureBusy s || playing s) && us.any (deckUses s) then refuse s h 0x0B01 cBusy busyState
  else if target = 0 ∧ v = 0 ∧ (actDeck s).isSome then refuse s h 0x0B01 cBusy busyState
  else
    let held : List Nat := if v = 1 then us.foldl (fun l k => insertNat l (k - 512)) s.pwr.held
      else s.pwr.held.filter (fun n => !us.contains (512 + n))
    let s0 := s.modPwr (fun p =>
      if target = 0 then { p with held := held } else { p with bankGiven := us.foldl (fun t k => tabPut 0 t k v) p.bankGiven })
    let move := us.filter (fun k => unitPower s k != v)
    if move.isEmpty then raiseBit (finish s0 h 0x0B01 cOk 0 0) Reg.MEM_STATUS 12
    else
      let s1 := move.foldl (fun s k => if 512 ≤ k then setStack s (k - 512) 3 else setBank s (k / 64) (k % 64) 3) s0
      (keepRunning s1 h 0x0B01 0 0).modPwr (fun p => { p with changing := p.changing ++ move.map (fun k => (k, v, some (h.ring, h.cid))) })

/-- What R345 checks of MEM_POWER. -/
def memPowerChecks (h : CmdHdr) (target : Byte) (state : Byte) (region : Byte) (mask : BitVec 64) (s : State) : Checks :=
  { op := 0x0B01
    fields := [cflagsOk h 0, (8, decide (target.toNat ≤ 1)), (9, decide (state.toNat ≤ 2)),
      (10, target == 0 || decide (region.toNat ≤ 4)),
      (16, decide (mask.toNat < 2 ^ (if target = 0 then 4 else bankCount region.toNat)))]
    blocks := [if target = 0 then 0xA else 0x30]
    held := holderOp s [0x0203, 0x0204]
    ready := !(powerNamed target region mask).any (fun k => s.pwr.changing.any (fun c => c.1 == k)) }

/-- MEM_POWER. -/
def execMemPower (h : CmdHdr) (target : Byte) (state : Byte) (region : Byte) (mask : BitVec 64) (s : State) :
    Host.Outcome State Fault Refusal :=
  .next (startCmd h (memPowerChecks h target state region mask s)
    none (memPowerBody h target state region mask) s)

/-- BANK_POWER_CHANGE_DONE: the unit reaches its state; its command completes with the last of its units. -/
def execBankPowerChangeDone (u : PowerUnit) (s : State) : Host.Outcome State Fault Refusal :=
  .next (match s.pwr.changing.find? (fun c => c.1 == powerKey u) with
  | none => s
  | some (k, v, who) =>
    let s1 := (unitArrives s k v).modPwr (fun p => { p with changing := p.changing.filter (fun c => c.1 != k) })
    match who with
    | none => s1
    | some (ring, cid) =>
      if s1.pwr.changing.any (fun c => c.2.2 == some (ring, cid)) then s1
      else raiseBit (endRun s1 ring cid cOk 0 0) Reg.MEM_STATUS 12)

/-- HBM_SELF_REFRESH_ENTRY (R418). -/
def execHbmSelfRefreshEntry (stack : Fin 4) (s : State) : Host.Outcome State Fault Refusal :=
  .next (if (rd s Reg.CHIP_PWR_CTRL).getLsbD 2 ∧ regionsAsleep s ∧ stackState s stack = 2 then
    raiseBit (setStack s stack 1) Reg.CHIP_PWR_STATUS 10
  else s)

end Sys2Proof.Machine
end

