-- ==== Sys2Proof/Machine/Halt.lean ====
section
/-!
DEFINITION. Class F (R25, R26): capture and playback stop; what has been stored is kept.
-/

namespace Sys2Proof.Machine

/-- Playback stops at once; a PATTERN_PLAY that has not reached P0 completes with ABORTED. -/
def stopPlayback (s : State) : State :=
  let p := s.pgen
  match p.st with
  | .idle => s
  | .run => playEnd s
  | .prefill | .waitStart =>
    let s1 := s.setPgen { p with st := .idle, cmd := none }
    match p.cmd with
    | some c => endRun s1 c.1 c.2 cAborted 0 0
    | none => s1

/-- Every fold group stops and keeps what it has stored, up to the last good sample. -/
def stopCapture (s : State) : State :=
  match actDeck s with
  | none => s
  | some d =>
    let sd := storedTo s
    handsIdle ((List.range 16).foldl (disarmGroup sd) (settleAll s d (List.range 16) sd)) d

/-- The device enters class F. -/
def enterClassF (s : State) : State :=
  let s1 := raiseErr (s.modPwr (fun p => { p with classF := true })) Reg.CHIP_STATUS 12 4 0x0480 0
  stopPlayback (stopCapture s1)

end Sys2Proof.Machine
end

