-- ==== Sys2Proof/Machine/Upkeep.lean ====
section
/-!
DEFINITION. Patrol, spares, ageing and the wear log (chapter 19), and the maintenance commands (R361, R362).
-/

namespace Sys2Proof.Machine

/-! Patrol (R426, R427) -/

/-- The slots of engine block `k` that an engine of the active deck uses and that are not quarantined. -/
def activeSlots (s : State) (k : Nat) : List Nat :=
  match actDeck s with
  | none => []
  | some d =>
    let ps := ((allInsts d).map Prod.fst).eraseDups.map (mapPhys d)
    (List.range 16).filter (fun n => ps.contains (17 * k + n) && !s.deck.quarEngines.contains (17 * k + n))

/-- The active slot after the one shadowed, wrapping after slot 15. -/
def nextSlot (l : List Nat) (cur : Option Nat) : Option Nat :=
  match cur with
  | none => l.head?
  | some n => (l.find? (fun x => decide (n < x))).or l.head?

/-- PATROL_MOVE: the spare has self-tested, and shadows the next active slot. -/
def execPatrolMove (q : Fin 4) (b : Fin 4) (pass : Bool) (s : State) : Host.Outcome State Fault Refusal :=
  let k := 4 * q.val + b.val
  let x := patrolOf s k
  if spareServes s k || x.failed then .next s
  else if patrolSuspended s k then
    if x.slot.isSome then .next (raiseBit (setPatrol s k { x with slot := none, confirming := false }) (Reg.QUAD_STATUS q.val) 11)
    else .next s
  else if x.confirming then .next s
  else if !pass then .next (failSpare s k)
  else .next (setPatrol s k { x with slot := nextSlot (activeSlots s k) x.slot })

/-- PATROL_MISMATCH: a first mismatch opens the confirmation, a second confirms it. -/
def execPatrolMismatch (q : Fin 4) (b : Fin 4) (s : State) : Host.Outcome State Fault Refusal :=
  let k := 4 * q.val + b.val
  let x := patrolOf s k
  match x.slot with
  | none => .next s
  | some n =>
    let s1 := raiseBit (incCnt s (Reg.QUAD_MISMATCH_CNT q.val) 1) (Reg.QUAD_STATUS q.val) 0
    if x.confirming then
      let p := 17 * k + n
      .next (declareFailing (raiseEngine (raiseErr (setPatrol s1 k { x with confirming := false }) (Reg.QUAD_STATUS q.val) 1 2 0x0480 (p % 68)) p) p)
    else .next (setPatrol s1 k { x with confirming := true })

/-- PATROL_CONFIRM_END: no second mismatch came. Unconfirmed mismatches against three engines within 24 h fail the spare. -/
def execPatrolConfirmEnd (q : Fin 4) (b : Fin 4) (s : State) : Host.Outcome State Fault Refusal :=
  let k := 4 * q.val + b.val
  let x := patrolOf s k
  match x.slot, x.confirming with
  | some n, true =>
    let l := (17 * k + n, now s) :: x.unconf.filter (fun e => decide (now s < e.2 + nsT day))
    let s1 := precursor (setPatrol s k { x with confirming := false, unconf := l }) (engBlockUnit k)
    if 3 ≤ ((l.map Prod.fst).eraseDups).length then .next (failSpare s1 k) else .next s1
  | _, _ => .next s

/-! SPARE_STATUS and WEAR_FORECAST (R361, R434) -/

/-- A spared block: KIND of Table 19-5, its UNIT code, the spares fitted, serving and failed. -/
structure SparedBlock where
  kind : Nat
  unit : Nat
  fitted : Nat
  serving : Nat
  failed : Nat
deriving DecidableEq, Repr

/-- Spares of an SRAM bank, and free pages of a stack's pool (Table 19-1). -/
def bankRows : Nat := 10
def poolPages : Nat := 262144

/-- The spared blocks in the order of Table 19-1. The cell number of a block with one spare is the spare's own. -/
def sparedBlocks (s : State) : List SparedBlock :=
  let b2n (b : Bool) : Nat := if b then 1 else 0
  let core2 := s.shep.cores.2.2
  (List.range 16).map (fun k =>
    { kind := 0, unit := engBlockUnit k, fitted := 1, serving := b2n (spareServes s k), failed := b2n (patrolOf s k).failed }) ++
  (List.range 6).map (fun g =>
    { kind := if g < 4 then 1 else 2, unit := groupUnit g, fitted := 1
      serving := b2n (linkOf s g).mapped.isSome, failed := b2n ((linkOf s g).excl.getLsbD 16) }) ++
  [{ kind := 3, unit := unitCode Reg.SHEP_STATUS 2, fitted := 1
     serving := b2n (core2 == .paired || core2 == .single), failed := b2n (core2 == .quarantined) }] ++
  (List.range 7).flatMap (fun r => (List.range (bankCount r)).map (fun b =>
    { kind := 4, unit := unitCode Reg.MEM_STATUS (r * 64 + b), fitted := bankRows, serving := tabGet 0 s.mem.rows (r * 64 + b), failed := 0 })) ++
  (List.range 4).map (fun n =>
    { kind := 5, unit := unitCode (Reg.HBM_STATUS n) n, fitted := poolPages
      serving := (s.shep.remaps.filter (fun p => p / 2 ^ 24 == n)).length, failed := 0 })

/-- A count in one byte: 255 means 255 or more. -/
def byteSat (n : Nat) : List Byte := leBytes 1 (min n 255)

def spareEntry (b : SparedBlock) : List Byte :=
  leBytes 4 b.unit ++ byteSat b.fitted ++ byteSat b.serving ++ byteSat b.failed ++ List.replicate 9 0

/-- The quarantined span engine slots and compression engines, which no spare of theirs replaces (R216, R424): SPARE_STATUS lists them after the
spared blocks, each as one without a spare that has failed (notes/assumptions/39.md). -/
def quarBlocksOf (s : State) : List SparedBlock :=
  (s.deck.quarEngines.map engUnit ++ s.comp.quar.map (fun e => unitCode (Reg.CMP_STATUS e) e)).map (fun u =>
    { kind := 0, unit := u, fitted := 0, serving := 0, failed := 1 })

def spareStatusBody (h : CmdHdr) (dest : BitVec 64) (s : State) : State :=
  let l := sparedBlocks s ++ quarBlocksOf s
  let n := min l.length (segsLen (bufList s dest) / 16)
  finish (deliver s dest ((l.take n).map spareEntry).flatten).1 h 0x0C01 (if n < l.length then cBufferFull else cOk) n 0

/-- What R345 checks of SPARE_STATUS. -/
def spareStatusChecks (h : CmdHdr) (dest : BitVec 64) (s : State) : Checks :=
  { op := 0x0C01, fields := [cflagsOk h 0, (8, bufOk s dest)] }

/-- SPARE_STATUS. -/
def execSpareStatus (h : CmdHdr) (dest : BitVec 64) (s : State) : Host.Outcome State Fault Refusal :=
  .next (startCmd h (spareStatusChecks h dest s) none (spareStatusBody h dest) s)

/-- Days since a time. -/
def daysSince (s : State) (t : Time) : Nat := (now s - t) / nsT day

/-- LAST: days since the block's last promotion, as the wear log tells it; lane promotions are not in it, and have a time of their own. -/
def lastDays (s : State) (b : SparedBlock) : Nat :=
  if b.kind = 1 ∨ b.kind = 2 then
    match (List.range 6).find? (fun g => groupUnit g == b.unit && (assoc s.shep.laneProm g).isSome) with
    | some g => daysSince s (tabGet 0 s.shep.laneProm g)
    | none => 0xFFFFFFFF
  else
    let mine (e : WearEntry) : Bool :=
      if b.kind = 0 then e.kind == 1 && decide (e.unit / 2 ^ 20 = b.unit / 2 ^ 20 ∧ e.unit % 2 ^ 20 / 17 = b.unit % 2 ^ 20 / 17)
      else if b.kind = 3 then e.kind == 8
      else if b.kind = 4 then e.kind == 3 && e.unit == b.unit
      else e.kind == 4 && e.unit == b.unit
    match s.shep.wear.find? mine with
    | some e => daysSince s e.time
    | none => 0xFFFFFFFF

/-- PRECURSORS: the block's precursor events of the last 90 days. -/
def precursorCount (s : State) (unit : Nat) : Nat :=
  min 65535 (s.shep.precursors.filter (fun e => e.1 == unit && decide (now s < e.2 + nsT (90 * day)))).length

/-- Whether a quad is worn out: SLOW has reached 4.0% (R433). -/
def quadWorn (s : State) (q : Nat) : Bool := decide (400 ≤ rdF s (Reg.QUAD_AGE q) 15 0)

/-- WEAR: an estimate, a free value; 1,000 or more for the blocks of a quad that is worn out. -/
def wearOf (s : State) (b : SparedBlock) : Nat :=
  let w := (freeVal 16 s).toNat
  if b.kind = 0 ∧ (List.range 16).any (fun k => engBlockUnit k == b.unit && quadWorn s (k / 4)) = true then max 1000 w else w

/-- A forecast record (Table 19-5): what the Shepherd estimates is a free value. -/
def forecastRec (b : SparedBlock) (s : State) : State × List Byte :=
  let s1 := useFree s
  let s2 := useFree s1
  (useFree s2, leBytes 4 b.unit ++ leBytes 1 b.kind ++ byteSat b.fitted ++ byteSat (b.fitted - b.serving - b.failed) ++ [0] ++
    leBytes 4 (freeVal 32 s).toNat ++ leBytes 4 (freeVal 32 s1).toNat ++ leBytes 2 (wearOf s2 b) ++
    leBytes 2 (precursorCount s b.unit) ++ leBytes 4 (lastDays s b) ++ List.replicate 8 0)

def forecastRecs : List SparedBlock → State → State × List Byte
  | [], s => (s, [])
  | b :: t, s =>
    let p := forecastRec b s
    let q := forecastRecs t p.1
    (q.1, p.2 ++ q.2)

def wearForecastBody (h : CmdHdr) (dest : BitVec 64) (s : State) : State :=
  let l := sparedBlocks s
  let n := min l.length (segsLen (bufList s dest) / 32)
  let p := forecastRecs (l.take n) s
  finish (deliver p.1 dest p.2).1 h 0x0C03 (if n < l.length then cBufferFull else cOk) n 0

/-- What R345 checks of WEAR_FORECAST. -/
def wearForecastChecks (h : CmdHdr) (dest : BitVec 64) (s : State) : Checks :=
  { op := 0x0C03, fields := [cflagsOk h 0, (8, bufOk s dest)] }

/-- WEAR_FORECAST. -/
def execWearForecast (h : CmdHdr) (dest : BitVec 64) (s : State) : Host.Outcome State Fault Refusal :=
  .next (startCmd h (wearForecastChecks h dest s) none (wearForecastBody h dest) s)

/-! SPARE_COMMIT -/

/-- The spare of the engine's block (R69), or of the lane's group (R304), is asked for. -/
def spareCommitBody (h : CmdHdr) (kind : Byte) (unit : Nat) (s : State) : State :=
  if kind = 0 then
    if !spareFree s (engBlock unit) || unit % 17 == 16 || s.deck.quarEngines.contains unit then refuse s h 0x0C02 cNoSpare 0
    else declareFailing (raiseBit (keepRunning s h 0x0C02 unit 0) (Reg.QUAD_STATUS (engQuadP unit)) 13) unit
  else
    let q := if kind = 1 then rxLane unit else txLane unit
    let l := linkOf s q.1
    if q.2 = 16 ∨ l.mapped.isSome ∨ l.excl.getLsbD 16 ∨ l.excl.getLsbD q.2 then refuse s h 0x0C02 cNoSpare 0
    else wantSpare (keepRunning s h 0x0C02 (32 * q.1 + q.2) 1) q.1 q.2

/-- What R345 checks of SPARE_COMMIT. -/
def spareCommitChecks (h : CmdHdr) (kind : Byte) (unit : BitVec 16) : Checks :=
  let n := unit.toNat
  { op := 0x0C02
    fields := [cflagsOk h 0, (8, decide (kind.toNat ≤ 2)), (10, decide (n < (if kind = 0 then 272 else if kind = 1 then 68 else 34)))]
    blocks := [if kind = 0 then bQuad (n / 68) else if kind = 1 then 0x10 + (rxLane n).1 else 0x10 + (txLane n).1] }

/-- SPARE_COMMIT. -/
def execSpareCommit (h : CmdHdr) (kind : Byte) (unit : BitVec 16) (s : State) : Host.Outcome State Fault Refusal :=
  let n := unit.toNat
  .next (startCmd h (spareCommitChecks h kind unit)
    none (spareCommitBody h kind n) s)

/-! Ageing (R433) -/

/-- TARGET rises by 5 mV for each of `n` requests, never above 800 mV (R406, R433). -/
def raiseTarget (s : State) : Nat → State
  | 0 => s
  | n + 1 =>
    let t := rdF s Reg.CHIP_AVS 9 0
    if t < 800 then
      let v := min (t + 5) 800
      raiseTarget (wearAdd (raiseErr (wrF s Reg.CHIP_AVS 9 0 v) Reg.CHIP_PWR_STATUS 7 0 0x0480 0) 5 (unitCode Reg.CHIP_AVS 0) v) n
    else s

/-- The forecast of a spared block is made anew (R434): where the day on which its last spare will be consumed, or WEAR will reach 1,000, falls
within HORIZON, its flag `b` of register `o` is set once. Both days are free values; a unit that is worn out (`out`) has reached the second. -/
def forecastBlock (s : State) (unit o b : Nat) (out : Bool) : State :=
  let lim := 10 * rdF s Reg.SHEP_CTRL 31 24
  let s1 := useFree s
  let near := lim != 0 && (out || decide (min (freeVal 32 s).toNat (freeVal 32 s1).toNat ≤ lim))
  let s2 := (useFree s1).modShep (fun h => { h with
    forecast := if near then insertNat h.forecast unit else h.forecast.filter (· != unit) })
  if near && !s.shep.forecast.contains unit then raiseBit s2 o b else s2

/-- The forecasts of quad `q`'s engine blocks and of stack `q`. -/
def forecastStep (s : State) (q : Nat) : State :=
  let s1 := (List.range 4).foldl (fun s b => forecastBlock s (engBlockUnit (4 * q + b)) (Reg.QUAD_STATUS q) 9 (quadWorn s q)) s
  forecastBlock s1 (unitCode (Reg.HBM_STATUS q) q) (Reg.HBM_STATUS q) 11 false

/-- AGEING_MEASURE: SLOW is updated, with its steps of TARGET and the forecasts (R433, R434). -/
def execAgeingMeasure (q : Fin 4) (slow : BitVec 16) (roOk : Fin 65) (s : State) : Host.Outcome State Fault Refusal :=
  let o := Reg.QUAD_AGE q.val
  let old := rdF s o 15 0
  let s1 := wrF (wrF s o 15 0 slow.toNat) o 22 16 roOk.val
  let s2 := if roOk.val < rdF s o 22 16 then raiseBit s1 (Reg.QUAD_STATUS q.val) 10 else s1
  let s3 := if old / 50 ≠ slow.toNat / 50 then raiseBit s2 (Reg.QUAD_STATUS q.val) 7 else s2
  let s4 := if old / 100 < slow.toNat / 100 then
    raiseTarget (raiseBit s3 (Reg.QUAD_STATUS q.val) 8) (slow.toNat / 100 - old / 100) else s3
  .next (forecastStep s4 q.val)

/-! The wear log (R435) -/

/-- Whether a supply warning is active (R410). -/
def nvWarned (s : State) : Bool := s.pwr.warnIo || s.pwr.warnAon

/-- What a commit writes: the repair map and the wear entries. -/
def wearImage (s : State) : WearImage := {
  cores := s.shep.cores, standing := s.deck.standing, quarEngines := s.deck.quarEngines
  failed := (List.range 16).filter (fun b => (patrolOf s b).failed)
  remaps := s.shep.remaps, pageQuar := s.shep.pageQuar, rows := s.mem.rows, deadRows := s.mem.deadRows
  quar := s.comp.quar, dQuar := s.comp.dQuar, wear := s.shep.wear, wearNext := s.shep.wearNext }

/-- The copy that counts at a boot: the valid one with the higher generation. -/
def wearCopy (h : ShepSt) : WearImage :=
  if h.goodA && (!h.goodB || decide (h.genB ≤ h.genA)) then h.imageA else if h.goodB then h.imageB else h.imageA

/-- The daily ageing snapshot, where a day has passed since the last. -/
def ageSnapshot (s : State) : State :=
  if s.shep.snapAt + nsT day ≤ now s then
    (List.range 4).foldl (fun s q => wearAdd s 6 (unitCode (Reg.QUAD_STATUS q) 0) (rdF s (Reg.QUAD_AGE q) 15 0))
      (s.modShep (fun h => { h with snapAt := now s }))
  else s

/-- A commit rewrites the older copy with the next generation; a copy that fails its read-back is rewritten once. -/
def commitWear (s : State) (good : Bool) : State :=
  let h := s.shep
  let gen := max h.genA h.genB + 1
  let a := decide (h.genA ≤ h.genB)
  if good then
    s.setShep { h with
      genA := if a then gen else h.genA, genB := if a then h.genB else gen
      imageA := if a then wearImage s else h.imageA, imageB := if a then h.imageB else wearImage s
      goodA := a || h.goodA, goodB := !a || h.goodB, retry := false, commitDue := false }
  else
    raiseBit (s.setShep { h with
      goodA := !a && h.goodA, goodB := a && h.goodB, retry := !h.retry, commitDue := !h.retry }) Reg.SHEP_STATUS 6

/-- WEAR_LOG_COMMIT: refused while a supply warning is active (R410). -/
def execWearLogCommit (good : Bool) (s : State) : Host.Outcome State Fault Refusal :=
  .next (if nvWarned s then s else commitWear (ageSnapshot s) good)

/-! The Shepherd's cores (R429-R431) -/

/-- The three cores as a list, and the three cores of a list. -/
def coreList (s : State) : List CoreState := [s.shep.cores.1, s.shep.cores.2.1, s.shep.cores.2.2]
def setCores (s : State) (f : CoreState → CoreState) : State :=
  s.modShep (fun h => { h with cores := (f h.cores.1, f h.cores.2.1, f h.cores.2.2) })

/-- Zalou resumes from its last checkpoint (R346, R429): where its record of a unit disagrees with the data path, the data path holds, and the
record is corrected and logged. Units 0 to 15 are the fold groups, the others the hands. -/
def reconcile (s : State) : State :=
  let now := unitStates s
  (((List.range 48).zip (s.shep.record.zip now)).filter (fun x => x.2.1 != x.2.2)).foldl (fun s x =>
    let src := if x.1 < 16 then 0x0480 else 0x0410 + (x.1 - 16)
    let unit := if x.1 < 16 then unitCode (Reg.FOLD_GRP_STATUS x.1) x.1 else unitCode Reg.TRIG_NET_STATUS (x.1 - 16)
    raiseBit (logAdd s 3 0 src unit [BitVec.ofNat 8 x.2.1, BitVec.ofNat 8 x.2.2]) Reg.SHEP_STATUS 15)
    (s.modShep (fun p => { p with record := now }))

/-- LOCKSTEP_MISMATCH: the paired cores stop and test themselves; a warm spare takes over, one with a staged image once it has loaded the
running one (R430). -/
def execLockstepMismatch (s : State) : Host.Outcome State Fault Refusal :=
  let l := coreList s
  if !l.contains .paired then .next s
  else
    let spare := l.contains .warm || l.contains .staged
    let s1 := setCores s (fun c => if c = .paired then .selfTest else if c = .warm ∨ c = .staged then .single else c)
    let s2 := if l.contains .staged then s1.modShep (fun h => { h with stagedImage := none }) else s1
    let s3 := raiseBit s2 Reg.SHEP_STATUS 0
    .next (if spare then reconcile (raiseBit s3 Reg.SHEP_STATUS 1) else s3)

/-- A core that failed its self-test is quarantined: class S (R429). -/
def quarantineCore (s : State) (n : Nat) : State :=
  wearAdd (raiseErr s Reg.SHEP_STATUS 2 3 0x0480 n) 8 (unitCode Reg.SHEP_STATUS n) 0

/-- No core is left: class F (R25). -/
def shepherdLost (s : State) : State := enterClassF (s.modShep (fun h => { h with lost := true }))

/-- CORE_SELF_TEST_DONE (Table 19-4). With no core running meanwhile, the lowest-numbered core that passed runs alone; a core that runs
alone and fails is the last. -/
def execCoreSelfTestDone (pass0 : Bool) (pass1 : Bool) (pass2 : Bool) (s : State) : Host.Outcome State Fault Refusal :=
  let l := coreList s
  let pass := [pass0, pass1, pass2]
  let tested := (List.range 3).filter (fun n => l[n]? == some .selfTest)
  let good := tested.filter (fun n => (pass[n]?).getD false)
  let bad := tested.filter (fun n => !(pass[n]?).getD false)
  let lone := (List.range 3).find? (fun n => l[n]? == some .single)
  let put (s : State) (f : Nat → CoreState → CoreState) : State :=
    s.modShep (fun h => { h with cores := (f 0 h.cores.1, f 1 h.cores.2.1, f 2 h.cores.2.2) })
  if tested.isEmpty then
    match lone with
    | some n =>
      if s.shep.handover.isNone && !(pass[n]?).getD false then
        .next (shepherdLost (quarantineCore (put s (fun k c => if k = n then .quarantined else c)) n))
      else .next s
    | none => .next s
  else
    match lone with
    | some n =>
      if bad.isEmpty then .next (put s (fun k c => if good.contains k then .paired else if k = n then .warm else c))
      else
        let s1 := bad.foldl quarantineCore
          (put s (fun k c => if bad.contains k then .quarantined else if (good.contains k ∨ k = n) ∧ !good.isEmpty then .paired else c))
        .next (if good.isEmpty then raiseErr s1 Reg.SHEP_STATUS 3 3 0x0480 n else s1)
    | none =>
      let s1 := bad.foldl quarantineCore
        (put s (fun k c => if bad.contains k then .quarantined else if good.head? = some k then .single else if good.contains k then .warm else c))
      match good.head? with
      | some n => .next (raiseErr s1 Reg.SHEP_STATUS 3 3 0x0480 n)
      | none => .next (shepherdLost s1)

/-! Firmware (R362, R430, R431) and non-volatile areas -/

/-- The commands of which one runs at a time (Table 15-15). -/
def nvHeld (s : State) : Option (BitVec 16) := holderOp s [0x0C04, 0x0C05, 0x0C06, 0x0D01, 0x0D02, 0x0D04]

/-- The firmware co-signing keys (Table 20-3), and whether a co-signature is required (R439, R445). -/
def cosKeys (s : State) : List (Option (List Byte)) := (List.range 4).map (fun n => keySlot s (16 + n) 1)
def cosRequired (s : State) : Bool := s.sec.life == 2 && s.sec.policy.getLsbD 1

def fwStageBody (h : CmdHdr) (len : BitVec 32) (src : BitVec 64) (s : State) : State :=
  let bs := segsRead s.mem (bufList s src) len.toNat
  if bs.length < len.toNat then refuse s h 0x0C04 cField 12
  else if !Config.fwSigOk bs (cosKeys s) (cosRequired s) then refuse (raiseBit s Reg.SEC_STATUS 3) h 0x0C04 cAuth 0
  else
    let v := Config.fwVersion bs
    let s1 := setCores s (fun c => if c = .warm then .staged else c)
    finish (s1.modShep (fun p => { p with stagedImage := some v })) h 0x0C04 cOk v.toNat 0

/-- What R345 checks of FW_STAGE. -/
def fwStageChecks (h : CmdHdr) (len : BitVec 32) (src : BitVec 64) (s : State) : Checks :=
  { op := 0x0C04, fields := [cflagsOk h 0, (12, len != 0), (16, bufOk s src)], blocks := [0x1], held := nvHeld s }

/-- FW_STAGE. -/
def execFwStage (h : CmdHdr) (len : BitVec 32) (src : BitVec 64) (s : State) : Host.Outcome State Fault Refusal :=
  .next (startCmd h (fwStageChecks h len src s)
    none (fwStageBody h len src) s)

/-- The new image runs: HANDOVER, and a FIRMWARE entry (R431, Table 15-17). -/
def newImage (s : State) (v : Word) : State :=
  let old := fwVer s
  raiseBit (logAdd (s.modShep (fun p => { p with image := v, stagedImage := none, handover := none, recovery := false })) 8 0 0x0484 0x100000
    (leBytes 4 old ++ leBytes 4 v.toNat)) Reg.SHEP_STATUS 4

def fwActivateBody (h : CmdHdr) (s : State) : State :=
  match s.shep.stagedImage with
  | none => refuse s h 0x0C05 cState 0
  | some v =>
    if (coreList s).contains .staged then
      -- the spare runs the new image alone while the pair loads it
      let s1 := setCores s (fun c => if c = .staged then .single else if c = .paired then .staged else c)
      (keepRunning s1 h 0x0C05 0 0).modShep (fun p => { p with handover := some (h.ring, h.cid) })
    else finish (newImage s v) h 0x0C05 cOk v.toNat 0

/-- What R345 checks of FW_ACTIVATE. -/
def fwActivateChecks (h : CmdHdr) (s : State) : Checks :=
  { op := 0x0C05, fields := [cflagsOk h 0], blocks := [0x1], held := nvHeld s }

/-- FW_ACTIVATE. -/
def execFwActivate (h : CmdHdr) (s : State) : Host.Outcome State Fault Refusal :=
  .next (startCmd h (fwActivateChecks h s) none (fwActivateBody h) s)

/-- HANDOVER_TIMEOUT: the pair resumes the old image (R431). -/
def execHandoverTimeout (s : State) : Host.Outcome State Fault Refusal :=
  match s.shep.handover with
  | none => .next s
  | some c =>
    let s1 := setCores s (fun c => if c = .staged then .paired else if c = .single then .warm else c)
    let s2 := raiseBit (s1.modShep (fun p => { p with handover := none, stagedImage := none })) Reg.SHEP_STATUS 5
    .next (endRun s2 c.1 c.2 cEngine 0 0)

/-- SHEPHERD_CHECKPOINT, at a command boundary (R429): a handover in progress completes (R431, step 4). -/
def execShepherdCheckpoint (s : State) : Host.Outcome State Fault Refusal :=
  let s0 := s.modShep (fun p => { p with checkpoint := inFlight s, record := unitStates s })
  match s.shep.handover, s.shep.stagedImage with
  | some c, some v =>
    let s1 := setCores s0 (fun c => if c = .staged then .paired else if c = .single then .warm else c)
    .next (endRun (newImage s1 v) c.1 c.2 cOk v.toNat 0)
  | _, _ => .next s0

/-- The NV entry (Table 15-17). -/
def logNv (s : State) (area refused bytes : Nat) : State :=
  logAdd s 0xA 0 0x0486 0x100000 (leBytes 1 area ++ leBytes 1 refused ++ [0, 0] ++ leBytes 4 bytes)

def nvWriteBody (h : CmdHdr) (area : Byte) (len offset : BitVec 32) (src : BitVec 64) (s : State) : State :=
  if nvWarned s then refuse (logNv s area.toNat 1 0) h 0x0C06 cNv 0
  else
    let bs := segsRead s.mem (bufList s src) len.toNat
    if area = 3 then finish (logNv (commitWear s true) 3 0 0) h 0x0C06 cOk 0 0
    else if bs.length < len.toNat then refuse s h 0x0C06 cField 12
    else
      let s1 := s.modSec (fun x =>
        if area = 0 then { x with nvCal := memWrite x.nvCal offset.toNat bs }
        else if area = 1 then { x with nvDeck := memWrite x.nvDeck offset.toNat bs }
        else
          let a := memWrite x.nvFirm offset.toNat bs
          { x with nvFirm := a, flashImage := Config.flashVersion a })
      finish (logNv s1 area.toNat 0 len.toNat) h 0x0C06 cOk len.toNat 0

/-- What R345 checks of NV_WRITE. -/
def nvWriteChecks (h : CmdHdr) (area : Byte) (len : BitVec 32) (src : BitVec 64) (s : State) : Checks :=
  { op := 0x0C06
    fields := [cflagsOk h 0, (8, decide (area.toNat ≤ 3)), (12, if area = 3 then len == 0 else len != 0),
      (24, if area = 3 then src == 0 else bufOk s src)]
    blocks := [0x1], held := nvHeld s }

/-- NV_WRITE. -/
def execNvWrite (h : CmdHdr) (area : Byte) (len : BitVec 32) (offset : BitVec 32) (src : BitVec 64) (s : State) :
    Host.Outcome State Fault Refusal :=
  .next (startCmd h (nvWriteChecks h area len src s)
    none (nvWriteBody h area len offset src) s)

end Sys2Proof.Machine
end

