-- ==== Sys2Proof/Machine/Security.lean ====
section
/-!
DEFINITION. Security and life cycle (chapter 20): tamper sources and the wipe, the key store and unsealing, provisioning, and the
commands of R363.
-/

namespace Sys2Proof.Machine

/-! The secure scratch (R442, R444) -/

/-- Size of the secure scratch. -/
def secSize : Nat := 2 * 2 ^ 20

/-- The bytes of aperture offsets `lo` to `hi - 1` become 0, with good check bits. -/
def zeroScratch (s : State) (lo hi : Nat) : State :=
  s.modMem (fun m => { m with
    scratch := memErase m.scratch lo hi
    badWords := m.badWords.filter (fun w => !(decide (lo ≤ w) && decide (w < hi))) })

/-- Every word of the secure scratch becomes 0, and with them go the licences (R444). -/
def wipeSecure (s : State) : State :=
  (zeroScratch s secBase (secBase + secSize)).modSec (fun x => { x with wiped := true, licences := 0 })

/-- The SECURITY entry (Table 15-17). -/
def logSecurity (s : State) (cls scope : Nat) : State :=
  logAdd s 9 cls 0x0485 0x200000 (leBytes 1 s.sec.life ++ leBytes 1 s.sec.latched.toNat ++ leBytes 1 scope)

/-! Tamper sources (R444) -/

/-- Sources 2 and 3 are armed while POR_N is high and every rail has stayed in its range since it rose. -/
def tamperArmed (s : State) (src : Nat) : Bool := (src != 2 && src != 3) || (!s.pwr.por && !s.pwr.outOfRange)

/-- One tamper-count fuse bit is programmed. -/
def stepTamperCount (s : State) : State :=
  let n := s.sec.count + 1
  let s1 := raiseBit (s.modSec (fun x => { x with count := n })) Reg.SEC_STATUS 6
  if 28 ≤ n then raiseBit s1 Reg.SEC_STATUS 7 else s1

/-- TAMPER_EVENT. -/
def execTamperEvent (src : Fin 5) (s : State) : Host.Outcome State Fault Refusal :=
  if !tamperArmed s src.val then .next s
  else
    let bit := BitVec.ofNat 5 (2 ^ src.val)
    let s1 := (wipeSecure s).modSec (fun x => { x with latched := x.latched ||| bit, active := x.active ||| bit })
    let s2 := raise s1 Reg.SEC_STATUS 3
    let field := s.sec.life == 2
    let s3 := if field && decide (s.sec.count < 32) then stepTamperCount s2 else s2
    if field && s.sec.policy.getLsbD 2 then .next (enterClassF (logSecurity s3 4 1)) else .next (logSecurity s3 0 1)

/-! The key store (R442, R443) -/

/-- The slots of each KIND (Table 20-3), and the bytes that one holds after its header. -/
def slotOk (kind slot : Nat) : Bool :=
  if kind = 0 then decide (slot < 16)
  else if kind = 1 then decide (16 ≤ slot ∧ slot < 20)
  else if kind = 2 then decide (32 ≤ slot ∧ slot < 64)
  else if kind = 3 then decide (slot < 248) else true
def slotMax (kind : Nat) : Nat := if kind = 3 then 8192 else 252

/-- An item is loaded into its slot, unless a tamper source holds the secure scratch at 0. -/
def loadItem (s : State) (slot kind : Nat) (bs : List Byte) : State :=
  if s.sec.active ≠ 0 then s
  else
    let a := secBase + (if kind = 3 then 0x10000 + 8192 * slot else 256 * slot)
    let n := if kind = 3 then 8192 else 256
    let w := if kind = 3 then bs else leBytes 4 (1 + 256 * kind + 65536 * bs.length) ++ bs
    let s1 := (zeroScratch s a (a + n)).modMem (fun m => { m with scratch := memWrite m.scratch a w })
    if kind = 2 then s1.modSec (fun x => { x with licences := x.licences ||| BitVec.ofNat 32 (2 ^ (slot - 32)) }) else s1

/-- Unsealing at power-on and after a core reset: an item sealed under another life-cycle state or tamper count fails, and the store
is erased of it. It waits while a tamper source is active (R443, R444). -/
def unsealStore (s : State) : State :=
  if s.sec.active ≠ 0 then s.modSec (fun x => { x with unsealing := true })
  else
    let good (i : Nat × Nat × List Byte × Nat × Nat) : Bool := i.2.2.2.1 == s.sec.life && i.2.2.2.2 == s.sec.count && !scrapped s
    let l := s.sec.sealedItems.filter good
    let s1 := l.foldr (fun i s => loadItem s i.1 i.2.1 i.2.2.1) (s.modSec (fun x => { x with unsealing := false, sealedItems := l }))
    if s.sec.sealedItems.all good then s1 else raiseBit s1 Reg.SEC_STATUS 5

/-- TAMPER_SOURCE_INACTIVE: the scratch is no longer held, and unsealing that waits proceeds. -/
def execTamperSourceInactive (src : Fin 5) (s : State) : Host.Outcome State Fault Refusal :=
  let s1 := s.modSec (fun x => { x with active := x.active &&& ~~~(BitVec.ofNat 5 (2 ^ src.val)) })
  .next (if s.sec.unsealing then unsealStore s1 else s1)

/-- Whether a record is a valid option licence of number `n` (R445). -/
def licenceOk (s : State) (bs : List Byte) (n : Nat) : Bool :=
  bs.length == 128 && leAt bs 0 4 == 0x43494C4F && Config.licenceFields (bs.take 32) n s.sec.serial &&
    vendorSigOk s.sec.vendorHash (sha384 (bs.take 32)) (sigNum bs 32) (sigNum bs 80)

def keyProvisionBody (h : CmdHdr) (slot kind : Byte) (len : BitVec 32) (src : BitVec 64) (s : State) : State :=
  let n := slot.toNat
  let bs := segsRead s.mem (bufList s src) len.toNat
  if bs.length < len.toNat then refuse s h 0x0D02 cField 12
  else if nvWarned s then refuse s h 0x0D02 cNv 0
  else if kind = 2 ∧ !licenceOk s bs (n - 32) then refuse (raiseBit s Reg.SEC_STATUS 3) h 0x0D02 cAuth 0
  else
    let item := (n, kind.toNat, bs, s.sec.life, s.sec.count)
    let s1 := s.modSec (fun x => { x with sealedItems := item :: x.sealedItems.filter (fun i => !(i.1 == n && i.2.1 == kind.toNat)) })
    finish (logSecurity (raiseBit (loadItem s1 n kind.toNat bs) Reg.SEC_STATUS 4) 0 0) h 0x0D02 cOk 0 0

/-- What R345 checks of KEY_PROVISION. -/
def keyProvisionChecks (h : CmdHdr) (slot : Byte) (kind : Byte) (len : BitVec 32) (src : BitVec 64) (s : State) : Checks :=
  { op := 0x0D02
    fields := [cflagsOk h 0, (8, slotOk kind.toNat slot.toNat), (9, decide (kind.toNat ≤ 3)),
      (12, decide (len.toNat ≤ slotMax kind.toNat)), (16, bufOk s src)]
    denied := s.sec.life == 2 && kind != 2
    held := nvHeld s }

/-- KEY_PROVISION (R363, R439, R442, R443). -/
def execKeyProvision (h : CmdHdr) (slot : Byte) (kind : Byte) (len : BitVec 32) (src : BitVec 64) (s : State) :
    Host.Outcome State Fault Refusal :=
  .next (startCmd h (keyProvisionChecks h slot kind len src s)
    none (keyProvisionBody h slot kind len src) s)

/-! LIFECYCLE_ADVANCE (R440, R441) -/

/-- The customer signature: needed in FIELD with COSIGN fused, else absent. -/
def csigOk (s : State) (a : List Byte) : Bool :=
  let slot := leAt a 6 1
  let slotGood := decide (16 ≤ slot ∧ slot < 20)
  if cosRequired s then
    match keySlot s slot 1 with
    | some key => slotGood && ecdsaOk key (sha384 (a.take 128)) (sigNum a 224) (sigNum a 272)
    | none => false
  else (slot == 0 || slotGood) && leAt a 224 96 == 0

/-- The authorisation of Table 20-2. -/
def authOk (s : State) (target : Nat) (a : List Byte) : Bool :=
  leAt a 0 4 == 0x48545541 && leAt a 4 1 == target && decide (leAt a 5 1 < 8) && leAt a 7 1 == 0 &&
    leAt a 8 16 == s.sec.serial.toNat && leAt a 24 8 == rd64 s Reg.SEC_NONCE_LO && leAt a 32 96 == 0 && leAt a 320 32 == 0 &&
    vendorSigOk s.sec.vendorHash (sha384 (a.take 128)) (sigNum a 128) (sigNum a 176) && csigOk s a

/-- SEC_NONCE is replaced by a random value. -/
def newNonce (s : State) : State := useFree (wr64 s Reg.SEC_NONCE_LO (freeVal 64 s).toNat)

def lifecycleAdvanceBody (h : CmdHdr) (target : Nat) (len : BitVec 32) (src : BitVec 64) (s : State) : State :=
  let a := segsRead s.mem (bufList s src) len.toNat
  if a.length < len.toNat then refuse s h 0x0D01 cField 12
  else if captureBusy s || playing s then refuse s h 0x0D01 cBusy busyState
  else if !authOk s target a then refuse (newNonce (raiseBit s Reg.SEC_STATUS 3)) h 0x0D01 cAuth 0
  else if nvWarned s then refuse s h 0x0D01 cNv 0
  else
    let s1 := wipeSecure (s.modSec (fun x => { x with life := target, policy := BitVec.ofNat 8 (leAt a 5 1) }))
    finish (logSecurity (raise (newNonce s1) Reg.SEC_STATUS 6) 0 1) h 0x0D01 cOk target 0

/-- What R345 checks of LIFECYCLE_ADVANCE. -/
def lifecycleAdvanceChecks (h : CmdHdr) (target : Byte) (len : BitVec 32) (src : BitVec 64) (s : State) : Checks :=
  { op := 0x0D01
    fields := [cflagsOk h 0, (8, decide (1 ≤ target.toNat ∧ target.toNat ≤ 4 ∧ s.sec.life < target.toNat)), (12, len == 352),
      (16, bufOk s src)]
    held := nvHeld s }

/-- LIFECYCLE_ADVANCE. -/
def execLifecycleAdvance (h : CmdHdr) (target : Byte) (len : BitVec 32) (src : BitVec 64) (s : State) :
    Host.Outcome State Fault Refusal :=
  .next (startCmd h (lifecycleAdvanceChecks h target len src s)
    none (lifecycleAdvanceBody h target.toNat len src) s)

/-! TAMPER_STATUS and WIPE (R363, R444) -/

def tamperStatusBody (h : CmdHdr) (s : State) : State :=
  let r := s.sec.latched.toNat + (if s.sec.wiped then 256 else 0)
  let s1 := if cflag h 0 then s.modSec (fun x => { x with latched := x.latched &&& x.active, wiped := false }) else s
  finish s1 h 0x0D03 cOk r 0

/-- What R345 checks of TAMPER_STATUS. -/
def tamperStatusChecks (h : CmdHdr) : Checks :=
  { op := 0x0D03, fields := [cflagsOk h 1] }

/-- TAMPER_STATUS. -/
def execTamperStatus (h : CmdHdr) (s : State) : Host.Outcome State Fault Refusal :=
  .next (startCmd h (tamperStatusChecks h) none (tamperStatusBody h) s)

/-- The fold and pattern space of HBM becomes 0: every extent of every stack (R163). -/
def wipeFolds (s : State) : State :=
  let z := stackSize s
  let inExt (a : Nat) : Bool := decide (a % z < extentMax s * extentSize)
  (s.modMem (fun m => { m with hbm := m.hbm.filter (fun c => !inExt c.1), badHbm := m.badHbm.filter (fun a => !inExt a) })).modPgen
    (fun p => { p with psegs := [] })

/-- The quad and chip scratch become 0. -/
def wipeScratch (s : State) : State := zeroScratch s 0 (72 * 2 ^ 20)

def wipeBody (h : CmdHdr) (scope : Byte) (s : State) : State :=
  if scope &&& 6 ≠ 0 ∧ (captureBusy s || playing s) then refuse s h 0x0D04 cBusy busyState
  else if scope.getLsbD 0 ∧ nvWarned s then refuse s h 0x0D04 cNv 0
  else
    let s1 := if scope.getLsbD 0 then raiseBit ((wipeSecure s).modSec (fun x => { x with sealedItems := [] })) Reg.SEC_STATUS 1 else s
    let s2 := if scope.getLsbD 1 then wipeFolds s1 else s1
    let s3 := if scope.getLsbD 2 then wipeScratch s2 else s2
    finish (logSecurity s3 0 scope.toNat) h 0x0D04 cOk 0 0

/-- What R345 checks of WIPE. -/
def wipeChecks (h : CmdHdr) (scope : Byte) (s : State) : Checks :=
  { op := 0x0D04, fields := [cflagsOk h 0, (8, scope != 0 && decide (scope.toNat ≤ 7))], held := nvHeld s }

/-- WIPE. -/
def execWipe (h : CmdHdr) (scope : Byte) (s : State) : Host.Outcome State Fault Refusal :=
  .next (startCmd h (wipeChecks h scope s) none
    (wipeBody h scope) s)

end Sys2Proof.Machine
end

