-- ==== Sys2Proof/Machine/Power.lean ====
section
/-!
DEFINITION. Supplies, clocks, sleep and wake, and the resets of Table 18-5 (chapter 18).
-/

namespace Sys2Proof.Machine

/-! Resets (R420, R421) -/

/-- The cores after a power-on reset: the two lowest that are not quarantined run as the pair (R429). -/
def bootCores (c : CoreState × CoreState × CoreState) : CoreState × CoreState × CoreState :=
  let q (x : CoreState) : Bool := x == .quarantined
  match q c.1, q c.2.1, q c.2.2 with
  | false, false, false => (.paired, .paired, .warm)
  | true, false, false => (.quarantined, .paired, .paired)
  | false, true, false => (.paired, .quarantined, .paired)
  | false, false, true => (.paired, .paired, .quarantined)
  | false, true, true => (.single, .quarantined, .quarantined)
  | true, false, true => (.quarantined, .single, .quarantined)
  | true, true, false => (.quarantined, .quarantined, .single)
  | true, true, true => (.quarantined, .quarantined, .quarantined)

/-- Patrol with only the failed spares remembered (R424). -/
def keepFailed (t : Tab PatrolSt) : Tab PatrolSt :=
  t.filterMap (fun p => if p.2.failed then some (p.1, { failed := true }) else none)

/-- Patrol in which the spares of the blocks `l` have failed. -/
def failedSpares (l : List Nat) : Tab PatrolSt := l.foldl (fun t b => tabPut {} t b { failed := true }) []

/-- The pages of stack `n` that a remap serves. -/
def remapsOf (s : State) (n : Nat) : List Nat := s.shep.remaps.filter (fun k => k / 2 ^ 24 == n)

/-- Power-on reset: what fuses, flash and the wear log's committed copy hold is kept (R435), with the host's memory and the conditions of pins and rails; bit
`cause` of CHIP_RESET_CAUSE tells the source. -/
def porState (s : State) (cause : Nat) : State :=
  let r0 := State.reset
  let regs := wrR (wrR (wrR (wrR [] Reg.CHIP_AVS (withField (resetWord Reg.CHIP_AVS) 9 0 (rdF s Reg.CHIP_AVS 9 0)))
    Reg.SEC_NONCE_LO (rd s Reg.SEC_NONCE_LO)) Reg.SEC_NONCE_HI (rd s Reg.SEC_NONCE_HI)) Reg.CHIP_RESET_CAUSE (BitVec.ofNat 32 (2 ^ cause))
  let m := wearCopy s.shep
  let shep : ShepSt := { s.shep with
    cores := bootCores m.cores, recovery := false, stagedImage := none, handover := none, lost := false
    patrol := failedSpares m.failed, remaps := m.remaps, pageQuar := m.pageQuar, wear := m.wear, wearNext := m.wearNext
    laneLost := [], engCe := [], retry := false, commitDue := false, checkpoint := 0, record := [] }
  let sec : SecSt := { s.sec with latched := 0, wiped := false, licences := 0, unsealing := false }
  let deck : DeckSt := { standing := m.standing, quarEngines := m.quarEngines, quarRegions := s.deck.quarRegions }
  let mem : MemSt := { host := s.mem.host, rows := m.rows, deadRows := m.deadRows }
  let comp : CompSt := { quar := m.quar, dQuar := m.dQuar }
  let log : LogSt := { s.log with entries := s.log.entries.filter (fun e => decide (e.seq < s.log.committed)) }
  let pwr : PwrSt := { warnIo := s.pwr.warnIo, warnAon := s.pwr.warnAon, por := true }
  let r1 := { r0 with
    pending := s.pending, free := s.free, reply := s.reply, regs := regs, shep := shep, sec := sec, deck := deck, mem := mem, comp := comp
    log := log, pwr := pwr }
  (List.range 4).foldl (fun r n => wrF r (Reg.HBM_POOL n) 18 0 (262144 - (remapsOf r1 n).length)) r1

/-- POR_N_LOW. -/
def execPorNLow (s : State) : Host.Outcome State Fault Refusal := .next (if s.pwr.por then s else porState s 0)

/-- Remapped pages of stack `n` become hard repairs for as long as its repair rows last, and go back to the pool; the spec does not
number those rows, so how many pages it is is a free value (R432, notes/assumptions/10.md). -/
def hardRepair (s : State) (n : Nat) : State :=
  let l := remapsOf s n
  if l.isEmpty then s
  else
    let k := (freeVal 18 s).toNat % (l.length + 1)
    let s0 := (useFree s).modShep (fun h => { h with remaps := h.remaps.filter (fun p => !(l.take k).contains p) })
    let s1 := (l.take k).foldl (fun s p => wearAdd s 9 (unitCode (Reg.HBM_STATUS n) n) (p % 2 ^ 24)) s0
    let s2 := wrF s1 (Reg.HBM_POOL n) 18 0 (262144 - (l.length - k))
    let s3 := if 0 < k then raiseBit s2 (Reg.HBM_STATUS n) 6 else s2
    if k < l.length then raiseBit s3 (Reg.HBM_STATUS n) 7 else s3

/-- The HBM stacks are repaired, trained, those of `retry` at a second try, and ON (R421, R432, Table 19-11). -/
def hbmReady (s : State) (retry : BitVec 4) : State :=
  (List.range 4).foldl (fun s n =>
    let s1 := wrF (hardRepair s n) Reg.CHIP_PWR_STATE (13 + 2 * n) (12 + 2 * n) 2
    if retry.getLsbD n then raiseBit s1 (Reg.HBM_STATUS n) 9 else s1) (wrF s Reg.CHIP_CLK_STATUS 3 3 1)

/-- What follows POR_N's rise (R421): `image` tells whether the flash holds a valid one (R445). -/
def boot (s : State) (image : Bool) (retry : BitVec 4) : State :=
  let s1 := s.modPwr (fun p => { p with por := false })
  let s2 := s1.modShep (fun h => { h with recovery := !image, image := s.sec.flashImage })
  let s3 := unsealStore (hbmReady (wrF s2 Reg.CHIP_CLK_STATUS 6 6 1) retry)
  let s4 := raiseBit (wrF s3 Reg.CMDQ_READY 0 0 1) Reg.CHIP_PWR_STATUS 14
  if processing s4 then s4 else shepherdLost s4

/-- POWER_ON_RESET: POR_N rises. -/
def execPowerOnReset (image : Bool) (s : State) (retry : BitVec 4 := 0) : Host.Outcome State Fault Refusal :=
  .next (if s.pwr.por || !(rd s Reg.CMDQ_READY).getLsbD 0 then boot s image retry else s)

/-- TEST_RESET resets the JTAG TAP only. -/
def execTestReset (s : State) : Host.Outcome State Fault Refusal := .next s

/-- Every command in flight completes with ABORTED. -/
def abortAll (s : State) : State :=
  let s1 := s.cmd.running.foldl (fun s r => endRun s r.ring r.cid cAborted 0 0) s
  let s2 := s1.modCmd (fun c => { c with fetched := [], running := [] })
  s1.cmd.fetched.foldl (fun s f => complete s f.ring f.cid 0 cAborted 0 0) s2

/-- The blocks whose registers a core reset keeps: CHIP, SHEP, SEC, PCIE, TBASE, TIN, DAC, DROV and TEST. -/
def keptBlocks : List Nat := [0, 1, 2, 3, 4, 5, 6, 0xB, 0x3F]

/-- The stacks that have power after a core reset are ON again; the regions are OFF (R76, R420). -/
def resetPower (s : State) : State :=
  (List.range 4).foldl (fun s n =>
    if rdF s Reg.CHIP_PWR_STATE (13 + 2 * n) (12 + 2 * n) = 0 then s else wrF s Reg.CHIP_PWR_STATE (13 + 2 * n) (12 + 2 * n) 2)
    (wrF s Reg.CHIP_PWR_STATE 9 0 0)

/-- What a core reset leaves of each unit. -/
def coreState (s : State) : State :=
  let deck : DeckSt := {
    slots := s.deck.slots, standing := s.deck.standing, quarEngines := s.deck.quarEngines, quarRegions := s.deck.quarRegions
    stage := s.deck.stageNext, stageNext := s.deck.stageNext, temps := s.deck.temps }
  let recog : RecogSt := { trigLevel := s.recog.trigLevel, gate := s.recog.gate.map (fun c => { c with from_ := 0 }) }
  let flock : FlockSt := { main := s.flock.backMain, stash := s.flock.backStash, backMain := s.flock.backMain, backStash := s.flock.backStash }
  let comp : CompSt := { quar := s.comp.quar, dQuar := s.comp.dQuar
                         ctx := (List.range 256).foldl (fun t k =>
                           tabMod {} t k (fun x => if x.busy.isSome then { x with busy := none, stream := none } else x)) s.comp.ctx }
  let tins : TinsSt := { s.tins with
    ins := (List.range 16).foldl (fun t n => tabMod {} t n (fun x => { x with cmd := none })) s.tins.ins, meas := [] }
  let dac := (List.range 34).foldl (fun t n => tabMod {} t n (fun x => { x with busy := none })) s.dac
  let shep : ShepSt := { s.shep with patrol := keepFailed s.shep.patrol, laneLost := [] }
  let pwr : PwrSt := { s.pwr with waking := [], held := [], slept := [], classF := false, changing := [], bankGiven := [] }
  let tb : TimeSt := { s.tb with epoch := none, laneOfs := [], wait := none }
  let keep (x : MasterSt) : MasterSt := { x with
    latch := x.latch.filter (fun p => keptBlocks.contains (p.1 / 0x100000))
    staged := x.staged.filter (fun p => keptBlocks.contains (p.1 / 0x100000)), eqLine := [] }
  { s with
    regs := s.regs.filter (fun p => keptBlocks.contains (p.1 / 0x100000)), host := keep s.host, shepM := keep s.shepM, tb := tb, drov := {}, eq := [], deck := deck, ingest := {}
    recog := recog, flock := flock, hands := [], trig := {}, comp := comp, pgen := { psegs := s.pgen.psegs }, checkers := [], tins := tins
    dac := dac, link := [], pwr := pwr, shep := shep
    mem := { s.mem with scratch := s.mem.scratch.filter (fun c => decide (72 * 2 ^ 20 ≤ c.1))
                        badWords := s.mem.badWords.filter (fun a => decide (72 * 2 ^ 20 ≤ a)), lap := [], ceWin := [] } }

/-- A core reset (R420); `low` are the rails that are below their fail thresholds. -/
def coreReset (s : State) (low : BitVec 12) : State :=
  let s1 := coreState (stopPlayback (stopCapture (abortAll s)))
  let s2 := match s.shep.handover with
    | none => s1
    | some _ => (setCores s1 (fun c => if c = .staged then .paired else if c = .single then .warm else c)).modShep
        (fun h => { h with handover := none, stagedImage := none })
  let s3 := (List.range 8).foldl (fun s d => wrF s (Reg.DROV_STATE d) 31 0 0) (resetPower s2)
  let s4 := raiseBit (wrF (unsealStore s3) Reg.CHIP_RESET_CAUSE 2 2 1) Reg.CHIP_PWR_STATUS 13
  if low = 0 then s4 else enterClassF s4

/-! Supplies (R406, R408-R410) -/

/-- CHIP_VMON of a rail, and CHIP_AVS.MEAS for VDD_CORE (Table 18-9). -/
def setVolt (s : State) (rail : Nat) (mv : BitVec 16) : State :=
  let s1 := wrF s (Reg.CHIP_VMON rail) 15 0 mv.toNat
  if rail = 0 then wrF s1 Reg.CHIP_AVS 25 16 mv.toNat else s1

def leaveRange (s : State) : State := s.modPwr (fun p => { p with outOfRange := true })

/-- SUPPLY_FAIL: class F, or, on VDD_AON and VDD_IO, the internal power-on reset. -/
def execSupplyFail (rail : Fin 12) (mv : BitVec 16) (s : State) : Host.Outcome State Fault Refusal :=
  .next (
    if s.pwr.por then s
    else if rail = 2 ∨ rail = 5 then porState s 1
    else enterClassF (raiseErr (leaveRange (setVolt s rail mv)) Reg.CHIP_PWR_STATUS 2 4 0x0480 rail))

/-- SUPPLY_OVERVOLTAGE. -/
def execSupplyOvervoltage (rail : Fin 12) (mv : BitVec 16) (s : State) : Host.Outcome State Fault Refusal :=
  .next (if s.pwr.por then s else raiseErr (leaveRange (setVolt s rail mv)) Reg.CHIP_PWR_STATUS 3 1 0x0480 rail)

/-- The warning of one rail becomes active or clears. -/
def setWarn (s : State) (io b : Bool) : State :=
  s.modPwr (fun p => if io then { p with warnIo := b } else { p with warnAon := b })

/-- SUPPLY_WARNING. -/
def execSupplyWarning (io : Bool) (mv : BitVec 16) (s : State) : Host.Outcome State Fault Refusal :=
  let s1 := leaveRange (setVolt (setWarn s io true) (if io then 5 else 2) mv)
  .next (if nvWarned s then s1 else raiseBit s1 Reg.CHIP_PWR_STATUS 0)

/-- SUPPLY_WARNING_CLEAR. -/
def execSupplyWarningClear (io : Bool) (mv : BitVec 16) (s : State) : Host.Outcome State Fault Refusal :=
  let s1 := setVolt (setWarn s io false) (if io then 5 else 2) mv
  .next (if nvWarned s && !nvWarned s1 then raiseBit s1 Reg.CHIP_PWR_STATUS 1 else s1)

/-- AVS_OFF_TARGET: VDD_CORE has stayed outside TARGET ±2%. -/
def execAvsOffTarget (meas : BitVec 10) (s : State) : Host.Outcome State Fault Refusal :=
  let t := rdF s Reg.CHIP_AVS 9 0
  let s1 := wrF s Reg.CHIP_AVS 25 16 meas.toNat
  .next (if t < 50 * (max meas.toNat t - min meas.toNat t) then raiseBit s1 Reg.CHIP_PWR_STATUS 7 else s1)

/-! Clocks (R413, R414) -/

/-- Whether AON_SRC selects REFCLK ÷ 4. -/
def aonFromRef (s : State) : Bool := (rd s Reg.CHIP_PWR_CTRL).getLsbD 1

/-- REFCLK_LOSS: holdover begins, class D. -/
def execRefclkLoss (s : State) : Host.Outcome State Fault Refusal :=
  if refclkGone s then .next s
  else
    let s1 := wrF (s.modPwr (fun p => { p with holdover := some (now s) })) Reg.CHIP_CLK_STATUS 7 6 2
    let s2 := raiseErr s1 Reg.CHIP_PWR_STATUS 4 2 0x0480 0
    .next (if aonFromRef s && !(rd s Reg.CHIP_CLK_STATUS).getLsbD 8 then
      raiseBit (wrF s2 Reg.CHIP_CLK_STATUS 8 8 1) Reg.CHIP_PWR_STATUS 6 else s2)

/-- REFCLK_RETURN: holdover ends. -/
def execRefclkReturn (s : State) : Host.Outcome State Fault Refusal :=
  if refclkGone s then
    .next (raiseErr (wrF (s.modPwr (fun p => { p with holdover := none })) Reg.CHIP_CLK_STATUS 7 6 1) Reg.CHIP_PWR_STATUS 5 2 0x0480 0)
  else .next s

/-- AON_RETURN_TO_REFCLK. -/
def execAonReturnToRefclk (s : State) : Host.Outcome State Fault Refusal :=
  .next (if aonFromRef s && !refclkGone s then wrF s Reg.CHIP_CLK_STATUS 8 8 0 else s)

/-- OSCILLATOR_TRIM: the oscillator's frequency is no state of the model. -/
def execOscillatorTrim (s : State) : Host.Outcome State Fault Refusal := .next s

/-! Sleep and wake (R416, R419) -/

/-- The regions that the deck names, with their state. -/
def regionsIn (s : State) (v : Nat) : List Nat := (List.range 5).filter (fun r => rdF s Reg.CHIP_PWR_STATE (2 * r + 1) (2 * r) == v)

/-- The conditions of R416. -/
def maySleep (s : State) : Bool :=
  rdF s Reg.CHIP_PWR_CTRL 15 8 != 0 && (actDeck s).isSome && !asleep s &&
    (List.range 16).all (fun g => (grpOf s g).st == .idle || (grpOf s g).st == .stopped || (grpOf s g).st == .stoppedOvf) &&
    !playing s && !(List.range 32).any (checkerRuns s) && !recogMeasuring s && s.drov.jobs.isEmpty && s.drov.waiting.isEmpty &&
    s.comp.jobs.isEmpty && (verifyWaiting s).isEmpty && (holderOp s [0x0A01, 0x0A02, 0x0A03, 0x0A04]).isNone

/-- REGION_SLEEP: the deal counters stop, at a deal-period boundary, banks that are ON go to RETAIN, and SLEEP is set. -/
def execRegionSleep (s : State) : Host.Outcome State Fault Refusal :=
  if maySleep s ∧ s.deck.cycle = 0 then
    let rs := regionsIn s 2
    let banks := rs.flatMap (fun r => ((List.range (bankCount r)).filter (fun b => bankState s r b == 2)).map (fun b => (r, b)))
    let s1 := rs.foldl (fun s r => wrF s Reg.CHIP_PWR_STATE (2 * r + 1) (2 * r) 3) s
    let s2 := (setBanks s1 banks 1).modPwr (fun p => { p with slept := banks.map (fun x => x.1 * 64 + x.2) })
    .next (raiseBit (wrF s2 Reg.CHIP_CLK_STATUS 0 0 0) Reg.CHIP_PWR_STATUS 8)
  else .next s

/-- The effect of a command that waited for the regions; none of them has one in class F (R26, R345). -/
def runWaking (s : State) (i : Instr) : State :=
  let run (h : CmdHdr) (op : Nat) (body : State → State) : State :=
    wakeCmd h (fun s => if s.pwr.classF then refuse s h op cChipFault 0 else body s) s
  match i with
  | .arm h groups mode sa => run h 0x0301 (armBody h groups mode sa)
  | .deckActivate h slot => run h 0x0203 (deckActivateBody h slot)
  | .deckRedeal h slot groups _ => run h 0x0204 (deckRedealBody h slot groups)
  | .patternPlay h p => run h 0x0602 (patternPlayBody h p)
  | _ => s

/-- REGIONS_READY (Table 18-4). -/
def execRegionsReady (s : State) : Host.Outcome State Fault Refusal :=
  let rs := regionsIn s 1
  if rs.isEmpty then .next s
  else
    let s1 := rs.foldl (fun s r => wrF s Reg.CHIP_PWR_STATE (2 * r + 1) (2 * r) 2) s
    let s2 := setBanks (wakeStacks (startTbase s1) [0, 1, 2, 3]) (s.pwr.slept.map (fun k => (k / 64, k % 64))) 2
    let s3 := s2.modDeck (fun d => { d with cycle := 0, num := (List.range 5).foldl (fun t r => tabMod 0 t r (· + 1)) d.num })
    let s4 := raiseBit (wrF s3 Reg.CHIP_CLK_STATUS 1 0 3) Reg.CHIP_PWR_STATUS 9
    .next (s.pwr.waking.foldl runWaking (s4.modPwr (fun p => { p with waking := [], slept := [] })))

end Sys2Proof.Machine
end

