-- ==== Sys2Proof/Machine/Views.lean ====
section
/-!
DEFINITION. What a read of a register shows (R368): the stored registers, and those that show the state of a unit, each computed from
that state.
-/

namespace Sys2Proof.Machine

/-- A number as a register. -/
def w32 (n : Nat) : Word := BitVec.ofNat 32 n

/-- `2 ^ n` where `b` holds. -/
def bitIf (b : Bool) (n : Nat) : Nat := if b then 2 ^ n else 0

/-- Half `hi` of a 64-bit value. -/
def half (v : Nat) (hi : Bool) : Word := w32 (if hi then v / 2 ^ 32 else v)

/-- What a master holds (R367). -/
def masterOf (s : State) (m : Master) : MasterSt := match m with | .host => s.host | .shepherd => s.shepM
def setMaster (s : State) (m : Master) (x : MasterSt) : State := match m with | .host => s.setHost x | .shepherd => s.setShepM x

/-- CHIP_KEY_STATE, of the reading master (Table 16-7). -/
def keyState (s : State) (m : Master) : Word :=
  let x := masterOf s m
  w32 (bitIf x.unlocked 5 + bitIf x.lockout 4 + x.strikes)

/-- GUARD_POS and GUARD_DEALNUM of region `g` (Table 3-11). -/
def viewGuard (s : State) (g r : Nat) : Option Word :=
  if r = 0xC then some (w32 (((actDeck s).map (fun d => dkPeriod d * 65536 + s.deck.cycle % 65536)).getD 0))
  else if r = 0x10 then some (half (dealNum s g) false)
  else if r = 0x14 then some (half (dealNum s g) true) else none

/-- The clock domains (Table 1-6). -/
inductive ClockDomain where
  | aon
  | shep
  | fab (q : Fin 4)
  | fabs
  | mrx (g : Fin 4)
  | mtx (t : Fin 2)
  | hbm
  | pcie
  | tbase
  | dacx
  | test
deriving DecidableEq, Repr

/-- Whether a Myras group's lanes run: not in OFF, PARKED or DATA_OFF (Table 18-3). -/
def groupClocked (s : State) (g : Nat) : Bool :=
  match (linkOf s g).st with
  | .off | .parked | .dataOff => false
  | _ => true

/-- Whether a clock domain runs: one is stopped while no unit uses it (R17, R412; notes/assumptions/19.md). -/
def domainRuns (s : State) : ClockDomain → Bool
  | .aon => true
  | .shep => processing s
  | .fab q => rdF s Reg.CHIP_PWR_STATE (2 * q + 1) (2 * q) == 2
  | .fabs => rdF s Reg.CHIP_PWR_STATE 9 8 == 2
  | .mrx g => groupClocked s g
  | .mtx t => groupClocked s (4 + t)
  | .hbm => (List.range 4).any (fun n => decide (2 ≤ rdF s Reg.CHIP_PWR_STATE (13 + 2 * n) (12 + 2 * n)))
  | .pcie => s.pcie.linkUp
  | .tbase => s.tb.running
  | .dacx => s.tb.running && [32, 33].any (fun ch => blkState s (Reg.DAC_CTRL ch) != stOff)
  | .test => false

/-- The LOCK bits of CHIP_CLK_STATUS (Tables 18-2, 18-8): the fabric, timebase and HBM PLLs once they have locked, and each only while a
unit that runs needs it (R412). -/
def clockLocks (s : State) : Nat :=
  let w := rd s Reg.CHIP_CLK_STATUS
  bitIf (w.getLsbD 0 && ((List.finRange 4).any (fun q => domainRuns s (.fab q)) || domainRuns s .fabs)) 0 +
    bitIf (w.getLsbD 1 && domainRuns s .tbase) 1 + bitIf (domainRuns s (.mtx 0) || domainRuns s (.mtx 1)) 2 +
    bitIf (w.getLsbD 3 && domainRuns s .hbm) 3 + bitIf (domainRuns s .shep) 4 + bitIf (domainRuns s .pcie) 5

/-- CHIP_KEY_STATE, the TBASE bit of CHIP_PWR_STATE, the LOCK bits of CHIP_CLK_STATUS, CHIP_IRQ_SUM and the SPINE guard (Tables 3-11, 16-7, 16-8, 18-8). -/
def viewChip (m : Master) (s : State) (r : Nat) : Option Word :=
  if r = 0x14 then some (keyState s m)
  else if r = 0x4C then some (withField (rd s Reg.CHIP_PWR_STATE) 20 20 (if s.tb.running then 1 else 0))
  else if r = 0x50 then some (withField (rd s Reg.CHIP_CLK_STATUS) 5 0 (clockLocks s))
  else if r = 0x100 then some (irqSum s.regs)
  else viewGuard s 4 (r - 0x1000)

/-- The state of one core (SHEP_CORES). -/
def coreCode : CoreState → Nat
  | .paired => 0 | .warm => 1 | .staged => 2 | .selfTest => 3 | .single => 4 | .quarantined => 5

/-- SHEP_CORES and the counts of commands in flight (Tables 14-8, 19-8). -/
def viewShep (s : State) (r : Nat) : Option Word :=
  if r = 0x8 then some (w32 (coreCode s.shep.cores.1 + 8 * coreCode s.shep.cores.2.1 + 64 * coreCode s.shep.cores.2.2))
  else if r = 0x10000 then some (w32 (inFlight s))
  else if 0x11000 ≤ r ∧ r % 0x40 = 0x2C then some (w32 (pairInFlight s ((r - 0x11000) / 0x40))) else none

/-- SEC_STATE (Table 20-6). -/
def viewSec (s : State) (r : Nat) : Option Word :=
  if r = 0x4 then some (w32 (s.sec.count * 65536 + s.sec.policy.toNat * 256 + s.sec.life)) else none

/-- One of the three registers that show a time. -/
def timePart (t : Time) (k : Nat) : Word :=
  if k = 0 then half (t / 65536) false else if k = 1 then half (t / 65536) true else w32 (t % 65536)

/-- The bellwether and E (Table 2-5). -/
def viewTbase (s : State) (r : Nat) : Option Word :=
  if 0x10 ≤ r ∧ r < 0x1C then some (timePart (now s) ((r - 0x10) / 4))
  else if 0x20 ≤ r ∧ r < 0x2C then some (timePart (s.tb.epoch.getD 0) ((r - 0x20) / 4)) else none

/-- MEAS_STATE.STATE (Table 10-12). -/
def measCode : MeasState → Nat
  | .idle => 0 | .waitGate => 1 | .waitStart => 2 | .stops => 3 | .collect => 4

/-- MEAS_STATE (Table 10-12). -/
def viewTin (s : State) (r : Nat) : Option Word :=
  if 0x200 ≤ r ∧ r < 0x280 ∧ r % 0x20 = 0 then
    let x := measOf s ((r - 0x200) / 0x20)
    let kind := match x.run with
      | none => 0
      | some y => if y.interval.isSome then 1 else 2
    some (w32 (8 * kind + measCode x.st))
  else none

/-- DAC_OUT of a CALOUT in SQUARE or SINE mode is the code being output (R266, R267, Table 11-7). -/
def viewDac (s : State) (r : Nat) : Option Word :=
  let ch := (r - 0x1000) / 0x40
  if 0x1800 ≤ r ∧ r % 0x40 = 0xC then (calCode s ch (dacx (now s))).map w32 else none

/-- EQ_DEPTH and EQ_LINE (Table 17-10). -/
def viewEq (m : Master) (s : State) (r : Nat) : Option Word :=
  let q := (r - 0x1000) / 0x40
  let k := r % 0x40
  if k = 0x8 then
    let e := eqSwap (eqOf s q)
    some (w32 (e.lseq.toNat * 65536 + bitIf (eqFull e) 8 + eqDepth e))
  else if 0x24 ≤ k then some ((tabGet [] (masterOf s m).eqLine q).getD ((k - 0x24) / 4) 0) else none

/-- The counters and timers as they stand now: every sample that has been evaluated is taken (R113, R115, R119). -/
def evaluated (s : State) : State :=
  match actDeck s with
  | some d => if 0 < evalCount s then noteEval s d (evalCount s - 1) else s
  | none => s

/-- Whether the RES of timer `n` is 1 at the last sample evaluated (Table 5-8). -/
def timerOut (s : State) (n : Nat) : Bool :=
  match actDeck s with
  | some d => (recAt s d (0x180 + n) (evalNext s - 1)).res
  | none => false

/-- ELAPSED of timer `n` (Table 5-8). -/
def timerElapsed (s : State) (n : Nat) : Nat :=
  (match (timerOf s n).start with | some a => elapsedNs a (now s) | none => (timerOf s n).elapsed) % 2 ^ 48

/-- Counters, timers and hands (Tables 5-8, 6-13). -/
def viewTrig (s : State) (r : Nat) : Option Word :=
  let hi := r % 8 == 4
  if 0x100 ≤ r ∧ r < 0x300 then
    let c := counterOf (evaluated s) ((r - 0x100) / 8)
    some (half (c.count.toNat + bitIf c.sat 48) hi)
  else if 0x300 ≤ r ∧ r < 0x400 then
    let n := (r - 0x300) / 8
    let t := evaluated s
    some (half (timerElapsed t n + bitIf (timerOf t n).start.isSome 63 + bitIf (timerOut t n) 62) hi)
  else if 0x1000 ≤ r then
    let x := handOf s ((r - 0x1000) / 0x40)
    let k := r % 0x40
    if k = 0x4 then some (w32 (bitIf x.ht.isSome 13 + x.flags.toNat * 256 + x.trick * 16 + handCode x.st))
    else if k = 0x8 then some (w32 x.hc0)
    else if k = 0xC then some (w32 x.hc1) else none
  else none

/-- The flock's occupancies (Table 5-10). -/
def viewFlock (s : State) (r : Nat) : Option Word :=
  if r = 0x8 then some (w32 (occupancy s.flock.main))
  else if r = 0xC then some (w32 (occupancy s.flock.stash)) else none

/-- The fold groups (Table 7-12). -/
def viewHbm (s : State) (r : Nat) : Option Word :=
  if r < 0x10000 then none
  else
    let x := grpOf s ((r - 0x10000) / 0x40)
    let k := r % 0x40
    if k = 0x4 then some (w32 (groupCode x.st))
    else if k = 0x8 then some (w32 x.closed)
    else if k = 0xC then some (half x.post false)
    else if k = 0x10 then some (half x.post true)
    else if k = 0x1C ∨ k = 0x20 then
      (actDeck s).map (fun d => half (groupLast s d ((r - 0x10000) / 0x40)) (k == 0x20))
    else none

/-- Table 9-6. -/
def pgenCode : PgenState → Nat
  | .idle => 0 | .prefill => 1 | .waitStart => 2 | .run => 3

/-- Table 9-7. -/
def checkCode : CheckState → Nat
  | .off => 0 | .waitSync => 1 | .check => 2 | .done => 3 | .stopped => 4

/-- Playback and the checkers (Tables 9-6, 9-7). -/
def viewPgen (s : State) (r : Nat) : Option Word :=
  if r = 0x4 then some (w32 (s.pgen.entry % 4096 * 64 + pgenCode s.pgen.st))
  else if r = 0x8 then some (w32 s.pgen.pass)
  else if 0x1000 ≤ r ∧ r % 0x40 = 0x4 then some (w32 (checkCode (checkerOf s ((r - 0x1000) / 0x40)).st)) else none

/-- A Myras group and its lanes (Tables 12-9, 13-9, 13-10). -/
def viewLink (s : State) (g r : Nat) : Option Word :=
  let l := linkOf s g
  if r = 0x8 then
    let st := trainCode l.st
    some (w32 ((rd s (Reg.MRX_TRAIN_STATE g)).toNat / 65536 * 65536 + tabGet 0 l.attempts st % 4 * 256 + bitIf l.asleep 4 + st))
  else if r = 0xC then
    some (w32 (bitIf (l.caps.getLsbD 1) 16 + bitIf (l.excl.getLsbD 16) 15 + (match l.mapped with | some j => 32 + j.val | none => 0)))
  else if r = 0x10 then some (w32 l.excl.toNat)
  else if r = 0x11C then
    let loop := ((List.range 17).map (fun i => (laneOf s g i).loop)).foldl max 0
    some (withField (withField (rd s (Reg.MRX_LINK_CFG g)) 2 1 loop) 0 0 (if l.precode then 1 else 0))
  else if 0x1000 ≤ r then
    let x := laneOf s g ((r - 0x1000) / 0x40)
    if r % 0x40 = 0x24 then
      some (w32 (x.slip * 256 + x.attempts % 4 * 64 + laneCode x.st * 8 + bitIf x.lock 1 + bitIf x.level 0))
    else if r % 0x40 = 0x28 then some (w32 (min x.good 0xFFFFFFFF)) else none
  else none

/-- The byte of QUAD_PATROL of engine block `k` (Table 19-10). -/
def patrolByte (s : State) (k : Nat) : Nat :=
  let x := patrolOf s k
  let spare := if spareServes s k then 1 else if x.failed then 2 else if patrolSuspended s k then 3 else 0
  x.slot.getD 0x1F + bitIf x.confirming 5 + 64 * spare

/-- The guard and the patrol of a quad (Tables 3-11, 19-10). -/
def viewQuad (s : State) (q r : Nat) : Option Word :=
  if r = 0x30004 then
    some (w32 (((List.range 4).map (fun b => patrolByte s (4 * q + b) * 256 ^ b)).foldl (· + ·) 0))
  else viewGuard s q (r - 0x10000)

/-- The value of the register at BAR0 offset `o` that a read by master `m` shows, without the latches of R370. -/
def viewWord (m : Master) (s : State) (o : Nat) : Word :=
  let b := o / 0x100000
  let r := o % 0x100000
  let v : Option Word :=
    if b = 0 then viewChip m s r
    else if b = 1 then viewShep s r
    else if b = 2 then viewSec s r
    else if b = 4 then viewTbase s r
    else if b = 5 then viewTin s r
    else if b = 6 then viewDac s r
    else if b = 7 then viewEq m s r
    else if b = 8 then viewTrig s r
    else if b = 9 then viewFlock s r
    else if b = 10 then viewHbm s r
    else if b = 14 then viewPgen s r
    else if 0x10 ≤ b ∧ b < 0x16 then viewLink s (b - 0x10) r
    else if 0x20 ≤ b ∧ b < 0x30 then viewQuad s ((b - 0x20) / 4) r else none
  v.getD (rd s o)

end Sys2Proof.Machine
end

