-- ==== Sys2Proof/Machine/Regs.lean ====
section
/-!
DEFINITION. Register accesses (chapter 16): reads with their latches, writes by access code, OWNER, STATE and width, sequence clears,
the key guard, and the registers whose writes act.
-/

namespace Sys2Proof.Machine

/-- The bit that tells a Shepherd access in an address capture (Table 16-7). -/
def shepBit (m : Master) : Nat := match m with | .host => 0 | .shepherd => 2 ^ 30

/-! Reads (R369, R370, R398, R403) -/

/-- A pop of queue `q` by master `m`: the tag, with the words latched for that master (R403). -/
def popQueue (m : Master) (s : State) (q : Nat) : State × Word :=
  let e := eqOf s q
  let p := eqPopSt e
  let s1 := eqUpdate s q e p.1
  (setMaster s1 m { masterOf s1 m with eqLine := tabPut [] (masterOf s1 m).eqLine q p.2.2 }, p.2.1)

/-- The registers that a read of the one at `o` latches (R370). -/
def latchedBy (o : Nat) : List Nat := (List.range ((findReg o).map RegD.latch |>.getD 0)).map (fun k => o + 4 * (k + 1))

/-- A read of the register at `o` (R370): a latched value once the master has read its LO. -/
def readWord (m : Master) (s : State) (o : Nat) : State × Word :=
  if o / 0x100000 = 7 ∧ o % 0x40 = 0x20 then popQueue m s ((o - 0x701000) / 0x40)
  else
    let x := masterOf s m
    let l := latchedBy o
    let s1 := if l.isEmpty then s else setMaster s m { x with latch := l.foldl (fun t k => assocSet t k (viewWord m s k)) x.latch }
    (s1, (assoc x.latch o).getD (viewWord m s o))

/-- What is wrong with an access, with its KIND (Table 16-7). -/
inductive AccessErr where
  | narrow
  | unmapped
  | straddle
deriving DecidableEq, Repr

/-- The width rules (Table 16-2): an unmapped byte comes first. -/
def widthErr (off size : Nat) : Option AccessErr :=
  if ((List.range ((off + size - 1) / 4 + 1 - off / 4)).any (fun k => (findReg (4 * (off / 4 + k))).isNone)) then some .unmapped
  else if 8 < size ∨ (if size = 8 then off % 8 ≠ 0 else off / 4 ≠ (off + size - 1) / 4) then some .straddle else none

/-- ACCESS_ERR, UR_ACCESS or CA_ACCESS is set; CHIP_ERR_ADDR captures the first (R369). -/
def accessErr (m : Master) (s : State) (e : AccessErr) (write : Bool) (off : Nat) : State :=
  let k := match e with | .narrow => 0 | .unmapped => 1 | .straddle => 2
  let s1 := if flagsR s.regs Reg.CHIP_STATUS &&& 7 = 0 then
    wr s Reg.CHIP_ERR_ADDR (w32 (shepBit m + bitIf write 29 + (k + 1) * 2 ^ 26 + off % 2 ^ 26)) else s
  raiseBit s1 Reg.CHIP_STATUS k

/-- The completion of a read that Table 16-2 refuses; the endpoint notes what it sent to the host. -/
def readRefused (m : Master) (s : State) (e : AccessErr) (off : Nat) : State :=
  let s1 := accessErr m s e false off
  let s2 := match m with
    | .host => raiseBit s1 Reg.PCIE_STATUS (if e = AccessErr.straddle then 6 else 5)
    | .shepherd => s1
  s2.setReply (if e = AccessErr.straddle then .abort else .unsupported)

/-- A read of `size` bytes at BAR0 offset `off` (Table 16-2); in D3hot the host gets UR (R337). -/
def readAccess (m : Master) (s : State) (off size : Nat) : State :=
  if m = .host ∧ s.pcie.d3hot then (urSent s).setReply .unsupported
  else
    match widthErr off size with
    | some e => readRefused m s e off
    | none =>
      let o := off / 4 * 4
      let p := readWord m s o
      if size = 8 then
        let q := readWord m p.1 (o + 4)
        q.1.setReply (.data (leBytes 4 p.2.toNat ++ leBytes 4 q.2.toNat))
      else p.1.setReply (.data ((leBytes 4 p.2.toNat).drop (off - o) |>.take size))

/-! Who may write (R371, R373, R377, R378) -/

/-- The CTRL register whose STATE governs the CFG fields of the register at `o` (R377). -/
def ctrlOf (o : Nat) : Option Nat :=
  let b := o / 0x100000
  let r := o % 0x100000
  if b = 1 ∧ 0x11000 ≤ r then some (Reg.CMDQ_CTRL ((r - 0x11000) / 0x40))
  else if b = 5 ∧ 0x1000 ≤ r then some (Reg.TIN_CTRL ((r - 0x1000) / 0x40))
  else if b = 6 ∧ 0x1000 ≤ r then some (Reg.DAC_CTRL ((r - 0x1000) / 0x40))
  else if 0x10 ≤ b ∧ b < 0x16 then some (Reg.MRX_TRAIN_CTRL (b - 0x10))
  else if 0x20 ≤ b ∧ b < 0x30 then some (Reg.INGEST_CTRL ((b - 0x20) / 4)) else none

/-- Whether CFG fields of the register at `o` may be written. -/
def cfgOpen (s : State) (o : Nat) : Bool := match ctrlOf o with | some c => blkState s c == stOff | none => true

/-- CHIP_STATUS.WIGN and CHIP_WIGN_ADDR. -/
def chipWign (m : Master) (s : State) (o : Nat) : State :=
  raiseBit (capture s Reg.CHIP_STATUS 7 Reg.CHIP_WIGN_ADDR (w32 (shepBit m + o))) Reg.CHIP_STATUS 7

/-- An ignored write of the register at `o` is flagged in its block, or in the chip (R377, R378). -/
def wign (m : Master) (s : State) (o : Nat) : State :=
  let b := o / 0x100000
  let r := o % 0x100000
  if b = 1 ∧ 0x11000 ≤ r then raiseBit s (Reg.CMDQ_STATUS ((r - 0x11000) / 0x40)) 4
  else if b = 5 ∧ 0x1000 ≤ r then
    let n := (r - 0x1000) / 0x40
    raiseBit (capture s (Reg.TIN_STATUS n) 2 (Reg.TIN_WIGN_ADDR n) (w32 o)) (Reg.TIN_STATUS n) 2
  else if b = 6 ∧ 0x1000 ≤ r then
    let s1 := if dacChans.any (fun ch => flagSet s (Reg.DAC_STATUS ch) 1) then s else wr s Reg.DAC_WIGN_ADDR (w32 o)
    raiseBit s1 (Reg.DAC_STATUS ((r - 0x1000) / 0x40)) 1
  else if 0x20 ≤ b ∧ b < 0x30 ∧ 0x20000 ≤ r ∧ r < 0x30000 then
    let q := (b - 0x20) / 4
    raiseBit (capture s (Reg.INGEST_STATUS q) 5 (Reg.INGEST_WIGN_ADDR q) (w32 o)) (Reg.INGEST_STATUS q) 5
  else chipWign m s o

/-- Registers that either master may write whatever OWNER says (R378). -/
def ownerExempt (o : Nat) : Bool :=
  let r := o % 0x400000
  o == Reg.CHIP_OWNER || o == Reg.CHIP_IRQ_EN || (decide (0x200 ≤ o) && decide (o < 0x1000) && o % 8 == 4) ||
    (decide (0x400100 ≤ o) && decide (o < 0x400210)) ||
    (decide (0x2000000 ≤ o) && decide (o < 0x3000000) &&
      (r == 0x2000C || r == 0x20010 || (decide (0x20020 ≤ r) && decide (r < 0x200A0))))

/-- Whether OWNER lets master `m` write the register at `o` (R378). -/
def ownerLets (m : Master) (s : State) (o : Nat) : Bool :=
  let host := if 0x110000 ≤ o ∧ o < 0x120000 then (rd s Reg.CHIP_OWNER).getLsbD 2 else hostOwns s (blockBase o / 0x100000)
  ownerExempt o || (match m with | .host => host | .shepherd => !host)

/-! Fields (R368) -/

/-- Whether a field's encoding is one that the table does not reserve; SPAN of TTH channels takes 0 and 2 (Table 11-5). -/
def fieldLegal (o : Nat) (f : FieldD) (x : Nat) : Bool :=
  if Reg.DAC_CTRL 16 ≤ o ∧ o < Reg.DAC_CTRL 32 ∧ f.lo = 8 then x % 2 == 0
  else match f.legal with
    | some p => decide (p.1 ≤ x) && decide (x ≤ p.2)
    | none => true

/-- A field takes a value: a reserved encoding leaves a free value there (notes/assumptions/10.md). -/
def putField (o : Nat) (f : FieldD) (x : Nat) (p : State × Word) : State × Word :=
  if fieldLegal o f x then (p.1, withField p.2 f.hi f.lo x)
  else (useFree p.1, withField p.2 f.hi f.lo (freeVal 32 p.1).toNat)

/-- One field of a write of `v` (Table 16-1); CFG fields while `off`, KEY fields as the lock was open. -/
def writeField (o : Nat) (off : Bool) (v : Word) (p : State × Word) (f : FieldD) : State × Word :=
  match f.acc with
  | .ro => p
  | .cfg => if off then putField o f (fieldOf v f.hi f.lo) p else p
  | .rw | .wo | .key => putField o f (fieldOf v f.hi f.lo) p

/-- Whether a write would change a CFG field (R377). -/
def changesCfg (w v : Word) (fs : List FieldD) : Bool :=
  fs.any (fun f => f.acc == .cfg && fieldOf v f.hi f.lo != fieldOf w f.hi f.lo)

/-- A write of CMDQ_CTRL with a reserved ring size carries the sizes in force instead (R323). -/
def ringSizes (w v : Word) : Word × Bool :=
  let ok (x : Nat) : Bool := decide (6 ≤ x) && decide (x ≤ 12)
  if ok (fieldOf v 15 12) && ok (fieldOf v 11 8) then (v, true) else (withField v 15 8 (fieldOf w 15 8), false)

/-! What a written register does -/

/-- A write to EN of the block whose CTRL register is at `o` (Table 16-3), by block. -/
def enWrite (s : State) (o : Nat) (b : Bool) : State :=
  let k := o / 0x100000
  let n := o % 0x100000 % 0x1000 / 0x40
  if k = 1 then pairEn s n b
  else if k = 5 then tinEn s n b
  else if k = 6 then writeEn (if b then s else ddsCatch s n) o b
  else if k = 7 then (if b then writeEn s o b else eqClear (writeEn s o b) n)
  else if 0x10 ≤ k ∧ k < 0x16 then
    if b then writeEn s o b else if blkEn s o then linkOff (writeEn s o b) (k - 0x10) else s
  else writeEn s o b

/-- Whether the register at `o` is a CTRL register with EN: that of a block with CFG fields, or an EQ_CTRL. -/
def isCtrl (o : Nat) : Bool := ctrlOf o == some o || (o / 0x100000 == 7 && decide (0x701000 ≤ o) && o % 0x40 == 0)

/-- The queue is flushed (R400): FLUSHED where an item was discarded. -/
def flushQueue (s : State) (q : Nat) : State :=
  let e := eqOf s q
  let e1 := eqFlushSt e
  let s1 := setEqSt s q e1
  if eqSwap e = e1 then s1 else raiseBit s1 (Reg.EQ_STATUS q) 4

/-- A CTRL register takes `w`: its other fields, then EN; FLUSH clears itself. -/
def ctrlWrite (s : State) (o : Nat) (w : Word) : State :=
  let old := rd s o
  let en := w.getLsbD 0
  let w1 := withField w 0 0 (fieldOf old 0 0)
  if o / 0x100000 = 7 then
    let q := o % 0x1000 / 0x40
    let s1 := wr s o (withField w1 8 8 0)
    enWrite (if w.getLsbD 8 then flushQueue s1 q else s1) o en
  else enWrite (wr s o w1) o en

/-- CHIP_OWNER changes (R378). -/
def ownerChange (s : State) (w : Word) : State :=
  if rd s Reg.CHIP_OWNER = w then s else raiseErr (wr s Reg.CHIP_OWNER w) Reg.CHIP_STATUS 8 0 0x0480 0

/-- CHIP_PWR_CTRL changes: AON runs from REFCLK ÷ 4 where AON_SRC selects it and REFCLK runs (R413). -/
def pwrCtrlWrite (s : State) (w : Word) : State :=
  let s1 := wr s Reg.CHIP_PWR_CTRL w
  wrF s1 Reg.CHIP_CLK_STATUS 8 8 (if w.getLsbD 1 && !refclkGone s then 0 else 1)

/-- SHEP_CTRL changes: patrol is suspended where PATROL_EN is cleared (R426). -/
def shepCtrlWrite (s : State) (w : Word) : State :=
  let s1 := wr s Reg.SHEP_CTRL w
  if (rd s Reg.SHEP_CTRL).getLsbD 0 && !w.getLsbD 0 && decide (s.deck.stage < 2) then suspendPatrol s1 else s1

/-- A tuning word, or a free value for one that is reserved (R267). -/
def ftwWrite (ch : Nat) (hi : Bool) (v : Word) (s : State) : State :=
  let s1 := ddsFtwWrite ch hi v s
  if hi ∧ 0x666666666666 < (dacOf s1 ch).ftw.toNat then
    useFree (setDacSt s1 ch { dacOf s1 ch with ftw := freeVal 48 s1 })
  else s1

/-- The new value `w` of the register at `o` is stored, with what the write does; `low` are the rails below their fail thresholds (R420). -/
def storeReg (s : State) (o : Nat) (w : Word) (low : BitVec 12) : State :=
  let b := o / 0x100000
  let r := o % 0x100000
  if isCtrl o then ctrlWrite s o w
  else if o = Reg.CHIP_OWNER then ownerChange s w
  else if o = Reg.CHIP_RESET then (if w.getLsbD 0 then coreReset s low else s)
  else if o = Reg.CHIP_PWR_CTRL then pwrCtrlWrite s w
  else if o = Reg.SHEP_CTRL then shepCtrlWrite s w
  else if b = 0 ∧ 0x104 ≤ r ∧ r < 0x400 then withRegs s (wrR s.regs o w)
  else if b = 0 ∧ 0x400 ≤ r ∧ r < 0x1000 then withRegs s (climb s.regs (wrR s.regs o w) [(r - 0x404) / 8])
  else if b = 6 ∧ 0x1000 ≤ r ∧ r % 0x40 = 0x8 then dacStage s ((r - 0x1000) / 0x40) (BitVec.ofNat 16 w.toNat)
  else if b = 6 ∧ 0x1800 ≤ r ∧ r % 0x40 = 0x10 then ftwWrite ((r - 0x1000) / 0x40) false w s
  else if b = 6 ∧ 0x1800 ≤ r ∧ r % 0x40 = 0x14 then ftwWrite ((r - 0x1000) / 0x40) true w s
  else if 0x10 ≤ b ∧ b < 0x16 ∧ 0x1000 ≤ r ∧ r % 0x40 = 0x4 then
    testChanged (wr s o w) (b - 0x10) ((r - 0x1000) / 0x40) ((rd s o).getLsbD 5)
  else wr s o w

/-- A write of CHIP_UNLOCK (R371, R372). -/
def unlockWrite (m : Master) (s : State) (v : Word) : State :=
  let x := masterOf s m
  if x.lockout then s
  else if v = 0x4E4C5A21 then setMaster s m { x with unlocked := true, strikes := 0 }
  else
    let n := x.strikes + 1
    let s1 := setMaster s m { x with unlocked := false, strikes := n, lockout := decide (8 ≤ n) }
    raise (incCnt s1 Reg.CHIP_KEY_FAIL 1) Reg.CHIP_STATUS (if 8 ≤ n then 0x30 else 0x10)

/-- A sequence clear of the register at `o`, whose flags are `flags` (R374, R382). -/
def sqcWrite (m : Master) (s : State) (o flags : Nat) (v : Word) : State :=
  let mask := v &&& w32 flags
  if fieldOf v 31 24 ≠ fieldOf (tabGet 0 s.regs o) 31 24 then
    raiseBit (capture s Reg.CHIP_STATUS 3 Reg.CHIP_STALE_ADDR (w32 (shepBit m + o))) Reg.CHIP_STATUS 3
  else if 0x200 ≤ o ∧ o < 0x1000 then withRegs s (treeClearR s.regs o mask)
  else
    let s1 := withRegs s (sqClearR s.regs o mask)
    if o / 0x100000 = 1 ∧ o % 0x100000 ≠ 0 ∧ v.getLsbD 0 then
      let n := (o - 0x111000) / 0x40
      setCq s1 n { cqOf s1 n with pending := 0 }
    else if o = Reg.MEM_STATUS ∧ v.getLsbD 9 then s1.modMem (fun x => { x with lap := [] })
    else s1

/-- A write to fields of a register (R368, R371, R373, R377, R378). -/
def fieldWrite (m : Master) (s : State) (o : Nat) (fs : List FieldD) (v0 : Word) (low : BitVec 12) : State :=
  let old := rd s o
  let key := fs.any (fun f => f.acc == .key)
  let unlocked := (masterOf s m).unlocked
  let s0 := if key && unlocked then setMaster s m { masterOf s m with unlocked := false } else s
  if !fs.any (fun f => f.acc != .ro) then s
  else if key && !unlocked then chipWign m s o
  else if !ownerLets m s o then wign m s0 o
  else
    let ring := o / 0x100000 = 1 ∧ 0x111000 ≤ o ∧ o % 0x40 = 0
    let p : Word × Bool := if ring then ringSizes old v0 else (v0, true)
    let off := cfgOpen s o
    let s1 := if !p.2 || (!off && changesCfg old p.1 fs) then wign m s0 o else s0
    let q := fs.foldl (writeField o off p.1) (s1, old)
    storeReg q.1 o q.2 low

/-- A write of all four bytes of the register at `o`. -/
def applyWord (m : Master) (s : State) (o : Nat) (v : Word) (low : BitVec 12) : State :=
  match findReg o with
  | none => s
  | some r =>
    if o = Reg.CHIP_UNLOCK then unlockWrite m s v
    else match r.flags with
      | some f => sqcWrite m s o f v
      | none => fieldWrite m s o r.fields v low

/-! Latching groups (R370) -/

/-- Whether a read of the register at `o` latches another: it is the LO of a group. -/
def isLo (o : Nat) : Bool := !(latchedBy o).isEmpty

/-- Whether the register at `o` is the HI of a group. -/
def isHi (o : Nat) : Bool := decide (4 ≤ o) && isLo (o - 4)

def unstage (m : Master) (s : State) (o : Nat) : State := setMaster s m { masterOf s m with staged := assocDel (masterOf s m).staged o }

/-- A 4-byte write: of LO it is staged, of HI it applies both. -/
def write4 (m : Master) (s : State) (o : Nat) (v : Word) (low : BitVec 12) : State :=
  if isLo o then setMaster s m { masterOf s m with staged := assocSet (masterOf s m).staged o v }
  else if isHi o then
    match assoc (masterOf s m).staged (o - 4) with
    | some l => applyWord m (applyWord m (unstage m s (o - 4)) (o - 4) l low) o v low
    | none => applyWord m s o v low
  else applyWord m s o v low

/-- A write of `size` bytes (Table 16-2); in D3hot the host's are not taken (R337). -/
def writeAccess (m : Master) (s : State) (off size be : Nat) (v : Nat) (low : BitVec 12) : State :=
  if m = .host ∧ s.pcie.d3hot then s
  else
    match widthErr off size with
    | some e => accessErr m s e true off
    | none =>
      if size < 4 ∨ be % 2 ^ size ≠ 2 ^ size - 1 then accessErr m s .narrow true off
      else if size = 8 then
        if isLo off then applyWord m (applyWord m (unstage m s off) off (w32 v) low) (off + 4) (w32 (v / 2 ^ 32)) low
        else write4 m (write4 m s off (w32 v) low) (off + 4) (w32 (v / 2 ^ 32)) low
      else write4 m s off (w32 v) low

/-- A write of four bytes with every byte enable. -/
def writeFull (m : Master) (s : State) (off : Nat) (v : Word) : State := writeAccess m s off 4 15 v.toNat 0

/-! The commands -/

/-- REGISTER_WRITE (R367-R369). -/
def execRegisterWrite (m : Master) (off : BitVec 26) (size : Nat) (be : Byte) (value : BitVec 64) (s : State) :
    Host.Outcome State Fault Refusal :=
  .next (writeAccess m s off.toNat size be.toNat value.toNat 0)

/-- LATCH_READ: a read of four bytes (R370). -/
def execLatchRead (m : Master) (off : BitVec 26) (s : State) : Host.Outcome State Fault Refusal :=
  .next (readAccess m s off.toNat 4)

/-- LATCH_LO_WRITE (R370). -/
def execLatchLoWrite (m : Master) (off : BitVec 26) (value : Word) (s : State) : Host.Outcome State Fault Refusal :=
  .next (writeFull m s off.toNat value)

/-- LATCH_HI_WRITE (R370). -/
def execLatchHiWrite (m : Master) (off : BitVec 26) (value : Word) (s : State) : Host.Outcome State Fault Refusal :=
  .next (writeFull m s off.toNat value)

/-- SQC_CLEAR (R374). -/
def execSqcClear (m : Master) (off : BitVec 26) (value : Word) (s : State) : Host.Outcome State Fault Refusal :=
  .next (writeFull m s off.toNat value)

/-- EN_WRITE (R375). -/
def execEnWrite (m : Master) (off : BitVec 26) (value : Word) (s : State) : Host.Outcome State Fault Refusal :=
  .next (writeFull m s off.toNat value)

/-- CHIP_UNLOCK_WRITE (R371, R372). -/
def execChipUnlockWrite (m : Master) (value : Word) (s : State) : Host.Outcome State Fault Refusal :=
  .next (writeFull m s Reg.CHIP_UNLOCK value)

/-- KEY_TIMEOUT: the lock closes after 65,536 AON cycles (R371). -/
def execKeyTimeout (m : Master) (s : State) : Host.Outcome State Fault Refusal :=
  .next (if (masterOf s m).unlocked then raiseBit (setMaster s m { masterOf s m with unlocked := false }) Reg.CHIP_STATUS 6 else s)

/-- KEY_LOCKOUT_END: the lockout ends after 1 s (R372). -/
def execKeyLockoutEnd (m : Master) (s : State) : Host.Outcome State Fault Refusal :=
  .next (if (masterOf s m).lockout then setMaster s m { masterOf s m with lockout := false, strikes := 0 } else s)

/-- OWNER_WRITE (R378). -/
def execOwnerWrite (m : Master) (value : Word) (s : State) : Host.Outcome State Fault Refusal :=
  .next (writeFull m s Reg.CHIP_OWNER value)

/-- CORE_RESET: a write of CHIP_RESET (R420). -/
def execCoreReset (m : Master) (value : Word) (low : BitVec 12) (s : State) : Host.Outcome State Fault Refusal :=
  .next (writeAccess m s Reg.CHIP_RESET 4 15 value.toNat low)

/-- The `bad` oldest lines of a queue are found with an uncorrectable error by a pop, and discarded: ECC_UE, class D (R398). -/
def spoilLines (s : State) (q bad : Nat) : State :=
  if bad = 0 ∨ eqDepth (eqOf s q) = 0 then s
  else raiseErr (setEqSt s q (eqSpoil (eqOf s q) bad)) (Reg.EQ_STATUS q) 3 2 0x0480 q

/-- EQ_POP: a read of EQ_POP (R398, R403). -/
def execEqPop (m : Master) (q : Fin 32) (s : State) (bad : Fin 129 := 0) : Host.Outcome State Fault Refusal :=
  .next (readAccess m (if m = .host ∧ s.pcie.d3hot then s else spoilLines s q bad) (Reg.EQ_POP q) 4)

/-- EQ_FLUSH: a write of 1 to FLUSH, the other fields as they are (R400). -/
def execEqFlush (m : Master) (q : Fin 32) (s : State) : Host.Outcome State Fault Refusal :=
  .next (writeFull m s (Reg.EQ_CTRL q) (rd s (Reg.EQ_CTRL q) ||| 0x100))

/-- DAC_CODE_WRITE (R261, R265). -/
def execDacCodeWrite (m : Master) (ch : Fin 34) (value : Word) (s : State) : Host.Outcome State Fault Refusal :=
  .next (writeFull m s (Reg.DAC_CODE ch) value)

/-- DAC_FREEZE_WRITE (R261). -/
def execDacFreezeWrite (m : Master) (value : Word) (s : State) : Host.Outcome State Fault Refusal :=
  .next (writeFull m s Reg.DAC_GLOBAL value)

/-- DDS_FTW_WRITE (R268). -/
def execDdsFtwWrite (m : Master) (ch : Fin 2) (hi : Bool) (value : Word) (s : State) : Host.Outcome State Fault Refusal :=
  .next (writeFull m s (if hi then Reg.DDS_FTW_HI (32 + ch) else Reg.DDS_FTW_LO (32 + ch)) value)

/-- LANE_OFS_WRITE (R44): the offset takes effect at the lane's next marker. -/
def execLaneOfsWrite (m : Master) (lane : Fin 68) (value : Word) (s : State) : Host.Outcome State Fault Refusal :=
  .next (writeFull m s (Reg.TBASE_LANE_OFS lane) value)

/-- LANE_TEST_WRITE (R288, R290). -/
def execLaneTestWrite (m : Master) (g : LinkGroup) (lane : Fin 17) (value : Word) (s : State) : Host.Outcome State Fault Refusal :=
  .next (writeFull m s (Reg.MRX_LANE_TEST (grpNo g) lane) value)

/-- REGISTER_READ_ERROR: a read by the width rules (R369). -/
def execRegisterReadError (m : Master) (off : BitVec 26) (size : Nat) (s : State) : Host.Outcome State Fault Refusal :=
  .next (readAccess m s off.toNat size)

end Sys2Proof.Machine
end

