-- ==== Sys2Proof/Machine/Rx.lean ====
section
/-!
DEFINITION. Received blocks (R273-R284, R298, R303), and ingest as they reach it (R82-R84, R90, R91, R96, R98, R99). A row holds one block
slot of one lane; what was received as another type than the row's leaves the state as it is.
-/

namespace Sys2Proof.Machine

/-! Symbols, header and payload -/

/-- The lower bit of every symbol. -/
def loBits : BitVec 272 := BitVec.ofNat 272 ((2 ^ 272 - 1) / 3)

/-- The precoder's decoder (R274): each symbol plus the one before it, modulo 4; `last` is the last symbol of the block before. -/
def unPrecode (last : BitVec 2) (y : BitVec 272) : BitVec 272 :=
  let p := (y <<< 2) ||| last.zeroExtend 272
  (y ^^^ p) ^^^ ((y &&& p &&& loBits) <<< 1)

/-- Levels to bits (R273): 0, 1, 2, 3 are the pairs 00, 01, 11, 10. -/
def unGray (x : BitVec 272) : BitVec 272 := x ^^^ ((x >>> 1) &&& loBits)

/-- One bit of the CRC of R276. -/
def crc12Bit (r : BitVec 12) (b : Bool) : BitVec 12 :=
  let n := r <<< 1
  if b != r.getLsbD 11 then n ^^^ 0x80F else n

/-- The CRC over TYPE and the payload as transmitted (R276). -/
def crc12 (type : BitVec 2) (payload : BitVec 256) : BitVec 12 :=
  (List.range 256).foldl (fun r i => crc12Bit r (payload.getLsbD i)) (crc12Bit (crc12Bit 0xFFF (type.getLsbD 0)) (type.getLsbD 1))

/-- One step of the scrambler (R277): the register, and its output. -/
def scrStep (r : BitVec 31) : BitVec 31 × Bool :=
  let b := r.getLsbD 30 != r.getLsbD 27
  ((r <<< 1) ||| (if b then 1 else 0), b)

/-- The scrambler's 256 bits for a block slot, and its register after it. -/
def scrBlock (r : BitVec 31) : BitVec 256 × BitVec 31 :=
  let p := (List.range 256).foldl (fun (a : Nat × BitVec 31) i =>
    let q := scrStep a.2
    (if q.2 then a.1 + 2 ^ i else a.1, q.1)) (0, r)
  (BitVec.ofNat 256 p.1, p.2)

/-- The register's load after a marker slot. -/
def scrLoad (i : Nat) : BitVec 31 := BitVec.ofNat 31 (0x7FFFFFFF - i)

/-- The bits of the block. -/
def rxBits (l : GroupLink) (x : LaneSt) (levels : BitVec 272) : BitVec 272 :=
  unGray (if l.precode then unPrecode x.lastY levels else levels)

/-! Ingest -/

/-- Whether a marker's MODE is as expected. -/
def modeOk (s : State) (mode : Nat) : Bool :=
  match actDeck s with
  | some d => dkK d == 2 ^ mode && mode != 3
  | none => mode != 3

/-- A block's bits as ingest passes them on (R82, R91): bit reversal of the physical lane, then inversion of the channels. -/
def laneBits (s : State) (k g i p : Nat) (payload : BitVec 256) : BitVec 256 :=
  let rev := (rd s (Reg.INGEST_LANE_CFG g i)).getLsbD 0
  let b1 := if rev then BitVec.ofNat 256 (bitMask ((List.range 256).filter (fun n => payload.getLsbD (n / 16 * 16 + (15 - n % 16))))) else payload
  let inv := (List.range 16).filter (fun b =>
    let j := posChan k p + b - 256 / k * (p / 16)
    (rd s (Reg.INGEST_INV (p / 16) (j / 32))).getLsbD (j % 32))
  b1 ^^^ BitVec.ofNat 256 (bitMask inv * ((2 ^ 256 - 1) / 65535))

/-- E is fixed by the first block that the reference group takes (R43, R90): B is the time of that block's row, at which it is also taken to arrive
at the aligner (notes/assumptions/40.md). The front-end latency is read at this moment only (Table 4-7), and T_PATH is fixed with E: from the
grid time to the release LATE fclk after the arrival (R89, R151). -/
def fixEpoch (s : State) (g k : Nat) (i : Sample) : State :=
  if s.tb.epoch.isNone ∧ s.ingest.ref = some g then
    let fe := (rd s (Reg.INGEST_FE_LAT g)).toNat
    let sub := i * (10240 / k) + fe
    let s1 := s.modTb (fun t => { t with epoch := some ((s.tb.now + (timeMod - sub % timeMod)) % timeMod) })
    let s2 := wr s1 Reg.TRIG_PATH_LAT (BitVec.ofNat 32 (fe + rdF s (Reg.INGEST_XWIN 0) 9 0 * fclkT))
    raiseBit (s2.modIngest (fun x => { x with feLat := fe })) (Reg.INGEST_STATUS g) 0
  else s

/-- Ingest supplies a void block for position `p` (R84, R96, R103). -/
def supplyVoid (s : State) (p : Nat) : State :=
  if blkState s (Reg.INGEST_CTRL (p / 16)) = stOn ∧ s.tb.epoch.isSome then
    let s1 := incCnt s (Reg.INGEST_VOID_CNT (p / 16) (p % 16)) 1
    if flagSet s1 (Reg.INGEST_STATUS (p / 16)) 1 then s1 else raiseBit s1 (Reg.INGEST_STATUS (p / 16)) 1
  else s

/-- Whether position `p` is known to be void in the block that holds sample `i`: it is void now, or it has passed that block without one. -/
def voidAt (s : State) (p : Nat) (i : Sample) : Bool :=
  posVoid s p || (match posNext s p with | some n => decide (i < n) && (blockOf s p i).void | none => true)

/-- A state word of group `g` in the block from sample `i` is formed while another position is void (R95). -/
def noteVoidWord (s : State) (g : Nat) (i : Sample) : State :=
  let q := rdF s (Reg.INGEST_STATE_CFG g) 7 4
  if rdF s (Reg.INGEST_STATE_CFG g) 10 10 = 1 ∧ (List.range 16).any (fun j => j != q && voidAt s (16 * g + j) i) ∧
      (List.range 16).any (fun n => isWord s g (i + n)) then
    raiseBit s (Reg.INGEST_STATUS g) 4
  else s

/-- Position `p` takes a block slot: its bits, or void (R83, R84). One of a quarantined quad takes nothing (R73). -/
def takeData (s : State) (g i p : Nat) (payload : Option (BitVec 256)) : State :=
  match posNext s p with
  | none => s
  | some idx =>
    if quadVoid s g then s else
    let k := linkK s g
    let s1 := setPosNext (fixEpoch s g k idx) p (some (idx + 16 * k))
    match payload with
    | none => noteVoidWord (supplyVoid s1 p) g idx
    | some b =>
      if blkState s1 (Reg.INGEST_CTRL g) = stOn then
        let bits := laneBits s1 k g i p b
        noteVoidWord (s1.modIngest (fun x => { x with blocks := tabPut {} x.blocks (p + 64 * (idx / 16)) { void := false, bits := bits } })) g idx
      else s1

/-- The index that position `j` of the group expects of a marker (R98, R303): that of a position that is not void, or its own. -/
def expIndex (s : State) (g j : Nat) : Option Sample :=
  let k := linkK s g
  match (List.range 16).find? (fun q => q != j && !posVoid s (16 * g + q) && (posNext s (16 * g + q)).isSome) with
  | some q => (posNext s (16 * g + q)).map (fun n => n + 16 * (j % k) - 16 * (q % k))
  | none => posNext s (16 * g + j)

/-- TBASE_LANE_OFS takes effect at the lane's marker (R44). -/
def applyOfs (s : State) (n : Nat) : State :=
  s.modTb (fun t => { t with laneOfs := tabPut 0 t.laneOfs n (BitVec.ofNat 24 (rd s (Reg.TBASE_LANE_OFS n)).toNat) })

/-- The lane's counts restart at a marker slot. -/
def restart (s : State) (g i : Nat) (idx : Option Sample) : State :=
  modLane s g i (fun x => { x with dataCnt := 0, crcFails := 0, markerNo := idx.or x.markerNo })

/-! MARKER -/

/-- SYNC, LANE and GROUP of a marker's payload, and its MODE, as expected (Table 12-3, R282). -/
def markerOk (s : State) (g i : Nat) (w : BitVec 256) : Bool :=
  let f (hi lo : Nat) : Nat := nbits w.toNat hi lo
  let near := (laneOf s g i).loop == 1
  f 15 0 == 0xC3A5 && (near || (f 20 16 == i && f 25 24 == g)) && modeOk s (f 27 26)

def markerIndex (w : BitVec 256) : Sample := nbits w.toNat 127 64

/-- The switching marker arrives on the spare (R99, R304). -/
def switchMarker (s : State) (g : Nat) (idx : Sample) : State :=
  match (linkOf s g).neg with
  | some n =>
    if n.step = 1 then
      let p := 16 * g + n.pos.val
      let e := if posVoid s p then expIndex s g n.pos.val else posNext s p
      if idx = n.index ∧ (e = none ∨ e = some idx) then setPosNext (promoteSpare s g n.pos.val) p (some idx)
      else if n.index ≤ idx then negFail s g
      else s
    else s
  | none => s

/-- A good MARKER in a marker slot of a lane in ACTIVE (R98). The range that the entry of a mismatch gives runs from the last marker's index to
the last sample that ingest has counted (DESIGN CHOICE, notes/assumptions/40.md: "between the two markers" does not say by which index it
ends). -/
def takeMarker (s : State) (g i : Nat) (idx : Sample) : State :=
  let s1 := applyOfs (restart s g i (some idx)) (physOf g i)
  match servedBy (linkOf s g) i with
  | none => switchMarker s1 g idx
  | some j =>
    let p := 16 * g + j
    match (laneOf s g i).markerNo, posNext s p with
    | some m, some e =>
      if idx = e then s1
      else
        let s2 := logAdd (raiseBit s1 (Reg.INGEST_STATUS g) 2) 5 2 (laneSrc g i) (unitCode (Reg.MRX_LANE_STATUS g i) i)
          (leBytes 8 m ++ leBytes 8 (max m e - 1))
        laneLost s2 g i
    | _, _ => setPosVoid (setPosNext s1 p (some idx)) p false

/-- A good MARKER reaches a lane that searches or waits for it (R298, R303). -/
def markerFound (s : State) (g i : Nat) (idx : Sample) : State :=
  let s1 := modLane s g i (fun x => { x with lock := true })
  match (laneOf s g i).st with
  | .relock | .waitMarker =>
    let s2 := laneRejoins (applyOfs (restart s1 g i (some idx)) (physOf g i)) g i
    match servedBy (linkOf s g) i with
    | none => s2
    | some j =>
      if expIndex s g j = none ∨ expIndex s g j = some idx then setPosNext s2 (16 * g + j) (some idx) else laneAttemptFailed s1 g i
  | .down | .active | .relevel | .excluded | .test => s1

/-- A good MARKER in DESKEW: its index and its arrival (R88). -/
def markerSeen (s : State) (g i : Nat) (idx : Sample) : State := modLane s g i (fun x => { x with mark := some (idx, s.tb.now) })

/-! A block slot -/

/-- A lane that searches its block alignment (R298, R302). -/
def rxSearch (s : State) (g i : Nat) (ok marker : Bool) (w : BitVec 256) : State :=
  let x := laneOf s g i
  if ok && marker && (linkOf s g).st == .deskew && markerOk s g i w then markerSeen s g i (markerIndex w)
  else if !ok then
    if x.st = .waitMarker then s
    else modLane s g i (fun x => { x with good := 0, slip := if slipSw s g then x.slip else (x.slip + 1) % 136 })
  else
    let s1 := modLane s g i (fun x => { x with
      good := min (x.good + 1) 0xFFFFFFFF, st := if x.st = .relock ∧ 64 ≤ x.good + 1 then .waitMarker else x.st })
    if marker && decide (64 ≤ x.good) && markerOk s g i w then markerFound s1 g i (markerIndex w) else s1

/-- A block with a failed CRC on a lane in ACTIVE (Table 12-4, R283): class D where it is taken as DATA, else class C (Table 1-7). -/
def rxBad (s : State) (g i ty : Nat) (inSlot : Bool) : State :=
  let x := laneOf s g i
  let served := servedBy (linkOf s g) i
  let at_ := (served.bind (fun j => posNext s (16 * g + j))).getD 0
  let data := !inSlot && x.markerNo.isSome && (ty == 0 || ty == 3)
  let s0 := incCnt s (Reg.MRX_CRC_CNT g i) 1
  let s1 := if data then raiseErr s0 (Reg.MRX_LANE_STATUS g i) 0 2 (laneSrc g i) i else raiseBit s0 (Reg.MRX_LANE_STATUS g i) 0
  let s2 := modLane s1 g i (fun x => { x with sinceFail := 0, failAt := at_, crcFails := x.crcFails + 1 })
  if inSlot then restart s2 g i none
  else
    let s3 := if data then modLane s2 g i (fun x => { x with dataCnt := x.dataCnt + 1 }) else s2
    let s4 := match data, served with
      | true, some j => takeData s3 g i (16 * g + j) none
      | _, _ => s3
    if rdF s (Reg.MRX_LINK_CFG g) 15 8 < x.crcFails + 1 then laneLost (raiseBit s4 (Reg.MRX_LANE_STATUS g i) 1) g i else s4

/-- A good DATA block on a lane in ACTIVE (R282, R284). -/
def rxData (s : State) (g i dseq : Nat) (payload : BitVec 256) : State :=
  let x := laneOf s g i
  match x.markerNo, servedBy (linkOf s g) i with
  | some _, some j =>
    let p := 16 * g + j
    let take (s : State) : State := takeData (modLane s g i (fun x => { x with dataCnt := x.dataCnt + 1 })) g i p (some payload)
    if dseq = x.dataCnt % 4 then take s
    else if x.sinceFail ≤ 7 then
      let s1 := logAdd (raiseBit s (Reg.MRX_LANE_STATUS g i) 2) 5 2 (laneSrc g i) (unitCode (Reg.MRX_LANE_STATUS g i) i)
        (leBytes 8 x.failAt ++ leBytes 8 ((posNext s p).getD 0))
      laneLost s1 g i
    else take (incCnt s (Reg.MRX_FLAG_CNT g i) 1)
  | _, _ => s

/-- A good CTRL block (R278, R309): EIDLE, ATTN, or a reserved code. -/
def rxCtrl (s : State) (g i code : Nat) : State :=
  if code = 1 then (if (linkOf s g).sleeping = 1 then enterEidle s g else s)
  else if code = 2 then s
  else raiseBit s (Reg.MRX_LANE_STATUS g i) 4

/-- A block slot of a lane in ACTIVE (Table 12-4). `w` is the payload, descrambled but for a MARKER. -/
def rxActive (s : State) (g i ty dseq : Nat) (ok inSlot : Bool) (w : BitVec 256) : State :=
  if !ok then rxBad s g i ty inSlot
  else if (ty == 3) != inSlot then laneLost s g i
  else if ty = 3 then
    if markerOk s g i w then takeMarker (modLk s g (fun l => { l with mode := BitVec.ofNat 2 (nbits w.toNat 27 26) })) g i (markerIndex w)
    else laneLost (raiseErr s (Reg.MRX_LANE_STATUS g i) 3 2 (laneSrc g i) i) g i
  else if ty = 0 then rxData s g i dseq w
  else if ty = 1 then rxCtrl s g i (nbits w.toNat 7 0)
  else s

/-- Whether the lane receives blocks: the group's state and its own allow it. -/
def receiving (l : GroupLink) (x : LaneSt) : Bool :=
  (match l.st with
   | .blockLock | .deskew | .spareMap | .active => true
   | .off | .detect | .clockLock | .levelTrain | .parked | .eidle | .dataOff => false) &&
  (match x.st with
   | .down | .active | .relock | .waitMarker => true
   | .test => x.loop == 1
   | .relevel | .excluded => false)

/-- One block slot of RX lane `n`, received as TYPE `ty`. -/
def rxBlock (n ty : Nat) (levels : BitVec 272) (s : State) : State :=
  let g := (rxLane n).1
  let i := (rxLane n).2
  let l := linkOf s g
  let x := laneOf s g i
  let b := rxBits l x levels
  let raw : BitVec 256 := (b >>> 16).setWidth 256
  if !receiving l x || b.toNat % 4 != ty then s
  else
    let ok := crc12 (BitVec.ofNat 2 ty) raw == BitVec.ofNat 12 (nbits b.toNat 15 4)
    let live := l.st == .active && x.st == .active
    let inSlot := if live && x.markerNo.isSome then x.slot == 0 else ok && ty == 3
    let scr := scrBlock x.scr
    let w := if inSlot || ty == 3 then raw else raw ^^^ scr.1
    let s1 := modLane s g i (fun x => { x with
      lastY := BitVec.ofNat 2 (nbits levels.toNat 271 270)
      slot := if inSlot then 1 else (x.slot + 1) % 8192
      scr := if inSlot then scrLoad i else scr.2 })
    let s2 := if x.st = .test then
        (if ok then s1 else raiseBit (incCnt s1 (Reg.MRX_CRC_CNT g i) 1) (Reg.MRX_LANE_STATUS g i) 0)
      else if live then rxActive s1 g i ty (nbits b.toNat 3 2) ok inSlot w
      else rxSearch s1 g i ok (ty == 3) w
    if ok then modLane s2 g i (fun x => { x with sinceFail := min (x.sinceFail + 1) 9 }) else s2

/-- RX_DATA_BLOCK. -/
def execRxDataBlock (n : Fin 68) (levels : BitVec 272) (s : State) : Host.Outcome State Fault Refusal := .next (rxBlock n.val 0 levels s)

/-- RX_MARKER_BLOCK. -/
def execRxMarkerBlock (n : Fin 68) (levels : BitVec 272) (s : State) : Host.Outcome State Fault Refusal := .next (rxBlock n.val 3 levels s)

/-- RX_IDLE_BLOCK. -/
def execRxIdleBlock (n : Fin 68) (levels : BitVec 272) (s : State) : Host.Outcome State Fault Refusal := .next (rxBlock n.val 2 levels s)

/-- RX_CTRL_BLOCK. -/
def execRxCtrlBlock (n : Fin 68) (levels : BitVec 272) (s : State) : Host.Outcome State Fault Refusal := .next (rxBlock n.val 1 levels s)

/-! Pattern checkers and patrol scans -/

/-- Whether a lane's checker runs: its register says so, or it trains on PRBS13Q (R288, R294, R302). -/
def checking (s : State) (g i : Nat) : Bool :=
  (rd s (Reg.MRX_LANE_TEST g i)).getLsbD 5 || (g < 4 && ((linkOf s g).st == .levelTrain || (laneOf s g i).st == .relevel))

/-- PRBS_CHECKER_LOCK (R288). -/
def execPrbsCheckerLock (g : LinkGroup) (lane : Fin 17) (s : State) : Host.Outcome State Fault Refusal :=
  .next (if checking s (grpNo g) lane.val then modLane s (grpNo g) lane.val (fun x => { x with prbsLock := true }) else s)

/-- A 48-bit counter pair advanced, saturating. -/
def inc48 (s : State) (o n : Nat) : State := wr64 s o (min (rd64 s o + n) (2 ^ 48 - 1))

/-- PRBS_LOST: a locked checker has compared 1,024 bits and counted `errs` errors; with more than 128 it loses lock (R288). -/
def execPrbsLost (g : LinkGroup) (lane : Fin 17) (errs : Fin 1025) (s : State) : Host.Outcome State Fault Refusal :=
  let n := grpNo g
  let i := lane.val
  if checking s n i && (laneOf s n i).prbsLock then
    let s1 := inc48 (inc48 s (Reg.MRX_PRBS_ERR_LO n i) errs.val) (Reg.MRX_PRBS_BITS_LO n i) 1024
    if 128 < errs.val then .next (raise (modLane s1 n i (fun x => { x with prbsLock := false })) (Reg.MRX_LANE_STATUS n i) 0x60)
    else .next (if errs.val = 0 then s1 else raiseBit s1 (Reg.MRX_LANE_STATUS n i) 5)
  else .next s

/-- LANE_PATROL_SCAN (R428): a margin below its limit declares a serving lane failing with LANE_AUTO, and is only logged otherwise; no
event code is given for that entry: a free value. A margin within 25% of its limit is a precursor (R434). -/
def execLanePatrolScan (n : Fin 68) (vMargin phMargin : Nat) (s : State) : Host.Outcome State Fault Refusal :=
  let g := (rxLane n.val).1
  let i := (rxLane n.val).2
  let s1 := if 30 ≤ vMargin ∧ 20 ≤ phMargin then s else precursor s (groupUnit g)
  let logged := logAdd (useFree s1) (freeVal 16 s1).toNat 1 (laneSrc g i) (unitCode (Reg.MRX_LANE_STATUS g i) i) []
  if rdF s Reg.SHEP_CTRL 23 16 = 0 ∨ (linkOf s g).st ≠ .active ∨ (laneOf s g i).st ≠ .active then .next s
  else if 24 ≤ vMargin ∧ 16 ≤ phMargin then .next s1
  else
    match servedBy (linkOf s g) i with
    | some j => if (rd s Reg.SHEP_CTRL).getLsbD 2 ∧ i < 16 then .next (wantSpare s1 g j) else .next logged
    | none => .next logged

end Sys2Proof.Machine
end

