-- ==== Sys2Proof/Machine/Settle.lean ====
section
/-!
DEFINITION. BLOCK_STATE_SETTLE: a block with EN ends its STARTING or STOPPING (R375).
-/

namespace Sys2Proof.Machine

/-- A block settles: ON, or OFF, from which a pending restart starts it again. `on` and `off` are what it does on entering those
states, `start` what EN does. -/
def settleWith (s : State) (o : Nat) (on off start : State → State) : State :=
  match settled s o with
  | none => s
  | some v =>
    if v = stOn then on (setBlkState s o stOn)
    else
      let s1 := off (setBlkState s o stOff)
      if v = stStarting ∧ blkState s1 o = stOff then start s1 else s1

/-- The block whose CTRL register is at `o` settles. -/
def settleBlock (s : State) (o : Nat) : State :=
  let k := o / 0x100000
  let n := o % 0x1000 / 0x40
  let en (s : State) : State := writeEn s o true
  if !isCtrl o then s
  else if k = 1 then pairSettle s n
  else if k = 5 then settleWith s o (tinOn · n) (tinOff · n) (tinEn · n true)
  else if k = 6 then settleWith s o (dacOn · n) (dacOff · n) en
  else if 0x10 ≤ k ∧ k < 0x16 then settleWith s o (linkOn · (k - 0x10)) id en
  else settleWith s o id id en

/-- BLOCK_STATE_SETTLE. -/
def execBlockStateSettle (ctrl : BitVec 26) (s : State) : Host.Outcome State Fault Refusal := .next (settleBlock s ctrl.toNat)

end Sys2Proof.Machine
end

