-- ==== Sys2Proof/Machine/Dispatch.lean ====
section
/-!
DEFINITION. The meaning of each command, one arm per row of spec/opcode_table.json.
-/

namespace Sys2Proof.Machine

def exec (i : Instr) (s : State) : Host.Outcome State Fault Refusal :=
  match i with
  | .identify h dest => Sys2Proof.Machine.execIdentify h dest s
  | .getLog h log max fromSeq dest => Sys2Proof.Machine.execGetLog h log max fromSeq dest s
  | .setTime h mode timeout time => Sys2Proof.Machine.execSetTime h mode timeout time s
  | .syncInEdge falling t held => Sys2Proof.Machine.execSyncInEdge falling t held s
  | .atSyncLoad => Sys2Proof.Machine.execAtSyncLoad s
  | .setTimeTimeout => Sys2Proof.Machine.execSetTimeTimeout s
  | .syncOutPulse => Sys2Proof.Machine.execSyncOutPulse s
  | .tbaseStop => Sys2Proof.Machine.execTbaseStop s
  | .tbaseStart => Sys2Proof.Machine.execTbaseStart s
  | .deckLoad h slot len src => Sys2Proof.Machine.execDeckLoad h slot len src s
  | .deckVerify h slot => Sys2Proof.Machine.execDeckVerify h slot s
  | .deckActivate h slot => Sys2Proof.Machine.execDeckActivate h slot s
  | .deckRedeal h slot groups timeout => Sys2Proof.Machine.execDeckRedeal h slot groups timeout s
  | .dealBoundary u => Sys2Proof.Machine.execDealBoundary s u
  | .guardViolation region kind port owner op cycle item => Sys2Proof.Machine.execGuardViolation region kind port owner op cycle item s
  | .thermalSensorCrossing stack temp => Sys2Proof.Machine.execThermalSensorCrossing stack temp s
  | .arm h groups mode sa => Sys2Proof.Machine.execArm h groups mode sa s
  | .disarm h groups sd => Sys2Proof.Machine.execDisarm h groups sd s
  | .forceTrigger h groups sf => Sys2Proof.Machine.execForceTrigger h groups sf s
  | .setPost h group post sc => Sys2Proof.Machine.execSetPost h group post sc s
  | .foldStatus h groups dest at_ => Sys2Proof.Machine.execFoldStatus h groups dest at_ s
  | .prefillComplete g => Sys2Proof.Machine.execPrefillComplete g s
  | .handFire h sx => Sys2Proof.Machine.execHandFire h sx s
  | .triggerAccept g sx => Sys2Proof.Machine.execTriggerAccept g sx s
  | .trigOutPulse sx => Sys2Proof.Machine.execTrigOutPulse sx s
  | .triggerRecordWrite sx => Sys2Proof.Machine.execTriggerRecordWrite sx s
  | .segmentClose g => Sys2Proof.Machine.execSegmentClose g s
  | .holdoffEnd g => Sys2Proof.Machine.execHoldoffEnd g s
  | .foldOverflow f cause sx => Sys2Proof.Machine.execFoldOverflow f cause sx s
  | .capturePageStore f inst unit => Sys2Proof.Machine.execCapturePageStore f inst unit s
  | .windowRecord f inst w => Sys2Proof.Machine.execWindowRecord f inst w s
  | .counterTargetReached n sx => Sys2Proof.Machine.execCounterTargetReached n sx s
  | .counterFeedLate n inc k => Sys2Proof.Machine.execCounterFeedLate n inc s k
  | .timerExpiry n sx => Sys2Proof.Machine.execTimerExpiry n sx s
  | .handTimerExpiry h sx => Sys2Proof.Machine.execHandTimerExpiry h sx s
  | .recogSliceParity r => Sys2Proof.Machine.execRecogSliceParity r s
  | .handParity h => Sys2Proof.Machine.execHandParity h s
  | .flockKeyComplete l inst sx => Sys2Proof.Machine.execFlockKeyComplete l inst sx s
  | .flockResult f sx => Sys2Proof.Machine.execFlockResult f sx s
  | .flockInsert h key action => Sys2Proof.Machine.execFlockInsert h key action s
  | .flockDelete h key => Sys2Proof.Machine.execFlockDelete h key s
  | .flockLookup h key => Sys2Proof.Machine.execFlockLookup h key s
  | .flockBulk h mode count src => Sys2Proof.Machine.execFlockBulk h mode count src s
  | .flockStashMigrate n => Sys2Proof.Machine.execFlockStashMigrate n s
  | .flockBucketRestore sub bucket => Sys2Proof.Machine.execFlockBucketRestore sub bucket s
  | .tinStamp n t falling => Sys2Proof.Machine.execTinStamp n t falling s
  | .trigInEdge t level held => Sys2Proof.Machine.execTrigInEdge t level held s
  | .gateInChange t level held => Sys2Proof.Machine.execGateInChange t level held s
  | .tinConfig h p => Sys2Proof.Machine.execTinConfig h p s
  | .tdcRecalibration n ok => Sys2Proof.Machine.execTdcRecalibration n ok s
  | .measureInterval h p => Sys2Proof.Machine.execMeasureInterval h p s
  | .measureFreq h p => Sys2Proof.Machine.execMeasureFreq h p s
  | .measStopWindowEnd u => Sys2Proof.Machine.execMeasStopWindowEnd u s
  | .measGateTimer u => Sys2Proof.Machine.execMeasGateTimer u s
  | .measTimeout u => Sys2Proof.Machine.execMeasTimeout u s
  | .dacSet h channels span values => Sys2Proof.Machine.execDacSet h channels span values s
  | .ddsSet h p => Sys2Proof.Machine.execDdsSet h p s
  | .ddsT0 ch => Sys2Proof.Machine.execDdsT0 ch s
  | .dacUpdateTick => Sys2Proof.Machine.execDacUpdateTick s
  | .thrCurrentLimit ch => Sys2Proof.Machine.execThrCurrentLimit ch s
  | .blockStateSettle ctrl => Sys2Proof.Machine.execBlockStateSettle ctrl s
  | .patternLoad h p => Sys2Proof.Machine.execPatternLoad h p s
  | .patternPlay h p => Sys2Proof.Machine.execPatternPlay h p s
  | .playbackStart sx => Sys2Proof.Machine.execPlaybackStart sx s
  | .patternStop h mode sx => Sys2Proof.Machine.execPatternStop h mode sx s
  | .passDecision k => Sys2Proof.Machine.execPassDecision s k
  | .passEnd => Sys2Proof.Machine.execPassEnd s
  | .playbackUnderrun d detail => Sys2Proof.Machine.execPlaybackUnderrun d detail s
  | .checkerSync n sx => Sys2Proof.Machine.execCheckerSync n sx s
  | .checkerViolation n sx => Sys2Proof.Machine.execCheckerViolation n sx s
  | .maskCheckRecord n w => Sys2Proof.Machine.execMaskCheckRecord n w s
  | .checkerDone n => Sys2Proof.Machine.execCheckerDone n s
  | .compress h p => Sys2Proof.Machine.execCompress h p s
  | .decompress h p => Sys2Proof.Machine.execDecompress h p s
  | .engineJobStart u => Sys2Proof.Machine.execEngineJobStart s u
  | .readoutVerification f sub seg entry => Sys2Proof.Machine.execReadoutVerification f sub seg entry s
  | .compressedBlockOut e chk => Sys2Proof.Machine.execCompressedBlockOut e chk s
  | .decompressionEccError d => Sys2Proof.Machine.execDecompressionEccError d s
  | .readFold h p => Sys2Proof.Machine.execReadFold h p s
  | .readRange h p => Sys2Proof.Machine.execReadRange h p s
  | .readIndex h p => Sys2Proof.Machine.execReadIndex h p s
  | .droverJobStart => Sys2Proof.Machine.execDroverJobStart s
  | .completionTimeout who => Sys2Proof.Machine.execCompletionTimeout who s
  | .sqDoorbell n value => Sys2Proof.Machine.execSqDoorbell n value s
  | .cqDoorbell n value => Sys2Proof.Machine.execCqDoorbell n value s
  | .commandFetch => Sys2Proof.Machine.execCommandFetch s
  | .completionWrite cid => Sys2Proof.Machine.execCompletionWrite cid s
  | .coalesceTimeout n => Sys2Proof.Machine.execCoalesceTimeout n s
  | .registerWrite m off size be value => Sys2Proof.Machine.execRegisterWrite m off size be value s
  | .latchRead m off => Sys2Proof.Machine.execLatchRead m off s
  | .latchLoWrite m off value => Sys2Proof.Machine.execLatchLoWrite m off value s
  | .latchHiWrite m off value => Sys2Proof.Machine.execLatchHiWrite m off value s
  | .sqcClear m off value => Sys2Proof.Machine.execSqcClear m off value s
  | .enWrite m off value => Sys2Proof.Machine.execEnWrite m off value s
  | .chipUnlockWrite m value => Sys2Proof.Machine.execChipUnlockWrite m value s
  | .keyTimeout m => Sys2Proof.Machine.execKeyTimeout m s
  | .keyLockoutEnd m => Sys2Proof.Machine.execKeyLockoutEnd m s
  | .ownerWrite m value => Sys2Proof.Machine.execOwnerWrite m value s
  | .coreReset m value low => Sys2Proof.Machine.execCoreReset m value low s
  | .eqPop m q bad => Sys2Proof.Machine.execEqPop m q s bad
  | .eqFlush m q => Sys2Proof.Machine.execEqFlush m q s
  | .eqProducerWord q owner word bytes => Sys2Proof.Machine.execEqProducerWord q owner word bytes s
  | .eqLineTimeout q owner word => Sys2Proof.Machine.execEqLineTimeout q owner s word
  | .dacCodeWrite m ch value => Sys2Proof.Machine.execDacCodeWrite m ch value s
  | .dacFreezeWrite m value => Sys2Proof.Machine.execDacFreezeWrite m value s
  | .ddsFtwWrite m ch hi value => Sys2Proof.Machine.execDdsFtwWrite m ch hi value s
  | .laneOfsWrite m lane value => Sys2Proof.Machine.execLaneOfsWrite m lane value s
  | .laneTestWrite m g lane value => Sys2Proof.Machine.execLaneTestWrite m g lane value s
  | .bar2Write off data portA rivals => Sys2Proof.Machine.execBar2Write off data portA s rivals
  | .bar2SetAliasWrite off data portA rivals => Sys2Proof.Machine.execBar2SetAliasWrite off data portA s rivals
  | .bar2ClearAliasWrite off data portA rivals => Sys2Proof.Machine.execBar2ClearAliasWrite off data portA s rivals
  | .msixUnmask => Sys2Proof.Machine.execMsixUnmask s
  | .pcieD3hotEntry => Sys2Proof.Machine.execPcieD3hotEntry s
  | .hostReset cause => Sys2Proof.Machine.execHostReset cause s
  | .powerOnReset image retry => Sys2Proof.Machine.execPowerOnReset image s retry
  | .testReset => Sys2Proof.Machine.execTestReset s
  | .supplyFail rail mv => Sys2Proof.Machine.execSupplyFail rail mv s
  | .supplyOvervoltage rail mv => Sys2Proof.Machine.execSupplyOvervoltage rail mv s
  | .supplyWarning io mv => Sys2Proof.Machine.execSupplyWarning io mv s
  | .supplyWarningClear io mv => Sys2Proof.Machine.execSupplyWarningClear io mv s
  | .avsOffTarget meas => Sys2Proof.Machine.execAvsOffTarget meas s
  | .refclkLoss => Sys2Proof.Machine.execRefclkLoss s
  | .refclkReturn => Sys2Proof.Machine.execRefclkReturn s
  | .aonReturnToRefclk => Sys2Proof.Machine.execAonReturnToRefclk s
  | .oscillatorTrim => Sys2Proof.Machine.execOscillatorTrim s
  | .regionSleep => Sys2Proof.Machine.execRegionSleep s
  | .hbmSelfRefreshEntry stack => Sys2Proof.Machine.execHbmSelfRefreshEntry stack s
  | .memPower h target state region mask => Sys2Proof.Machine.execMemPower h target state region mask s
  | .bankPowerChangeDone u => Sys2Proof.Machine.execBankPowerChangeDone u s
  | .tamperEvent src => Sys2Proof.Machine.execTamperEvent src s
  | .lifecycleAdvance h target len src => Sys2Proof.Machine.execLifecycleAdvance h target len src s
  | .keyProvision h slot kind len src => Sys2Proof.Machine.execKeyProvision h slot kind len src s
  | .tamperStatus h => Sys2Proof.Machine.execTamperStatus h s
  | .wipe h scope => Sys2Proof.Machine.execWipe h scope s
  | .rxDataBlock n levels => Sys2Proof.Machine.execRxDataBlock n levels s
  | .rxMarkerBlock n levels => Sys2Proof.Machine.execRxMarkerBlock n levels s
  | .rxIdleBlock n levels => Sys2Proof.Machine.execRxIdleBlock n levels s
  | .rxCtrlBlock n levels => Sys2Proof.Machine.execRxCtrlBlock n levels s
  | .laneLockLost n => Sys2Proof.Machine.execLaneLockLost n s
  | .laneRelockExpiry n => Sys2Proof.Machine.execLaneRelockExpiry n s
  | .rxClockLost g => Sys2Proof.Machine.execRxClockLost g s
  | .wakeBurst g => Sys2Proof.Machine.execWakeBurst g s
  | .sbHello g fr => Sys2Proof.Machine.execSbHello g fr s
  | .sbTrain g fr => Sys2Proof.Machine.execSbTrain g fr s
  | .sbSpare g fr => Sys2Proof.Machine.execSbSpare g fr s
  | .sbTest g fr => Sys2Proof.Machine.execSbTest g fr s
  | .sbPower g fr => Sys2Proof.Machine.execSbPower g fr s
  | .sbStatus g fr => Sys2Proof.Machine.execSbStatus g fr s
  | .sbNak g fr => Sys2Proof.Machine.execSbNak g fr s
  | .sbRetry g => Sys2Proof.Machine.execSbRetry g s
  | .sbLost g => Sys2Proof.Machine.execSbLost g s
  | .sbHelloSend g => Sys2Proof.Machine.execSbHelloSend g s
  | .sbActivityWake g => Sys2Proof.Machine.execSbActivityWake g s
  | .trainLanesPassed g => Sys2Proof.Machine.execTrainLanesPassed g s
  | .trainJudgeDeadline g passed => Sys2Proof.Machine.execTrainJudgeDeadline g passed s
  | .trainAttemptTimeout g => Sys2Proof.Machine.execTrainAttemptTimeout g s
  | .reprobe g => Sys2Proof.Machine.execReprobe g s
  | .linkTrain h dir group => Sys2Proof.Machine.execLinkTrain h dir group s
  | .linkSleep h dir group action => Sys2Proof.Machine.execLinkSleep h dir group action s
  | .eyeScan h p => Sys2Proof.Machine.execEyeScan h p s
  | .bitSlip h lane count => Sys2Proof.Machine.execBitSlip h lane count s
  | .loopback h kind dir lanes => Sys2Proof.Machine.execLoopback h kind dir lanes s
  | .prbs h dir func pattern peer lanes => Sys2Proof.Machine.execPrbs h dir func pattern peer lanes s
  | .lanePatrolScan n vMargin phMargin => Sys2Proof.Machine.execLanePatrolScan n vMargin phMargin s
  | .eccWriteback loc overwritten => Sys2Proof.Machine.execEccWriteback loc overwritten s
  | .scrubStep loc err => Sys2Proof.Machine.execScrubStep loc err s
  | .rowRemap loc => Sys2Proof.Machine.execRowRemap loc s
  | .hbmPageRemap stack page => Sys2Proof.Machine.execHbmPageRemap stack page s
  | .patrolMove q b pass => Sys2Proof.Machine.execPatrolMove q b pass s
  | .patrolMismatch q b => Sys2Proof.Machine.execPatrolMismatch q b s
  | .patrolConfirmEnd q b => Sys2Proof.Machine.execPatrolConfirmEnd q b s
  | .spareStatus h dest => Sys2Proof.Machine.execSpareStatus h dest s
  | .spareCommit h kind unit => Sys2Proof.Machine.execSpareCommit h kind unit s
  | .wearForecast h dest => Sys2Proof.Machine.execWearForecast h dest s
  | .ageingMeasure q slow roOk => Sys2Proof.Machine.execAgeingMeasure q slow roOk s
  | .wearLogCommit good => Sys2Proof.Machine.execWearLogCommit good s
  | .lockstepMismatch => Sys2Proof.Machine.execLockstepMismatch s
  | .coreSelfTestDone pass0 pass1 pass2 => Sys2Proof.Machine.execCoreSelfTestDone pass0 pass1 pass2 s
  | .fwStage h len src => Sys2Proof.Machine.execFwStage h len src s
  | .fwActivate h => Sys2Proof.Machine.execFwActivate h s
  | .handoverTimeout => Sys2Proof.Machine.execHandoverTimeout s
  | .nvWrite h area len offset src => Sys2Proof.Machine.execNvWrite h area len offset src s
  | .deckRedealTimeout => Sys2Proof.Machine.execDeckRedealTimeout s
  | .regionsReady => Sys2Proof.Machine.execRegionsReady s
  | .timebasePllLock => Sys2Proof.Machine.execTimebasePllLock s
  | .prbsCheckerLock g lane => Sys2Proof.Machine.execPrbsCheckerLock g lane s
  | .prbsLost g lane errs => Sys2Proof.Machine.execPrbsLost g lane errs s
  | .trigOutPulseEnd => Sys2Proof.Machine.execTrigOutPulseEnd s
  | .syncOutPulseEnd => Sys2Proof.Machine.execSyncOutPulseEnd s
  | .pcieLinkUp speed width reversed flit => Sys2Proof.Machine.execPcieLinkUp speed width reversed flit s
  | .pcieD0Return => Sys2Proof.Machine.execPcieD0Return s
  | .porNLow => Sys2Proof.Machine.execPorNLow s
  | .tamperSourceInactive src => Sys2Proof.Machine.execTamperSourceInactive src s
  | .bar2Read off len rivals => Sys2Proof.Machine.execBar2Read off len s rivals
  | .registerReadError m off size => Sys2Proof.Machine.execRegisterReadError m off size s
  | .shepherdCheckpoint => Sys2Proof.Machine.execShepherdCheckpoint s

end Sys2Proof.Machine
end

