-- ==== Sys2Proof/Machine/Stimulus.lean ====
section
/-!
DEFINITION. What the TX lanes send (R12, R26, R222, R225, R226, R271-R281, R288-R290, R294, R309): block slots and their cadence, the
block of each lane, and its bits and levels.
-/

namespace Sys2Proof.Machine

/-- What a transmit lane sends in a block slot: nothing, a block, a test pattern by its code, or what an RX lane receives (Tables 12-2,
12-6, 12-7). -/
inductive TxBlock where
  | none
  | idle
  | ctrl (code : Byte)
  | marker (index : Sample)
  | data (bits : BitVec 256)
  | pattern (code : Nat)
  | echo (lane : Nat)
deriving DecidableEq, Repr

/-! Cadence (R279) -/

/-- What a block slot holds. -/
inductive SlotKind where
  | marker
  | data
  | idle
deriving DecidableEq, Repr

/-- The kind of block slot `b`: markers 8,192 slots apart; of every 35 slots the first carries no DATA, unless a marker has taken the
place of a DATA block since the one before it. The places of the other slots without DATA are the model's choice, within 2 of 34b/35
(DESIGN CHOICE, notes/assumptions/21.md). -/
def slotKind (b : Nat) : SlotKind :=
  if b % 8192 = 0 then .marker
  else if b % 35 = 0 ∧ !(b % 8192 < 35 ∧ b / 8192 * 8192 % 35 ≠ 0) then .idle
  else .data

/-- DSEQ of a DATA block in slot `b`: the DATA blocks since the last marker, modulo 4 (R275). -/
def slotDseq (b : Nat) : Nat :=
  ((List.range (b % 8192)).filter (fun i => slotKind (b / 8192 * 8192 + i) == .data)).length % 4

/-! What each lane sends -/

/-- The block of transmit position `p` that is on its lane: what playback put into its slot L_LANE fclk ago, else the word that it holds, or
its REST word. -/
def posBlock (s : State) (p : Nat) : BitVec 256 :=
  match (s.pgen.pipe.find? (fun x => decide (x.1 ≤ 4))).bind (fun x => assoc x.2 p) with
  | some b => b
  | none =>
    match assoc s.pgen.held p, actDeck s with
    | some w, _ => wordBlock w
    | none, some d => wordBlock (restWord d p)
    | none, none => 0

/-- The group lane that holds transmit position `p`: the spare where it is mapped in (R11). -/
def posLane (s : State) (p : Nat) : Nat := lanePos (linkOf s (4 + p / 16)) (p % 16)

/-- INDEX of a marker that group `l` sends now: the first sample of the next DATA block (R280); before the group has first been ACTIVE its
own count is 0 (DESIGN CHOICE, notes/assumptions/21.md). -/
def txMarker (l : GroupLink) : Sample := 16 * ((l.txIndex.getD 0 + 15) / 16)

/-- What a lane that sends blocks sends in the slot that it is in; `block` where it carries a position. In class F every DATA slot holds IDLE
(R26). -/
def slotSends (s : State) (l : GroupLink) (block : Option (BitVec 256)) : TxBlock :=
  match slotKind (txSlot l) with
  | .marker => .marker (txMarker l)
  | .idle => .idle
  | .data =>
    match block with
    | some b => if l.txData && !s.pwr.classF then .data b else .idle
    | none => .idle

/-- What lane `n` of transmit group `t` sends (R281, R288-R290, R294, R302, R309): a test generator's pattern, a far-end loopback's
symbols, PRBS13Q while it is levelled, blocks from BLOCK_LOCK on, nothing in the other states. -/
def laneSends (s : State) (t n : Nat) : TxBlock :=
  let g := 4 + t
  let l := linkOf s g
  let x := laneOf s g n
  let test := rd s (Reg.MRX_LANE_TEST g n)
  if x.loop = 3 then .echo (physOf g n)
  else if test.getLsbD 4 then .pattern (nbits test.toNat 10 8)
  else
    match l.st with
    | .off | .detect | .clockLock | .parked | .eidle | .dataOff => .none
    | .levelTrain => if l.mask.getLsbD n then .pattern 5 else .none
    | .blockLock | .deskew | .spareMap => slotSends s l none
    | .active =>
      match x.st with
      | .excluded => .none
      | .relevel => .pattern 5
      | .down | .active | .relock | .waitMarker | .test =>
        if l.sleeping = 2 then .ctrl 1
        else slotSends s l ((servedBy l n).map (fun q => posBlock s (16 * t + q)))

/-- What the lane of position `p` sends. -/
def posSends (s : State) (p : Nat) : TxBlock := laneSends s (p / 16) (posLane s p)

/-- The value of stimulus channel SCH `c` in sample `j` of the block that its lane carries: bit c mod 16 of the lane that holds position
⌊c/16⌋ (R12). -/
def schAt (s : State) (c j : Nat) : Option Bool :=
  match posSends s (c / 16) with
  | .data b => some (b.getLsbD (16 * j + c % 16))
  | _ => none

/-! Bits and levels (R273-R278) -/

/-- The payload of a marker of lane `n` of transmit group `t` (Table 12-3). -/
def markerPayload (t n : Nat) (index : Sample) : BitVec 256 := BitVec.ofNat 256 (0xC3A5 + n * 2 ^ 16 + t * 2 ^ 24 + index % 2 ^ 64 * 2 ^ 64)

/-- The scrambler's register of lane `n` for slot `b`: loaded after the marker slot, 256 steps a slot (R277). -/
def scrAt (n b : Nat) : BitVec 31 := (List.range (b % 8192 - 1)).foldl (fun r _ => (scrBlock r).2) (scrLoad n)

/-- The 272 bits of a block in slot `b`: TYPE, FLAGS and CRC before the payload, scrambled but for a marker's (R275-R277). -/
def blockBits (n b ty : Nat) (payload : BitVec 256) : BitVec 272 :=
  let w := if ty = 3 then payload else payload ^^^ (scrBlock (scrAt n b)).1
  let flags := if ty = 0 then slotDseq b else 0
  (w.setWidth 272 <<< 16) ||| BitVec.ofNat 272 ((crc12 (BitVec.ofNat 2 ty) w).toNat * 16 + flags * 4 + ty)

/-- The precoder (R274): each symbol less the one sent before it, modulo 4; `last` is the last symbol of the block before. -/
def precode (last : BitVec 2) (x : BitVec 272) : BitVec 272 :=
  BitVec.ofNat 272 ((List.range 136).foldl (fun (a : Nat × Nat) n =>
    let y := (nbits x.toNat (2 * n + 1) (2 * n) + 4 - a.2) % 4
    (a.1 + y * 4 ^ n, y)) (0, last.toNat)).1

/-- The levels of a block: Gray-mapped, and precoded where that is agreed (R273, R274). -/
def blockLevels (l : GroupLink) (last : BitVec 2) (bits : BitVec 272) : BitVec 272 :=
  if l.precode then precode last (unGray bits) else unGray bits

/-- The levels on lane `n` of transmit group `t`, the last symbol before them being `last`; none where it sends no block. -/
def laneLevels (s : State) (t n : Nat) (last : BitVec 2) : Option (BitVec 272) :=
  let l := linkOf s (4 + t)
  let send (ty : Nat) (p : BitVec 256) : Option (BitVec 272) := some (blockLevels l last (blockBits n (txSlot l) ty p))
  match laneSends s t n with
  | .data b => send 0 b
  | .ctrl code => send 1 (code.setWidth 256)
  | .idle => send 2 0
  | .marker index => send 3 (markerPayload t n index)
  | .none | .pattern _ | .echo _ => none

/-! A slot ends -/

/-- Transmit group `t` begins block slot `b`. DATA goes on from a marker slot, the INDEX of a group that has none being 0 or the other
group's (R280, R294); an agreed spare switches there (R304); and the CTRL block of an agreed EIDLE goes out in the slot after it, the group
falling silent from the next one on (R309). -/
def beginSlot (t b : Nat) (s : State) : State :=
  let g := 4 + t
  let l := linkOf s g
  if l.st ≠ .active then s
  else if b % 8192 = 0 then
    let s1 := modLk s g (fun l => { l with txData := true, txIndex := l.txIndex.or (some ((linkOf s (9 - g)).txIndex.getD 0)) })
    match l.neg with
    | some n => if n.step = 1 ∧ n.index ≤ txMarker (linkOf s1 g) then promoteSpare s1 g n.pos.val else s1
    | none => s1
  else if b % 8192 = 1 ∧ l.sleeping = 1 then modLk s g (fun l => { l with sleeping := 2 })
  else if l.sleeping = 2 then enterEidle s g
  else s

/-- One fclk of transmit group `t`'s slot count, which runs from its first marker (R294) and on through EIDLE (R309). -/
def tickSlot (s : State) (t : Nat) : State :=
  let l := linkOf s (4 + t)
  match l.st with
  | .blockLock | .deskew | .spareMap | .active | .eidle =>
    let s1 := modLk s (4 + t) (fun l => { l with txClock := l.txClock + 1 })
    let b := txSlot (linkOf s1 (4 + t))
    if b = txSlot l then s1 else beginSlot t b s1
  | .off | .detect | .clockLock | .levelTrain | .parked | .dataOff => s

end Sys2Proof.Machine
end

