-- ==== Sys2Proof/Machine/Tick.lean ====
section
/-!
DEFINITION. One fclk of time (R7), which passes in a step on an empty queue (notes/assumptions/1.md): the bellwether, the deal cycle, the
whole second, the TRIG_OUT pulse, the DDS samples, the void blocks that ingest supplies, and the stimulus index.
-/

namespace Sys2Proof.Machine

/-- Sixteen samples at ×1, 2.5 ns: one block slot of every lane (R84). -/
def slotT : Time := 163840

/-- Time passes: one fclk of the bellwether while TBASE runs, else 40 ns of the AON counter at every edge of REFCLK ÷ 4, which comes every
64 fclk (R31, R33). -/
def tickTime (s : State) : State :=
  s.modTb (fun t =>
    let edge := decide (64 ≤ t.sub + 1)
    { t with
      sub := if edge then 0 else t.sub + 1
      now := if t.running then (t.now + fclkT) % timeMod else if edge then (t.now + nsT 40) % timeMod else t.now
      crossed := t.running && crossesSecond t.now })

/-- The SYNC_OUT pulse runs on, and ends (R42). -/
def tickSyncOut (s : State) : State :=
  if s.tb.syncOut then
    if s.tb.syncLeft ≤ 1 then syncOutEnd s else s.modTb (fun t => { t with syncLeft := t.syncLeft - 1 })
  else s

/-- The deal cycle moves on, over the boundary at the end of the period (R49); it stands still while the regions sleep (R416). -/
def tickDeal (s : State) : State :=
  match actDeck s with
  | none => s
  | some d =>
    if asleep s then s
    else if s.deck.cycle + 1 < dkPeriod d then s.modDeck (fun k => { k with cycle := k.cycle + 1 })
    else dealBoundary {} s

/-- Ingest supplies a void block for a position that is void; one that has a count keeps it (R84, R96). -/
def tickVoid (s : State) (p : Nat) : State :=
  if posVoid s p && blkState s (Reg.INGEST_CTRL (p / 16)) == stOn && s.tb.epoch.isSome then
    match posNext s p with
    | none => supplyVoid s p
    | some i => setPosNext (supplyVoid s p) p (some (i + 16 * linkK s (p / 16)))
  else s

/-- The stimulus index of a transmit group moves on by the four samples of an fclk (R280). -/
def tickTx (s : State) (t : Nat) : State := modLk s (4 + t) (fun l => { l with txIndex := l.txIndex.map (· + 4) })

/-- What time from `a` to `b` brings while TBASE runs: a whole second (R42), DDS samples (R267), a block slot where one begins, and the
events that the measurement units have waited for (R246). -/
def tickRun (s : State) (a b : Time) : State :=
  let s1 := syncOutPulse s
  let s2 := [32, 33].foldl (fun s ch => ddsCycles s ch (dacx a) (dacx b - dacx a)) s1
  let s3 := if a / slotT = b / slotT then s2 else (List.range 64).foldl tickVoid s2
  pumpAll ([0, 1].foldl tickTx (tickPlay s3))

/-- One fclk. -/
def tick (s : State) : State :=
  let s1 := [0, 1].foldl tickSlot (tickEngines (tickDeal (tickTrigOut (tickSyncOut (tickTime s)))))
  if s.tb.running then tickRun s1 s.tb.now s1.tb.now else s1

end Sys2Proof.Machine
end

