-- ==== Sys2Proof/Safety.lean ====
section
/-!
DEFINITION. What claims about runs are said in: a state without some of its parts (frames), the life-cycle and memory conditions
that every step keeps.
-/

namespace Sys2Proof.Machine

/-- The security state without what bits 28 to 30 of `m` hide: all but the life-cycle state and the tamper count (28), the life-cycle
state (29), the tamper count (30). -/
def SecSt.hide (x : SecSt) (m : Nat) : SecSt :=
  { (if m.testBit 28 then {} else x) with
    life := if m.testBit 29 then 0 else x.life
    count := if m.testBit 30 then 0 else x.count }

/-- The state without the parts whose bits `m` has: two states with the same hidden form agree on every other part. -/
def State.hide (s : State) (m : Nat) : State where
  pending := if m.testBit 0 then [] else s.pending
  regs := if m.testBit 1 then [] else s.regs
  host := if m.testBit 2 then {} else s.host
  shepM := if m.testBit 3 then {} else s.shepM
  reply := if m.testBit 4 then .none else s.reply
  free := if m.testBit 5 then 0 else s.free
  tb := if m.testBit 6 then {} else s.tb
  cmd := if m.testBit 7 then {} else s.cmd
  pcie := if m.testBit 8 then {} else s.pcie
  drov := if m.testBit 9 then {} else s.drov
  log := if m.testBit 10 then {} else s.log
  mem := if m.testBit 11 then {} else s.mem
  eq := if m.testBit 12 then [] else s.eq
  deck := if m.testBit 13 then {} else s.deck
  ingest := if m.testBit 14 then {} else s.ingest
  recog := if m.testBit 15 then {} else s.recog
  flock := if m.testBit 16 then {} else s.flock
  hands := if m.testBit 17 then [] else s.hands
  trig := if m.testBit 18 then {} else s.trig
  folds := if m.testBit 19 then {} else s.folds
  comp := if m.testBit 20 then {} else s.comp
  pgen := if m.testBit 21 then {} else s.pgen
  checkers := if m.testBit 22 then [] else s.checkers
  tins := if m.testBit 23 then {} else s.tins
  dac := if m.testBit 24 then [] else s.dac
  link := if m.testBit 25 then [] else s.link
  pwr := if m.testBit 26 then {} else s.pwr
  shep := if m.testBit 27 then {} else s.shep
  sec := s.sec.hide m

/-- The parts of the state, as frames name them; `life` and `count` are the life-cycle state and the tamper count within `sec`. -/
inductive Part where
  | pending | regs | host | shepM | reply | free | tb | cmd | pcie | drov | log | mem | eq | deck | ingest | recog | flock | hands
  | trig | folds | comp | pgen | checkers | tins | dac | link | pwr | shep | sec | life | count
deriving DecidableEq, Repr

/-- The bit of a part in the masks of `State.hide`. -/
def Part.bit : Part → Nat
  | .pending => 0 | .regs => 1 | .host => 2 | .shepM => 3 | .reply => 4 | .free => 5 | .tb => 6 | .cmd => 7 | .pcie => 8 | .drov => 9
  | .log => 10 | .mem => 11 | .eq => 12 | .deck => 13 | .ingest => 14 | .recog => 15 | .flock => 16 | .hands => 17 | .trig => 18
  | .folds => 19 | .comp => 20 | .pgen => 21 | .checkers => 22 | .tins => 23 | .dac => 24 | .link => 25 | .pwr => 26 | .shep => 27
  | .sec => 28 | .life => 29 | .count => 30

/-- The mask of a list of parts. -/
def partMask (ps : List Part) : Nat := ps.foldl (fun a p => a ||| 2 ^ p.bit) 0

/-- A frame: `t` agrees with `s` on every part but those listed. -/
def State.sameBut (ps : List Part) (s t : State) : Prop := t.hide (partMask ps) = s.hide (partMask ps)

/-- A frame within the registers: every stored register that is not listed, and that is no register of the interrupt tree (BAR0 offsets
0x200 to 0xFFF), is as before. -/
def State.regsBut (os : List Nat) (s t : State) : Prop :=
  ∀ o d, o ∉ os → ¬(0x200 ≤ o ∧ o < 0x1000) → tabGet d t.regs o = tabGet d s.regs o

/-- Whether the device's memories and its view of the host's have their canonical form. -/
def MemSt.wf (m : MemSt) : Bool := memWf m.hbm && memWf m.scratch && memWf m.host

abbrev State.memOk (s : State) : Prop := s.mem.wf = true

/-! Zalou commands -/

/-- The command header of a Zalou command, and what R345 checks of it in state `s`; none for every other row. -/
def zalou (s : State) : Instr → Option (CmdHdr × Checks)
  | .identify h dest => some (h, identifyChecks h dest s)
  | .getLog h log max _ dest => some (h, getLogChecks h log max dest s)
  | .setTime h mode timeout time => some (h, setTimeChecks h mode timeout time s)
  | .deckLoad h slot len src => some (h, deckLoadChecks h slot len src s)
  | .deckVerify h slot => some (h, deckVerifyChecks h slot s)
  | .deckActivate h slot => some (h, deckActivateChecks h slot s)
  | .deckRedeal h slot groups timeout => some (h, deckRedealChecks h slot groups timeout s)
  | .arm h groups mode _ => some (h, armChecks h groups mode s)
  | .disarm h groups _ => some (h, disarmChecks h groups s)
  | .forceTrigger h groups _ => some (h, forceTriggerChecks h groups s)
  | .setPost h group post _ => some (h, setPostChecks h group post s)
  | .foldStatus h groups dest _ => some (h, foldStatusChecks h groups dest s)
  | .flockInsert h _ action => some (h, flockInsertChecks h action s)
  | .flockDelete h _ => some (h, flockDeleteChecks h s)
  | .flockLookup h _ => some (h, flockLookupChecks h)
  | .flockBulk h mode count src => some (h, flockBulkChecks h mode count src s)
  | .tinConfig h p => some (h, tinConfigChecks h p s)
  | .measureInterval h p => some (h, measureIntervalChecks h p s)
  | .measureFreq h p => some (h, measureFreqChecks h p s)
  | .dacSet h channels span values => some (h, dacSetChecks h channels span values s)
  | .ddsSet h p => some (h, ddsSetChecks h p s)
  | .patternLoad h p => some (h, patternLoadChecks h p s)
  | .patternPlay h p => some (h, patternPlayChecks h p s)
  | .patternStop h mode _ => some (h, patternStopChecks h mode s)
  | .compress h p => some (h, compressChecks h p s)
  | .decompress h p => some (h, decompressChecks h p s)
  | .readFold h p => some (h, readFoldChecks h p s)
  | .readRange h p => some (h, readRangeChecks h p s)
  | .readIndex h p => some (h, readIndexChecks h p s)
  | .memPower h target state region mask => some (h, memPowerChecks h target state region mask s)
  | .lifecycleAdvance h target len src => some (h, lifecycleAdvanceChecks h target len src s)
  | .keyProvision h slot kind len src => some (h, keyProvisionChecks h slot kind len src s)
  | .tamperStatus h => some (h, tamperStatusChecks h)
  | .wipe h scope => some (h, wipeChecks h scope s)
  | .linkTrain h dir group => some (h, linkTrainChecks h dir group)
  | .linkSleep h dir group action => some (h, linkSleepChecks h dir group action s)
  | .eyeScan h p => some (h, eyeScanChecks h p s)
  | .bitSlip h lane count => some (h, bitSlipChecks h lane count s)
  | .loopback h kind dir lanes => some (h, loopbackChecks h kind dir lanes s)
  | .prbs h dir func pattern peer lanes => some (h, prbsChecks h dir func pattern peer lanes s)
  | .spareStatus h dest => some (h, spareStatusChecks h dest s)
  | .spareCommit h kind unit => some (h, spareCommitChecks h kind unit)
  | .wearForecast h dest => some (h, wearForecastChecks h dest s)
  | .fwStage h len src => some (h, fwStageChecks h len src s)
  | .fwActivate h => some (h, fwActivateChecks h s)
  | .nvWrite h area len _ src => some (h, nvWriteChecks h area len src s)
  | _ => none

/-- Zalou takes the command up at once: a core runs it (R26), no command waits before it, its ID is not in use (R326), fewer than 1,024
commands are in flight (R325), no FENCE and no earlier command holds it back (R326, R364). -/
abbrev State.canStart (s : State) (h : CmdHdr) (c : Checks) : Prop :=
  processing s = true ∧ s.cmd.fetched = [] ∧ cidInFlight s h.cid = false ∧ inFlight s < 1024 ∧ fenced s h = false ∧ c.ready = true

/-- Zalou takes the command up at once, and it passes every check of R345. -/
abbrev State.starts (s : State) (h : CmdHdr) (c : Checks) : Prop := s.canStart h c ∧ judge c s = none

/-- The command interface with the completion of `h` among those that wait to be written (Table 15-2). -/
def State.completing (s : State) (h : CmdHdr) (status result result2 : Nat) : CmdSt :=
  { s.cmd with finished := s.cmd.finished ++
    [{ ring := h.ring, cid := h.cid, status := status, result := BitVec.ofNat 32 result, result2 := BitVec.ofNat 64 result2 }] }

/-- The command interface with `h` among the commands that run. -/
def State.running (s : State) (h : CmdHdr) (op obj aux : Nat) : CmdSt :=
  { s.cmd with running := s.cmd.running ++ [{ ring := h.ring, cid := h.cid, op := op, obj := obj, aux := aux }] }

/-- The command interface after the running command of that ring and ID has completed. -/
def State.ending (s : State) (ring : Fin 16) (cid : BitVec 16) (status result result2 : Nat) : CmdSt :=
  { s.cmd with
    fetched := s.cmd.fetched.filter (fun f => !(f.ring == ring && f.cid == cid))
    running := s.cmd.running.filter (fun f => !(f.ring == ring && f.cid == cid))
    finished := s.cmd.finished ++
      [{ ring := ring, cid := cid, status := status, result := BitVec.ofNat 32 result, result2 := BitVec.ofNat 64 result2 }] }

/-- A command of that ring, ID and opcode runs, and no host reset has orphaned it (R339). -/
def State.runs (s : State) (ring : Fin 16) (cid : BitVec 16) (op : Nat) : Prop :=
  ∃ r, findRun s ring cid = some r ∧ r.op = op ∧ r.orphan = false

/-- The newest entry of the event log. -/
def State.newestLog (s : State) : Option LogEntry := s.log.entries.head?

/-- The security invariant: the life-cycle state is one of Table 20-1, and the tamper count is at most 32 (R439, R445). -/
abbrev State.secOk (s : State) : Prop := s.sec.life ≤ 4 ∧ s.sec.count ≤ 32

/-- Whether HBM address `a` holds one of the `n` bytes at logical offset `x` of fold `f` (R164): those up to the end of the extent, and
those from the next extent on. -/
def State.inLogical (s : State) (d : DeckImage) (f x n a : Nat) : Prop :=
  let room := extentSize - x % extentSize
  (foldAddr s d f x ≤ a ∧ a < foldAddr s d f x + min n room) ∨
    (foldAddr s d f (x + room) ≤ a ∧ a < foldAddr s d f (x + room) + (n - room))

end Sys2Proof.Machine
end

