-- ==== Sys2Proof/Certificates/Slice0/Obligations.lean ====
section
/-!
DEFINITION. The statements for the provers. Each one's docstring names the rules that it formalises.
-/

open Sys2Proof Sys2Proof.Machine

/-- For every command c, queue rest and state s, step of s with c in front of rest is exec of c on s with rest as its queue. (The
queue and its step are the model's form, notes/assumptions/1.md.) (95_what_each_step_holds.md) -/
def Obligations.StepRunsTheFrontCommand : Prop :=
  ∀ (c : Instr) (rest : List Instr) (s : State), step (s.setPending (c :: rest)) = exec c (s.setPending rest)

/-- On an empty queue a step answers a next state: one fclk has passed. While TBASE runs the bellwether has moved on by 40,960
units of 2^-16 ns, four TBASE cycles of 10,240 each; while it is stopped, time moves on by 40 ns at each edge of REFCLK ÷ 4,
every 64th fclk. No access is answered, and the parts that time does not touch are as before: the drovers, the event queues,
the flock, the DACs, the regions' sleep and the security state. (That the step on an empty queue is one fclk is the model's
choice, notes/assumptions/1.md.) (R7, R31, R33, 02_timebase.md) -/
def Obligations.IdleStepPassesOneFclk : Prop :=
  ∀ s : State, s.pending = [] → ∃ t, step s = .next t ∧ t.pending = [] ∧
    (s.tb.running = true → t.tb.running = true ∧ t.tb.now = (s.tb.now + 4 * 10240) % 2 ^ 80) ∧
    (s.tb.running = false → t.tb.running = false ∧
      t.tb.now = (if 64 ≤ s.tb.sub + 1 then (s.tb.now + 40 * 65536) % 2 ^ 80 else s.tb.now)) ∧
    t.tb.sub = (if 64 ≤ s.tb.sub + 1 then 0 else s.tb.sub + 1) ∧
    t.tb.epoch = s.tb.epoch ∧ t.tb.wait = s.tb.wait ∧ t.tb.laneOfs = s.tb.laneOfs ∧
    t.host = s.host ∧ t.shepM = s.shepM ∧ t.reply = s.reply ∧ t.drov = s.drov ∧ t.eq = s.eq ∧ t.flock = s.flock ∧
    t.dac = s.dac ∧ t.pwr = s.pwr ∧ t.sec = s.sec

/-- After reset no command waits, runs or is finished; every status register and every register of the interrupt tree reads 0, so
IRQ_N is high; every block whose CTRL has STATE is OFF; every hand and every fold group is IDLE; no deck is active; TBASE is
stopped; the event log is empty; no lane of any link has lock; no key unlocks a register. (Values for which the spec states no
reset value are the model's, as notes/assumptions names them.) (R5, R24, R137, R169, R374, R375, R420) -/
def Obligations.ResetState : Prop :=
  State.reset.pending = [] ∧ State.reset.cmd = {} ∧ (∀ o, tabGet 0 State.reset.regs o = 0) ∧ irqN State.reset = true ∧
  (∀ n : Fin 16, blkState State.reset (Reg.CMDQ_CTRL n.val) = stOff ∧ blkState State.reset (Reg.TIN_CTRL n.val) = stOff) ∧
  (∀ n : Fin 34, blkState State.reset (Reg.DAC_CTRL n.val) = stOff) ∧
  (∀ h, (handOf State.reset h).st = .idle) ∧ (∀ g, (grpOf State.reset g).st = .idle) ∧
  State.reset.deck.active = none ∧ State.reset.tb.running = false ∧ State.reset.log.entries = [] ∧
  (∀ g n, (tabGet {} (linkOf State.reset g).lanes n).lock = false) ∧
  State.reset.host.unlocked = false ∧ State.reset.shepM.unlocked = false

/-- Right after reset the life-cycle state is one of Table 20-1, the tamper count is at most 32, and the memories have their
canonical form (the canonical form is the model's, notes/assumptions/6.md). (R439, R445, R444) -/
def Obligations.ResetMeetsTheInvariants : Prop :=
  State.reset.secOk ∧ State.reset.memOk

/-- For every state in which the life-cycle state is one of Table 20-1 (0 to 4) and the tamper count is at most 32, and whatever
command stands in front or none, the next state is such a state too. (R439, R440, R444, R445) -/
def Obligations.StepKeepsTheSecurityInvariant : Prop :=
  ∀ s t : State, s.secOk → step s = .next t → t.secOk

/-- For every state whose HBM, scratch and host memory are in canonical form (addresses strictly rise and no listed byte equals
what an unlisted one reads as), the state after a step is such a state too: equal memories stay equal data. (The canonical
form is the model's, notes/assumptions/6.md.) (R386, R436, 17_memories.md) -/
def Obligations.StepKeepsMemoryCanonical : Prop :=
  ∀ s t : State, s.memOk → step s = .next t → t.memOk

/-- Whatever command stands in front, a step never lowers the life-cycle state and never lowers the tamper count; the count rises
by at most 1 in a step, and not at all once it is 32. (R439, R440, R445) -/
def Obligations.FusesOnlyRise : Prop :=
  ∀ s t : State, step s = .next t →
    s.sec.life ≤ t.sec.life ∧ s.sec.count ≤ t.sec.count ∧ t.sec.count ≤ s.sec.count + 1 ∧
    (32 ≤ s.sec.count → t.sec.count = s.sec.count)

/-- For every command and every state, exec answers a next state: an error of the part is a flag, a log entry, a status or a
state, and never the end of the run. The queue of the commands that wait is as before. (R24, R28, R344) -/
def Obligations.EveryCommandAnswersANextState : Prop :=
  ∀ (i : Instr) (s : State), ∃ t, exec i s = .next t ∧ t.pending = s.pending

/-- A Zalou command that starts and fails a check of R345 completes with the status and the RESULT of the first check that fails.
Its completion waits to be written; of the kinds of which every command is logged a COMMAND entry is logged; every other part
of the state is as before. (R345, R344, R366) -/
def Obligations.RefusedCommandHasNoEffect : Prop :=
  ∀ (i : Instr) (s : State) (h : CmdHdr) (c : Checks) (st r : Nat),
    zalou s i = some (h, c) → s.canStart h c → judge c s = some (st, r) →
    ∃ t, exec i s = .next t ∧ t.cmd = s.completing h st r 0 ∧ s.sameBut [.cmd, .log] t ∧
      (loggedOps.contains c.op = false → t.log = s.log)

/-- Of the checks of R345, a field out of its own range is found first (INVALID_FIELD, with its offset), then class F for a
command marked † (CHIP_FAULT), then a deck that is needed and not active (INVALID_STATE), then an object of the deck that is
not defined (INVALID_FIELD), then a command that the life-cycle policy forbids (DENIED), then the lowest block that it writes
and HOST owns (DENIED, with its base), then a conflict (BUSY, with the holder's ID). A command that fails none passes. (In
recovery, where R421 accepts five commands, the refusal of every other comes first.) (R345, R347, R421, R439) -/
def Obligations.ChecksInOrder : Prop :=
  ∀ (c : Checks) (s : State), s.shep.recovery = false →
    (∀ o, firstBad c.fields = some o → judge c s = some (cField, o)) ∧
    (firstBad c.fields = none →
      (c.dagger = true ∧ s.pwr.classF = true → judge c s = some (cChipFault, 0)) ∧
      (c.dagger = false ∨ s.pwr.classF = false →
        (c.deck = true ∧ actDeck s = none → judge c s = some (cState, 0)) ∧
        (c.deck = false ∨ ((actDeck s).isSome = true ∧ c.deckPart = true) →
          (∀ o, firstBad c.objects = some o → judge c s = some (cField, o)) ∧
          (firstBad c.objects = none →
            (scrapped s = true ∧ scrapOps.contains c.op = false → judge c s = some (cDenied, 0)) ∧
            (c.denied = true → judge c s = some (cDenied, 0)) ∧
            (scrapped s = false ∧ c.denied = false →
              (∀ b, hostOwned s c.blocks = some b → judge c s = some (cDenied, b)) ∧
              (hostOwned s c.blocks = none →
                (∀ cid, c.held = some cid → judge c s = some (cBusy, cid.toNat)) ∧ (c.held = none → judge c s = none))))))) ∧
    (∀ b, hostOwned s c.blocks = some b → b ∈ c.blocks ∧ hostOwns s b = true ∧
      ∀ b' ∈ c.blocks, hostOwns s b' = true → b ≤ b')

/-- While no Shepherd core runs Zalou, a command changes nothing. A command whose ID equals that of a command in flight on any
ring completes at once with ID_IN_USE and has no other effect. A command with FENCE set that meets a running command of its
ring is not started: it stays among the fetched commands, and so does one behind another that waits (notes/assumptions/2.md).
One that stands alone among the fetched commands, and that nothing holds back, runs as one that meets no fetched command.
(R26, R325, R326) -/
def Obligations.CommandWaitsOrIsDuplicate : Prop :=
  ∀ (i : Instr) (s : State) (h : CmdHdr) (c : Checks), zalou s i = some (h, c) →
    (processing s = false → exec i s = .next s) ∧
    (processing s = true → s.cmd.fetched.any (fun f => f.ring == h.ring && f.cid == h.cid) = false →
      (cidInFlight s h.cid = true →
        ∃ t, exec i s = .next t ∧ t.cmd = s.completing h cIdInUse 0 0 ∧ s.sameBut [.cmd, .log] t) ∧
      (cidInFlight s h.cid = false → inFlight s < 1024 → (fenced s h = true ∨ s.cmd.fetched ≠ []) →
        ∃ t, exec i s = .next t ∧
          t.cmd = { s.cmd with fetched := s.cmd.fetched ++ [{ ring := h.ring, cid := h.cid, fence := h.fence }] } ∧
          s.sameBut [.cmd] t) ∧
      (cidInFlight s h.cid = false → 1024 ≤ inFlight s → exec i s = .next s)) ∧
    (∀ f : Fetched, processing s = true → s.cmd.fetched = [f] → f.ring = h.ring → f.cid = h.cid → f.resv = none →
      fenced s h = false → c.ready = true → cidInFlight (s.setCmd { s.cmd with fetched := [] }) h.cid = false →
      inFlight (s.setCmd { s.cmd with fetched := [] }) < 1024 →
      exec i s = exec i (s.setCmd { s.cmd with fetched := [] }))

/-- IDENTIFY that starts writes the 256 bytes of Table 15-5 into its buffer list and completes OK with RESULT = VERSION
0x00030002, or with BUFFER_FULL where the list is shorter. The bytes hold VERSION, SILICON, ORDER, the life-cycle state, the
running image's version, the serial number, the licences, MAX_INFLIGHT 1,024 and DECK_SLOTS 16; CONTEXTS holds the free
resume-context slots where they are fewer than 256 and a free value where they are 256, for which its one byte has no code
(notes/assumptions/16.md). (R348, R331, R344) -/
def Obligations.IdentifyDeliversItsData : Prop :=
  ∀ (h : CmdHdr) (dest : BitVec 64) (s : State), s.starts h (identifyChecks h dest s) →
    ∃ t ctx, exec (.identify h dest) s = .next t ∧ (freeContexts s < 256 → ctx = freeContexts s ∧ t.free = s.free) ∧
      t.cmd = s.completing h (if segsLen (bufList s dest) < 256 then cBufferFull else cOk) 0x00030002 0 ∧
      t.mem = (putBuf s (bufList s dest) (identifyData s ctx)).mem ∧ (identifyData s ctx).length = 256 ∧
      leAt (identifyData s ctx) 0 4 = 0x00030002 ∧ leAt (identifyData s ctx) 4 4 = 0xB1 ∧
      leAt (identifyData s ctx) 8 1 = rdF s Reg.CHIP_ID 3 0 ∧ leAt (identifyData s ctx) 12 4 = fwVer s % 2 ^ 32 ∧
      leAt (identifyData s ctx) 9 1 = s.sec.life % 256 ∧ leAt (identifyData s ctx) 16 16 = s.sec.serial.toNat ∧
      leAt (identifyData s ctx) 32 4 = s.sec.licences.toNat ∧ leAt (identifyData s ctx) 36 2 = 1024 ∧
      leAt (identifyData s ctx) 38 1 = 16 ∧ leAt (identifyData s ctx) 39 1 = ctx % 256 ∧
      s.sameBut [.mem, .cmd, .free] t

/-- GET_LOG that starts delivers the entries of the event log (LOG 0, 64 bytes each) or of the wear log (LOG 1, 32 bytes each)
whose sequence number is at least FROM_SEQ, ascending, at most MAX, as many as fit wholly into its buffer list; it completes
with that number in RESULT and the number of the next entry in RESULT2, with BUFFER_FULL where an entry did not fit. A drover
moves the bytes and counts them; while none is free, GET_LOG runs on behind the jobs that wait. The logs are as before. (R349,
R348, R435) -/
def Obligations.GetLogDeliversEntries : Prop :=
  ∀ (h : CmdHdr) (log : Byte) (max : BitVec 32) (fromSeq dest : BitVec 64) (s : State),
    s.starts h (getLogChecks h log max dest s) →
    (droverReady s = false → ∃ t, exec (.getLog h log max fromSeq dest) s = .next t ∧ t.cmd = s.running h 0x0102 0 0 ∧
      t.drov.jobs = s.drov.jobs ∧ t.drov.waiting.length = s.drov.waiting.length + 1 ∧ s.sameBut [.cmd, .drov] t) ∧
    (droverReady s = true → ∃ (t : State) (es : List (List Byte)) (n v : Nat), exec (.getLog h log max fromSeq dest) s = .next t ∧
      es = (if log = 0 then (logSlice LogEntry.seq s.log.entries fromSeq.toNat max.toNat).map logBytes
        else (logSlice WearEntry.seq s.shep.wear fromSeq.toNat max.toNat).map wearBytes) ∧
      n = min es.length (segsLen (bufList s dest) / (if log = 0 then 64 else 32)) ∧ n ≤ max.toNat ∧
      t.mem = (putBuf s (bufList s dest) (es.take n).flatten).mem ∧
      t.cmd = s.completing h (if n < es.length then cBufferFull else cOk) n (if log = 0 then s.log.next else s.shep.wearNext) ∧
      v ∈ freeDrovers s ∧ rd64 t (Reg.DROV_BYTES_LO v) = (rd64 s (Reg.DROV_BYTES_LO v) + (if log = 0 then 64 else 32) * n) % 2 ^ 64 ∧
      s.sameBut [.mem, .cmd, .regs, .free] t ∧ s.regsBut [Reg.DROV_BYTES_LO v, Reg.DROV_BYTES_LO v + 4] t)

/-- A transfer of bytes into a list of buffers writes, of host memory, only bytes inside the list's host buffers and, of HBM, only
bytes inside its HBM buffers (where no page is quarantined, R436); the first buffer holds the transfer's first bytes unless a
later buffer overlaps it. The scratch is as before. (R331, R6) -/
def Obligations.BufferWritesStayInTheBuffers : Prop :=
  ∀ (s : State) (l : List Seg) (bs : List Byte), s.shep.pageQuar = [] →
    (∀ a, (∀ g ∈ l, g.1 = false → ¬(g.2.1 ≤ a ∧ a < g.2.1 + g.2.2)) →
      memByte (putBuf s l bs).mem.host a = memByte s.mem.host a) ∧
    (∀ a, (∀ g ∈ l, g.1 = true → ¬(g.2.1 ≤ a ∧ a < g.2.1 + g.2.2)) →
      memByte (putBuf s l bs).mem.hbm a = memByte s.mem.hbm a) ∧
    (∀ a n, l = [(false, a, n)] → memRead (putBuf s l bs).mem.host a (min n bs.length) = bs.take n) ∧
    (∀ a n, l = [(true, a, n)] → memRead (putBuf s l bs).mem.hbm a (min n bs.length) = bs.take n) ∧
    (putBuf s l bs).mem.scratch = s.mem.scratch ∧ s.sameBut [.mem] (putBuf s l bs)

/-- SET_TIME with mode IMMEDIATE that starts while no group captures, no measurement and no playback runs, and TBASE runs and is
locked, loads NS and FRAC of its time word into the bellwether; TBASE_STATUS.STEPPED is set; an entry with SRC 0x0481 is
logged that holds the time words before and after; the completion, OK with RESULT 0, follows. The link epoch moves by the same
amount; every other register and part is as before. (R37) -/
def Obligations.SetTimeImmediateLoadsTheBellwether : Prop :=
  ∀ (h : CmdHdr) (time : BitVec 96) (s : State), s.starts h (setTimeChecks h 0 0 time s) →
    captureBusy s = false → measuring s = false → playing s = false → s.tb.running = true → tbaseLocked s = true →
    ∃ t e1 e2, exec (.setTime h 0 0 time) s = .next t ∧
      t.tb = { s.tb with
        now := time.toNat / 65536
        crossed := false
        epoch := s.tb.epoch.map (fun e => (e + time.toNat / 65536 + (2 ^ 80 - s.tb.now % 2 ^ 80)) % 2 ^ 80) } ∧
      flagSet t Reg.TBASE_STATUS 0 = true ∧
      t.log.entries.take 2 = [e1, e2] ∧ e1.event = 6 ∧ e2.src = 0x0481 ∧ e2.event = 4 ∧
      e2.data = leBytes 12 (timeWord s.tb.now 0) ++ leBytes 4 0 ++ leBytes 12 (timeWord (time.toNat / 65536) 0) ∧
      t.cmd = s.completing h cOk 0 0 ∧
      s.sameBut [.tb, .cmd, .log, .regs, .pcie] t ∧ s.regsBut [Reg.TBASE_STATUS, Reg.PCIE_STATUS] t

/-- While any fold group is in a state other than IDLE or STOPPED, any measurement runs, or pattern playback runs, SET_TIME that
starts completes with BUSY; time, epoch and every other part are as before. (R39, R344) -/
def Obligations.SetTimeRefusedWhileBusy : Prop :=
  ∀ (h : CmdHdr) (mode : Byte) (timeout : BitVec 32) (time : BitVec 96) (s : State),
    s.starts h (setTimeChecks h mode timeout time s) →
    (captureBusy s = true ∨ measuring s = true ∨ playing s = true) →
    ∃ t r, exec (.setTime h mode timeout time) s = .next t ∧ t.cmd = s.completing h cBusy r 0 ∧
      (measuring s = false → r = 0xFFFF) ∧ s.sameBut [.cmd, .log] t

/-- SET_TIME AT_SYNC that starts while nothing captures, measures or plays keeps running and starts TBASE, where it is stopped, at
an edge of REFCLK ÷ 4: time is as before, or, where no edge stands now, 40 ns on. An edge of SYNC_IN of the polarity of
SYNCIN_POL that holds for SYNCIN_FILT + 1 AON cycles is accepted at the moment that the sampler gives it, a TBASE cycle; any
other is ignored. At the load the bellwether takes the given time plus the time from the edge to the load, the epoch moves
with it, SYNC_LOADED and STEPPED are set, SRC 0x0481 is logged and the command completes OK. With no edge accepted within the
timeout it completes with TIMEOUT and the time is unchanged. (R38, R40, R41) -/
def Obligations.SetTimeAtSync : Prop :=
  (∀ (h : CmdHdr) (timeout : BitVec 32) (time : BitVec 96) (s : State), s.starts h (setTimeChecks h 1 timeout time s) →
    captureBusy s = false → measuring s = false → playing s = false →
    ∃ t, exec (.setTime h 1 timeout time) s = .next t ∧ t.tb.running = true ∧ t.tb.epoch = s.tb.epoch ∧
      t.tb.now = (if s.tb.running = true ∨ s.tb.sub = 0 then s.tb.now else (s.tb.now + 40 * 65536) % 2 ^ 80) ∧
      t.tb.wait = some { ring := h.ring, cid := h.cid, atSync := true, time := time.toNat / 65536, edge := none } ∧
      t.cmd = s.running h 0x0103 0 0 ∧ s.sameBut [.tb, .cmd, .log] t ∧
      (s.tb.running = true ∨ refclkGone s = false → t.log = s.log)) ∧
  (∀ (falling : Bool) (at_ : Time) (held : Nat) (w : TimeWait) (s : State), s.tb.running = true → s.tb.wait = some w →
    w.atSync = true → w.edge = none →
    ((rd s Reg.TBASE_CTRL).getLsbD 1 = falling ∧ rdF s Reg.TBASE_CTRL 15 8 + 1 ≤ held →
      ∃ t, exec (.syncInEdge falling at_ held) s = .next t ∧ t.tb = { s.tb with wait := some { w with edge := some (sampledTime s at_) } } ∧
        flagSet t Reg.TBASE_STATUS 3 = true ∧ s.sameBut [.tb, .regs, .pcie] t ∧
        s.regsBut [Reg.TBASE_STATUS, Reg.PCIE_STATUS] t) ∧
    ((rd s Reg.TBASE_CTRL).getLsbD 1 ≠ falling ∨ held < rdF s Reg.TBASE_CTRL 15 8 + 1 →
      exec (.syncInEdge falling at_ held) s = .next s)) ∧
  (∀ (ring : Fin 16) (cid : BitVec 16) (time e : Time) (s : State),
    s.tb.wait = some { ring := ring, cid := cid, atSync := true, time := time, edge := some e } → s.runs ring cid 0x0103 →
    ∃ t x y, exec .atSyncLoad s = .next t ∧ t.tb.now = (time + (s.tb.now + (2 ^ 80 - e % 2 ^ 80))) % 2 ^ 80 ∧ t.tb.wait = none ∧
      (∀ E, s.tb.epoch = some E → t.tb.epoch = some
        ((E + (time + (s.tb.now + (2 ^ 80 - e % 2 ^ 80))) + (2 ^ 80 - s.tb.now % 2 ^ 80)) % 2 ^ 80)) ∧
      flagSet t Reg.TBASE_STATUS 0 = true ∧ flagSet t Reg.TBASE_STATUS 1 = true ∧
      t.log.entries.take 2 = [x, y] ∧ y.src = 0x0481 ∧ t.cmd = s.ending ring cid cOk 0 0 ∧
      s.sameBut [.tb, .cmd, .log, .regs, .pcie] t ∧ s.regsBut [Reg.TBASE_STATUS, Reg.PCIE_STATUS] t) ∧
  (∀ (ring : Fin 16) (cid : BitVec 16) (time : Time) (s : State),
    s.tb.wait = some { ring := ring, cid := cid, atSync := true, time := time, edge := none } → s.runs ring cid 0x0103 →
    ∃ t, exec .setTimeTimeout s = .next t ∧ t.tb = { s.tb with wait := none } ∧ t.cmd = s.ending ring cid cTimeout 0 0 ∧
      s.sameBut [.tb, .cmd, .log] t)

/-- TBASE_STOP, on an edge of REFCLK ÷ 4 where every condition of R417 holds, stops TBASE, sets COARSE, and time goes on from the
bellwether's value; TBASE_START, where one fails, starts it at an edge of REFCLK ÷ 4, and the bellwether continues from the
counter's value there. Where REFCLK is absent a class D entry is logged. The PLL's lock sets its bit, and a SET_TIME IMMEDIATE
that waits for it then loads the bellwether and completes OK. SYNC_OUT_PULSE raises the pin for SYNCOUT_W + 1 AON cycles where
TBASE runs, SYNCOUT_EN is 1 and counting has taken a whole second, and SYNC_OUT_PULSE_END lowers it in the last fclk of that
time. (R33, R417, R41, R42) -/
def Obligations.TbaseStopsAndStarts : Prop :=
  ∀ s : State,
    (s.tb.running = true → s.tb.sub = 0 → tbaseMayStop s = true → ∃ t, exec .tbaseStop s = .next t ∧
      t.tb = { s.tb with running := false, crossed := false } ∧ flagSet t Reg.TBASE_STATUS 2 = true ∧
      (rd t Reg.CHIP_CLK_STATUS).getLsbD 1 = false ∧ s.sameBut [.tb, .regs, .pcie, .log] t ∧ (refclkGone s = false → t.log = s.log) ∧
      s.regsBut [Reg.TBASE_STATUS, Reg.CHIP_CLK_STATUS, Reg.PCIE_STATUS] t) ∧
    (tbaseMayStop s = false → s.tb.running = false → ∃ t, exec .tbaseStart s = .next t ∧
      t.tb = (if s.tb.sub = 0 then { s.tb with running := true }
        else { s.tb with running := true, sub := 0, now := (s.tb.now + 40 * 65536) % 2 ^ 80 }) ∧
      s.sameBut [.tb, .log] t ∧ (refclkGone s = false → t.log = s.log)) ∧
    (s.tb.wait = none → ∃ t, exec .timebasePllLock s = .next t ∧ (rd t Reg.CHIP_CLK_STATUS).getLsbD 1 = true ∧
      s.sameBut [.regs] t ∧ s.regsBut [Reg.CHIP_CLK_STATUS] t) ∧
    (∀ ring cid time, s.tb.wait = some { ring := ring, cid := cid, atSync := false, time := time, edge := none } →
      s.tb.running = true → s.runs ring cid 0x0103 →
      ∃ t, exec .timebasePllLock s = .next t ∧ t.tb.now = time % 2 ^ 80 ∧ t.tb.wait = none ∧
        flagSet t Reg.TBASE_STATUS 0 = true ∧ (rd t Reg.CHIP_CLK_STATUS).getLsbD 1 = true ∧
        t.cmd = s.ending ring cid cOk 0 0 ∧ s.sameBut [.tb, .cmd, .log, .regs, .pcie] t ∧
        s.regsBut [Reg.TBASE_STATUS, Reg.CHIP_CLK_STATUS, Reg.PCIE_STATUS] t) ∧
    (s.tb.running = true → s.tb.crossed = true → (rd s Reg.TBASE_CTRL).getLsbD 0 = true →
      exec .syncOutPulse s = .next (s.setTb { s.tb with syncOut := true, syncLeft := 64 * (rdF s Reg.TBASE_CTRL 23 16 + 1) })) ∧
    (s.tb.syncLeft ≤ 1 → exec .syncOutPulseEnd s = .next (s.setTb { s.tb with syncOut := false, syncLeft := 0 }))

/-- DECK_LOAD of a slot that does not hold the active deck, while every stack answers, checks the image it read: where every check
of Table 3-12 passes, the slot holds the image and the command completes OK; where one fails, it completes with DECK_INVALID
and the failed check's word, and the slot is empty. A drover moves the image and counts its bytes; while none is free,
DECK_LOAD runs on behind the jobs that wait. DECK_VERIFY runs the same checks on the slot's image and changes nothing but its
completion. The active deck and every other slot are as before. Either completes with BUSY on the slot that holds the active
deck, and DECK_VERIFY of an empty slot with INVALID_STATE. (R75, R465, R350) -/
def Obligations.DeckLoadAndVerify : Prop :=
  (∀ (h : CmdHdr) (slot : Byte) (len : BitVec 32) (src : BitVec 64) (s : State),
    s.starts h (deckLoadChecks h slot len src s) → slotActive s slot.toNat = false → hbmAll s = true →
    (droverReady s = false → ∃ t, exec (.deckLoad h slot len src) s = .next t ∧ t.cmd = s.running h 0x0201 slot.toNat 0 ∧
      t.drov.jobs = s.drov.jobs ∧ t.drov.waiting.length = s.drov.waiting.length + 1 ∧ s.sameBut [.cmd, .drov] t) ∧
    (droverReady s = true → ∃ t d v, exec (.deckLoad h slot len src) s = .next t ∧ d = imageOf (segsRead s.mem (bufList s src) len.toNat) ∧
      (match deckChecks s d len.toNat with
        | none => slotDeck t slot.toNat = some d ∧ t.cmd = s.completing h cOk 0 (dkId d)
        | some f => slotDeck t slot.toNat = none ∧ t.cmd = s.completing h cDeckInvalid (failWord f) (dkId d)) ∧
      (∀ n, n ≠ slot.toNat → slotDeck t n = slotDeck s n) ∧ { t.deck with slots := s.deck.slots } = s.deck ∧
      v ∈ freeDrovers s ∧ rd64 t (Reg.DROV_BYTES_LO v) = (rd64 s (Reg.DROV_BYTES_LO v) + len.toNat) % 2 ^ 64 ∧
      s.sameBut [.deck, .cmd, .log, .regs, .free] t ∧ s.regsBut [Reg.DROV_BYTES_LO v, Reg.DROV_BYTES_LO v + 4] t)) ∧
  (∀ (h : CmdHdr) (slot : Byte) (s : State), s.starts h (deckVerifyChecks h slot s) → slotActive s slot.toNat = false →
    ∃ t, exec (.deckVerify h slot) s = .next t ∧ s.sameBut [.cmd] t ∧
      (match slotDeck s slot.toNat with
        | none => t.cmd = s.completing h cState 0 0
        | some d => match deckChecks s d (d.len + (if d.sig.isSome then 128 else 0)) with
          | none => t.cmd = s.completing h cOk 0 (dkId d)
          | some f => t.cmd = s.completing h cDeckInvalid (failWord f) (dkId d))) ∧
  (∀ (h : CmdHdr) (slot : Byte) (len : BitVec 32) (src : BitVec 64) (s : State), slotActive s slot.toNat = true →
    (s.starts h (deckLoadChecks h slot len src s) →
      ∃ t, exec (.deckLoad h slot len src) s = .next t ∧ t.cmd = s.completing h cBusy 0xFFFF 0 ∧ s.sameBut [.cmd, .log] t) ∧
    (s.starts h (deckVerifyChecks h slot s) →
      ∃ t, exec (.deckVerify h slot) s = .next t ∧ t.cmd = s.completing h cBusy 0xFFFF 0 ∧ s.sameBut [.cmd] t))

/-- DECK_ACTIVATE of a loaded slot that starts while the regions do not sleep, no group captures, no playback runs and no
measurement uses a recognizer makes that deck active: every region is at deal cycle 0 and deal number 0, the regions that
REGIONS names are ON and the others OFF, every hand and every fold group is IDLE, TBASE runs with its time unbroken (started,
where it stood still, at an edge of REFCLK ÷ 4), and the command completes OK. In any other state of these it completes with
BUSY, and on an empty slot with INVALID_STATE, and nothing changes. (R76, R49, R137, R167, R33) -/
def Obligations.DeckActivateMakesTheDeckActive : Prop :=
  ∀ (h : CmdHdr) (slot : Byte) (s : State), s.starts h (deckActivateChecks h slot s) → asleep s = false →
    (slotDeck s slot.toNat = none → ∃ t, exec (.deckActivate h slot) s = .next t ∧ t.cmd = s.completing h cState 0 0 ∧
      s.sameBut [.cmd, .log] t) ∧
    (∀ d, slotDeck s slot.toNat = some d →
      (captureBusy s = true ∨ playing s = true ∨ recogMeasuring s = true →
        ∃ t, exec (.deckActivate h slot) s = .next t ∧ t.cmd = s.completing h cBusy 0xFFFF 0 ∧ s.sameBut [.cmd, .log] t) ∧
      (captureBusy s = false → playing s = false → recogMeasuring s = false →
        ∃ t, exec (.deckActivate h slot) s = .next t ∧ t.deck.active = some (slot.toNat, d) ∧ t.deck.cycle = 0 ∧
          (∀ r, dealNum t r = 0) ∧ t.deck.slots = s.deck.slots ∧
          (∀ r < 5, rdF t Reg.CHIP_PWR_STATE (2 * r + 1) (2 * r) = if dkUses d r then 2 else 0) ∧
          (∀ k, handOf t k = {}) ∧ (∀ g, (grpOf t g).st = .idle ∧ (grpOf t g).closed = 0) ∧
          (∀ g < 16, gV d g = true → (grpOf t g).post = gPost d g) ∧
          t.tb.running = true ∧ t.cmd = s.completing h cOk 0 0 ∧
          t.tb.now = (if s.tb.running = true ∨ s.tb.sub = 0 then s.tb.now else (s.tb.now + 40 * 65536) % 2 ^ 80) ∧
          s.sameBut [.regs, .free, .pcie, .tb, .cmd, .log, .mem, .deck, .ingest, .recog, .hands, .trig, .folds, .comp, .pgen, .checkers, .shep] t))

/-- DECK_ACTIVATE, DECK_REDEAL, ARM and PATTERN_PLAY that start and pass every check while the regions sleep keep running, and are
held for the regions' return: every region that slept reads as waking, and nothing else changes. (R419, R416) -/
def Obligations.SleepingRegionsHoldCommandsBack : Prop :=
  ∀ (i : Instr) (s : State) (h : CmdHdr) (c : Checks),
    ((∃ slot, i = .deckActivate h slot) ∨ (∃ slot gs tmo, i = .deckRedeal h slot gs tmo) ∨
      (∃ gs m sa, i = .arm h gs m sa) ∨ (∃ p, i = .patternPlay h p)) →
    zalou s i = some (h, c) → s.starts h c → asleep s = true →
    ∃ t, exec i s = .next t ∧ t.cmd = s.running h c.op 0xFFFFFFFF 0 ∧ t.pwr = { s.pwr with waking := s.pwr.waking ++ [i] } ∧
      (∀ r < 5, rdF t Reg.CHIP_PWR_STATE (2 * r + 1) (2 * r) =
        if rdF s Reg.CHIP_PWR_STATE (2 * r + 1) (2 * r) = 3 then 1 else rdF s Reg.CHIP_PWR_STATE (2 * r + 1) (2 * r)) ∧
      s.sameBut [.cmd, .pwr, .regs] t ∧ s.regsBut [Reg.CHIP_PWR_STATE] t

/-- DECK_REDEAL that starts while the regions do not sleep keeps running with the active deck unchanged, where the loaded deck
differs from it nowhere that R78 protects; where it differs, it completes with DECK_INVALID and the word of REDEAL_CONFLICT
with the section and region of the first difference. When its timeout ends first, it completes with TIMEOUT, and the active
deck is unchanged. (R77, R78) -/
def Obligations.DeckRedealWaitsForItsBoundary : Prop :=
  (∀ (h : CmdHdr) (slot : Byte) (groups : BitVec 16) (timeout : BitVec 32) (s : State) (a b : DeckImage),
    s.starts h (deckRedealChecks h slot groups timeout s) → asleep s = false → actDeck s = some a → slotDeck s slot.toNat = some b →
    slotActive s slot.toNat = false →
    (redealConflict s a b groups = none → ∃ t, exec (.deckRedeal h slot groups timeout) s = .next t ∧
      t.deck = { s.deck with
        redeal := some { ring := h.ring, cid := h.cid, slot := slot.toNat, groups := groups, waiting := [] } } ∧
      t.cmd = s.running h 0x0204 slot.toNat 0 ∧ s.sameBut [.cmd, .deck] t) ∧
    (∀ ty r, redealConflict s a b groups = some (ty, r) → ∃ t, exec (.deckRedeal h slot groups timeout) s = .next t ∧
      t.cmd = s.completing h cDeckInvalid (ty * 2 ^ 24 + r * 2 ^ 20 + 0x16) 0 ∧ s.sameBut [.cmd, .log] t)) ∧
  (∀ (r : RedealSt) (s : State), s.deck.redeal = some r → (actDeck s).isSome = true → s.runs r.ring r.cid 0x0204 →
    ∃ t, exec .deckRedealTimeout s = .next t ∧ t.deck = { s.deck with redeal := none } ∧
      t.cmd = s.ending r.ring r.cid cTimeout 0 0 ∧
      s.sameBut [.cmd, .deck, .regs, .free, .pcie, .log, .mem, .recog, .hands, .trig, .folds, .comp, .shep] t ∧
      (r.waiting = [] → s.sameBut [.cmd, .deck, .log] t))

/-- At a boundary at which the five guards agree, every region comes to deal cycle 0 of the next deal number and no region is
blocked. A guard whose number differs from that of the other four, or that fails to count, has REALIGN set and its region's
accesses blocked for the period, and at the next boundary it takes their number. A re-deal that waits takes effect at a
boundary at which every group is IDLE: its deck is the active deck, and its command completes OK with the deal number. A block
whose control has failed is quarantined. (Here no promotion, stage change or SPINE reload waits, and the row reports no error
but those named.) (R49, R73, R77) -/
def Obligations.DealBoundaryMovesTheDealOn : Prop :=
  ∀ (s : State) (d : DeckImage), actDeck s = some d → s.deck.promos = [] → s.deck.stageNext = s.deck.stage →
    s.deck.spineReload = false →
    (s.deck.redeal = none → ∀ k, (∀ r < 5, dealNum s r = k) → s.deck.blocked = [] →
      ∃ t, exec (.dealBoundary {}) s = .next t ∧ t.deck.cycle = 0 ∧ (∀ r < 5, dealNum t r = k + 1) ∧ t.deck.blocked = [] ∧
        t.deck.active = s.deck.active ∧ t.deck.viol = [] ∧ s.sameBut [.deck, .recog, .hands, .trig, .regs] t ∧
        ((∀ h < 32, (handOf s h).stopped = false) → s.sameBut [.deck, .recog] t)) ∧
    (s.deck.redeal = none → ∀ q : Fin 5, ∀ k, (∀ r < 5, dealNum s r = k) → s.deck.blocked = [] →
      ∃ t, exec (.dealBoundary { skew := BitVec.ofNat 5 (2 ^ q.val) }) s = .next t ∧ t.deck.cycle = 0 ∧ t.deck.blocked = [q.val] ∧
        flagSet t (Reg.GUARD_STATUS q.val) 2 = true ∧ dealNum t q.val = k ∧ (∀ r < 5, r ≠ q.val → dealNum t r = k + 1)) ∧
    (s.deck.redeal = none → s.deck.blocked = [] → ∀ q k, q < 5 → dealNum s q ≠ k → (∀ r < 5, r ≠ q → dealNum s r = k) →
      ∃ t, exec (.dealBoundary {}) s = .next t ∧ t.deck.cycle = 0 ∧ t.deck.blocked = [q] ∧ flagSet t (Reg.GUARD_STATUS q) 2 = true ∧
        (∀ r < 5, r ≠ q → dealNum t r = k + 1) ∧ s.sameBut [.deck, .recog, .hands, .trig, .log, .regs, .pcie] t) ∧
    (s.deck.redeal = none → ∀ q k, q < 5 → s.deck.blocked = [q] → (∀ r < 5, r ≠ q → dealNum s r = k) →
      ∃ t, exec (.dealBoundary {}) s = .next t ∧ t.deck.blocked = [] ∧ (∀ r < 5, dealNum t r = k + 1)) ∧
    (∀ r b, s.deck.redeal = some r → slotDeck s r.slot = some b → r.waiting = [] → s.runs r.ring r.cid 0x0204 →
      (∀ g, (grpOf s g).st = .idle) →
      ∃ t, exec (.dealBoundary {}) s = .next t ∧ t.deck.active = some (r.slot, b) ∧ t.deck.redeal = none ∧
        t.cmd = s.ending r.ring r.cid cOk 0 (dealNum t 4)) ∧
    (s.deck.redeal = none → s.deck.blocked = [] → ∀ b : Fin 33, ∃ t, exec (.dealBoundary { failed := [b] }) s = .next t ∧
      b.val ∈ t.deck.quarBlocks)

/-- An access that its port's slot entry names, with its owner and operation, is no violation. Any other on a port of the region
is blocked: VIOL is set, the count rises by 1 and saturates; GUARD_FIRST takes the first violation since VIOL was clear, and
for a later one FIRST_OVR is set and GUARD_FIRST stays; what a blocked write wrote is flagged. While a region's guard
realigns, an access in its slot is blocked and counted, and is no violation. Below the limits of GUARD_CTRL nothing else
happens; from them on a hand that presented the accesses is quarantined, with its HAND_STATUS.QUAR. (R71, R72, R74) -/
def Obligations.GuardBlocksWhatTheDeckDoesNotSchedule : Prop :=
  ∀ (region : Fin 5) (kind : BitVec 4) (port : BitVec 16) (owner : BitVec 12) (op : BitVec 3) (cycle : BitVec 16)
    (item : BlockedItem) (s : State) (d : DeckImage) (e r n : Nat),
    actDeck s = some d → guardedIn kind.toNat region = true → port.toNat < kindPorts kind.toNat → r = region.val →
    e = slotNow s d kind.toNat region port.toNat (entryAt kind.toNat cycle.toNat) →
    n = tabGet 0 s.deck.viol (region * 4096 + owner.toNat) + 1 →
    (slotV e = true → slotOwner e = owner.toNat → slotOp e = op.toNat →
      (r ∉ s.deck.blocked → exec (.guardViolation region kind port owner op cycle item) s = .next s) ∧
      (r ∈ s.deck.blocked → ∃ t, exec (.guardViolation region kind port owner op cycle item) s = .next t ∧
        rd t (Reg.GUARD_VIOL_CNT r) = BitVec.ofNat 32 (min ((rd s (Reg.GUARD_VIOL_CNT r)).toNat + 1) 0xFFFFFFFF) ∧
        (item ≠ .none → item ∈ t.deck.blockedItems) ∧ t.deck.viol = s.deck.viol ∧
        s.sameBut [.regs, .deck, .eq] t ∧ s.regsBut [Reg.GUARD_VIOL_CNT r] t)) ∧
    (slotV e = false ∨ slotOwner e ≠ owner.toNat ∨ slotOp e ≠ op.toNat →
      ∃ t, exec (.guardViolation region kind port owner op cycle item) s = .next t ∧ flagSet t (Reg.GUARD_STATUS r) 0 = true ∧
        rd t (Reg.GUARD_VIOL_CNT r) = BitVec.ofNat 32 (min ((rd s (Reg.GUARD_VIOL_CNT r)).toNat + 1) 0xFFFFFFFF) ∧
        tabGet 0 t.deck.viol (region * 4096 + owner.toNat) = n ∧
        (flagSet s (Reg.GUARD_STATUS r) 0 = false →
          rd t (Reg.GUARD_FIRST_LO r) = BitVec.ofNat 32 (cycle.toNat * 65536 + kind.toNat * 4096 + owner.toNat) ∧
          rd t (Reg.GUARD_FIRST_HI r) = BitVec.ofNat 32 ((if slotV e then slotOwner e else 0xFFF) * 65536 + port.toNat)) ∧
        (flagSet s (Reg.GUARD_STATUS r) 0 = true → flagSet t (Reg.GUARD_STATUS r) 1 = true ∧
          rd t (Reg.GUARD_FIRST_LO r) = rd s (Reg.GUARD_FIRST_LO r) ∧ rd t (Reg.GUARD_FIRST_HI r) = rd s (Reg.GUARD_FIRST_HI r)) ∧
        (item ≠ .none → item ∈ t.deck.blockedItems) ∧
        (n < rdF s (Reg.GUARD_CTRL r) 15 8 →
          (noteTime s second (tabGet [] s.deck.violSec (region * 4096 + owner.toNat))).length < rdF s (Reg.GUARD_CTRL r) 7 0 →
          s.sameBut [.regs, .pcie, .log, .deck, .eq] t ∧
          s.regsBut [Reg.GUARD_STATUS r, Reg.GUARD_VIOL_CNT r, Reg.GUARD_FIRST_LO r, Reg.GUARD_FIRST_HI r, Reg.PCIE_STATUS] t) ∧
        (rdF s (Reg.GUARD_CTRL r) 15 8 ≤ n → 0x160 ≤ owner.toNat → owner.toNat < 0x180 → unitFlagged s owner.toNat = false →
          (handOf t (owner.toNat - 0x160)).st = .fault ∧ flagSet t (Reg.HAND_STATUS (owner.toNat - 0x160)) 3 = true))

/-- A reading of a sensor is kept and sets the stage that takes effect at the next boundary: a stack at or above 85, 95 or 100 °C
calls for at least stage 1, 2 or 3, the die at or above 110 or 118 °C for at least stage 2 or 3; stage 0 follows once every
stack is 5 °C below its stage 1, at 80 °C, and the die at 105 °C. A stack that comes to 85 °C is logged. The stage in force
stays as it is until the boundary. (Temperatures are in eighths of a degree.) (R80, R79) -/
def Obligations.ThermalStageFollowsTheSensors : Prop :=
  ∀ (stack : Option (Fin 4)) (temp : BitVec 16) (s : State),
    ∃ t, exec (.thermalSensorCrossing stack temp) s = .next t ∧ t.deck.stage = s.deck.stage ∧
      tempOf t (match stack with | none => 0 | some n => n.val + 1) = temp.toInt ∧
      (∀ k, k ≠ (match stack with | none => 0 | some n => n.val + 1) → tempOf t k = tempOf s k) ∧
      (stack ≠ none → (8 * 85 ≤ temp.toInt → 1 ≤ t.deck.stageNext) ∧ (8 * 95 ≤ temp.toInt → 2 ≤ t.deck.stageNext) ∧
        (8 * 100 ≤ temp.toInt → t.deck.stageNext = 3)) ∧
      (stack = none → (8 * 110 ≤ temp.toInt → 2 ≤ t.deck.stageNext) ∧ (8 * 118 ≤ temp.toInt → t.deck.stageNext = 3)) ∧
      (tempOf t 0 ≤ 8 * 105 → (∀ n : Fin 4, tempOf t (n.val + 1) ≤ 8 * 80) → t.deck.stageNext = 0) ∧
      { t.deck with temps := s.deck.temps, stageNext := s.deck.stageNext } = s.deck ∧
      s.sameBut [.deck, .log, .regs, .pcie] t ∧
      s.regsBut (Reg.PCIE_STATUS :: (List.range 4).map Reg.HBM_STATUS) t

/-- ARM that starts while the regions do not sleep acts at the sample i at which it reaches the data path (its operand, and never
one that a row has taken). Where every named group is IDLE or STOPPED and the thermal stage is below 3 it opens in each, at i,
segment 0 (RESTART) or the next segment (APPEND, where one is left): the group is in PREFILL, or in ARMED where PRE is 0, with
POST clamped to its capacity; groups not named are as before. It completes OK, or with POST_CLAMPED and the POST in force of
the lowest clamped group. A named group in PREFILL, in ARMED, or in POST with its post part going on makes RESTART BUSY at a
stage below 3, with that group in the same segment. At stage 3 ARM completes THERMAL, and below it a group without a segment
left makes APPEND complete NO_SEGMENTS; at stage 3 the lowest group decides. No segment opens then, and nothing else changes
where no named group has a segment still to write. PREFILL_COMPLETE takes a group from PREFILL to ARMED and changes nothing
else; of a group in another state it changes nothing. (R169, R170, R172, R352) -/
def Obligations.ArmOpensASegment : Prop :=
  (∀ (h : CmdHdr) (groups : BitVec 16) (mode : Byte) (sa i : Sample) (s : State) (d : DeckImage),
    s.starts h (armChecks h groups mode s) → asleep s = false → actDeck s = some d → i = actSample s sa →
    ((∀ g ∈ maskGroups groups, groupDone s g = true) →
      (∀ st, (s.deck.stage = 3 ∧ ∃ g, (maskGroups groups).head? = some g ∧
            st = (if mode = 1 ∧ gSegments d g ≤ (grpOf s g).closed then cNoSegments else cThermal)) ∨
          (s.deck.stage ≠ 3 ∧ mode = 1 ∧ (∃ g ∈ maskGroups groups, gSegments d g ≤ (grpOf s g).closed) ∧ st = cNoSegments) →
        ∃ t, exec (.arm h groups mode sa) s = .next t ∧ t.cmd = s.completing h st 0 0 ∧
          (∀ g, (grpOf t g).seg = (grpOf s g).seg ∨ (grpOf t g).seg = none) ∧
          ((∀ g ∈ maskGroups groups, (grpOf s g).closing = none) → s.sameBut [.cmd] t)) ∧
      (s.deck.stage ≠ 3 → (mode = 1 → ∀ g ∈ maskGroups groups, (grpOf s g).closed < gSegments d g) →
        ∃ t, exec (.arm h groups mode sa) s = .next t ∧
          (∀ g ∈ maskGroups groups, (grpOf t g).st = (if gPre d g = 0 then .armed else .prefill) ∧
            (grpOf t g).post = clampPost d g (grpOf s g).post ∧
            (grpOf t g).seg = some { seg := if mode = 0 then 0 else (grpOf s g).closed, epoch := i }) ∧
          (∀ g, g ∉ maskGroups groups → grpOf t g = grpOf s g) ∧
          ((∀ g ∈ maskGroups groups, clampPost d g (grpOf s g).post = (grpOf s g).post) → t.cmd = s.completing h cOk 0 i) ∧
          (∀ g, (maskGroups groups).find? (fun g => clampPost d g (grpOf s g).post != (grpOf s g).post) = some g →
            t.cmd = s.completing h cClamped (clampPost d g (grpOf s g).post) i ∧ flagSet t (Reg.FOLD_GRP_STATUS g) 5 = true) ∧
          s.sameBut [.regs, .free, .cmd, .pcie, .log, .mem, .deck, .recog, .hands, .trig, .folds, .comp, .shep] t)) ∧
    (∀ g ∈ maskGroups groups, ∀ seg, (grpOf s g).closing = none → (grpOf s g).seg = some seg →
      ((grpOf s g).st = .armed ∨ (grpOf s g).st = .prefill ∨ (grpOf s g).st = .post ∧ i < seg.postEnd) → mode = 0 → s.deck.stage ≠ 3 →
      ∃ t, exec (.arm h groups mode sa) s = .next t ∧ t.cmd = s.completing h cBusy 0xFFFF 0 ∧ (grpOf t g).seg = some seg)) ∧
  (∀ (g : Fin 16) (s : State),
    ((grpOf s g).st = .prefill → exec (.prefillComplete g) s = .next (setGrp s g { grpOf s g with st := .armed })) ∧
    ((grpOf s g).st ≠ .prefill → exec (.prefillComplete g) s = .next s))

/-- DISARM that starts stops each named group at the sample i at which it reaches the data path (its operand, and never one that a
row has taken): one in PREFILL or ARMED, with a segment that began before i, closes it at the sample before, without a trigger
(NOTRIG), and one whose segment begins at i keeps nothing of it; one in POST, whose post part goes on at i, closes its segment
there (POST_CUT); one in HOLDOFF that does not re-arm by i stops; one that is IDLE or STOPPED is as before, and so is one that
is not named. A group whose post part or hold-off ends by i makes those changes first, and is stopped too. The command
completes OK with the sample in RESULT2. (R176, R352) -/
def Obligations.DisarmStopsItsGroups : Prop :=
  ∀ (h : CmdHdr) (groups : BitVec 16) (sd i : Sample) (s : State), s.starts h (disarmChecks h groups s) → i = actSample s sd →
    ∃ t, exec (.disarm h groups sd) s = .next t ∧ t.cmd = s.completing h cOk 0 i ∧
      (∀ g ∈ maskGroups groups, ∀ seg, ((grpOf s g).st = .armed ∨ (grpOf s g).st = .prefill) → (grpOf s g).seg = some seg →
        (seg.epoch < i → grpOf t g = { grpOf s g with
          st := .stopped, seg := none, lastSeg := some seg, closed := (grpOf s g).closed + 1, closing := some (i - 1, 8) }) ∧
        (i ≤ seg.epoch → grpOf t g = { grpOf s g with st := .stopped, seg := none })) ∧
      (∀ g ∈ maskGroups groups, ∀ seg, (grpOf s g).st = .post → (grpOf s g).seg = some seg → i < seg.postEnd →
        grpOf t g = { grpOf s g with
          st := .stopped, seg := none, lastSeg := some seg, closed := (grpOf s g).closed + 1, closing := some (i - 1, 0x20) }) ∧
      (∀ g ∈ maskGroups groups, (grpOf s g).st = .holdoff → (∀ sr, rearmAt s g = some sr → i < sr) →
        grpOf t g = { grpOf s g with st := .stopped }) ∧
      (∀ g ∈ maskGroups groups, groupDone s g = true → grpOf t g = grpOf s g) ∧
      (∀ g ∈ maskGroups groups, (grpOf s g).seg.isSome = true ∨ (grpOf s g).st = .holdoff → groupDone t g = true) ∧
      (∀ g, g ∉ maskGroups groups → grpOf t g = grpOf s g) ∧
      s.sameBut [.regs, .free, .cmd, .pcie, .log, .mem, .deck, .recog, .hands, .trig, .folds, .comp, .shep] t

/-- FORCE_TRIGGER that starts keeps running with its force, for the sample at which it reaches the trigger network, among those to
be presented. TRIGGER_ACCEPT of a group at sample i, once the group has made its own changes up to i, meets the hands that
fire for it at i and the forces for i. In ARMED, or in PREFILL where a force has ANYFILL, the group accepts: it enters POST
with that trigger sample, its post part ends POST samples later, FOLD_GRP_TRIG holds the sample and FOLD_GRP_STATUS.TRIG is
set. Otherwise it ignores the trigger: TRIG_GRP_IGN rises by 1, saturating, and its state and segment stay. A force that named
that group alone completes OK with the mask of the groups that accepted and its sample; with no force no command completes.
Where neither a fire nor a force reaches the group, or its trigger of that sample has been presented, only its own changes are
made; a group that is ARMED or stopped has none. (R156, R148, R149, R170, R174) -/
def Obligations.ForcedTriggerIsPresented : Prop :=
  (∀ (h : CmdHdr) (groups : BitVec 16) (sf : Sample) (s : State), s.starts h (forceTriggerChecks h groups s) →
    ∃ t, exec (.forceTrigger h groups sf) s = .next t ∧ t.cmd = s.running h 0x0303 groups.toNat 0 ∧
      t.trig = { s.trig with forces := s.trig.forces ++
        [{ ring := h.ring, cid := h.cid, sample := actSample s sf, groups := groups, accepted := 0, anyfill := h.cflags.getLsbD 0 }] } ∧
      s.sameBut [.cmd, .trig] t) ∧
  (∀ (g : Fin 16) (i : Sample) (s u : State) (d : DeckImage), actDeck s = some d → u = settle s d g i →
    ((grpOf s g).st = .armed ∨ groupDone s g = true → u = s) ∧
    ((firesAt u d g i = [] ∧ forcesAt u g i = []) ∨ u.trig.presented.contains (g.val, i) = true → exec (.triggerAccept g i) s = .next u) ∧
    (u.trig.presented.contains (g.val, i) = false → (firesAt u d g i ≠ [] ∨ forcesAt u g i ≠ []) →
      (∀ seg, (grpOf u g).seg = some seg →
        ((grpOf u g).st = .armed ∨ (grpOf u g).st = .prefill ∧ ∃ f ∈ forcesAt u g i, f.anyfill = true) →
        ∃ t, exec (.triggerAccept g i) s = .next t ∧ (grpOf t g).st = .post ∧
          ((grpOf t g).seg.map fun x => (x.seg, x.epoch, x.trig, x.post, x.postEnd, x.forced)) =
            some (seg.seg, seg.epoch, some i, (grpOf u g).post, i + (grpOf u g).post, !(forcesAt u g i).isEmpty) ∧
          rd64 t (Reg.FOLD_GRP_TRIG_LO g) = i % 2 ^ 64 ∧ flagSet t (Reg.FOLD_GRP_STATUS g) 0 = true ∧
          t.trig.accepted = u.trig.accepted ++ [{ group := g, sample := i, forced := !(forcesAt u g i).isEmpty }] ∧
          (forcesAt u g i = [] → t.cmd = u.cmd) ∧
          (∀ f, forcesAt u g i = [f] → f.groups = BitVec.ofNat 16 (2 ^ g.val) → u.runs f.ring f.cid 0x0303 →
            t.cmd = u.ending f.ring f.cid cOk (f.accepted ||| f.groups).toNat f.sample) ∧
          u.sameBut [.regs, .cmd, .pcie, .log, .trig, .folds] t ∧
          u.regsBut [Reg.FOLD_GRP_TRIG_LO g, Reg.FOLD_GRP_TRIG_LO g + 4, Reg.FOLD_GRP_STATUS g, Reg.PCIE_STATUS] t) ∧
      ((grpOf u g).st ≠ .armed → ¬((grpOf u g).st = .prefill ∧ ∃ f ∈ forcesAt u g i, f.anyfill = true) →
        ∃ t, exec (.triggerAccept g i) s = .next t ∧ (grpOf t g).st = (grpOf u g).st ∧ (grpOf t g).seg = (grpOf u g).seg ∧
          (groupDone u g = true → grpOf t g = grpOf u g) ∧
          rd t (Reg.TRIG_GRP_IGN g) = BitVec.ofNat 32 (min ((rd u (Reg.TRIG_GRP_IGN g)).toNat + 1) 0xFFFFFFFF) ∧
          (forcesAt u g i = [] → t.cmd = u.cmd) ∧
          (∀ f, forcesAt u g i = [f] → f.groups = BitVec.ofNat 16 (2 ^ g.val) → u.runs f.ring f.cid 0x0303 →
            t.cmd = u.ending f.ring f.cid cOk f.accepted.toNat f.sample) ∧
          u.sameBut [.regs, .cmd, .log, .trig, .folds] t ∧ u.regsBut [Reg.TRIG_GRP_IGN g] t)))

/-- SET_POST that starts puts POST, clamped to the group's capacity, in force at the sample i at which it reaches the data path
(its operand, and never one that a row has taken). A group in ARMED, IDLE or STOPPED, in PREFILL, or in HOLDOFF before its re-
arm changes nothing else (a prefill that is complete by i ends). For a segment in POST, the post part then ends POST samples
after its trigger; where that is not after i, it ends at i: the segment closes with its last sample i - 1, in HOLDOFF, or in
STOPPED after the last segment. Other groups are as before. SET_POST completes OK, or with POST_CLAMPED, with the POST in
force. FOLD_STATUS that starts delivers one 64-byte record for each named group, ascending, as many as fit, after the named
groups have made the changes due up to its sample, and completes with their number: BUFFER_FULL where some do not fit. A
record holds the group, its state, its flags, its closed segments, TRIG_GRP_IGN, POST, FOLD_GRP_TRIG, its last stored sample,
its epoch and TRIG_GRP_REC at the bytes of Table 15-8. (R173, R172, R189, R353) -/
def Obligations.SetPostAndFoldStatus : Prop :=
  (∀ (h : CmdHdr) (group : Byte) (post : BitVec 64) (sc i : Sample) (s : State) (d : DeckImage) (g p : Nat) (x : GroupSt),
    s.starts h (setPostChecks h group post s) → actDeck s = some d → i = actSample s sc → g = group.toNat →
    p = clampPost d g post.toNat → x = grpOf s g →
    ∃ t, exec (.setPost h group post sc) s = .next t ∧ (grpOf t g).post = p ∧
      t.cmd = s.completing h (if p = post.toNat then cOk else cClamped) p p ∧
      (p ≠ post.toNat → flagSet t (Reg.FOLD_GRP_STATUS g) 5 = true) ∧
      (x.st = .armed ∨ groupDone s g = true → grpOf t g = { x with post := p }) ∧
      (∀ seg, x.st = .prefill → x.seg = some seg →
        grpOf t g = { x with post := p, st := if seg.epoch + gPre d g ≤ i then .armed else .prefill }) ∧
      (x.st = .holdoff → (∀ sr, rearmAt s g = some sr → i < sr) → grpOf t g = { x with post := p }) ∧
      (∀ seg j, x.st = .post → x.seg = some seg → seg.trig = some j → i < seg.postEnd →
        (i < j + p → grpOf t g = { x with post := p, seg := some { seg with post := p, postEnd := j + p } }) ∧
        (j + p ≤ i → grpOf t g = { x with
          post := p, seg := none, lastSeg := some { seg with post := p, postEnd := i }, closed := x.closed + 1,
          closing := some (i - 1, 0), st := if gSegments d g ≤ x.closed + 1 then .stopped else .holdoff })) ∧
      (∀ g', g' ≠ g → grpOf t g' = grpOf s g') ∧
      s.sameBut [.regs, .free, .cmd, .pcie, .log, .mem, .deck, .recog, .hands, .trig, .folds, .comp, .shep] t) ∧
  (∀ (h : CmdHdr) (groups : BitVec 16) (dest : BitVec 64) (at_ : Sample) (s : State) (d : DeckImage),
    s.starts h (foldStatusChecks h groups dest s) → actDeck s = some d →
    ∃ t u n, exec (.foldStatus h groups dest at_) s = .next t ∧ u = settleAll s d (maskGroups groups) at_ ∧
      n = min (maskGroups groups).length (segsLen (bufList s dest) / 64) ∧
      t.cmd = s.completing h (if n < (maskGroups groups).length then cBufferFull else cOk) n at_ ∧
      t.mem = (putBuf u (bufList u dest) (((maskGroups groups).take n).flatMap (statusRecord u))).mem ∧
      u.sameBut [.cmd, .mem] t ∧ ((∀ g ∈ maskGroups groups, groupDone s g = true) → u = s)) ∧
  (∀ (s : State) (g : Nat) (d : DeckImage) (field : Nat → Nat → Nat), actDeck s = some d →
    field = (fun k n => leNat (((statusRecord s g).drop k).take n)) →
    (statusRecord s g).length = 64 ∧ field 0 1 = g % 256 ∧ field 1 1 = groupCode (grpOf s g).st ∧ field 2 2 = 0 ∧
    field 4 4 = rdF s (Reg.FOLD_GRP_STATUS g) 23 0 ∧ field 8 4 = (grpOf s g).closed % 2 ^ 32 ∧
    field 12 4 = (rd s (Reg.TRIG_GRP_IGN g)).toNat ∧ field 16 8 = (grpOf s g).post % 2 ^ 64 ∧
    field 24 8 = rd64 s (Reg.FOLD_GRP_TRIG_LO g) ∧ field 32 8 = groupLast s d g % 2 ^ 64 ∧ field 40 8 = (grpOf s g).epoch % 2 ^ 64 ∧
    field 48 4 = (rd s (Reg.TRIG_GRP_REC g)).toNat ∧ field 52 12 = 0)

/-- SEGMENT_CLOSE of a group in POST ends the segment at the last sample of its post part, and of a group whose ended segment is
still to be written it writes that segment: the segment is among the closed ones and none is left to write. The group is in
HOLDOFF, or in STOPPED with SEGS_DONE after its last segment (one that ended before keeps its state), FOLD_GRP_LAST holds the
last sample and SEG_DONE is set; or a fold found no room for what it still had to store, and the group is in STOPPED_OVF with
OVF set. Where all its folds are raw FULL, the first holds. A group with neither is as before. HOLDOFF_END at s_r opens the
next segment with epoch s_r, in PREFILL or ARMED (a group whose closing segment overflows is in STOPPED_OVF instead); a group
that a waiting re-deal names waits for it; a group that is not in HOLDOFF, or whose s_r is not known, is as before. The other
groups are as before. (R174, R175, R181, R169, R78) -/
def Obligations.SegmentsCloseAndReopen : Prop :=
  ∀ (g : Fin 16) (s : State) (d : DeckImage) (x : GroupSt), actDeck s = some d → x = grpOf s g →
    (∀ seg last extra, (x.st = .post ∧ x.seg = some seg ∧ seg.trig.isSome = true ∧ last = seg.postEnd - 1 ∧ extra = 0) ∨
        (x.st ≠ .post ∧ x.lastSeg = some seg ∧ x.closing = some (last, extra)) →
      ∃ t, exec (.segmentClose g) s = .next t ∧ (grpOf t g).closing = none ∧
        (grpOf t g).closed = (if x.st = .post then x.closed + 1 else x.closed) ∧
        (((grpOf t g).st = (if x.st = .post then (if gSegments d g ≤ x.closed + 1 then .stopped else .holdoff) else x.st) ∧
            rd64 t (Reg.FOLD_GRP_LAST_LO g) = last % 2 ^ 64 ∧ flagSet t (Reg.FOLD_GRP_STATUS g) 1 = true) ∨
          ((grpOf t g).st = .stoppedOvf ∧ flagSet t (Reg.FOLD_GRP_STATUS g) 3 = true ∧
            ∃ f ∈ gFolds d g, ¬(fRed d f = 0 ∧ fIsComp d f = false))) ∧
        (x.st = .post → gSegments d g ≤ x.closed + 1 → flagSet t (Reg.FOLD_GRP_STATUS g) 2 = true) ∧
        (∀ g', g' ≠ g.val → grpOf t g' = grpOf s g') ∧
        s.sameBut [.regs, .free, .pcie, .log, .mem, .deck, .hands, .folds, .comp, .shep] t) ∧
    (x.st ≠ .post → x.closing = none → exec (.segmentClose g) s = .next s) ∧
    (∀ sr, x.st = .holdoff → rearmAt s g = some sr →
      (redealNames s g = false → ∃ t, exec (.holdoffEnd g) s = .next t ∧
        (((grpOf t g).st = (if gPre d g = 0 then .armed else .prefill) ∧ (grpOf t g).epoch = sr ∧
            (grpOf t g).seg = some { seg := x.closed, epoch := sr }) ∨
          (x.closing.isSome = true ∧ (grpOf t g).st = .stoppedOvf)) ∧
        (grpOf t g).closing = none ∧ (grpOf t g).post = x.post ∧ (∀ g', g' ≠ g.val → grpOf t g' = grpOf s g') ∧
        s.sameBut [.regs, .free, .pcie, .log, .mem, .deck, .recog, .hands, .trig, .folds, .comp, .shep] t) ∧
      (∀ r, redealNames s g = true → s.deck.redeal = some r → exec (.holdoffEnd g) s = .next (s.setDeck { s.deck with
        redeal := some { r with waiting := assocSet r.waiting g sr } }))) ∧
    (x.st ≠ .holdoff ∨ rearmAt s g = none → exec (.holdoffEnd g) s = .next s)

/-- FOLD_OVERFLOW of a fold at sample s_o, once its group has made its own changes up to s_o: with cause RATE in a group that
stores data, or with cause SPACE in POST of a fold that has no capacity or is compressed, the group stops: it is in
STOPPED_OVF with no open segment and none left to write, the open segment is one of the closed ones, and FOLD_GRP_STATUS.OVF
is set and logged as an error of class D. In any other case there is no overflow and nothing changes. (R181, R182) -/
def Obligations.OverflowStopsTheGroup : Prop :=
  ∀ (f : Fin 64) (cause : Byte) (so : Sample) (s u : State) (d : DeckImage) (g : Nat), actDeck s = some d → fV d f = true →
    g = fGroup d f → u = settle s d g so →
    ((grpOf s g).st = .armed ∨ groupDone s g = true → u = s) ∧
    (cause = 1 ∧ storing u g = true ∨ cause = 2 ∧ (grpOf u g).st = .post ∧ (foldCap d f = none ∨ fIsComp d f = true) →
      ∃ t, exec (.foldOverflow f cause so) s = .next t ∧ (grpOf t g).st = .stoppedOvf ∧
        (grpOf t g).seg = none ∧ (grpOf t g).closing = none ∧ flagSet t (Reg.FOLD_GRP_STATUS g) 3 = true ∧
        ((grpOf u g).closing = none → (grpOf u g).seg.isSome = true → (grpOf t g).closed = (grpOf u g).closed + 1) ∧
        (t.newestLog.map fun e => (e.event, e.cls)) = some (1, 2) ∧ (∀ g', g' ≠ g → grpOf t g' = grpOf u g') ∧
        u.sameBut [.regs, .free, .pcie, .log, .mem, .deck, .hands, .folds, .comp, .shep] t) ∧
    (¬(cause = 1 ∧ storing u g = true ∨ cause = 2 ∧ (grpOf u g).st = .post ∧ (foldCap d f = none ∨ fIsComp d f = true)) →
      exec (.foldOverflow f cause so) s = .next s)

/-- CAPTURE_PAGE_STORE of a page of a raw FULL fold whose segment it belongs to, and which neither stands nor has been passed
over, makes it one of the fold's retained units, with its first and last sample, its place in the ring, and the CRC-32C of its
4,096 bytes as its brand; the page whose place it takes is dropped. Where no row was blocked and no page of HBM is
quarantined, the page's bytes stand in HBM at its place; every byte of HBM outside the page, its brand entry and its void
entry is as before. A page of a fold whose group stores nothing changes nothing. (R171, R101, R178, R102) -/
def Obligations.RawPagesAreStoredInTheirRing : Prop :=
  ∀ (f : Fin 64) (inst j : Nat) (s : State) (d : DeckImage), actDeck s = some d →
    (hasSegment s (fGroup d f) = false → exec (.capturePageStore f inst j) s = .next s) ∧
    (∀ (fs : FoldSt) (n base : Nat), fs = foldOf s f → n = unitSeq d f fs inst j →
      base = dataBase d f fs.seg + 4096 * (n % ringPages d f) →
      fV d f = true → fRed d f = 0 → fIsComp d f = false → hasSegment s (fGroup d f) = true → inst < fNinst d f →
      fs.epoch ≤ pageLast d j → (∀ e, segEnd s (fGroup d f) = some e → pageFirst d j ≤ e) →
      (∀ u ∈ fs.units, unitSeq d f fs u.inst u.num ≠ n ∧ unitSeq d f fs u.inst u.num < n + ringPages d f) →
      ∃ t u, exec (.capturePageStore f inst j) s = .next t ∧ u ∈ (foldOf t f).units ∧ u.inst = inst ∧ u.num = j ∧
        u.first = pageFirst d j ∧ u.last = pageLast d j ∧ u.ofs = 4096 * (n % ringPages d f) ∧ u.len = 4096 ∧
        u.brand = crc32c (pageBytes s d (foldInst d f inst) j) ∧
        (∀ v ∈ (foldOf t f).units, v = u ∨ v ∈ fs.units ∧ n < unitSeq d f fs v.inst v.num + ringPages d f) ∧
        (s.shep.pageQuar = [] →
          (∀ a, ¬s.inLogical d f base 4096 a → ¬s.inLogical d f (brandBase d f fs.seg + 8 * (n % ringPages d f)) 8 a →
            ¬s.inLogical d f (voidBase d f fs.seg + 16 * (n % ringPages d f)) 16 a →
            memByte t.mem.hbm a = memByte s.mem.hbm a) ∧
          (∀ k < 4096, blockedRows s (engQuad (foldInst d f inst).1) f inst j 32 = [] → base % extentSize + 4096 ≤ extentSize →
            ¬s.inLogical d f (brandBase d f fs.seg + 8 * (n % ringPages d f)) 8 (foldAddr s d f base + k) →
            ¬s.inLogical d f (voidBase d f fs.seg + 16 * (n % ringPages d f)) 16 (foldAddr s d f base + k) →
            memByte t.mem.hbm (foldAddr s d f base + k) = ((pageBytes s d (foldInst d f inst) j).drop k).headD 0)) ∧
        s.sameBut [.mem, .deck, .folds] t)

/-- WINDOW_RECORD of the next window of a step of a DENSITY or ENVELOPE fold, whose segment reaches its end, makes the window
after it the next where the fold has room, and its record is the newest of the record page in progress or stored with that
page; a fold without room overflows. A window that is not the next changes nothing. COMPRESSED_BLOCK_OUT of an engine whose
fold has a segment takes the next capture pages of its open page: eight, or fewer where the page's 256 or the segment end.
CMP_IN counts 4,096 bytes for each; with the last of them the page ends and the next range is open. An engine with no page
left to take ends the page that it holds, or changes nothing; a fold that finds no room for its output stops with its group.
(R185, R195, R198, R200, R181) -/
def Obligations.WindowsAndBlocksMoveOn : Prop :=
  (∀ (f : Fin 64) (n w : Nat) (s : State) (d : DeckImage) (b : Sample), actDeck s = some d → fV d f = true →
    (fRed d f = 2 ∨ fRed d f = 3) → n < fNinst d f → hasSegment s (fGroup d f) = true →
    b = (foldOf s f).epoch + (w + 1) * fWindow d f - 1 → (∀ e, segEnd s (fGroup d f) = some e → b ≤ e) →
    (tabGet 0 (foldOf s f).nextWin n ≠ w → exec (.windowRecord f n w) s = .next s) ∧
    (tabGet 0 (foldOf s f).nextWin n = w →
      (∀ v, addWindow d f (keepFrom s d (fGroup d f)) n w b s = .ok v →
        ∃ t, exec (.windowRecord f n w) s = .next t ∧ tabGet 0 (foldOf t f).nextWin n = w + 1 ∧
          ((foldOf s f).recs.length + 1 < pageCap d f → (foldOf t f).recs =
            windowRec s d f n w ((foldOf s f).epoch + w * fWindow d f) b :: (foldOf s f).recs ∧ t.mem = s.mem) ∧
          s.sameBut [.mem, .deck, .folds] t) ∧
      (∀ c, addWindow d f (keepFrom s d (fGroup d f)) n w b s = .error c →
        exec (.windowRecord f n w) s = .next (stopOvf s d (fGroup d f) f c ((foldOf s f).epoch + w * fWindow d f))))) ∧
  (∀ (e : Fin 64) (chk : EngineCheck) (s u : State) (d : DeckImage) (p : CompPage) (left n : Nat) (o : Option (Nat × Sample)),
    actDeck s = some d → cmpV d e = true →
    fIsComp d (cmpFold d e) = true → hasSegment s (fGroup d (cmpFold d e)) = true →
    p = compPage s d (cmpFold d e) (cmpSub d e) e → left = compLeft d (cmpSub d e) p (segEnd s (fGroup d (cmpFold d e))) → n = min 8 left →
    (u, o) = compStep s d (cmpFold d e) (cmpSub d e) e chk (segEnd s (fGroup d (cmpFold d e))) →
    (n = 0 → p.pages = 0 → exec (.compressedBlockOut e chk) s = .next s) ∧
    (o = none → 0 < n ∨ 0 < p.pages →
      ∃ t q, exec (.compressedBlockOut e chk) s = .next t ∧ assoc t.comp.pages e = some q ∧
        rd64 t (Reg.CMP_IN_LO e) = (rd64 s (Reg.CMP_IN_LO e) + 4096 * n) % 2 ^ 64 ∧
        (p.pages + n ≠ 256 ∧ n ≠ left → q.m = p.m ∧ q.pages = p.pages + n) ∧
        (p.pages + n = 256 ∨ n = left → q.m = p.m + 1 ∧ q.pages = 0) ∧
        s.sameBut [.regs, .free, .pcie, .log, .mem, .deck, .folds, .comp, .shep] t) ∧
    (∀ c i, o = some (c, i) →
      exec (.compressedBlockOut e chk) s = .next (stopOvf u d (fGroup d (cmpFold d e)) (cmpFold d e) c i)))

/-- HAND_FIRE of hand h at sample i, while no measurement runs: once the groups that arm it have made their own changes up to i,
the hand evaluates, in order, every sample up to i that it has not evaluated; a hand that is not in RUN, or that a parity
failure has stopped, passes them over. At a sample that is its next, where a valid branch's condition pauses, the hand only
counts the sample in HAND_PAUSE_CNT. Else every valid branch whose condition holds counts, and the lowest that has reached its
COUNT fires: the trick becomes NEXT, also where it halts, its branch counts, flags, hand counters, HT and state change as its
action says, the trigger network takes it up, HAND_FIRE_CNT rises and HAND_LAST holds i; where none fires the trick stays.
HAND_TIMER_EXPIRY is the evaluation up to a sample at which HT has expired, and changes nothing before. HAND_PARITY, once the
hand has evaluated its samples up to now, stops the hand with PARITY set, and puts it in FAULT with QUAR set where a failure
came within 1 s before; of a hand that is not enabled or in FAULT it changes nothing. (R140, R142, R145, R146, R147, R157,
R158) -/
def Obligations.HandFiresItsLowestBranch : Prop :=
  (∀ (h : Fin 32) (i : Sample) (s a u : State) (d : DeckImage) (x : HandSt) (met : Nat → Bool),
    actDeck s = some d → a = (bitsOf 16 (hArmGroups d h)).foldl (fun s g => settle s d g i) s → u = noteEval a d i → x = handOf u h →
    (∀ m < 4, (measOf s m).run = none) →
    (∀ b, met b = (brV d h x.trick b && (condAt u d h x.trick i b).res &&
      decide (brCount d h x.trick b ≤ min ((x.bc.drop b).head?.getD 0 + 1) 0xFFFFFFFF))) →
    (x.st ≠ .run ∨ x.stopped = true →
      ∃ t, exec (.handFire h i) s = .next t ∧ handOf t h = { x with next := max x.next (i + 1) } ∧ u.sameBut [.hands] t) ∧
    (x.st = .run → x.stopped = false →
      exec (.handFire h i) s = .next (stepN (handEval d h) i (i + 1 - x.next) u)) ∧
    (x.next = i → x.st = .run → x.stopped = false →
      ((∃ b < 4, brV d h x.trick b = true ∧ (condAt u d h x.trick i b).pause = true) →
        ∃ t, exec (.handFire h i) s = .next t ∧ handOf t h = { x with next := i + 1 } ∧
          rd t (Reg.HAND_PAUSE_CNT h) = satAdd (rd u (Reg.HAND_PAUSE_CNT h)) 1 ∧ u.sameBut [.hands, .regs] t) ∧
      ((∀ b < 4, brV d h x.trick b = true → (condAt u d h x.trick i b).pause = false) →
        ((∀ b < 4, met b = false) →
          ∃ t, exec (.handFire h i) s = .next t ∧ handOf t h = { x with
            next := i + 1
            bc := (List.range 4).map fun b => let v := (x.bc.drop b).head?.getD 0
              if brV d h x.trick b && (condAt u d h x.trick i b).res then min (v + 1) 0xFFFFFFFF else v } ∧ u.sameBut [.hands] t) ∧
        (∀ b < 4, met b = true → (∀ a < b, met a = false) →
          ∃ t, exec (.handFire h i) s = .next t ∧
            (handOf t h).trick = (if nbits (brFlow d h x.trick b) 4 0 = 16 then x.trick else nbits (brFlow d h x.trick b) 4 0) ∧
            (nbits (brFlow d h x.trick b) 4 0 ≠ 16 → (handOf t h).bc = [0, 0, 0, 0]) ∧
            (handOf t h).st = (if nbit (brFlow d h x.trick b) 5 then .halted else .run) ∧
            (handOf t h).flags = flagOp (brAct d h x.trick b) x.flags ∧
            (handOf t h).hc0 = hcOp (nbits (brAct d h x.trick b) 26 25) x.hc0 ∧
            (handOf t h).hc1 = hcOp (nbits (brAct d h x.trick b) 28 27) x.hc1 ∧
            (handOf t h).ht = (match nbits (brAct d h x.trick b) 30 29 with
              | 1 => some (x.ht.getD (gridT u i))
              | 2 => some (gridT u i)
              | 3 => none
              | _ => x.ht) ∧ (handOf t h).next = i + 1 ∧
            t.trig = { u.trig with fires := u.trig.fires ++ [fireOf u d h i b (condAt u d h x.trick i b)] } ∧
            rd t (Reg.HAND_FIRE_CNT h) = satAdd (rd u (Reg.HAND_FIRE_CNT h)) 1 ∧ rd64 t (Reg.HAND_LAST_LO h) = i % 2 ^ 64 ∧
            (∀ k, k ≠ h.val → handOf t k = handOf u k) ∧ u.sameBut [.regs, .pcie, .hands, .trig] t)))) ∧
  (∀ (h : Fin 32) (i : Sample) (s : State) (d : DeckImage), actDeck s = some d →
    ((handOf s h).ht = none → exec (.handTimerExpiry h i) s = .next s) ∧
    (∀ a, (handOf s h).ht = some a → exec (.handTimerExpiry h i) s =
      if a + nsT (hHtLimit d h) ≤ gridT s i then exec (.handFire h i) s else .next s)) ∧
  (∀ (h : Fin 32) (s u : State) (d : DeckImage), actDeck s = some d →
    u = (if (handOf s h).next < handCount s then handRun d h (handCount s - 1) s else s) →
    (hEn d h = false ∨ (handOf u h).st = .fault → exec (.handParity h) s = .next s) ∧
    (hEn d h = true → (handOf u h).st ≠ .fault →
      ((∀ t, (handOf u h).lastFail = some t → t + nsT 1000000000 ≤ s.tb.now) →
        ∃ t, exec (.handParity h) s = .next t ∧ handOf t h = { handOf u h with stopped := true, lastFail := some s.tb.now } ∧
          flagSet t (Reg.HAND_STATUS h) 2 = true ∧ (t.newestLog.map LogEntry.cls) = some 2 ∧
          u.sameBut [.regs, .pcie, .log, .hands] t) ∧
      (∀ f, (handOf u h).lastFail = some f → s.tb.now < f + nsT 1000000000 →
        ∃ t, exec (.handParity h) s = .next t ∧ handOf t h = { handOf u h with st := .fault, lastFail := some s.tb.now } ∧
          flagSet t (Reg.HAND_STATUS h) 3 = true ∧ (t.newestLog.map LogEntry.cls) = some 3 ∧
          u.sameBut [.regs, .pcie, .log, .hands] t)))

/-- COUNTER_TARGET_REACHED and TIMER_EXPIRY of an enabled recognizer, while no measurement runs, have every enabled counter and
timer take every sample up to i that it has not taken; of one that is not enabled they change nothing. Where all of them have
taken the sample before i, counter n takes i: a clear first, then the increment, saturating at 2^48 - 1, and its RES at i says
whether COUNT has reached TARGET. A timer takes it: a stop first, then a start, and RES says whether START + LIMIT has come.
COUNTER_FEED_LATE of a FEED counter adds the increment to COUNT at once, unless the counter has taken it with its sample
already, counts it in TRIG_LATE_CNT and sets FEED_LATE; of another counter it changes nothing. RECOG_SLICE_PARITY sets
SLICE_PARITY and logs it as class D; from the next sample that is evaluated on the recognizer, where it is enabled, gives RES
0 with PAUSE, and at earlier samples what it gave. (That a slice holds one recognizer's settings is the model's choice,
notes/assumptions/27.md.) (R113, R114, R115, R120) -/
def Obligations.CountersTimersAndSlices : Prop :=
  (∀ (n : Fin 64) (i l : Sample) (s : State) (d : DeckImage) (c : CounterSt) (v : Nat), actDeck s = some d →
    (∀ m < 4, (measOf s m).run = none) → c = counterOf s n → i = l + 1 →
    v = min ((if rSrcB d (0x140 + n) ≠ 0x3FF ∧ (recSimple s d (rSrcB d (0x140 + n)) i).res = true then 0 else c.count.toNat) +
      cntInc s d n i c) cntMax →
    (recEn d (0x140 + n) = true → exec (.counterTargetReached n i) s = .next (noteEval s d i) ∧
      ((∀ k < 64, recEn d (0x140 + k) = true → (counterOf s k).last = some l) →
        (∀ k < 32, recEn d (0x180 + k) = true → (timerOf s k).last = some l) → (∀ r ∈ c.results, r.from_ ≤ l) →
        slicePaused s (0x140 + n) i = false →
        (counterOf (noteEval s d i) n).count.toNat = v ∧ (recAt (noteEval s d i) d (0x140 + n) i).res = decide (cntTarget d n ≤ v) ∧
        s.sameBut [.regs, .pcie, .recog] (noteEval s d i))) ∧
    (recEn d (0x140 + n) = false → exec (.counterTargetReached n i) s = .next s)) ∧
  (∀ (n : Fin 32) (i l : Sample) (s : State) (d : DeckImage) (x : TimerSt) (st : Option Time), actDeck s = some d →
    (∀ m < 4, (measOf s m).run = none) → x = timerOf s n → i = l + 1 →
    st = (if rSrcB d (0x180 + n) ≠ 0x3FF ∧ (recSimple s d (rSrcB d (0x180 + n)) i).res = true then none else x.start) →
    (recEn d (0x180 + n) = true → exec (.timerExpiry n i) s = .next (noteEval s d i) ∧
      ((∀ k < 64, recEn d (0x140 + k) = true → (counterOf s k).last = some l) →
        (∀ k < 32, recEn d (0x180 + k) = true → (timerOf s k).last = some l) → (∀ r ∈ x.results, r.from_ ≤ l) →
        slicePaused s (0x180 + n) i = false →
        (timerOf (noteEval s d i) n).start =
          (if (recSimple s d (rSrcA d (0x180 + n)) i).res && (st.isNone || nbit (recCtrl d (0x180 + n)) 1)
            then some (gridT s i) else st) ∧
        (recAt (noteEval s d i) d (0x180 + n) i).res = (match (timerOf (noteEval s d i) n).start with
          | some a => decide (a + nsT (tmrLimit d n) ≤ gridT s i)
          | none => false))) ∧
    (recEn d (0x180 + n) = false → exec (.timerExpiry n i) s = .next s)) ∧
  (∀ (n : Fin 64) (i : Sample) (inc : BitVec 48) (s : State) (d : DeckImage), actDeck s = some d →
    (recEn d (0x140 + n) = true → nbits (recCtrl d (0x140 + n)) 2 1 = 2 →
      ∃ t, exec (.counterFeedLate n inc i) s = .next t ∧
        (counterOf t n).count.toNat = (if i + feedLag d < unitNext s (counterOf s n).last then (counterOf s n).count.toNat
          else min ((counterOf s n).count.toNat + inc.toNat) cntMax) ∧
        rdF t Reg.TRIG_LATE_CNT 31 16 = min (rdF s Reg.TRIG_LATE_CNT 31 16 + 1) 0xFFFF ∧
        rdF t Reg.TRIG_LATE_CNT 15 0 = rdF s Reg.TRIG_LATE_CNT 15 0 ∧
        flagSet t Reg.TRIG_REC_STATUS 3 = true ∧ (∀ k, k ≠ n.val → counterOf t k = counterOf s k) ∧
        s.sameBut [.regs, .pcie, .log, .recog] t) ∧
    (recEn d (0x140 + n) = false ∨ nbits (recCtrl d (0x140 + n)) 2 1 ≠ 2 → exec (.counterFeedLate n inc i) s = .next s)) ∧
  (∀ (r : Fin 450) (s : State) (d : DeckImage), actDeck s = some d →
    ∃ t, exec (.recogSliceParity r) s = .next t ∧ flagSet t Reg.TRIG_REC_STATUS 0 = true ∧
      (t.newestLog.map fun e => (e.event, e.cls)) = some (1, 2) ∧
      (∀ i, recAt t d r i = if recEn d r = true ∧ evalNext s ≤ i then { pause := true } else recAt s d r i) ∧
      s.sameBut [.regs, .pcie, .log, .recog] t)

/-- TRIGGER_RECORD_WRITE of a sample at which one group, with a route, accepted and no hand has an event record to write puts one
line of the seven record words into the group's queue, where that is ON and empty; of a force that no hand joins, word 0 has
RTYPE 1, GROUP and FORCED and no other bit. TRIG_GRP_REC rises by 1. A group without a route has no record. TRIG_OUT_PULSE,
where TRIG_OUT is enabled and a branch with TOUT fired at the sample, or a force took effect there and FORCE_OUT is set,
drives the pin for W + 1 fclk with the settings in force, high where POL is 0; a pulse that stands goes on to the new pulse's
end. Otherwise it changes nothing. TRIG_OUT_PULSE_END ends a pulse in its last fclk. (R154, R155, R156, R160, R150, R151) -/
def Obligations.TriggersAreRecordedAndPulsed : Prop :=
  (∀ (i : Sample) (s : State) (d : DeckImage) (a : Accepted), actDeck s = some d →
    s.trig.accepted.filter (fun a => a.sample == i) = [a] → (∀ f ∈ s.trig.fires, f.sample = i → f.evt = none) →
    (∀ q, route d a.group = some q → eqOn s q = true → eqOf s q = {} →
      ∃ t, exec (.triggerRecordWrite i) s = .next t ∧
        (eqOf t q).fill = [⟨(triggerRecord s d a.group i a.forced).1, false, false, false, true, 28, 0⟩] ∧ (eqOf t q).lseq = 1 ∧ (eqOf t q).opens = [] ∧
        (firesAt s d a.group i = [] → (triggerRecord s d a.group i a.forced).1 =
          recordWords (BitVec.ofNat 32 (2 ^ 28 + a.group.val * 2 ^ 24 + 2 ^ 11)) (trigWord s none i) 0 0 0) ∧
        rd t (Reg.TRIG_GRP_REC a.group) = satAdd (rd s (Reg.TRIG_GRP_REC a.group)) 1 ∧
        (∀ x ∈ t.trig.accepted, x.sample ≠ i) ∧ s.sameBut [.regs, .pcie, .eq, .trig] t) ∧
    (route d a.group = none → ∃ t, exec (.triggerRecordWrite i) s = .next t ∧ s.sameBut [.trig] t)) ∧
  (∀ (i : Sample) (s : State) (c : Word) (due : Prop) (len : Nat), c = rd s Reg.TRIG_OUT_CTRL → len = nbits c.toNat 15 8 + 1 →
    due = (c.getLsbD 0 = true ∧ ((∃ f ∈ s.trig.fires, f.sample = i ∧ f.tout = true) ∨
      c.getLsbD 2 = true ∧ ∃ f ∈ s.trig.forces, f.sample = i)) →
    (due → s.trig.out = none → ∃ t, exec (.trigOutPulse i) s = .next t ∧ t.trig = { s.trig with out := some len, outCtrl := c } ∧
      trigOutPin t = !c.getLsbD 1 ∧ s.sameBut [.trig] t) ∧
    (∀ n, due → s.trig.out = some n →
      exec (.trigOutPulse i) s = .next (s.modTrig (fun x => { x with out := some (max n len) }))) ∧
    (¬due → exec (.trigOutPulse i) s = .next s)) ∧
  (∀ (s : State) (n : Nat), s.trig.out = some n → exec .trigOutPulseEnd s =
    .next (if 1 < n then s else s.modTrig (fun x => { x with out := none }))) ∧
  (∀ s : State, s.trig.out = none → exec .trigOutPulseEnd s = .next s)

/-- A word of a producer, at a queue that is ON and does not ignore that producer's item, joins its open line, or opens one where
the queue is not full; the line closes with its seventh or its item's last word, behind the closed lines, with EOI, OVR, CUT,
its BYTES and the next LSEQ. A word that would open a line of a full queue is ignored and counted, and sets FULL; no line
changes. A timeout closes the open line with TMO, after a word that comes in the same cycle, with EOI where that word ends its
item. A pop delivers the oldest closed line's tag and removes the line, or delivers 0 where there is none; lines found with an
uncorrectable error are discarded first, and set ECC_UE. A flush by the master that owns the queue discards every open line
and leaves the closed ones. (R395, R396, R397, R398, R399, R400) -/
def Obligations.EventQueuesKeepWholeLines : Prop :=
  (∀ (q : Fin 32) (owner : BitVec 12) (w : Word) (bytes : Fin 5) (s : State) (e : EqSt) (ws : List Word), eqOn s q = true →
    e = eqSwap (eqOf s q) → e.dropping.contains owner = false → ws = w :: ((eqOpen e owner).map OpenLine.words).getD [] →
    ((eqOpen e owner).isSome = true ∨ eqFull e = false →
      (bytes = 0 → ws.length < 7 → ∃ t, exec (.eqProducerWord q owner w bytes) s = .next t ∧
        (eqOpen (eqOf t q) owner).map OpenLine.words = some ws ∧ (eqOf t q).fill = e.fill ∧ (eqOf t q).drain = e.drain ∧
        s.sameBut [.regs, .pcie, .eq] t) ∧
      (bytes ≠ 0 ∨ 7 ≤ ws.length → ∃ t, exec (.eqProducerWord q owner w bytes) s = .next t ∧
        (eqOf t q).fill = e.fill ++ [⟨(ws.reverse ++ List.replicate 7 0).take 7, e.ovr, e.cut, false, bytes != 0,
          4 * (ws.length - 1) + (if bytes = 0 then 4 else bytes.val), e.lseq⟩] ∧
        (eqOf t q).lseq = e.lseq + 1 ∧ eqOpen (eqOf t q) owner = none ∧ (eqOf t q).drain = e.drain ∧
        s.sameBut [.regs, .pcie, .eq] t)) ∧
    (eqOpen e owner = none → eqFull e = true → ∃ t, exec (.eqProducerWord q owner w bytes) s = .next t ∧
      rd t (Reg.EQ_DROP_CNT q) = satAdd (rd s (Reg.EQ_DROP_CNT q)) 1 ∧ flagSet t (Reg.EQ_STATUS q) 1 = true ∧
      (eqOf t q).fill = e.fill ∧ (eqOf t q).drain = e.drain ∧ (eqOf t q).opens = e.opens ∧ (eqOf t q).ovr = true ∧
      ((eqOf t q).dropping.contains owner = true ↔ bytes = 0) ∧ s.sameBut [.regs, .pcie, .eq] t)) ∧
  (∀ (q : Fin 32) (owner : BitVec 12) (s : State) (l : OpenLine), eqOn s q = true → eqOpen (eqOf s q) owner = some l →
    (∃ t, exec (.eqLineTimeout q owner none) s = .next t ∧ eqOpen (eqOf t q) owner = none ∧
      ((eqOf t q).fill.map fun x => (x.words, x.tmo, x.eoi, x.bytes, x.lseq)) =
        ((eqOf s q).fill.map fun x => (x.words, x.tmo, x.eoi, x.bytes, x.lseq)) ++
          [((l.words.reverse ++ List.replicate 7 0).take 7, true, false, 4 * (l.words.length - 1) + 4, (eqOf s q).lseq)] ∧
      s.sameBut [.regs, .pcie, .eq] t) ∧
    (∀ (w : Word) (b : Fin 5), ∃ t, exec (.eqLineTimeout q owner (some (w, b))) s = .next t ∧ eqOpen (eqOf t q) owner = none ∧
      ((eqOf t q).fill.map fun x => (x.words, x.tmo, x.eoi, x.bytes, x.lseq)) =
        ((eqOf s q).fill.map fun x => (x.words, x.tmo, x.eoi, x.bytes, x.lseq)) ++
          [(((w :: l.words).reverse ++ List.replicate 7 0).take 7, true, b != 0,
            4 * l.words.length + (if b = 0 then 4 else b.val), (eqOf s q).lseq)] ∧
      s.sameBut [.regs, .pcie, .eq] t)) ∧
  (∀ (q : Fin 32) (owner : BitVec 12) (word : Option (Word × Fin 5)) (s : State), eqOn s q = false →
    exec (.eqLineTimeout q owner word) s = .next s) ∧
  (∀ (m : Master) (q : Fin 32) (bad : Fin 129) (s : State) (e : EqSt), e = eqSwap (eqSpoil (eqOf s q) bad) →
    (m = .host → s.pcie.d3hot = false) →
    ∃ t, exec (.eqPop m q bad) s = .next t ∧ eqOf t q = { e with drain := e.drain.tail } ∧
      t.reply = .data (leBytes 4 (match e.drain with | [] => 0 | l :: _ => (lineTag l).toNat)) ∧
      (0 < bad.val → eqDepth (eqOf s q) ≠ 0 → flagSet t (Reg.EQ_STATUS q) 3 = true) ∧
      (∀ k, k ≠ q.val → eqOf t k = eqOf s k) ∧ s.sameBut [.regs, .pcie, .log, .eq, .host, .shepM, .reply] t ∧
      (bad = 0 → s.sameBut [.regs, .pcie, .eq, .host, .shepM, .reply] t)) ∧
  (∀ (m : Master) (q : Fin 32) (s : State) (e : EqSt), e = eqSwap (eqOf s q) → (m = .host → s.pcie.d3hot = false) →
    ownerLets m s (Reg.EQ_CTRL q) = true → blkEn s (Reg.EQ_CTRL q) = true → blkState s (Reg.EQ_CTRL q) = stOn →
    ∃ t, exec (.eqFlush m q) s = .next t ∧ (eqOf t q).opens = [] ∧ (eqOf t q).fill = e.fill ∧ (eqOf t q).drain = e.drain ∧
      (e.opens = [] → e.part = [] → (eqOf t q).cut = e.cut) ∧
      (e.opens ≠ [] → (eqOf t q).cut = true ∧ flagSet t (Reg.EQ_STATUS q) 4 = true) ∧
      (∀ k, k ≠ q.val → eqOf t k = eqOf s k))

/-- FLOCK_INSERT that starts replaces the entry of a key that the table holds; else it takes the first empty way of the key's
candidate buckets, else the end of the chain of displacements, else the first empty stash entry, and completes OK with where
the key is found from then on; where there is none of these it completes with FLOCK_FULL, and the table is as before.
FLOCK_DELETE clears V of the key's entry, or completes with NOT_FOUND. FLOCK_LOOKUP completes with the hit's ACTION, or 0, and
changes nothing but its completion; where a bucket it reads is in error, with MEDIA_ERROR. FLOCK_BULK inserts its entries in
order, in mode 1 into a table whose entries are all cleared, and completes with their number, with FLOCK_FULL at the first
without a place; a list shorter than its entries, or an entry without V or with a reserved bit, makes it complete with FIELD
and no effect. Table and backup agree after every change. (R129, R130, R131, R132, R133, R360) -/
def Obligations.FlockCommandsKeepTheTable : Prop :=
  (∀ (h : CmdHdr) (key : BitVec 96) (action : BitVec 32) (s : State) (T : FlockTab) (e : FlockEntry),
    s.starts h (flockInsertChecks h action s) → T = flockTab s → e = { key := key, action := action } →
    let done (T1 : FlockTab) (p : Bool × Nat) (moves : Nat) (repl : Bool) : Prop :=
      ∃ t, exec (.flockInsert h key action) s = .next t ∧ flockTab t = T1 ∧ flockFind T1 key = some p ∧
        t.cmd = s.completing h cOk (p.2 + (if p.1 then 2 ^ 20 else 0) + moves * 2 ^ 21 + (if repl then 2 ^ 28 else 0)) 0 ∧
        t.flock.backMain = T1.main ∧ t.flock.backStash = T1.stash ∧ t.flock.bad = s.flock.bad ∧
        s.sameBut [.regs, .cmd, .pcie, .flock] t
    (∀ p, flockFind T key = some p → done (flockPut T p e) p 0 true) ∧
    (flockFind T key = none → (∀ n, emptyIn T key [0, 1, 2, 3] = some n → done (setMain T n e) (false, n) 0 false) ∧
      (emptyIn T key [0, 1, 2, 3] = none →
        (∀ T1 k p, flockChain 1 0 e T 64 = some (T1, k) → flockFind T1 key = some p → done T1 p k false) ∧
        (flockChain 1 0 e T 64 = none →
          (∀ n, (List.range 256).find? (fun n => !entryV (stashAt T n)) = some n → done (setStash T n e) (true, n) 0 false) ∧
          ((∀ n < 256, entryV (stashAt T n) = true) →
            ∃ t, exec (.flockInsert h key action) s = .next t ∧ t.cmd = s.completing h cFlockFull 0 0 ∧
              flagSet t Reg.FLOCK_STATUS 1 = true ∧ s.sameBut [.regs, .cmd, .pcie] t))))) ∧
  (∀ (h : CmdHdr) (key : BitVec 96) (s : State), s.starts h (flockDeleteChecks h s) →
    match flockFind (flockTab s) key with
    | some p => ∃ t, exec (.flockDelete h key) s = .next t ∧
        flockTab t = flockPut (flockTab s) p (entryClear (flockGet (flockTab s) p)) ∧ t.flock.backMain = t.flock.main ∧
        t.flock.backStash = t.flock.stash ∧ t.cmd = s.completing h cOk (p.2 + if p.1 then 2 ^ 20 else 0) 0 ∧
        s.sameBut [.regs, .cmd, .pcie, .flock] t
    | none => ∃ t, exec (.flockDelete h key) s = .next t ∧ t.cmd = s.completing h cNotFound 0 0 ∧ s.sameBut [.cmd] t) ∧
  (∀ (h : CmdHdr) (key : BitVec 96) (s : State), s.starts h (flockLookupChecks h) →
    ((∀ i < 4, s.flock.bad.contains (i * 16384 + flockHash i key) = false) → ∃ t, exec (.flockLookup h key) s = .next t ∧
      t.cmd = s.completing h cOk (match flockFind (flockTab s) key with
        | some p => (flockGet (flockTab s) p).action.toNat | none => 0) 0 ∧ s.sameBut [.cmd] t) ∧
    ((∃ i < 4, s.flock.bad.contains (i * 16384 + flockHash i key) = true) → ∃ t, exec (.flockLookup h key) s = .next t ∧
      t.cmd = s.completing h cMedia 0 0 ∧ rd t Reg.FLOCK_ECC_CNT = satAdd (rd s Reg.FLOCK_ECC_CNT) 1 ∧
      flagSet t Reg.FLOCK_STATUS 3 = true ∧ s.sameBut [.regs, .cmd, .pcie, .log] t)) ∧
  (∀ (h : CmdHdr) (mode : Byte) (count : BitVec 32) (src : BitVec 64) (s : State) (es : List FlockEntry) (r : FlockTab × Nat),
    s.starts h (flockBulkChecks h mode count src s) → 16 * count.toNat ≤ segsLen (bufList s src) →
    es = flockEntries count.toNat (segsRead s.mem (bufList s src) (16 * count.toNat)) →
    r = flockSeries (if mode = 1 then ⟨clearAll s.flock.main, clearAll s.flock.stash⟩ else flockTab s) es →
    (mode = 1 → flockUsed s = true → captureBusy s = true →
      ∃ t, exec (.flockBulk h mode count src) s = .next t ∧ t.cmd = s.completing h cBusy 0xFFFF 0 ∧ s.sameBut [.cmd] t) ∧
    ((mode = 1 → flockUsed s = true → captureBusy s = false) →
      (∀ e ∈ es, entryV e = true ∧ nbits e.action.toNat 30 28 = 0) →
      ∃ t, exec (.flockBulk h mode count src) s = .next t ∧ flockTab t = r.1 ∧ t.flock.backMain = t.flock.main ∧
        t.flock.backStash = t.flock.stash ∧ t.cmd = s.completing h (if r.2 < count.toNat then cFlockFull else cOk) r.2 0 ∧
        s.sameBut [.regs, .cmd, .pcie, .flock] t) ∧
    ((mode = 1 → flockUsed s = true → captureBusy s = false) → (∃ e ∈ es, ¬(entryV e = true ∧ nbits e.action.toNat 30 28 = 0)) →
      ∃ t, exec (.flockBulk h mode count src) s = .next t ∧ t.cmd = s.completing h cField 16 0 ∧ s.sameBut [.cmd] t)) ∧
  (∀ (h : CmdHdr) (mode : Byte) (count : BitVec 32) (src : BitVec 64) (s : State), s.starts h (flockBulkChecks h mode count src s) →
    (mode = 1 → flockUsed s = true → captureBusy s = false) → segsLen (bufList s src) < 16 * count.toNat →
    ∃ t, exec (.flockBulk h mode count src) s = .next t ∧ t.cmd = s.completing h cField 12 0 ∧ s.sameBut [.cmd] t)

/-- FLOCK_KEY_COMPLETE of a KEY_EXTRACT instance that runs, whose qualifier is 1 at the sample, and which has completed no key in
that fclk, looks its key up: LOOKUPS rises by 1, HITS too on a hit, and the outcome joins those that wait, as bad where a
bucket is in error; where the key has a void bit, or its record was blocked or its context lost, VOID_KEYS rises and VOID_KEY
is set; a second key of one fclk is dropped and counted, and without the qualifier nothing but the recognizers' progress
changes. Of any other instance it changes nothing. FLOCK_RESULT delivers to a flock recognizer the outcomes of the keys that
fall due at the sample. FLOCK_STASH_MIGRATE moves a stash entry into the first empty way of its candidate buckets, if there is
one. FLOCK_BUCKET_RESTORE rewrites a bucket in error from the backup and sets its flag. (R126, R127, R128, R130, R132) -/
def Obligations.FlockKeysAndUpkeep : Prop :=
  (∀ (l : Fin 256) (n : Fin 4) (c : Sample) (s u : State) (d : DeckImage) (f : Fin 16), actDeck s = some d →
    u = noteEval s d c →
    f = Fin.ofNat 16 (pLookFlock d (pKeyTarget d (l.val, n.val))) →
    ((l.val, n.val) ∉ instsOf d 5 → exec (.flockKeyComplete l n c) s = .next s) ∧
    ((l.val, n.val) ∈ instsOf d 5 → (recAt u d (pKeyQual d (l.val, n.val) % 1024) c).res = false → exec (.flockKeyComplete l n c) s = .next u) ∧
    ((l.val, n.val) ∈ instsOf d 5 → (recAt u d (pKeyQual d (l.val, n.val) % 1024) c).res = true →
      (assoc s.recog.lastKeyFclk (4 * l.val + n.val) = some (c / groupLen s) →
        ∃ t, exec (.flockKeyComplete l n c) s = .next t ∧ u.sameBut [.regs] t ∧
          rd t (Reg.FLOCK_REC_CNT_DROPPED f) = satAdd (rd s (Reg.FLOCK_REC_CNT_DROPPED f)) 1) ∧
      (assoc s.recog.lastKeyFclk (4 * l.val + n.val) ≠ some (c / groupLen s) →
        ((keyOf u d (l.val, n.val) c).2 = true ∨ keyLost u d (l.val, n.val) c f = true → ∃ t, exec (.flockKeyComplete l n c) s = .next t ∧
          rd t (Reg.FLOCK_REC_CNT_VOID_KEYS f) = satAdd (rd s (Reg.FLOCK_REC_CNT_VOID_KEYS f)) 1 ∧
          flagSet t Reg.FLOCK_STATUS 0 = true ∧ t.recog.keys = s.recog.keys ∧ u.sameBut [.regs, .pcie, .deck, .recog] t) ∧
        (∀ a, (keyOf u d (l.val, n.val) c).2 = false → keyLost u d (l.val, n.val) c f = false → flockLook s (keyOf u d (l.val, n.val) c).1 = some a →
          ∃ t, exec (.flockKeyComplete l n c) s = .next t ∧
            rd t (Reg.FLOCK_REC_CNT_LOOKUPS f) = satAdd (rd s (Reg.FLOCK_REC_CNT_LOOKUPS f)) 1 ∧
            (a.getLsbD 31 = true → rd t (Reg.FLOCK_REC_CNT_HITS f) = satAdd (rd s (Reg.FLOCK_REC_CNT_HITS f)) 1) ∧
            t.recog.keys = s.recog.keys ++ [{ fk := f, sample := c, action := a, bad := false, given := false }] ∧
            u.sameBut [.regs, .deck, .recog] t) ∧
        ((keyOf u d (l.val, n.val) c).2 = false → keyLost u d (l.val, n.val) c f = false →
          flockLook s (keyOf u d (l.val, n.val) c).1 = none →
          ∃ t, exec (.flockKeyComplete l n c) s = .next t ∧
            rd t (Reg.FLOCK_REC_CNT_LOOKUPS f) = satAdd (rd s (Reg.FLOCK_REC_CNT_LOOKUPS f)) 1 ∧ flagSet t Reg.FLOCK_STATUS 3 = true ∧
            t.recog.keys = s.recog.keys ++ [{ fk := f, sample := c, action := 0, bad := true, given := false }] ∧
            u.sameBut [.regs, .pcie, .log, .deck, .recog] t)))) ∧
  (∀ (f : Fin 16) (i : Sample) (s : State) (d : DeckImage), actDeck s = some d →
    ∃ t, exec (.flockResult f i) s = .next t ∧ s.sameBut [.recog] t ∧
      t.recog = { s.recog with keys := t.recog.keys } ∧ t.recog.keys.length = s.recog.keys.length ∧
      (∀ k ∈ s.recog.keys, k.fk = f → k.sample + 4 * dkK d * dkLFlock d = i → { k with given := true } ∈ flockGiven t d f i) ∧
      (∀ k ∈ s.recog.keys, k.fk ≠ f ∨ k.sample + 4 * dkK d * dkLFlock d ≠ i → k ∈ t.recog.keys)) ∧
  (∀ (n : Fin 256) (s : State) (e : FlockEntry), e = stashAt (flockTab s) n →
    (∀ m, entryV e = true → emptyIn (flockTab s) e.key [0, 1, 2, 3] = some m → ∃ t, exec (.flockStashMigrate n) s = .next t ∧
      flockTab t = setStash (setMain (flockTab s) m e) n (entryClear e) ∧ t.flock.backMain = t.flock.main ∧
      t.flock.backStash = t.flock.stash ∧ s.sameBut [.regs, .pcie, .flock] t) ∧
    (entryV e = false ∨ emptyIn (flockTab s) e.key [0, 1, 2, 3] = none → exec (.flockStashMigrate n) s = .next s)) ∧
  (∀ (sub : Fin 4) (bucket : Fin 16384) (s : State) (b : Nat), b = sub.val * 16384 + bucket.val →
    (s.flock.bad.contains b = true → ∃ t, exec (.flockBucketRestore sub bucket) s = .next t ∧
      (∀ w < 8, tabGet {} t.flock.main (8 * b + w) = tabGet {} s.flock.backMain (8 * b + w)) ∧
      (∀ n, n / 8 ≠ b → tabGet {} t.flock.main n = tabGet {} s.flock.main n) ∧ t.flock.bad.contains b = false ∧
      flagSet t Reg.FLOCK_STATUS 4 = true ∧ s.sameBut [.regs, .pcie, .flock] t) ∧
    (s.flock.bad.contains b = false → exec (.flockBucketRestore sub bucket) s = .next s))

/-- DAC_SET that starts writes span and code of each named channel that is OFF and starts it; one whose span or mode has to change
is stopped, with its code as before, to be written in OFF; any other takes the code, staged, or output at once by a CALOUT
that is ON. It completes OK at once where only such CALOUTs are named, else it runs; no other channel changes. While FREEZE is
clear an update tick outputs the staged code of every precision channel that is ON, and a DAC_SET that waits for its only
channel completes; while FREEZE is set it changes nothing. A write of DAC_CODE stages the code, or outputs it on a CALOUT that
is ON in DC mode, and one of DAC_GLOBAL sets FREEZE. A short circuit of a THR ball that is ON is flagged as class D. A channel
in STARTING settles in ON with its code output; an event queue settles in ON or OFF, or starts again. (R258, R261, R263, R264,
R265, R358, R375) -/
def Obligations.DacCodesChangeAtTheTick : Prop :=
  (∀ (h : CmdHdr) (channels : BitVec 64) (span : Byte) (values : BitVec 288) (s : State),
    s.starts h (dacSetChecks h channels span values s) →
    (∀ ch c, (dacOf s ch).busy = some c → ¬(c.ring = h.ring ∧ c.cid = h.cid)) →
    let off (ch : Nat) : Prop := blkState s (Reg.DAC_CTRL ch) ≠ stOff ∧
      (dacTarget s span ch ≠ rdF s (Reg.DAC_CTRL ch) 9 8 ∨ 32 ≤ ch ∧ rdF s (Reg.DAC_CTRL ch) 11 10 ≠ 0)
    ∃ t, exec (.dacSet h channels span values) s = .next t ∧
      (∀ ch ∈ dacNamed channels, ∀ code : BitVec 16,
        code = (if h.cflags.getLsbD 0 then BitVec.ofNat 16 (mvCode ch (dacTarget s span ch) (dacValue values ch).toInt)
          else dacValue values ch) →
        (blkState s (Reg.DAC_CTRL ch) = stOff → blkState t (Reg.DAC_CTRL ch) = stStarting ∧
          rdF t (Reg.DAC_CTRL ch) 9 8 = dacTarget s span ch ∧ rd t (Reg.DAC_CODE ch) = code.zeroExtend 32) ∧
        (off ch → blkEn t (Reg.DAC_CTRL ch) = false ∧ rd t (Reg.DAC_CODE ch) = rd s (Reg.DAC_CODE ch) ∧
          (dacOf t ch).busy.bind DacCmd.code = some code) ∧
        (blkState s (Reg.DAC_CTRL ch) ≠ stOff → ¬off ch → rd t (Reg.DAC_CODE ch) = code.zeroExtend 32 ∧
          blkEn t (Reg.DAC_CTRL ch) = true ∧ (ch < 32 → (dacOf t ch).staged = true) ∧
          (32 ≤ ch → blkState s (Reg.DAC_CTRL ch) = stOn → rd t (Reg.DAC_OUT ch) = code.zeroExtend 32))) ∧
      (∀ ch < 34, ch ∉ dacNamed channels → dacOf t ch = dacOf s ch ∧ rd t (Reg.DAC_CTRL ch) = rd s (Reg.DAC_CTRL ch) ∧
        rd t (Reg.DAC_CODE ch) = rd s (Reg.DAC_CODE ch) ∧ rd t (Reg.DAC_OUT ch) = rd s (Reg.DAC_OUT ch)) ∧
      ((∀ ch ∈ dacNamed channels, 32 ≤ ch ∧ blkState s (Reg.DAC_CTRL ch) = stOn ∧ ¬off ch) → t.cmd = s.completing h cOk 0 0) ∧
      ((∃ ch ∈ dacNamed channels, ch < 32 ∨ blkState s (Reg.DAC_CTRL ch) ≠ stOn ∨ off ch) → t.cmd = s.running h 0x0801 0 0) ∧
      s.sameBut [.regs, .cmd, .dac] t) ∧
  (∀ s : State, ((rd s Reg.DAC_GLOBAL).getLsbD 0 = true → exec .dacUpdateTick s = .next s) ∧
    ((rd s Reg.DAC_GLOBAL).getLsbD 0 = false → ∃ t, exec .dacUpdateTick s = .next t ∧
      (∀ ch < 32, (dacOf s ch).staged = true → blkState s (Reg.DAC_CTRL ch) = stOn →
        rd t (Reg.DAC_OUT ch) = rd s (Reg.DAC_CODE ch) ∧ dacOf t ch = { dacOf s ch with staged := false, busy := none }) ∧
      (∀ ch < 34, 32 ≤ ch ∨ (dacOf s ch).staged = false ∨ blkState s (Reg.DAC_CTRL ch) ≠ stOn →
        rd t (Reg.DAC_OUT ch) = rd s (Reg.DAC_OUT ch) ∧ dacOf t ch = dacOf s ch) ∧
      (∀ ch c, ch < 32 → (dacOf s ch).staged = true → blkState s (Reg.DAC_CTRL ch) = stOn → (dacOf s ch).busy = some c →
        (∀ k < 34, k ≠ ch → (dacOf s k).busy = none) → s.runs c.ring c.cid 0x0801 → t.cmd = s.ending c.ring c.cid cOk 0 0) ∧
      s.sameBut [.regs, .cmd, .dac] t)) ∧
  (∀ (m : Master) (ch : Fin 34) (v : Word) (s : State), (m = .host → s.pcie.d3hot = false) →
    ownerLets m s (Reg.DAC_CODE ch) = true → ∃ t, exec (.dacCodeWrite m ch v) s = .next t ∧
      (rd t (Reg.DAC_CODE ch)).toNat % 2 ^ 14 = v.toNat % 2 ^ 14 ∧
      (ch.val < 32 → (rd t (Reg.DAC_CODE ch)).toNat = v.toNat % 2 ^ 16 ∧ (dacOf t ch).staged = true ∧
        rd t (Reg.DAC_OUT ch) = rd s (Reg.DAC_OUT ch)) ∧
      (32 ≤ ch.val → blkState s (Reg.DAC_CTRL ch) = stOn → rdF s (Reg.DAC_CTRL ch) 11 10 = 0 →
        rd t (Reg.DAC_OUT ch) = rd t (Reg.DAC_CODE ch)) ∧ s.sameBut [.regs, .dac] t) ∧
  (∀ (m : Master) (v : Word) (s : State), (m = .host → s.pcie.d3hot = false) → ownerLets m s Reg.DAC_GLOBAL = true →
    ∃ t, exec (.dacFreezeWrite m v) s = .next t ∧ (rd t Reg.DAC_GLOBAL).getLsbD 0 = v.getLsbD 0 ∧ s.sameBut [.regs] t ∧
      s.regsBut [Reg.DAC_GLOBAL] t) ∧
  (∀ (ch : Fin 16) (s : State), (blkState s (Reg.DAC_CTRL ch) = stOn → ∃ t, exec (.thrCurrentLimit ch) s = .next t ∧
      flagSet t (Reg.DAC_STATUS ch) 0 = true ∧ (t.newestLog.map LogEntry.cls) = some 2 ∧ s.sameBut [.regs, .pcie, .log] t) ∧
    (blkState s (Reg.DAC_CTRL ch) ≠ stOn → exec (.thrCurrentLimit ch) s = .next s)) ∧
  (∀ (o : BitVec 26) (ch : Fin 32) (s : State), o.toNat = Reg.DAC_CTRL ch → blkState s o.toNat = stStarting →
    (dacOf s ch).busy = none → ∃ t, exec (.blockStateSettle o) s = .next t ∧ blkState t o.toNat = stOn ∧
      rd t (Reg.DAC_OUT ch) = rd s (Reg.DAC_CODE ch) ∧ (dacOf t ch).staged = false ∧ s.sameBut [.regs, .dac] t) ∧
  (∀ (o : BitVec 26) (q : Fin 32) (s : State), o.toNat = Reg.EQ_CTRL q →
    (blkState s o.toNat = stStarting → exec (.blockStateSettle o) s = .next (setBlkState s o.toNat stOn)) ∧
    (blkState s o.toNat = stStopping → blkEn s o.toNat = false →
      exec (.blockStateSettle o) s = .next (setBlkState s o.toNat stOff)) ∧
    (blkState s o.toNat = stStopping → blkEn s o.toNat = true →
      ∃ t, exec (.blockStateSettle o) s = .next t ∧ blkState t o.toNat = stStarting ∧ s.sameBut [.regs] t))

/-- DDS_SET that starts with a time word less than 2 us ahead completes with INVALID_FIELD and changes nothing. Otherwise it runs,
with T0 the next whole TBASE cycle: on a channel that runs SINE with an unchanged span it writes tuning word, phase, amplitude
and offset at once; an OFF channel it programs and starts; any other it stops first. At T0 the output starts, with HI, or with
the first DDS sample (CLIP is set where that is clamped), the accumulator clear where PHASE_RESET was given and else as it
ran, and the command completes with T0; a channel that no DDS_SET waits for is as before. A write of DDS_FTW_LO is held; one
of DDS_FTW_HI makes the two halves, up to 0x666666666666, the tuning word, and the accumulator goes on from where it stands;
above that the tuning word is a free value. (R265, R266, R267, R268, R358) -/
def Obligations.DdsStartsAtItsT0 : Prop :=
  (∀ (h : CmdHdr) (p : DdsParams) (s : State) (o : Nat), s.starts h (ddsSetChecks h p s) → o = Reg.DAC_CTRL p.ch.toNat →
    (p.start = 1 → wordTime p.t0 < s.tb.now + nsT 2000 → ∃ t, exec (.ddsSet h p) s = .next t ∧
      t.cmd = s.completing h cField 40 0 ∧ s.sameBut [.cmd] t) ∧
    (p.start = 0 ∨ s.tb.now + nsT 2000 ≤ wordTime p.t0 → ∃ t c, exec (.ddsSet h p) s = .next t ∧
      t.cmd = s.running h 0x0802 p.ch.toNat 0 ∧ (dacOf t p.ch.toNat).busy = some c ∧ c.reset = h.cflags.getLsbD 0 ∧
      c.t0 = tbaseCeil (if p.start = 1 then wordTime p.t0 else s.tb.now + nsT 2000) ∧ c.dds = some p ∧
      (ddsLive s p = true → (dacOf t p.ch.toNat).ftw = p.ftw ∧ rd t (Reg.DDS_PHASE p.ch.toNat) = p.phase.zeroExtend 32 ∧
        rd t (Reg.DDS_SCALE p.ch.toNat) = BitVec.ofNat 32 (p.amp.toNat * 65536 + p.ofs.toNat) ∧ rd t o = rd s o ∧
        c.span = none) ∧
      (blkState s o = stOff → blkState t o = stStarting ∧ rdF t o 9 8 = p.span.toNat ∧ rdF t o 11 10 = p.mode.toNat ∧
        c.span = none) ∧
      (blkState s o ≠ stOff → ddsLive s p = false → blkEn t o = false ∧
        rd t (Reg.DDS_SCALE p.ch.toNat) = rd s (Reg.DDS_SCALE p.ch.toNat) ∧ c.span.isSome = true) ∧
      s.sameBut [.regs, .cmd, .dac] t)) ∧
  (∀ (ch : Fin 2) (s : State) (n : Nat), n = 32 + ch.val →
    (∀ c, (dacOf s n).busy = some c → c.dds.isSome = true → c.span = none → s.runs c.ring c.cid 0x0802 →
      ∃ t, exec (.ddsT0 ch) s = .next t ∧ (dacOf t n).t0 = some c.t0 ∧ (dacOf t n).busy = none ∧
        (rdF s (Reg.DAC_CTRL n) 11 10 = 1 → rd t (Reg.DAC_OUT n) = BitVec.ofNat 32 (rdF s (Reg.SQ_LEVELS n) 29 16)) ∧
        (rdF s (Reg.DAC_CTRL n) 11 10 = 2 → rd t (Reg.DAC_OUT n) = BitVec.ofNat 32 (ddsOut t n (dacx c.t0)) ∧
          (blkState s (Reg.DAC_CTRL n) = stOn → ddsClips t n (dacx c.t0) = true → flagSet t (Reg.DAC_STATUS n) 2 = true)) ∧
        ddsAcc t n (dacx c.t0) = (if c.reset then 0 else ddsAcc s n (dacx c.t0)) ∧
        t.cmd = s.ending c.ring c.cid cOk (timeWord c.t0 0 % 2 ^ 32) (timeWord c.t0 0 / 2 ^ 32) ∧
        s.sameBut [.regs, .cmd, .pcie, .dac] t) ∧
    ((∀ c, (dacOf s n).busy = some c → c.dds = none ∨ c.span ≠ none) → exec (.ddsT0 ch) s = .next s)) ∧
  (∀ (m : Master) (ch : Fin 2) (v : Word) (s : State) (n : Nat), n = 32 + ch.val → (m = .host → s.pcie.d3hot = false) →
    ownerLets m s (Reg.DDS_FTW_LO n) = true →
    (∃ t, exec (.ddsFtwWrite m ch false v) s = .next t ∧ dacOf t n = { dacOf s n with heldLo := some v } ∧ s.sameBut [.dac] t) ∧
    (∀ lo f, lo = (dacOf s n).heldLo.getD (rd s (Reg.DDS_FTW_LO n)) → f = v.toNat % 2 ^ 16 * 2 ^ 32 + lo.toNat → f ≤ 0x666666666666 →
      ∃ t, exec (.ddsFtwWrite m ch true v) s = .next t ∧ (dacOf t n).ftw.toNat = f ∧ (dacOf t n).heldLo = none ∧
        rd t (Reg.DDS_FTW_LO n) = lo ∧
        (ddsRuns s n = true → ddsAcc t n (dacx s.tb.now) = ddsAcc s n (dacx s.tb.now)) ∧ s.sameBut [.regs, .dac] t) ∧
    (∀ lo f, lo = (dacOf s n).heldLo.getD (rd s (Reg.DDS_FTW_LO n)) → f = v.toNat % 2 ^ 16 * 2 ^ 32 + lo.toNat → 0x666666666666 < f →
      ∃ t, exec (.ddsFtwWrite m ch true v) s = .next t ∧ (dacOf t n).heldLo = none ∧ s.sameBut [.regs, .free, .dac] t))

/-- While no measurement runs: a crossing of a polarity that an ON input stamps, outside the dead time of the last stamp, is
stamped: TIN_EDGE counts it, TIN_LAST holds it, and it joins the input's stamps, late where its sample has been evaluated; in
the dead time it is counted in TIN_DEAD_CNT alone, and any other changes nothing. A change of TRIG_IN or GATE_IN held as long
as its filter joins that pin's changes with the time of its TBASE cycle; else it does not. TIN_CONFIG that starts is BUSY
while a measurement uses the input or the deck watches it, and ENGINE_FAILED on an input that stays in FAULT; else it programs
an OFF input with its settings, OFS and threshold code and starts it, or first stops it, and runs; it completes OK when the
input settles in ON. A calibration outside its limits puts an ON or STARTING input into FAULT, class S, ends every measurement
that uses it, and no other; one within its limits changes nothing. (R118, R119, R240, R241, R242, R244, R245, R247, R357) -/
def Obligations.StampsAndPinsReachTheirConsumers : Prop :=
  (∀ (n : Fin 16) (t : Time) (falling fall : Bool) (s : State) (a : Time), (∀ u < 4, (measOf s u).run = none) →
    fall = (falling != (rd s (Reg.TIN_CTRL n)).getLsbD 13) → a = stampTime s n t →
    (blkState s (Reg.TIN_CTRL n) ≠ stOn ∨ edgeSel (rdF s (Reg.TIN_CTRL n) 15 14) fall = false →
      exec (.tinStamp n t falling) s = .next s) ∧
    (blkState s (Reg.TIN_CTRL n) = stOn → edgeSel (rdF s (Reg.TIN_CTRL n) 15 14) fall = true →
      ((∀ l, (tinOf s n).lastStamp = some l → inDead l t = false) → ∃ x, exec (.tinStamp n t falling) s = .next x ∧
        rd64 x (Reg.TIN_EDGE_LO n) = (rd64 s (Reg.TIN_EDGE_LO n) + 1) % 2 ^ 48 ∧
        rd64 x (Reg.TIN_LAST_NS_LO n) = a / 65536 % 2 ^ 64 ∧
        (rd x (Reg.TIN_LAST_FRAC n)).toNat = a % 65536 + (if fall then 65536 else 0) ∧ tinOf x n = { tinOf s n with lastStamp := some t } ∧
        tabGet [] x.recog.stamps n =
          { t := a, falling := fall, late := (actDeck s).isSome && arrivesLate s a } :: tabGet [] s.recog.stamps n ∧
        s.sameBut [.regs, .pcie, .log, .recog, .tins] x) ∧
      (∀ l, (tinOf s n).lastStamp = some l → inDead l t = true → ∃ x, exec (.tinStamp n t falling) s = .next x ∧
        rd x (Reg.TIN_DEAD_CNT n) = satAdd (rd s (Reg.TIN_DEAD_CNT n)) 1 ∧ flagSet x (Reg.TIN_STATUS n) 0 = true ∧
        s.sameBut [.regs, .pcie] x))) ∧
  (∀ (t : Time) (level : Bool) (held : Nat) (s : State),
    (level ≠ s.recog.trigLevel → pinFilt s 0x1C0 ≤ held → ∃ x, exec (.trigInEdge t level held) s = .next x ∧
      x.recog = { s.recog with
        trigLevel := level
        trigIn := { t := sampledTime s t, falling := !level, late := (actDeck s).isSome && arrivesLate s (sampledTime s t) } ::
          s.recog.trigIn } ∧
      s.sameBut [.regs, .pcie, .log, .recog] x) ∧
    (level = s.recog.trigLevel ∨ held < pinFilt s 0x1C0 → exec (.trigInEdge t level held) s = .next s)) ∧
  (∀ (t : Time) (level : Bool) (held : Nat) (s : State), (∀ u < 4, (measOf s u).run = none) →
    ∃ x, exec (.gateInChange t level held) s = .next x ∧
      (level ≠ gateAccepted s → pinFilt s 0x1C1 ≤ held → x.recog = { s.recog with
        gate := ⟨sampledTime s t, level, if (actDeck s).isSome ∧ arrivesLate s (sampledTime s t) = true then evalNext s else 0⟩ ::
          s.recog.gate }) ∧
      (level = gateAccepted s ∨ held < pinFilt s 0x1C1 → x.recog = s.recog) ∧
      x.tins = (if level = s.tins.gateLevel ∨ held < rdF s Reg.TIN_GATE_CTRL 7 0 then s.tins
        else { s.tins with gateLevel := level }) ∧ s.sameBut [.regs, .pcie, .log, .recog, .tins] x) ∧
  (∀ (h : CmdHdr) (p : TinParams) (s : State) (n : Nat), s.starts h (tinConfigChecks h p s) → n = p.input.toNat →
    (∀ c, measUser s n = some c → ∃ t, exec (.tinConfig h p) s = .next t ∧ t.cmd = s.completing h cBusy c.toNat 0 ∧
      s.sameBut [.cmd] t) ∧
    (measUser s n = none → tinLocked s n = true → ∃ t, exec (.tinConfig h p) s = .next t ∧ t.cmd = s.completing h cBusy 0xFFFF 0 ∧
      s.sameBut [.cmd] t) ∧
    (measUser s n = none → tinLocked s n = false → (tinOf s n).stuck = true → ∃ t, exec (.tinConfig h p) s = .next t ∧
      t.cmd = s.completing h cEngine 0 0 ∧ s.sameBut [.cmd] t) ∧
    (measUser s n = none → tinLocked s n = false → (tinOf s n).stuck = false →
      ∃ t, exec (.tinConfig h p) s = .next t ∧ t.cmd = s.running h 0x0701 n 0 ∧
        (blkState s (Reg.TIN_CTRL n) = stOff → blkState t (Reg.TIN_CTRL n) = stStarting ∧
          rdF t (Reg.TIN_CTRL n) 8 8 = p.mode.toNat ∧ rdF t (Reg.TIN_CTRL n) 9 9 = p.term.toNat ∧
          rdF t (Reg.TIN_CTRL n) 12 10 = p.hyst.toNat ∧ rdF t (Reg.TIN_CTRL n) 13 13 = p.slope.toNat ∧
          rdF t (Reg.TIN_CTRL n) 15 14 = p.stamp.toNat ∧ rd t (Reg.TIN_OFS n) = p.ofs.zeroExtend 32 ∧
          rd64 t (Reg.TIN_EDGE_LO n) = 0 ∧
          (blkState s (Reg.DAC_CTRL (16 + n)) = stOff ∨ rdF s (Reg.DAC_CTRL (16 + n)) 9 8 = 2 →
            rd t (Reg.DAC_CODE (16 + n)) = BitVec.ofNat 32 (mvCode (16 + n) 2 p.thresh.toInt))) ∧
        (blkState s (Reg.TIN_CTRL n) ≠ stOff → blkEn t (Reg.TIN_CTRL n) = false ∧
          ((tinOf t n).cmd.bind TinCmd.p) = some p ∧ s.sameBut [.regs, .cmd, .tins] t) ∧
        s.sameBut [.regs, .cmd, .tins, .dac] t)) ∧
  (∀ (o : BitVec 26) (n : Fin 16) (s : State) (c : TinCmd), o.toNat = Reg.TIN_CTRL n → blkState s o.toNat = stStarting →
    (tinOf s n).cmd = some c → c.p = none → s.runs c.ring c.cid 0x0701 →
    ∃ t, exec (.blockStateSettle o) s = .next t ∧ blkState t o.toNat = stOn ∧ t.cmd = s.ending c.ring c.cid cOk 0 0 ∧
      s.sameBut [.regs, .cmd, .tins] t) ∧
  (∀ (n : Fin 16) (ok : Bool) (s : State), let st := blkState s (Reg.TIN_CTRL n)
    (ok = true ∨ st ≠ stOn ∧ st ≠ stStarting → exec (.tdcRecalibration n ok) s = .next s) ∧
    (ok = false → st = stOn ∨ st = stStarting → ∃ t, exec (.tdcRecalibration n ok) s = .next t ∧
      blkState t (Reg.TIN_CTRL n) = stFault ∧ flagSet t (Reg.TIN_STATUS n) 1 = true ∧ (tinOf t n).lastFail = some s.tb.now ∧
      (∀ u < 4, ∀ r, (measOf s u).run = some r → measOf t u = if runUses r n then {} else measOf s u) ∧
      s.sameBut [.regs, .free, .cmd, .pcie, .log, .mem, .tins] t))

/-- MEASURE_INTERVAL and MEASURE_FREQ that start, name only polarities that their inputs stamp and a gate that can be had, run on
their unit with MEAS_STARTS, MEAS_EARLY and MEAS_BUSY cleared; the gate is open from acceptance (NONE), from its opening time
for GATE (TIME), or waits for its source. A polarity not stamped, a gate that cannot be had or a destination too short
completes INVALID_FIELD with its place. Where the unit has handled every event it was given: at the end of a stop window the
unit has ended with cause 0 after its last start, with cause 1 where its TIME gate has closed, or waits for a start again. A
TIME gate that closes ends a waiting interval measurement with cause 1 and a frequency measurement with its record; one that
opens lets it begin; another source's interval is cut at 100 s. A timeout ends with TIMEOUT, ABORT with ABORTED; ABORT of an
idle unit only completes. A measurement that has ended has written its END record, its accumulators or its frequency record,
where it fits (else it completes BUFFER_FULL), its unit is idle, and its command completes with the number of starts or of
stamps kept. (R246, R247, R248, R252, R253, R255, R357) -/
def Obligations.MeasurementsStartAndEnd : Prop :=
  let begun (e : Instr) (h : CmdHdr) (op u : Nat) (g : GateBlock) (iv : Option IntervalParams) (fq : Option FreqParams) (dest : BitVec 64)
      (s : State) : Prop :=
    ∃ t r, exec e s = .next t ∧ (measOf t u).run = some r ∧ r.ring = h.ring ∧ r.cid = h.cid ∧ r.interval = iv ∧ r.freq = fq ∧
      r.at_ = s.tb.now ∧ r.outAddr = bufList s dest ∧ r.startNo = 0 ∧ r.kept = [] ∧ r.written = 0 ∧
      rd t (Reg.MEAS_STARTS u) = 0 ∧ rd t (Reg.MEAS_EARLY u) = 0 ∧ rd t (Reg.MEAS_BUSY u) = 0 ∧
      (g.source = 0 → r.gateOpen = some s.tb.now ∧ r.gateClose = none) ∧
      (g.source = 1 → ∃ o, o = (if g.opt.getLsbD 1 then max s.tb.now (wordTime g.openAt) else s.tb.now) ∧ r.gateOpen = some o ∧
        r.gateClose = some (o + nsT g.len.toNat) ∧ ((measOf t u).st = .waitGate ↔ s.tb.now < o)) ∧
      (g.source.toNat ≥ 2 → r.gateOpen = none) ∧ t.cmd = s.running h op u 0 ∧ s.sameBut [.regs, .cmd, .tins] t
  let iv (r : MeasRun) (p : IntervalParams) (cause : Nat) (at_ : Time) (s : State) : MemSt × Nat :=
    if p.stop.getLsbD 4 then
      ((putBuf s (segsDrop r.outAddr 0) ((List.range p.nstop.toNat).flatMap (fun k => statBytes (tabGet {} r.stats k)))).mem, causeStatus cause)
    else if r.written + 16 ≤ segsLen r.outAddr then
      ((putBuf s (segsDrop r.outAddr r.written)
        (listRecord (leBytes 12 (timeWord at_ (0x0400 + p.start.toNat % 16))) r.startNo (3 * 64 + cause))).mem, causeStatus cause)
    else (s.mem, cBufferFull)
  let fq (r : MeasRun) (p : FreqParams) (cause : Nat) (at_ : Time) (cut : Bool) (s : State) (u : Nat) : MemSt × Nat :=
    if r.written + 64 ≤ segsLen r.outAddr then
      ((putBuf s (segsDrop r.outAddr 0) (freqRecord p r ((r.prev.map (inBand at_)).getD false && (measOf s u).st == .collect)
        (cut && (measOf s u).st == .collect))).mem, causeStatus cause)
    else (s.mem, cBufferFull)
  let done (e : Instr) (u : Nat) (r : MeasRun) (x : MemSt × Nat) (count : Nat) (s : State) : Prop :=
    ∃ t, exec e s = .next t ∧ measOf t u = {} ∧ t.cmd = s.ending r.ring r.cid x.2 count 0 ∧ t.mem = x.1 ∧
      s.sameBut [.regs, .free, .cmd, .mem, .tins] t
  let ends (e : Instr) (u : Nat) (r : MeasRun) (p : IntervalParams) (cause : Nat) (at_ : Time) (s : State) : Prop :=
    done e u r (iv r p cause at_ s) r.startNo s
  let aborted (e : Instr) (h : CmdHdr) (u : Nat) (r : MeasRun) (x : MemSt × Nat) (count : Nat) (s : State) : Prop :=
    ∃ t, exec e s = .next t ∧ measOf t u = {} ∧ t.mem = x.1 ∧
      t.cmd.running = (s.ending r.ring r.cid x.2 count 0).running ∧
      t.cmd.finished = (s.ending r.ring r.cid x.2 count 0).finished ++
        [{ ring := h.ring, cid := h.cid, status := cOk, result := 0, result2 := 0 }] ∧ s.sameBut [.regs, .free, .cmd, .mem, .tins] t
  (∀ (h : CmdHdr) (p : IntervalParams) (s : State), s.starts h (measureIntervalChecks h p s) → h.cflags.getLsbD 0 = false →
    (∀ o, firstBad ([(9, stamps s (p.start.toNat % 16) (nbits p.start.toNat 5 4)),
        (12, (bitsOf 16 p.stopSet.toNat).all (fun n => stamps s n (p.stop.toNat % 4)))] ++ gateNeeds s p.gate ++
        [(56, !p.stop.getLsbD 4 || decide (64 * p.nstop.toNat ≤ segsLen (bufList s p.dest)))]) = some o →
      ∃ t, exec (.measureInterval h p) s = .next t ∧ t.cmd = s.completing h cField o 0 ∧ s.sameBut [.cmd] t) ∧
    (stamps s (p.start.toNat % 16) (nbits p.start.toNat 5 4) = true →
      (∀ n ∈ bitsOf 16 p.stopSet.toNat, stamps s n (p.stop.toNat % 4) = true) → firstBad (gateNeeds s p.gate) = none →
      (p.stop.getLsbD 4 = true → 64 * p.nstop.toNat ≤ segsLen (bufList s p.dest)) →
      begun (.measureInterval h p) h 0x0702 p.unit.toNat p.gate (some p) none p.dest s)) ∧
  (∀ (h : CmdHdr) (p : FreqParams) (s : State), s.starts h (measureFreqChecks h p s) → h.cflags.getLsbD 0 = false →
    (∀ o, firstBad ((9, stamps s (p.input.toNat % 16) (nbits p.input.toNat 5 4)) :: gateNeeds s p.gate) = some o →
      ∃ t, exec (.measureFreq h p) s = .next t ∧ t.cmd = s.completing h cField o 0 ∧ s.sameBut [.cmd] t) ∧
    (stamps s (p.input.toNat % 16) (nbits p.input.toNat 5 4) = true → firstBad (gateNeeds s p.gate) = none →
      begun (.measureFreq h p) h 0x0703 p.unit.toNat p.gate none (some p) p.dest s)) ∧
  (∀ (u : Fin 4) (s : State) (r : MeasRun) (p : IntervalParams), (measOf s u).run = some r → r.interval = some p →
    r.waiting = [] → (p.gate.source = 4 → ∀ e, s.recog.evalTo = some e → e < r.gateNext) → s.runs r.ring r.cid 0x0702 →
    ((measOf s u).st = .stops →
      (p.nstart.toNat ≤ r.startNo → ends (.measStopWindowEnd u) u r p 0 (r.ts + nsT p.stopWin.toNat) s) ∧
      (∀ c, r.startNo < p.nstart.toNat → p.gate.source = 1 → r.gateClose = some c → c ≤ r.ts + nsT p.stopWin.toNat →
        ends (.measStopWindowEnd u) u r p 1 (r.ts + nsT p.stopWin.toNat) s) ∧
      (r.startNo < p.nstart.toNat → (p.gate.source = 1 → ∀ c, r.gateClose = some c → r.ts + nsT p.stopWin.toNat < c) → exec (.measStopWindowEnd u) s =
        .next (setMeas s u { st := .waitStart, run := some { r with lately := [] } }))) ∧
    (∀ c, (measOf s u).st = .waitStart → p.gate.source = 1 → r.gateClose = some c → ends (.measGateTimer u) u r p 1 c s) ∧
    ((measOf s u).st = .waitGate → p.gate.source = 1 →
      exec (.measGateTimer u) s = .next (setMeas s u { st := .waitStart, run := some r })) ∧
    ((measOf s u).st = .stops → p.gate.source = 1 → exec (.measGateTimer u) s = .next s) ∧
    (∀ o, 2 ≤ p.gate.source.toNat → r.gateOpen = some o → r.gateClose = none → r.startOfs = none →
      exec (.measGateTimer u) s = .next (setMeas s u { measOf s u with run := some { r with gateClose := some (o + gateCut) } })) ∧
    ends (.measTimeout u) u r p 2 (r.at_ + nsT (p.timeout.toNat * 1000000)) s ∧
    (∀ (h : CmdHdr) (q : IntervalParams), s.starts h (measureIntervalChecks h q s) → h.cflags.getLsbD 0 = true → q.unit.toNat = u.val →
      aborted (.measureInterval h q) h u r (iv r p 3 s.tb.now s) r.startNo s)) ∧
  (∀ (u : Fin 4) (s : State) (r : MeasRun) (p : FreqParams), (measOf s u).run = some r → r.interval = none →
    r.freq = some p → r.waiting = [] → (p.gate.source = 4 → ∀ e, s.recog.evalTo = some e → e < r.gateNext) →
    s.runs r.ring r.cid 0x0703 →
    (∀ c, p.gate.source = 1 → r.gateClose = some c → (measOf s u).st = .collect →
      done (.measGateTimer u) u r (fq r p 0 c false s u) r.kept.length s) ∧
    ((measOf s u).st = .waitGate → p.gate.source = 1 →
      exec (.measGateTimer u) s = .next (setMeas s u { st := .collect, run := some r })) ∧
    (∀ at_, at_ = r.at_ + nsT (p.timeout.toNat * 1000000) → done (.measTimeout u) u r (fq r p 2 at_ true s u) r.kept.length s) ∧
    (∀ (h : CmdHdr) (q : FreqParams), s.starts h (measureFreqChecks h q s) → h.cflags.getLsbD 0 = true → q.unit.toNat = u.val →
      aborted (.measureFreq h q) h u r (fq r p 3 s.tb.now true s u) r.kept.length s)) ∧
  (∀ (u : Fin 4) (s : State), (measOf s u).run = none →
    exec (.measStopWindowEnd u) s = .next s ∧ exec (.measGateTimer u) s = .next s ∧ exec (.measTimeout u) s = .next s ∧
    (∀ (h : CmdHdr) (q : IntervalParams), s.starts h (measureIntervalChecks h q s) → h.cflags.getLsbD 0 = true → q.unit.toNat = u.val →
      ∃ t, exec (.measureInterval h q) s = .next t ∧ t.cmd = s.completing h cOk 0 0 ∧ s.sameBut [.cmd] t) ∧
    (∀ (h : CmdHdr) (q : FreqParams), s.starts h (measureFreqChecks h q s) → h.cflags.getLsbD 0 = true → q.unit.toNat = u.val →
      ∃ t, exec (.measureFreq h q) s = .next t ∧ t.cmd = s.completing h cOk 0 0 ∧ s.sameBut [.cmd] t))

/-- PATTERN_LOAD of a segment that playback does not use, once a drover brings its streams, stores it, where the streams are good
and find room, in place of the old one, and no other byte of HBM changes; a bad stream completes PATTERN_INVALID, no room
NO_SPACE, a segment in use BUSY, and every segment stays; with no drover free it waits. PATTERN_PLAY is BUSY during playback,
PATTERN_INVALID for a segment not loaded and ENGINE_FAILED for a quarantined engine; else it prefills. PLAYBACK_START, once
its flag is seen, sets P0, the first block slot allowed: playback runs pass 1 of its entry from there, its checkers wait for
their sync, and the command completes with the time of P0. A pass decision takes the branch, a repeat, the end or NEXT, in
that order, once the blocks before it are played; at the pass's end, all its blocks played, that pass begins or playback ends,
with its positions at rest or, with HOLD, at their last samples. PATTERN_STOP NOW ends playback at once, PASS_END after the
pass; it stops every named checker, aborts a PATTERN_PLAY before P0, and of idle playback completes at once. An underrun of a
drive engine ends playback, of an expect engine it stops the checker; both are flagged as class D. Each row changes nothing
where playback is not as it needs. (R219, R220, R221, R223, R225, R226, R227, R356) -/
def Obligations.PlaybackRunsItsList : Prop :=
  (∀ (h : CmdHdr) (p : PatternLoadParams) (s u : State) (d : DeckImage) (ins : List (Nat × List Byte)),
    s.starts h (patternLoadChecks h p s) → actDeck s = some d →
    ins = (loadLists s p).map (fun x => (x.1, segsRead s.mem (bufList s x.2) (segsLen (bufList s x.2)))) →
    u = drove s ((ins.map (fun x => x.2.length)).sum) →
    (psegBusy s d p.pseg.toNat = true → ∃ t, exec (.patternLoad h p) s = .next t ∧ t.cmd = s.completing h cBusy 0xFFFF 0 ∧
      s.sameBut [.cmd] t) ∧
    (psegBusy s d p.pseg.toNat = false → droverReady s = false → ∃ t, exec (.patternLoad h p) s = .next t ∧
      t.cmd = s.running h 0x0601 p.pseg.toNat 0 ∧ t.drov.waiting = s.drov.waiting ++
        [{ ring := h.ring, cid := h.cid, check := false, job := .cmd (.patternLoad h p), seg := 0 }] ∧ s.sameBut [.cmd, .drov] t) ∧
    (psegBusy s d p.pseg.toNat = false → droverReady s = true →
      (∀ r k, loadStreams p.format.toNat (32 * p.lenBlocks.toNat) ins u.free = .error (r, k) →
        ∃ t, exec (.patternLoad h p) s = .next t ∧ t.cmd = s.completing h cPattern r 0 ∧ s.sameBut [.regs, .cmd, .free] t) ∧
      (∀ l k, loadStreams p.format.toNat (32 * p.lenBlocks.toNat) ins u.free = .ok (l, k) →
        (allocate (extentSize * pbExtCnt d) (patUsed s d) (l.map (fun x => x.2.length) ++ [16 * l.length]) = none →
          ∃ t, exec (.patternLoad h p) s = .next t ∧ t.cmd = s.completing h cNoSpace 0 0 ∧ s.sameBut [.regs, .cmd, .free] t) ∧
        (∀ ofs, allocate (extentSize * pbExtCnt d) (patUsed s d) (l.map (fun x => x.2.length) ++ [16 * l.length]) = some ofs →
          ∃ t, exec (.patternLoad h p) s = .next t ∧ t.cmd = s.completing h cOk ((l.map (fun x => x.2.length)).sum) 0 ∧
            psegOf t p.pseg.toNat = some { blocks := p.lenBlocks.toNat, table := ofs.getLastD 0,
                                           streams := (l.zip ofs).map (fun x => (x.1.1, x.2, x.1.2.length)) } ∧
            (∀ q, q ≠ p.pseg.toNat → psegOf t q = psegOf s q) ∧
            (∀ a, (∀ x ∈ (l.zip ofs).map (fun x => (x.2, x.1.2.length)) ++ [(ofs.getLastD 0, 16 * l.length), (16 * p.pseg.toNat, 16)],
              ∀ i < x.2, a ≠ patAddr s d (x.1 + i)) → memByte t.mem.hbm a = memByte s.mem.hbm a) ∧
            s.sameBut [.regs, .cmd, .free, .mem, .pgen] t)))) ∧
  (∀ (h : CmdHdr) (p : PatternPlayParams) (s : State) (d : DeckImage), s.starts h (patternPlayChecks h p s) → asleep s = false →
    actDeck s = some d →
    (playing s = true → ∃ t, exec (.patternPlay h p) s = .next t ∧ t.cmd = s.completing h cBusy 0xFFFF 0 ∧ s.sameBut [.cmd, .log] t) ∧
    (playing s = false → playLoaded s d p = false → ∃ t, exec (.patternPlay h p) s = .next t ∧
      t.cmd = s.completing h cPattern 0 0 ∧ s.sameBut [.cmd, .log] t) ∧
    (playing s = false → playLoaded s d p = true → playFaulty s d p = true → ∃ t, exec (.patternPlay h p) s = .next t ∧
      t.cmd = s.completing h cEngine 0 0 ∧ s.sameBut [.cmd, .log] t) ∧
    (playing s = false → playLoaded s d p = true → playFaulty s d p = false → ∃ t, exec (.patternPlay h p) s = .next t ∧
      t.cmd = s.running h 0x0602 0 0 ∧ t.pgen = { s.pgen with
        st := .prefill, wait := dkLPlay d - laneLat d, entry := p.entry.toNat, pass := 0, next := none, decided := false
        hold := p.stopMode == 1, stopping := false
        startFlag := if p.start = 1 then some (p.startFlag.toNat % 32, nbits p.startFlag.toNat 6 5) else none
        checkers := p.checkers, cmd := some (h.ring, h.cid) } ∧ s.sameBut [.cmd, .pgen] t)) ∧
  (∀ (i : Sample) (s : State) (d : DeckImage), actDeck s = some d →
    ((s.pgen.st = .idle ∨ s.pgen.st = .run ∨ ∃ h j, s.pgen.startFlag = some (h, j) ∧ flagSeen s d h j i = false) →
      exec (.playbackStart i) s = .next s) ∧
    (∀ c p0, s.pgen.st = .prefill ∨ s.pgen.st = .waitStart → (∀ h j, s.pgen.startFlag = some (h, j) → flagSeen s d h j i = true) →
      s.pgen.cmd = some c → s.runs c.1 c.2 0x0602 → p0 = (s.tb.now + toSlot s * 40960) % 2 ^ 80 →
      ∃ v, exec (.playbackStart i) s = .next (if toSlot s = 0 then playSlot v d else v) ∧
        v.pgen = { s.pgen with st := .run, pass := 1, next := none, decided := false, cmd := none, wait := toSlot s, block := 0
                               lastBlock := none } ∧
        rd64 v Reg.PGEN_START_LO = p0 / 65536 % 2 ^ 64 ∧ flagSet v Reg.PGEN_STATUS 0 = true ∧
        (∀ n ∈ bitsOf 32 s.pgen.checkers.toNat, checkerOf v n = { st := .waitSync, from_ := i } ∧ rd v (Reg.MCHK_CMP n) = 0) ∧
        v.cmd = s.ending c.1 c.2 cOk (timeWord p0 0x0482 % 2 ^ 32) (timeWord p0 0x0482 / 2 ^ 32) ∧
        s.sameBut [.regs, .cmd, .pcie, .log, .pgen, .checkers] v)) ∧
  (∀ (s : State) (d : DeckImage) (e b : Nat), actDeck s = some d → e = s.pgen.entry → b = plBranch d e →
    (∀ (i : Sample) (nx : Option (Nat × Nat)), s.pgen.st = .run → s.pgen.decided = false → nx = (
        if nbit b 0 = true ∧ flagSeen s d (nbits b 5 1) (nbits b 7 6) i = nbit b 8 then some (plTarget d e, 1)
        else if plRepeat d e = 0 ∨ s.pgen.pass < plRepeat d e then some (e, s.pgen.pass + 1)
        else if plNext d e = 0xFFFF then none else some (plNext d e, 1)) →
      ∃ t, exec (.passDecision i) s = .next t ∧ s.sameBut [.regs, .pgen] t ∧
        t.pgen = { (playTo s d (passLen s d e - 32)).pgen with next := nx, decided := true } ∧
        t.pgen.block = max s.pgen.block (passLen s d e - 32)) ∧
    (∀ i, s.pgen.st ≠ .run ∨ s.pgen.decided = true → exec (.passDecision i) s = .next s) ∧
    (∀ e1 n, s.pgen.st = .run → s.pgen.stopping = false → s.pgen.decided = true → s.pgen.next = some (e1, n) →
      ∃ t, exec .passEnd s = .next t ∧ s.sameBut [.regs, .pgen] t ∧
        t.pgen = { (playTo s d (passLen s d e)).pgen with entry := e1, pass := n, next := none, decided := false, block := 0 }) ∧
    (s.pgen.st = .run → s.pgen.stopping = true ∨ s.pgen.decided = true ∧ s.pgen.next = none →
      ∃ t, exec .passEnd s = .next t ∧ t.pgen.st = .idle ∧ t.pgen.lastEntry = e ∧ t.pgen.psegs = s.pgen.psegs ∧
      t.pgen.held = (if s.pgen.hold then heldWords (playTo s d (passLen s d e)) d else []) ∧ flagSet t Reg.PGEN_STATUS 1 = true ∧
      (∀ w, s.pgen.stops = [w] → s.runs w.ring w.cid 0x0603 → t.cmd = s.ending w.ring w.cid cOk e 0) ∧
      s.sameBut [.regs, .cmd, .pcie, .log, .pgen] t) ∧
    (s.pgen.st ≠ .run ∨ s.pgen.stopping = false ∧ s.pgen.decided = false → exec .passEnd s = .next s)) ∧
  (∀ (h : CmdHdr) (mode : Byte) (i : Sample) (s : State), s.starts h (patternStopChecks h mode s) →
    (s.pgen.st = .idle → ∃ t, exec (.patternStop h mode i) s = .next t ∧ t.cmd = s.completing h cOk s.pgen.lastEntry 0 ∧
      s.sameBut [.cmd] t) ∧
    (∀ c, s.pgen.st = .prefill ∨ s.pgen.st = .waitStart → s.pgen.cmd = some c → s.runs c.1 c.2 0x0602 →
      ∃ t, exec (.patternStop h mode i) s = .next t ∧ t.pgen = { s.pgen with st := .idle, cmd := none } ∧
        t.cmd.finished = (s.ending c.1 c.2 cAborted 0 0).finished ++ (s.completing h cOk s.pgen.lastEntry 0).finished.getLast?.toList ∧
        t.cmd.running = (s.ending c.1 c.2 cAborted 0 0).running ∧ s.sameBut [.cmd, .log, .pgen] t) ∧
    (s.pgen.st = .run → ∃ t, exec (.patternStop h mode i) s = .next t ∧
      (∀ n ∈ bitsOf 32 s.pgen.checkers.toNat, checkerRuns s n = true → (checkerOf t n).st = .stopped) ∧
      (mode = 0 → t.pgen.st = .idle ∧ t.pgen.lastEntry = s.pgen.entry ∧
        t.cmd.finished.getLast? = (s.completing h cOk s.pgen.entry 0).finished.getLast?) ∧
      (mode = 1 → t.pgen.st = .run → t.pgen.stopping = true ∧ { ring := h.ring, cid := h.cid } ∈ t.pgen.stops))) ∧
  (∀ (e : Fin 32) (detail : Byte) (s : State) (d : DeckImage), actDeck s = some d →
    (pbRole d e = 1 → s.pgen.st = .run → ∃ t, exec (.playbackUnderrun e detail) s = .next t ∧ t.pgen.st = .idle ∧
      flagSet t Reg.PGEN_STATUS 2 = true ∧ rd t Reg.PGEN_UR_POS = BitVec.ofNat 32 (pbTarget d e) ∧
      s.sameBut [.regs, .cmd, .pcie, .log, .pgen] t) ∧
    (pbRole d e = 1 ∧ s.pgen.st ≠ .run ∨ pbRole d e = 2 ∧ checkerRuns s (pbTarget d e) = false ∨ pbRole d e ≠ 1 ∧ pbRole d e ≠ 2 →
      exec (.playbackUnderrun e detail) s = .next s) ∧
    (pbRole d e = 2 → checkerRuns s (pbTarget d e) = true → ∃ t, exec (.playbackUnderrun e detail) s = .next t ∧
      (checkerOf t (pbTarget d e)).st = .stopped ∧ flagSet t (Reg.MCHK_STATUS (pbTarget d e)) 3 = true ∧
      (t.newestLog.map LogEntry.cls) = some 2 ∧ t.pgen = s.pgen))

/-- While no measurement runs, CHECKER_SYNC of a checker in WAIT_SYNC takes the first sample from its entry on at which SYNC is 1:
it checks from SYNC_OFS samples later, MCHK_SYNC holds the sync sample and MCHK_CMP is 0. CHECKER_VIOLATION of a checker that
checks compares the next captured sample (a sample taken already changes nothing): MCHK_CMP rises by 1, and at the first
sample of a block its EXPECT engines count 32 bytes; where a compared channel fails, VIOL_CNT rises, the window counts the
sample (a window that has passed goes out first), the first violation is latched in MCHK_FIRST, and the actions follow:
FEED_HANDS sets the latch of every hand, seen from the sample group of the verdict on, STOP_PLAY ends playback and STOP_GROUP
stops an ARMED group at the first violation. MASK_CHECK_RECORD of a window whose last sample has a verdict puts its seven
words into LOG_EQ, ON and empty, where ACTIONS has LOG, and forgets it; before that it changes nothing. CHECKER_DONE of a
checker that checks compares the samples that are left and ends the checker; of any other it changes nothing. (R229, R230,
R231, R232, R233) -/
def Obligations.CheckersCompareAndReport : Prop :=
  (∀ (n : Fin 32) (i : Sample) (s u : State) (d : DeckImage) (x : CheckerSt), actDeck s = some d → (∀ m < 4, (measOf s m).run = none) →
    u = noteEval s d i → x = checkerOf s n →
    (x.st ≠ .waitSync → exec (.checkerSync n i) s = .next u) ∧
    (x.st = .waitSync → (∀ k, x.from_ ≤ k → k ≤ i → (recAt u d (mcSync d n) k).res = false) →
      exec (.checkerSync n i) s = .next u) ∧
    (∀ y, x.st = .waitSync → x.from_ ≤ y → y ≤ i → (recAt u d (mcSync d n) y).res = true →
      (∀ k, x.from_ ≤ k → k < y → (recAt u d (mcSync d n) k).res = false) →
      ∃ t, exec (.checkerSync n i) s = .next t ∧
        checkerOf t n = { x with st := .check, s0 := y + mcSyncOfs d n, window := none, firstSeen := false } ∧
        rd64 t (Reg.MCHK_SYNC_LO n) = y % 2 ^ 64 ∧ rd t (Reg.MCHK_CMP n) = 0 ∧ flagSet t (Reg.MCHK_STATUS n) 0 = true ∧
        u.sameBut [.regs, .pcie, .checkers] t)) ∧
  (∀ (n : Fin 32) (i : Sample) (s : State) (d : DeckImage) (x : CheckerSt) (f : List Nat) (k a : Nat), actDeck s = some d →
    x = checkerOf s n → x.st = .check → k = (rd s (Reg.MCHK_CMP n)).toNat → i = x.s0 + k → k < expCount s d n →
    f = failing s d n i → a = mcActions d n →
    (∀ e : Fin 32, pbRole d e = 2 → pbTarget d e = n.val → ∃ t, exec (.checkerViolation n i) s = .next t ∧
      rd64 t (Reg.DCMP_OUT_LO e) = (rd64 s (Reg.DCMP_OUT_LO e) + if k % 16 = 0 then 32 else 0) % 2 ^ 64) ∧
    (f = [] → ∃ t, exec (.checkerViolation n i) s = .next t ∧ rd t (Reg.MCHK_CMP n) = BitVec.ofNat 32 (k + 1) ∧
      s.sameBut [.regs] t ∧ (k % 16 ≠ 0 → s.regsBut [Reg.MCHK_CMP n] t)) ∧
    (f ≠ [] → ∃ t, exec (.checkerViolation n i) s = .next t ∧
      rd t (Reg.MCHK_CMP n) = BitVec.ofNat 32 (k + 1) ∧
      rd t (Reg.MCHK_VIOL_CNT n) = satAdd (rd s (Reg.MCHK_VIOL_CNT n)) 1 ∧ flagSet t (Reg.MCHK_STATUS n) 1 = true ∧
      (checkerOf t n).window = some (match x.window with
        | some w => if w.1 = i / 32 then (w.1, w.2.1 + 1, w.2.2) else (i / 32, 1, i, f.length, f.min?.getD 0)
        | none => (i / 32, 1, i, f.length, f.min?.getD 0)) ∧
      (checkerOf t n).st = .check ∧ (checkerOf t n).firstSeen = true ∧
      (x.firstSeen = false → rd64 t (Reg.MCHK_FIRST_LO n) = i % 2 ^ 64) ∧
      (nbit a 2 = true → nbit a 1 = false ∨ x.firstSeen = true → ∀ h < 32, (handOf t h).latches =
        (n.val, verdictSample s d n i) :: (handOf s h).latches) ∧
      (nbit a 3 = true → x.firstSeen = false → s.pgen.st = .run → t.pgen.st = .idle) ∧
      (nbit a 1 = true → x.firstSeen = false → ∀ seg, (grpOf s (mcStopGrp d n)).st = .armed →
        (grpOf s (mcStopGrp d n)).seg = some seg → (grpOf t (mcStopGrp d n)).st = .stopped) ∧
      (a = 0 → s.sameBut [.regs, .pcie, .checkers] t))) ∧
  (∀ (n : Fin 32) (i : Sample) (s : State) (d : DeckImage), actDeck s = some d →
    ((checkerOf s n).st ≠ .check ∨ i < (checkerOf s n).s0 + (rd s (Reg.MCHK_CMP n)).toNat) → exec (.checkerViolation n i) s = .next s) ∧
  (∀ (n : Fin 32) (w nv first nf ch : Nat) (s : State) (d : DeckImage) (x : CheckerSt), actDeck s = some d → x = checkerOf s n →
    x.window = some (w, nv, first, nf, ch) →
    (∀ v, v ≠ w ∨ x.s0 + (rd s (Reg.MCHK_CMP n)).toNat < 32 * w + 32 → exec (.maskCheckRecord n v) s = .next s) ∧
    (32 * w + 32 ≤ x.s0 + (rd s (Reg.MCHK_CMP n)).toNat → nbit (mcActions d n) 0 = false → ∃ t, exec (.maskCheckRecord n w) s = .next t ∧ checkerOf t n = { x with window := none } ∧
      s.sameBut [.checkers] t) ∧
    (32 * w + 32 ≤ x.s0 + (rd s (Reg.MCHK_CMP n)).toNat → nbit (mcActions d n) 0 = true → eqOn s (mcLogEq d n) = true → eqOf s (mcLogEq d n) = {} →
      ∃ t l, exec (.maskCheckRecord n w) s = .next t ∧ checkerOf t n = { x with window := none } ∧
        (eqOf t (mcLogEq d n)).fill = [l] ∧ l.words = recordWords (BitVec.ofNat 32 (3 * 2 ^ 28 + n.val * 2 ^ 23 + nv))
          (timeWord (gridT s first) (0x0430 + n.val)) (BitVec.ofNat 32 (nf * 65536 + ch)) (BitVec.ofNat 32 (first - x.s0))
          (rd s (Reg.MCHK_VIOL_CNT n)) ∧ l.eoi = true ∧ l.bytes = 28 ∧ s.sameBut [.regs, .pcie, .eq, .checkers] t)) ∧
  (∀ (n : Fin 32) (w : Nat) (s : State) (d : DeckImage) (k : Nat), actDeck s = some d → k = (rd s (Reg.MCHK_CMP n)).toNat →
    ((checkerOf s n).window = none → exec (.maskCheckRecord n w) s = .next s) ∧
    ((checkerOf s n).st = .check → ∃ t, exec (.checkerDone n) s = .next t ∧ (checkerOf t n).st = .done ∧
      (checkerOf t n).window = none ∧ (checkerOf t n).s0 = (checkerOf s n).s0 ∧ flagSet t (Reg.MCHK_STATUS n) 2 = true ∧
      (expCount s d n < 2 ^ 32 → rd t (Reg.MCHK_CMP n) = BitVec.ofNat 32 (max k (expCount s d n))) ∧
      (expCount s d n ≤ k → (checkerOf s n).window = none → s.sameBut [.regs, .pcie, .checkers] t)) ∧
    ((checkerOf s n).st ≠ .check → exec (.checkerDone n) s = .next s))

/-- COMPRESS and DECOMPRESS without a token queue a job on a new stream; with a token they continue its stream with the lists
supplied, or with ABANDON free its slot; a token without such a stream, or ABANDON without one, completes with BAD_TOKEN.
ENGINE_JOB_START without a drover free for it or without a job that finds a free engine changes nothing; else a decompression
job takes an engine and keeps it busy. A DECOMPRESS job delivers what the engine inflates: at the stream's end it completes
OK, or ADLER_MISMATCH; at the end of its room SUSPENDED or OUT_LIMIT with a token, or NO_CONTEXT; at the end of its input
without MORE_INPUT, or at a broken stream, DATA_ERROR with the detail, and at an ECC error of its engine before its room ends,
DATA_ERROR with ENGINE_FAULT. A COMPRESS job delivers the coded bytes that fit; with FINISH and room for all it completes OK,
else it keeps a context. An ECC error of a decompression engine is flagged and ends with ENGINE_FAULT the stream that it
plays; the second within 1 s quarantines it. (R193, R208, R209, R210, R212, R213, R214, R215, R217, R355) -/
def Obligations.JobsRunOnStreams : Prop :=
  let acts (e : Instr) (h : CmdHdr) (op : Nat) (token inList outList : BitVec 64) (new : StreamSt) (j : EngineJob) (s : State) : Prop :=
    ((token = 0 ∧ h.cflags.getLsbD 0 = true) ∨ (token ≠ 0 ∧ tokenCtx s new.comp token = none) →
      ∃ t, exec e s = .next t ∧ t.cmd = s.completing h cBadToken 0 0 ∧ s.sameBut [.cmd] t) ∧
    (token = 0 → h.cflags.getLsbD 0 = false → ∃ t, exec e s = .next t ∧ t.cmd = s.running h op 0 0 ∧
      t.comp = { s.comp with jobs := s.comp.jobs ++ [{ j with
        slot := none, stream := { new with inSegs := bufList s inList, outSegs := bufList s outList } }] } ∧ s.sameBut [.cmd, .comp] t) ∧
    (∀ k st, token ≠ 0 → tokenCtx s new.comp token = some (k, st) →
      (h.cflags.getLsbD 0 = true → ∃ t, exec e s = .next t ∧ t.cmd = s.completing h cOk 0 0 ∧
        ctxOf t k = { gen := (ctxOf s k).gen } ∧ (∀ i, i ≠ k → ctxOf t i = ctxOf s i) ∧ s.sameBut [.cmd, .comp] t) ∧
      (h.cflags.getLsbD 0 = false → ∃ t, exec e s = .next t ∧ t.cmd = s.running h op 0 0 ∧
        t.comp.jobs = s.comp.jobs ++ [{ j with slot := some k, stream := { st with
          inSegs := if inList = 0 then st.inSegs else bufList s inList
          outSegs := if outList = 0 then st.outSegs else bufList s outList } }] ∧
        ctxOf t k = { ctxOf s k with busy := some h.cid } ∧ s.sameBut [.cmd, .comp] t))
  (∀ (h : CmdHdr) (p : CompressParams) (s : State), s.starts h (compressChecks h p s) →
    acts (.compress h p) h 0x0501 p.token p.inList p.outList
      { comp := true, raw := p.format == 1, mode := p.mode.toNat, search := p.search.toNat }
      { ring := h.ring, cid := h.cid, stream := { comp := true, raw := false }, slot := none, flush := p.flush.toNat, more := false,
        adler := false, limit := 0 } s) ∧
  (∀ (h : CmdHdr) (p : DecompressParams) (s : State), s.starts h (decompressChecks h p s) →
    acts (.decompress h p) h 0x0502 p.token p.inList p.outList { comp := false, raw := p.format == 1 }
      { ring := h.ring, cid := h.cid, stream := { comp := false, raw := false }, slot := none, flush := 0, more := h.cflags.getLsbD 1,
        adler := h.cflags.getLsbD 2, limit := p.outLimit.toNat } s) ∧
  (∀ (u : JobUpset) (s : State), droverReady s = false ∨ (∀ j ∈ s.comp.jobs, jobEngines s j = []) →
    exec (.engineJobStart u) s = .next s) ∧
  (∀ (u : JobUpset) (s : State) (j : EngineJob) (st : StreamSt) (space left : Nat) (r : Inflated) (out : List Byte), u.eccAt = none →
    s.comp.jobs = [j] → st = j.stream → droverReady s = true → st.comp = false → jobEngines s j ≠ [] → j.slot = none → s.runs j.ring j.cid 0x0502 → space = segsLen st.outSegs →
    left = (if j.limit = 0 then space else min space (j.limit - st.done)) →
    r = inflate (!st.raw) (st.done + left) (st.coded ++ segsRead s.mem st.inSegs (segsLen st.inSegs)) → out = r.out.drop st.done →
    ∃ t e, exec (.engineJobStart u) s = .next t ∧ e < 32 ∧ t.mem = (putBuf s st.outSegs out).mem ∧ t.comp.jobs = [] ∧
      freeDcmp s e = true ∧ assoc t.comp.busy (64 + e) = some (out.length / 8 + 1, 2) ∧
      (r.stop = .done → (j.adler = false ∨ r.adler = some (adlerWord (adlerOn (1, 0) r.out)) →
          t.cmd = s.ending j.ring j.cid cOk (out.length % 2 ^ 32) 0) ∧
        (j.adler = true → r.adler ≠ some (adlerWord (adlerOn (1, 0) r.out)) →
          t.cmd = s.ending j.ring j.cid cAdler (adlerWord (adlerOn (1, 0) r.out) % 2 ^ 32) 0 ∧ flagSet t (Reg.DCMP_STATUS e) 1 = true)) ∧
      (r.stop = .full ∨ r.stop = .short ∧ j.more = true → (freeSlots s = [] → t.cmd = s.ending j.ring j.cid cNoContext (out.length % 2 ^ 32) 0) ∧
        (freeSlots s ≠ [] → ∃ k ∈ freeSlots s, (ctxOf t k).stream.map StreamSt.done = some (st.done + out.length) ∧
          t.cmd = s.ending j.ring j.cid (if r.stop = .full ∧ j.limit ≠ 0 ∧ j.limit - st.done ≤ space then cOutLimit else cSuspended)
            (out.length % 2 ^ 32) (mkToken k ((ctxOf s k).gen + 1)))) ∧
      (r.stop = .short → j.more = false → t.cmd = s.ending j.ring j.cid cDataError 7 0 ∧ flagSet t (Reg.DCMP_STATUS e) 0 = true) ∧
      (∀ c, r.stop = .bad c → t.cmd = s.ending j.ring j.cid cDataError (c % 2 ^ 32) 0 ∧ flagSet t (Reg.DCMP_STATUS e) 0 = true) ∧
      s.sameBut [.regs, .free, .cmd, .pcie, .mem, .comp] t) ∧
  (∀ (u : JobUpset) (k : Nat) (s : State) (j : EngineJob) (st : StreamSt) (space room : Nat) (r : Inflated), u.eccAt = some k →
    s.comp.jobs = [j] → st = j.stream → droverReady s = true → st.comp = false → jobEngines s j ≠ [] → j.slot = none →
    s.runs j.ring j.cid 0x0502 → space = segsLen st.outSegs → room = (if j.limit = 0 then space else min space (j.limit - st.done)) →
    k < room → r = inflate (!st.raw) (st.done + k) (st.coded ++ segsRead s.mem st.inSegs (segsLen st.inSegs)) → r.stop = .full →
    ∃ t e, exec (.engineJobStart u) s = .next t ∧ e < 32 ∧ t.mem = (putBuf s st.outSegs (r.out.drop st.done)).mem ∧
      t.cmd = s.ending j.ring j.cid cDataError 8 0 ∧ flagSet t (Reg.DCMP_STATUS e) 0 = true ∧ flagSet t (Reg.DCMP_STATUS e) 2 = true ∧
      s.sameBut [.regs, .free, .cmd, .pcie, .log, .mem, .comp, .shep] t) ∧
  (∀ (u : JobUpset) (s : State) (j : EngineJob) (st : StreamSt) (w1 w : CmpWork) (n : Nat), s.comp.jobs = [j] → j.stream.comp = true →
    droverReady s = true → jobEngines s j ≠ [] → j.slot = none → s.runs j.ring j.cid 0x0501 →
    st = (if j.stream.started ∨ j.stream.raw then { j.stream with started := true }
      else { j.stream with started := true, held := zlibHeader }) →
    w1 = cmpBlocks s.mem (segsLen st.inSegs / 32768 + 2) { st := st, free := s.free + 1, upset := u } →
    w = (if cmpFits w1 && segsLen w1.st.inSegs == 0 then cmpFlush w1 j.flush else w1) →
    n = min w.st.held.length (segsLen w.st.outSegs) →
    ∃ t, exec (.engineJobStart u) s = .next t ∧ t.mem = (putBuf s w.st.outSegs (w.st.held.take n)).mem ∧ t.comp.jobs = [] ∧
      (cmpFits w = true → segsLen w.st.inSegs = 0 → j.flush = 3 → t.cmd = s.ending j.ring j.cid cOk (n % 2 ^ 32) 0) ∧
      (cmpFits w = false ∨ segsLen w.st.inSegs ≠ 0 ∨ j.flush ≠ 3 →
        (freeSlots s = [] → t.cmd = s.ending j.ring j.cid cNoContext (n % 2 ^ 32) 0) ∧
        (freeSlots s ≠ [] → ∃ k ∈ freeSlots s, (ctxOf t k).stream.map StreamSt.held = some (w.st.held.drop n) ∧
          t.cmd = s.ending j.ring j.cid (if cmpFits w && segsLen w.st.inSegs == 0 then cOk else cSuspended)
            (n % 2 ^ 32) (mkToken k ((ctxOf s k).gen + 1)))) ∧
      s.sameBut [.regs, .free, .cmd, .pcie, .log, .mem, .comp, .shep] t) ∧
  (∀ (e : Fin 32) (s : State), (s.comp.dQuar.contains e.val = true → exec (.decompressionEccError e) s = .next s) ∧
    (s.comp.dQuar.contains e.val = false → ∃ t u, exec (.decompressionEccError e) s = .next t ∧ u = dcmpEcc s e ∧
      t = (match actDeck s with | some d => underrun u d e 8 | none => u) ∧ flagSet t (Reg.DCMP_STATUS e) 2 = true ∧
      ((∀ x ∈ tabGet [] s.comp.dFails e, x + nsT second ≤ s.tb.now) → t.comp.dQuar = s.comp.dQuar) ∧
      ((∃ x ∈ tabGet [] s.comp.dFails e, s.tb.now < x + nsT second) → t.comp.dQuar.contains e.val = true ∧
        flagSet t (Reg.DCMP_STATUS e) 3 = true ∧ (u.newestLog.map LogEntry.cls) = some 3)))

/-- READ_FOLD and READ_RANGE of a segment that is not closed (for READ_RANGE, of an open one that there is none of) complete with
INVALID_STATE, READ_FOLD and READ_INDEX of a FIRST beyond the units with INVALID_FIELD; otherwise the readout runs and waits
for a drover. A free drover takes the oldest that waits, with the units its segment then retains; a command that waits for its
host side has its effect. READOUT_VERIFICATION of the page that waits first, with an engine free, notes whether it inflates,
with a data error where it does not. The end of a copy whose pages are all kept, verified, without a mismatch and within the
destination writes its pieces in order, then its report where it has one, and completes OK with the bytes. A completion
timeout ends the copy of a drover with HOST_ERROR, and puts the ring pair of a fetcher that is ON into FAULT. (R204, R205,
R316, R332, R333, R334, R335, R336, R354) -/
def Obligations.ReadoutsCopyToTheHost : Prop :=
  let queued (e : Instr) (h : CmdHdr) (op f seg : Nat) (job : ReadJob) (s : State) : Prop :=
    ∃ t, exec e s = .next t ∧ t.cmd = s.running h op f 0 ∧ t.drov = { s.drov with waiting := s.drov.waiting ++
      [{ ring := h.ring, cid := h.cid, check := h.cflags.getLsbD 0, job := job, seg := seg }] } ∧ s.sameBut [.cmd, .drov] t
  let refused (e : Instr) (h : CmdHdr) (status result : Nat) (s : State) : Prop :=
    ∃ t, exec e s = .next t ∧ t.cmd = s.completing h status result 0 ∧ s.sameBut [.cmd] t
  (∀ (h : CmdHdr) (p : ReadFoldParams) (s : State) (d : DeckImage) (us : List UnitRec), s.starts h (readFoldChecks h p s) →
    actDeck s = some d → us = segUnits s p.fold.toNat p.seg.toNat →
    (segClosed s p.fold.toNat p.seg.toNat = false → refused (.readFold h p) h cState 0 s) ∧
    (segClosed s p.fold.toNat p.seg.toNat = true →
      (p.format = 4 → p.part = 0 → (p.first ≠ 0 → refused (.readFold h p) h cField 16 s) ∧
        (p.first = 0 → p.count ≠ 0 → refused (.readFold h p) h cField 24 s) ∧
        (p.first = 0 → p.count = 0 → queued (.readFold h p) h 0x0401 p.fold.toNat p.seg.toNat (.fold p) s)) ∧
      (p.format ≠ 4 ∨ p.part ≠ 0 →
        (p.first ≠ 0 → readUnits d p.fold.toNat p.format.toNat p.part.toNat p.sub.toNat us ≤ p.first.toNat →
          refused (.readFold h p) h cField 16 s) ∧
        (p.first = 0 ∨ p.first.toNat < readUnits d p.fold.toNat p.format.toNat p.part.toNat p.sub.toNat us →
          queued (.readFold h p) h 0x0401 p.fold.toNat p.seg.toNat (.fold p) s)))) ∧
  (∀ (h : CmdHdr) (p : ReadRangeParams) (s : State) (d : DeckImage), s.starts h (readRangeChecks h p s) → actDeck s = some d →
    (p.seg = 0xFFFFFFFF → segOpen s (fGroup d p.fold.toNat) = none → refused (.readRange h p) h cState 0 s) ∧
    (∀ k, p.seg = 0xFFFFFFFF → segOpen s (fGroup d p.fold.toNat) = some k →
      queued (.readRange h p) h 0x0402 p.fold.toNat k (.range p) s) ∧
    (p.seg ≠ 0xFFFFFFFF → segClosed s p.fold.toNat p.seg.toNat = false → refused (.readRange h p) h cState 0 s) ∧
    (p.seg ≠ 0xFFFFFFFF → segClosed s p.fold.toNat p.seg.toNat = true →
      queued (.readRange h p) h 0x0402 p.fold.toNat p.seg.toNat (.range p) s)) ∧
  (∀ (h : CmdHdr) (p : ReadIndexParams) (s : State) (n : Nat), s.starts h (readIndexChecks h p s) →
    n = (segUnits s p.fold.toNat p.seg.toNat).length →
    (p.kind = 0 ∨ segClosed s p.fold.toNat p.seg.toNat = true ∧ (p.first = 0 ∨ p.first.toNat < n) →
      queued (.readIndex h p) h 0x0403 p.fold.toNat p.seg.toNat (.index p) s) ∧
    (p.kind ≠ 0 → segClosed s p.fold.toNat p.seg.toNat = false → refused (.readIndex h p) h cState 0 s) ∧
    (p.kind ≠ 0 → segClosed s p.fold.toNat p.seg.toNat = true → p.first ≠ 0 → n ≤ p.first.toNat →
      refused (.readIndex h p) h cField 16 s)) ∧
  (∀ s : State, (s.drov.waiting = [] → exec .droverJobStart s = .next s) ∧
    (freeDrovers s = [] → exec .droverJobStart s = .next s) ∧
    (∀ j rest i, s.drov.waiting = j :: rest → freeDrovers s ≠ [] → j.job = .cmd i →
      exec .droverJobStart s = .next (droverCmd (s.modDrov (fun x => { x with waiting := rest })) i)) ∧
    (∀ j rest, s.drov.waiting = j :: rest → freeDrovers s ≠ [] → (∀ i, j.job ≠ .cmd i) → ∃ t n, exec .droverJobStart s = .next t ∧ n < 8 ∧
      n ∈ freeDrovers s ∧ assoc t.drov.jobs n = some { j with units := segUnits s (jobFold j) j.seg } ∧
      (∀ m, m ≠ n → assoc t.drov.jobs m = assoc s.drov.jobs m) ∧ t.drov.waiting = rest ∧
      rdF t (Reg.DROV_STATE n) 31 16 = j.cid.toNat ∧ s.sameBut [.regs, .free, .pcie, .drov] t)) ∧
  (∀ (f : Fin 64) (sub seg entry : Nat) (s : State) (d : DeckImage) (w : Option (Nat × Nat × UnitRec)), actDeck s = some d →
    w = (verifyWaiting s).head?.filter (fun w => w.1 == f.val && w.2.1 == seg && w.2.2.inst == sub && w.2.2.ix == entry) →
    (w = none ∨ (∀ e < 32, freeDcmp s e = false) → exec (.readoutVerification f sub seg entry) s = .next s) ∧
    (∀ f1 k r vs, w = some (f1, k, r) → (∃ e < 32, freeDcmp s e = true) →
      vs = { fold := f, sub := sub, seg := seg, entry := entry, good := (compInflate s d f seg r).isSome } :: s.comp.verified →
      ∃ t e, exec (.readoutVerification f sub seg entry) s = .next t ∧ e < 32 ∧ freeDcmp s e = true ∧
      (∀ bs, compInflate s d f seg r = some bs →
        t.comp = { s.comp with verified := vs, busy := assocSet s.comp.busy (64 + e) (bs.length / 8 + 1, 3) }) ∧
      (compInflate s d f seg r = none → t.comp = { s.comp with verified := vs } ∧ flagSet t (Reg.DCMP_STATUS e) 0 = true) ∧
      s.sameBut [.regs, .free, .pcie, .comp] t)) ∧
  (∀ (cid : BitVec 16) (s : State) (d : DeckImage) (n : Nat) (j : DroverJob) (cs : List Chunk) (out : List Byte), actDeck s = some d →
    s.drov.jobs.find? (fun p => p.2.cid == cid) = some (n, j) → unverified s d j = [] → cs = jobChunks s d j →
    out = (cs.map Chunk.bytes).flatten → (∀ c ∈ cs, ∀ r, c.unit = some r → r ∈ segUnits s (jobFold j) j.seg) →
    (∀ c ∈ cs, ∀ x ∈ c.judged, x.bad = false) → out.length ≤ segsLen (bufList s (jobDest j)) → s.runs j.ring j.cid (jobOp j) →
    (∀ g ∈ s.cmd.finished, g.cid ≠ cid) → pairState s j.ring = stOff →
    ∃ t, exec (.completionWrite cid) s = .next t ∧
      t.cmd = s.ending j.ring j.cid cOk (match j.job with | .index _ => cs.length | _ => 0) out.length ∧ assoc t.drov.jobs n = none ∧
      (∀ a, jobReport j = some a → jobList j = 0 → t.mem = (putHost (putBuf (putBuf s (bufList s (jobDest j)) out) [] []) a.toNat
        (report cs out.length 0 0 (reportFlags s j false))).mem) ∧
      (jobReport j = none → jobList j = 0 → t.mem = (putBuf (putBuf s (bufList s (jobDest j)) out) [] []).mem)) ∧
  (∀ (n : Fin 8) (s : State), (assoc s.drov.jobs n = none → exec (.completionTimeout (.drover n)) s = .next s) ∧
    (∀ j, assoc s.drov.jobs n = some j → s.runs j.ring j.cid (jobOp j) → ∃ t, exec (.completionTimeout (.drover n)) s = .next t ∧
      t.cmd = s.ending j.ring j.cid cHostError 0 0 ∧ assoc t.drov.jobs n = none ∧ flagSet t Reg.PCIE_STATUS 4 = true ∧
      flagSet t (Reg.DROV_STATUS n) 1 = true ∧ s.sameBut [.regs, .cmd, .pcie, .drov, .log] t)) ∧
  (∀ (n : Fin 16) (s : State), (pairState s n ≠ stOn → exec (.completionTimeout (.fetcher n)) s = .next s) ∧
    (pairState s n = stOn → ∃ t, exec (.completionTimeout (.fetcher n)) s = .next t ∧ pairState t n = stFault ∧
      flagSet t Reg.PCIE_STATUS 4 = true ∧ flagSet t (Reg.CMDQ_STATUS n) 2 = true ∧ s.sameBut [.regs, .pcie] t))

/-- In D3hot a doorbell changes nothing. Otherwise a doorbell on a pair that is not ON, with a value outside the ring, or that
would pass the SQ head or the CQ tail sets DB_ERR and changes nothing else; any other sets the tail or the head. COMMAND_FETCH
at the limit of 1,024, with no work or with no core that processes changes nothing; else the next pair in turn with work moves
its head past one entry, the shadow follows, and the entry joins those that were fetched, with the first reserved byte that is
not zero, or completes with UNKNOWN_OPCODE, ID_IN_USE or INVALID_FIELD. COMPLETION_WRITE writes a finished command's entry
with its phase at the CQ tail and counts it as pending, with CQ_POSTED as COAL.CNT says; with the CQ full it sets CQ_FULL.
COALESCE_TIMEOUT sets CQ_POSTED. MSI-X unmask sends what is pending while the summary is not 0. D3hot waits for every command.
(R321, R322, R324, R325, R326, R327, R328, R329, R330, R337, R341) -/
def Obligations.RingsCarryCommandsAndCompletions : Prop :=
  (∀ (n : Fin 16) (value : BitVec 32) (s : State) (v size : Nat), v = nbits value.toNat 11 0 → size = 2 ^ rdF s (Reg.CMDQ_CTRL n) 11 8 →
    (s.pcie.d3hot = true → exec (.sqDoorbell n value) s = .next s) ∧
    (s.pcie.d3hot = false →
      pairState s n ≠ stOn ∨ size ≤ v ∨ ringDist size (sqHead s n) v < ringDist size (sqHead s n) (sqTail s n) →
      ∃ t, exec (.sqDoorbell n value) s = .next t ∧ flagSet t (Reg.CMDQ_STATUS n) 1 = true ∧ s.regsBut [Reg.CMDQ_STATUS n] t ∧
        s.sameBut [.regs, .pcie] t) ∧
    (s.pcie.d3hot = false → pairState s n = stOn → v < size →
      ringDist size (sqHead s n) (sqTail s n) ≤ ringDist size (sqHead s n) v → ∃ t, exec (.sqDoorbell n value) s = .next t ∧
        sqTail t n = v ∧ sqHead t n = sqHead s n ∧ s.regsBut [Reg.CMDQ_SQ_PTR n] t ∧ s.sameBut [.regs] t)) ∧
  (∀ (n : Fin 16) (value : BitVec 32) (s : State) (v size : Nat), v = nbits value.toNat 11 0 → size = 2 ^ rdF s (Reg.CMDQ_CTRL n) 15 12 →
    (s.pcie.d3hot = true → exec (.cqDoorbell n value) s = .next s) ∧
    (s.pcie.d3hot = false →
      pairState s n ≠ stOn ∨ size ≤ v ∨ ringDist size (cqHead s n) (cqTail s n) < ringDist size (cqHead s n) v →
      ∃ t, exec (.cqDoorbell n value) s = .next t ∧ flagSet t (Reg.CMDQ_STATUS n) 1 = true ∧ s.regsBut [Reg.CMDQ_STATUS n] t ∧
        s.sameBut [.regs, .pcie] t) ∧
    (s.pcie.d3hot = false → pairState s n = stOn → v < size →
      ringDist size (cqHead s n) v ≤ ringDist size (cqHead s n) (cqTail s n) → ∃ t, exec (.cqDoorbell n value) s = .next t ∧
        cqHead t n = v ∧ cqTail t n = cqTail s n ∧ s.regsBut [Reg.CMDQ_CQ_PTR n] t ∧ s.sameBut [.regs] t)) ∧
  (∀ s : State, s.pcie.d3hot = true ∨ 1024 ≤ inFlight s ∨ processing s = false ∨ (∀ n < 16, pairState s n = stOn → sqHead s n = sqTail s n) →
    exec .commandFetch s = .next s) ∧
  (∀ (s : State) (i : Nat) (n : Fin 16) (e : List Byte) (cid : BitVec 16) (head : Nat), s.pcie.d3hot = false → inFlight s < 1024 →
    processing s = true → i < 16 →
    n.val = (s.cmd.turn + i) % 16 → pairState s n = stOn → sqHead s n ≠ sqTail s n →
    (∀ j < i, pairState s ((s.cmd.turn + j) % 16) = stOn → sqHead s ((s.cmd.turn + j) % 16) = sqTail s ((s.cmd.turn + j) % 16)) →
    e = memRead s.mem.host (rd64 s (Reg.CMDQ_SQ_BASE_LO n) + 64 * sqHead s n) 64 → cid = BitVec.ofNat 16 (leAt e 4 2) →
    head = (sqHead s n + 1) % sqSize s n →
    let done (status result : Nat) (t : State) : Prop := t.cmd = { s.cmd with
      turn := (n + 1) % 16
      finished := s.cmd.finished ++ [{ ring := n, cid := cid, status := status, result := BitVec.ofNat 32 result, result2 := 0 }] }
    ∃ t, exec .commandFetch s = .next t ∧ sqHead t n = head ∧ sqTail t n = sqTail s n ∧ s.regsBut [Reg.CMDQ_SQ_PTR n] t ∧
      t.mem = (if rd64 s (Reg.CMDQ_SHADOW_LO n) = 0 then s.mem
        else (putHost s (rd64 s (Reg.CMDQ_SHADOW_LO n)) (leBytes 4 head)).mem) ∧
      (opcodes.contains (leAt e 0 2) = false → done cUnknown (leAt e 0 2) t) ∧
      (opcodes.contains (leAt e 0 2) = true →
        (cidInFlight s cid = true → done cIdInUse 0 t) ∧
        (cidInFlight s cid = false → leAt e 2 1 / 2 ≠ 0 → done cField 2 t) ∧
        (cidInFlight s cid = false → leAt e 2 1 / 2 = 0 → leAt e 6 2 ≠ 0 → done cField 6 t) ∧
        (cidInFlight s cid = false → leAt e 2 1 / 2 = 0 → leAt e 6 2 = 0 → t.cmd = { s.cmd with
          turn := (n + 1) % 16
          fetched := s.cmd.fetched ++ [{ ring := n, cid := cid, fence := nbit (leAt e 2 1) 0, resv := reservedByte (leAt e 0 2) e }] } ∧
          t.log = s.log)) ∧
      (loggedOps.contains (leAt e 0 2) = false → t.log = s.log) ∧ s.sameBut [.regs, .cmd, .mem, .log] t) ∧
  (∀ (cid : BitVec 16) (s : State), s.drov.jobs.find? (fun p => p.2.cid == cid) = none →
    (s.cmd.finished.find? (fun f => f.cid == cid) = none → exec (.completionWrite cid) s = .next s) ∧
    (∀ f, s.cmd.finished.find? (fun f => f.cid == cid) = some f →
      (pairState s f.ring = stOff ∨ pairState s f.ring = stStarting → exec (.completionWrite cid) s = .next s) ∧
      (pairState s f.ring ≠ stOff → pairState s f.ring ≠ stStarting →
        ((cqTail s f.ring + 1) % cqSize s f.ring = cqHead s f.ring → ∃ t, exec (.completionWrite cid) s = .next t ∧
          flagSet t (Reg.CMDQ_STATUS f.ring) 3 = true ∧ s.regsBut [Reg.CMDQ_STATUS f.ring, Reg.PCIE_STATUS] t ∧ s.sameBut [.regs, .pcie] t) ∧
        (∀ (tail cnt k : Nat) (phase : Bool), tail = (cqTail s f.ring + 1) % cqSize s f.ring → tail ≠ cqHead s f.ring →
          cnt = rdF s (Reg.CMDQ_COAL f.ring) 11 0 → k = (tabGet {} s.cmd.cq f.ring).pending + 1 →
          phase = (tabGet {} s.cmd.cq f.ring).phase → ∃ t, exec (.completionWrite cid) s = .next t ∧
          t.mem = (putHost s (rd64 s (Reg.CMDQ_CQ_BASE_LO f.ring) + 16 * cqTail s f.ring)
            (leBytes 2 f.cid.toNat ++ leBytes 2 (f.status % 256 + 256 * f.ring.val + (if phase then 32768 else 0)) ++
              leBytes 4 f.result.toNat ++ leBytes 8 f.result2.toNat)).mem ∧
          t.cmd.finished = s.cmd.finished.filter (fun g => !(g.ring == f.ring && g.cid == cid)) ∧
          t.cmd.fetched = s.cmd.fetched ∧ t.cmd.running = s.cmd.running ∧ (tabGet {} t.cmd.cq f.ring).pending = k ∧
          (cnt ≤ 1 ∨ cnt ≤ k → flagSet t (Reg.CMDQ_STATUS f.ring) 0 = true) ∧
          (pairState s f.ring = stOn ∨ pairState s f.ring = stFault → cqTail t f.ring = tail ∧ cqHead t f.ring = cqHead s f.ring ∧
            pairState t f.ring = pairState s f.ring ∧ (tabGet {} t.cmd.cq f.ring).phase = (if tail = 0 then !phase else phase)) ∧
          (pairState s f.ring = stStopping → pairInFlight s f.ring = 1 →
            (blkEn s (Reg.CMDQ_CTRL f.ring) = false → pairState t f.ring = stOff) ∧
            (blkEn s (Reg.CMDQ_CTRL f.ring) = true → pairState t f.ring = stStarting ∧ cqTail t f.ring = 0 ∧ sqHead t f.ring = 0)) ∧
          s.sameBut [.regs, .cmd, .pcie, .mem] t)))) ∧
  (∀ (n : Fin 16) (s : State),
    ((tabGet {} s.cmd.cq n).pending = 0 ∨ rdF s (Reg.CMDQ_COAL n) 31 16 = 0 → exec (.coalesceTimeout n) s = .next s) ∧
    ((tabGet {} s.cmd.cq n).pending ≠ 0 → rdF s (Reg.CMDQ_COAL n) 31 16 ≠ 0 → ∃ t, exec (.coalesceTimeout n) s = .next t ∧
      flagSet t (Reg.CMDQ_STATUS n) 0 = true ∧ s.regsBut [Reg.CMDQ_STATUS n, Reg.PCIE_STATUS] t ∧ s.sameBut [.regs, .pcie] t)) ∧
  (∀ s : State, (s.pcie.msixMask = false → exec .msixUnmask s = .next s) ∧
    (s.pcie.msixMask = true → ∃ t, exec .msixUnmask s = .next t ∧ t.pcie = { s.pcie with
      msixMask := false, pba := false, vectors := s.pcie.vectors + (if s.pcie.pba = true ∧ irqN s = false then 1 else 0) } ∧
      s.sameBut [.pcie] t) ∧
    (inFlight s ≠ 0 ∨ s.pcie.d3hot = true → exec .pcieD3hotEntry s = .next s) ∧
    (inFlight s = 0 → s.pcie.d3hot = false → ∃ t, exec .pcieD3hotEntry s = .next t ∧
      t.pcie = { s.pcie with d3hot := true, pmeEn := t.pcie.pmeEn, inL2 := t.pcie.inL2 } ∧ s.sameBut [.pcie, .free] t) ∧
    (∃ t, exec .pcieD0Return s = .next t ∧ t.pcie = { s.pcie with d3hot := false, inL2 := false } ∧ s.sameBut [.pcie] t)) ∧
  (∀ (speed : Fin 7) (width : Fin 4) (reversed flit : Bool) (s : State),
    (speed.val = 0 ∨ width.val = 0 → exec (.pcieLinkUp speed width reversed flit) s = .next s) ∧
    (speed.val ≠ 0 → width.val ≠ 0 → ∃ t, exec (.pcieLinkUp speed width reversed flit) s = .next t ∧ t.pcie.linkUp = true ∧
      rdF t Reg.PCIE_LINK 7 5 = speed ∧ rdF t Reg.PCIE_LINK 4 2 = width ∧ (rd t Reg.PCIE_LINK).getLsbD 1 = reversed ∧
      (rd t Reg.PCIE_LINK).getLsbD 0 = flit ∧ flagSet t Reg.PCIE_STATUS 0 = true ∧
      (speed.val < 6 → flagSet t Reg.PCIE_STATUS 2 = true) ∧ (width.val < 3 → flagSet t Reg.PCIE_STATUS 3 = true) ∧
      s.regsBut [Reg.PCIE_LINK, Reg.PCIE_STATUS] t ∧ s.sameBut [.regs, .pcie] t))

/-- In D3hot, without bytes, or through an alias command outside its window, a write changes nothing. A write to an unmapped
offset, or to a stack that is OFF or held, sets UR_SENT and changes no memory; into HBM where R319 forbids it, or with a
partial word, it is counted and flagged as WDROP. A permitted HBM write stores its bytes and no other. A write of one whole
scratch word: nothing where Table 14-3 discards it; OFF_ACCESS where the bank is not ON; else the word takes the data, old OR
data, or old AND NOT data; with a port-A write to it, port A's data, with WW_COLLIDE where a plain write differs and
ALIAS_ABORT for an alias; an alias write of a word with an uncorrectable error sets ALIAS_ABORT only. Several whole words are
all written. A read answers the bytes, poisoned where a word has an uncorrectable error, or UR, and changes no memory. With no
rival at the bank nothing stalls; with a patrol, a Shepherd and a drover request in its first cycle and port A idle, the
drover and the host stall once. (R318, R319, R320, R385, R386, R390, R391, R392, R394, R418, R121, R436) -/
def Obligations.WindowReachesTheMemories : Prop :=
  let outside (x n : Nat) (s t : State) : Prop := t.mem.hbm = s.mem.hbm ∧ t.mem.host = s.mem.host ∧
    (∀ a, a < x ∨ x + n ≤ a → memByte t.mem.scratch a = memByte s.mem.scratch a)
  let conflicts : List Nat := (List.range 5).flatMap (fun r => (List.range 3).map (Reg.MEM_CONFLICT r))
  let put (e : List Byte → Option (BitVec 64) → List (BitVec 3) → Instr) (m : Merge) (off x : Nat) (s : State) : Prop :=
    (∀ data pa rivals, s.pcie.d3hot = true ∨ data = [] → exec (e data pa rivals) s = .next s) ∧
    (∀ data pa rivals, s.pcie.d3hot = false → data ≠ [] → ∃ t, exec (e data pa rivals) s = .next t ∧ outside x data.length s t ∧
      (apLoc x = none → flagSet t Reg.PCIE_STATUS 5 = true ∧ t.mem = s.mem) ∧
      (apLoc x ≠ none → x % 8 ≠ 0 ∨ (x + data.length) % 8 ≠ 0 → flagSet t Reg.PCIE_STATUS 13 = true ∧
        rd t Reg.PCIE_WDROP = satAdd (rd s Reg.PCIE_WDROP) 1 ∧
        (flagSet s Reg.PCIE_STATUS 13 = false → rd64 t Reg.PCIE_WDROP_ADDR_LO = off) ∧
        (∀ a, a < (x + 7) / 8 * 8 ∨ (x + data.length) / 8 * 8 ≤ a → memByte t.mem.scratch a = memByte s.mem.scratch a)) ∧
      (∀ r b w, apLoc x = some (r, b, w) → x % 8 = 0 → data.length = 8 →
        (hostMayWrite s r x = false → t = s) ∧
        (hostMayWrite s r x = true → bankOn s r b = false → flagSet t Reg.MEM_STATUS 11 = true ∧ t.mem = s.mem) ∧
        (hostMayWrite s r x = true → bankOn s r b = true → s.mem.deadRows.contains (rowKey r b w) = true → t.mem = s.mem) ∧
        (hostMayWrite s r x = true → bankOn s r b = true → s.mem.deadRows.contains (rowKey r b w) = false →
          (∀ a, pa = some a → memNat t.mem.scratch x 8 = a.toNat ∧ t.mem.badWords.contains x = false ∧
            (m = .plain → a.toNat ≠ leNat data → flagSet t Reg.MEM_STATUS 4 = true) ∧
            (m ≠ .plain → flagSet t Reg.MEM_STATUS 5 = true)) ∧
          (pa = none → m = .plain → memNat t.mem.scratch x 8 = leNat data ∧ t.mem.badWords.contains x = false ∧
            t.regs = (awaitPort s x false rivals).regs) ∧
          (pa = none → m ≠ .plain → s.mem.badWords.contains x = true → flagSet t Reg.MEM_STATUS 5 = true ∧ t.mem = s.mem) ∧
          (pa = none → s.mem.badWords.contains x = false →
            (m = .set → memNat t.mem.scratch x 8 = memNat s.mem.scratch x 8 ||| leNat data) ∧
            (m = .clear → ∀ i < 64, nbit (memNat t.mem.scratch x 8) i = (nbit (memNat s.mem.scratch x 8) i && !nbit (leNat data) i))))) ∧
      (m = .plain → pa = none → x % 8 = 0 → data.length % 8 = 0 →
        (∀ i < data.length / 8, ∃ r b w, apLoc (x + 8 * i) = some (r, b, w) ∧ hostMayWrite s r (x + 8 * i) = true ∧ bankOn s r b = true ∧
          s.mem.deadRows.contains (rowKey r b w) = false) →
        ∀ i < data.length, memByte t.mem.scratch (x + i) = data.getD i 0) ∧
      (rivals = [] → ∀ o ∈ conflicts, rd t o = rd s o) ∧
      (∀ r b w m, m < 3 → apLoc x = some (r, b, w) → r < 5 → bankOn s r b = true → portAIdle s r b 0 = true → rivals = [7] →
        rd t (Reg.MEM_CONFLICT r m) = (if m = 0 then rd s (Reg.MEM_CONFLICT r m) else satAdd (rd s (Reg.MEM_CONFLICT r m)) 1)) ∧
      s.regsBut (conflicts ++ [Reg.PCIE_STATUS, Reg.PCIE_WDROP, Reg.PCIE_WDROP_ADDR_LO, Reg.PCIE_WDROP_ADDR_HI, Reg.MEM_STATUS, Reg.MEM_ERR_LOC,
        Reg.MEM_WW_CNT 0, Reg.MEM_WW_CNT 1, Reg.MEM_WW_CNT 2, Reg.MEM_WW_CNT 3, Reg.MEM_WW_CNT 4]) t ∧
      s.sameBut [.regs, .pcie, .mem] t)
  (∀ (off : BitVec 38) (s : State), (0x2400000000 ≤ off.toNat → off.toNat < 0x2500000000 →
      put (@Instr.bar2Write off) .plain off.toNat (off.toNat - 0x2400000000) s) ∧
    (0x2500000000 ≤ off.toNat → off.toNat < 0x2600000000 → put (@Instr.bar2Write off) .set off.toNat (off.toNat - 0x2500000000) s ∧
      put (@Instr.bar2SetAliasWrite off) .set off.toNat (off.toNat - 0x2500000000) s) ∧
    (0x2600000000 ≤ off.toNat → off.toNat < 0x2700000000 → put (@Instr.bar2Write off) .clear off.toNat (off.toNat - 0x2600000000) s ∧
      put (@Instr.bar2ClearAliasWrite off) .clear off.toNat (off.toNat - 0x2600000000) s) ∧
    (∀ data pa rivals, off.toNat < 0x2500000000 ∨ 0x2600000000 ≤ off.toNat → exec (.bar2SetAliasWrite off data pa rivals) s = .next s) ∧
    (∀ data pa rivals, off.toNat < 0x2600000000 ∨ 0x2700000000 ≤ off.toNat → exec (.bar2ClearAliasWrite off data pa rivals) s = .next s)) ∧
  (∀ (off : BitVec 38) (data : List Byte) (pa : Option (BitVec 64)) (rivals : List (BitVec 3)) (s : State) (n : Nat), n = off.toNat / stackSize s →
    off.toNat < 0x2400000000 ∨ 0x2700000000 ≤ off.toNat → s.pcie.d3hot = false → data ≠ [] →
    ∃ t, exec (.bar2Write off data pa rivals) s = .next t ∧ s.sameBut [.regs, .pcie, .mem] t ∧
      (4 * stackSize s ≤ off.toNat ∨ stackUsable s n = false → flagSet t Reg.PCIE_STATUS 5 = true ∧ t.mem = s.mem) ∧
      (off.toNat < 4 * stackSize s → stackUsable s n = true →
        (hbmWritable s off.toNat = false ∨ hbmWritable s (off.toNat + data.length - 1) = false → t.mem = s.mem ∧
          flagSet t Reg.PCIE_STATUS 13 = true ∧ rd t Reg.PCIE_WDROP = satAdd (rd s Reg.PCIE_WDROP) 1) ∧
        (hbmWritable s off.toNat = true → hbmWritable s (off.toNat + data.length - 1) = true → s.shep.pageQuar = [] →
          t.mem.scratch = s.mem.scratch ∧ t.mem.host = s.mem.host ∧
          (∀ i < data.length, memByte t.mem.hbm (off.toNat + i) = data.getD i 0) ∧
          (∀ a, a < off.toNat ∨ off.toNat + data.length ≤ a → memByte t.mem.hbm a = memByte s.mem.hbm a)))) ∧
  (∀ (off : BitVec 38) (len : Nat) (rivals : List (BitVec 3)) (s : State) (n : Nat), n = off.toNat / stackSize s →
    ∃ t, exec (.bar2Read off len rivals) s = .next t ∧ s.sameBut [.regs, .reply, .pcie, .log, .mem] t ∧
      t.mem.scratch = s.mem.scratch ∧ t.mem.hbm = s.mem.hbm ∧ t.mem.host = s.mem.host ∧
      (s.pcie.d3hot = true ∨ 4 * stackSize s ≤ off.toNat ∧ off.toNat < 0x2400000000 ∨ 0x2700000000 ≤ off.toNat →
        t.reply = .unsupported ∧ flagSet t Reg.PCIE_STATUS 5 = true) ∧
      (s.pcie.d3hot = false → off.toNat < 4 * stackSize s →
        (stackUsable s n = false → t.reply = .unsupported ∧ flagSet t Reg.PCIE_STATUS 5 = true) ∧
        (stackUsable s n = true → hbmBad s off.toNat len = false → t.reply = .data (memRead s.mem.hbm off.toNat len)) ∧
        (stackUsable s n = true → hbmBad s off.toNat len = true → t.reply = .poisoned (memRead s.mem.hbm off.toNat len) ∧
          flagSet t (Reg.HBM_STATUS n) 1 = true ∧ rd t (Reg.HBM_UE_CNT n) = satAdd (rd s (Reg.HBM_UE_CNT n)) 1 ∧
          (t.newestLog.map LogEntry.cls) = some 2)) ∧
      (s.pcie.d3hot = false → 0x2400000000 ≤ off.toNat → off.toNat < 0x2700000000 → ∀ x, x = off.toNat % 0x100000000 →
        (apLoc x = none → t.reply = .unsupported ∧ flagSet t Reg.PCIE_STATUS 5 = true) ∧
        (∀ r b w, apLoc x = some (r, b, w) →
          (r = 6 → s.sec.life = 2 ∨ scrapped s = true → t.reply = .unsupported ∧ flagSet t Reg.PCIE_STATUS 5 = true) ∧
          (¬(r = 6 ∧ (s.sec.life = 2 ∨ scrapped s = true)) → (∃ p ∈ apWords x len, bankOn s p.1 p.2.1 = false) → t.reply = .unsupported ∧
            flagSet t Reg.PCIE_STATUS 5 = true ∧ flagSet t Reg.MEM_STATUS 11 = true) ∧
          (¬(r = 6 ∧ (s.sec.life = 2 ∨ scrapped s = true)) → (∀ p ∈ apWords x len, bankOn s p.1 p.2.1 = true) →
            ((∀ p ∈ apWords x len, apBad s p = false) →
              (∃ bs, t.reply = .data bs) ∧ t.regs = (awaitPort s x false rivals).regs ∧ (rivals = [] → t.regs = s.regs) ∧
              (x + len ≤ 82 * 2 ^ 20 → (∀ i < len, apLoc (x + i) ≠ none) → t.reply = .data (memRead s.mem.scratch x len)) ∧
              (∀ i < 524288, x = 96 * 2 ^ 20 + 16 * i → len = 16 → t.reply = .data
                (leBytes 12 (tabGet {} s.flock.main i).key.toNat ++ leBytes 4 (tabGet {} s.flock.main i).action.toNat))) ∧
            ((∃ p ∈ apWords x len, apBad s p = true) → (∃ bs, t.reply = .poisoned bs) ∧ flagSet t Reg.MEM_STATUS 3 = true)))))

/-- MEM_POWER refuses with BUSY as R361 says; where every unit is in its state already it completes at once; else those that are
not read CHANGING, the command runs until the last has arrived, and PWR_DONE is set. OFF loses the contents of a bank; HBM OFF
loses the decks, contexts and uncommitted log entries. A write-back counts a corrected error in its region and leaves the word
good; with MEM_CE_THRESH such errors within 1 s, CE is set and a class C entry logged. SCRUB_STEP counts what it finds, in the
flock table too, where a double error spoils its bucket; SCRUB_LAP is set when every bank in ON has completed a pass. A row is
failing at its eighth corrected error within 24 h or at an uncorrectable one; a failing row takes a spare row, with ROWS_LOW
at two or fewer left, or is quarantined with none; a failing HBM page takes a pool page, or is quarantined. A stack enters
self-refresh only with HBM_AUTO, the regions asleep and the stack ON. (Which log entry a region's threshold leaves, and that
CE is set where the count equals it: DEDUCED, notes/assumptions/37.md.) (R361, R386, R387, R393, R394, R418, R424, R425, R432,
R436) -/
def Obligations.BanksStacksAndRepairs : Prop :=
  (∀ (h : CmdHdr) (target state region : Byte) (mask : BitVec 64) (s : State) (us move : List Nat) (v : Nat),
    s.starts h (memPowerChecks h target state region mask s) → us = powerNamed target region mask → v = 2 - state.toNat →
    move = us.filter (fun k => unitPower s k != v) →
    ((captureBusy s = true ∨ playing s = true) ∧ us.any (deckUses s) = true ∨ target = 0 ∧ state = 2 ∧ (actDeck s).isSome = true →
      ∃ t, exec (.memPower h target state region mask) s = .next t ∧ t.cmd = s.completing h cBusy busyState 0 ∧ s.sameBut [.cmd] t) ∧
    ((captureBusy s = false ∧ playing s = false ∨ us.any (deckUses s) = false) → ¬(target = 0 ∧ state = 2 ∧ (actDeck s).isSome = true) →
      ∃ t, exec (.memPower h target state region mask) s = .next t ∧
        (target = 0 → ∀ n < 4, 512 + n ∈ us → t.pwr.held.contains n = decide (state = 1)) ∧ (target ≠ 0 → t.pwr.held = s.pwr.held) ∧
        (target ≠ 0 → ∀ k ∈ us, tabGet 0 t.pwr.bankGiven k = v) ∧
        (move = [] → t.cmd = s.completing h cOk 0 0 ∧ flagSet t Reg.MEM_STATUS 12 = true ∧ t.pwr.changing = s.pwr.changing ∧
          t.mem = s.mem) ∧
        (move ≠ [] → t.cmd = s.running h 0x0B01 0 0 ∧ (∀ k ∈ move, unitPower t k = 3) ∧ t.mem = s.mem ∧
          t.pwr.changing = s.pwr.changing ++ move.map (fun k => (k, v, some (h.ring, h.cid)))) ∧
        s.sameBut [.regs, .cmd, .pcie, .pwr] t)) ∧
  (∀ (u : PowerUnit) (s : State), (s.pwr.changing.find? (fun c => c.1 == powerKey u) = none → exec (.bankPowerChangeDone u) s = .next s) ∧
    (∀ k v who, s.pwr.changing.find? (fun c => c.1 == powerKey u) = some (k, v, who) → v < 4 →
      ∃ t, exec (.bankPowerChangeDone u) s = .next t ∧ unitPower t k = v ∧ t.pwr.changing = s.pwr.changing.filter (fun c => c.1 != k) ∧
        (who = none → t.cmd = s.cmd) ∧
        (∀ ring cid, who = some (ring, cid) →
          ((s.pwr.changing.filter (fun c => c.1 != k)).any (fun c => c.2.2 == some (ring, cid)) = true → t.cmd = s.cmd) ∧
          ((s.pwr.changing.filter (fun c => c.1 != k)).any (fun c => c.2.2 == some (ring, cid)) = false → s.runs ring cid 0x0B01 →
            t.cmd = s.ending ring cid cOk 0 0 ∧ flagSet t Reg.MEM_STATUS 12 = true)) ∧
        (∀ r b, u = .bank r b → t.mem.hbm = s.mem.hbm ∧
          (v = 0 → ∀ i < 262144, memByte t.mem.scratch (bankBase r b + i) = 0) ∧
          (∀ a, v ≠ 0 ∨ a < bankBase r b ∨ bankBase r b + 262144 ≤ a → memByte t.mem.scratch a = memByte s.mem.scratch a)) ∧
        (∀ n, u = .stack n → t.mem.scratch = s.mem.scratch ∧
          (v = 0 → t.deck.slots = [] ∧ t.pgen.psegs = [] ∧ (∀ e ∈ t.log.entries, e.seq < s.log.committed) ∧
            (∀ i, (tabGet {} t.comp.ctx i).stream = none) ∧ flagSet t Reg.CHIP_PWR_STATUS 12 = true ∧
            (∀ a, n * stackSize s ≤ a → a < (n + 1) * stackSize s → memByte t.mem.hbm a = 0)) ∧
          (v = 1 → flagSet t Reg.CHIP_PWR_STATUS 10 = true) ∧ (v = 2 → flagSet t Reg.CHIP_PWR_STATUS 11 = true) ∧
          (v ≠ 0 → t.mem = s.mem ∧ t.deck = s.deck ∧ t.comp = s.comp ∧ t.pgen = s.pgen)) ∧
        s.sameBut [.regs, .cmd, .pcie, .log, .mem, .deck, .comp, .pgen, .pwr] t)) ∧
  (∀ (stack : Fin 4) (s : State),
    ((rd s Reg.CHIP_PWR_CTRL).getLsbD 2 = false ∨ regionsAsleep s = false ∨ stackState s stack ≠ 2 → exec (.hbmSelfRefreshEntry stack) s = .next s) ∧
    ((rd s Reg.CHIP_PWR_CTRL).getLsbD 2 = true → regionsAsleep s = true → stackState s stack = 2 →
      ∃ t, exec (.hbmSelfRefreshEntry stack) s = .next t ∧ stackState t stack = 1 ∧ flagSet t Reg.CHIP_PWR_STATUS 10 = true ∧
        s.regsBut [Reg.CHIP_PWR_STATE, Reg.CHIP_PWR_STATUS, Reg.PCIE_STATUS] t ∧ s.sameBut [.regs, .pcie] t)) ∧
  (∀ (loc : MemLoc) (overwritten : Bool) (s : State) (l : Nat), l = (noteTime s second (tabGet [] s.mem.ceWin loc.region)).length →
    (bankOn s loc.region loc.bank = false → exec (.eccWriteback loc overwritten) s = .next s) ∧
    (bankOn s loc.region loc.bank = true → ∃ t, exec (.eccWriteback loc overwritten) s = .next t ∧
      rd t (Reg.MEM_CE_CNT loc.region) = satAdd (rd s (Reg.MEM_CE_CNT loc.region)) 1 ∧ t.mem.scratch = s.mem.scratch ∧
      t.mem.badWords = (if overwritten then s.mem.badWords else s.mem.badWords.filter (· != wordAt loc.region loc.bank loc.word)) ∧
      (l = rdF s Reg.MEM_CE_THRESH 15 0 → flagSet t Reg.MEM_STATUS 2 = true ∧ (t.newestLog.map (fun e => (e.event, e.cls))) = some (2, 1)) ∧
      (l ≠ rdF s Reg.MEM_CE_THRESH 15 0 → t.log = s.log ∧ flagSet t Reg.MEM_STATUS 2 = flagSet s Reg.MEM_STATUS 2) ∧
      (∀ key, key = rowKey loc.region loc.bank loc.word → loc.region.val < 7 →
        t.mem.failRows = (if 8 ≤ (noteTime s day (tabGet [] s.mem.rowCe key)).length then insertNat s.mem.failRows key else s.mem.failRows)) ∧
      s.sameBut [.regs, .pcie, .log, .mem, .shep] t)) ∧
  (∀ (loc : MemLoc) (err : Fin 3) (s : State) (k : Nat), k = 32768 * loc.bank + loc.word →
    (loc.region.val < 7 → bankCount loc.region ≤ loc.bank.val ∨ bankOn s loc.region loc.bank = false →
      exec (.scrubStep loc err) s = .next s) ∧
    (loc.region.val = 7 → err = 0 ∨ 65536 * 16 + 512 ≤ k → exec (.scrubStep loc err) s = .next s) ∧
    (loc.region.val = 7 → k < 65536 * 16 + 512 → err ≠ 0 → ∃ t, exec (.scrubStep loc err) s = .next t ∧
      (err = 1 → rd t (Reg.MEM_CE_CNT 7) = satAdd (rd s (Reg.MEM_CE_CNT 7)) 1 ∧ t.flock = s.flock) ∧
      (err = 2 → rd t (Reg.MEM_UE_CNT 7) = satAdd (rd s (Reg.MEM_UE_CNT 7)) 1 ∧ flagSet t Reg.MEM_STATUS 3 = true ∧
        t.flock = (if k < 65536 * 16 then { s.flock with bad := insertNat s.flock.bad (k / 16) } else s.flock)) ∧
      t.mem.scratch = s.mem.scratch ∧ s.sameBut [.regs, .pcie, .log, .mem, .flock, .shep] t) ∧
    (loc.region.val < 7 → loc.bank.val < bankCount loc.region → bankOn s loc.region loc.bank = true →
      ∃ t, exec (.scrubStep loc err) s = .next t ∧ t.mem.scratch = s.mem.scratch ∧ t.mem.hbm = s.mem.hbm ∧
        (err = 0 → t.mem.badWords = s.mem.badWords ∧ (loc.word.val ≠ 32767 → t = s)) ∧
        (err = 1 → rd t (Reg.MEM_CE_CNT loc.region) = satAdd (rd s (Reg.MEM_CE_CNT loc.region)) 1) ∧
        (err = 2 → rd t (Reg.MEM_UE_CNT loc.region) = satAdd (rd s (Reg.MEM_UE_CNT loc.region)) 1 ∧ flagSet t Reg.MEM_STATUS 3 = true ∧
          t.mem.badWords.contains (wordAt loc.region loc.bank loc.word) = true) ∧
        (loc.word.val = 32767 → flagSet s Reg.MEM_STATUS 9 = false →
          ((∀ k ∈ banksOn s, k = bankCell loc.region loc.bank ∨ k ∈ s.mem.lap) → flagSet t Reg.MEM_STATUS 9 = true ∧ t.mem.lap = []) ∧
          ((∃ k ∈ banksOn s, k ≠ bankCell loc.region loc.bank ∧ k ∉ s.mem.lap) → flagSet t Reg.MEM_STATUS 9 = false ∧
            bankCell loc.region loc.bank ∈ t.mem.lap)) ∧
        (err = 2 → t.mem.failRows.contains (rowKey loc.region loc.bank loc.word) = true) ∧
        s.sameBut [.regs, .pcie, .log, .mem, .shep] t)) ∧
  (∀ (loc : MemLoc) (s : State) (key cell used row : Nat), key = rowKey loc.region loc.bank loc.word → cell = bankCell loc.region loc.bank →
    used = tabGet 0 s.mem.rows cell → row = loc.word / 64 →
    (7 ≤ loc.region.val ∨ bankCount loc.region ≤ loc.bank.val ∨ s.mem.deadRows.contains key = true ∨ s.mem.failRows.contains key = false →
      exec (.rowRemap loc) s = .next s) ∧
    (loc.region.val < 7 → loc.bank.val < bankCount loc.region → s.mem.deadRows.contains key = false → s.mem.failRows.contains key = true →
      ∃ t, exec (.rowRemap loc) s = .next t ∧ t.mem.failRows = s.mem.failRows.filter (· != key) ∧ (t.newestLog.map LogEntry.cls) = some 3 ∧ t.shep.commitDue = true ∧
        (used < 10 → tabGet 0 t.mem.rows cell = used + 1 ∧ t.mem.scratch = s.mem.scratch ∧ flagSet t Reg.MEM_STATUS 6 = true ∧
          t.mem.deadRows = s.mem.deadRows ∧ (t.shep.wear.head?.map (fun e => (e.kind, e.value))) = some (3, row) ∧
          (8 ≤ used + 1 → flagSet t Reg.MEM_STATUS 7 = true) ∧ (used + 1 < 8 → flagSet t Reg.MEM_STATUS 7 = flagSet s Reg.MEM_STATUS 7)) ∧
        (10 ≤ used → t.mem.deadRows.contains key = true ∧ flagSet t Reg.MEM_STATUS 13 = true ∧ t.mem.rows = s.mem.rows ∧
          (t.shep.wear.head?.map (fun e => (e.kind, e.value))) = some (2, row) ∧
          (∀ a, wordAt loc.region loc.bank (64 * row) ≤ a → a < wordAt loc.region loc.bank (64 * row) + 512 → memByte t.mem.scratch a = 0) ∧
          (∀ a, a < wordAt loc.region loc.bank (64 * row) ∨ wordAt loc.region loc.bank (64 * row) + 512 ≤ a →
            memByte t.mem.scratch a = memByte s.mem.scratch a)) ∧
        s.sameBut [.regs, .pcie, .log, .mem, .shep] t)) ∧
  (∀ (stack : Fin 4) (page : Fin 9437184) (s : State) (key pool : Nat), key = stack * 2 ^ 24 + page → pool = rdF s (Reg.HBM_POOL stack) 18 0 →
    (stackSize s ≤ 4096 * page ∨ s.shep.pageQuar.contains key = true → exec (.hbmPageRemap stack page) s = .next s) ∧
    (4096 * page < stackSize s → s.shep.pageQuar.contains key = false →
      ∃ t, exec (.hbmPageRemap stack page) s = .next t ∧ (t.newestLog.map LogEntry.cls) = some 3 ∧ t.mem.scratch = s.mem.scratch ∧
        (pool = 0 → t.shep.pageQuar.contains key = true ∧ t.shep.remaps = s.shep.remaps ∧ flagSet t (Reg.HBM_STATUS stack) 5 = true) ∧
        (pool ≠ 0 → t.shep.remaps.contains key = true ∧ rdF t (Reg.HBM_POOL stack) 18 0 = pool - 1 ∧ t.mem = s.mem ∧
          flagSet t (Reg.HBM_STATUS stack) 2 = true ∧ t.shep.pageQuar = s.shep.pageQuar ∧
          (pool = 26214 → flagSet t (Reg.HBM_STATUS stack) 3 = true) ∧ (pool = 1 → flagSet t (Reg.HBM_STATUS stack) 4 = true)) ∧
        s.sameBut [.regs, .pcie, .log, .mem, .shep] t))

/-- In D3hot a host write does nothing and a host read answers UR. An access to an unmapped offset sets UR_ACCESS, one that covers
parts of two registers or more than 8 bytes CA_ACCESS, a write of less than a register or with bytes disabled ACCESS_ERR;
CHIP_ERR_ADDR captures the first, and nothing else changes. A plain register: a write OWNER does not permit is flagged WIGN;
else RW fields take their bits, RO fields keep theirs, CFG fields apply while STATE is OFF and are flagged otherwise where
they would change. An 8-byte write of two unrelated registers is two writes. A read answers the addressed bytes, a latched
value where the master has latched one, and latches the group; it changes no register. A write of LO is staged; a write of HI
applies both halves. SHEP_CTRL takes its fields; clearing PATROL_EN below thermal stage 2 suspends patrol. (Host writes in
D3hot, and which error comes first: the model's choice, notes/assumptions/17.md.) (R337, R368, R369, R370, R377, R378, R340) -/
def Obligations.RegisterAccessesFollowTheWidthRules : Prop :=
  let served (m : Master) (s : State) : Prop := m = .host → s.pcie.d3hot = false
  let mapped (off size : Nat) : Prop := ∀ k, off / 4 ≤ k → k ≤ (off + size - 1) / 4 → (findReg (4 * k)).isSome = true
  let split (off size : Nat) : Prop := 8 < size ∨ size = 8 ∧ off % 8 ≠ 0 ∨ size ≠ 8 ∧ off / 4 ≠ (off + size - 1) / 4
  let errAddr (m : Master) (k off wr : Nat) : Word := BitVec.ofNat 32 (shepBit m + wr * 2 ^ 29 + (k + 1) * 2 ^ 26 + off % 2 ^ 26)
  let flagged (m : Master) (k off wr : Nat) (s t : State) : Prop := flagSet t Reg.CHIP_STATUS k = true ∧
    (flagSet s Reg.CHIP_STATUS 0 = false → flagSet s Reg.CHIP_STATUS 1 = false → flagSet s Reg.CHIP_STATUS 2 = false →
      rd t Reg.CHIP_ERR_ADDR = errAddr m k off wr) ∧ s.regsBut [Reg.CHIP_STATUS, Reg.CHIP_ERR_ADDR, Reg.PCIE_STATUS] t
  let wignAt (o : Nat) : Nat × Nat :=
    if o / 0x100000 = 1 ∧ 0x11000 ≤ o % 0x100000 then (Reg.CMDQ_STATUS ((o % 0x100000 - 0x11000) / 0x40), 4)
    else if o / 0x100000 = 5 ∧ 0x1000 ≤ o % 0x100000 then (Reg.TIN_STATUS ((o % 0x100000 - 0x1000) / 0x40), 2)
    else if 0x20 ≤ o / 0x100000 ∧ o / 0x100000 < 0x30 ∧ 0x20000 ≤ o % 0x100000 ∧ o % 0x100000 < 0x30000 then
      (Reg.INGEST_STATUS ((o / 0x100000 - 0x20) / 4), 5)
    else (Reg.CHIP_STATUS, 7)
  let plain (o : Nat) : Prop := ctrlOf o ≠ some o ∧ o / 0x100000 ∉ [0, 6, 7] ∧ (o / 0x100000 < 0x10 ∨ 0x16 ≤ o / 0x100000) ∧
    isLo o = false ∧ isHi o = false ∧ o ≠ Reg.SHEP_CTRL
  let wignRegs (o : Nat) : List Nat := [(wignAt o).1, Reg.PCIE_STATUS, Reg.CHIP_WIGN_ADDR, Reg.TIN_WIGN_ADDR (o % 0x100000 % 0x1000 / 0x40),
    Reg.INGEST_WIGN_ADDR ((o / 0x100000 - 0x20) / 4)]
  (∀ (m : Master) (off : BitVec 26) (size : Nat) (be : Byte) (v : BitVec 64) (s : State), 0 < size →
    (¬served m s → exec (.registerWrite m off size be v) s = .next s) ∧
    (∀ k, served m s →
      (k = 1 ∧ ¬mapped off.toNat size ∨ k = 2 ∧ mapped off.toNat size ∧ split off.toNat size ∨
        k = 0 ∧ mapped off.toNat size ∧ ¬split off.toNat size ∧ (size < 4 ∨ be.toNat % 2 ^ size ≠ 2 ^ size - 1)) →
      ∃ t, exec (.registerWrite m off size be v) s = .next t ∧ flagged m k off.toNat 1 s t ∧ s.sameBut [.regs, .pcie] t) ∧
    (served m s → mapped off.toNat 8 → off.toNat % 8 = 0 → be = 255 → isLo off.toNat = false →
      ∃ t, exec (.registerWrite m off 4 15 (v &&& 0xFFFFFFFF)) s = .next t ∧ (served m t →
        ∃ u, exec (.registerWrite m (off + 4) 4 15 (v >>> 32)) t = .next u ∧ exec (.registerWrite m off 8 be v) s = .next u)) ∧
    (∀ (r : RegD) (o : Nat) (w : Word), o = off.toNat → w = BitVec.ofNat 32 v.toNat → served m s → o % 4 = 0 → findReg o = some r → plain o →
      r.flags = none → (∀ f ∈ r.fields, f.acc ≠ .key) → (∀ f ∈ r.fields, f.acc ≠ .ro → fieldLegal o f (fieldOf w f.hi f.lo) = true) →
      ((∀ f ∈ r.fields, f.acc = .ro) → exec (.registerWrite m off 4 15 v) s = .next s) ∧
      ((∃ f ∈ r.fields, f.acc ≠ .ro) → ownerLets m s o = false → ∃ t, exec (.registerWrite m off 4 15 v) s = .next t ∧
        flagSet t (wignAt o).1 (wignAt o).2 = true ∧ s.regsBut (wignRegs o) t ∧ s.sameBut [.regs, .pcie] t) ∧
      ((∃ f ∈ r.fields, f.acc ≠ .ro) → ownerLets m s o = true → cfgOpen s o = true ∨ changesCfg (rd s o) w r.fields = false →
        ∃ t, exec (.registerWrite m off 4 15 v) s = .next t ∧
          (cfgOpen s o = true → rd t o = r.fields.foldl (fun x f => if f.acc = .ro then x else withField x f.hi f.lo (fieldOf w f.hi f.lo)) (rd s o)) ∧
          (cfgOpen s o = false → rd t o = r.fields.foldl
            (fun x f => if f.acc = .ro ∨ f.acc = .cfg then x else withField x f.hi f.lo (fieldOf w f.hi f.lo)) (rd s o)) ∧
          s.regsBut [o] t ∧ s.sameBut [.regs] t) ∧
      (ownerLets m s o = true → cfgOpen s o = false → changesCfg (rd s o) w r.fields = true →
        ∃ t, exec (.registerWrite m off 4 15 v) s = .next t ∧ flagSet t (wignAt o).1 (wignAt o).2 = true ∧
          rd t o = r.fields.foldl (fun x f => if f.acc = .ro ∨ f.acc = .cfg then x else withField x f.hi f.lo (fieldOf w f.hi f.lo)) (rd s o) ∧
          s.regsBut (o :: wignRegs o) t ∧ s.sameBut [.regs, .pcie] t))) ∧
  (∀ (m : Master) (v : BitVec 64) (w : Word) (s : State) (sus : Bool), served m s → ownerLets m s Reg.SHEP_CTRL = true →
    nbits v.toNat 15 8 ≠ 0 → w = ((rd s Reg.SHEP_CTRL &&& 0xFA) ||| (BitVec.ofNat 32 v.toNat &&& 0xFFFFFF05)) →
    sus = ((rd s Reg.SHEP_CTRL).getLsbD 0 && !w.getLsbD 0 && decide (s.deck.stage < 2)) →
    ∃ t, exec (.registerWrite m 0x100004 4 15 v) s = .next t ∧ rd t Reg.SHEP_CTRL = w ∧
      (sus = false → s.regsBut [Reg.SHEP_CTRL] t ∧ s.sameBut [.regs] t) ∧
      (sus = true → ∀ b < 16, spareServes s b = false → (patrolOf s b).failed = false →
        (patrolOf t b).slot = none ∧ flagSet t (Reg.QUAD_STATUS (b / 4)) 11 = true) ∧
      s.sameBut [.regs, .pcie, .shep] t) ∧
  (∀ (m : Master) (off : BitVec 26) (size : Nat) (s : State), 0 < size →
    ∃ t, exec (.registerReadError m off size) s = .next t ∧ (off.toNat / 0x100000 ≠ 7 → s.sameBut [.regs, .host, .shepM, .reply, .pcie] t) ∧
      (¬served m s → t.reply = .unsupported ∧ flagSet t Reg.PCIE_STATUS 5 = true) ∧
      (served m s → ¬mapped off.toNat size → t.reply = .unsupported ∧ flagged m 1 off.toNat 0 s t ∧
        (m = .host → flagSet t Reg.PCIE_STATUS 5 = true)) ∧
      (served m s → mapped off.toNat size → split off.toNat size → t.reply = .abort ∧ flagged m 2 off.toNat 0 s t ∧
        (m = .host → flagSet t Reg.PCIE_STATUS 6 = true)) ∧
      (∀ o w, o = off.toNat / 4 * 4 → w = (assoc (masterOf s m).latch o).getD (viewWord m s o) → served m s →
        mapped off.toNat size → ¬split off.toNat size → o / 0x100000 ≠ 7 → t.regs = s.regs ∧
        (size ≠ 8 → t.reply = .data (((leBytes 4 w.toNat).drop (off.toNat - o)).take size)) ∧
        (size = 8 → o + 4 ∈ latchedBy o → t.reply = .data (leBytes 4 w.toNat ++ leBytes 4 (viewWord m s (o + 4)).toNat)))) ∧
  (∀ (m : Master) (off : BitVec 26) (s : State), served m s → off.toNat % 4 = 0 → (findReg off.toNat).isSome = true →
    off.toNat / 0x100000 ≠ 7 → ∃ t, exec (.latchRead m off) s = .next t ∧
      t.reply = .data (leBytes 4 ((assoc (masterOf s m).latch off.toNat).getD (viewWord m s off.toNat)).toNat) ∧
      (∀ k ∈ latchedBy off.toNat, assoc (masterOf t m).latch k = some (viewWord m s k)) ∧
      (∀ k, k ∉ latchedBy off.toNat → assoc (masterOf t m).latch k = assoc (masterOf s m).latch k) ∧
      (∀ n, n ≠ m → masterOf t n = masterOf s n) ∧ s.sameBut [.host, .shepM, .reply] t) ∧
  (∀ (m : Master) (off : BitVec 26) (v : Word) (s : State), served m s → off.toNat % 4 = 0 → isLo off.toNat = true →
    ∃ t, exec (.latchLoWrite m off v) s = .next t ∧ assoc (masterOf t m).staged off.toNat = some v ∧
      (∀ k, k ≠ off.toNat → assoc (masterOf t m).staged k = assoc (masterOf s m).staged k) ∧ (∀ n, n ≠ m → masterOf t n = masterOf s n) ∧
      s.sameBut [.host, .shepM] t) ∧
  (∀ (m : Master) (g : Fin 6) (lane : Fin 17) (lo : Nat) (off : BitVec 26) (v : Word) (s : State), served m s →
    lo = Reg.MRX_PRBS_ERR_LO g lane ∨ lo = Reg.MRX_PRBS_BITS_LO g lane → off.toNat = lo + 4 → ownerLets m s lo = true →
    ∃ t, exec (.latchHiWrite m off v) s = .next t ∧ rdF t (lo + 4) 15 0 = v.toNat % 65536 ∧
      (∀ l, assoc (masterOf s m).staged lo = some l → rd t lo = l ∧ assoc (masterOf t m).staged lo = none) ∧
      (assoc (masterOf s m).staged lo = none → rd t lo = rd s lo) ∧ s.regsBut [lo, lo + 4] t ∧ s.sameBut [.regs, .host, .shepM] t)

/-- A write to a register of KEY fields while the writer's lock is closed is ignored, with CHIP_STATUS.WIGN and the address where
WIGN was clear. The right key opens the writer's lock; a wrong one closes it, is counted and flagged, and at the eighth locks
the master out, which ignores it until the lockout ends; the lock also closes with KEY_EXPIRED, and at the first write to a
KEY field. With the lock open CHIP_OWNER takes its bits. A sequence clear with the right SEQ clears its flags and keeps SEQ,
with a wrong one sets STALE_CLR only; in the interrupt tree a bit whose condition holds stays. A write of EN that repeats the
register moves STATE as Table 16-3 says. A lane's offset and test registers take their bits; a lane that runs a test leaves
ACTIVE. (A pair with nothing in flight, and a link group, stop at once: the model's choice, notes/assumptions/17.md.) (R373) -/
def Obligations.KeysClearsEnablesAndOwners : Prop :=
  let served (m : Master) (s : State) : Prop := m = .host → s.pcie.d3hot = false
  let closed (e : Instr) (m : Master) (o : Nat) (s : State) : Prop := ∃ t, exec e s = .next t ∧ flagSet t Reg.CHIP_STATUS 7 = true ∧
    (flagSet s Reg.CHIP_STATUS 7 = false → rd t Reg.CHIP_WIGN_ADDR = BitVec.ofNat 32 (shepBit m + o)) ∧
    (flagSet s Reg.CHIP_STATUS 7 = true → rd t Reg.CHIP_WIGN_ADDR = rd s Reg.CHIP_WIGN_ADDR) ∧
    s.regsBut [Reg.CHIP_STATUS, Reg.CHIP_WIGN_ADDR, Reg.PCIE_STATUS] t ∧ s.sameBut [.regs, .pcie] t
  (∀ (m : Master) (off : BitVec 26) (r : RegD) (v : BitVec 64) (s : State), served m s → (masterOf s m).unlocked = false →
    off.toNat % 4 = 0 → findReg off.toNat = some r → (∃ f ∈ r.fields, f.acc = .key) → closed (.registerWrite m off 4 15 v) m off.toNat s) ∧
  (∀ (m : Master) (v : Word) (low : BitVec 12) (s : State), served m s → (masterOf s m).unlocked = false →
    closed (.ownerWrite m v) m Reg.CHIP_OWNER s ∧ closed (.coreReset m v low) m Reg.CHIP_RESET s) ∧
  (∀ (m : Master) (v : Word) (s : State), served m s → (masterOf s m).unlocked = true →
    ∃ t, exec (.ownerWrite m v) s = .next t ∧ (masterOf t m).unlocked = false ∧ (∀ n, n ≠ m → masterOf t n = masterOf s n) ∧
      rd t Reg.CHIP_OWNER = ((rd s Reg.CHIP_OWNER &&& 0xF0000008) ||| (v &&& 0x0FFFFFF7)) ∧
      (rd t Reg.CHIP_OWNER = rd s Reg.CHIP_OWNER → t.log = s.log ∧ t.regs = s.regs) ∧
      (rd t Reg.CHIP_OWNER ≠ rd s Reg.CHIP_OWNER → flagSet t Reg.CHIP_STATUS 8 = true ∧ t.log.next = s.log.next + 1) ∧
      s.regsBut [Reg.CHIP_OWNER, Reg.CHIP_STATUS, Reg.PCIE_STATUS] t ∧ s.sameBut [.regs, .host, .shepM, .pcie, .log] t) ∧
  (∀ (m : Master) (v : Word) (s : State) (x : MasterSt), x = masterOf s m →
    (¬served m s ∨ x.lockout = true → exec (.chipUnlockWrite m v) s = .next s) ∧
    (served m s → x.lockout = false → ∃ t, exec (.chipUnlockWrite m v) s = .next t ∧ (∀ n, n ≠ m → masterOf t n = masterOf s n) ∧
      (v = 0x4E4C5A21 → masterOf t m = { x with unlocked := true, strikes := 0 } ∧ t.regs = s.regs) ∧
      (v ≠ 0x4E4C5A21 → masterOf t m = { x with unlocked := false, strikes := x.strikes + 1, lockout := decide (8 ≤ x.strikes + 1) } ∧
        rd t Reg.CHIP_KEY_FAIL = satAdd (rd s Reg.CHIP_KEY_FAIL) 1 ∧ flagSet t Reg.CHIP_STATUS 4 = true ∧
        (8 ≤ x.strikes + 1 → flagSet t Reg.CHIP_STATUS 5 = true)) ∧
      s.regsBut [Reg.CHIP_KEY_FAIL, Reg.CHIP_STATUS, Reg.PCIE_STATUS] t ∧ s.sameBut [.regs, .host, .shepM, .pcie] t) ∧
    (x.unlocked = false → exec (.keyTimeout m) s = .next s) ∧
    (x.unlocked = true → ∃ t, exec (.keyTimeout m) s = .next t ∧ masterOf t m = { x with unlocked := false } ∧
      flagSet t Reg.CHIP_STATUS 6 = true ∧ s.regsBut [Reg.CHIP_STATUS, Reg.PCIE_STATUS] t ∧ s.sameBut [.regs, .host, .shepM, .pcie] t) ∧
    (x.lockout = false → exec (.keyLockoutEnd m) s = .next s) ∧
    (x.lockout = true → ∃ t, exec (.keyLockoutEnd m) s = .next t ∧ masterOf t m = { x with lockout := false, strikes := 0 } ∧
      (∀ n, n ≠ m → masterOf t n = masterOf s n) ∧ s.sameBut [.host, .shepM] t)) ∧
  (∀ (m : Master) (off : BitVec 26) (v : Word) (s : State) (r : RegD) (f o : Nat) (w : Word), served m s → o = off.toNat → o % 4 = 0 →
    findReg o = some r → r.flags = some f → w = tabGet 0 s.regs o →
    (fieldOf v 31 24 ≠ fieldOf w 31 24 → ∃ t, exec (.sqcClear m off v) s = .next t ∧ flagSet t Reg.CHIP_STATUS 3 = true ∧
      (flagSet s Reg.CHIP_STATUS 3 = false → rd t Reg.CHIP_STALE_ADDR = BitVec.ofNat 32 (shepBit m + o)) ∧
      s.regsBut [Reg.CHIP_STATUS, Reg.CHIP_STALE_ADDR, Reg.PCIE_STATUS] t ∧ s.sameBut [.regs, .pcie] t) ∧
    (fieldOf v 31 24 = fieldOf w 31 24 → ∃ t, exec (.sqcClear m off v) s = .next t ∧ s.regsBut [o, Reg.PCIE_STATUS] t ∧
      (¬(0x200 ≤ o ∧ o < 0x1000) → tabGet 0 t.regs o = w &&& ~~~(v &&& BitVec.ofNat 32 f &&& 0xFFFFFF)) ∧
      (∀ k i, k < 162 → i < 24 → o = Reg.IRQ_BLK_STATUS k → (tabGet 0 t.regs o).getLsbD i =
        (w.getLsbD i && !((v &&& BitVec.ofNat 32 f).getLsbD i && !leafCond s.regs k i))) ∧
      (∀ n : Fin 16, o = Reg.CMDQ_STATUS n → v.getLsbD 0 = true → (tabGet {} t.cmd.cq n).pending = 0) ∧
      s.sameBut [.regs, .cmd, .pcie, .mem] t)) ∧
  (∀ (m : Master) (off : BitVec 26) (v : Word) (s : State) (o : Nat), served m s → o = off.toNat → ownerLets m s o = true →
    (∃ n, n < 4 ∧ o = Reg.INGEST_CTRL n ∨ n < 34 ∧ o = Reg.DAC_CTRL n ∨ n < 32 ∧ o = Reg.EQ_CTRL n ∧ (rd s o).getLsbD 8 = false ∨
      n < 16 ∧ o = Reg.TIN_CTRL n ∧ (tinOf s n).stuck = false ∨ n < 16 ∧ o = Reg.CMDQ_CTRL n) →
    (∀ i, 1 ≤ i → i < 32 → v.getLsbD i = (rd s o).getLsbD i) → ∃ t, exec (.enWrite m off v) s = .next t ∧
      (v.getLsbD 0 = true → blkEn t o = true ∧ ((∀ n < 16, o = Reg.CMDQ_CTRL n → blkState s o ≠ stStopping) → blkState t o = (if blkState s o = stOff then stStarting else blkState s o))) ∧
      (v.getLsbD 0 = false → blkEn t o = false ∧ ((∀ n < 16, o ≠ Reg.CMDQ_CTRL n) → blkState t o =
        (if blkState s o = stStarting ∨ blkState s o = stOn ∨ blkState s o = stFault then stStopping else blkState s o)) ∧
        (∀ n < 16, o = Reg.CMDQ_CTRL n → blkState s o = stOn → blkState t o = (if pairInFlight s n = 0 then stOff else stStopping)))) ∧
  (∀ (m : Master) (g : Fin 6) (off : BitVec 26) (v : Word) (s : State) (o : Nat), served m s → o = Reg.MRX_TRAIN_CTRL g → o = off.toNat →
    ownerLets m s o = true → blkEn s o = true → v = rd s o &&& ~~~1 → ∃ t, exec (.enWrite m off v) s = .next t ∧
      blkEn t o = false ∧ (linkOf t g).st = .off ∧ (linkOf t g).mapped = none) ∧
  (∀ (m : Master) (lane : Fin 68) (v : Word) (s : State), served m s → ∃ t, exec (.laneOfsWrite m lane v) s = .next t ∧
    rdF t (Reg.TBASE_LANE_OFS lane) 23 0 = v.toNat % 2 ^ 24 ∧ s.regsBut [Reg.TBASE_LANE_OFS lane] t ∧ s.sameBut [.regs] t) ∧
  (∀ (m : Master) (g : LinkGroup) (lane : Fin 17) (v : Word) (s : State) (o : Nat), served m s → o = Reg.MRX_LANE_TEST (grpNo g) lane →
    ownerLets m s o = true → ∃ t, exec (.laneTestWrite m g lane v) s = .next t ∧
      (∀ i ∈ [4, 5, 8, 9, 10, 11], (rd t o).getLsbD i = v.getLsbD i) ∧
      s.regsBut (o :: (List.range 16).map (Reg.INGEST_POS (grpNo g))) t ∧
      (v &&& 0x830 ≠ 0 → (laneOf t (grpNo g) lane).st = .test ∧ (laneOf t (grpNo g) lane).lock = false ∧
        (∀ j < 16, grpNo g < 4 → servedBy (linkOf s (grpNo g)) lane = some j → rdF t (Reg.INGEST_POS (grpNo g) j) 16 16 = 1)) ∧
      (v &&& 0x830 = 0 → (rd s o).getLsbD 5 = false → rd s o &&& 0x830 = 0 → (laneOf s (grpNo g) lane).loop = 0 →
        (laneOf s (grpNo g) lane).st ≠ .test → (laneOf t (grpNo g) lane).st = (laneOf s (grpNo g) lane).st))

/-- A block received as another type, or where the group and lane do not receive, changes nothing. A lane in ACTIVE handles each
block as Table 12-4 gives: a good DATA block enters ingest with its DSEQ, or is used and counted, or makes the lane lose lock;
IDLE is dropped, CTRL acted on; a good MARKER in its slot is compared, one that differs or stands outside makes the lane lose
lock; every failed CRC is counted, and voids a block taken as DATA; a quarantined quad takes nothing. In DESKEW a good MARKER
gives its lane's index and arrival. A lane that loses lock goes to RELOCK, its position void and the other lanes as they were.
In RELOCK 64 good blocks lead to WAIT_MARKER, and the expected marker to ACTIVE. Failed attempts lead to RELEVEL and to
EXCLUDED. A lost clock sends a group in ACTIVE or EIDLE to CLOCK_LOCK, or DETECT with the sideband lost. Checkers lock and
lose lock by R288; a scan near its limit is a precursor; a narrow one asks for the spare with LANE_AUTO. A wake burst ends
EIDLE. (R84, R98, R276, R277, R282, R283, R284, R288, R298, R302, R303, R305) -/
def Obligations.ReceivedBlocksReachIngest : Prop :=
  let rx (ty : Nat) (n : Fin 68) (levels : BitVec 272) : Instr := if ty = 0 then .rxDataBlock n levels else if ty = 1 then .rxCtrlBlock n levels
    else if ty = 2 then .rxIdleBlock n levels else .rxMarkerBlock n levels
  let lost (g i : Nat) (s t : State) : Prop := (laneOf t g i).st = .relock ∧ (laneOf t g i).lock = false ∧
    flagSet t (Reg.MRX_LANE_TSTAT g i) 0 = true ∧ (∀ j, servedBy (linkOf s g) i = some j → posVoid t (16 * g + j) = true) ∧
    (∀ k, k ≠ i → (laneOf t g k).st = (laneOf s g k).st)
  let failed (g i : Nat) (s t : State) : Prop :=
    ((laneOf s g i).st = .relevel ∨ (laneOf s g i).single = true →
      ((laneOf s g i).attempts < 2 → (laneOf t g i).st = .relevel) ∧
      (2 ≤ (laneOf s g i).attempts → (laneOf t g i).st = .excluded ∧ flagSet t (Reg.MRX_LANE_TSTAT g i) 1 = true ∧
        flagSet t (Reg.MRX_LANE_TSTAT g i) 3 = true)) ∧
    ((laneOf s g i).st ≠ .relevel → (laneOf s g i).single = false →
      ((laneOf s g i).attempts < 2 → (laneOf t g i).st = .relock ∧ (laneOf t g i).attempts = (laneOf s g i).attempts + 1) ∧
      (2 ≤ (laneOf s g i).attempts → (laneOf t g i).st = .relevel))
  (∀ (n : Fin 68) (levels : BitVec 272) (ty : Fin 4) (s : State) (g i : Nat) (l : GroupLink) (x : LaneSt) (b : BitVec 272) (raw w : BitVec 256)
      (ok slot : Bool), g = (rxLane n).1 → i = (rxLane n).2 → l = linkOf s g → x = laneOf s g i → b = rxBits l x levels →
    raw = (b >>> 16).setWidth 256 → ok = decide (crc12 (BitVec.ofNat 2 ty) raw = BitVec.ofNat 12 (nbits b.toNat 15 4)) →
    slot = (if l.st = .active ∧ x.st = .active ∧ x.markerNo.isSome = true then decide (x.slot = 0) else ok && decide (ty.val = 3)) →
    w = (if slot || decide (ty.val = 3) then raw else raw ^^^ (scrBlock x.scr).1) →
    (receiving l x = false ∨ b.toNat % 4 ≠ ty → exec (rx ty n levels) s = .next s) ∧
    (receiving l x = true → b.toNat % 4 = ty → ∃ t, exec (rx ty n levels) s = .next t ∧
      (l.st = .active → x.st = .active → ok = true → slot = false → ty = 0 → x.markerNo.isSome = true → ∀ j p, servedBy l i = some j → p = 16 * g + j →
        (nbits b.toNat 3 2 ≠ x.dataCnt % 4 → x.sinceFail ≤ 7 → flagSet t (Reg.MRX_LANE_STATUS g i) 2 = true ∧ lost g i s t) ∧
        (nbits b.toNat 3 2 = x.dataCnt % 4 ∨ 7 < x.sinceFail → (laneOf t g i).st = .active ∧ (laneOf t g i).dataCnt = x.dataCnt + 1 ∧
          (nbits b.toNat 3 2 ≠ x.dataCnt % 4 → rd t (Reg.MRX_FLAG_CNT g i) = satAdd (rd s (Reg.MRX_FLAG_CNT g i)) 1) ∧
          (quadVoid s g = true → t.ingest = s.ingest) ∧
          (∀ idx, quadVoid s g = false → posNext s p = some idx → posNext t p = some (idx + 16 * linkK s g) ∧ (blkState s (Reg.INGEST_CTRL g) = stOn →
            tabGet {} t.ingest.blocks (p + 64 * (idx / 16)) = { void := false, bits := laneBits s (linkK s g) g i p w })))) ∧
      (l.st = .active → x.st = .active → ok = true → slot = false → ty = 2 → t.ingest = s.ingest ∧ t.regs = s.regs ∧
        (laneOf t g i).st = .active ∧ (laneOf t g i).dataCnt = x.dataCnt) ∧
      (l.st = .active → x.st = .active → ok = true → slot = false → ty = 1 →
        (nbits w.toNat 7 0 = 1 → l.sleeping = 1 → (linkOf t g).st = .eidle ∧ (∀ j < 16, posVoid t (16 * g + j) = true)) ∧
        (nbits w.toNat 7 0 = 1 ∧ l.sleeping ≠ 1 ∨ nbits w.toNat 7 0 = 2 → (linkOf t g).st = .active ∧ t.regs = s.regs ∧ t.ingest = s.ingest) ∧
        (nbits w.toNat 7 0 ≠ 1 → nbits w.toNat 7 0 ≠ 2 → flagSet t (Reg.MRX_LANE_STATUS g i) 4 = true ∧ t.ingest = s.ingest)) ∧
      (l.st = .active → x.st = .active → ok = true → (slot = true ↔ ty ≠ 3) → lost g i s t) ∧
      (l.st = .active → x.st = .active → ok = true → slot = true → ty = 3 →
        (markerOk s g i w = false → flagSet t (Reg.MRX_LANE_STATUS g i) 3 = true ∧ lost g i s t) ∧
        (markerOk s g i w = true → ∀ j p, servedBy l i = some j → p = 16 * g + j →
          (x.markerNo = none ∨ posNext s p = none ∨ posNext s p = some (markerIndex w) →
            (laneOf t g i).markerNo = some (markerIndex w) ∧ (laneOf t g i).dataCnt = 0 ∧ (laneOf t g i).st = .active ∧
            posNext t p = some (markerIndex w) ∧ (x.markerNo = none ∨ posNext s p = none → posVoid t p = quadVoid s g)) ∧
          (∀ e, x.markerNo.isSome = true → posNext s p = some e → e ≠ markerIndex w → flagSet t (Reg.INGEST_STATUS g) 2 = true ∧ lost g i s t))) ∧
      (l.st = .active → x.st = .active → ok = false → rd t (Reg.MRX_CRC_CNT g i) = satAdd (rd s (Reg.MRX_CRC_CNT g i)) 1 ∧
        flagSet t (Reg.MRX_LANE_STATUS g i) 0 = true ∧
        (slot = true → (laneOf t g i).dataCnt = 0 ∧ (laneOf t g i).crcFails = 0 ∧ (laneOf t g i).st = .active ∧ t.ingest = s.ingest) ∧
        (slot = false → rdF s (Reg.MRX_LINK_CFG g) 15 8 < x.crcFails + 1 → flagSet t (Reg.MRX_LANE_STATUS g i) 1 = true ∧ lost g i s t) ∧
        (slot = false → x.crcFails + 1 ≤ rdF s (Reg.MRX_LINK_CFG g) 15 8 → (laneOf t g i).st = .active ∧
          (ty = 1 ∨ ty = 2 → t.ingest = s.ingest ∧ (laneOf t g i).dataCnt = x.dataCnt) ∧
          (ty = 0 ∨ ty = 3 → x.markerNo.isSome = true → quadVoid s g = false → ∀ j p idx, servedBy l i = some j → p = 16 * g + j → posNext s p = some idx →
            posNext t p = some (idx + 16 * linkK s g) ∧ (laneOf t g i).dataCnt = x.dataCnt + 1 ∧ t.ingest.blocks = s.ingest.blocks ∧
            (s.tb.epoch.isSome = true → blkState s (Reg.INGEST_CTRL g) = stOn →
              rd t (Reg.INGEST_VOID_CNT g j) = satAdd (rd s (Reg.INGEST_VOID_CNT g j)) 1)))) ∧
      (l.st = .active → x.st = .relock → (ok = false → (laneOf t g i).good = 0 ∧
          (laneOf t g i).slip = (if slipSw s g then x.slip else (x.slip + 1) % 136)) ∧
        (ok = true → x.good + 1 < 64 → (laneOf t g i).good = x.good + 1 ∧ (laneOf t g i).st = .relock)) ∧
      (l.st = .active → x.st = .relock → ok = true → 64 ≤ x.good + 1 → ty ≠ 3 → (laneOf t g i).st = .waitMarker) ∧
      (l.st = .active → x.st = .waitMarker → ok = true → ty = 3 → 64 ≤ x.good → markerOk s g i w = true →
        ∀ j p, servedBy l i = some j → p = 16 * g + j →
          (expIndex s g j = none ∨ expIndex s g j = some (markerIndex w) → (laneOf t g i).st = .active ∧ posVoid t p = quadVoid s g ∧
            posNext t p = some (markerIndex w) ∧ flagSet t (Reg.MRX_LANE_TSTAT g i) 2 = true) ∧
          (∀ e, expIndex s g j = some e → e ≠ markerIndex w → (laneOf t g i).st ≠ .active)) ∧
      (l.st = .deskew → x.st ≠ .test → ok = true → ty = 3 → markerOk s g i w = true → (laneOf t g i).mark = some (markerIndex w, s.tb.now)) ∧
      s.sameBut [.regs, .free, .tb, .cmd, .pcie, .log, .ingest, .link, .shep] t)) ∧
  (∀ (n : Fin 68) (s : State) (g i : Nat) (st : LaneState), g = (rxLane n).1 → i = (rxLane n).2 → st = (laneOf s g i).st →
    ((linkOf s g).st ≠ .active ∨ st ≠ .active ∧ st ≠ .waitMarker → exec (.laneLockLost n) s = .next s) ∧
    ((linkOf s g).st = .active → st = .active ∨ st = .waitMarker → ∃ t, exec (.laneLockLost n) s = .next t ∧
      (st = .active → lost g i s t) ∧ (st = .waitMarker → failed g i s t) ∧
      s.sameBut [.regs, .free, .tb, .cmd, .pcie, .log, .ingest, .link, .shep] t) ∧
    ((linkOf s g).st ≠ .active ∨ st ≠ .relock ∧ st ≠ .relevel → exec (.laneRelockExpiry n) s = .next s) ∧
    ((linkOf s g).st = .active → st = .relock ∨ st = .relevel → ∃ t, exec (.laneRelockExpiry n) s = .next t ∧ failed g i s t ∧
      s.sameBut [.regs, .free, .tb, .cmd, .pcie, .log, .ingest, .link] t)) ∧
  (∀ (g : Fin 4) (s : State) (l : GroupLink), l = linkOf s g →
    (l.st = .active ∨ l.st = .eidle → ∃ t, exec (.rxClockLost g) s = .next t ∧ (linkOf t g).st = (if l.sbLost then .detect else .clockLock) ∧
      (linkOf t g).clockLost = some s.tb.now ∧ flagSet t (Reg.MRX_TRAIN_STATUS g) 6 = true ∧ (∀ j < 16, posVoid t (16 * g + j) = true) ∧
      s.sameBut [.regs, .free, .tb, .cmd, .pcie, .log, .ingest, .link] t) ∧
    (inRun l = true → l.st ≠ .detect → ∃ t, exec (.rxClockLost g) s = .next t ∧ flagSet t (Reg.MRX_TRAIN_STATUS g) 2 = true ∧
      rdF t (Reg.MRX_TRAIN_STATE g) 19 16 = 5 ∧ ((linkOf t g).st = .parked ∨ (linkOf t g).st = .clockLock) ∧
      s.sameBut [.regs, .free, .tb, .cmd, .pcie, .log, .ingest, .link] t) ∧
    (l.st = .off ∨ l.st = .detect ∨ l.st = .parked ∨ l.st = .dataOff → exec (.rxClockLost g) s = .next s) ∧
    (l.st ≠ .eidle → exec (.wakeBurst g) s = .next s) ∧
    (l.st = .eidle → ∃ t, exec (.wakeBurst g) s = .next t ∧ (linkOf t g).st = .active ∧ flagSet t (Reg.MRX_TRAIN_STATUS g) 8 = true ∧
      (∀ i < 17, (laneOf s g i).st = .down → (laneOf t g i).st = .active ∧ (laneOf t g i).markerNo = none) ∧
      s.sameBut [.regs, .cmd, .pcie, .log, .ingest, .link] t)) ∧
  (∀ (g : LinkGroup) (lane : Fin 17) (errs : Fin 1025) (s : State) (k : Nat), k = grpNo g →
    (checking s k lane = false → exec (.prbsCheckerLock g lane) s = .next s) ∧
    (checking s k lane = true → ∃ t, exec (.prbsCheckerLock g lane) s = .next t ∧ (laneOf t k lane).prbsLock = true ∧ s.sameBut [.link] t) ∧
    (checking s k lane = false ∨ (laneOf s k lane).prbsLock = false → exec (.prbsLost g lane errs) s = .next s) ∧
    (checking s k lane = true → (laneOf s k lane).prbsLock = true → ∃ t, exec (.prbsLost g lane errs) s = .next t ∧
      rd64 t (Reg.MRX_PRBS_BITS_LO k lane) = min (rd64 s (Reg.MRX_PRBS_BITS_LO k lane) + 1024) (2 ^ 48 - 1) ∧
      rd64 t (Reg.MRX_PRBS_ERR_LO k lane) = min (rd64 s (Reg.MRX_PRBS_ERR_LO k lane) + errs) (2 ^ 48 - 1) ∧
      (laneOf t k lane).prbsLock = decide (errs.val ≤ 128) ∧
      (128 < errs.val → flagSet t (Reg.MRX_LANE_STATUS k lane) 6 = true) ∧ (0 < errs.val → flagSet t (Reg.MRX_LANE_STATUS k lane) 5 = true) ∧
      s.regsBut [Reg.MRX_PRBS_BITS_LO k lane, Reg.MRX_PRBS_BITS_HI k lane, Reg.MRX_PRBS_ERR_LO k lane, Reg.MRX_PRBS_ERR_HI k lane,
        Reg.MRX_LANE_STATUS k lane, Reg.PCIE_STATUS] t ∧ s.sameBut [.regs, .pcie, .link] t)) ∧
  (∀ (n : Fin 68) (v ph : Nat) (s : State) (g i : Nat), g = (rxLane n).1 → i = (rxLane n).2 →
    (rdF s Reg.SHEP_CTRL 23 16 = 0 ∨ (linkOf s g).st ≠ .active ∨ (laneOf s g i).st ≠ .active ∨ 30 ≤ v ∧ 20 ≤ ph →
      exec (.lanePatrolScan n v ph) s = .next s) ∧
    (rdF s Reg.SHEP_CTRL 23 16 ≠ 0 → (linkOf s g).st = .active → (laneOf s g i).st = .active → 24 ≤ v ∧ 16 ≤ ph → v < 30 ∨ ph < 20 →
      ∃ t, exec (.lanePatrolScan n v ph) s = .next t ∧ t.shep.precursors.head? = some (groupUnit g, s.tb.now) ∧ s.sameBut [.shep] t) ∧
    (rdF s Reg.SHEP_CTRL 23 16 ≠ 0 → (linkOf s g).st = .active → (laneOf s g i).st = .active → v < 24 ∨ ph < 16 →
      ∃ t, exec (.lanePatrolScan n v ph) s = .next t ∧
        t.shep.precursors.head? = some (groupUnit g, s.tb.now) ∧
        ((rd s Reg.SHEP_CTRL).getLsbD 2 = false ∨ 16 ≤ i ∨ servedBy (linkOf s g) i = none → (t.newestLog.map LogEntry.cls) = some 1 ∧ t.link = s.link ∧
          t.regs = s.regs) ∧
        (∀ j, (rd s Reg.SHEP_CTRL).getLsbD 2 = true → i < 16 → servedBy (linkOf s g) i = some j → (linkOf s g).mapped = none →
          (linkOf s g).neg = none → (linkOf s g).wantSpare = [] →
          ((linkOf s g).caps.getLsbD 1 = true → (linkOf s g).excl.getLsbD 16 = false → (laneOf s g 16).st = .active →
            (linkOf t g).neg.map (fun n => n.pos.val) = some j) ∧
          ((linkOf s g).caps.getLsbD 1 = false ∨ (linkOf s g).excl.getLsbD 16 = true ∨ (laneOf s g 16).st ≠ .active →
            flagSet t (Reg.MRX_TRAIN_STATUS g) 5 = true ∧ (linkOf t g).neg = none)) ∧
        s.sameBut [.regs, .free, .tb, .cmd, .pcie, .log, .ingest, .link, .shep] t))

/-- A group that is OFF, or whose partner's direction sleeps, receives no frame; a bad frame is dropped and counted. HELLO and
STATUS reach their registers; a HELLO begins CLOCK_LOCK in DETECT and a re-probe in PARKED, and one with a wrong identity
fails the run. An accepted TRAIN moves the attempt on, an echoed done frame the training state, to ACTIVE at last; CMD 3, NAK,
a third send without answer and a timeout fail the attempt with their cause. A request of the partner's that is not allowed
gets NAK, with reason 2 while the device has one open. A TRAIN reply without a request is dropped. SPARE settles the mapping
or the promotion. TEST sets the lanes' functions or is refused. POWER moves the group between EIDLE, DATA_OFF and its wake,
and from ACTIVE to the sleep that the next marker slot brings. Judgement and deadline of a receive group send the done or
failed frame; in DESKEW the markers judge, by skew and by the alignment window. (Statuses that the spec does not state are
free values, notes/assumptions/10.md.) (R286, R287, R294, R295, R296, R297, R300, R301, R304, R306, R311, R312) -/
def Obligations.SidebandLeadsTraining : Prop :=
  let fr (g : LinkGroup) (f : SbFrame) : Instr := if f.type = 1 then .sbHello g f else if f.type = 2 then .sbTrain g f else if f.type = 3 then .sbSpare g f
    else if f.type = 4 then .sbTest g f else if f.type = 5 then .sbPower g f else if f.type = 6 then .sbStatus g f else .sbNak g f
  let sent (t : State) (n : Nat) (type seq : Byte) (payload : List Byte) : Prop :=
    { type := type, seq := seq, payload := payload } ∈ (linkOf t n).sent
  let attFail (t : State) (n cause : Nat) : Prop := flagSet t (Reg.MRX_TRAIN_STATUS n) 2 = true ∧ rdF t (Reg.MRX_TRAIN_STATE n) 19 16 = cause
  let all : List Part := [.regs, .free, .tb, .cmd, .pcie, .log, .ingest, .link]
  (∀ (g : LinkGroup) (f : SbFrame) (s : State) (e : Instr),
    e ∈ [Instr.sbHello g f, .sbTrain g f, .sbSpare g f, .sbTest g f, .sbPower g f, .sbStatus g f, .sbNak g f] →
    ((linkOf s (grpNo g)).st = .off ∨ (linkOf s (grpNo g)).peerAsleep = true → exec e s = .next s) ∧
    ((linkOf s (grpNo g)).st ≠ .off → (linkOf s (grpNo g)).peerAsleep = false → sbValid f = false →
      ∃ t, exec e s = .next t ∧ rd t (Reg.MRX_SB_DROP (grpNo g)) = satAdd (rd s (Reg.MRX_SB_DROP (grpNo g))) 1 ∧
        flagSet t (Reg.MRX_SB_STATUS (grpNo g)) 1 = true ∧ s.regsBut [Reg.MRX_SB_DROP (grpNo g), Reg.MRX_SB_STATUS (grpNo g), Reg.PCIE_STATUS] t ∧
        s.sameBut [.regs, .pcie] t)) ∧
  (∀ (g : LinkGroup) (f : SbFrame) (s : State) (n : Nat) (l : GroupLink) (p : List Byte) (b1 mask : Nat), n = grpNo g → l = linkOf s n →
    p = f.payload → b1 = leAt p 1 1 → mask = leAt p 2 3 → l.st ≠ .off → l.peerAsleep = false → sbValid f = true →
    ∃ t, exec (fr g f) s = .next t ∧ s.sameBut (.shep :: all) t ∧
      (f.type = 6 → (rd t (Reg.MRX_PEER_STATUS_LO n)).toNat = leAt p 0 4 ∧ (rd t (Reg.MRX_PEER_STATUS_HI n)).toNat = leAt p 4 2 ∧
        (linkOf t n).st = l.st) ∧
      (f.type = 1 → (rd t (Reg.MRX_PEER_ID n)).toNat = leAt p 4 4 ∧ (rd t (Reg.MRX_PEER_LAT n)).toNat = leAt p 8 4 ∧
        flagSet t (Reg.MRX_SB_STATUS n) 0 = true ∧
        (l.st = .parked → (helloOk n p = true ∧ (∀ x, l.lastProbe = some x → x + nsT 100000000 ≤ s.tb.now) → (linkOf t n).st = .detect) ∧
          (helloOk n p = false ∨ (∃ x, l.lastProbe = some x ∧ s.tb.now < x + nsT 100000000) → (linkOf t n).st = .parked)) ∧
        (l.st ≠ .parked → helloOk n p = true → (∀ r, l.runPeer = some r → r.toNat = leAt p 4 4) →
          (linkOf t n).st = (if l.st = .detect then .clockLock else l.st)) ∧
        (l.st ≠ .parked → helloOk n p = false ∨ (∃ r, l.runPeer = some r ∧ r.toNat ≠ leAt p 4 4) → attFail t n 6 ∧
          ((linkOf t n).st = .detect ∨ inRun l = true ∧ (linkOf t n).st = .parked))) ∧
      (f.type = 2 → inRun l = true → ∀ r, l.req = some r → r.type = 2 → r.seq = f.seq →
        (leAt r.payload 1 1 = 0 → b1 = 3 → attFail t n 3) ∧
        (leAt r.payload 1 1 = 0 → b1 = 1 → (l.step = 6 → (linkOf t n).st = .active ∧ flagSet t (Reg.MRX_TRAIN_STATUS n) 0 = true) ∧
          (l.step ≠ 6 → (linkOf t n).st = l.st ∧ (linkOf t n).step = (if l.st = .spareMap then 7 else 2))) ∧
        (leAt r.payload 1 1 = 2 → b1 = 2 → (l.st = .clockLock → (linkOf t n).st = (if l.wakeKeep then .blockLock else .levelTrain)) ∧
          (l.st = .levelTrain → (linkOf t n).st = .blockLock) ∧ (l.st = .blockLock → (linkOf t n).st = .deskew) ∧
          (l.st = .deskew → (linkOf t n).st = .spareMap) ∧ (l.st = .spareMap → (linkOf t n).step = 6))) ∧
      (f.type = 2 → b1 = 0 → (∀ r, l.req = some r → r.type ≠ 2 ∨ r.seq ≠ f.seq) →
        sent t n 0x7F f.seq [2, if l.req.isSome then 2 else 1] ∧ (linkOf t n).st = l.st) ∧
      (f.type = 2 → b1 = 1 ∨ n < 4 ∧ b1 ≠ 0 → (∀ r, l.req = some r → r.type ≠ 2 ∨ r.seq ≠ f.seq) → t.regs = s.regs ∧ (linkOf t n).st = l.st ∧
        (l.queue = [] → (linkOf t n).sent = l.sent)) ∧
      (f.type = 2 → 4 ≤ n → inRun l = true → l.step = 2 → l.req = none → leAt p 0 1 = trainCode l.st → b1 = 2 →
        sent t n 2 f.seq p ∧ (l.st = .levelTrain → (linkOf t n).st = .blockLock)) ∧
      (f.type = 3 → b1 = 0 → (∀ r, l.req = some r → r.type ≠ 3 ∨ r.seq ≠ f.seq) → sent t n 0x7F f.seq [3, if l.req.isSome then 2 else 1]) ∧
      (f.type = 3 → ∀ r, l.req = some r → r.type = 3 → r.seq = f.seq →
        (l.st = .spareMap → b1 = 3 → attFail t n 3) ∧
        (l.st = .spareMap → b1 = 1 ∨ b1 = 2 → (linkOf t n).mapped.map Fin.val = (if leAt r.payload 0 1 < 16 then some (leAt r.payload 0 1) else none)) ∧
        (∀ x, l.st ≠ .spareMap → b1 = 1 ∨ b1 = 2 → l.neg = some x →
          (linkOf t n).neg = some { x with step := 1 } ∧ (linkOf t n).mapped = l.mapped)) ∧
      (f.type = 4 → leAt p 5 1 = 0 → (∀ r, l.req = some r → r.type ≠ 4 ∨ r.seq ≠ f.seq) →
        let busy := l.req.isSome || testBusy s (((List.range 17).filter (nbit mask)).map (fun i => (n, i)))
        let can := leAt p 0 1 = 0 ∨ leAt p 0 1 = (if n < 4 then 2 else 1)
        (busy = true → sent t n 0x7F f.seq [4, 2]) ∧ (busy = false → ¬can → sent t n 0x7F f.seq [4, 3]) ∧
        (busy = false → can → sent t n 4 f.seq (p.set 5 1) ∧ (∀ i < 17, nbit mask i = true →
          rdF t (Reg.MRX_LANE_TEST n i) 5 4 = leAt p 0 1 ∧ rdF t (Reg.MRX_LANE_TEST n i) 10 8 = leAt p 1 1))) ∧
      (f.type = 4 → leAt p 5 1 = 1 ∨ leAt p 5 1 = 2 → ∀ r c, l.req = some r → r.type = 4 → r.seq = f.seq → l.cmds = [c] → c.kind = 6 →
        (∀ k < 6, k ≠ n → (linkOf s k).cmds = []) → s.runs c.ring c.cid 0x0906 → t.cmd = s.ending c.ring c.cid cOk 0 0) ∧
      (f.type = 5 → leAt p 0 1 = 4 → ∀ r, l.req = some r → r.type = 5 → r.seq = f.seq →
        (leAt r.payload 0 1 = 0 → l.st = .eidle → (linkOf t n).st = .dataOff) ∧
        (leAt r.payload 0 1 = 0 → l.st = .active → (linkOf t n).sleeping = 1 ∧ (linkOf t n).st = .active) ∧
        (leAt r.payload 0 1 = 1 → l.st = .dataOff → (linkOf t n).st = .clockLock) ∧
        (leAt r.payload 0 1 = 2 → l.queue = [] → (linkOf t n).asleep = true)) ∧
      (f.type = 5 → leAt p 0 1 = 3 → sent t n 5 f.seq [4, 0, 0, 0]) ∧
      (f.type = 5 → leAt p 0 1 < 3 → l.req.isSome = true → sent t n 0x7F f.seq [5, 2] ∧ flagSet t (Reg.MRX_TRAIN_STATUS n) 7 = true) ∧
      (f.type = 5 → l.req = none → (leAt p 0 1 = 2 → sent t n 5 f.seq [4, 0, 0, 0] ∧ (linkOf t n).peerAsleep = true) ∧
        (leAt p 0 1 < 2 → procRuns s n = true → sent t n 0x7F f.seq [5, 2]) ∧
        (leAt p 0 1 = 0 → procRuns s n = false → (l.st = .active → sent t n 5 f.seq [4, 0, 0, 0] ∧
            (linkOf t n).sleeping = 1 ∧ (linkOf t n).st = .active) ∧
          (l.st = .eidle → sent t n 5 f.seq [4, 0, 0, 0] ∧ (linkOf t n).st = .dataOff) ∧
          (l.st ≠ .active → l.st ≠ .eidle → sent t n 0x7F f.seq [5, 1])) ∧
        (leAt p 0 1 = 1 → procRuns s n = false → (l.st = .eidle → sent t n 5 f.seq [4, 0, 0, 0] ∧ (4 ≤ n → (linkOf t n).st = .active)) ∧
          (l.st = .dataOff → sent t n 5 f.seq [4, 0, 0, 0] ∧ (linkOf t n).st = .clockLock) ∧
          (l.st ≠ .eidle → l.st ≠ .dataOff → sent t n 0x7F f.seq [5, 1]))) ∧
      (f.type = 0x7F → (∀ r, l.req = some r → r.seq = f.seq → leAt p 0 1 = r.type.toNat → flagSet t (Reg.MRX_SB_STATUS n) 4 = true ∧
          (r.type = 2 ∨ r.type = 3 → inRun l = true → attFail t n 3) ∧ (r.type = 5 → flagSet t (Reg.MRX_TRAIN_STATUS n) 7 = true)) ∧
        ((∀ r, l.req = some r → r.seq ≠ f.seq ∨ leAt p 0 1 ≠ r.type.toNat) → t.regs = s.regs ∧ (linkOf t n).st = l.st))) ∧
  (∀ (g : LinkGroup) (s : State) (n : Nat) (l : GroupLink), n = grpNo g → l = linkOf s n →
    (l.req = none → exec (.sbRetry g) s = .next s) ∧
    (∀ r, l.req = some r → ∃ t, exec (.sbRetry g) s = .next t ∧ s.sameBut all t ∧
      (r.sends < 3 → (linkOf t n).req = some { r with sends := r.sends + 1 } ∧ sent t n r.type r.seq r.payload ∧ t.regs = s.regs) ∧
      (3 ≤ r.sends → flagSet t (Reg.MRX_SB_STATUS n) 3 = true ∧ (r.type = 2 ∨ r.type = 3 → inRun l = true → attFail t n 2))) ∧
    (l.sbLost = true ∨ l.peerAsleep = true ∨ l.st = .off → exec (.sbLost g) s = .next s) ∧
    (l.sbLost = false → l.peerAsleep = false → l.st ≠ .off → ∃ t, exec (.sbLost g) s = .next t ∧ (linkOf t n).sbLost = true ∧
      flagSet t (Reg.MRX_SB_STATUS n) 2 = true ∧ s.sameBut all t ∧
      ((∀ x, l.clockLost = some x → inRun l = false ∨ x + nsT 5000000 < s.tb.now) → (linkOf t n).st = l.st) ∧
      (∀ x, l.clockLost = some x → inRun l = true → s.tb.now ≤ x + nsT 5000000 → (linkOf t n).st = .detect)) ∧
    (l.st = .off ∨ l.asleep = true → exec (.sbHelloSend g) s = .next s) ∧
    (l.st ≠ .off → l.asleep = false → ∃ t q, exec (.sbHelloSend g) s = .next t ∧ (linkOf t n).sent = q :: l.sent ∧ q.type = 1 ∧
      q.payload.length = 12 ∧ q.payload.take 3 = [1, 1, BitVec.ofNat 8 (if n < 4 then n else n - 4)] ∧ leAt q.payload 3 1 % 4 = 3 ∧
      s.sameBut [.free, .link] t) ∧
    (∃ t, exec (.sbActivityWake g) s = .next t ∧ linkOf t n = { l with peerAsleep := false } ∧ s.sameBut [.link] t) ∧
    (inRun l = false → exec (.trainAttemptTimeout g) s = .next s) ∧
    (inRun l = true → ∃ t, exec (.trainAttemptTimeout g) s = .next t ∧ attFail t n 1 ∧ s.sameBut all t ∧
      (2 ≤ tabGet 0 l.attempts (if l.step = 6 then 7 else trainCode l.st) → (linkOf t n).st = .parked)) ∧
    (l.st ≠ .parked → exec (.reprobe g) s = .next s) ∧
    (l.st = .parked → ∃ t, exec (.reprobe g) s = .next t ∧ (linkOf t n).st = .detect ∧ (linkOf t n).attempts = [] ∧ s.sameBut all t)) ∧
  (∀ (g : LinkGroup) (passed : BitVec 17) (s : State) (n : Nat) (l : GroupLink), n = grpNo g → l = linkOf s n →
    (4 ≤ n ∨ l.st ≠ .active ∧ (inRun l = false ∨ l.step ≠ 2) → exec (.trainLanesPassed g) s = .next s ∧
      exec (.trainJudgeDeadline g passed) s = .next s) ∧
    (n < 4 → l.st = .active → ∃ t u, exec (.trainLanesPassed g) s = .next t ∧ exec (.trainJudgeDeadline g passed) s = .next u ∧
      (linkOf t n).st = .active ∧ (linkOf u n).st = .active ∧ s.sameBut [.link] t ∧ s.sameBut [.link] u) ∧
    (n < 4 → inRun l = true → l.step = 2 → l.st ≠ .deskew → ∃ t u, exec (.trainLanesPassed g) s = .next t ∧ (linkOf t n).step = 3 ∧ (linkOf t n).st = l.st ∧
      s.sameBut all t ∧ exec (.trainJudgeDeadline g passed) s = .next u ∧ (linkOf u n).st = l.st ∧ s.sameBut all u ∧
      (l.mask &&& passed ≠ l.mask → (linkOf u n).step = 4) ∧
      (l.mask &&& passed = l.mask → (linkOf u n).step = 3)) ∧
    (n < 4 → l.st = .deskew → l.step = 2 →
      (deskewed s n l.mask.toNat = false → exec (.trainLanesPassed g) s = .next s ∧ ∃ u, exec (.trainJudgeDeadline g passed) s = .next u ∧
        (linkOf u n).step = 4 ∧ (linkOf u n).st = .deskew ∧ s.sameBut all u) ∧
      (deskewed s n l.mask.toNat = true → ∃ t, exec (.trainLanesPassed g) s = .next t ∧ exec (.trainJudgeDeadline g passed) s = .next t ∧
        (linkOf t n).st = .deskew ∧ (aligned s n = true → (linkOf t n).step = 3) ∧
        (aligned s n = false → (linkOf t n).step = 5 ∧ flagSet t (Reg.INGEST_STATUS n) 3 = true) ∧ s.sameBut all t)))

/-- LINK_TRAIN of a group that serves positions while capture or playback runs completes with BUSY unless FORCE is set; otherwise
it waits on the group, whose run begins in DETECT where EN is set and STATE ON, and else EN is set; E is released for a
receive group only while none is ACTIVE or in EIDLE. LINK_SLEEP with the sideband lost, or of a group without a way to the
state, completes with INVALID_STATE, of one that is there with OK, while capture, playback, a lane procedure or a negotiation
runs with BUSY; else it asks the partner. EYE_SCAN of a lane that is not ACTIVE completes with INVALID_STATE, else it delivers
a record for each point that fits. BIT_SLIP moves the offset modulo 136 in software mode. LOOPBACK and PRBS set their lanes'
functions, or complete with BUSY for serving lanes; PRBS with PEER waits for the partner's answers. (Counts of a scan are free
values, notes/assumptions/10.md.) (R288, R289, R290, R291, R298, R299, R306, R308, R309, R359) -/
def Obligations.LinkCommandsActOnTheirLanes : Prop :=
  let refused (e : Instr) (h : CmdHdr) (status result : Nat) (s : State) : Prop :=
    ∃ t, exec e s = .next t ∧ t.cmd = s.completing h status result 0 ∧ s.sameBut [.cmd] t
  (∀ (h : CmdHdr) (dir group : Byte) (s : State) (g : Nat) (l : GroupLink), s.starts h (linkTrainChecks h dir group) →
    g = (if dir = 0 then group.toNat else 4 + group.toNat) → l = linkOf s g →
    (grpServes s g = true → captureBusy s = true ∨ playing s = true → h.cflags.getLsbD 0 = false →
      refused (.linkTrain h dir group) h cBusy busyState s) ∧
    (grpServes s g = false ∨ captureBusy s = false ∧ playing s = false ∨ h.cflags.getLsbD 0 = true →
      ∃ t, exec (.linkTrain h dir group) s = .next t ∧ { ring := h.ring, cid := h.cid, kind := 0 } ∈ (linkOf t g).cmds ∧
        (blkEn s (Reg.MRX_TRAIN_CTRL g) = true → blkState s (Reg.MRX_TRAIN_CTRL g) = stOn → (linkOf t g).st = .detect ∧
          (linkOf t g).attempts = []) ∧
        (blkEn s (Reg.MRX_TRAIN_CTRL g) = true → blkState s (Reg.MRX_TRAIN_CTRL g) ≠ stOn → (linkOf t g).st = l.st) ∧
        (blkEn s (Reg.MRX_TRAIN_CTRL g) = false → blkEn t (Reg.MRX_TRAIN_CTRL g) = true ∧ (linkOf t g).st = l.st ∧
          (blkState s (Reg.MRX_TRAIN_CTRL g) = stOff → blkState t (Reg.MRX_TRAIN_CTRL g) = stStarting)) ∧
        (l.cmds = [] → (∀ r ∈ s.cmd.running, ¬(r.op = 0x0C02 ∧ r.aux = 1 ∧ r.obj / 32 = g)) → t.cmd = s.running h 0x0901 g 0) ∧
        ((g < 4 ∧ ∀ k < 4, (linkOf s k).st ≠ .active ∧ (linkOf s k).st ≠ .eidle) → t.tb.epoch = none ∧ t.ingest.ref = none) ∧
        ((4 ≤ g ∨ ∃ k < 4, (linkOf s k).st = .active ∨ (linkOf s k).st = .eidle) → t.tb.epoch = s.tb.epoch ∧ t.ingest.ref = s.ingest.ref) ∧
        s.sameBut [.regs, .free, .tb, .cmd, .pcie, .log, .ingest, .link] t)) ∧
  (∀ (h : CmdHdr) (dir group action : Byte) (s : State) (g : Nat) (l : GroupLink), s.starts h (linkSleepChecks h dir group action s) →
    g = (if dir = 0 then group.toNat else 4 + group.toNat) → l = linkOf s g →
    let there := action = 0 ∧ l.st = .eidle ∨ action = 1 ∧ l.st = .dataOff ∨ action = 2 ∧ l.st = .active ∨ action = 3 ∧ l.asleep = true ∨
      action = 4 ∧ l.asleep = false ∧ l.st ≠ .off
    let way := action = 0 ∧ l.st = .active ∨ action = 1 ∧ (l.st = .active ∨ l.st = .eidle) ∨ action = 2 ∧ (l.st = .eidle ∨ l.st = .dataOff) ∨
      action = 3 ∧ l.st ≠ .off ∨ action = 4 ∧ l.st ≠ .off
    let busy := g < 4 ∧ grpServes s g = true ∧ captureBusy s = true ∨ 4 ≤ g ∧ playing s = true ∨ procRuns s g = true
    (l.sbLost = true → refused (.linkSleep h dir group action) h cState 0 s) ∧
    (l.sbLost = false → there → refused (.linkSleep h dir group action) h cOk (trainCode l.st) s) ∧
    (l.sbLost = false → ¬there → ¬way → refused (.linkSleep h dir group action) h cState 0 s) ∧
    (l.sbLost = false → ¬there → way → busy → refused (.linkSleep h dir group action) h cBusy busyState s) ∧
    (l.sbLost = false → ¬there → way → ¬busy → ∃ t, exec (.linkSleep h dir group action) s = .next t ∧
      (action = 2 → 4 ≤ g → l.st = .eidle → (linkOf t g).st = .active) ∧
      (¬(action = 2 ∧ 4 ≤ g ∧ l.st = .eidle) → t.cmd = s.running h 0x0902 g 0 ∧ (linkOf t g).st = l.st ∧
        (linkOf t g).cmds = l.cmds ++ [{ ring := h.ring, cid := h.cid, kind := 1 + action.toNat }] ∧
        (l.req = none → l.queue = [] → (linkOf t g).req = some { type := 5, seq := l.seq, payload :=
          [if action.toNat ≤ 1 then 0 else if action = 2 then 1 else if action = 3 then 2 else 3, 0, 0, 0] })) ∧
      s.sameBut [.regs, .cmd, .pcie, .log, .ingest, .link] t)) ∧
  (∀ (h : CmdHdr) (p : EyeParams) (s : State) (q : Nat × Nat) (pts : List (Int × Int)) (n : Nat), s.starts h (eyeScanChecks h p s) →
    q = rxLane p.lane.toNat →
    pts = (steps (signed 8 p.phMin.toNat) (signed 8 p.phMax.toNat) p.phStep.toNat).flatMap (fun x =>
      (steps (signed 8 p.vMin.toNat) (signed 8 p.vMax.toNat) p.vStep.toNat).map (fun y => (x, y))) →
    n = min pts.length (segsLen (bufList s p.dest) / 8) →
    ((linkOf s q.1).st ≠ .active ∨ (laneOf s q.1 q.2).st ≠ .active → refused (.eyeScan h p) h cState 0 s) ∧
    ((linkOf s q.1).st = .active → (laneOf s q.1 q.2).st = .active → ∃ t, exec (.eyeScan h p) s = .next t ∧
      t.cmd = s.completing h (if n < pts.length then cBufferFull else cOk) n 0 ∧
      (∀ a len, bufList s p.dest = [(true, a, len)] → s.shep.pageQuar = [] → ∀ i < n, ∀ x y, pts[i]? = some (x, y) →
        memByte t.mem.hbm (a + 8 * i) = BitVec.ofInt 8 x ∧ memByte t.mem.hbm (a + 8 * i + 1) = BitVec.ofInt 8 y ∧
        memNat t.mem.hbm (a + 8 * i + 2) 6 ≤ 2 ^ p.dwell.toNat) ∧
      (∀ a len, bufList s p.dest = [(false, a, len)] → ∀ i < n, ∀ x y, pts[i]? = some (x, y) →
        memByte t.mem.host (a + 8 * i) = BitVec.ofInt 8 x ∧ memByte t.mem.host (a + 8 * i + 1) = BitVec.ofInt 8 y ∧
        memNat t.mem.host (a + 8 * i + 2) 6 ≤ 2 ^ p.dwell.toNat) ∧
      s.sameBut [.free, .cmd, .mem] t)) ∧
  (∀ (h : CmdHdr) (lane : Byte) (count : BitVec 16) (s : State) (q : Nat × Nat) (v : Nat), s.starts h (bitSlipChecks h lane count s) →
    q = rxLane lane.toNat → v = ((laneOf s q.1 q.2).slip + count.toNat) % 136 →
    let may := slipSw s q.1 = true ∧ ((linkOf s q.1).st = .blockLock ∨ (linkOf s q.1).st = .active ∧ (laneOf s q.1 q.2).st = .relock)
    (¬may → refused (.bitSlip h lane count) h cState 0 s) ∧
    (may → ∃ t, exec (.bitSlip h lane count) s = .next t ∧ t.cmd = s.completing h cOk v 0 ∧
      laneOf t q.1 q.2 = { laneOf s q.1 q.2 with slip := v, good := 0, lock := false } ∧ s.sameBut [.cmd, .link] t)) ∧
  (∀ (h : CmdHdr) (kind dir : Byte) (lanes : BitVec 128) (s : State) (ls : List (Nat × Nat)), s.starts h (loopbackChecks h kind dir lanes s) →
    ls = (maskLanes lanes).flatMap (loopLanes s kind.toNat dir) →
    ((∃ p ∈ ls, serves s p.1 p.2 = true) → captureBusy s = true ∨ playing s = true → refused (.loopback h kind dir lanes) h cBusy busyState s) ∧
    ((∀ p ∈ ls, serves s p.1 p.2 = false) ∨ captureBusy s = false ∧ playing s = false →
      ∃ t, exec (.loopback h kind dir lanes) s = .next t ∧ t.cmd = s.completing h cOk 0 0 ∧ (∀ p ∈ ls,
        (kind = 2 → (rd t (Reg.MRX_LANE_TEST p.1 p.2)).getLsbD 11 = true) ∧ (kind ≠ 2 → (laneOf t p.1 p.2).loop = kind.toNat) ∧
        (kind = 0 → (rd t (Reg.MRX_LANE_TEST p.1 p.2)).getLsbD 11 = false) ∧ (kind ≠ 0 → (laneOf t p.1 p.2).st = .test)) ∧
      s.sameBut [.regs, .cmd, .link] t)) ∧
  (∀ (h : CmdHdr) (dir func pattern peer : Byte) (lanes : BitVec 128) (s : State) (ls : List (Nat × Nat)),
    s.starts h (prbsChecks h dir func pattern peer lanes s) → ls = (maskLanes lanes).map (if dir = 0 then rxLane else txLane) →
    ((∃ p ∈ ls, serves s p.1 p.2 = true) → captureBusy s = true ∨ playing s = true →
      refused (.prbs h dir func pattern peer lanes) h cBusy busyState s) ∧
    ((∀ p ∈ ls, serves s p.1 p.2 = false) ∨ captureBusy s = false ∧ playing s = false →
      ∃ t, exec (.prbs h dir func pattern peer lanes) s = .next t ∧
        (∀ p ∈ ls, rdF t (Reg.MRX_LANE_TEST p.1 p.2) 5 4 = func.toNat ∧ rdF t (Reg.MRX_LANE_TEST p.1 p.2) 10 8 = pattern.toNat ∧
          (func ≠ 0 → (laneOf t p.1 p.2).st = .test)) ∧
        (peer = 0 ∨ ls = [] → t.cmd = s.completing h cOk 0 0) ∧
        (peer ≠ 0 → ls ≠ [] → t.cmd = s.running h 0x0906 0 0 ∧
          (∀ p ∈ ls, { ring := h.ring, cid := h.cid, kind := 6 } ∈ (linkOf t p.1).cmds)) ∧
        s.sameBut [.regs, .cmd, .link] t))

/-- Patrol does not move where the spare serves, has failed or confirms; where it is suspended the spare leaves its slot; a failed
self-test fails the spare, else the spare shadows the next active slot, wrapping. A first mismatch opens the confirmation; a
second declares the engine failing, whose spare, in lockstep, serves from the next boundary, and one under promotion is
charged; none ends it, and three engines within 24 h fail the spare. SPARE_COMMIT completes with NO_SPARE where the spare
serves or failed, else it runs and asks for the spare. SPARE_STATUS (with the quarantined units) and WEAR_FORECAST write an
entry for each of the 339 spared blocks that fits. An ageing measurement is stored, with RO_FAIL, AGE_STEP and AVS_REQ, TARGET
rises by 5 mV a step to 800 mV, and the forecast is made anew. A commit rewrites the older copy, with a daily snapshot of the
ages, and is not made during a supply warning. (What the Shepherd estimates is a free value, notes/assumptions/10.md.) (R69,
R304, R361, R406, R410, R425, R426, R427, R433, R434, R435) -/
def Obligations.PatrolSparesAndAgeing : Prop :=
  (∀ (q b : Fin 4) (pass : Bool) (s : State) (k : Nat) (x : PatrolSt), k = 4 * q + b → x = patrolOf s k →
    (spareServes s k = true ∨ x.failed = true → exec (.patrolMove q b pass) s = .next s) ∧
    (spareServes s k = false → x.failed = false → patrolSuspended s k = true →
      (x.slot = none → exec (.patrolMove q b pass) s = .next s) ∧
      (x.slot ≠ none → ∃ t, exec (.patrolMove q b pass) s = .next t ∧ patrolOf t k = { x with slot := none, confirming := false } ∧
        flagSet t (Reg.QUAD_STATUS q) 11 = true ∧ s.sameBut [.regs, .pcie, .shep] t)) ∧
    (spareServes s k = false → x.failed = false → patrolSuspended s k = false →
      (x.confirming = true → exec (.patrolMove q b pass) s = .next s) ∧
      (x.confirming = false → pass = false → ∃ t, exec (.patrolMove q b pass) s = .next t ∧ (patrolOf t k).failed = true ∧
        (patrolOf t k).slot = none ∧ flagSet t (Reg.QUAD_STATUS q) 4 = true ∧ (t.newestLog.map LogEntry.cls) = some 3 ∧
        (t.shep.wear.head?.map WearEntry.kind) = some 7 ∧ s.sameBut [.regs, .pcie, .log, .shep] t) ∧
      (x.confirming = false → pass = true → ∃ t, exec (.patrolMove q b pass) s = .next t ∧ s.sameBut [.shep] t ∧
        (∀ n, (patrolOf t k).slot = some n → n ∈ activeSlots s k) ∧ (activeSlots s k = [] → (patrolOf t k).slot = none) ∧
        (∀ m n, x.slot = some m → n ∈ activeSlots s k → m < n → ∃ r, (patrolOf t k).slot = some r ∧ m < r ∧ r ≤ n) ∧
        (∀ n, n ∈ activeSlots s k → (∀ m r, x.slot = some m → r ∈ activeSlots s k → r ≤ m) → ∃ r, (patrolOf t k).slot = some r ∧ r ≤ n)))) ∧
  (∀ (q b : Fin 4) (s : State) (k : Nat) (x : PatrolSt), k = 4 * q + b → x = patrolOf s k →
    (x.slot = none → exec (.patrolMismatch q b) s = .next s) ∧
    (∀ n, x.slot = some n → n < 16 → ∃ t, exec (.patrolMismatch q b) s = .next t ∧ flagSet t (Reg.QUAD_STATUS q) 0 = true ∧
      rd t (Reg.QUAD_MISMATCH_CNT q) = satAdd (rd s (Reg.QUAD_MISMATCH_CNT q)) 1 ∧
      (x.confirming = false → patrolOf t k = { x with confirming := true } ∧ t.deck = s.deck ∧ t.log = s.log) ∧
      (x.confirming = true → flagSet t (Reg.QUAD_STATUS q) 1 = true ∧ (s.deck.quarEngines.contains (17 * k + n) = false →
        s.deck.promos.any (fun p => p.engine == 17 * k + n) = false →
        (spareFree s k = true → ∃ p ∈ t.deck.promos, p.engine = 17 * k + n ∧ p.wait = 1) ∧
        (spareFree s k = false → t.deck.quarEngines.contains (17 * k + n) = true)) ∧
        (s.deck.quarEngines.contains (17 * k + n) = true → t.deck = s.deck) ∧
        (s.deck.quarEngines.contains (17 * k + n) = false → s.deck.promos.any (fun p => p.engine == 17 * k + n) = true →
          t.deck = { s.deck with promos := s.deck.promos.map (fun p => if p.engine = 17 * k + n then { p with charge := true } else p) })) ∧
      s.sameBut [.regs, .pcie, .log, .deck, .shep] t) ∧
    (x.slot = none ∨ x.confirming = false → exec (.patrolConfirmEnd q b) s = .next s) ∧
    (∀ n, x.slot = some n → x.confirming = true → ∃ t, exec (.patrolConfirmEnd q b) s = .next t ∧ (patrolOf t k).confirming = false ∧
      (17 * k + n, s.tb.now) ∈ (patrolOf t k).unconf ∧ t.deck = s.deck ∧
      (3 ≤ (((17 * k + n) :: (x.unconf.filter (fun e => decide (s.tb.now < e.2 + nsT (24 * 3600 * second)))).map Prod.fst).eraseDups).length →
        (patrolOf t k).failed = true) ∧
      (((17 * k + n) :: (x.unconf.filter (fun e => decide (s.tb.now < e.2 + nsT (24 * 3600 * second)))).map Prod.fst).eraseDups.length < 3 →
        (patrolOf t k).failed = x.failed ∧ t.regs = s.regs) ∧
      s.sameBut [.regs, .pcie, .log, .shep] t)) ∧
  (∀ (h : CmdHdr) (kind : Byte) (unit : BitVec 16) (s : State) (n : Nat), s.starts h (spareCommitChecks h kind unit) → n = unit.toNat →
    (kind = 0 →
      (spareFree s (n / 17) = false ∨ n % 17 = 16 ∨ s.deck.quarEngines.contains n = true →
        ∃ t, exec (.spareCommit h kind unit) s = .next t ∧ t.cmd = s.completing h cNoSpare 0 0 ∧ s.sameBut [.cmd] t) ∧
      (spareFree s (n / 17) = true → n % 17 ≠ 16 → s.deck.quarEngines.contains n = false →
        ∃ t, exec (.spareCommit h kind unit) s = .next t ∧ t.cmd = s.running h 0x0C02 n 0 ∧ flagSet t (Reg.QUAD_STATUS (n / 68)) 13 = true ∧
          (∃ p ∈ t.deck.promos, p.engine = n ∧ p.wait = (if (patrolOf s (n / 17)).slot = some (n % 17) then 1 else 2)) ∧
          s.sameBut [.regs, .cmd, .pcie, .deck, .shep] t)) ∧
    (∀ q l, kind ≠ 0 → q = (if kind = 1 then rxLane n else txLane n) → l = linkOf s q.1 →
      (q.2 = 16 ∨ l.mapped.isSome = true ∨ l.excl.getLsbD 16 = true ∨ l.excl.getLsbD q.2 = true →
        ∃ t, exec (.spareCommit h kind unit) s = .next t ∧ t.cmd = s.completing h cNoSpare 0 0 ∧ s.sameBut [.cmd] t) ∧
      (q.2 ≠ 16 → l.mapped = none → l.excl.getLsbD 16 = false → l.excl.getLsbD q.2 = false → l.neg = none → l.wantSpare = [] → l.st = .active →
        l.caps.getLsbD 1 = true → (laneOf s q.1 16).st = .active → ∃ t, exec (.spareCommit h kind unit) s = .next t ∧
          t.cmd = s.running h 0x0C02 (32 * q.1 + q.2) 1 ∧ (linkOf t q.1).neg.map (fun x => x.pos.val) = some q.2 ∧
          s.sameBut [.free, .cmd, .link] t))) ∧
  (∀ (h : CmdHdr) (dest : BitVec 64) (s : State) (bl : List SparedBlock) (n : Nat), s.starts h (spareStatusChecks h dest s) →
    bl = sparedBlocks s ++ quarBlocksOf s → n = min bl.length (segsLen (bufList s dest) / 16) → ∃ t, exec (.spareStatus h dest) s = .next t ∧
      t.cmd = s.completing h (if n < bl.length then cBufferFull else cOk) n 0 ∧ 339 ≤ bl.length ∧
      (∀ a len i b, bufList s dest = [(false, a, len)] → i < n → bl[i]? = some b → memRead t.mem.host (a + 16 * i) 16 =
        leBytes 4 b.unit ++ leBytes 1 (min b.fitted 255) ++ leBytes 1 (min b.serving 255) ++ leBytes 1 (min b.failed 255) ++ List.replicate 9 0) ∧
      s.sameBut [.cmd, .mem] t) ∧
  (∀ (h : CmdHdr) (dest : BitVec 64) (s : State) (n : Nat), s.starts h (wearForecastChecks h dest s) →
    n = min 339 (segsLen (bufList s dest) / 32) → ∃ t, exec (.wearForecast h dest) s = .next t ∧
      t.cmd = s.completing h (if n < 339 then cBufferFull else cOk) n 0 ∧
      (∀ a len i b, bufList s dest = [(false, a, len)] → i < n → (sparedBlocks s)[i]? = some b → memRead t.mem.host (a + 32 * i) 8 =
        leBytes 4 b.unit ++ leBytes 1 b.kind ++ leBytes 1 (min b.fitted 255) ++ leBytes 1 (min (b.fitted - b.serving - b.failed) 255) ++ [0] ∧
        memRead t.mem.host (a + 32 * i + 18) 6 = leBytes 2 (precursorCount s b.unit) ++ leBytes 4 (lastDays s b)) ∧
      s.sameBut [.free, .cmd, .mem] t) ∧
  (∀ (q : Fin 4) (slow : BitVec 16) (ro : Fin 65) (s : State) (old target : Nat), old = rdF s (Reg.QUAD_AGE q) 15 0 → target = rdF s Reg.CHIP_AVS 9 0 →
    ∃ t, exec (.ageingMeasure q slow ro) s = .next t ∧ rdF t (Reg.QUAD_AGE q) 15 0 = slow.toNat ∧ rdF t (Reg.QUAD_AGE q) 22 16 = ro ∧
      (ro.val < rdF s (Reg.QUAD_AGE q) 22 16 → flagSet t (Reg.QUAD_STATUS q) 10 = true) ∧
      (old / 50 ≠ slow.toNat / 50 → flagSet t (Reg.QUAD_STATUS q) 7 = true) ∧
      (old / 100 < slow.toNat / 100 → flagSet t (Reg.QUAD_STATUS q) 8 = true ∧
        rdF t Reg.CHIP_AVS 9 0 = (if target < 800 then min (target + 5 * (slow.toNat / 100 - old / 100)) 800 else target)) ∧
      (slow.toNat / 100 ≤ old / 100 → rdF t Reg.CHIP_AVS 9 0 = target ∧ t.log = s.log) ∧
      (400 ≤ slow.toNat → rdF s Reg.SHEP_CTRL 31 24 ≠ 0 → (∀ b < 4, s.shep.forecast.contains (engBlockUnit (4 * q + b)) = false) →
        flagSet t (Reg.QUAD_STATUS q) 9 = true) ∧
      s.sameBut [.regs, .free, .pcie, .log, .shep] t) ∧
  (∀ (good : Bool) (s : State) (h : ShepSt), h = s.shep →
    (s.pwr.warnIo = true ∨ s.pwr.warnAon = true → exec (.wearLogCommit good) s = .next s) ∧
    (s.pwr.warnIo = false → s.pwr.warnAon = false → ∃ t, exec (.wearLogCommit good) s = .next t ∧ s.sameBut [.regs, .pcie, .shep] t ∧
      (good = true → t.regs = s.regs ∧ max t.shep.genA t.shep.genB = max h.genA h.genB + 1 ∧ min t.shep.genA t.shep.genB = max h.genA h.genB ∧
        t.shep.commitDue = false ∧ (if h.genA ≤ h.genB then t.shep.goodA = true ∧ t.shep.imageA = wearImage (ageSnapshot s) ∧
          t.shep.imageB = h.imageB else t.shep.goodB = true ∧ t.shep.imageB = wearImage (ageSnapshot s) ∧ t.shep.imageA = h.imageA)) ∧
      (h.snapAt + nsT day ≤ s.tb.now → t.shep.snapAt = s.tb.now ∧ t.shep.wear.length = h.wear.length + 4) ∧
      (s.tb.now < h.snapAt + nsT day → t.shep.snapAt = h.snapAt ∧ t.shep.wear = h.wear) ∧
      (good = false → t.shep.genA = h.genA ∧ t.shep.genB = h.genB ∧ t.shep.commitDue = !h.retry ∧ flagSet t Reg.SHEP_STATUS 6 = true ∧
        (if h.genA ≤ h.genB then t.shep.goodA = false ∧ t.shep.goodB = h.goodB else t.shep.goodB = false ∧ t.shep.goodA = h.goodA))))

/-- A lockstep mismatch without a pair changes nothing; else the pair tests itself, a warm or staged spare runs alone from the
checkpoint, whose record of the units it corrects and logs, and a staged image is dropped. Of the tested cores those that fail
are quarantined: with a former spare, the pair resumes, or one passes and pairs with it, or it runs alone with SINGLE; without
one, the lowest that passes runs alone, and where none does the device enters class F, as when a core that runs alone fails.
FW_STAGE of a short list, or a bad signature, completes with INVALID_FIELD or AUTH_FAIL; else it stages the image's version.
FW_ACTIVATE with nothing staged completes with INVALID_STATE; with a staged spare it runs until the checkpoint at which the
new image takes over, or the timeout after which the old one resumes; with none it completes with the new image. NV_WRITE
stores its bytes, commits for AREA 3, and is refused during a supply warning. (Image layout: notes/assumptions/13.md.) (R25,
R361, R362, R410, R429, R430, R431, R445) -/
def Obligations.CoresFirmwareAndNvAreas : Prop :=
  let cores (s : State) : List CoreState := [s.shep.cores.1, s.shep.cores.2.1, s.shep.cores.2.2]
  let all : List Part := [.regs, .cmd, .pcie, .log, .shep]
  let ends (e : Instr) (h : CmdHdr) (op status result : Nat) (s : State) : Prop :=
    ∃ t, exec e s = .next t ∧ t.cmd = s.completing h status result 0 ∧ t.newestLog.map (fun x => (x.event, x.data)) =
      some (6, leBytes 2 op ++ leBytes 2 h.cid.toNat ++ leBytes 2 status) ∧ s.sameBut [.regs, .cmd, .pcie, .log] t
  (∀ s : State, (CoreState.paired ∉ cores s → exec .lockstepMismatch s = .next s) ∧
    (CoreState.paired ∈ cores s → ∃ t, exec .lockstepMismatch s = .next t ∧ flagSet t Reg.SHEP_STATUS 0 = true ∧
      cores t = (cores s).map (fun c => if c = .paired then .selfTest else if c = .warm ∨ c = .staged then .single else c) ∧
      (CoreState.warm ∈ cores s ∨ CoreState.staged ∈ cores s → flagSet t Reg.SHEP_STATUS 1 = true) ∧
      (CoreState.staged ∈ cores s → t.shep.stagedImage = none) ∧ (CoreState.staged ∉ cores s → t.shep.stagedImage = s.shep.stagedImage) ∧
      (CoreState.warm ∉ cores s → CoreState.staged ∉ cores s → t.shep.record = s.shep.record ∧ t.log = s.log) ∧
      (CoreState.warm ∈ cores s ∨ CoreState.staged ∈ cores s → t.shep.record = unitStates s ∧ (s.shep.record = unitStates s → t.log = s.log) ∧
        (∀ k x y, k < 48 → s.shep.record[k]? = some x → (unitStates s)[k]? = some y → x ≠ y → flagSet t Reg.SHEP_STATUS 15 = true ∧
          ∃ e ∈ t.log.entries, e.event = 3 ∧ e.data = [BitVec.ofNat 8 x, BitVec.ofNat 8 y])) ∧
      s.sameBut [.regs, .pcie, .log, .shep] t)) ∧
  (∀ (p0 p1 p2 : Bool) (s : State), let pass (n : Nat) : Bool := ([p0, p1, p2][n]?).getD false
    let tested (n : Nat) : Prop := (cores s)[n]? = some .selfTest
    ((∀ n < 3, ¬tested n) → s.shep.handover ≠ none ∨ (∀ n < 3, (cores s)[n]? = some .single → pass n = true) → exec (.coreSelfTestDone p0 p1 p2) s = .next s) ∧
    (∀ n < 3, (∀ k < 3, ¬tested k) → (cores s)[n]? = some .single → (∀ k < n, (cores s)[k]? ≠ some .single) → s.shep.handover = none →
      pass n = false → ∃ u, exec (.coreSelfTestDone p0 p1 p2) s = .next (stopPlayback (stopCapture u)) ∧ (cores u)[n]? = some .quarantined ∧
        u.shep.lost = true ∧ u.pwr.classF = true ∧ flagSet u Reg.CHIP_STATUS 12 = true) ∧
    ((∃ k < 3, tested k) → ∃ (t : State) (gone : Bool), exec (.coreSelfTestDone p0 p1 p2) s = .next (if gone then stopPlayback (stopCapture t) else t) ∧
      (gone = true ↔ (∀ n < 3, (cores s)[n]? ≠ some .single) ∧ ∀ k < 3, tested k → pass k = false) ∧
      (∀ k < 3, tested k → pass k = false → (cores t)[k]? = some .quarantined) ∧
      (∀ n < 3, (cores s)[n]? = some .single → (∀ k < n, (cores s)[k]? ≠ some .single) →
        ((∀ k < 3, tested k → pass k = true) → (∀ k < 3, tested k → (cores t)[k]? = some .paired) ∧ (cores t)[n]? = some .warm) ∧
        ((∃ k < 3, tested k ∧ pass k = false) → (∃ k < 3, tested k ∧ pass k = true) → (cores t)[n]? = some .paired ∧
          (∀ k < 3, tested k → pass k = true → (cores t)[k]? = some .paired) ∧ flagSet t Reg.SHEP_STATUS 2 = true) ∧
        ((∀ k < 3, tested k → pass k = false) → (cores t)[n]? = some .single ∧ flagSet t Reg.SHEP_STATUS 3 = true)) ∧
      ((∀ n < 3, (cores s)[n]? ≠ some .single) →
        (∀ k < 3, tested k → pass k = true → (∀ j < k, tested j → pass j = false) → (cores t)[k]? = some .single ∧
          flagSet t Reg.SHEP_STATUS 3 = true) ∧
        (gone = true → t.shep.lost = true ∧ t.pwr.classF = true ∧ flagSet t Reg.CHIP_STATUS 12 = true)))) ∧
  (∀ (h : CmdHdr) (len : BitVec 32) (src : BitVec 64) (s : State) (bs : List Byte), s.starts h (fwStageChecks h len src s) →
    bs = segsRead s.mem (bufList s src) len.toNat →
    (bs.length < len.toNat → ends (.fwStage h len src) h 0x0C04 cField 12 s) ∧
    (len.toNat ≤ bs.length → Config.fwSigOk bs (cosKeys s) (cosRequired s) = false → ends (.fwStage h len src) h 0x0C04 cAuth 0 s) ∧
    (len.toNat ≤ bs.length → Config.fwSigOk bs (cosKeys s) (cosRequired s) = true → ∃ t, exec (.fwStage h len src) s = .next t ∧
      t.cmd = s.completing h cOk (Config.fwVersion bs).toNat 0 ∧ t.shep.stagedImage = some (Config.fwVersion bs) ∧
      cores t = (cores s).map (fun c => if c = .warm then .staged else c) ∧ t.shep.image = s.shep.image ∧ s.sameBut [.cmd, .log, .shep] t)) ∧
  (∀ (h : CmdHdr) (s : State), s.starts h (fwActivateChecks h s) →
    (s.shep.stagedImage = none → ends (.fwActivate h) h 0x0C05 cState 0 s) ∧
    (∀ v, s.shep.stagedImage = some v →
      (CoreState.staged ∈ cores s → ∃ t, exec (.fwActivate h) s = .next t ∧ t.cmd = s.running h 0x0C05 0 0 ∧
        t.shep.handover = some (h.ring, h.cid) ∧ t.shep.image = s.shep.image ∧
        cores t = (cores s).map (fun c => if c = .staged then .single else if c = .paired then .staged else c) ∧ s.sameBut [.cmd, .shep] t) ∧
      (CoreState.staged ∉ cores s → ∃ t, exec (.fwActivate h) s = .next t ∧ t.cmd = s.completing h cOk v.toNat 0 ∧ t.shep.image = v ∧
        t.shep.stagedImage = none ∧ t.shep.recovery = false ∧ flagSet t Reg.SHEP_STATUS 4 = true ∧ s.sameBut all t))) ∧
  (∀ s : State, (s.shep.handover = none → exec .handoverTimeout s = .next s) ∧
    (∀ c, s.shep.handover = some c → s.runs c.1 c.2 0x0C05 →
      (∃ t, exec .handoverTimeout s = .next t ∧ t.cmd = s.ending c.1 c.2 cEngine 0 0 ∧ t.shep.handover = none ∧ t.shep.stagedImage = none ∧
        t.shep.image = s.shep.image ∧ flagSet t Reg.SHEP_STATUS 5 = true ∧
        cores t = (cores s).map (fun c => if c = .staged then .paired else if c = .single then .warm else c) ∧ s.sameBut all t) ∧
      (∀ v, s.shep.stagedImage = some v → ∃ t, exec .shepherdCheckpoint s = .next t ∧ t.cmd = s.ending c.1 c.2 cOk v.toNat 0 ∧
        t.shep.image = v ∧ t.shep.handover = none ∧ t.shep.stagedImage = none ∧ flagSet t Reg.SHEP_STATUS 4 = true ∧
        cores t = (cores s).map (fun c => if c = .staged then .paired else if c = .single then .warm else c) ∧ s.sameBut all t)) ∧
    (s.shep.handover = none ∨ s.shep.stagedImage = none → ∃ t, exec .shepherdCheckpoint s = .next t ∧
      t.shep = { s.shep with checkpoint := inFlight s, record := unitStates s } ∧ s.sameBut [.shep] t)) ∧
  (∀ (h : CmdHdr) (area : Byte) (len ofs : BitVec 32) (src : BitVec 64) (s : State) (bs : List Byte), s.starts h (nvWriteChecks h area len src s) →
    bs = segsRead s.mem (bufList s src) len.toNat →
    (nvWarned s = true → ends (.nvWrite h area len ofs src) h 0x0C06 cNv 0 s) ∧
    (nvWarned s = false → area = 3 → ∃ t, exec (.nvWrite h area len ofs src) s = .next t ∧ t.cmd = s.completing h cOk 0 0 ∧
      max t.shep.genA t.shep.genB = max s.shep.genA s.shep.genB + 1 ∧ s.sameBut [.cmd, .log, .shep] t) ∧
    (nvWarned s = false → area ≠ 3 → bs.length < len.toNat → ends (.nvWrite h area len ofs src) h 0x0C06 cField 12 s) ∧
    (nvWarned s = false → area ≠ 3 → len.toNat ≤ bs.length → ∃ t, exec (.nvWrite h area len ofs src) s = .next t ∧
      t.cmd = s.completing h cOk len.toNat 0 ∧ t.sec.nvCal = (if area = 0 then memWrite s.sec.nvCal ofs.toNat bs else s.sec.nvCal) ∧
      t.sec.nvDeck = (if area = 1 then memWrite s.sec.nvDeck ofs.toNat bs else s.sec.nvDeck) ∧
      t.sec.nvFirm = (if area = 2 then memWrite s.sec.nvFirm ofs.toNat bs else s.sec.nvFirm) ∧ t.sec.sealedItems = s.sec.sealedItems ∧
      s.sameBut [.cmd, .log, .sec] t))

/-- A tamper event of an armed source zeroes the secure scratch and nothing else in scratch, latches the source, sets TAMPER and
WIPE_DONE and logs class none; in FIELD it programs one tamper-count bit, and with TAMPER_HALT logs class F and the device
enters it. A source that goes inactive lets unsealing that waits proceed. KEY_PROVISION completes with INVALID_FIELD,
NV_REFUSED or AUTH_FAIL as its bytes, a supply warning or a bad licence say; else it seals the item and loads its slot unless
a source is active. LIFECYCLE_ADVANCE completes with BUSY, AUTH_FAIL (the nonce replaced) or NV_REFUSED; else it programs the
state and POLICY, wipes, replaces the nonce and logs. TAMPER_STATUS answers the causes and CLEAR drops those no longer active.
WIPE zeroes each of its scopes. (The order of those checks, and that commands are atomic against tamper, are the model's,
notes/assumptions/26.md.) (R344, R363, R410, R439, R440, R441, R442, R443, R444, R445) -/
def Obligations.TamperKeysLifeCycleAndWipe : Prop :=
  let secret (a : Nat) : Prop := secBase ≤ a ∧ a < secBase + secSize
  let onlySecretLost (s t : State) : Prop := (∀ a, secret a → memByte t.mem.scratch a = 0) ∧
    (∀ a, ¬secret a → memByte t.mem.scratch a = memByte s.mem.scratch a) ∧ t.mem.hbm = s.mem.hbm ∧ t.mem.host = s.mem.host
  let refusedBy (e : Instr) (h : CmdHdr) (op status result : Nat) (s : State) : Prop := ∃ t, exec e s = .next t ∧
    t.cmd = s.completing h status result 0 ∧ t.newestLog.map (fun x => (x.event, x.data)) =
      some (6, leBytes 2 op ++ leBytes 2 h.cid.toNat ++ leBytes 2 status) ∧ s.sameBut [.cmd, .log] t
  let logs (s t : State) (scope : Nat) : Prop := ∃ e ∈ t.log.entries.take 2, e.event = 9 ∧ e.cls = 0 ∧
    e.data = leBytes 1 t.sec.life ++ leBytes 1 s.sec.latched.toNat ++ leBytes 1 scope
  (∀ (src : Fin 5) (s : State), (tamperArmed s src.val = false → exec (.tamperEvent src) s = .next s) ∧
    (tamperArmed s src.val = true → ∃ u, exec (.tamperEvent src) s = .next (if s.sec.life = 2 ∧ s.sec.policy.getLsbD 2 = true then enterClassF u else u) ∧
      onlySecretLost s u ∧ u.sec.licences = 0 ∧ u.sec.wiped = true ∧ u.sec.latched = s.sec.latched ||| BitVec.ofNat 5 (2 ^ src.val) ∧
      u.sec.active = s.sec.active ||| BitVec.ofNat 5 (2 ^ src.val) ∧ u.sec.sealedItems = s.sec.sealedItems ∧
      flagSet u Reg.SEC_STATUS 0 = true ∧ flagSet u Reg.SEC_STATUS 1 = true ∧
      u.sec.count = (if s.sec.life = 2 ∧ s.sec.count < 32 then s.sec.count + 1 else s.sec.count) ∧
      (s.sec.life = 2 → s.sec.count < 32 → flagSet u Reg.SEC_STATUS 6 = true ∧ (27 ≤ s.sec.count → flagSet u Reg.SEC_STATUS 7 = true)) ∧
      u.newestLog.map (fun e => (e.event, e.cls, e.data)) = some (9, (if s.sec.life = 2 ∧ s.sec.policy.getLsbD 2 = true then 4 else 0),
        leBytes 1 s.sec.life ++ leBytes 1 u.sec.latched.toNat ++ leBytes 1 1) ∧
      s.regsBut [Reg.SEC_STATUS, Reg.PCIE_STATUS] u ∧ s.sameBut [.regs, .pcie, .log, .mem, .sec, .count] u)) ∧
  (∀ (src : Fin 5) (s : State) (live : BitVec 5), live = s.sec.active &&& ~~~(BitVec.ofNat 5 (2 ^ src.val)) →
    ∃ t, exec (.tamperSourceInactive src) s = .next t ∧ t.sec.active = live ∧ t.sec.latched = s.sec.latched ∧
      (s.sec.unsealing = false → s.sameBut [.sec] t) ∧ (s.sec.unsealing = true → live ≠ 0 → t.sec.unsealing = true ∧ s.sameBut [.sec] t) ∧
      (s.sec.unsealing = true → live = 0 → t.sec.unsealing = false ∧ t.sec.sealedItems = s.sec.sealedItems.filter (fun i =>
          i.2.2.2.1 == s.sec.life && i.2.2.2.2 == s.sec.count && !scrapped s) ∧
        (t.sec.sealedItems ≠ s.sec.sealedItems → flagSet t Reg.SEC_STATUS 5 = true) ∧
        (∀ a, ¬secret a → memByte t.mem.scratch a = memByte s.mem.scratch a)) ∧ s.sameBut [.regs, .pcie, .mem, .sec] t) ∧
  (∀ (h : CmdHdr) (slot kind : Byte) (len : BitVec 32) (src : BitVec 64) (s : State) (bs : List Byte),
    s.starts h (keyProvisionChecks h slot kind len src s) → bs = segsRead s.mem (bufList s src) len.toNat →
    (bs.length < len.toNat → refusedBy (.keyProvision h slot kind len src) h 0x0D02 cField 12 s) ∧
    (bs.length = len.toNat → nvWarned s = true → refusedBy (.keyProvision h slot kind len src) h 0x0D02 cNv 0 s) ∧
    (bs.length = len.toNat → nvWarned s = false → kind = 2 → licenceOk s bs (slot.toNat - 32) = false →
      ∃ t, exec (.keyProvision h slot kind len src) s = .next t ∧ t.cmd = s.completing h cAuth 0 0 ∧ flagSet t Reg.SEC_STATUS 3 = true ∧
        s.sameBut [.regs, .cmd, .pcie, .log] t) ∧
    (bs.length = len.toNat → nvWarned s = false → kind ≠ 2 ∨ licenceOk s bs (slot.toNat - 32) = true →
      ∃ t, exec (.keyProvision h slot kind len src) s = .next t ∧ t.cmd = s.completing h cOk 0 0 ∧ flagSet t Reg.SEC_STATUS 4 = true ∧
        (slot.toNat, kind.toNat, bs, s.sec.life, s.sec.count) ∈ t.sec.sealedItems ∧
        (∀ i ∈ s.sec.sealedItems, i.1 ≠ slot.toNat ∨ i.2.1 ≠ kind.toNat → i ∈ t.sec.sealedItems) ∧ logs s t 0 ∧
        (s.sec.active ≠ 0 → t.mem = s.mem ∧ t.sec.licences = s.sec.licences) ∧
        (s.sec.active = 0 → (kind = 0 ∨ kind = 1 → keySlot t slot.toNat kind.toNat = some bs) ∧
          (kind = 2 → keySlot t slot.toNat 2 = some bs ∧ t.sec.licences.getLsbD (slot.toNat - 32) = true) ∧
          (kind = 3 → memRead t.mem.scratch (secBase + 0x10000 + 8192 * slot.toNat) bs.length = bs) ∧
          (∀ a, ¬secret a → memByte t.mem.scratch a = memByte s.mem.scratch a)) ∧ s.sameBut [.regs, .cmd, .pcie, .log, .mem, .sec] t)) ∧
  (∀ (h : CmdHdr) (target : Byte) (len : BitVec 32) (src : BitVec 64) (s : State) (a : List Byte),
    s.starts h (lifecycleAdvanceChecks h target len src s) → a = segsRead s.mem (bufList s src) len.toNat →
    (a.length < len.toNat → refusedBy (.lifecycleAdvance h target len src) h 0x0D01 cField 12 s) ∧
    (a.length = len.toNat → captureBusy s = true ∨ playing s = true → refusedBy (.lifecycleAdvance h target len src) h 0x0D01 cBusy 0xFFFF s) ∧
    (a.length = len.toNat → captureBusy s = false → playing s = false →
      (authOk s target.toNat a = false → ∃ t, exec (.lifecycleAdvance h target len src) s = .next t ∧ t.cmd = s.completing h cAuth 0 0 ∧
        flagSet t Reg.SEC_STATUS 3 = true ∧ t.free = s.free + 1 ∧ rd64 t Reg.SEC_NONCE_LO = (freeVal 64 s).toNat ∧
        s.sameBut [.regs, .free, .cmd, .pcie, .log] t) ∧
      (authOk s target.toNat a = true → nvWarned s = true → refusedBy (.lifecycleAdvance h target len src) h 0x0D01 cNv 0 s) ∧
      (authOk s target.toNat a = true → nvWarned s = false → ∃ t, exec (.lifecycleAdvance h target len src) s = .next t ∧
        t.cmd = s.completing h cOk target.toNat 0 ∧ t.sec.life = target.toNat ∧ t.sec.policy = BitVec.ofNat 8 (leAt a 5 1) ∧
        t.sec.wiped = true ∧ onlySecretLost s t ∧ flagSet t Reg.SEC_STATUS 2 = true ∧ rd64 t Reg.SEC_NONCE_LO = (freeVal 64 s).toNat ∧
        logs s t 1 ∧ s.sec.life < t.sec.life ∧ s.sameBut [.regs, .free, .cmd, .pcie, .log, .mem, .sec, .life] t))) ∧
  (∀ (h : CmdHdr) (s : State), s.starts h (tamperStatusChecks h) → ∃ t, exec (.tamperStatus h) s = .next t ∧
    t.cmd = s.completing h cOk (s.sec.latched.toNat + (if s.sec.wiped then 256 else 0)) 0 ∧
    (cflag h 0 = true → t.sec = { s.sec with latched := s.sec.latched &&& s.sec.active, wiped := false }) ∧
    (cflag h 0 = false → t.sec = s.sec) ∧ s.sameBut [.cmd, .sec] t) ∧
  (∀ (h : CmdHdr) (scope : Byte) (s : State) (stop : Prop), s.starts h (wipeChecks h scope s) →
    stop = (scope &&& 6 ≠ 0 ∧ (captureBusy s = true ∨ playing s = true)) →
    (stop → refusedBy (.wipe h scope) h 0x0D04 cBusy 0xFFFF s) ∧
    (¬stop → scope.getLsbD 0 = true → nvWarned s = true → refusedBy (.wipe h scope) h 0x0D04 cNv 0 s) ∧
    (¬stop → scope.getLsbD 0 = false ∨ nvWarned s = false → ∃ t, exec (.wipe h scope) s = .next t ∧ t.cmd = s.completing h cOk 0 0 ∧
      (scope.getLsbD 0 = true → (∀ a, secret a → memByte t.mem.scratch a = 0) ∧ t.sec.sealedItems = [] ∧ t.sec.licences = 0 ∧
        t.sec.wiped = true ∧ flagSet t Reg.SEC_STATUS 1 = true) ∧
      (scope.getLsbD 0 = false → (∀ a, secret a → memByte t.mem.scratch a = memByte s.mem.scratch a) ∧ t.sec = s.sec ∧ t.regs = s.regs) ∧
      (∀ a, memByte t.mem.hbm a = (if scope.getLsbD 1 = true ∧ a % stackSize s < extentMax s * extentSize then 0 else memByte s.mem.hbm a)) ∧
      (∀ a, a < 72 * 2 ^ 20 → memByte t.mem.scratch a = (if scope.getLsbD 2 = true then 0 else memByte s.mem.scratch a)) ∧
      (∀ a, 72 * 2 ^ 20 ≤ a → ¬secret a → memByte t.mem.scratch a = memByte s.mem.scratch a) ∧ t.mem.host = s.mem.host ∧
      logs s t scope.toNat ∧ s.sameBut [.regs, .cmd, .pcie, .log, .mem, .pgen, .sec] t))

/-- A host reset returns the ring registers, drops what is fetched, finished or queued, orphans running commands but those of
drover and engine jobs and those that wait for a drover, which end, and the MSI-X state; other registers are kept. A core
reset with the lock open leaves every command in flight ABORTED, no active deck, the regions OFF, and the registers of the
blocks it does not keep at reset; with no active deck slots and HBM stay; with a rail low class F follows, else it is over.
POR_N low, or a fail of VDD_AON or VDD_IO, leaves the machine as after reset but for fuses, flash, the repairs and wear
entries of the committed wear copy, committed log entries, the host's memory and what notes/assumptions/33.md lists, with its
RESET_CAUSE bit. POR_N's rise sets READY and BOOT and the stacks ON, in recovery without a valid image, drops sealed items
that fail, and enters class F where no core runs. A test reset changes nothing. (R26, R315, R339, R409, R420, R421, R443,
R445) -/
def Obligations.ResetsAndWhatTheyKeep : Prop :=
  let fuses (s t : State) : Prop := t.sec.life = s.sec.life ∧ t.sec.count = s.sec.count ∧ t.sec.policy = s.sec.policy ∧
    t.sec.serial = s.sec.serial ∧ t.sec.vendorHash = s.sec.vendorHash
  let unsealable (s : State) (i : Nat × Nat × List Byte × Nat × Nat) : Bool :=
    i.2.2.2.1 == s.sec.life && i.2.2.2.2 == s.sec.count && !scrapped s
  let porLeft (s t : State) (cause : Nat) : Prop := t.pwr.por = true ∧ fuses s t ∧ t.sec.sealedItems = s.sec.sealedItems ∧
    t.sec.nvCal = s.sec.nvCal ∧ t.sec.nvDeck = s.sec.nvDeck ∧ t.sec.nvFirm = s.sec.nvFirm ∧ t.sec.flashImage = s.sec.flashImage ∧
    t.sec.latched = 0 ∧ t.sec.licences = 0 ∧ t.mem.hbm = [] ∧ t.mem.scratch = [] ∧ t.mem.host = s.mem.host ∧ t.deck.active = none ∧
    t.deck.slots = [] ∧ t.comp.ctx = [] ∧ t.pwr.classF = false ∧
    (∀ m, m = wearCopy s.shep → t.shep.wear = m.wear ∧ t.shep.wearNext = m.wearNext ∧ t.shep.remaps = m.remaps ∧ t.shep.pageQuar = m.pageQuar ∧
      t.deck.standing = m.standing ∧ t.deck.quarEngines = m.quarEngines ∧ t.mem.rows = m.rows ∧ t.mem.deadRows = m.deadRows ∧
      t.comp.quar = m.quar ∧ t.comp.dQuar = m.dQuar ∧ t.shep.cores = bootCores m.cores ∧
      (∀ b, (patrolOf t b).failed = true → b ∈ m.failed) ∧ ∀ b ∈ m.failed, (patrolOf t b).failed = true) ∧
    (∀ e, e ∈ t.log.entries ↔ e ∈ s.log.entries ∧ e.seq < s.log.committed) ∧ rd t Reg.CHIP_RESET_CAUSE = BitVec.ofNat 32 (2 ^ cause) ∧
    rdF t Reg.CHIP_AVS 9 0 = rdF s Reg.CHIP_AVS 9 0 ∧ (∀ n < 4, rdF t (Reg.HBM_POOL n) 18 0 = (262144 - (remapsOf t n).length) % 2 ^ 19) ∧
    (∀ o d, o ∉ [Reg.CHIP_AVS, Reg.SEC_NONCE_LO, Reg.SEC_NONCE_HI, Reg.CHIP_RESET_CAUSE] → (∀ n < 4, o ≠ Reg.HBM_POOL n) →
      tabGet d t.regs o = d) ∧
    State.reset.sameBut [.pending, .regs, .free, .reply, .log, .mem, .deck, .comp, .pwr, .shep, .sec, .life, .count] t
  (∀ (cause : HostResetCause) (s : State) (down : Bool), down = (cause == .perst || cause == .linkDown) →
    ∃ t, exec (.hostReset cause) s = .next t ∧ t.cmd.fetched = [] ∧ t.cmd.finished = [] ∧ t.cmd.cq = [] ∧ t.drov = {} ∧ t.comp.jobs = [] ∧
      (∀ r, r ∈ t.cmd.running ↔ ∃ x ∈ s.cmd.running, r = { x with orphan := true } ∧ x.op ∉ [0x0401, 0x0402, 0x0403, 0x0501, 0x0502] ∧
        ∀ j ∈ s.drov.waiting, ¬(j.ring = x.ring ∧ j.cid = x.cid)) ∧
      (∀ k < 256, (tabGet {} t.comp.ctx k).busy = none) ∧
      (∀ n : Fin 16, ∀ o ∈ [Reg.CMDQ_CTRL n, Reg.CMDQ_SQ_BASE_LO n, Reg.CMDQ_SQ_BASE_HI n, Reg.CMDQ_CQ_BASE_LO n, Reg.CMDQ_CQ_BASE_HI n,
        Reg.CMDQ_SHADOW_LO n, Reg.CMDQ_SHADOW_HI n, Reg.CMDQ_SQ_PTR n, Reg.CMDQ_CQ_PTR n, Reg.CMDQ_COAL n], rd t o = resetWord o) ∧
      t.pcie.d3hot = false ∧ t.pcie.msixMask = true ∧ t.pcie.msixAddr = 0 ∧ t.pcie.linkUp = (s.pcie.linkUp && !down) ∧
      (rd t Reg.CHIP_RESET_CAUSE).getLsbD 3 = true ∧ (cause = .perst → flagSet t Reg.PCIE_STATUS 11 = true) ∧
      (cause = .flr → flagSet t Reg.PCIE_STATUS 10 = true) ∧ (cause = .linkDown → flagSet t Reg.PCIE_STATUS 1 = true) ∧
      (cause = .hotReset → t.pcie.pba = false) ∧
      (∀ o d, ¬(0x200 ≤ o ∧ o < 0x1000) → ¬(0x111000 ≤ o ∧ o < 0x111400) → (∀ n < 8, o ≠ Reg.DROV_STATE n) →
        o ∉ [Reg.PCIE_STATUS, Reg.PCIE_LINK, Reg.CHIP_RESET_CAUSE] → tabGet d t.regs o = tabGet d s.regs o) ∧
      s.sameBut [.regs, .cmd, .pcie, .drov, .comp] t) ∧
  (∀ (m : Master) (v : Word) (low : BitVec 12) (s : State), v.getLsbD 0 = true → (m = .host → s.pcie.d3hot = false) →
    (masterOf s m).unlocked = true → ∃ t, exec (.coreReset m v low) s = .next t ∧ (masterOf t m).unlocked = false ∧
      t.cmd.fetched = [] ∧ t.cmd.running = [] ∧ t.cmd.cq = s.cmd.cq ∧ t.deck.active = none ∧
      rdF t Reg.CHIP_PWR_STATE 9 0 = 0 ∧ (rd t Reg.CHIP_RESET_CAUSE).getLsbD 2 = true ∧ flagSet t Reg.CHIP_PWR_STATUS 13 = true ∧
      t.pwr.classF = decide (low ≠ 0) ∧ t.pgen.st = .idle ∧ t.hands = [] ∧ t.link = [] ∧ t.eq = [] ∧
      (∀ f ∈ s.cmd.fetched, ∃ c ∈ t.cmd.finished, c.ring = f.ring ∧ c.cid = f.cid ∧ c.status = cAborted) ∧
      ((∀ r ∈ s.cmd.running, r.orphan = false) →
        ∀ r ∈ s.cmd.running, ∃ c ∈ t.cmd.finished, c.ring = r.ring ∧ c.cid = r.cid ∧ c.status = cAborted) ∧
      (actDeck s = none → t.mem.hbm = s.mem.hbm ∧ t.deck.slots = s.deck.slots) ∧
      (∀ o d, ¬keptBlocks.contains (o / 0x100000) → tabGet d t.regs o = d) ∧
      (actDeck s = none → s.pgen.st = .idle → ∀ o d, keptBlocks.contains (o / 0x100000) → ¬(0x200 ≤ o ∧ o < 0x1000) →
        (∀ n < 8, o ≠ Reg.DROV_STATE n) →
        o ∉ [Reg.CHIP_STATUS, Reg.CHIP_PWR_STATE, Reg.CHIP_RESET_CAUSE, Reg.CHIP_PWR_STATUS, Reg.SEC_STATUS, Reg.PCIE_STATUS] →
        tabGet d t.regs o = tabGet d s.regs o) ∧
      fuses s t ∧ t.tb.now = s.tb.now) ∧
  (∀ s : State, (s.pwr.por = true → exec .porNLow s = .next s) ∧
    (s.pwr.por = false → ∃ t, exec .porNLow s = .next t ∧ porLeft s t 0)) ∧
  (∀ (rail : Fin 12) (mv : BitVec 16) (s : State), s.pwr.por = false → rail.val = 2 ∨ rail.val = 5 →
    ∃ t, exec (.supplyFail rail mv) s = .next t ∧ porLeft s t 1) ∧
  (∀ (image : Bool) (retry : BitVec 4) (s : State),
    (s.pwr.por = false → (rd s Reg.CMDQ_READY).getLsbD 0 = true → exec (.powerOnReset image retry) s = .next s) ∧
    (s.pwr.por = true ∨ (rd s Reg.CMDQ_READY).getLsbD 0 = false →
      (processing s = true → ∃ t, exec (.powerOnReset image retry) s = .next t ∧ (∀ n < 4, retry.getLsbD n = true → flagSet t (Reg.HBM_STATUS n) 9 = true) ∧ t.pwr.por = false ∧ t.shep.recovery = !image ∧
        t.shep.image = s.sec.flashImage ∧ (rd t Reg.CMDQ_READY).getLsbD 0 = true ∧ flagSet t Reg.CHIP_PWR_STATUS 14 = true ∧
        hbmAll t = true ∧ (rd t Reg.CHIP_CLK_STATUS).getLsbD 3 = true ∧ (rd t Reg.CHIP_CLK_STATUS).getLsbD 6 = true ∧ fuses s t ∧
        (s.sec.active ≠ 0 → t.sec.unsealing = true ∧ t.sec.sealedItems = s.sec.sealedItems) ∧
        (s.sec.active = 0 → t.sec.sealedItems = s.sec.sealedItems.filter (unsealable s) ∧
          (s.sec.sealedItems.all (unsealable s) = false → flagSet t Reg.SEC_STATUS 5 = true)) ∧
        (∀ n < 4, ∀ p ∈ remapsOf t n, p ∈ remapsOf s n) ∧ s.sameBut [.regs, .free, .pcie, .mem, .pwr, .shep, .sec] t) ∧
      (processing s = false → ∃ t, exec (.powerOnReset image retry) s = .next t ∧ t.pwr.por = false ∧ t.pwr.classF = true))) ∧
  (∀ s : State, exec .testReset s = .next s)

/-- A fail of a rail other than VDD_AON and VDD_IO sets UV, shows the voltage and enters class F: capture and playback stop, and
no group that captured does so on. An overvoltage sets OV and logs class C. A warning's rise and its clearing set NV_WARN and
NV_CLEAR. AVS is set where MEAS departs from TARGET by more than 2%. REFCLK's loss begins holdover, sets REFCLK_LOST and logs
class D; with AON_SRC 1 AON falls back. Its return ends holdover and sets REFCLK_BACK; AON returns later. Where R416's
conditions do not hold, or within a deal period, REGION_SLEEP changes nothing; else every region that is ON sleeps, its ON
banks go to RETAIN and SLEEP is set. REGIONS_READY with no region on its way changes nothing; else those regions are ON with
the banks that slept, TBASE runs (from the next edge of REFCLK/4), each deal number goes on by 1, WAKE is set and the waiting
commands take effect in order. An oscillator trim changes no state. (R25, R26, R406, R408, R409, R410, R413, R414, R416, R418,
R419) -/
def Obligations.SuppliesClocksSleepAndWake : Prop :=
  (∀ (rail : Fin 12) (mv : BitVec 16) (s : State),
    (s.pwr.por = true → exec (.supplyFail rail mv) s = .next s ∧ exec (.supplyOvervoltage rail mv) s = .next s) ∧
    (s.pwr.por = false → rail.val ≠ 2 → rail.val ≠ 5 → ∃ u, exec (.supplyFail rail mv) s = .next (stopPlayback (stopCapture u)) ∧
      u.pwr = { s.pwr with outOfRange := true, classF := true } ∧ flagSet u Reg.CHIP_PWR_STATUS 2 = true ∧ flagSet u Reg.CHIP_STATUS 12 = true ∧
      rdF u (Reg.CHIP_VMON rail) 15 0 = mv.toNat ∧ u.log.entries.head?.map (fun e => (e.event, e.cls)) = some (1, 4) ∧
      s.regsBut [Reg.CHIP_VMON rail, Reg.CHIP_AVS, Reg.CHIP_PWR_STATUS, Reg.CHIP_STATUS, Reg.PCIE_STATUS] u ∧
      s.sameBut [.regs, .pcie, .log, .pwr] u) ∧
    (s.pwr.por = false → ∃ t, exec (.supplyOvervoltage rail mv) s = .next t ∧ t.pwr = { s.pwr with outOfRange := true } ∧
      flagSet t Reg.CHIP_PWR_STATUS 3 = true ∧ rdF t (Reg.CHIP_VMON rail) 15 0 = mv.toNat ∧
      t.newestLog.map (fun e => (e.event, e.cls)) = some (1, 1) ∧
      s.regsBut [Reg.CHIP_VMON rail, Reg.CHIP_AVS, Reg.CHIP_PWR_STATUS, Reg.PCIE_STATUS] t ∧ s.sameBut [.regs, .pcie, .log, .pwr] t)) ∧
  (∀ u : State, playing (stopPlayback (stopCapture u)) = false ∧ (∀ g < 16, (actDeck u).isSome = true →
    (grpOf (stopPlayback (stopCapture u)) g).st ≠ .holdoff ∧ ((grpOf (stopPlayback (stopCapture u)) g).seg.isSome = true →
      (grpOf (stopPlayback (stopCapture u)) g).st ∈ [GroupState.idle, .stopped, .stoppedOvf]))) ∧
  (∀ (io : Bool) (mv : BitVec 16) (s : State) (rail : Nat), rail = (if io then 5 else 2) →
    (∃ t, exec (.supplyWarning io mv) s = .next t ∧ nvWarned t = true ∧ rdF t (Reg.CHIP_VMON rail) 15 0 = mv.toNat ∧
      (nvWarned s = false → flagSet t Reg.CHIP_PWR_STATUS 0 = true) ∧
      s.regsBut [Reg.CHIP_VMON rail, Reg.CHIP_PWR_STATUS, Reg.PCIE_STATUS] t ∧ s.sameBut [.regs, .pcie, .pwr] t) ∧
    (∃ t, exec (.supplyWarningClear io mv) s = .next t ∧ nvWarned t = (if io then s.pwr.warnAon else s.pwr.warnIo) ∧
      rdF t (Reg.CHIP_VMON rail) 15 0 = mv.toNat ∧ (nvWarned s = true → nvWarned t = false → flagSet t Reg.CHIP_PWR_STATUS 1 = true) ∧
      s.regsBut [Reg.CHIP_VMON rail, Reg.CHIP_PWR_STATUS, Reg.PCIE_STATUS] t ∧ s.sameBut [.regs, .pcie, .pwr] t)) ∧
  (∀ (meas : BitVec 10) (s : State), ∃ t, exec (.avsOffTarget meas) s = .next t ∧ rdF t Reg.CHIP_AVS 25 16 = meas.toNat ∧
    rdF t Reg.CHIP_AVS 9 0 = rdF s Reg.CHIP_AVS 9 0 ∧
    (meas.toNat * 100 < 98 * rdF s Reg.CHIP_AVS 9 0 ∨ 102 * rdF s Reg.CHIP_AVS 9 0 < meas.toNat * 100 → flagSet t Reg.CHIP_PWR_STATUS 7 = true) ∧
    (98 * rdF s Reg.CHIP_AVS 9 0 ≤ meas.toNat * 100 → meas.toNat * 100 ≤ 102 * rdF s Reg.CHIP_AVS 9 0 → s.regsBut [Reg.CHIP_AVS] t ∧ t.pcie = s.pcie) ∧
    s.regsBut [Reg.CHIP_AVS, Reg.CHIP_PWR_STATUS, Reg.PCIE_STATUS] t ∧ s.sameBut [.regs, .pcie] t) ∧
  (∀ s : State, (s.pwr.holdover.isSome = true → exec .refclkLoss s = .next s) ∧
    (s.pwr.holdover = none → exec .refclkReturn s = .next s ∧ ∃ t, exec .refclkLoss s = .next t ∧ t.pwr.holdover = some s.tb.now ∧
      rdF t Reg.CHIP_CLK_STATUS 7 6 = 2 ∧ flagSet t Reg.CHIP_PWR_STATUS 4 = true ∧ t.newestLog.map LogEntry.cls = some 2 ∧
      ((rd s Reg.CHIP_PWR_CTRL).getLsbD 1 = true → (rd t Reg.CHIP_CLK_STATUS).getLsbD 8 = true ∧
        ((rd s Reg.CHIP_CLK_STATUS).getLsbD 8 = false → flagSet t Reg.CHIP_PWR_STATUS 6 = true)) ∧
      ((rd s Reg.CHIP_PWR_CTRL).getLsbD 1 = false → (rd t Reg.CHIP_CLK_STATUS).getLsbD 8 = (rd s Reg.CHIP_CLK_STATUS).getLsbD 8) ∧
      s.regsBut [Reg.CHIP_CLK_STATUS, Reg.CHIP_PWR_STATUS, Reg.PCIE_STATUS] t ∧ s.sameBut [.regs, .pcie, .log, .pwr] t) ∧
    (s.pwr.holdover.isSome = true → ∃ t, exec .refclkReturn s = .next t ∧ t.pwr = { s.pwr with holdover := none } ∧
      rdF t Reg.CHIP_CLK_STATUS 7 6 = 1 ∧ flagSet t Reg.CHIP_PWR_STATUS 5 = true ∧ t.newestLog.map LogEntry.cls = some 2 ∧
      s.regsBut [Reg.CHIP_CLK_STATUS, Reg.CHIP_PWR_STATUS, Reg.PCIE_STATUS] t ∧ s.sameBut [.regs, .pcie, .log, .pwr] t) ∧
    (∃ t, exec .aonReturnToRefclk s = .next t ∧ ((rd s Reg.CHIP_PWR_CTRL).getLsbD 1 = true → s.pwr.holdover = none →
        (rd t Reg.CHIP_CLK_STATUS).getLsbD 8 = false ∧ s.regsBut [Reg.CHIP_CLK_STATUS] t) ∧
      ((rd s Reg.CHIP_PWR_CTRL).getLsbD 1 = false ∨ s.pwr.holdover.isSome = true → t = s) ∧ s.sameBut [.regs] t) ∧
    exec .oscillatorTrim s = .next s) ∧
  (∀ s : State, (maySleep s = false ∨ s.deck.cycle ≠ 0 → exec .regionSleep s = .next s) ∧
    (rdF s Reg.CHIP_PWR_CTRL 15 8 = 0 ∨ actDeck s = none ∨ asleep s = true ∨ playing s = true ∨ s.drov.jobs ≠ [] ∨ s.drov.waiting ≠ [] ∨
      s.comp.jobs ≠ [] → maySleep s = false) ∧
    (maySleep s = true → s.deck.cycle = 0 → ∃ t, exec .regionSleep s = .next t ∧
      (∀ r < 5, rdF t Reg.CHIP_PWR_STATE (2 * r + 1) (2 * r) = (if rdF s Reg.CHIP_PWR_STATE (2 * r + 1) (2 * r) = 2 then 3
        else rdF s Reg.CHIP_PWR_STATE (2 * r + 1) (2 * r))) ∧
      (∀ r < 5, ∀ b < bankCount r, bankState t r b =
        (if rdF s Reg.CHIP_PWR_STATE (2 * r + 1) (2 * r) = 2 ∧ bankState s r b = 2 then 1 else bankState s r b)) ∧
      (rd t Reg.CHIP_CLK_STATUS).getLsbD 0 = false ∧ flagSet t Reg.CHIP_PWR_STATUS 8 = true ∧
      s.sameBut [.regs, .pcie, .pwr] t)) ∧
  (∀ s : State, ((∀ r < 5, rdF s Reg.CHIP_PWR_STATE (2 * r + 1) (2 * r) ≠ 1) → exec .regionsReady s = .next s) ∧
    ((∃ r < 5, rdF s Reg.CHIP_PWR_STATE (2 * r + 1) (2 * r) = 1) → ∃ u, exec .regionsReady s = .next (s.pwr.waking.foldl runWaking u) ∧
      (∀ r < 5, rdF u Reg.CHIP_PWR_STATE (2 * r + 1) (2 * r) = (if rdF s Reg.CHIP_PWR_STATE (2 * r + 1) (2 * r) = 1 then 2
        else rdF s Reg.CHIP_PWR_STATE (2 * r + 1) (2 * r)) ∧ tabGet 0 u.deck.num r = tabGet 0 s.deck.num r + 1) ∧
      (∀ k ∈ s.pwr.slept, k < 288 → bankState u (k / 64) (k % 64) = 2) ∧ u.tb.running = true ∧
      u.tb.now = (if s.tb.running = true ∨ s.tb.sub = 0 then s.tb.now else (s.tb.now + nsT 40) % timeMod) ∧
      rdF u Reg.CHIP_CLK_STATUS 1 0 = 3 ∧ flagSet u Reg.CHIP_PWR_STATUS 9 = true ∧ u.deck.cycle = 0 ∧ u.pwr.waking = [] ∧ u.pwr.slept = [] ∧
      u.mem = s.mem ∧ s.sameBut [.regs, .tb, .pcie, .log, .deck, .pwr] u))
end

