-- ==== Sys2Proof/Laws/State.lean ====
section
/-!
SUPPORT. What an update of one field of the state leaves in every field.
-/

namespace Sys2Proof.Machine.State

variable (s : State)

@[simp] theorem setPending_pending (x : List Instr) : (s.setPending x).pending = x := rfl
@[simp] theorem setPending_regs (x : List Instr) : (s.setPending x).regs = s.regs := rfl
@[simp] theorem setPending_host (x : List Instr) : (s.setPending x).host = s.host := rfl
@[simp] theorem setPending_shepM (x : List Instr) : (s.setPending x).shepM = s.shepM := rfl
@[simp] theorem setPending_reply (x : List Instr) : (s.setPending x).reply = s.reply := rfl
@[simp] theorem setPending_free (x : List Instr) : (s.setPending x).free = s.free := rfl
@[simp] theorem setPending_tb (x : List Instr) : (s.setPending x).tb = s.tb := rfl
@[simp] theorem setPending_cmd (x : List Instr) : (s.setPending x).cmd = s.cmd := rfl
@[simp] theorem setPending_pcie (x : List Instr) : (s.setPending x).pcie = s.pcie := rfl
@[simp] theorem setPending_drov (x : List Instr) : (s.setPending x).drov = s.drov := rfl
@[simp] theorem setPending_log (x : List Instr) : (s.setPending x).log = s.log := rfl
@[simp] theorem setPending_mem (x : List Instr) : (s.setPending x).mem = s.mem := rfl
@[simp] theorem setPending_eq (x : List Instr) : (s.setPending x).eq = s.eq := rfl
@[simp] theorem setPending_deck (x : List Instr) : (s.setPending x).deck = s.deck := rfl
@[simp] theorem setPending_ingest (x : List Instr) : (s.setPending x).ingest = s.ingest := rfl
@[simp] theorem setPending_recog (x : List Instr) : (s.setPending x).recog = s.recog := rfl
@[simp] theorem setPending_flock (x : List Instr) : (s.setPending x).flock = s.flock := rfl
@[simp] theorem setPending_hands (x : List Instr) : (s.setPending x).hands = s.hands := rfl
@[simp] theorem setPending_trig (x : List Instr) : (s.setPending x).trig = s.trig := rfl
@[simp] theorem setPending_folds (x : List Instr) : (s.setPending x).folds = s.folds := rfl
@[simp] theorem setPending_comp (x : List Instr) : (s.setPending x).comp = s.comp := rfl
@[simp] theorem setPending_pgen (x : List Instr) : (s.setPending x).pgen = s.pgen := rfl
@[simp] theorem setPending_checkers (x : List Instr) : (s.setPending x).checkers = s.checkers := rfl
@[simp] theorem setPending_tins (x : List Instr) : (s.setPending x).tins = s.tins := rfl
@[simp] theorem setPending_dac (x : List Instr) : (s.setPending x).dac = s.dac := rfl
@[simp] theorem setPending_link (x : List Instr) : (s.setPending x).link = s.link := rfl
@[simp] theorem setPending_pwr (x : List Instr) : (s.setPending x).pwr = s.pwr := rfl
@[simp] theorem setPending_shep (x : List Instr) : (s.setPending x).shep = s.shep := rfl
@[simp] theorem setPending_sec (x : List Instr) : (s.setPending x).sec = s.sec := rfl
@[simp] theorem setRegs_pending (x : Tab Word) : (s.setRegs x).pending = s.pending := rfl
@[simp] theorem setRegs_regs (x : Tab Word) : (s.setRegs x).regs = x := rfl
@[simp] theorem setRegs_host (x : Tab Word) : (s.setRegs x).host = s.host := rfl
@[simp] theorem setRegs_shepM (x : Tab Word) : (s.setRegs x).shepM = s.shepM := rfl
@[simp] theorem setRegs_reply (x : Tab Word) : (s.setRegs x).reply = s.reply := rfl
@[simp] theorem setRegs_free (x : Tab Word) : (s.setRegs x).free = s.free := rfl
@[simp] theorem setRegs_tb (x : Tab Word) : (s.setRegs x).tb = s.tb := rfl
@[simp] theorem setRegs_cmd (x : Tab Word) : (s.setRegs x).cmd = s.cmd := rfl
@[simp] theorem setRegs_pcie (x : Tab Word) : (s.setRegs x).pcie = s.pcie := rfl
@[simp] theorem setRegs_drov (x : Tab Word) : (s.setRegs x).drov = s.drov := rfl
@[simp] theorem setRegs_log (x : Tab Word) : (s.setRegs x).log = s.log := rfl
@[simp] theorem setRegs_mem (x : Tab Word) : (s.setRegs x).mem = s.mem := rfl
@[simp] theorem setRegs_eq (x : Tab Word) : (s.setRegs x).eq = s.eq := rfl
@[simp] theorem setRegs_deck (x : Tab Word) : (s.setRegs x).deck = s.deck := rfl
@[simp] theorem setRegs_ingest (x : Tab Word) : (s.setRegs x).ingest = s.ingest := rfl
@[simp] theorem setRegs_recog (x : Tab Word) : (s.setRegs x).recog = s.recog := rfl
@[simp] theorem setRegs_flock (x : Tab Word) : (s.setRegs x).flock = s.flock := rfl
@[simp] theorem setRegs_hands (x : Tab Word) : (s.setRegs x).hands = s.hands := rfl
@[simp] theorem setRegs_trig (x : Tab Word) : (s.setRegs x).trig = s.trig := rfl
@[simp] theorem setRegs_folds (x : Tab Word) : (s.setRegs x).folds = s.folds := rfl
@[simp] theorem setRegs_comp (x : Tab Word) : (s.setRegs x).comp = s.comp := rfl
@[simp] theorem setRegs_pgen (x : Tab Word) : (s.setRegs x).pgen = s.pgen := rfl
@[simp] theorem setRegs_checkers (x : Tab Word) : (s.setRegs x).checkers = s.checkers := rfl
@[simp] theorem setRegs_tins (x : Tab Word) : (s.setRegs x).tins = s.tins := rfl
@[simp] theorem setRegs_dac (x : Tab Word) : (s.setRegs x).dac = s.dac := rfl
@[simp] theorem setRegs_link (x : Tab Word) : (s.setRegs x).link = s.link := rfl
@[simp] theorem setRegs_pwr (x : Tab Word) : (s.setRegs x).pwr = s.pwr := rfl
@[simp] theorem setRegs_shep (x : Tab Word) : (s.setRegs x).shep = s.shep := rfl
@[simp] theorem setRegs_sec (x : Tab Word) : (s.setRegs x).sec = s.sec := rfl
theorem modRegs_def (f : Tab Word → Tab Word) : s.modRegs f = s.setRegs (f s.regs) := rfl
@[simp] theorem modRegs_pending (f : Tab Word → Tab Word) : (s.modRegs f).pending = s.pending := rfl
@[simp] theorem modRegs_regs (f : Tab Word → Tab Word) : (s.modRegs f).regs = f s.regs := rfl
@[simp] theorem modRegs_host (f : Tab Word → Tab Word) : (s.modRegs f).host = s.host := rfl
@[simp] theorem modRegs_shepM (f : Tab Word → Tab Word) : (s.modRegs f).shepM = s.shepM := rfl
@[simp] theorem modRegs_reply (f : Tab Word → Tab Word) : (s.modRegs f).reply = s.reply := rfl
@[simp] theorem modRegs_free (f : Tab Word → Tab Word) : (s.modRegs f).free = s.free := rfl
@[simp] theorem modRegs_tb (f : Tab Word → Tab Word) : (s.modRegs f).tb = s.tb := rfl
@[simp] theorem modRegs_cmd (f : Tab Word → Tab Word) : (s.modRegs f).cmd = s.cmd := rfl
@[simp] theorem modRegs_pcie (f : Tab Word → Tab Word) : (s.modRegs f).pcie = s.pcie := rfl
@[simp] theorem modRegs_drov (f : Tab Word → Tab Word) : (s.modRegs f).drov = s.drov := rfl
@[simp] theorem modRegs_log (f : Tab Word → Tab Word) : (s.modRegs f).log = s.log := rfl
@[simp] theorem modRegs_mem (f : Tab Word → Tab Word) : (s.modRegs f).mem = s.mem := rfl
@[simp] theorem modRegs_eq (f : Tab Word → Tab Word) : (s.modRegs f).eq = s.eq := rfl
@[simp] theorem modRegs_deck (f : Tab Word → Tab Word) : (s.modRegs f).deck = s.deck := rfl
@[simp] theorem modRegs_ingest (f : Tab Word → Tab Word) : (s.modRegs f).ingest = s.ingest := rfl
@[simp] theorem modRegs_recog (f : Tab Word → Tab Word) : (s.modRegs f).recog = s.recog := rfl
@[simp] theorem modRegs_flock (f : Tab Word → Tab Word) : (s.modRegs f).flock = s.flock := rfl
@[simp] theorem modRegs_hands (f : Tab Word → Tab Word) : (s.modRegs f).hands = s.hands := rfl
@[simp] theorem modRegs_trig (f : Tab Word → Tab Word) : (s.modRegs f).trig = s.trig := rfl
@[simp] theorem modRegs_folds (f : Tab Word → Tab Word) : (s.modRegs f).folds = s.folds := rfl
@[simp] theorem modRegs_comp (f : Tab Word → Tab Word) : (s.modRegs f).comp = s.comp := rfl
@[simp] theorem modRegs_pgen (f : Tab Word → Tab Word) : (s.modRegs f).pgen = s.pgen := rfl
@[simp] theorem modRegs_checkers (f : Tab Word → Tab Word) : (s.modRegs f).checkers = s.checkers := rfl
@[simp] theorem modRegs_tins (f : Tab Word → Tab Word) : (s.modRegs f).tins = s.tins := rfl
@[simp] theorem modRegs_dac (f : Tab Word → Tab Word) : (s.modRegs f).dac = s.dac := rfl
@[simp] theorem modRegs_link (f : Tab Word → Tab Word) : (s.modRegs f).link = s.link := rfl
@[simp] theorem modRegs_pwr (f : Tab Word → Tab Word) : (s.modRegs f).pwr = s.pwr := rfl
@[simp] theorem modRegs_shep (f : Tab Word → Tab Word) : (s.modRegs f).shep = s.shep := rfl
@[simp] theorem modRegs_sec (f : Tab Word → Tab Word) : (s.modRegs f).sec = s.sec := rfl
@[simp] theorem setHost_pending (x : MasterSt) : (s.setHost x).pending = s.pending := rfl
@[simp] theorem setHost_regs (x : MasterSt) : (s.setHost x).regs = s.regs := rfl
@[simp] theorem setHost_host (x : MasterSt) : (s.setHost x).host = x := rfl
@[simp] theorem setHost_shepM (x : MasterSt) : (s.setHost x).shepM = s.shepM := rfl
@[simp] theorem setHost_reply (x : MasterSt) : (s.setHost x).reply = s.reply := rfl
@[simp] theorem setHost_free (x : MasterSt) : (s.setHost x).free = s.free := rfl
@[simp] theorem setHost_tb (x : MasterSt) : (s.setHost x).tb = s.tb := rfl
@[simp] theorem setHost_cmd (x : MasterSt) : (s.setHost x).cmd = s.cmd := rfl
@[simp] theorem setHost_pcie (x : MasterSt) : (s.setHost x).pcie = s.pcie := rfl
@[simp] theorem setHost_drov (x : MasterSt) : (s.setHost x).drov = s.drov := rfl
@[simp] theorem setHost_log (x : MasterSt) : (s.setHost x).log = s.log := rfl
@[simp] theorem setHost_mem (x : MasterSt) : (s.setHost x).mem = s.mem := rfl
@[simp] theorem setHost_eq (x : MasterSt) : (s.setHost x).eq = s.eq := rfl
@[simp] theorem setHost_deck (x : MasterSt) : (s.setHost x).deck = s.deck := rfl
@[simp] theorem setHost_ingest (x : MasterSt) : (s.setHost x).ingest = s.ingest := rfl
@[simp] theorem setHost_recog (x : MasterSt) : (s.setHost x).recog = s.recog := rfl
@[simp] theorem setHost_flock (x : MasterSt) : (s.setHost x).flock = s.flock := rfl
@[simp] theorem setHost_hands (x : MasterSt) : (s.setHost x).hands = s.hands := rfl
@[simp] theorem setHost_trig (x : MasterSt) : (s.setHost x).trig = s.trig := rfl
@[simp] theorem setHost_folds (x : MasterSt) : (s.setHost x).folds = s.folds := rfl
@[simp] theorem setHost_comp (x : MasterSt) : (s.setHost x).comp = s.comp := rfl
@[simp] theorem setHost_pgen (x : MasterSt) : (s.setHost x).pgen = s.pgen := rfl
@[simp] theorem setHost_checkers (x : MasterSt) : (s.setHost x).checkers = s.checkers := rfl
@[simp] theorem setHost_tins (x : MasterSt) : (s.setHost x).tins = s.tins := rfl
@[simp] theorem setHost_dac (x : MasterSt) : (s.setHost x).dac = s.dac := rfl
@[simp] theorem setHost_link (x : MasterSt) : (s.setHost x).link = s.link := rfl
@[simp] theorem setHost_pwr (x : MasterSt) : (s.setHost x).pwr = s.pwr := rfl
@[simp] theorem setHost_shep (x : MasterSt) : (s.setHost x).shep = s.shep := rfl
@[simp] theorem setHost_sec (x : MasterSt) : (s.setHost x).sec = s.sec := rfl
theorem modHost_def (f : MasterSt → MasterSt) : s.modHost f = s.setHost (f s.host) := rfl
@[simp] theorem modHost_pending (f : MasterSt → MasterSt) : (s.modHost f).pending = s.pending := rfl
@[simp] theorem modHost_regs (f : MasterSt → MasterSt) : (s.modHost f).regs = s.regs := rfl
@[simp] theorem modHost_host (f : MasterSt → MasterSt) : (s.modHost f).host = f s.host := rfl
@[simp] theorem modHost_shepM (f : MasterSt → MasterSt) : (s.modHost f).shepM = s.shepM := rfl
@[simp] theorem modHost_reply (f : MasterSt → MasterSt) : (s.modHost f).reply = s.reply := rfl
@[simp] theorem modHost_free (f : MasterSt → MasterSt) : (s.modHost f).free = s.free := rfl
@[simp] theorem modHost_tb (f : MasterSt → MasterSt) : (s.modHost f).tb = s.tb := rfl
@[simp] theorem modHost_cmd (f : MasterSt → MasterSt) : (s.modHost f).cmd = s.cmd := rfl
@[simp] theorem modHost_pcie (f : MasterSt → MasterSt) : (s.modHost f).pcie = s.pcie := rfl
@[simp] theorem modHost_drov (f : MasterSt → MasterSt) : (s.modHost f).drov = s.drov := rfl
@[simp] theorem modHost_log (f : MasterSt → MasterSt) : (s.modHost f).log = s.log := rfl
@[simp] theorem modHost_mem (f : MasterSt → MasterSt) : (s.modHost f).mem = s.mem := rfl
@[simp] theorem modHost_eq (f : MasterSt → MasterSt) : (s.modHost f).eq = s.eq := rfl
@[simp] theorem modHost_deck (f : MasterSt → MasterSt) : (s.modHost f).deck = s.deck := rfl
@[simp] theorem modHost_ingest (f : MasterSt → MasterSt) : (s.modHost f).ingest = s.ingest := rfl
@[simp] theorem modHost_recog (f : MasterSt → MasterSt) : (s.modHost f).recog = s.recog := rfl
@[simp] theorem modHost_flock (f : MasterSt → MasterSt) : (s.modHost f).flock = s.flock := rfl
@[simp] theorem modHost_hands (f : MasterSt → MasterSt) : (s.modHost f).hands = s.hands := rfl
@[simp] theorem modHost_trig (f : MasterSt → MasterSt) : (s.modHost f).trig = s.trig := rfl
@[simp] theorem modHost_folds (f : MasterSt → MasterSt) : (s.modHost f).folds = s.folds := rfl
@[simp] theorem modHost_comp (f : MasterSt → MasterSt) : (s.modHost f).comp = s.comp := rfl
@[simp] theorem modHost_pgen (f : MasterSt → MasterSt) : (s.modHost f).pgen = s.pgen := rfl
@[simp] theorem modHost_checkers (f : MasterSt → MasterSt) : (s.modHost f).checkers = s.checkers := rfl
@[simp] theorem modHost_tins (f : MasterSt → MasterSt) : (s.modHost f).tins = s.tins := rfl
@[simp] theorem modHost_dac (f : MasterSt → MasterSt) : (s.modHost f).dac = s.dac := rfl
@[simp] theorem modHost_link (f : MasterSt → MasterSt) : (s.modHost f).link = s.link := rfl
@[simp] theorem modHost_pwr (f : MasterSt → MasterSt) : (s.modHost f).pwr = s.pwr := rfl
@[simp] theorem modHost_shep (f : MasterSt → MasterSt) : (s.modHost f).shep = s.shep := rfl
@[simp] theorem modHost_sec (f : MasterSt → MasterSt) : (s.modHost f).sec = s.sec := rfl
@[simp] theorem setShepM_pending (x : MasterSt) : (s.setShepM x).pending = s.pending := rfl
@[simp] theorem setShepM_regs (x : MasterSt) : (s.setShepM x).regs = s.regs := rfl
@[simp] theorem setShepM_host (x : MasterSt) : (s.setShepM x).host = s.host := rfl
@[simp] theorem setShepM_shepM (x : MasterSt) : (s.setShepM x).shepM = x := rfl
@[simp] theorem setShepM_reply (x : MasterSt) : (s.setShepM x).reply = s.reply := rfl
@[simp] theorem setShepM_free (x : MasterSt) : (s.setShepM x).free = s.free := rfl
@[simp] theorem setShepM_tb (x : MasterSt) : (s.setShepM x).tb = s.tb := rfl
@[simp] theorem setShepM_cmd (x : MasterSt) : (s.setShepM x).cmd = s.cmd := rfl
@[simp] theorem setShepM_pcie (x : MasterSt) : (s.setShepM x).pcie = s.pcie := rfl
@[simp] theorem setShepM_drov (x : MasterSt) : (s.setShepM x).drov = s.drov := rfl
@[simp] theorem setShepM_log (x : MasterSt) : (s.setShepM x).log = s.log := rfl
@[simp] theorem setShepM_mem (x : MasterSt) : (s.setShepM x).mem = s.mem := rfl
@[simp] theorem setShepM_eq (x : MasterSt) : (s.setShepM x).eq = s.eq := rfl
@[simp] theorem setShepM_deck (x : MasterSt) : (s.setShepM x).deck = s.deck := rfl
@[simp] theorem setShepM_ingest (x : MasterSt) : (s.setShepM x).ingest = s.ingest := rfl
@[simp] theorem setShepM_recog (x : MasterSt) : (s.setShepM x).recog = s.recog := rfl
@[simp] theorem setShepM_flock (x : MasterSt) : (s.setShepM x).flock = s.flock := rfl
@[simp] theorem setShepM_hands (x : MasterSt) : (s.setShepM x).hands = s.hands := rfl
@[simp] theorem setShepM_trig (x : MasterSt) : (s.setShepM x).trig = s.trig := rfl
@[simp] theorem setShepM_folds (x : MasterSt) : (s.setShepM x).folds = s.folds := rfl
@[simp] theorem setShepM_comp (x : MasterSt) : (s.setShepM x).comp = s.comp := rfl
@[simp] theorem setShepM_pgen (x : MasterSt) : (s.setShepM x).pgen = s.pgen := rfl
@[simp] theorem setShepM_checkers (x : MasterSt) : (s.setShepM x).checkers = s.checkers := rfl
@[simp] theorem setShepM_tins (x : MasterSt) : (s.setShepM x).tins = s.tins := rfl
@[simp] theorem setShepM_dac (x : MasterSt) : (s.setShepM x).dac = s.dac := rfl
@[simp] theorem setShepM_link (x : MasterSt) : (s.setShepM x).link = s.link := rfl
@[simp] theorem setShepM_pwr (x : MasterSt) : (s.setShepM x).pwr = s.pwr := rfl
@[simp] theorem setShepM_shep (x : MasterSt) : (s.setShepM x).shep = s.shep := rfl
@[simp] theorem setShepM_sec (x : MasterSt) : (s.setShepM x).sec = s.sec := rfl
theorem modShepM_def (f : MasterSt → MasterSt) : s.modShepM f = s.setShepM (f s.shepM) := rfl
@[simp] theorem modShepM_pending (f : MasterSt → MasterSt) : (s.modShepM f).pending = s.pending := rfl
@[simp] theorem modShepM_regs (f : MasterSt → MasterSt) : (s.modShepM f).regs = s.regs := rfl
@[simp] theorem modShepM_host (f : MasterSt → MasterSt) : (s.modShepM f).host = s.host := rfl
@[simp] theorem modShepM_shepM (f : MasterSt → MasterSt) : (s.modShepM f).shepM = f s.shepM := rfl
@[simp] theorem modShepM_reply (f : MasterSt → MasterSt) : (s.modShepM f).reply = s.reply := rfl
@[simp] theorem modShepM_free (f : MasterSt → MasterSt) : (s.modShepM f).free = s.free := rfl
@[simp] theorem modShepM_tb (f : MasterSt → MasterSt) : (s.modShepM f).tb = s.tb := rfl
@[simp] theorem modShepM_cmd (f : MasterSt → MasterSt) : (s.modShepM f).cmd = s.cmd := rfl
@[simp] theorem modShepM_pcie (f : MasterSt → MasterSt) : (s.modShepM f).pcie = s.pcie := rfl
@[simp] theorem modShepM_drov (f : MasterSt → MasterSt) : (s.modShepM f).drov = s.drov := rfl
@[simp] theorem modShepM_log (f : MasterSt → MasterSt) : (s.modShepM f).log = s.log := rfl
@[simp] theorem modShepM_mem (f : MasterSt → MasterSt) : (s.modShepM f).mem = s.mem := rfl
@[simp] theorem modShepM_eq (f : MasterSt → MasterSt) : (s.modShepM f).eq = s.eq := rfl
@[simp] theorem modShepM_deck (f : MasterSt → MasterSt) : (s.modShepM f).deck = s.deck := rfl
@[simp] theorem modShepM_ingest (f : MasterSt → MasterSt) : (s.modShepM f).ingest = s.ingest := rfl
@[simp] theorem modShepM_recog (f : MasterSt → MasterSt) : (s.modShepM f).recog = s.recog := rfl
@[simp] theorem modShepM_flock (f : MasterSt → MasterSt) : (s.modShepM f).flock = s.flock := rfl
@[simp] theorem modShepM_hands (f : MasterSt → MasterSt) : (s.modShepM f).hands = s.hands := rfl
@[simp] theorem modShepM_trig (f : MasterSt → MasterSt) : (s.modShepM f).trig = s.trig := rfl
@[simp] theorem modShepM_folds (f : MasterSt → MasterSt) : (s.modShepM f).folds = s.folds := rfl
@[simp] theorem modShepM_comp (f : MasterSt → MasterSt) : (s.modShepM f).comp = s.comp := rfl
@[simp] theorem modShepM_pgen (f : MasterSt → MasterSt) : (s.modShepM f).pgen = s.pgen := rfl
@[simp] theorem modShepM_checkers (f : MasterSt → MasterSt) : (s.modShepM f).checkers = s.checkers := rfl
@[simp] theorem modShepM_tins (f : MasterSt → MasterSt) : (s.modShepM f).tins = s.tins := rfl
@[simp] theorem modShepM_dac (f : MasterSt → MasterSt) : (s.modShepM f).dac = s.dac := rfl
@[simp] theorem modShepM_link (f : MasterSt → MasterSt) : (s.modShepM f).link = s.link := rfl
@[simp] theorem modShepM_pwr (f : MasterSt → MasterSt) : (s.modShepM f).pwr = s.pwr := rfl
@[simp] theorem modShepM_shep (f : MasterSt → MasterSt) : (s.modShepM f).shep = s.shep := rfl
@[simp] theorem modShepM_sec (f : MasterSt → MasterSt) : (s.modShepM f).sec = s.sec := rfl
@[simp] theorem setReply_pending (x : Reply) : (s.setReply x).pending = s.pending := rfl
@[simp] theorem setReply_regs (x : Reply) : (s.setReply x).regs = s.regs := rfl
@[simp] theorem setReply_host (x : Reply) : (s.setReply x).host = s.host := rfl
@[simp] theorem setReply_shepM (x : Reply) : (s.setReply x).shepM = s.shepM := rfl
@[simp] theorem setReply_reply (x : Reply) : (s.setReply x).reply = x := rfl
@[simp] theorem setReply_free (x : Reply) : (s.setReply x).free = s.free := rfl
@[simp] theorem setReply_tb (x : Reply) : (s.setReply x).tb = s.tb := rfl
@[simp] theorem setReply_cmd (x : Reply) : (s.setReply x).cmd = s.cmd := rfl
@[simp] theorem setReply_pcie (x : Reply) : (s.setReply x).pcie = s.pcie := rfl
@[simp] theorem setReply_drov (x : Reply) : (s.setReply x).drov = s.drov := rfl
@[simp] theorem setReply_log (x : Reply) : (s.setReply x).log = s.log := rfl
@[simp] theorem setReply_mem (x : Reply) : (s.setReply x).mem = s.mem := rfl
@[simp] theorem setReply_eq (x : Reply) : (s.setReply x).eq = s.eq := rfl
@[simp] theorem setReply_deck (x : Reply) : (s.setReply x).deck = s.deck := rfl
@[simp] theorem setReply_ingest (x : Reply) : (s.setReply x).ingest = s.ingest := rfl
@[simp] theorem setReply_recog (x : Reply) : (s.setReply x).recog = s.recog := rfl
@[simp] theorem setReply_flock (x : Reply) : (s.setReply x).flock = s.flock := rfl
@[simp] theorem setReply_hands (x : Reply) : (s.setReply x).hands = s.hands := rfl
@[simp] theorem setReply_trig (x : Reply) : (s.setReply x).trig = s.trig := rfl
@[simp] theorem setReply_folds (x : Reply) : (s.setReply x).folds = s.folds := rfl
@[simp] theorem setReply_comp (x : Reply) : (s.setReply x).comp = s.comp := rfl
@[simp] theorem setReply_pgen (x : Reply) : (s.setReply x).pgen = s.pgen := rfl
@[simp] theorem setReply_checkers (x : Reply) : (s.setReply x).checkers = s.checkers := rfl
@[simp] theorem setReply_tins (x : Reply) : (s.setReply x).tins = s.tins := rfl
@[simp] theorem setReply_dac (x : Reply) : (s.setReply x).dac = s.dac := rfl
@[simp] theorem setReply_link (x : Reply) : (s.setReply x).link = s.link := rfl
@[simp] theorem setReply_pwr (x : Reply) : (s.setReply x).pwr = s.pwr := rfl
@[simp] theorem setReply_shep (x : Reply) : (s.setReply x).shep = s.shep := rfl
@[simp] theorem setReply_sec (x : Reply) : (s.setReply x).sec = s.sec := rfl
@[simp] theorem setFree_pending (x : Nat) : (s.setFree x).pending = s.pending := rfl
@[simp] theorem setFree_regs (x : Nat) : (s.setFree x).regs = s.regs := rfl
@[simp] theorem setFree_host (x : Nat) : (s.setFree x).host = s.host := rfl
@[simp] theorem setFree_shepM (x : Nat) : (s.setFree x).shepM = s.shepM := rfl
@[simp] theorem setFree_reply (x : Nat) : (s.setFree x).reply = s.reply := rfl
@[simp] theorem setFree_free (x : Nat) : (s.setFree x).free = x := rfl
@[simp] theorem setFree_tb (x : Nat) : (s.setFree x).tb = s.tb := rfl
@[simp] theorem setFree_cmd (x : Nat) : (s.setFree x).cmd = s.cmd := rfl
@[simp] theorem setFree_pcie (x : Nat) : (s.setFree x).pcie = s.pcie := rfl
@[simp] theorem setFree_drov (x : Nat) : (s.setFree x).drov = s.drov := rfl
@[simp] theorem setFree_log (x : Nat) : (s.setFree x).log = s.log := rfl
@[simp] theorem setFree_mem (x : Nat) : (s.setFree x).mem = s.mem := rfl
@[simp] theorem setFree_eq (x : Nat) : (s.setFree x).eq = s.eq := rfl
@[simp] theorem setFree_deck (x : Nat) : (s.setFree x).deck = s.deck := rfl
@[simp] theorem setFree_ingest (x : Nat) : (s.setFree x).ingest = s.ingest := rfl
@[simp] theorem setFree_recog (x : Nat) : (s.setFree x).recog = s.recog := rfl
@[simp] theorem setFree_flock (x : Nat) : (s.setFree x).flock = s.flock := rfl
@[simp] theorem setFree_hands (x : Nat) : (s.setFree x).hands = s.hands := rfl
@[simp] theorem setFree_trig (x : Nat) : (s.setFree x).trig = s.trig := rfl
@[simp] theorem setFree_folds (x : Nat) : (s.setFree x).folds = s.folds := rfl
@[simp] theorem setFree_comp (x : Nat) : (s.setFree x).comp = s.comp := rfl
@[simp] theorem setFree_pgen (x : Nat) : (s.setFree x).pgen = s.pgen := rfl
@[simp] theorem setFree_checkers (x : Nat) : (s.setFree x).checkers = s.checkers := rfl
@[simp] theorem setFree_tins (x : Nat) : (s.setFree x).tins = s.tins := rfl
@[simp] theorem setFree_dac (x : Nat) : (s.setFree x).dac = s.dac := rfl
@[simp] theorem setFree_link (x : Nat) : (s.setFree x).link = s.link := rfl
@[simp] theorem setFree_pwr (x : Nat) : (s.setFree x).pwr = s.pwr := rfl
@[simp] theorem setFree_shep (x : Nat) : (s.setFree x).shep = s.shep := rfl
@[simp] theorem setFree_sec (x : Nat) : (s.setFree x).sec = s.sec := rfl
@[simp] theorem setTb_pending (x : TimeSt) : (s.setTb x).pending = s.pending := rfl
@[simp] theorem setTb_regs (x : TimeSt) : (s.setTb x).regs = s.regs := rfl
@[simp] theorem setTb_host (x : TimeSt) : (s.setTb x).host = s.host := rfl
@[simp] theorem setTb_shepM (x : TimeSt) : (s.setTb x).shepM = s.shepM := rfl
@[simp] theorem setTb_reply (x : TimeSt) : (s.setTb x).reply = s.reply := rfl
@[simp] theorem setTb_free (x : TimeSt) : (s.setTb x).free = s.free := rfl
@[simp] theorem setTb_tb (x : TimeSt) : (s.setTb x).tb = x := rfl
@[simp] theorem setTb_cmd (x : TimeSt) : (s.setTb x).cmd = s.cmd := rfl
@[simp] theorem setTb_pcie (x : TimeSt) : (s.setTb x).pcie = s.pcie := rfl
@[simp] theorem setTb_drov (x : TimeSt) : (s.setTb x).drov = s.drov := rfl
@[simp] theorem setTb_log (x : TimeSt) : (s.setTb x).log = s.log := rfl
@[simp] theorem setTb_mem (x : TimeSt) : (s.setTb x).mem = s.mem := rfl
@[simp] theorem setTb_eq (x : TimeSt) : (s.setTb x).eq = s.eq := rfl
@[simp] theorem setTb_deck (x : TimeSt) : (s.setTb x).deck = s.deck := rfl
@[simp] theorem setTb_ingest (x : TimeSt) : (s.setTb x).ingest = s.ingest := rfl
@[simp] theorem setTb_recog (x : TimeSt) : (s.setTb x).recog = s.recog := rfl
@[simp] theorem setTb_flock (x : TimeSt) : (s.setTb x).flock = s.flock := rfl
@[simp] theorem setTb_hands (x : TimeSt) : (s.setTb x).hands = s.hands := rfl
@[simp] theorem setTb_trig (x : TimeSt) : (s.setTb x).trig = s.trig := rfl
@[simp] theorem setTb_folds (x : TimeSt) : (s.setTb x).folds = s.folds := rfl
@[simp] theorem setTb_comp (x : TimeSt) : (s.setTb x).comp = s.comp := rfl
@[simp] theorem setTb_pgen (x : TimeSt) : (s.setTb x).pgen = s.pgen := rfl
@[simp] theorem setTb_checkers (x : TimeSt) : (s.setTb x).checkers = s.checkers := rfl
@[simp] theorem setTb_tins (x : TimeSt) : (s.setTb x).tins = s.tins := rfl
@[simp] theorem setTb_dac (x : TimeSt) : (s.setTb x).dac = s.dac := rfl
@[simp] theorem setTb_link (x : TimeSt) : (s.setTb x).link = s.link := rfl
@[simp] theorem setTb_pwr (x : TimeSt) : (s.setTb x).pwr = s.pwr := rfl
@[simp] theorem setTb_shep (x : TimeSt) : (s.setTb x).shep = s.shep := rfl
@[simp] theorem setTb_sec (x : TimeSt) : (s.setTb x).sec = s.sec := rfl
theorem modTb_def (f : TimeSt → TimeSt) : s.modTb f = s.setTb (f s.tb) := rfl
@[simp] theorem modTb_pending (f : TimeSt → TimeSt) : (s.modTb f).pending = s.pending := rfl
@[simp] theorem modTb_regs (f : TimeSt → TimeSt) : (s.modTb f).regs = s.regs := rfl
@[simp] theorem modTb_host (f : TimeSt → TimeSt) : (s.modTb f).host = s.host := rfl
@[simp] theorem modTb_shepM (f : TimeSt → TimeSt) : (s.modTb f).shepM = s.shepM := rfl
@[simp] theorem modTb_reply (f : TimeSt → TimeSt) : (s.modTb f).reply = s.reply := rfl
@[simp] theorem modTb_free (f : TimeSt → TimeSt) : (s.modTb f).free = s.free := rfl
@[simp] theorem modTb_tb (f : TimeSt → TimeSt) : (s.modTb f).tb = f s.tb := rfl
@[simp] theorem modTb_cmd (f : TimeSt → TimeSt) : (s.modTb f).cmd = s.cmd := rfl
@[simp] theorem modTb_pcie (f : TimeSt → TimeSt) : (s.modTb f).pcie = s.pcie := rfl
@[simp] theorem modTb_drov (f : TimeSt → TimeSt) : (s.modTb f).drov = s.drov := rfl
@[simp] theorem modTb_log (f : TimeSt → TimeSt) : (s.modTb f).log = s.log := rfl
@[simp] theorem modTb_mem (f : TimeSt → TimeSt) : (s.modTb f).mem = s.mem := rfl
@[simp] theorem modTb_eq (f : TimeSt → TimeSt) : (s.modTb f).eq = s.eq := rfl
@[simp] theorem modTb_deck (f : TimeSt → TimeSt) : (s.modTb f).deck = s.deck := rfl
@[simp] theorem modTb_ingest (f : TimeSt → TimeSt) : (s.modTb f).ingest = s.ingest := rfl
@[simp] theorem modTb_recog (f : TimeSt → TimeSt) : (s.modTb f).recog = s.recog := rfl
@[simp] theorem modTb_flock (f : TimeSt → TimeSt) : (s.modTb f).flock = s.flock := rfl
@[simp] theorem modTb_hands (f : TimeSt → TimeSt) : (s.modTb f).hands = s.hands := rfl
@[simp] theorem modTb_trig (f : TimeSt → TimeSt) : (s.modTb f).trig = s.trig := rfl
@[simp] theorem modTb_folds (f : TimeSt → TimeSt) : (s.modTb f).folds = s.folds := rfl
@[simp] theorem modTb_comp (f : TimeSt → TimeSt) : (s.modTb f).comp = s.comp := rfl
@[simp] theorem modTb_pgen (f : TimeSt → TimeSt) : (s.modTb f).pgen = s.pgen := rfl
@[simp] theorem modTb_checkers (f : TimeSt → TimeSt) : (s.modTb f).checkers = s.checkers := rfl
@[simp] theorem modTb_tins (f : TimeSt → TimeSt) : (s.modTb f).tins = s.tins := rfl
@[simp] theorem modTb_dac (f : TimeSt → TimeSt) : (s.modTb f).dac = s.dac := rfl
@[simp] theorem modTb_link (f : TimeSt → TimeSt) : (s.modTb f).link = s.link := rfl
@[simp] theorem modTb_pwr (f : TimeSt → TimeSt) : (s.modTb f).pwr = s.pwr := rfl
@[simp] theorem modTb_shep (f : TimeSt → TimeSt) : (s.modTb f).shep = s.shep := rfl
@[simp] theorem modTb_sec (f : TimeSt → TimeSt) : (s.modTb f).sec = s.sec := rfl
@[simp] theorem setCmd_pending (x : CmdSt) : (s.setCmd x).pending = s.pending := rfl
@[simp] theorem setCmd_regs (x : CmdSt) : (s.setCmd x).regs = s.regs := rfl
@[simp] theorem setCmd_host (x : CmdSt) : (s.setCmd x).host = s.host := rfl
@[simp] theorem setCmd_shepM (x : CmdSt) : (s.setCmd x).shepM = s.shepM := rfl
@[simp] theorem setCmd_reply (x : CmdSt) : (s.setCmd x).reply = s.reply := rfl
@[simp] theorem setCmd_free (x : CmdSt) : (s.setCmd x).free = s.free := rfl
@[simp] theorem setCmd_tb (x : CmdSt) : (s.setCmd x).tb = s.tb := rfl
@[simp] theorem setCmd_cmd (x : CmdSt) : (s.setCmd x).cmd = x := rfl
@[simp] theorem setCmd_pcie (x : CmdSt) : (s.setCmd x).pcie = s.pcie := rfl
@[simp] theorem setCmd_drov (x : CmdSt) : (s.setCmd x).drov = s.drov := rfl
@[simp] theorem setCmd_log (x : CmdSt) : (s.setCmd x).log = s.log := rfl
@[simp] theorem setCmd_mem (x : CmdSt) : (s.setCmd x).mem = s.mem := rfl
@[simp] theorem setCmd_eq (x : CmdSt) : (s.setCmd x).eq = s.eq := rfl
@[simp] theorem setCmd_deck (x : CmdSt) : (s.setCmd x).deck = s.deck := rfl
@[simp] theorem setCmd_ingest (x : CmdSt) : (s.setCmd x).ingest = s.ingest := rfl
@[simp] theorem setCmd_recog (x : CmdSt) : (s.setCmd x).recog = s.recog := rfl
@[simp] theorem setCmd_flock (x : CmdSt) : (s.setCmd x).flock = s.flock := rfl
@[simp] theorem setCmd_hands (x : CmdSt) : (s.setCmd x).hands = s.hands := rfl
@[simp] theorem setCmd_trig (x : CmdSt) : (s.setCmd x).trig = s.trig := rfl
@[simp] theorem setCmd_folds (x : CmdSt) : (s.setCmd x).folds = s.folds := rfl
@[simp] theorem setCmd_comp (x : CmdSt) : (s.setCmd x).comp = s.comp := rfl
@[simp] theorem setCmd_pgen (x : CmdSt) : (s.setCmd x).pgen = s.pgen := rfl
@[simp] theorem setCmd_checkers (x : CmdSt) : (s.setCmd x).checkers = s.checkers := rfl
@[simp] theorem setCmd_tins (x : CmdSt) : (s.setCmd x).tins = s.tins := rfl
@[simp] theorem setCmd_dac (x : CmdSt) : (s.setCmd x).dac = s.dac := rfl
@[simp] theorem setCmd_link (x : CmdSt) : (s.setCmd x).link = s.link := rfl
@[simp] theorem setCmd_pwr (x : CmdSt) : (s.setCmd x).pwr = s.pwr := rfl
@[simp] theorem setCmd_shep (x : CmdSt) : (s.setCmd x).shep = s.shep := rfl
@[simp] theorem setCmd_sec (x : CmdSt) : (s.setCmd x).sec = s.sec := rfl
theorem modCmd_def (f : CmdSt → CmdSt) : s.modCmd f = s.setCmd (f s.cmd) := rfl
@[simp] theorem modCmd_pending (f : CmdSt → CmdSt) : (s.modCmd f).pending = s.pending := rfl
@[simp] theorem modCmd_regs (f : CmdSt → CmdSt) : (s.modCmd f).regs = s.regs := rfl
@[simp] theorem modCmd_host (f : CmdSt → CmdSt) : (s.modCmd f).host = s.host := rfl
@[simp] theorem modCmd_shepM (f : CmdSt → CmdSt) : (s.modCmd f).shepM = s.shepM := rfl
@[simp] theorem modCmd_reply (f : CmdSt → CmdSt) : (s.modCmd f).reply = s.reply := rfl
@[simp] theorem modCmd_free (f : CmdSt → CmdSt) : (s.modCmd f).free = s.free := rfl
@[simp] theorem modCmd_tb (f : CmdSt → CmdSt) : (s.modCmd f).tb = s.tb := rfl
@[simp] theorem modCmd_cmd (f : CmdSt → CmdSt) : (s.modCmd f).cmd = f s.cmd := rfl
@[simp] theorem modCmd_pcie (f : CmdSt → CmdSt) : (s.modCmd f).pcie = s.pcie := rfl
@[simp] theorem modCmd_drov (f : CmdSt → CmdSt) : (s.modCmd f).drov = s.drov := rfl
@[simp] theorem modCmd_log (f : CmdSt → CmdSt) : (s.modCmd f).log = s.log := rfl
@[simp] theorem modCmd_mem (f : CmdSt → CmdSt) : (s.modCmd f).mem = s.mem := rfl
@[simp] theorem modCmd_eq (f : CmdSt → CmdSt) : (s.modCmd f).eq = s.eq := rfl
@[simp] theorem modCmd_deck (f : CmdSt → CmdSt) : (s.modCmd f).deck = s.deck := rfl
@[simp] theorem modCmd_ingest (f : CmdSt → CmdSt) : (s.modCmd f).ingest = s.ingest := rfl
@[simp] theorem modCmd_recog (f : CmdSt → CmdSt) : (s.modCmd f).recog = s.recog := rfl
@[simp] theorem modCmd_flock (f : CmdSt → CmdSt) : (s.modCmd f).flock = s.flock := rfl
@[simp] theorem modCmd_hands (f : CmdSt → CmdSt) : (s.modCmd f).hands = s.hands := rfl
@[simp] theorem modCmd_trig (f : CmdSt → CmdSt) : (s.modCmd f).trig = s.trig := rfl
@[simp] theorem modCmd_folds (f : CmdSt → CmdSt) : (s.modCmd f).folds = s.folds := rfl
@[simp] theorem modCmd_comp (f : CmdSt → CmdSt) : (s.modCmd f).comp = s.comp := rfl
@[simp] theorem modCmd_pgen (f : CmdSt → CmdSt) : (s.modCmd f).pgen = s.pgen := rfl
@[simp] theorem modCmd_checkers (f : CmdSt → CmdSt) : (s.modCmd f).checkers = s.checkers := rfl
@[simp] theorem modCmd_tins (f : CmdSt → CmdSt) : (s.modCmd f).tins = s.tins := rfl
@[simp] theorem modCmd_dac (f : CmdSt → CmdSt) : (s.modCmd f).dac = s.dac := rfl
@[simp] theorem modCmd_link (f : CmdSt → CmdSt) : (s.modCmd f).link = s.link := rfl
@[simp] theorem modCmd_pwr (f : CmdSt → CmdSt) : (s.modCmd f).pwr = s.pwr := rfl
@[simp] theorem modCmd_shep (f : CmdSt → CmdSt) : (s.modCmd f).shep = s.shep := rfl
@[simp] theorem modCmd_sec (f : CmdSt → CmdSt) : (s.modCmd f).sec = s.sec := rfl
@[simp] theorem setPcie_pending (x : PcieSt) : (s.setPcie x).pending = s.pending := rfl
@[simp] theorem setPcie_regs (x : PcieSt) : (s.setPcie x).regs = s.regs := rfl
@[simp] theorem setPcie_host (x : PcieSt) : (s.setPcie x).host = s.host := rfl
@[simp] theorem setPcie_shepM (x : PcieSt) : (s.setPcie x).shepM = s.shepM := rfl
@[simp] theorem setPcie_reply (x : PcieSt) : (s.setPcie x).reply = s.reply := rfl
@[simp] theorem setPcie_free (x : PcieSt) : (s.setPcie x).free = s.free := rfl
@[simp] theorem setPcie_tb (x : PcieSt) : (s.setPcie x).tb = s.tb := rfl
@[simp] theorem setPcie_cmd (x : PcieSt) : (s.setPcie x).cmd = s.cmd := rfl
@[simp] theorem setPcie_pcie (x : PcieSt) : (s.setPcie x).pcie = x := rfl
@[simp] theorem setPcie_drov (x : PcieSt) : (s.setPcie x).drov = s.drov := rfl
@[simp] theorem setPcie_log (x : PcieSt) : (s.setPcie x).log = s.log := rfl
@[simp] theorem setPcie_mem (x : PcieSt) : (s.setPcie x).mem = s.mem := rfl
@[simp] theorem setPcie_eq (x : PcieSt) : (s.setPcie x).eq = s.eq := rfl
@[simp] theorem setPcie_deck (x : PcieSt) : (s.setPcie x).deck = s.deck := rfl
@[simp] theorem setPcie_ingest (x : PcieSt) : (s.setPcie x).ingest = s.ingest := rfl
@[simp] theorem setPcie_recog (x : PcieSt) : (s.setPcie x).recog = s.recog := rfl
@[simp] theorem setPcie_flock (x : PcieSt) : (s.setPcie x).flock = s.flock := rfl
@[simp] theorem setPcie_hands (x : PcieSt) : (s.setPcie x).hands = s.hands := rfl
@[simp] theorem setPcie_trig (x : PcieSt) : (s.setPcie x).trig = s.trig := rfl
@[simp] theorem setPcie_folds (x : PcieSt) : (s.setPcie x).folds = s.folds := rfl
@[simp] theorem setPcie_comp (x : PcieSt) : (s.setPcie x).comp = s.comp := rfl
@[simp] theorem setPcie_pgen (x : PcieSt) : (s.setPcie x).pgen = s.pgen := rfl
@[simp] theorem setPcie_checkers (x : PcieSt) : (s.setPcie x).checkers = s.checkers := rfl
@[simp] theorem setPcie_tins (x : PcieSt) : (s.setPcie x).tins = s.tins := rfl
@[simp] theorem setPcie_dac (x : PcieSt) : (s.setPcie x).dac = s.dac := rfl
@[simp] theorem setPcie_link (x : PcieSt) : (s.setPcie x).link = s.link := rfl
@[simp] theorem setPcie_pwr (x : PcieSt) : (s.setPcie x).pwr = s.pwr := rfl
@[simp] theorem setPcie_shep (x : PcieSt) : (s.setPcie x).shep = s.shep := rfl
@[simp] theorem setPcie_sec (x : PcieSt) : (s.setPcie x).sec = s.sec := rfl
theorem modPcie_def (f : PcieSt → PcieSt) : s.modPcie f = s.setPcie (f s.pcie) := rfl
@[simp] theorem modPcie_pending (f : PcieSt → PcieSt) : (s.modPcie f).pending = s.pending := rfl
@[simp] theorem modPcie_regs (f : PcieSt → PcieSt) : (s.modPcie f).regs = s.regs := rfl
@[simp] theorem modPcie_host (f : PcieSt → PcieSt) : (s.modPcie f).host = s.host := rfl
@[simp] theorem modPcie_shepM (f : PcieSt → PcieSt) : (s.modPcie f).shepM = s.shepM := rfl
@[simp] theorem modPcie_reply (f : PcieSt → PcieSt) : (s.modPcie f).reply = s.reply := rfl
@[simp] theorem modPcie_free (f : PcieSt → PcieSt) : (s.modPcie f).free = s.free := rfl
@[simp] theorem modPcie_tb (f : PcieSt → PcieSt) : (s.modPcie f).tb = s.tb := rfl
@[simp] theorem modPcie_cmd (f : PcieSt → PcieSt) : (s.modPcie f).cmd = s.cmd := rfl
@[simp] theorem modPcie_pcie (f : PcieSt → PcieSt) : (s.modPcie f).pcie = f s.pcie := rfl
@[simp] theorem modPcie_drov (f : PcieSt → PcieSt) : (s.modPcie f).drov = s.drov := rfl
@[simp] theorem modPcie_log (f : PcieSt → PcieSt) : (s.modPcie f).log = s.log := rfl
@[simp] theorem modPcie_mem (f : PcieSt → PcieSt) : (s.modPcie f).mem = s.mem := rfl
@[simp] theorem modPcie_eq (f : PcieSt → PcieSt) : (s.modPcie f).eq = s.eq := rfl
@[simp] theorem modPcie_deck (f : PcieSt → PcieSt) : (s.modPcie f).deck = s.deck := rfl
@[simp] theorem modPcie_ingest (f : PcieSt → PcieSt) : (s.modPcie f).ingest = s.ingest := rfl
@[simp] theorem modPcie_recog (f : PcieSt → PcieSt) : (s.modPcie f).recog = s.recog := rfl
@[simp] theorem modPcie_flock (f : PcieSt → PcieSt) : (s.modPcie f).flock = s.flock := rfl
@[simp] theorem modPcie_hands (f : PcieSt → PcieSt) : (s.modPcie f).hands = s.hands := rfl
@[simp] theorem modPcie_trig (f : PcieSt → PcieSt) : (s.modPcie f).trig = s.trig := rfl
@[simp] theorem modPcie_folds (f : PcieSt → PcieSt) : (s.modPcie f).folds = s.folds := rfl
@[simp] theorem modPcie_comp (f : PcieSt → PcieSt) : (s.modPcie f).comp = s.comp := rfl
@[simp] theorem modPcie_pgen (f : PcieSt → PcieSt) : (s.modPcie f).pgen = s.pgen := rfl
@[simp] theorem modPcie_checkers (f : PcieSt → PcieSt) : (s.modPcie f).checkers = s.checkers := rfl
@[simp] theorem modPcie_tins (f : PcieSt → PcieSt) : (s.modPcie f).tins = s.tins := rfl
@[simp] theorem modPcie_dac (f : PcieSt → PcieSt) : (s.modPcie f).dac = s.dac := rfl
@[simp] theorem modPcie_link (f : PcieSt → PcieSt) : (s.modPcie f).link = s.link := rfl
@[simp] theorem modPcie_pwr (f : PcieSt → PcieSt) : (s.modPcie f).pwr = s.pwr := rfl
@[simp] theorem modPcie_shep (f : PcieSt → PcieSt) : (s.modPcie f).shep = s.shep := rfl
@[simp] theorem modPcie_sec (f : PcieSt → PcieSt) : (s.modPcie f).sec = s.sec := rfl
@[simp] theorem setDrov_pending (x : DrovSt) : (s.setDrov x).pending = s.pending := rfl
@[simp] theorem setDrov_regs (x : DrovSt) : (s.setDrov x).regs = s.regs := rfl
@[simp] theorem setDrov_host (x : DrovSt) : (s.setDrov x).host = s.host := rfl
@[simp] theorem setDrov_shepM (x : DrovSt) : (s.setDrov x).shepM = s.shepM := rfl
@[simp] theorem setDrov_reply (x : DrovSt) : (s.setDrov x).reply = s.reply := rfl
@[simp] theorem setDrov_free (x : DrovSt) : (s.setDrov x).free = s.free := rfl
@[simp] theorem setDrov_tb (x : DrovSt) : (s.setDrov x).tb = s.tb := rfl
@[simp] theorem setDrov_cmd (x : DrovSt) : (s.setDrov x).cmd = s.cmd := rfl
@[simp] theorem setDrov_pcie (x : DrovSt) : (s.setDrov x).pcie = s.pcie := rfl
@[simp] theorem setDrov_drov (x : DrovSt) : (s.setDrov x).drov = x := rfl
@[simp] theorem setDrov_log (x : DrovSt) : (s.setDrov x).log = s.log := rfl
@[simp] theorem setDrov_mem (x : DrovSt) : (s.setDrov x).mem = s.mem := rfl
@[simp] theorem setDrov_eq (x : DrovSt) : (s.setDrov x).eq = s.eq := rfl
@[simp] theorem setDrov_deck (x : DrovSt) : (s.setDrov x).deck = s.deck := rfl
@[simp] theorem setDrov_ingest (x : DrovSt) : (s.setDrov x).ingest = s.ingest := rfl
@[simp] theorem setDrov_recog (x : DrovSt) : (s.setDrov x).recog = s.recog := rfl
@[simp] theorem setDrov_flock (x : DrovSt) : (s.setDrov x).flock = s.flock := rfl
@[simp] theorem setDrov_hands (x : DrovSt) : (s.setDrov x).hands = s.hands := rfl
@[simp] theorem setDrov_trig (x : DrovSt) : (s.setDrov x).trig = s.trig := rfl
@[simp] theorem setDrov_folds (x : DrovSt) : (s.setDrov x).folds = s.folds := rfl
@[simp] theorem setDrov_comp (x : DrovSt) : (s.setDrov x).comp = s.comp := rfl
@[simp] theorem setDrov_pgen (x : DrovSt) : (s.setDrov x).pgen = s.pgen := rfl
@[simp] theorem setDrov_checkers (x : DrovSt) : (s.setDrov x).checkers = s.checkers := rfl
@[simp] theorem setDrov_tins (x : DrovSt) : (s.setDrov x).tins = s.tins := rfl
@[simp] theorem setDrov_dac (x : DrovSt) : (s.setDrov x).dac = s.dac := rfl
@[simp] theorem setDrov_link (x : DrovSt) : (s.setDrov x).link = s.link := rfl
@[simp] theorem setDrov_pwr (x : DrovSt) : (s.setDrov x).pwr = s.pwr := rfl
@[simp] theorem setDrov_shep (x : DrovSt) : (s.setDrov x).shep = s.shep := rfl
@[simp] theorem setDrov_sec (x : DrovSt) : (s.setDrov x).sec = s.sec := rfl
theorem modDrov_def (f : DrovSt → DrovSt) : s.modDrov f = s.setDrov (f s.drov) := rfl
@[simp] theorem modDrov_pending (f : DrovSt → DrovSt) : (s.modDrov f).pending = s.pending := rfl
@[simp] theorem modDrov_regs (f : DrovSt → DrovSt) : (s.modDrov f).regs = s.regs := rfl
@[simp] theorem modDrov_host (f : DrovSt → DrovSt) : (s.modDrov f).host = s.host := rfl
@[simp] theorem modDrov_shepM (f : DrovSt → DrovSt) : (s.modDrov f).shepM = s.shepM := rfl
@[simp] theorem modDrov_reply (f : DrovSt → DrovSt) : (s.modDrov f).reply = s.reply := rfl
@[simp] theorem modDrov_free (f : DrovSt → DrovSt) : (s.modDrov f).free = s.free := rfl
@[simp] theorem modDrov_tb (f : DrovSt → DrovSt) : (s.modDrov f).tb = s.tb := rfl
@[simp] theorem modDrov_cmd (f : DrovSt → DrovSt) : (s.modDrov f).cmd = s.cmd := rfl
@[simp] theorem modDrov_pcie (f : DrovSt → DrovSt) : (s.modDrov f).pcie = s.pcie := rfl
@[simp] theorem modDrov_drov (f : DrovSt → DrovSt) : (s.modDrov f).drov = f s.drov := rfl
@[simp] theorem modDrov_log (f : DrovSt → DrovSt) : (s.modDrov f).log = s.log := rfl
@[simp] theorem modDrov_mem (f : DrovSt → DrovSt) : (s.modDrov f).mem = s.mem := rfl
@[simp] theorem modDrov_eq (f : DrovSt → DrovSt) : (s.modDrov f).eq = s.eq := rfl
@[simp] theorem modDrov_deck (f : DrovSt → DrovSt) : (s.modDrov f).deck = s.deck := rfl
@[simp] theorem modDrov_ingest (f : DrovSt → DrovSt) : (s.modDrov f).ingest = s.ingest := rfl
@[simp] theorem modDrov_recog (f : DrovSt → DrovSt) : (s.modDrov f).recog = s.recog := rfl
@[simp] theorem modDrov_flock (f : DrovSt → DrovSt) : (s.modDrov f).flock = s.flock := rfl
@[simp] theorem modDrov_hands (f : DrovSt → DrovSt) : (s.modDrov f).hands = s.hands := rfl
@[simp] theorem modDrov_trig (f : DrovSt → DrovSt) : (s.modDrov f).trig = s.trig := rfl
@[simp] theorem modDrov_folds (f : DrovSt → DrovSt) : (s.modDrov f).folds = s.folds := rfl
@[simp] theorem modDrov_comp (f : DrovSt → DrovSt) : (s.modDrov f).comp = s.comp := rfl
@[simp] theorem modDrov_pgen (f : DrovSt → DrovSt) : (s.modDrov f).pgen = s.pgen := rfl
@[simp] theorem modDrov_checkers (f : DrovSt → DrovSt) : (s.modDrov f).checkers = s.checkers := rfl
@[simp] theorem modDrov_tins (f : DrovSt → DrovSt) : (s.modDrov f).tins = s.tins := rfl
@[simp] theorem modDrov_dac (f : DrovSt → DrovSt) : (s.modDrov f).dac = s.dac := rfl
@[simp] theorem modDrov_link (f : DrovSt → DrovSt) : (s.modDrov f).link = s.link := rfl
@[simp] theorem modDrov_pwr (f : DrovSt → DrovSt) : (s.modDrov f).pwr = s.pwr := rfl
@[simp] theorem modDrov_shep (f : DrovSt → DrovSt) : (s.modDrov f).shep = s.shep := rfl
@[simp] theorem modDrov_sec (f : DrovSt → DrovSt) : (s.modDrov f).sec = s.sec := rfl
@[simp] theorem setLog_pending (x : LogSt) : (s.setLog x).pending = s.pending := rfl
@[simp] theorem setLog_regs (x : LogSt) : (s.setLog x).regs = s.regs := rfl
@[simp] theorem setLog_host (x : LogSt) : (s.setLog x).host = s.host := rfl
@[simp] theorem setLog_shepM (x : LogSt) : (s.setLog x).shepM = s.shepM := rfl
@[simp] theorem setLog_reply (x : LogSt) : (s.setLog x).reply = s.reply := rfl
@[simp] theorem setLog_free (x : LogSt) : (s.setLog x).free = s.free := rfl
@[simp] theorem setLog_tb (x : LogSt) : (s.setLog x).tb = s.tb := rfl
@[simp] theorem setLog_cmd (x : LogSt) : (s.setLog x).cmd = s.cmd := rfl
@[simp] theorem setLog_pcie (x : LogSt) : (s.setLog x).pcie = s.pcie := rfl
@[simp] theorem setLog_drov (x : LogSt) : (s.setLog x).drov = s.drov := rfl
@[simp] theorem setLog_log (x : LogSt) : (s.setLog x).log = x := rfl
@[simp] theorem setLog_mem (x : LogSt) : (s.setLog x).mem = s.mem := rfl
@[simp] theorem setLog_eq (x : LogSt) : (s.setLog x).eq = s.eq := rfl
@[simp] theorem setLog_deck (x : LogSt) : (s.setLog x).deck = s.deck := rfl
@[simp] theorem setLog_ingest (x : LogSt) : (s.setLog x).ingest = s.ingest := rfl
@[simp] theorem setLog_recog (x : LogSt) : (s.setLog x).recog = s.recog := rfl
@[simp] theorem setLog_flock (x : LogSt) : (s.setLog x).flock = s.flock := rfl
@[simp] theorem setLog_hands (x : LogSt) : (s.setLog x).hands = s.hands := rfl
@[simp] theorem setLog_trig (x : LogSt) : (s.setLog x).trig = s.trig := rfl
@[simp] theorem setLog_folds (x : LogSt) : (s.setLog x).folds = s.folds := rfl
@[simp] theorem setLog_comp (x : LogSt) : (s.setLog x).comp = s.comp := rfl
@[simp] theorem setLog_pgen (x : LogSt) : (s.setLog x).pgen = s.pgen := rfl
@[simp] theorem setLog_checkers (x : LogSt) : (s.setLog x).checkers = s.checkers := rfl
@[simp] theorem setLog_tins (x : LogSt) : (s.setLog x).tins = s.tins := rfl
@[simp] theorem setLog_dac (x : LogSt) : (s.setLog x).dac = s.dac := rfl
@[simp] theorem setLog_link (x : LogSt) : (s.setLog x).link = s.link := rfl
@[simp] theorem setLog_pwr (x : LogSt) : (s.setLog x).pwr = s.pwr := rfl
@[simp] theorem setLog_shep (x : LogSt) : (s.setLog x).shep = s.shep := rfl
@[simp] theorem setLog_sec (x : LogSt) : (s.setLog x).sec = s.sec := rfl
theorem modLog_def (f : LogSt → LogSt) : s.modLog f = s.setLog (f s.log) := rfl
@[simp] theorem modLog_pending (f : LogSt → LogSt) : (s.modLog f).pending = s.pending := rfl
@[simp] theorem modLog_regs (f : LogSt → LogSt) : (s.modLog f).regs = s.regs := rfl
@[simp] theorem modLog_host (f : LogSt → LogSt) : (s.modLog f).host = s.host := rfl
@[simp] theorem modLog_shepM (f : LogSt → LogSt) : (s.modLog f).shepM = s.shepM := rfl
@[simp] theorem modLog_reply (f : LogSt → LogSt) : (s.modLog f).reply = s.reply := rfl
@[simp] theorem modLog_free (f : LogSt → LogSt) : (s.modLog f).free = s.free := rfl
@[simp] theorem modLog_tb (f : LogSt → LogSt) : (s.modLog f).tb = s.tb := rfl
@[simp] theorem modLog_cmd (f : LogSt → LogSt) : (s.modLog f).cmd = s.cmd := rfl
@[simp] theorem modLog_pcie (f : LogSt → LogSt) : (s.modLog f).pcie = s.pcie := rfl
@[simp] theorem modLog_drov (f : LogSt → LogSt) : (s.modLog f).drov = s.drov := rfl
@[simp] theorem modLog_log (f : LogSt → LogSt) : (s.modLog f).log = f s.log := rfl
@[simp] theorem modLog_mem (f : LogSt → LogSt) : (s.modLog f).mem = s.mem := rfl
@[simp] theorem modLog_eq (f : LogSt → LogSt) : (s.modLog f).eq = s.eq := rfl
@[simp] theorem modLog_deck (f : LogSt → LogSt) : (s.modLog f).deck = s.deck := rfl
@[simp] theorem modLog_ingest (f : LogSt → LogSt) : (s.modLog f).ingest = s.ingest := rfl
@[simp] theorem modLog_recog (f : LogSt → LogSt) : (s.modLog f).recog = s.recog := rfl
@[simp] theorem modLog_flock (f : LogSt → LogSt) : (s.modLog f).flock = s.flock := rfl
@[simp] theorem modLog_hands (f : LogSt → LogSt) : (s.modLog f).hands = s.hands := rfl
@[simp] theorem modLog_trig (f : LogSt → LogSt) : (s.modLog f).trig = s.trig := rfl
@[simp] theorem modLog_folds (f : LogSt → LogSt) : (s.modLog f).folds = s.folds := rfl
@[simp] theorem modLog_comp (f : LogSt → LogSt) : (s.modLog f).comp = s.comp := rfl
@[simp] theorem modLog_pgen (f : LogSt → LogSt) : (s.modLog f).pgen = s.pgen := rfl
@[simp] theorem modLog_checkers (f : LogSt → LogSt) : (s.modLog f).checkers = s.checkers := rfl
@[simp] theorem modLog_tins (f : LogSt → LogSt) : (s.modLog f).tins = s.tins := rfl
@[simp] theorem modLog_dac (f : LogSt → LogSt) : (s.modLog f).dac = s.dac := rfl
@[simp] theorem modLog_link (f : LogSt → LogSt) : (s.modLog f).link = s.link := rfl
@[simp] theorem modLog_pwr (f : LogSt → LogSt) : (s.modLog f).pwr = s.pwr := rfl
@[simp] theorem modLog_shep (f : LogSt → LogSt) : (s.modLog f).shep = s.shep := rfl
@[simp] theorem modLog_sec (f : LogSt → LogSt) : (s.modLog f).sec = s.sec := rfl
@[simp] theorem setMem_pending (x : MemSt) : (s.setMem x).pending = s.pending := rfl
@[simp] theorem setMem_regs (x : MemSt) : (s.setMem x).regs = s.regs := rfl
@[simp] theorem setMem_host (x : MemSt) : (s.setMem x).host = s.host := rfl
@[simp] theorem setMem_shepM (x : MemSt) : (s.setMem x).shepM = s.shepM := rfl
@[simp] theorem setMem_reply (x : MemSt) : (s.setMem x).reply = s.reply := rfl
@[simp] theorem setMem_free (x : MemSt) : (s.setMem x).free = s.free := rfl
@[simp] theorem setMem_tb (x : MemSt) : (s.setMem x).tb = s.tb := rfl
@[simp] theorem setMem_cmd (x : MemSt) : (s.setMem x).cmd = s.cmd := rfl
@[simp] theorem setMem_pcie (x : MemSt) : (s.setMem x).pcie = s.pcie := rfl
@[simp] theorem setMem_drov (x : MemSt) : (s.setMem x).drov = s.drov := rfl
@[simp] theorem setMem_log (x : MemSt) : (s.setMem x).log = s.log := rfl
@[simp] theorem setMem_mem (x : MemSt) : (s.setMem x).mem = x := rfl
@[simp] theorem setMem_eq (x : MemSt) : (s.setMem x).eq = s.eq := rfl
@[simp] theorem setMem_deck (x : MemSt) : (s.setMem x).deck = s.deck := rfl
@[simp] theorem setMem_ingest (x : MemSt) : (s.setMem x).ingest = s.ingest := rfl
@[simp] theorem setMem_recog (x : MemSt) : (s.setMem x).recog = s.recog := rfl
@[simp] theorem setMem_flock (x : MemSt) : (s.setMem x).flock = s.flock := rfl
@[simp] theorem setMem_hands (x : MemSt) : (s.setMem x).hands = s.hands := rfl
@[simp] theorem setMem_trig (x : MemSt) : (s.setMem x).trig = s.trig := rfl
@[simp] theorem setMem_folds (x : MemSt) : (s.setMem x).folds = s.folds := rfl
@[simp] theorem setMem_comp (x : MemSt) : (s.setMem x).comp = s.comp := rfl
@[simp] theorem setMem_pgen (x : MemSt) : (s.setMem x).pgen = s.pgen := rfl
@[simp] theorem setMem_checkers (x : MemSt) : (s.setMem x).checkers = s.checkers := rfl
@[simp] theorem setMem_tins (x : MemSt) : (s.setMem x).tins = s.tins := rfl
@[simp] theorem setMem_dac (x : MemSt) : (s.setMem x).dac = s.dac := rfl
@[simp] theorem setMem_link (x : MemSt) : (s.setMem x).link = s.link := rfl
@[simp] theorem setMem_pwr (x : MemSt) : (s.setMem x).pwr = s.pwr := rfl
@[simp] theorem setMem_shep (x : MemSt) : (s.setMem x).shep = s.shep := rfl
@[simp] theorem setMem_sec (x : MemSt) : (s.setMem x).sec = s.sec := rfl
theorem modMem_def (f : MemSt → MemSt) : s.modMem f = s.setMem (f s.mem) := rfl
@[simp] theorem modMem_pending (f : MemSt → MemSt) : (s.modMem f).pending = s.pending := rfl
@[simp] theorem modMem_regs (f : MemSt → MemSt) : (s.modMem f).regs = s.regs := rfl
@[simp] theorem modMem_host (f : MemSt → MemSt) : (s.modMem f).host = s.host := rfl
@[simp] theorem modMem_shepM (f : MemSt → MemSt) : (s.modMem f).shepM = s.shepM := rfl
@[simp] theorem modMem_reply (f : MemSt → MemSt) : (s.modMem f).reply = s.reply := rfl
@[simp] theorem modMem_free (f : MemSt → MemSt) : (s.modMem f).free = s.free := rfl
@[simp] theorem modMem_tb (f : MemSt → MemSt) : (s.modMem f).tb = s.tb := rfl
@[simp] theorem modMem_cmd (f : MemSt → MemSt) : (s.modMem f).cmd = s.cmd := rfl
@[simp] theorem modMem_pcie (f : MemSt → MemSt) : (s.modMem f).pcie = s.pcie := rfl
@[simp] theorem modMem_drov (f : MemSt → MemSt) : (s.modMem f).drov = s.drov := rfl
@[simp] theorem modMem_log (f : MemSt → MemSt) : (s.modMem f).log = s.log := rfl
@[simp] theorem modMem_mem (f : MemSt → MemSt) : (s.modMem f).mem = f s.mem := rfl
@[simp] theorem modMem_eq (f : MemSt → MemSt) : (s.modMem f).eq = s.eq := rfl
@[simp] theorem modMem_deck (f : MemSt → MemSt) : (s.modMem f).deck = s.deck := rfl
@[simp] theorem modMem_ingest (f : MemSt → MemSt) : (s.modMem f).ingest = s.ingest := rfl
@[simp] theorem modMem_recog (f : MemSt → MemSt) : (s.modMem f).recog = s.recog := rfl
@[simp] theorem modMem_flock (f : MemSt → MemSt) : (s.modMem f).flock = s.flock := rfl
@[simp] theorem modMem_hands (f : MemSt → MemSt) : (s.modMem f).hands = s.hands := rfl
@[simp] theorem modMem_trig (f : MemSt → MemSt) : (s.modMem f).trig = s.trig := rfl
@[simp] theorem modMem_folds (f : MemSt → MemSt) : (s.modMem f).folds = s.folds := rfl
@[simp] theorem modMem_comp (f : MemSt → MemSt) : (s.modMem f).comp = s.comp := rfl
@[simp] theorem modMem_pgen (f : MemSt → MemSt) : (s.modMem f).pgen = s.pgen := rfl
@[simp] theorem modMem_checkers (f : MemSt → MemSt) : (s.modMem f).checkers = s.checkers := rfl
@[simp] theorem modMem_tins (f : MemSt → MemSt) : (s.modMem f).tins = s.tins := rfl
@[simp] theorem modMem_dac (f : MemSt → MemSt) : (s.modMem f).dac = s.dac := rfl
@[simp] theorem modMem_link (f : MemSt → MemSt) : (s.modMem f).link = s.link := rfl
@[simp] theorem modMem_pwr (f : MemSt → MemSt) : (s.modMem f).pwr = s.pwr := rfl
@[simp] theorem modMem_shep (f : MemSt → MemSt) : (s.modMem f).shep = s.shep := rfl
@[simp] theorem modMem_sec (f : MemSt → MemSt) : (s.modMem f).sec = s.sec := rfl
@[simp] theorem setEq_pending (x : Tab EqSt) : (s.setEq x).pending = s.pending := rfl
@[simp] theorem setEq_regs (x : Tab EqSt) : (s.setEq x).regs = s.regs := rfl
@[simp] theorem setEq_host (x : Tab EqSt) : (s.setEq x).host = s.host := rfl
@[simp] theorem setEq_shepM (x : Tab EqSt) : (s.setEq x).shepM = s.shepM := rfl
@[simp] theorem setEq_reply (x : Tab EqSt) : (s.setEq x).reply = s.reply := rfl
@[simp] theorem setEq_free (x : Tab EqSt) : (s.setEq x).free = s.free := rfl
@[simp] theorem setEq_tb (x : Tab EqSt) : (s.setEq x).tb = s.tb := rfl
@[simp] theorem setEq_cmd (x : Tab EqSt) : (s.setEq x).cmd = s.cmd := rfl
@[simp] theorem setEq_pcie (x : Tab EqSt) : (s.setEq x).pcie = s.pcie := rfl
@[simp] theorem setEq_drov (x : Tab EqSt) : (s.setEq x).drov = s.drov := rfl
@[simp] theorem setEq_log (x : Tab EqSt) : (s.setEq x).log = s.log := rfl
@[simp] theorem setEq_mem (x : Tab EqSt) : (s.setEq x).mem = s.mem := rfl
@[simp] theorem setEq_eq (x : Tab EqSt) : (s.setEq x).eq = x := rfl
@[simp] theorem setEq_deck (x : Tab EqSt) : (s.setEq x).deck = s.deck := rfl
@[simp] theorem setEq_ingest (x : Tab EqSt) : (s.setEq x).ingest = s.ingest := rfl
@[simp] theorem setEq_recog (x : Tab EqSt) : (s.setEq x).recog = s.recog := rfl
@[simp] theorem setEq_flock (x : Tab EqSt) : (s.setEq x).flock = s.flock := rfl
@[simp] theorem setEq_hands (x : Tab EqSt) : (s.setEq x).hands = s.hands := rfl
@[simp] theorem setEq_trig (x : Tab EqSt) : (s.setEq x).trig = s.trig := rfl
@[simp] theorem setEq_folds (x : Tab EqSt) : (s.setEq x).folds = s.folds := rfl
@[simp] theorem setEq_comp (x : Tab EqSt) : (s.setEq x).comp = s.comp := rfl
@[simp] theorem setEq_pgen (x : Tab EqSt) : (s.setEq x).pgen = s.pgen := rfl
@[simp] theorem setEq_checkers (x : Tab EqSt) : (s.setEq x).checkers = s.checkers := rfl
@[simp] theorem setEq_tins (x : Tab EqSt) : (s.setEq x).tins = s.tins := rfl
@[simp] theorem setEq_dac (x : Tab EqSt) : (s.setEq x).dac = s.dac := rfl
@[simp] theorem setEq_link (x : Tab EqSt) : (s.setEq x).link = s.link := rfl
@[simp] theorem setEq_pwr (x : Tab EqSt) : (s.setEq x).pwr = s.pwr := rfl
@[simp] theorem setEq_shep (x : Tab EqSt) : (s.setEq x).shep = s.shep := rfl
@[simp] theorem setEq_sec (x : Tab EqSt) : (s.setEq x).sec = s.sec := rfl
theorem modEq_def (f : Tab EqSt → Tab EqSt) : s.modEq f = s.setEq (f s.eq) := rfl
@[simp] theorem modEq_pending (f : Tab EqSt → Tab EqSt) : (s.modEq f).pending = s.pending := rfl
@[simp] theorem modEq_regs (f : Tab EqSt → Tab EqSt) : (s.modEq f).regs = s.regs := rfl
@[simp] theorem modEq_host (f : Tab EqSt → Tab EqSt) : (s.modEq f).host = s.host := rfl
@[simp] theorem modEq_shepM (f : Tab EqSt → Tab EqSt) : (s.modEq f).shepM = s.shepM := rfl
@[simp] theorem modEq_reply (f : Tab EqSt → Tab EqSt) : (s.modEq f).reply = s.reply := rfl
@[simp] theorem modEq_free (f : Tab EqSt → Tab EqSt) : (s.modEq f).free = s.free := rfl
@[simp] theorem modEq_tb (f : Tab EqSt → Tab EqSt) : (s.modEq f).tb = s.tb := rfl
@[simp] theorem modEq_cmd (f : Tab EqSt → Tab EqSt) : (s.modEq f).cmd = s.cmd := rfl
@[simp] theorem modEq_pcie (f : Tab EqSt → Tab EqSt) : (s.modEq f).pcie = s.pcie := rfl
@[simp] theorem modEq_drov (f : Tab EqSt → Tab EqSt) : (s.modEq f).drov = s.drov := rfl
@[simp] theorem modEq_log (f : Tab EqSt → Tab EqSt) : (s.modEq f).log = s.log := rfl
@[simp] theorem modEq_mem (f : Tab EqSt → Tab EqSt) : (s.modEq f).mem = s.mem := rfl
@[simp] theorem modEq_eq (f : Tab EqSt → Tab EqSt) : (s.modEq f).eq = f s.eq := rfl
@[simp] theorem modEq_deck (f : Tab EqSt → Tab EqSt) : (s.modEq f).deck = s.deck := rfl
@[simp] theorem modEq_ingest (f : Tab EqSt → Tab EqSt) : (s.modEq f).ingest = s.ingest := rfl
@[simp] theorem modEq_recog (f : Tab EqSt → Tab EqSt) : (s.modEq f).recog = s.recog := rfl
@[simp] theorem modEq_flock (f : Tab EqSt → Tab EqSt) : (s.modEq f).flock = s.flock := rfl
@[simp] theorem modEq_hands (f : Tab EqSt → Tab EqSt) : (s.modEq f).hands = s.hands := rfl
@[simp] theorem modEq_trig (f : Tab EqSt → Tab EqSt) : (s.modEq f).trig = s.trig := rfl
@[simp] theorem modEq_folds (f : Tab EqSt → Tab EqSt) : (s.modEq f).folds = s.folds := rfl
@[simp] theorem modEq_comp (f : Tab EqSt → Tab EqSt) : (s.modEq f).comp = s.comp := rfl
@[simp] theorem modEq_pgen (f : Tab EqSt → Tab EqSt) : (s.modEq f).pgen = s.pgen := rfl
@[simp] theorem modEq_checkers (f : Tab EqSt → Tab EqSt) : (s.modEq f).checkers = s.checkers := rfl
@[simp] theorem modEq_tins (f : Tab EqSt → Tab EqSt) : (s.modEq f).tins = s.tins := rfl
@[simp] theorem modEq_dac (f : Tab EqSt → Tab EqSt) : (s.modEq f).dac = s.dac := rfl
@[simp] theorem modEq_link (f : Tab EqSt → Tab EqSt) : (s.modEq f).link = s.link := rfl
@[simp] theorem modEq_pwr (f : Tab EqSt → Tab EqSt) : (s.modEq f).pwr = s.pwr := rfl
@[simp] theorem modEq_shep (f : Tab EqSt → Tab EqSt) : (s.modEq f).shep = s.shep := rfl
@[simp] theorem modEq_sec (f : Tab EqSt → Tab EqSt) : (s.modEq f).sec = s.sec := rfl
@[simp] theorem setDeck_pending (x : DeckSt) : (s.setDeck x).pending = s.pending := rfl
@[simp] theorem setDeck_regs (x : DeckSt) : (s.setDeck x).regs = s.regs := rfl
@[simp] theorem setDeck_host (x : DeckSt) : (s.setDeck x).host = s.host := rfl
@[simp] theorem setDeck_shepM (x : DeckSt) : (s.setDeck x).shepM = s.shepM := rfl
@[simp] theorem setDeck_reply (x : DeckSt) : (s.setDeck x).reply = s.reply := rfl
@[simp] theorem setDeck_free (x : DeckSt) : (s.setDeck x).free = s.free := rfl
@[simp] theorem setDeck_tb (x : DeckSt) : (s.setDeck x).tb = s.tb := rfl
@[simp] theorem setDeck_cmd (x : DeckSt) : (s.setDeck x).cmd = s.cmd := rfl
@[simp] theorem setDeck_pcie (x : DeckSt) : (s.setDeck x).pcie = s.pcie := rfl
@[simp] theorem setDeck_drov (x : DeckSt) : (s.setDeck x).drov = s.drov := rfl
@[simp] theorem setDeck_log (x : DeckSt) : (s.setDeck x).log = s.log := rfl
@[simp] theorem setDeck_mem (x : DeckSt) : (s.setDeck x).mem = s.mem := rfl
@[simp] theorem setDeck_eq (x : DeckSt) : (s.setDeck x).eq = s.eq := rfl
@[simp] theorem setDeck_deck (x : DeckSt) : (s.setDeck x).deck = x := rfl
@[simp] theorem setDeck_ingest (x : DeckSt) : (s.setDeck x).ingest = s.ingest := rfl
@[simp] theorem setDeck_recog (x : DeckSt) : (s.setDeck x).recog = s.recog := rfl
@[simp] theorem setDeck_flock (x : DeckSt) : (s.setDeck x).flock = s.flock := rfl
@[simp] theorem setDeck_hands (x : DeckSt) : (s.setDeck x).hands = s.hands := rfl
@[simp] theorem setDeck_trig (x : DeckSt) : (s.setDeck x).trig = s.trig := rfl
@[simp] theorem setDeck_folds (x : DeckSt) : (s.setDeck x).folds = s.folds := rfl
@[simp] theorem setDeck_comp (x : DeckSt) : (s.setDeck x).comp = s.comp := rfl
@[simp] theorem setDeck_pgen (x : DeckSt) : (s.setDeck x).pgen = s.pgen := rfl
@[simp] theorem setDeck_checkers (x : DeckSt) : (s.setDeck x).checkers = s.checkers := rfl
@[simp] theorem setDeck_tins (x : DeckSt) : (s.setDeck x).tins = s.tins := rfl
@[simp] theorem setDeck_dac (x : DeckSt) : (s.setDeck x).dac = s.dac := rfl
@[simp] theorem setDeck_link (x : DeckSt) : (s.setDeck x).link = s.link := rfl
@[simp] theorem setDeck_pwr (x : DeckSt) : (s.setDeck x).pwr = s.pwr := rfl
@[simp] theorem setDeck_shep (x : DeckSt) : (s.setDeck x).shep = s.shep := rfl
@[simp] theorem setDeck_sec (x : DeckSt) : (s.setDeck x).sec = s.sec := rfl
theorem modDeck_def (f : DeckSt → DeckSt) : s.modDeck f = s.setDeck (f s.deck) := rfl
@[simp] theorem modDeck_pending (f : DeckSt → DeckSt) : (s.modDeck f).pending = s.pending := rfl
@[simp] theorem modDeck_regs (f : DeckSt → DeckSt) : (s.modDeck f).regs = s.regs := rfl
@[simp] theorem modDeck_host (f : DeckSt → DeckSt) : (s.modDeck f).host = s.host := rfl
@[simp] theorem modDeck_shepM (f : DeckSt → DeckSt) : (s.modDeck f).shepM = s.shepM := rfl
@[simp] theorem modDeck_reply (f : DeckSt → DeckSt) : (s.modDeck f).reply = s.reply := rfl
@[simp] theorem modDeck_free (f : DeckSt → DeckSt) : (s.modDeck f).free = s.free := rfl
@[simp] theorem modDeck_tb (f : DeckSt → DeckSt) : (s.modDeck f).tb = s.tb := rfl
@[simp] theorem modDeck_cmd (f : DeckSt → DeckSt) : (s.modDeck f).cmd = s.cmd := rfl
@[simp] theorem modDeck_pcie (f : DeckSt → DeckSt) : (s.modDeck f).pcie = s.pcie := rfl
@[simp] theorem modDeck_drov (f : DeckSt → DeckSt) : (s.modDeck f).drov = s.drov := rfl
@[simp] theorem modDeck_log (f : DeckSt → DeckSt) : (s.modDeck f).log = s.log := rfl
@[simp] theorem modDeck_mem (f : DeckSt → DeckSt) : (s.modDeck f).mem = s.mem := rfl
@[simp] theorem modDeck_eq (f : DeckSt → DeckSt) : (s.modDeck f).eq = s.eq := rfl
@[simp] theorem modDeck_deck (f : DeckSt → DeckSt) : (s.modDeck f).deck = f s.deck := rfl
@[simp] theorem modDeck_ingest (f : DeckSt → DeckSt) : (s.modDeck f).ingest = s.ingest := rfl
@[simp] theorem modDeck_recog (f : DeckSt → DeckSt) : (s.modDeck f).recog = s.recog := rfl
@[simp] theorem modDeck_flock (f : DeckSt → DeckSt) : (s.modDeck f).flock = s.flock := rfl
@[simp] theorem modDeck_hands (f : DeckSt → DeckSt) : (s.modDeck f).hands = s.hands := rfl
@[simp] theorem modDeck_trig (f : DeckSt → DeckSt) : (s.modDeck f).trig = s.trig := rfl
@[simp] theorem modDeck_folds (f : DeckSt → DeckSt) : (s.modDeck f).folds = s.folds := rfl
@[simp] theorem modDeck_comp (f : DeckSt → DeckSt) : (s.modDeck f).comp = s.comp := rfl
@[simp] theorem modDeck_pgen (f : DeckSt → DeckSt) : (s.modDeck f).pgen = s.pgen := rfl
@[simp] theorem modDeck_checkers (f : DeckSt → DeckSt) : (s.modDeck f).checkers = s.checkers := rfl
@[simp] theorem modDeck_tins (f : DeckSt → DeckSt) : (s.modDeck f).tins = s.tins := rfl
@[simp] theorem modDeck_dac (f : DeckSt → DeckSt) : (s.modDeck f).dac = s.dac := rfl
@[simp] theorem modDeck_link (f : DeckSt → DeckSt) : (s.modDeck f).link = s.link := rfl
@[simp] theorem modDeck_pwr (f : DeckSt → DeckSt) : (s.modDeck f).pwr = s.pwr := rfl
@[simp] theorem modDeck_shep (f : DeckSt → DeckSt) : (s.modDeck f).shep = s.shep := rfl
@[simp] theorem modDeck_sec (f : DeckSt → DeckSt) : (s.modDeck f).sec = s.sec := rfl
@[simp] theorem setIngest_pending (x : IngestSt) : (s.setIngest x).pending = s.pending := rfl
@[simp] theorem setIngest_regs (x : IngestSt) : (s.setIngest x).regs = s.regs := rfl
@[simp] theorem setIngest_host (x : IngestSt) : (s.setIngest x).host = s.host := rfl
@[simp] theorem setIngest_shepM (x : IngestSt) : (s.setIngest x).shepM = s.shepM := rfl
@[simp] theorem setIngest_reply (x : IngestSt) : (s.setIngest x).reply = s.reply := rfl
@[simp] theorem setIngest_free (x : IngestSt) : (s.setIngest x).free = s.free := rfl
@[simp] theorem setIngest_tb (x : IngestSt) : (s.setIngest x).tb = s.tb := rfl
@[simp] theorem setIngest_cmd (x : IngestSt) : (s.setIngest x).cmd = s.cmd := rfl
@[simp] theorem setIngest_pcie (x : IngestSt) : (s.setIngest x).pcie = s.pcie := rfl
@[simp] theorem setIngest_drov (x : IngestSt) : (s.setIngest x).drov = s.drov := rfl
@[simp] theorem setIngest_log (x : IngestSt) : (s.setIngest x).log = s.log := rfl
@[simp] theorem setIngest_mem (x : IngestSt) : (s.setIngest x).mem = s.mem := rfl
@[simp] theorem setIngest_eq (x : IngestSt) : (s.setIngest x).eq = s.eq := rfl
@[simp] theorem setIngest_deck (x : IngestSt) : (s.setIngest x).deck = s.deck := rfl
@[simp] theorem setIngest_ingest (x : IngestSt) : (s.setIngest x).ingest = x := rfl
@[simp] theorem setIngest_recog (x : IngestSt) : (s.setIngest x).recog = s.recog := rfl
@[simp] theorem setIngest_flock (x : IngestSt) : (s.setIngest x).flock = s.flock := rfl
@[simp] theorem setIngest_hands (x : IngestSt) : (s.setIngest x).hands = s.hands := rfl
@[simp] theorem setIngest_trig (x : IngestSt) : (s.setIngest x).trig = s.trig := rfl
@[simp] theorem setIngest_folds (x : IngestSt) : (s.setIngest x).folds = s.folds := rfl
@[simp] theorem setIngest_comp (x : IngestSt) : (s.setIngest x).comp = s.comp := rfl
@[simp] theorem setIngest_pgen (x : IngestSt) : (s.setIngest x).pgen = s.pgen := rfl
@[simp] theorem setIngest_checkers (x : IngestSt) : (s.setIngest x).checkers = s.checkers := rfl
@[simp] theorem setIngest_tins (x : IngestSt) : (s.setIngest x).tins = s.tins := rfl
@[simp] theorem setIngest_dac (x : IngestSt) : (s.setIngest x).dac = s.dac := rfl
@[simp] theorem setIngest_link (x : IngestSt) : (s.setIngest x).link = s.link := rfl
@[simp] theorem setIngest_pwr (x : IngestSt) : (s.setIngest x).pwr = s.pwr := rfl
@[simp] theorem setIngest_shep (x : IngestSt) : (s.setIngest x).shep = s.shep := rfl
@[simp] theorem setIngest_sec (x : IngestSt) : (s.setIngest x).sec = s.sec := rfl
theorem modIngest_def (f : IngestSt → IngestSt) : s.modIngest f = s.setIngest (f s.ingest) := rfl
@[simp] theorem modIngest_pending (f : IngestSt → IngestSt) : (s.modIngest f).pending = s.pending := rfl
@[simp] theorem modIngest_regs (f : IngestSt → IngestSt) : (s.modIngest f).regs = s.regs := rfl
@[simp] theorem modIngest_host (f : IngestSt → IngestSt) : (s.modIngest f).host = s.host := rfl
@[simp] theorem modIngest_shepM (f : IngestSt → IngestSt) : (s.modIngest f).shepM = s.shepM := rfl
@[simp] theorem modIngest_reply (f : IngestSt → IngestSt) : (s.modIngest f).reply = s.reply := rfl
@[simp] theorem modIngest_free (f : IngestSt → IngestSt) : (s.modIngest f).free = s.free := rfl
@[simp] theorem modIngest_tb (f : IngestSt → IngestSt) : (s.modIngest f).tb = s.tb := rfl
@[simp] theorem modIngest_cmd (f : IngestSt → IngestSt) : (s.modIngest f).cmd = s.cmd := rfl
@[simp] theorem modIngest_pcie (f : IngestSt → IngestSt) : (s.modIngest f).pcie = s.pcie := rfl
@[simp] theorem modIngest_drov (f : IngestSt → IngestSt) : (s.modIngest f).drov = s.drov := rfl
@[simp] theorem modIngest_log (f : IngestSt → IngestSt) : (s.modIngest f).log = s.log := rfl
@[simp] theorem modIngest_mem (f : IngestSt → IngestSt) : (s.modIngest f).mem = s.mem := rfl
@[simp] theorem modIngest_eq (f : IngestSt → IngestSt) : (s.modIngest f).eq = s.eq := rfl
@[simp] theorem modIngest_deck (f : IngestSt → IngestSt) : (s.modIngest f).deck = s.deck := rfl
@[simp] theorem modIngest_ingest (f : IngestSt → IngestSt) : (s.modIngest f).ingest = f s.ingest := rfl
@[simp] theorem modIngest_recog (f : IngestSt → IngestSt) : (s.modIngest f).recog = s.recog := rfl
@[simp] theorem modIngest_flock (f : IngestSt → IngestSt) : (s.modIngest f).flock = s.flock := rfl
@[simp] theorem modIngest_hands (f : IngestSt → IngestSt) : (s.modIngest f).hands = s.hands := rfl
@[simp] theorem modIngest_trig (f : IngestSt → IngestSt) : (s.modIngest f).trig = s.trig := rfl
@[simp] theorem modIngest_folds (f : IngestSt → IngestSt) : (s.modIngest f).folds = s.folds := rfl
@[simp] theorem modIngest_comp (f : IngestSt → IngestSt) : (s.modIngest f).comp = s.comp := rfl
@[simp] theorem modIngest_pgen (f : IngestSt → IngestSt) : (s.modIngest f).pgen = s.pgen := rfl
@[simp] theorem modIngest_checkers (f : IngestSt → IngestSt) : (s.modIngest f).checkers = s.checkers := rfl
@[simp] theorem modIngest_tins (f : IngestSt → IngestSt) : (s.modIngest f).tins = s.tins := rfl
@[simp] theorem modIngest_dac (f : IngestSt → IngestSt) : (s.modIngest f).dac = s.dac := rfl
@[simp] theorem modIngest_link (f : IngestSt → IngestSt) : (s.modIngest f).link = s.link := rfl
@[simp] theorem modIngest_pwr (f : IngestSt → IngestSt) : (s.modIngest f).pwr = s.pwr := rfl
@[simp] theorem modIngest_shep (f : IngestSt → IngestSt) : (s.modIngest f).shep = s.shep := rfl
@[simp] theorem modIngest_sec (f : IngestSt → IngestSt) : (s.modIngest f).sec = s.sec := rfl
@[simp] theorem setRecog_pending (x : RecogSt) : (s.setRecog x).pending = s.pending := rfl
@[simp] theorem setRecog_regs (x : RecogSt) : (s.setRecog x).regs = s.regs := rfl
@[simp] theorem setRecog_host (x : RecogSt) : (s.setRecog x).host = s.host := rfl
@[simp] theorem setRecog_shepM (x : RecogSt) : (s.setRecog x).shepM = s.shepM := rfl
@[simp] theorem setRecog_reply (x : RecogSt) : (s.setRecog x).reply = s.reply := rfl
@[simp] theorem setRecog_free (x : RecogSt) : (s.setRecog x).free = s.free := rfl
@[simp] theorem setRecog_tb (x : RecogSt) : (s.setRecog x).tb = s.tb := rfl
@[simp] theorem setRecog_cmd (x : RecogSt) : (s.setRecog x).cmd = s.cmd := rfl
@[simp] theorem setRecog_pcie (x : RecogSt) : (s.setRecog x).pcie = s.pcie := rfl
@[simp] theorem setRecog_drov (x : RecogSt) : (s.setRecog x).drov = s.drov := rfl
@[simp] theorem setRecog_log (x : RecogSt) : (s.setRecog x).log = s.log := rfl
@[simp] theorem setRecog_mem (x : RecogSt) : (s.setRecog x).mem = s.mem := rfl
@[simp] theorem setRecog_eq (x : RecogSt) : (s.setRecog x).eq = s.eq := rfl
@[simp] theorem setRecog_deck (x : RecogSt) : (s.setRecog x).deck = s.deck := rfl
@[simp] theorem setRecog_ingest (x : RecogSt) : (s.setRecog x).ingest = s.ingest := rfl
@[simp] theorem setRecog_recog (x : RecogSt) : (s.setRecog x).recog = x := rfl
@[simp] theorem setRecog_flock (x : RecogSt) : (s.setRecog x).flock = s.flock := rfl
@[simp] theorem setRecog_hands (x : RecogSt) : (s.setRecog x).hands = s.hands := rfl
@[simp] theorem setRecog_trig (x : RecogSt) : (s.setRecog x).trig = s.trig := rfl
@[simp] theorem setRecog_folds (x : RecogSt) : (s.setRecog x).folds = s.folds := rfl
@[simp] theorem setRecog_comp (x : RecogSt) : (s.setRecog x).comp = s.comp := rfl
@[simp] theorem setRecog_pgen (x : RecogSt) : (s.setRecog x).pgen = s.pgen := rfl
@[simp] theorem setRecog_checkers (x : RecogSt) : (s.setRecog x).checkers = s.checkers := rfl
@[simp] theorem setRecog_tins (x : RecogSt) : (s.setRecog x).tins = s.tins := rfl
@[simp] theorem setRecog_dac (x : RecogSt) : (s.setRecog x).dac = s.dac := rfl
@[simp] theorem setRecog_link (x : RecogSt) : (s.setRecog x).link = s.link := rfl
@[simp] theorem setRecog_pwr (x : RecogSt) : (s.setRecog x).pwr = s.pwr := rfl
@[simp] theorem setRecog_shep (x : RecogSt) : (s.setRecog x).shep = s.shep := rfl
@[simp] theorem setRecog_sec (x : RecogSt) : (s.setRecog x).sec = s.sec := rfl
theorem modRecog_def (f : RecogSt → RecogSt) : s.modRecog f = s.setRecog (f s.recog) := rfl
@[simp] theorem modRecog_pending (f : RecogSt → RecogSt) : (s.modRecog f).pending = s.pending := rfl
@[simp] theorem modRecog_regs (f : RecogSt → RecogSt) : (s.modRecog f).regs = s.regs := rfl
@[simp] theorem modRecog_host (f : RecogSt → RecogSt) : (s.modRecog f).host = s.host := rfl
@[simp] theorem modRecog_shepM (f : RecogSt → RecogSt) : (s.modRecog f).shepM = s.shepM := rfl
@[simp] theorem modRecog_reply (f : RecogSt → RecogSt) : (s.modRecog f).reply = s.reply := rfl
@[simp] theorem modRecog_free (f : RecogSt → RecogSt) : (s.modRecog f).free = s.free := rfl
@[simp] theorem modRecog_tb (f : RecogSt → RecogSt) : (s.modRecog f).tb = s.tb := rfl
@[simp] theorem modRecog_cmd (f : RecogSt → RecogSt) : (s.modRecog f).cmd = s.cmd := rfl
@[simp] theorem modRecog_pcie (f : RecogSt → RecogSt) : (s.modRecog f).pcie = s.pcie := rfl
@[simp] theorem modRecog_drov (f : RecogSt → RecogSt) : (s.modRecog f).drov = s.drov := rfl
@[simp] theorem modRecog_log (f : RecogSt → RecogSt) : (s.modRecog f).log = s.log := rfl
@[simp] theorem modRecog_mem (f : RecogSt → RecogSt) : (s.modRecog f).mem = s.mem := rfl
@[simp] theorem modRecog_eq (f : RecogSt → RecogSt) : (s.modRecog f).eq = s.eq := rfl
@[simp] theorem modRecog_deck (f : RecogSt → RecogSt) : (s.modRecog f).deck = s.deck := rfl
@[simp] theorem modRecog_ingest (f : RecogSt → RecogSt) : (s.modRecog f).ingest = s.ingest := rfl
@[simp] theorem modRecog_recog (f : RecogSt → RecogSt) : (s.modRecog f).recog = f s.recog := rfl
@[simp] theorem modRecog_flock (f : RecogSt → RecogSt) : (s.modRecog f).flock = s.flock := rfl
@[simp] theorem modRecog_hands (f : RecogSt → RecogSt) : (s.modRecog f).hands = s.hands := rfl
@[simp] theorem modRecog_trig (f : RecogSt → RecogSt) : (s.modRecog f).trig = s.trig := rfl
@[simp] theorem modRecog_folds (f : RecogSt → RecogSt) : (s.modRecog f).folds = s.folds := rfl
@[simp] theorem modRecog_comp (f : RecogSt → RecogSt) : (s.modRecog f).comp = s.comp := rfl
@[simp] theorem modRecog_pgen (f : RecogSt → RecogSt) : (s.modRecog f).pgen = s.pgen := rfl
@[simp] theorem modRecog_checkers (f : RecogSt → RecogSt) : (s.modRecog f).checkers = s.checkers := rfl
@[simp] theorem modRecog_tins (f : RecogSt → RecogSt) : (s.modRecog f).tins = s.tins := rfl
@[simp] theorem modRecog_dac (f : RecogSt → RecogSt) : (s.modRecog f).dac = s.dac := rfl
@[simp] theorem modRecog_link (f : RecogSt → RecogSt) : (s.modRecog f).link = s.link := rfl
@[simp] theorem modRecog_pwr (f : RecogSt → RecogSt) : (s.modRecog f).pwr = s.pwr := rfl
@[simp] theorem modRecog_shep (f : RecogSt → RecogSt) : (s.modRecog f).shep = s.shep := rfl
@[simp] theorem modRecog_sec (f : RecogSt → RecogSt) : (s.modRecog f).sec = s.sec := rfl
@[simp] theorem setFlock_pending (x : FlockSt) : (s.setFlock x).pending = s.pending := rfl
@[simp] theorem setFlock_regs (x : FlockSt) : (s.setFlock x).regs = s.regs := rfl
@[simp] theorem setFlock_host (x : FlockSt) : (s.setFlock x).host = s.host := rfl
@[simp] theorem setFlock_shepM (x : FlockSt) : (s.setFlock x).shepM = s.shepM := rfl
@[simp] theorem setFlock_reply (x : FlockSt) : (s.setFlock x).reply = s.reply := rfl
@[simp] theorem setFlock_free (x : FlockSt) : (s.setFlock x).free = s.free := rfl
@[simp] theorem setFlock_tb (x : FlockSt) : (s.setFlock x).tb = s.tb := rfl
@[simp] theorem setFlock_cmd (x : FlockSt) : (s.setFlock x).cmd = s.cmd := rfl
@[simp] theorem setFlock_pcie (x : FlockSt) : (s.setFlock x).pcie = s.pcie := rfl
@[simp] theorem setFlock_drov (x : FlockSt) : (s.setFlock x).drov = s.drov := rfl
@[simp] theorem setFlock_log (x : FlockSt) : (s.setFlock x).log = s.log := rfl
@[simp] theorem setFlock_mem (x : FlockSt) : (s.setFlock x).mem = s.mem := rfl
@[simp] theorem setFlock_eq (x : FlockSt) : (s.setFlock x).eq = s.eq := rfl
@[simp] theorem setFlock_deck (x : FlockSt) : (s.setFlock x).deck = s.deck := rfl
@[simp] theorem setFlock_ingest (x : FlockSt) : (s.setFlock x).ingest = s.ingest := rfl
@[simp] theorem setFlock_recog (x : FlockSt) : (s.setFlock x).recog = s.recog := rfl
@[simp] theorem setFlock_flock (x : FlockSt) : (s.setFlock x).flock = x := rfl
@[simp] theorem setFlock_hands (x : FlockSt) : (s.setFlock x).hands = s.hands := rfl
@[simp] theorem setFlock_trig (x : FlockSt) : (s.setFlock x).trig = s.trig := rfl
@[simp] theorem setFlock_folds (x : FlockSt) : (s.setFlock x).folds = s.folds := rfl
@[simp] theorem setFlock_comp (x : FlockSt) : (s.setFlock x).comp = s.comp := rfl
@[simp] theorem setFlock_pgen (x : FlockSt) : (s.setFlock x).pgen = s.pgen := rfl
@[simp] theorem setFlock_checkers (x : FlockSt) : (s.setFlock x).checkers = s.checkers := rfl
@[simp] theorem setFlock_tins (x : FlockSt) : (s.setFlock x).tins = s.tins := rfl
@[simp] theorem setFlock_dac (x : FlockSt) : (s.setFlock x).dac = s.dac := rfl
@[simp] theorem setFlock_link (x : FlockSt) : (s.setFlock x).link = s.link := rfl
@[simp] theorem setFlock_pwr (x : FlockSt) : (s.setFlock x).pwr = s.pwr := rfl
@[simp] theorem setFlock_shep (x : FlockSt) : (s.setFlock x).shep = s.shep := rfl
@[simp] theorem setFlock_sec (x : FlockSt) : (s.setFlock x).sec = s.sec := rfl
theorem modFlock_def (f : FlockSt → FlockSt) : s.modFlock f = s.setFlock (f s.flock) := rfl
@[simp] theorem modFlock_pending (f : FlockSt → FlockSt) : (s.modFlock f).pending = s.pending := rfl
@[simp] theorem modFlock_regs (f : FlockSt → FlockSt) : (s.modFlock f).regs = s.regs := rfl
@[simp] theorem modFlock_host (f : FlockSt → FlockSt) : (s.modFlock f).host = s.host := rfl
@[simp] theorem modFlock_shepM (f : FlockSt → FlockSt) : (s.modFlock f).shepM = s.shepM := rfl
@[simp] theorem modFlock_reply (f : FlockSt → FlockSt) : (s.modFlock f).reply = s.reply := rfl
@[simp] theorem modFlock_free (f : FlockSt → FlockSt) : (s.modFlock f).free = s.free := rfl
@[simp] theorem modFlock_tb (f : FlockSt → FlockSt) : (s.modFlock f).tb = s.tb := rfl
@[simp] theorem modFlock_cmd (f : FlockSt → FlockSt) : (s.modFlock f).cmd = s.cmd := rfl
@[simp] theorem modFlock_pcie (f : FlockSt → FlockSt) : (s.modFlock f).pcie = s.pcie := rfl
@[simp] theorem modFlock_drov (f : FlockSt → FlockSt) : (s.modFlock f).drov = s.drov := rfl
@[simp] theorem modFlock_log (f : FlockSt → FlockSt) : (s.modFlock f).log = s.log := rfl
@[simp] theorem modFlock_mem (f : FlockSt → FlockSt) : (s.modFlock f).mem = s.mem := rfl
@[simp] theorem modFlock_eq (f : FlockSt → FlockSt) : (s.modFlock f).eq = s.eq := rfl
@[simp] theorem modFlock_deck (f : FlockSt → FlockSt) : (s.modFlock f).deck = s.deck := rfl
@[simp] theorem modFlock_ingest (f : FlockSt → FlockSt) : (s.modFlock f).ingest = s.ingest := rfl
@[simp] theorem modFlock_recog (f : FlockSt → FlockSt) : (s.modFlock f).recog = s.recog := rfl
@[simp] theorem modFlock_flock (f : FlockSt → FlockSt) : (s.modFlock f).flock = f s.flock := rfl
@[simp] theorem modFlock_hands (f : FlockSt → FlockSt) : (s.modFlock f).hands = s.hands := rfl
@[simp] theorem modFlock_trig (f : FlockSt → FlockSt) : (s.modFlock f).trig = s.trig := rfl
@[simp] theorem modFlock_folds (f : FlockSt → FlockSt) : (s.modFlock f).folds = s.folds := rfl
@[simp] theorem modFlock_comp (f : FlockSt → FlockSt) : (s.modFlock f).comp = s.comp := rfl
@[simp] theorem modFlock_pgen (f : FlockSt → FlockSt) : (s.modFlock f).pgen = s.pgen := rfl
@[simp] theorem modFlock_checkers (f : FlockSt → FlockSt) : (s.modFlock f).checkers = s.checkers := rfl
@[simp] theorem modFlock_tins (f : FlockSt → FlockSt) : (s.modFlock f).tins = s.tins := rfl
@[simp] theorem modFlock_dac (f : FlockSt → FlockSt) : (s.modFlock f).dac = s.dac := rfl
@[simp] theorem modFlock_link (f : FlockSt → FlockSt) : (s.modFlock f).link = s.link := rfl
@[simp] theorem modFlock_pwr (f : FlockSt → FlockSt) : (s.modFlock f).pwr = s.pwr := rfl
@[simp] theorem modFlock_shep (f : FlockSt → FlockSt) : (s.modFlock f).shep = s.shep := rfl
@[simp] theorem modFlock_sec (f : FlockSt → FlockSt) : (s.modFlock f).sec = s.sec := rfl
@[simp] theorem setHands_pending (x : Tab HandSt) : (s.setHands x).pending = s.pending := rfl
@[simp] theorem setHands_regs (x : Tab HandSt) : (s.setHands x).regs = s.regs := rfl
@[simp] theorem setHands_host (x : Tab HandSt) : (s.setHands x).host = s.host := rfl
@[simp] theorem setHands_shepM (x : Tab HandSt) : (s.setHands x).shepM = s.shepM := rfl
@[simp] theorem setHands_reply (x : Tab HandSt) : (s.setHands x).reply = s.reply := rfl
@[simp] theorem setHands_free (x : Tab HandSt) : (s.setHands x).free = s.free := rfl
@[simp] theorem setHands_tb (x : Tab HandSt) : (s.setHands x).tb = s.tb := rfl
@[simp] theorem setHands_cmd (x : Tab HandSt) : (s.setHands x).cmd = s.cmd := rfl
@[simp] theorem setHands_pcie (x : Tab HandSt) : (s.setHands x).pcie = s.pcie := rfl
@[simp] theorem setHands_drov (x : Tab HandSt) : (s.setHands x).drov = s.drov := rfl
@[simp] theorem setHands_log (x : Tab HandSt) : (s.setHands x).log = s.log := rfl
@[simp] theorem setHands_mem (x : Tab HandSt) : (s.setHands x).mem = s.mem := rfl
@[simp] theorem setHands_eq (x : Tab HandSt) : (s.setHands x).eq = s.eq := rfl
@[simp] theorem setHands_deck (x : Tab HandSt) : (s.setHands x).deck = s.deck := rfl
@[simp] theorem setHands_ingest (x : Tab HandSt) : (s.setHands x).ingest = s.ingest := rfl
@[simp] theorem setHands_recog (x : Tab HandSt) : (s.setHands x).recog = s.recog := rfl
@[simp] theorem setHands_flock (x : Tab HandSt) : (s.setHands x).flock = s.flock := rfl
@[simp] theorem setHands_hands (x : Tab HandSt) : (s.setHands x).hands = x := rfl
@[simp] theorem setHands_trig (x : Tab HandSt) : (s.setHands x).trig = s.trig := rfl
@[simp] theorem setHands_folds (x : Tab HandSt) : (s.setHands x).folds = s.folds := rfl
@[simp] theorem setHands_comp (x : Tab HandSt) : (s.setHands x).comp = s.comp := rfl
@[simp] theorem setHands_pgen (x : Tab HandSt) : (s.setHands x).pgen = s.pgen := rfl
@[simp] theorem setHands_checkers (x : Tab HandSt) : (s.setHands x).checkers = s.checkers := rfl
@[simp] theorem setHands_tins (x : Tab HandSt) : (s.setHands x).tins = s.tins := rfl
@[simp] theorem setHands_dac (x : Tab HandSt) : (s.setHands x).dac = s.dac := rfl
@[simp] theorem setHands_link (x : Tab HandSt) : (s.setHands x).link = s.link := rfl
@[simp] theorem setHands_pwr (x : Tab HandSt) : (s.setHands x).pwr = s.pwr := rfl
@[simp] theorem setHands_shep (x : Tab HandSt) : (s.setHands x).shep = s.shep := rfl
@[simp] theorem setHands_sec (x : Tab HandSt) : (s.setHands x).sec = s.sec := rfl
theorem modHands_def (f : Tab HandSt → Tab HandSt) : s.modHands f = s.setHands (f s.hands) := rfl
@[simp] theorem modHands_pending (f : Tab HandSt → Tab HandSt) : (s.modHands f).pending = s.pending := rfl
@[simp] theorem modHands_regs (f : Tab HandSt → Tab HandSt) : (s.modHands f).regs = s.regs := rfl
@[simp] theorem modHands_host (f : Tab HandSt → Tab HandSt) : (s.modHands f).host = s.host := rfl
@[simp] theorem modHands_shepM (f : Tab HandSt → Tab HandSt) : (s.modHands f).shepM = s.shepM := rfl
@[simp] theorem modHands_reply (f : Tab HandSt → Tab HandSt) : (s.modHands f).reply = s.reply := rfl
@[simp] theorem modHands_free (f : Tab HandSt → Tab HandSt) : (s.modHands f).free = s.free := rfl
@[simp] theorem modHands_tb (f : Tab HandSt → Tab HandSt) : (s.modHands f).tb = s.tb := rfl
@[simp] theorem modHands_cmd (f : Tab HandSt → Tab HandSt) : (s.modHands f).cmd = s.cmd := rfl
@[simp] theorem modHands_pcie (f : Tab HandSt → Tab HandSt) : (s.modHands f).pcie = s.pcie := rfl
@[simp] theorem modHands_drov (f : Tab HandSt → Tab HandSt) : (s.modHands f).drov = s.drov := rfl
@[simp] theorem modHands_log (f : Tab HandSt → Tab HandSt) : (s.modHands f).log = s.log := rfl
@[simp] theorem modHands_mem (f : Tab HandSt → Tab HandSt) : (s.modHands f).mem = s.mem := rfl
@[simp] theorem modHands_eq (f : Tab HandSt → Tab HandSt) : (s.modHands f).eq = s.eq := rfl
@[simp] theorem modHands_deck (f : Tab HandSt → Tab HandSt) : (s.modHands f).deck = s.deck := rfl
@[simp] theorem modHands_ingest (f : Tab HandSt → Tab HandSt) : (s.modHands f).ingest = s.ingest := rfl
@[simp] theorem modHands_recog (f : Tab HandSt → Tab HandSt) : (s.modHands f).recog = s.recog := rfl
@[simp] theorem modHands_flock (f : Tab HandSt → Tab HandSt) : (s.modHands f).flock = s.flock := rfl
@[simp] theorem modHands_hands (f : Tab HandSt → Tab HandSt) : (s.modHands f).hands = f s.hands := rfl
@[simp] theorem modHands_trig (f : Tab HandSt → Tab HandSt) : (s.modHands f).trig = s.trig := rfl
@[simp] theorem modHands_folds (f : Tab HandSt → Tab HandSt) : (s.modHands f).folds = s.folds := rfl
@[simp] theorem modHands_comp (f : Tab HandSt → Tab HandSt) : (s.modHands f).comp = s.comp := rfl
@[simp] theorem modHands_pgen (f : Tab HandSt → Tab HandSt) : (s.modHands f).pgen = s.pgen := rfl
@[simp] theorem modHands_checkers (f : Tab HandSt → Tab HandSt) : (s.modHands f).checkers = s.checkers := rfl
@[simp] theorem modHands_tins (f : Tab HandSt → Tab HandSt) : (s.modHands f).tins = s.tins := rfl
@[simp] theorem modHands_dac (f : Tab HandSt → Tab HandSt) : (s.modHands f).dac = s.dac := rfl
@[simp] theorem modHands_link (f : Tab HandSt → Tab HandSt) : (s.modHands f).link = s.link := rfl
@[simp] theorem modHands_pwr (f : Tab HandSt → Tab HandSt) : (s.modHands f).pwr = s.pwr := rfl
@[simp] theorem modHands_shep (f : Tab HandSt → Tab HandSt) : (s.modHands f).shep = s.shep := rfl
@[simp] theorem modHands_sec (f : Tab HandSt → Tab HandSt) : (s.modHands f).sec = s.sec := rfl
@[simp] theorem setTrig_pending (x : TrigSt) : (s.setTrig x).pending = s.pending := rfl
@[simp] theorem setTrig_regs (x : TrigSt) : (s.setTrig x).regs = s.regs := rfl
@[simp] theorem setTrig_host (x : TrigSt) : (s.setTrig x).host = s.host := rfl
@[simp] theorem setTrig_shepM (x : TrigSt) : (s.setTrig x).shepM = s.shepM := rfl
@[simp] theorem setTrig_reply (x : TrigSt) : (s.setTrig x).reply = s.reply := rfl
@[simp] theorem setTrig_free (x : TrigSt) : (s.setTrig x).free = s.free := rfl
@[simp] theorem setTrig_tb (x : TrigSt) : (s.setTrig x).tb = s.tb := rfl
@[simp] theorem setTrig_cmd (x : TrigSt) : (s.setTrig x).cmd = s.cmd := rfl
@[simp] theorem setTrig_pcie (x : TrigSt) : (s.setTrig x).pcie = s.pcie := rfl
@[simp] theorem setTrig_drov (x : TrigSt) : (s.setTrig x).drov = s.drov := rfl
@[simp] theorem setTrig_log (x : TrigSt) : (s.setTrig x).log = s.log := rfl
@[simp] theorem setTrig_mem (x : TrigSt) : (s.setTrig x).mem = s.mem := rfl
@[simp] theorem setTrig_eq (x : TrigSt) : (s.setTrig x).eq = s.eq := rfl
@[simp] theorem setTrig_deck (x : TrigSt) : (s.setTrig x).deck = s.deck := rfl
@[simp] theorem setTrig_ingest (x : TrigSt) : (s.setTrig x).ingest = s.ingest := rfl
@[simp] theorem setTrig_recog (x : TrigSt) : (s.setTrig x).recog = s.recog := rfl
@[simp] theorem setTrig_flock (x : TrigSt) : (s.setTrig x).flock = s.flock := rfl
@[simp] theorem setTrig_hands (x : TrigSt) : (s.setTrig x).hands = s.hands := rfl
@[simp] theorem setTrig_trig (x : TrigSt) : (s.setTrig x).trig = x := rfl
@[simp] theorem setTrig_folds (x : TrigSt) : (s.setTrig x).folds = s.folds := rfl
@[simp] theorem setTrig_comp (x : TrigSt) : (s.setTrig x).comp = s.comp := rfl
@[simp] theorem setTrig_pgen (x : TrigSt) : (s.setTrig x).pgen = s.pgen := rfl
@[simp] theorem setTrig_checkers (x : TrigSt) : (s.setTrig x).checkers = s.checkers := rfl
@[simp] theorem setTrig_tins (x : TrigSt) : (s.setTrig x).tins = s.tins := rfl
@[simp] theorem setTrig_dac (x : TrigSt) : (s.setTrig x).dac = s.dac := rfl
@[simp] theorem setTrig_link (x : TrigSt) : (s.setTrig x).link = s.link := rfl
@[simp] theorem setTrig_pwr (x : TrigSt) : (s.setTrig x).pwr = s.pwr := rfl
@[simp] theorem setTrig_shep (x : TrigSt) : (s.setTrig x).shep = s.shep := rfl
@[simp] theorem setTrig_sec (x : TrigSt) : (s.setTrig x).sec = s.sec := rfl
theorem modTrig_def (f : TrigSt → TrigSt) : s.modTrig f = s.setTrig (f s.trig) := rfl
@[simp] theorem modTrig_pending (f : TrigSt → TrigSt) : (s.modTrig f).pending = s.pending := rfl
@[simp] theorem modTrig_regs (f : TrigSt → TrigSt) : (s.modTrig f).regs = s.regs := rfl
@[simp] theorem modTrig_host (f : TrigSt → TrigSt) : (s.modTrig f).host = s.host := rfl
@[simp] theorem modTrig_shepM (f : TrigSt → TrigSt) : (s.modTrig f).shepM = s.shepM := rfl
@[simp] theorem modTrig_reply (f : TrigSt → TrigSt) : (s.modTrig f).reply = s.reply := rfl
@[simp] theorem modTrig_free (f : TrigSt → TrigSt) : (s.modTrig f).free = s.free := rfl
@[simp] theorem modTrig_tb (f : TrigSt → TrigSt) : (s.modTrig f).tb = s.tb := rfl
@[simp] theorem modTrig_cmd (f : TrigSt → TrigSt) : (s.modTrig f).cmd = s.cmd := rfl
@[simp] theorem modTrig_pcie (f : TrigSt → TrigSt) : (s.modTrig f).pcie = s.pcie := rfl
@[simp] theorem modTrig_drov (f : TrigSt → TrigSt) : (s.modTrig f).drov = s.drov := rfl
@[simp] theorem modTrig_log (f : TrigSt → TrigSt) : (s.modTrig f).log = s.log := rfl
@[simp] theorem modTrig_mem (f : TrigSt → TrigSt) : (s.modTrig f).mem = s.mem := rfl
@[simp] theorem modTrig_eq (f : TrigSt → TrigSt) : (s.modTrig f).eq = s.eq := rfl
@[simp] theorem modTrig_deck (f : TrigSt → TrigSt) : (s.modTrig f).deck = s.deck := rfl
@[simp] theorem modTrig_ingest (f : TrigSt → TrigSt) : (s.modTrig f).ingest = s.ingest := rfl
@[simp] theorem modTrig_recog (f : TrigSt → TrigSt) : (s.modTrig f).recog = s.recog := rfl
@[simp] theorem modTrig_flock (f : TrigSt → TrigSt) : (s.modTrig f).flock = s.flock := rfl
@[simp] theorem modTrig_hands (f : TrigSt → TrigSt) : (s.modTrig f).hands = s.hands := rfl
@[simp] theorem modTrig_trig (f : TrigSt → TrigSt) : (s.modTrig f).trig = f s.trig := rfl
@[simp] theorem modTrig_folds (f : TrigSt → TrigSt) : (s.modTrig f).folds = s.folds := rfl
@[simp] theorem modTrig_comp (f : TrigSt → TrigSt) : (s.modTrig f).comp = s.comp := rfl
@[simp] theorem modTrig_pgen (f : TrigSt → TrigSt) : (s.modTrig f).pgen = s.pgen := rfl
@[simp] theorem modTrig_checkers (f : TrigSt → TrigSt) : (s.modTrig f).checkers = s.checkers := rfl
@[simp] theorem modTrig_tins (f : TrigSt → TrigSt) : (s.modTrig f).tins = s.tins := rfl
@[simp] theorem modTrig_dac (f : TrigSt → TrigSt) : (s.modTrig f).dac = s.dac := rfl
@[simp] theorem modTrig_link (f : TrigSt → TrigSt) : (s.modTrig f).link = s.link := rfl
@[simp] theorem modTrig_pwr (f : TrigSt → TrigSt) : (s.modTrig f).pwr = s.pwr := rfl
@[simp] theorem modTrig_shep (f : TrigSt → TrigSt) : (s.modTrig f).shep = s.shep := rfl
@[simp] theorem modTrig_sec (f : TrigSt → TrigSt) : (s.modTrig f).sec = s.sec := rfl
@[simp] theorem setFolds_pending (x : FoldsSt) : (s.setFolds x).pending = s.pending := rfl
@[simp] theorem setFolds_regs (x : FoldsSt) : (s.setFolds x).regs = s.regs := rfl
@[simp] theorem setFolds_host (x : FoldsSt) : (s.setFolds x).host = s.host := rfl
@[simp] theorem setFolds_shepM (x : FoldsSt) : (s.setFolds x).shepM = s.shepM := rfl
@[simp] theorem setFolds_reply (x : FoldsSt) : (s.setFolds x).reply = s.reply := rfl
@[simp] theorem setFolds_free (x : FoldsSt) : (s.setFolds x).free = s.free := rfl
@[simp] theorem setFolds_tb (x : FoldsSt) : (s.setFolds x).tb = s.tb := rfl
@[simp] theorem setFolds_cmd (x : FoldsSt) : (s.setFolds x).cmd = s.cmd := rfl
@[simp] theorem setFolds_pcie (x : FoldsSt) : (s.setFolds x).pcie = s.pcie := rfl
@[simp] theorem setFolds_drov (x : FoldsSt) : (s.setFolds x).drov = s.drov := rfl
@[simp] theorem setFolds_log (x : FoldsSt) : (s.setFolds x).log = s.log := rfl
@[simp] theorem setFolds_mem (x : FoldsSt) : (s.setFolds x).mem = s.mem := rfl
@[simp] theorem setFolds_eq (x : FoldsSt) : (s.setFolds x).eq = s.eq := rfl
@[simp] theorem setFolds_deck (x : FoldsSt) : (s.setFolds x).deck = s.deck := rfl
@[simp] theorem setFolds_ingest (x : FoldsSt) : (s.setFolds x).ingest = s.ingest := rfl
@[simp] theorem setFolds_recog (x : FoldsSt) : (s.setFolds x).recog = s.recog := rfl
@[simp] theorem setFolds_flock (x : FoldsSt) : (s.setFolds x).flock = s.flock := rfl
@[simp] theorem setFolds_hands (x : FoldsSt) : (s.setFolds x).hands = s.hands := rfl
@[simp] theorem setFolds_trig (x : FoldsSt) : (s.setFolds x).trig = s.trig := rfl
@[simp] theorem setFolds_folds (x : FoldsSt) : (s.setFolds x).folds = x := rfl
@[simp] theorem setFolds_comp (x : FoldsSt) : (s.setFolds x).comp = s.comp := rfl
@[simp] theorem setFolds_pgen (x : FoldsSt) : (s.setFolds x).pgen = s.pgen := rfl
@[simp] theorem setFolds_checkers (x : FoldsSt) : (s.setFolds x).checkers = s.checkers := rfl
@[simp] theorem setFolds_tins (x : FoldsSt) : (s.setFolds x).tins = s.tins := rfl
@[simp] theorem setFolds_dac (x : FoldsSt) : (s.setFolds x).dac = s.dac := rfl
@[simp] theorem setFolds_link (x : FoldsSt) : (s.setFolds x).link = s.link := rfl
@[simp] theorem setFolds_pwr (x : FoldsSt) : (s.setFolds x).pwr = s.pwr := rfl
@[simp] theorem setFolds_shep (x : FoldsSt) : (s.setFolds x).shep = s.shep := rfl
@[simp] theorem setFolds_sec (x : FoldsSt) : (s.setFolds x).sec = s.sec := rfl
theorem modFolds_def (f : FoldsSt → FoldsSt) : s.modFolds f = s.setFolds (f s.folds) := rfl
@[simp] theorem modFolds_pending (f : FoldsSt → FoldsSt) : (s.modFolds f).pending = s.pending := rfl
@[simp] theorem modFolds_regs (f : FoldsSt → FoldsSt) : (s.modFolds f).regs = s.regs := rfl
@[simp] theorem modFolds_host (f : FoldsSt → FoldsSt) : (s.modFolds f).host = s.host := rfl
@[simp] theorem modFolds_shepM (f : FoldsSt → FoldsSt) : (s.modFolds f).shepM = s.shepM := rfl
@[simp] theorem modFolds_reply (f : FoldsSt → FoldsSt) : (s.modFolds f).reply = s.reply := rfl
@[simp] theorem modFolds_free (f : FoldsSt → FoldsSt) : (s.modFolds f).free = s.free := rfl
@[simp] theorem modFolds_tb (f : FoldsSt → FoldsSt) : (s.modFolds f).tb = s.tb := rfl
@[simp] theorem modFolds_cmd (f : FoldsSt → FoldsSt) : (s.modFolds f).cmd = s.cmd := rfl
@[simp] theorem modFolds_pcie (f : FoldsSt → FoldsSt) : (s.modFolds f).pcie = s.pcie := rfl
@[simp] theorem modFolds_drov (f : FoldsSt → FoldsSt) : (s.modFolds f).drov = s.drov := rfl
@[simp] theorem modFolds_log (f : FoldsSt → FoldsSt) : (s.modFolds f).log = s.log := rfl
@[simp] theorem modFolds_mem (f : FoldsSt → FoldsSt) : (s.modFolds f).mem = s.mem := rfl
@[simp] theorem modFolds_eq (f : FoldsSt → FoldsSt) : (s.modFolds f).eq = s.eq := rfl
@[simp] theorem modFolds_deck (f : FoldsSt → FoldsSt) : (s.modFolds f).deck = s.deck := rfl
@[simp] theorem modFolds_ingest (f : FoldsSt → FoldsSt) : (s.modFolds f).ingest = s.ingest := rfl
@[simp] theorem modFolds_recog (f : FoldsSt → FoldsSt) : (s.modFolds f).recog = s.recog := rfl
@[simp] theorem modFolds_flock (f : FoldsSt → FoldsSt) : (s.modFolds f).flock = s.flock := rfl
@[simp] theorem modFolds_hands (f : FoldsSt → FoldsSt) : (s.modFolds f).hands = s.hands := rfl
@[simp] theorem modFolds_trig (f : FoldsSt → FoldsSt) : (s.modFolds f).trig = s.trig := rfl
@[simp] theorem modFolds_folds (f : FoldsSt → FoldsSt) : (s.modFolds f).folds = f s.folds := rfl
@[simp] theorem modFolds_comp (f : FoldsSt → FoldsSt) : (s.modFolds f).comp = s.comp := rfl
@[simp] theorem modFolds_pgen (f : FoldsSt → FoldsSt) : (s.modFolds f).pgen = s.pgen := rfl
@[simp] theorem modFolds_checkers (f : FoldsSt → FoldsSt) : (s.modFolds f).checkers = s.checkers := rfl
@[simp] theorem modFolds_tins (f : FoldsSt → FoldsSt) : (s.modFolds f).tins = s.tins := rfl
@[simp] theorem modFolds_dac (f : FoldsSt → FoldsSt) : (s.modFolds f).dac = s.dac := rfl
@[simp] theorem modFolds_link (f : FoldsSt → FoldsSt) : (s.modFolds f).link = s.link := rfl
@[simp] theorem modFolds_pwr (f : FoldsSt → FoldsSt) : (s.modFolds f).pwr = s.pwr := rfl
@[simp] theorem modFolds_shep (f : FoldsSt → FoldsSt) : (s.modFolds f).shep = s.shep := rfl
@[simp] theorem modFolds_sec (f : FoldsSt → FoldsSt) : (s.modFolds f).sec = s.sec := rfl
@[simp] theorem setComp_pending (x : CompSt) : (s.setComp x).pending = s.pending := rfl
@[simp] theorem setComp_regs (x : CompSt) : (s.setComp x).regs = s.regs := rfl
@[simp] theorem setComp_host (x : CompSt) : (s.setComp x).host = s.host := rfl
@[simp] theorem setComp_shepM (x : CompSt) : (s.setComp x).shepM = s.shepM := rfl
@[simp] theorem setComp_reply (x : CompSt) : (s.setComp x).reply = s.reply := rfl
@[simp] theorem setComp_free (x : CompSt) : (s.setComp x).free = s.free := rfl
@[simp] theorem setComp_tb (x : CompSt) : (s.setComp x).tb = s.tb := rfl
@[simp] theorem setComp_cmd (x : CompSt) : (s.setComp x).cmd = s.cmd := rfl
@[simp] theorem setComp_pcie (x : CompSt) : (s.setComp x).pcie = s.pcie := rfl
@[simp] theorem setComp_drov (x : CompSt) : (s.setComp x).drov = s.drov := rfl
@[simp] theorem setComp_log (x : CompSt) : (s.setComp x).log = s.log := rfl
@[simp] theorem setComp_mem (x : CompSt) : (s.setComp x).mem = s.mem := rfl
@[simp] theorem setComp_eq (x : CompSt) : (s.setComp x).eq = s.eq := rfl
@[simp] theorem setComp_deck (x : CompSt) : (s.setComp x).deck = s.deck := rfl
@[simp] theorem setComp_ingest (x : CompSt) : (s.setComp x).ingest = s.ingest := rfl
@[simp] theorem setComp_recog (x : CompSt) : (s.setComp x).recog = s.recog := rfl
@[simp] theorem setComp_flock (x : CompSt) : (s.setComp x).flock = s.flock := rfl
@[simp] theorem setComp_hands (x : CompSt) : (s.setComp x).hands = s.hands := rfl
@[simp] theorem setComp_trig (x : CompSt) : (s.setComp x).trig = s.trig := rfl
@[simp] theorem setComp_folds (x : CompSt) : (s.setComp x).folds = s.folds := rfl
@[simp] theorem setComp_comp (x : CompSt) : (s.setComp x).comp = x := rfl
@[simp] theorem setComp_pgen (x : CompSt) : (s.setComp x).pgen = s.pgen := rfl
@[simp] theorem setComp_checkers (x : CompSt) : (s.setComp x).checkers = s.checkers := rfl
@[simp] theorem setComp_tins (x : CompSt) : (s.setComp x).tins = s.tins := rfl
@[simp] theorem setComp_dac (x : CompSt) : (s.setComp x).dac = s.dac := rfl
@[simp] theorem setComp_link (x : CompSt) : (s.setComp x).link = s.link := rfl
@[simp] theorem setComp_pwr (x : CompSt) : (s.setComp x).pwr = s.pwr := rfl
@[simp] theorem setComp_shep (x : CompSt) : (s.setComp x).shep = s.shep := rfl
@[simp] theorem setComp_sec (x : CompSt) : (s.setComp x).sec = s.sec := rfl
theorem modComp_def (f : CompSt → CompSt) : s.modComp f = s.setComp (f s.comp) := rfl
@[simp] theorem modComp_pending (f : CompSt → CompSt) : (s.modComp f).pending = s.pending := rfl
@[simp] theorem modComp_regs (f : CompSt → CompSt) : (s.modComp f).regs = s.regs := rfl
@[simp] theorem modComp_host (f : CompSt → CompSt) : (s.modComp f).host = s.host := rfl
@[simp] theorem modComp_shepM (f : CompSt → CompSt) : (s.modComp f).shepM = s.shepM := rfl
@[simp] theorem modComp_reply (f : CompSt → CompSt) : (s.modComp f).reply = s.reply := rfl
@[simp] theorem modComp_free (f : CompSt → CompSt) : (s.modComp f).free = s.free := rfl
@[simp] theorem modComp_tb (f : CompSt → CompSt) : (s.modComp f).tb = s.tb := rfl
@[simp] theorem modComp_cmd (f : CompSt → CompSt) : (s.modComp f).cmd = s.cmd := rfl
@[simp] theorem modComp_pcie (f : CompSt → CompSt) : (s.modComp f).pcie = s.pcie := rfl
@[simp] theorem modComp_drov (f : CompSt → CompSt) : (s.modComp f).drov = s.drov := rfl
@[simp] theorem modComp_log (f : CompSt → CompSt) : (s.modComp f).log = s.log := rfl
@[simp] theorem modComp_mem (f : CompSt → CompSt) : (s.modComp f).mem = s.mem := rfl
@[simp] theorem modComp_eq (f : CompSt → CompSt) : (s.modComp f).eq = s.eq := rfl
@[simp] theorem modComp_deck (f : CompSt → CompSt) : (s.modComp f).deck = s.deck := rfl
@[simp] theorem modComp_ingest (f : CompSt → CompSt) : (s.modComp f).ingest = s.ingest := rfl
@[simp] theorem modComp_recog (f : CompSt → CompSt) : (s.modComp f).recog = s.recog := rfl
@[simp] theorem modComp_flock (f : CompSt → CompSt) : (s.modComp f).flock = s.flock := rfl
@[simp] theorem modComp_hands (f : CompSt → CompSt) : (s.modComp f).hands = s.hands := rfl
@[simp] theorem modComp_trig (f : CompSt → CompSt) : (s.modComp f).trig = s.trig := rfl
@[simp] theorem modComp_folds (f : CompSt → CompSt) : (s.modComp f).folds = s.folds := rfl
@[simp] theorem modComp_comp (f : CompSt → CompSt) : (s.modComp f).comp = f s.comp := rfl
@[simp] theorem modComp_pgen (f : CompSt → CompSt) : (s.modComp f).pgen = s.pgen := rfl
@[simp] theorem modComp_checkers (f : CompSt → CompSt) : (s.modComp f).checkers = s.checkers := rfl
@[simp] theorem modComp_tins (f : CompSt → CompSt) : (s.modComp f).tins = s.tins := rfl
@[simp] theorem modComp_dac (f : CompSt → CompSt) : (s.modComp f).dac = s.dac := rfl
@[simp] theorem modComp_link (f : CompSt → CompSt) : (s.modComp f).link = s.link := rfl
@[simp] theorem modComp_pwr (f : CompSt → CompSt) : (s.modComp f).pwr = s.pwr := rfl
@[simp] theorem modComp_shep (f : CompSt → CompSt) : (s.modComp f).shep = s.shep := rfl
@[simp] theorem modComp_sec (f : CompSt → CompSt) : (s.modComp f).sec = s.sec := rfl
@[simp] theorem setPgen_pending (x : PgenSt) : (s.setPgen x).pending = s.pending := rfl
@[simp] theorem setPgen_regs (x : PgenSt) : (s.setPgen x).regs = s.regs := rfl
@[simp] theorem setPgen_host (x : PgenSt) : (s.setPgen x).host = s.host := rfl
@[simp] theorem setPgen_shepM (x : PgenSt) : (s.setPgen x).shepM = s.shepM := rfl
@[simp] theorem setPgen_reply (x : PgenSt) : (s.setPgen x).reply = s.reply := rfl
@[simp] theorem setPgen_free (x : PgenSt) : (s.setPgen x).free = s.free := rfl
@[simp] theorem setPgen_tb (x : PgenSt) : (s.setPgen x).tb = s.tb := rfl
@[simp] theorem setPgen_cmd (x : PgenSt) : (s.setPgen x).cmd = s.cmd := rfl
@[simp] theorem setPgen_pcie (x : PgenSt) : (s.setPgen x).pcie = s.pcie := rfl
@[simp] theorem setPgen_drov (x : PgenSt) : (s.setPgen x).drov = s.drov := rfl
@[simp] theorem setPgen_log (x : PgenSt) : (s.setPgen x).log = s.log := rfl
@[simp] theorem setPgen_mem (x : PgenSt) : (s.setPgen x).mem = s.mem := rfl
@[simp] theorem setPgen_eq (x : PgenSt) : (s.setPgen x).eq = s.eq := rfl
@[simp] theorem setPgen_deck (x : PgenSt) : (s.setPgen x).deck = s.deck := rfl
@[simp] theorem setPgen_ingest (x : PgenSt) : (s.setPgen x).ingest = s.ingest := rfl
@[simp] theorem setPgen_recog (x : PgenSt) : (s.setPgen x).recog = s.recog := rfl
@[simp] theorem setPgen_flock (x : PgenSt) : (s.setPgen x).flock = s.flock := rfl
@[simp] theorem setPgen_hands (x : PgenSt) : (s.setPgen x).hands = s.hands := rfl
@[simp] theorem setPgen_trig (x : PgenSt) : (s.setPgen x).trig = s.trig := rfl
@[simp] theorem setPgen_folds (x : PgenSt) : (s.setPgen x).folds = s.folds := rfl
@[simp] theorem setPgen_comp (x : PgenSt) : (s.setPgen x).comp = s.comp := rfl
@[simp] theorem setPgen_pgen (x : PgenSt) : (s.setPgen x).pgen = x := rfl
@[simp] theorem setPgen_checkers (x : PgenSt) : (s.setPgen x).checkers = s.checkers := rfl
@[simp] theorem setPgen_tins (x : PgenSt) : (s.setPgen x).tins = s.tins := rfl
@[simp] theorem setPgen_dac (x : PgenSt) : (s.setPgen x).dac = s.dac := rfl
@[simp] theorem setPgen_link (x : PgenSt) : (s.setPgen x).link = s.link := rfl
@[simp] theorem setPgen_pwr (x : PgenSt) : (s.setPgen x).pwr = s.pwr := rfl
@[simp] theorem setPgen_shep (x : PgenSt) : (s.setPgen x).shep = s.shep := rfl
@[simp] theorem setPgen_sec (x : PgenSt) : (s.setPgen x).sec = s.sec := rfl
theorem modPgen_def (f : PgenSt → PgenSt) : s.modPgen f = s.setPgen (f s.pgen) := rfl
@[simp] theorem modPgen_pending (f : PgenSt → PgenSt) : (s.modPgen f).pending = s.pending := rfl
@[simp] theorem modPgen_regs (f : PgenSt → PgenSt) : (s.modPgen f).regs = s.regs := rfl
@[simp] theorem modPgen_host (f : PgenSt → PgenSt) : (s.modPgen f).host = s.host := rfl
@[simp] theorem modPgen_shepM (f : PgenSt → PgenSt) : (s.modPgen f).shepM = s.shepM := rfl
@[simp] theorem modPgen_reply (f : PgenSt → PgenSt) : (s.modPgen f).reply = s.reply := rfl
@[simp] theorem modPgen_free (f : PgenSt → PgenSt) : (s.modPgen f).free = s.free := rfl
@[simp] theorem modPgen_tb (f : PgenSt → PgenSt) : (s.modPgen f).tb = s.tb := rfl
@[simp] theorem modPgen_cmd (f : PgenSt → PgenSt) : (s.modPgen f).cmd = s.cmd := rfl
@[simp] theorem modPgen_pcie (f : PgenSt → PgenSt) : (s.modPgen f).pcie = s.pcie := rfl
@[simp] theorem modPgen_drov (f : PgenSt → PgenSt) : (s.modPgen f).drov = s.drov := rfl
@[simp] theorem modPgen_log (f : PgenSt → PgenSt) : (s.modPgen f).log = s.log := rfl
@[simp] theorem modPgen_mem (f : PgenSt → PgenSt) : (s.modPgen f).mem = s.mem := rfl
@[simp] theorem modPgen_eq (f : PgenSt → PgenSt) : (s.modPgen f).eq = s.eq := rfl
@[simp] theorem modPgen_deck (f : PgenSt → PgenSt) : (s.modPgen f).deck = s.deck := rfl
@[simp] theorem modPgen_ingest (f : PgenSt → PgenSt) : (s.modPgen f).ingest = s.ingest := rfl
@[simp] theorem modPgen_recog (f : PgenSt → PgenSt) : (s.modPgen f).recog = s.recog := rfl
@[simp] theorem modPgen_flock (f : PgenSt → PgenSt) : (s.modPgen f).flock = s.flock := rfl
@[simp] theorem modPgen_hands (f : PgenSt → PgenSt) : (s.modPgen f).hands = s.hands := rfl
@[simp] theorem modPgen_trig (f : PgenSt → PgenSt) : (s.modPgen f).trig = s.trig := rfl
@[simp] theorem modPgen_folds (f : PgenSt → PgenSt) : (s.modPgen f).folds = s.folds := rfl
@[simp] theorem modPgen_comp (f : PgenSt → PgenSt) : (s.modPgen f).comp = s.comp := rfl
@[simp] theorem modPgen_pgen (f : PgenSt → PgenSt) : (s.modPgen f).pgen = f s.pgen := rfl
@[simp] theorem modPgen_checkers (f : PgenSt → PgenSt) : (s.modPgen f).checkers = s.checkers := rfl
@[simp] theorem modPgen_tins (f : PgenSt → PgenSt) : (s.modPgen f).tins = s.tins := rfl
@[simp] theorem modPgen_dac (f : PgenSt → PgenSt) : (s.modPgen f).dac = s.dac := rfl
@[simp] theorem modPgen_link (f : PgenSt → PgenSt) : (s.modPgen f).link = s.link := rfl
@[simp] theorem modPgen_pwr (f : PgenSt → PgenSt) : (s.modPgen f).pwr = s.pwr := rfl
@[simp] theorem modPgen_shep (f : PgenSt → PgenSt) : (s.modPgen f).shep = s.shep := rfl
@[simp] theorem modPgen_sec (f : PgenSt → PgenSt) : (s.modPgen f).sec = s.sec := rfl
@[simp] theorem setCheckers_pending (x : Tab CheckerSt) : (s.setCheckers x).pending = s.pending := rfl
@[simp] theorem setCheckers_regs (x : Tab CheckerSt) : (s.setCheckers x).regs = s.regs := rfl
@[simp] theorem setCheckers_host (x : Tab CheckerSt) : (s.setCheckers x).host = s.host := rfl
@[simp] theorem setCheckers_shepM (x : Tab CheckerSt) : (s.setCheckers x).shepM = s.shepM := rfl
@[simp] theorem setCheckers_reply (x : Tab CheckerSt) : (s.setCheckers x).reply = s.reply := rfl
@[simp] theorem setCheckers_free (x : Tab CheckerSt) : (s.setCheckers x).free = s.free := rfl
@[simp] theorem setCheckers_tb (x : Tab CheckerSt) : (s.setCheckers x).tb = s.tb := rfl
@[simp] theorem setCheckers_cmd (x : Tab CheckerSt) : (s.setCheckers x).cmd = s.cmd := rfl
@[simp] theorem setCheckers_pcie (x : Tab CheckerSt) : (s.setCheckers x).pcie = s.pcie := rfl
@[simp] theorem setCheckers_drov (x : Tab CheckerSt) : (s.setCheckers x).drov = s.drov := rfl
@[simp] theorem setCheckers_log (x : Tab CheckerSt) : (s.setCheckers x).log = s.log := rfl
@[simp] theorem setCheckers_mem (x : Tab CheckerSt) : (s.setCheckers x).mem = s.mem := rfl
@[simp] theorem setCheckers_eq (x : Tab CheckerSt) : (s.setCheckers x).eq = s.eq := rfl
@[simp] theorem setCheckers_deck (x : Tab CheckerSt) : (s.setCheckers x).deck = s.deck := rfl
@[simp] theorem setCheckers_ingest (x : Tab CheckerSt) : (s.setCheckers x).ingest = s.ingest := rfl
@[simp] theorem setCheckers_recog (x : Tab CheckerSt) : (s.setCheckers x).recog = s.recog := rfl
@[simp] theorem setCheckers_flock (x : Tab CheckerSt) : (s.setCheckers x).flock = s.flock := rfl
@[simp] theorem setCheckers_hands (x : Tab CheckerSt) : (s.setCheckers x).hands = s.hands := rfl
@[simp] theorem setCheckers_trig (x : Tab CheckerSt) : (s.setCheckers x).trig = s.trig := rfl
@[simp] theorem setCheckers_folds (x : Tab CheckerSt) : (s.setCheckers x).folds = s.folds := rfl
@[simp] theorem setCheckers_comp (x : Tab CheckerSt) : (s.setCheckers x).comp = s.comp := rfl
@[simp] theorem setCheckers_pgen (x : Tab CheckerSt) : (s.setCheckers x).pgen = s.pgen := rfl
@[simp] theorem setCheckers_checkers (x : Tab CheckerSt) : (s.setCheckers x).checkers = x := rfl
@[simp] theorem setCheckers_tins (x : Tab CheckerSt) : (s.setCheckers x).tins = s.tins := rfl
@[simp] theorem setCheckers_dac (x : Tab CheckerSt) : (s.setCheckers x).dac = s.dac := rfl
@[simp] theorem setCheckers_link (x : Tab CheckerSt) : (s.setCheckers x).link = s.link := rfl
@[simp] theorem setCheckers_pwr (x : Tab CheckerSt) : (s.setCheckers x).pwr = s.pwr := rfl
@[simp] theorem setCheckers_shep (x : Tab CheckerSt) : (s.setCheckers x).shep = s.shep := rfl
@[simp] theorem setCheckers_sec (x : Tab CheckerSt) : (s.setCheckers x).sec = s.sec := rfl
theorem modCheckers_def (f : Tab CheckerSt → Tab CheckerSt) : s.modCheckers f = s.setCheckers (f s.checkers) := rfl
@[simp] theorem modCheckers_pending (f : Tab CheckerSt → Tab CheckerSt) : (s.modCheckers f).pending = s.pending := rfl
@[simp] theorem modCheckers_regs (f : Tab CheckerSt → Tab CheckerSt) : (s.modCheckers f).regs = s.regs := rfl
@[simp] theorem modCheckers_host (f : Tab CheckerSt → Tab CheckerSt) : (s.modCheckers f).host = s.host := rfl
@[simp] theorem modCheckers_shepM (f : Tab CheckerSt → Tab CheckerSt) : (s.modCheckers f).shepM = s.shepM := rfl
@[simp] theorem modCheckers_reply (f : Tab CheckerSt → Tab CheckerSt) : (s.modCheckers f).reply = s.reply := rfl
@[simp] theorem modCheckers_free (f : Tab CheckerSt → Tab CheckerSt) : (s.modCheckers f).free = s.free := rfl
@[simp] theorem modCheckers_tb (f : Tab CheckerSt → Tab CheckerSt) : (s.modCheckers f).tb = s.tb := rfl
@[simp] theorem modCheckers_cmd (f : Tab CheckerSt → Tab CheckerSt) : (s.modCheckers f).cmd = s.cmd := rfl
@[simp] theorem modCheckers_pcie (f : Tab CheckerSt → Tab CheckerSt) : (s.modCheckers f).pcie = s.pcie := rfl
@[simp] theorem modCheckers_drov (f : Tab CheckerSt → Tab CheckerSt) : (s.modCheckers f).drov = s.drov := rfl
@[simp] theorem modCheckers_log (f : Tab CheckerSt → Tab CheckerSt) : (s.modCheckers f).log = s.log := rfl
@[simp] theorem modCheckers_mem (f : Tab CheckerSt → Tab CheckerSt) : (s.modCheckers f).mem = s.mem := rfl
@[simp] theorem modCheckers_eq (f : Tab CheckerSt → Tab CheckerSt) : (s.modCheckers f).eq = s.eq := rfl
@[simp] theorem modCheckers_deck (f : Tab CheckerSt → Tab CheckerSt) : (s.modCheckers f).deck = s.deck := rfl
@[simp] theorem modCheckers_ingest (f : Tab CheckerSt → Tab CheckerSt) : (s.modCheckers f).ingest = s.ingest := rfl
@[simp] theorem modCheckers_recog (f : Tab CheckerSt → Tab CheckerSt) : (s.modCheckers f).recog = s.recog := rfl
@[simp] theorem modCheckers_flock (f : Tab CheckerSt → Tab CheckerSt) : (s.modCheckers f).flock = s.flock := rfl
@[simp] theorem modCheckers_hands (f : Tab CheckerSt → Tab CheckerSt) : (s.modCheckers f).hands = s.hands := rfl
@[simp] theorem modCheckers_trig (f : Tab CheckerSt → Tab CheckerSt) : (s.modCheckers f).trig = s.trig := rfl
@[simp] theorem modCheckers_folds (f : Tab CheckerSt → Tab CheckerSt) : (s.modCheckers f).folds = s.folds := rfl
@[simp] theorem modCheckers_comp (f : Tab CheckerSt → Tab CheckerSt) : (s.modCheckers f).comp = s.comp := rfl
@[simp] theorem modCheckers_pgen (f : Tab CheckerSt → Tab CheckerSt) : (s.modCheckers f).pgen = s.pgen := rfl
@[simp] theorem modCheckers_checkers (f : Tab CheckerSt → Tab CheckerSt) : (s.modCheckers f).checkers = f s.checkers := rfl
@[simp] theorem modCheckers_tins (f : Tab CheckerSt → Tab CheckerSt) : (s.modCheckers f).tins = s.tins := rfl
@[simp] theorem modCheckers_dac (f : Tab CheckerSt → Tab CheckerSt) : (s.modCheckers f).dac = s.dac := rfl
@[simp] theorem modCheckers_link (f : Tab CheckerSt → Tab CheckerSt) : (s.modCheckers f).link = s.link := rfl
@[simp] theorem modCheckers_pwr (f : Tab CheckerSt → Tab CheckerSt) : (s.modCheckers f).pwr = s.pwr := rfl
@[simp] theorem modCheckers_shep (f : Tab CheckerSt → Tab CheckerSt) : (s.modCheckers f).shep = s.shep := rfl
@[simp] theorem modCheckers_sec (f : Tab CheckerSt → Tab CheckerSt) : (s.modCheckers f).sec = s.sec := rfl
@[simp] theorem setTins_pending (x : TinsSt) : (s.setTins x).pending = s.pending := rfl
@[simp] theorem setTins_regs (x : TinsSt) : (s.setTins x).regs = s.regs := rfl
@[simp] theorem setTins_host (x : TinsSt) : (s.setTins x).host = s.host := rfl
@[simp] theorem setTins_shepM (x : TinsSt) : (s.setTins x).shepM = s.shepM := rfl
@[simp] theorem setTins_reply (x : TinsSt) : (s.setTins x).reply = s.reply := rfl
@[simp] theorem setTins_free (x : TinsSt) : (s.setTins x).free = s.free := rfl
@[simp] theorem setTins_tb (x : TinsSt) : (s.setTins x).tb = s.tb := rfl
@[simp] theorem setTins_cmd (x : TinsSt) : (s.setTins x).cmd = s.cmd := rfl
@[simp] theorem setTins_pcie (x : TinsSt) : (s.setTins x).pcie = s.pcie := rfl
@[simp] theorem setTins_drov (x : TinsSt) : (s.setTins x).drov = s.drov := rfl
@[simp] theorem setTins_log (x : TinsSt) : (s.setTins x).log = s.log := rfl
@[simp] theorem setTins_mem (x : TinsSt) : (s.setTins x).mem = s.mem := rfl
@[simp] theorem setTins_eq (x : TinsSt) : (s.setTins x).eq = s.eq := rfl
@[simp] theorem setTins_deck (x : TinsSt) : (s.setTins x).deck = s.deck := rfl
@[simp] theorem setTins_ingest (x : TinsSt) : (s.setTins x).ingest = s.ingest := rfl
@[simp] theorem setTins_recog (x : TinsSt) : (s.setTins x).recog = s.recog := rfl
@[simp] theorem setTins_flock (x : TinsSt) : (s.setTins x).flock = s.flock := rfl
@[simp] theorem setTins_hands (x : TinsSt) : (s.setTins x).hands = s.hands := rfl
@[simp] theorem setTins_trig (x : TinsSt) : (s.setTins x).trig = s.trig := rfl
@[simp] theorem setTins_folds (x : TinsSt) : (s.setTins x).folds = s.folds := rfl
@[simp] theorem setTins_comp (x : TinsSt) : (s.setTins x).comp = s.comp := rfl
@[simp] theorem setTins_pgen (x : TinsSt) : (s.setTins x).pgen = s.pgen := rfl
@[simp] theorem setTins_checkers (x : TinsSt) : (s.setTins x).checkers = s.checkers := rfl
@[simp] theorem setTins_tins (x : TinsSt) : (s.setTins x).tins = x := rfl
@[simp] theorem setTins_dac (x : TinsSt) : (s.setTins x).dac = s.dac := rfl
@[simp] theorem setTins_link (x : TinsSt) : (s.setTins x).link = s.link := rfl
@[simp] theorem setTins_pwr (x : TinsSt) : (s.setTins x).pwr = s.pwr := rfl
@[simp] theorem setTins_shep (x : TinsSt) : (s.setTins x).shep = s.shep := rfl
@[simp] theorem setTins_sec (x : TinsSt) : (s.setTins x).sec = s.sec := rfl
theorem modTins_def (f : TinsSt → TinsSt) : s.modTins f = s.setTins (f s.tins) := rfl
@[simp] theorem modTins_pending (f : TinsSt → TinsSt) : (s.modTins f).pending = s.pending := rfl
@[simp] theorem modTins_regs (f : TinsSt → TinsSt) : (s.modTins f).regs = s.regs := rfl
@[simp] theorem modTins_host (f : TinsSt → TinsSt) : (s.modTins f).host = s.host := rfl
@[simp] theorem modTins_shepM (f : TinsSt → TinsSt) : (s.modTins f).shepM = s.shepM := rfl
@[simp] theorem modTins_reply (f : TinsSt → TinsSt) : (s.modTins f).reply = s.reply := rfl
@[simp] theorem modTins_free (f : TinsSt → TinsSt) : (s.modTins f).free = s.free := rfl
@[simp] theorem modTins_tb (f : TinsSt → TinsSt) : (s.modTins f).tb = s.tb := rfl
@[simp] theorem modTins_cmd (f : TinsSt → TinsSt) : (s.modTins f).cmd = s.cmd := rfl
@[simp] theorem modTins_pcie (f : TinsSt → TinsSt) : (s.modTins f).pcie = s.pcie := rfl
@[simp] theorem modTins_drov (f : TinsSt → TinsSt) : (s.modTins f).drov = s.drov := rfl
@[simp] theorem modTins_log (f : TinsSt → TinsSt) : (s.modTins f).log = s.log := rfl
@[simp] theorem modTins_mem (f : TinsSt → TinsSt) : (s.modTins f).mem = s.mem := rfl
@[simp] theorem modTins_eq (f : TinsSt → TinsSt) : (s.modTins f).eq = s.eq := rfl
@[simp] theorem modTins_deck (f : TinsSt → TinsSt) : (s.modTins f).deck = s.deck := rfl
@[simp] theorem modTins_ingest (f : TinsSt → TinsSt) : (s.modTins f).ingest = s.ingest := rfl
@[simp] theorem modTins_recog (f : TinsSt → TinsSt) : (s.modTins f).recog = s.recog := rfl
@[simp] theorem modTins_flock (f : TinsSt → TinsSt) : (s.modTins f).flock = s.flock := rfl
@[simp] theorem modTins_hands (f : TinsSt → TinsSt) : (s.modTins f).hands = s.hands := rfl
@[simp] theorem modTins_trig (f : TinsSt → TinsSt) : (s.modTins f).trig = s.trig := rfl
@[simp] theorem modTins_folds (f : TinsSt → TinsSt) : (s.modTins f).folds = s.folds := rfl
@[simp] theorem modTins_comp (f : TinsSt → TinsSt) : (s.modTins f).comp = s.comp := rfl
@[simp] theorem modTins_pgen (f : TinsSt → TinsSt) : (s.modTins f).pgen = s.pgen := rfl
@[simp] theorem modTins_checkers (f : TinsSt → TinsSt) : (s.modTins f).checkers = s.checkers := rfl
@[simp] theorem modTins_tins (f : TinsSt → TinsSt) : (s.modTins f).tins = f s.tins := rfl
@[simp] theorem modTins_dac (f : TinsSt → TinsSt) : (s.modTins f).dac = s.dac := rfl
@[simp] theorem modTins_link (f : TinsSt → TinsSt) : (s.modTins f).link = s.link := rfl
@[simp] theorem modTins_pwr (f : TinsSt → TinsSt) : (s.modTins f).pwr = s.pwr := rfl
@[simp] theorem modTins_shep (f : TinsSt → TinsSt) : (s.modTins f).shep = s.shep := rfl
@[simp] theorem modTins_sec (f : TinsSt → TinsSt) : (s.modTins f).sec = s.sec := rfl
@[simp] theorem setDac_pending (x : Tab DacSt) : (s.setDac x).pending = s.pending := rfl
@[simp] theorem setDac_regs (x : Tab DacSt) : (s.setDac x).regs = s.regs := rfl
@[simp] theorem setDac_host (x : Tab DacSt) : (s.setDac x).host = s.host := rfl
@[simp] theorem setDac_shepM (x : Tab DacSt) : (s.setDac x).shepM = s.shepM := rfl
@[simp] theorem setDac_reply (x : Tab DacSt) : (s.setDac x).reply = s.reply := rfl
@[simp] theorem setDac_free (x : Tab DacSt) : (s.setDac x).free = s.free := rfl
@[simp] theorem setDac_tb (x : Tab DacSt) : (s.setDac x).tb = s.tb := rfl
@[simp] theorem setDac_cmd (x : Tab DacSt) : (s.setDac x).cmd = s.cmd := rfl
@[simp] theorem setDac_pcie (x : Tab DacSt) : (s.setDac x).pcie = s.pcie := rfl
@[simp] theorem setDac_drov (x : Tab DacSt) : (s.setDac x).drov = s.drov := rfl
@[simp] theorem setDac_log (x : Tab DacSt) : (s.setDac x).log = s.log := rfl
@[simp] theorem setDac_mem (x : Tab DacSt) : (s.setDac x).mem = s.mem := rfl
@[simp] theorem setDac_eq (x : Tab DacSt) : (s.setDac x).eq = s.eq := rfl
@[simp] theorem setDac_deck (x : Tab DacSt) : (s.setDac x).deck = s.deck := rfl
@[simp] theorem setDac_ingest (x : Tab DacSt) : (s.setDac x).ingest = s.ingest := rfl
@[simp] theorem setDac_recog (x : Tab DacSt) : (s.setDac x).recog = s.recog := rfl
@[simp] theorem setDac_flock (x : Tab DacSt) : (s.setDac x).flock = s.flock := rfl
@[simp] theorem setDac_hands (x : Tab DacSt) : (s.setDac x).hands = s.hands := rfl
@[simp] theorem setDac_trig (x : Tab DacSt) : (s.setDac x).trig = s.trig := rfl
@[simp] theorem setDac_folds (x : Tab DacSt) : (s.setDac x).folds = s.folds := rfl
@[simp] theorem setDac_comp (x : Tab DacSt) : (s.setDac x).comp = s.comp := rfl
@[simp] theorem setDac_pgen (x : Tab DacSt) : (s.setDac x).pgen = s.pgen := rfl
@[simp] theorem setDac_checkers (x : Tab DacSt) : (s.setDac x).checkers = s.checkers := rfl
@[simp] theorem setDac_tins (x : Tab DacSt) : (s.setDac x).tins = s.tins := rfl
@[simp] theorem setDac_dac (x : Tab DacSt) : (s.setDac x).dac = x := rfl
@[simp] theorem setDac_link (x : Tab DacSt) : (s.setDac x).link = s.link := rfl
@[simp] theorem setDac_pwr (x : Tab DacSt) : (s.setDac x).pwr = s.pwr := rfl
@[simp] theorem setDac_shep (x : Tab DacSt) : (s.setDac x).shep = s.shep := rfl
@[simp] theorem setDac_sec (x : Tab DacSt) : (s.setDac x).sec = s.sec := rfl
theorem modDac_def (f : Tab DacSt → Tab DacSt) : s.modDac f = s.setDac (f s.dac) := rfl
@[simp] theorem modDac_pending (f : Tab DacSt → Tab DacSt) : (s.modDac f).pending = s.pending := rfl
@[simp] theorem modDac_regs (f : Tab DacSt → Tab DacSt) : (s.modDac f).regs = s.regs := rfl
@[simp] theorem modDac_host (f : Tab DacSt → Tab DacSt) : (s.modDac f).host = s.host := rfl
@[simp] theorem modDac_shepM (f : Tab DacSt → Tab DacSt) : (s.modDac f).shepM = s.shepM := rfl
@[simp] theorem modDac_reply (f : Tab DacSt → Tab DacSt) : (s.modDac f).reply = s.reply := rfl
@[simp] theorem modDac_free (f : Tab DacSt → Tab DacSt) : (s.modDac f).free = s.free := rfl
@[simp] theorem modDac_tb (f : Tab DacSt → Tab DacSt) : (s.modDac f).tb = s.tb := rfl
@[simp] theorem modDac_cmd (f : Tab DacSt → Tab DacSt) : (s.modDac f).cmd = s.cmd := rfl
@[simp] theorem modDac_pcie (f : Tab DacSt → Tab DacSt) : (s.modDac f).pcie = s.pcie := rfl
@[simp] theorem modDac_drov (f : Tab DacSt → Tab DacSt) : (s.modDac f).drov = s.drov := rfl
@[simp] theorem modDac_log (f : Tab DacSt → Tab DacSt) : (s.modDac f).log = s.log := rfl
@[simp] theorem modDac_mem (f : Tab DacSt → Tab DacSt) : (s.modDac f).mem = s.mem := rfl
@[simp] theorem modDac_eq (f : Tab DacSt → Tab DacSt) : (s.modDac f).eq = s.eq := rfl
@[simp] theorem modDac_deck (f : Tab DacSt → Tab DacSt) : (s.modDac f).deck = s.deck := rfl
@[simp] theorem modDac_ingest (f : Tab DacSt → Tab DacSt) : (s.modDac f).ingest = s.ingest := rfl
@[simp] theorem modDac_recog (f : Tab DacSt → Tab DacSt) : (s.modDac f).recog = s.recog := rfl
@[simp] theorem modDac_flock (f : Tab DacSt → Tab DacSt) : (s.modDac f).flock = s.flock := rfl
@[simp] theorem modDac_hands (f : Tab DacSt → Tab DacSt) : (s.modDac f).hands = s.hands := rfl
@[simp] theorem modDac_trig (f : Tab DacSt → Tab DacSt) : (s.modDac f).trig = s.trig := rfl
@[simp] theorem modDac_folds (f : Tab DacSt → Tab DacSt) : (s.modDac f).folds = s.folds := rfl
@[simp] theorem modDac_comp (f : Tab DacSt → Tab DacSt) : (s.modDac f).comp = s.comp := rfl
@[simp] theorem modDac_pgen (f : Tab DacSt → Tab DacSt) : (s.modDac f).pgen = s.pgen := rfl
@[simp] theorem modDac_checkers (f : Tab DacSt → Tab DacSt) : (s.modDac f).checkers = s.checkers := rfl
@[simp] theorem modDac_tins (f : Tab DacSt → Tab DacSt) : (s.modDac f).tins = s.tins := rfl
@[simp] theorem modDac_dac (f : Tab DacSt → Tab DacSt) : (s.modDac f).dac = f s.dac := rfl
@[simp] theorem modDac_link (f : Tab DacSt → Tab DacSt) : (s.modDac f).link = s.link := rfl
@[simp] theorem modDac_pwr (f : Tab DacSt → Tab DacSt) : (s.modDac f).pwr = s.pwr := rfl
@[simp] theorem modDac_shep (f : Tab DacSt → Tab DacSt) : (s.modDac f).shep = s.shep := rfl
@[simp] theorem modDac_sec (f : Tab DacSt → Tab DacSt) : (s.modDac f).sec = s.sec := rfl
@[simp] theorem setLink_pending (x : Tab GroupLink) : (s.setLink x).pending = s.pending := rfl
@[simp] theorem setLink_regs (x : Tab GroupLink) : (s.setLink x).regs = s.regs := rfl
@[simp] theorem setLink_host (x : Tab GroupLink) : (s.setLink x).host = s.host := rfl
@[simp] theorem setLink_shepM (x : Tab GroupLink) : (s.setLink x).shepM = s.shepM := rfl
@[simp] theorem setLink_reply (x : Tab GroupLink) : (s.setLink x).reply = s.reply := rfl
@[simp] theorem setLink_free (x : Tab GroupLink) : (s.setLink x).free = s.free := rfl
@[simp] theorem setLink_tb (x : Tab GroupLink) : (s.setLink x).tb = s.tb := rfl
@[simp] theorem setLink_cmd (x : Tab GroupLink) : (s.setLink x).cmd = s.cmd := rfl
@[simp] theorem setLink_pcie (x : Tab GroupLink) : (s.setLink x).pcie = s.pcie := rfl
@[simp] theorem setLink_drov (x : Tab GroupLink) : (s.setLink x).drov = s.drov := rfl
@[simp] theorem setLink_log (x : Tab GroupLink) : (s.setLink x).log = s.log := rfl
@[simp] theorem setLink_mem (x : Tab GroupLink) : (s.setLink x).mem = s.mem := rfl
@[simp] theorem setLink_eq (x : Tab GroupLink) : (s.setLink x).eq = s.eq := rfl
@[simp] theorem setLink_deck (x : Tab GroupLink) : (s.setLink x).deck = s.deck := rfl
@[simp] theorem setLink_ingest (x : Tab GroupLink) : (s.setLink x).ingest = s.ingest := rfl
@[simp] theorem setLink_recog (x : Tab GroupLink) : (s.setLink x).recog = s.recog := rfl
@[simp] theorem setLink_flock (x : Tab GroupLink) : (s.setLink x).flock = s.flock := rfl
@[simp] theorem setLink_hands (x : Tab GroupLink) : (s.setLink x).hands = s.hands := rfl
@[simp] theorem setLink_trig (x : Tab GroupLink) : (s.setLink x).trig = s.trig := rfl
@[simp] theorem setLink_folds (x : Tab GroupLink) : (s.setLink x).folds = s.folds := rfl
@[simp] theorem setLink_comp (x : Tab GroupLink) : (s.setLink x).comp = s.comp := rfl
@[simp] theorem setLink_pgen (x : Tab GroupLink) : (s.setLink x).pgen = s.pgen := rfl
@[simp] theorem setLink_checkers (x : Tab GroupLink) : (s.setLink x).checkers = s.checkers := rfl
@[simp] theorem setLink_tins (x : Tab GroupLink) : (s.setLink x).tins = s.tins := rfl
@[simp] theorem setLink_dac (x : Tab GroupLink) : (s.setLink x).dac = s.dac := rfl
@[simp] theorem setLink_link (x : Tab GroupLink) : (s.setLink x).link = x := rfl
@[simp] theorem setLink_pwr (x : Tab GroupLink) : (s.setLink x).pwr = s.pwr := rfl
@[simp] theorem setLink_shep (x : Tab GroupLink) : (s.setLink x).shep = s.shep := rfl
@[simp] theorem setLink_sec (x : Tab GroupLink) : (s.setLink x).sec = s.sec := rfl
theorem modLink_def (f : Tab GroupLink → Tab GroupLink) : s.modLink f = s.setLink (f s.link) := rfl
@[simp] theorem modLink_pending (f : Tab GroupLink → Tab GroupLink) : (s.modLink f).pending = s.pending := rfl
@[simp] theorem modLink_regs (f : Tab GroupLink → Tab GroupLink) : (s.modLink f).regs = s.regs := rfl
@[simp] theorem modLink_host (f : Tab GroupLink → Tab GroupLink) : (s.modLink f).host = s.host := rfl
@[simp] theorem modLink_shepM (f : Tab GroupLink → Tab GroupLink) : (s.modLink f).shepM = s.shepM := rfl
@[simp] theorem modLink_reply (f : Tab GroupLink → Tab GroupLink) : (s.modLink f).reply = s.reply := rfl
@[simp] theorem modLink_free (f : Tab GroupLink → Tab GroupLink) : (s.modLink f).free = s.free := rfl
@[simp] theorem modLink_tb (f : Tab GroupLink → Tab GroupLink) : (s.modLink f).tb = s.tb := rfl
@[simp] theorem modLink_cmd (f : Tab GroupLink → Tab GroupLink) : (s.modLink f).cmd = s.cmd := rfl
@[simp] theorem modLink_pcie (f : Tab GroupLink → Tab GroupLink) : (s.modLink f).pcie = s.pcie := rfl
@[simp] theorem modLink_drov (f : Tab GroupLink → Tab GroupLink) : (s.modLink f).drov = s.drov := rfl
@[simp] theorem modLink_log (f : Tab GroupLink → Tab GroupLink) : (s.modLink f).log = s.log := rfl
@[simp] theorem modLink_mem (f : Tab GroupLink → Tab GroupLink) : (s.modLink f).mem = s.mem := rfl
@[simp] theorem modLink_eq (f : Tab GroupLink → Tab GroupLink) : (s.modLink f).eq = s.eq := rfl
@[simp] theorem modLink_deck (f : Tab GroupLink → Tab GroupLink) : (s.modLink f).deck = s.deck := rfl
@[simp] theorem modLink_ingest (f : Tab GroupLink → Tab GroupLink) : (s.modLink f).ingest = s.ingest := rfl
@[simp] theorem modLink_recog (f : Tab GroupLink → Tab GroupLink) : (s.modLink f).recog = s.recog := rfl
@[simp] theorem modLink_flock (f : Tab GroupLink → Tab GroupLink) : (s.modLink f).flock = s.flock := rfl
@[simp] theorem modLink_hands (f : Tab GroupLink → Tab GroupLink) : (s.modLink f).hands = s.hands := rfl
@[simp] theorem modLink_trig (f : Tab GroupLink → Tab GroupLink) : (s.modLink f).trig = s.trig := rfl
@[simp] theorem modLink_folds (f : Tab GroupLink → Tab GroupLink) : (s.modLink f).folds = s.folds := rfl
@[simp] theorem modLink_comp (f : Tab GroupLink → Tab GroupLink) : (s.modLink f).comp = s.comp := rfl
@[simp] theorem modLink_pgen (f : Tab GroupLink → Tab GroupLink) : (s.modLink f).pgen = s.pgen := rfl
@[simp] theorem modLink_checkers (f : Tab GroupLink → Tab GroupLink) : (s.modLink f).checkers = s.checkers := rfl
@[simp] theorem modLink_tins (f : Tab GroupLink → Tab GroupLink) : (s.modLink f).tins = s.tins := rfl
@[simp] theorem modLink_dac (f : Tab GroupLink → Tab GroupLink) : (s.modLink f).dac = s.dac := rfl
@[simp] theorem modLink_link (f : Tab GroupLink → Tab GroupLink) : (s.modLink f).link = f s.link := rfl
@[simp] theorem modLink_pwr (f : Tab GroupLink → Tab GroupLink) : (s.modLink f).pwr = s.pwr := rfl
@[simp] theorem modLink_shep (f : Tab GroupLink → Tab GroupLink) : (s.modLink f).shep = s.shep := rfl
@[simp] theorem modLink_sec (f : Tab GroupLink → Tab GroupLink) : (s.modLink f).sec = s.sec := rfl
@[simp] theorem setPwr_pending (x : PwrSt) : (s.setPwr x).pending = s.pending := rfl
@[simp] theorem setPwr_regs (x : PwrSt) : (s.setPwr x).regs = s.regs := rfl
@[simp] theorem setPwr_host (x : PwrSt) : (s.setPwr x).host = s.host := rfl
@[simp] theorem setPwr_shepM (x : PwrSt) : (s.setPwr x).shepM = s.shepM := rfl
@[simp] theorem setPwr_reply (x : PwrSt) : (s.setPwr x).reply = s.reply := rfl
@[simp] theorem setPwr_free (x : PwrSt) : (s.setPwr x).free = s.free := rfl
@[simp] theorem setPwr_tb (x : PwrSt) : (s.setPwr x).tb = s.tb := rfl
@[simp] theorem setPwr_cmd (x : PwrSt) : (s.setPwr x).cmd = s.cmd := rfl
@[simp] theorem setPwr_pcie (x : PwrSt) : (s.setPwr x).pcie = s.pcie := rfl
@[simp] theorem setPwr_drov (x : PwrSt) : (s.setPwr x).drov = s.drov := rfl
@[simp] theorem setPwr_log (x : PwrSt) : (s.setPwr x).log = s.log := rfl
@[simp] theorem setPwr_mem (x : PwrSt) : (s.setPwr x).mem = s.mem := rfl
@[simp] theorem setPwr_eq (x : PwrSt) : (s.setPwr x).eq = s.eq := rfl
@[simp] theorem setPwr_deck (x : PwrSt) : (s.setPwr x).deck = s.deck := rfl
@[simp] theorem setPwr_ingest (x : PwrSt) : (s.setPwr x).ingest = s.ingest := rfl
@[simp] theorem setPwr_recog (x : PwrSt) : (s.setPwr x).recog = s.recog := rfl
@[simp] theorem setPwr_flock (x : PwrSt) : (s.setPwr x).flock = s.flock := rfl
@[simp] theorem setPwr_hands (x : PwrSt) : (s.setPwr x).hands = s.hands := rfl
@[simp] theorem setPwr_trig (x : PwrSt) : (s.setPwr x).trig = s.trig := rfl
@[simp] theorem setPwr_folds (x : PwrSt) : (s.setPwr x).folds = s.folds := rfl
@[simp] theorem setPwr_comp (x : PwrSt) : (s.setPwr x).comp = s.comp := rfl
@[simp] theorem setPwr_pgen (x : PwrSt) : (s.setPwr x).pgen = s.pgen := rfl
@[simp] theorem setPwr_checkers (x : PwrSt) : (s.setPwr x).checkers = s.checkers := rfl
@[simp] theorem setPwr_tins (x : PwrSt) : (s.setPwr x).tins = s.tins := rfl
@[simp] theorem setPwr_dac (x : PwrSt) : (s.setPwr x).dac = s.dac := rfl
@[simp] theorem setPwr_link (x : PwrSt) : (s.setPwr x).link = s.link := rfl
@[simp] theorem setPwr_pwr (x : PwrSt) : (s.setPwr x).pwr = x := rfl
@[simp] theorem setPwr_shep (x : PwrSt) : (s.setPwr x).shep = s.shep := rfl
@[simp] theorem setPwr_sec (x : PwrSt) : (s.setPwr x).sec = s.sec := rfl
theorem modPwr_def (f : PwrSt → PwrSt) : s.modPwr f = s.setPwr (f s.pwr) := rfl
@[simp] theorem modPwr_pending (f : PwrSt → PwrSt) : (s.modPwr f).pending = s.pending := rfl
@[simp] theorem modPwr_regs (f : PwrSt → PwrSt) : (s.modPwr f).regs = s.regs := rfl
@[simp] theorem modPwr_host (f : PwrSt → PwrSt) : (s.modPwr f).host = s.host := rfl
@[simp] theorem modPwr_shepM (f : PwrSt → PwrSt) : (s.modPwr f).shepM = s.shepM := rfl
@[simp] theorem modPwr_reply (f : PwrSt → PwrSt) : (s.modPwr f).reply = s.reply := rfl
@[simp] theorem modPwr_free (f : PwrSt → PwrSt) : (s.modPwr f).free = s.free := rfl
@[simp] theorem modPwr_tb (f : PwrSt → PwrSt) : (s.modPwr f).tb = s.tb := rfl
@[simp] theorem modPwr_cmd (f : PwrSt → PwrSt) : (s.modPwr f).cmd = s.cmd := rfl
@[simp] theorem modPwr_pcie (f : PwrSt → PwrSt) : (s.modPwr f).pcie = s.pcie := rfl
@[simp] theorem modPwr_drov (f : PwrSt → PwrSt) : (s.modPwr f).drov = s.drov := rfl
@[simp] theorem modPwr_log (f : PwrSt → PwrSt) : (s.modPwr f).log = s.log := rfl
@[simp] theorem modPwr_mem (f : PwrSt → PwrSt) : (s.modPwr f).mem = s.mem := rfl
@[simp] theorem modPwr_eq (f : PwrSt → PwrSt) : (s.modPwr f).eq = s.eq := rfl
@[simp] theorem modPwr_deck (f : PwrSt → PwrSt) : (s.modPwr f).deck = s.deck := rfl
@[simp] theorem modPwr_ingest (f : PwrSt → PwrSt) : (s.modPwr f).ingest = s.ingest := rfl
@[simp] theorem modPwr_recog (f : PwrSt → PwrSt) : (s.modPwr f).recog = s.recog := rfl
@[simp] theorem modPwr_flock (f : PwrSt → PwrSt) : (s.modPwr f).flock = s.flock := rfl
@[simp] theorem modPwr_hands (f : PwrSt → PwrSt) : (s.modPwr f).hands = s.hands := rfl
@[simp] theorem modPwr_trig (f : PwrSt → PwrSt) : (s.modPwr f).trig = s.trig := rfl
@[simp] theorem modPwr_folds (f : PwrSt → PwrSt) : (s.modPwr f).folds = s.folds := rfl
@[simp] theorem modPwr_comp (f : PwrSt → PwrSt) : (s.modPwr f).comp = s.comp := rfl
@[simp] theorem modPwr_pgen (f : PwrSt → PwrSt) : (s.modPwr f).pgen = s.pgen := rfl
@[simp] theorem modPwr_checkers (f : PwrSt → PwrSt) : (s.modPwr f).checkers = s.checkers := rfl
@[simp] theorem modPwr_tins (f : PwrSt → PwrSt) : (s.modPwr f).tins = s.tins := rfl
@[simp] theorem modPwr_dac (f : PwrSt → PwrSt) : (s.modPwr f).dac = s.dac := rfl
@[simp] theorem modPwr_link (f : PwrSt → PwrSt) : (s.modPwr f).link = s.link := rfl
@[simp] theorem modPwr_pwr (f : PwrSt → PwrSt) : (s.modPwr f).pwr = f s.pwr := rfl
@[simp] theorem modPwr_shep (f : PwrSt → PwrSt) : (s.modPwr f).shep = s.shep := rfl
@[simp] theorem modPwr_sec (f : PwrSt → PwrSt) : (s.modPwr f).sec = s.sec := rfl
@[simp] theorem setShep_pending (x : ShepSt) : (s.setShep x).pending = s.pending := rfl
@[simp] theorem setShep_regs (x : ShepSt) : (s.setShep x).regs = s.regs := rfl
@[simp] theorem setShep_host (x : ShepSt) : (s.setShep x).host = s.host := rfl
@[simp] theorem setShep_shepM (x : ShepSt) : (s.setShep x).shepM = s.shepM := rfl
@[simp] theorem setShep_reply (x : ShepSt) : (s.setShep x).reply = s.reply := rfl
@[simp] theorem setShep_free (x : ShepSt) : (s.setShep x).free = s.free := rfl
@[simp] theorem setShep_tb (x : ShepSt) : (s.setShep x).tb = s.tb := rfl
@[simp] theorem setShep_cmd (x : ShepSt) : (s.setShep x).cmd = s.cmd := rfl
@[simp] theorem setShep_pcie (x : ShepSt) : (s.setShep x).pcie = s.pcie := rfl
@[simp] theorem setShep_drov (x : ShepSt) : (s.setShep x).drov = s.drov := rfl
@[simp] theorem setShep_log (x : ShepSt) : (s.setShep x).log = s.log := rfl
@[simp] theorem setShep_mem (x : ShepSt) : (s.setShep x).mem = s.mem := rfl
@[simp] theorem setShep_eq (x : ShepSt) : (s.setShep x).eq = s.eq := rfl
@[simp] theorem setShep_deck (x : ShepSt) : (s.setShep x).deck = s.deck := rfl
@[simp] theorem setShep_ingest (x : ShepSt) : (s.setShep x).ingest = s.ingest := rfl
@[simp] theorem setShep_recog (x : ShepSt) : (s.setShep x).recog = s.recog := rfl
@[simp] theorem setShep_flock (x : ShepSt) : (s.setShep x).flock = s.flock := rfl
@[simp] theorem setShep_hands (x : ShepSt) : (s.setShep x).hands = s.hands := rfl
@[simp] theorem setShep_trig (x : ShepSt) : (s.setShep x).trig = s.trig := rfl
@[simp] theorem setShep_folds (x : ShepSt) : (s.setShep x).folds = s.folds := rfl
@[simp] theorem setShep_comp (x : ShepSt) : (s.setShep x).comp = s.comp := rfl
@[simp] theorem setShep_pgen (x : ShepSt) : (s.setShep x).pgen = s.pgen := rfl
@[simp] theorem setShep_checkers (x : ShepSt) : (s.setShep x).checkers = s.checkers := rfl
@[simp] theorem setShep_tins (x : ShepSt) : (s.setShep x).tins = s.tins := rfl
@[simp] theorem setShep_dac (x : ShepSt) : (s.setShep x).dac = s.dac := rfl
@[simp] theorem setShep_link (x : ShepSt) : (s.setShep x).link = s.link := rfl
@[simp] theorem setShep_pwr (x : ShepSt) : (s.setShep x).pwr = s.pwr := rfl
@[simp] theorem setShep_shep (x : ShepSt) : (s.setShep x).shep = x := rfl
@[simp] theorem setShep_sec (x : ShepSt) : (s.setShep x).sec = s.sec := rfl
theorem modShep_def (f : ShepSt → ShepSt) : s.modShep f = s.setShep (f s.shep) := rfl
@[simp] theorem modShep_pending (f : ShepSt → ShepSt) : (s.modShep f).pending = s.pending := rfl
@[simp] theorem modShep_regs (f : ShepSt → ShepSt) : (s.modShep f).regs = s.regs := rfl
@[simp] theorem modShep_host (f : ShepSt → ShepSt) : (s.modShep f).host = s.host := rfl
@[simp] theorem modShep_shepM (f : ShepSt → ShepSt) : (s.modShep f).shepM = s.shepM := rfl
@[simp] theorem modShep_reply (f : ShepSt → ShepSt) : (s.modShep f).reply = s.reply := rfl
@[simp] theorem modShep_free (f : ShepSt → ShepSt) : (s.modShep f).free = s.free := rfl
@[simp] theorem modShep_tb (f : ShepSt → ShepSt) : (s.modShep f).tb = s.tb := rfl
@[simp] theorem modShep_cmd (f : ShepSt → ShepSt) : (s.modShep f).cmd = s.cmd := rfl
@[simp] theorem modShep_pcie (f : ShepSt → ShepSt) : (s.modShep f).pcie = s.pcie := rfl
@[simp] theorem modShep_drov (f : ShepSt → ShepSt) : (s.modShep f).drov = s.drov := rfl
@[simp] theorem modShep_log (f : ShepSt → ShepSt) : (s.modShep f).log = s.log := rfl
@[simp] theorem modShep_mem (f : ShepSt → ShepSt) : (s.modShep f).mem = s.mem := rfl
@[simp] theorem modShep_eq (f : ShepSt → ShepSt) : (s.modShep f).eq = s.eq := rfl
@[simp] theorem modShep_deck (f : ShepSt → ShepSt) : (s.modShep f).deck = s.deck := rfl
@[simp] theorem modShep_ingest (f : ShepSt → ShepSt) : (s.modShep f).ingest = s.ingest := rfl
@[simp] theorem modShep_recog (f : ShepSt → ShepSt) : (s.modShep f).recog = s.recog := rfl
@[simp] theorem modShep_flock (f : ShepSt → ShepSt) : (s.modShep f).flock = s.flock := rfl
@[simp] theorem modShep_hands (f : ShepSt → ShepSt) : (s.modShep f).hands = s.hands := rfl
@[simp] theorem modShep_trig (f : ShepSt → ShepSt) : (s.modShep f).trig = s.trig := rfl
@[simp] theorem modShep_folds (f : ShepSt → ShepSt) : (s.modShep f).folds = s.folds := rfl
@[simp] theorem modShep_comp (f : ShepSt → ShepSt) : (s.modShep f).comp = s.comp := rfl
@[simp] theorem modShep_pgen (f : ShepSt → ShepSt) : (s.modShep f).pgen = s.pgen := rfl
@[simp] theorem modShep_checkers (f : ShepSt → ShepSt) : (s.modShep f).checkers = s.checkers := rfl
@[simp] theorem modShep_tins (f : ShepSt → ShepSt) : (s.modShep f).tins = s.tins := rfl
@[simp] theorem modShep_dac (f : ShepSt → ShepSt) : (s.modShep f).dac = s.dac := rfl
@[simp] theorem modShep_link (f : ShepSt → ShepSt) : (s.modShep f).link = s.link := rfl
@[simp] theorem modShep_pwr (f : ShepSt → ShepSt) : (s.modShep f).pwr = s.pwr := rfl
@[simp] theorem modShep_shep (f : ShepSt → ShepSt) : (s.modShep f).shep = f s.shep := rfl
@[simp] theorem modShep_sec (f : ShepSt → ShepSt) : (s.modShep f).sec = s.sec := rfl
@[simp] theorem setSec_pending (x : SecSt) : (s.setSec x).pending = s.pending := rfl
@[simp] theorem setSec_regs (x : SecSt) : (s.setSec x).regs = s.regs := rfl
@[simp] theorem setSec_host (x : SecSt) : (s.setSec x).host = s.host := rfl
@[simp] theorem setSec_shepM (x : SecSt) : (s.setSec x).shepM = s.shepM := rfl
@[simp] theorem setSec_reply (x : SecSt) : (s.setSec x).reply = s.reply := rfl
@[simp] theorem setSec_free (x : SecSt) : (s.setSec x).free = s.free := rfl
@[simp] theorem setSec_tb (x : SecSt) : (s.setSec x).tb = s.tb := rfl
@[simp] theorem setSec_cmd (x : SecSt) : (s.setSec x).cmd = s.cmd := rfl
@[simp] theorem setSec_pcie (x : SecSt) : (s.setSec x).pcie = s.pcie := rfl
@[simp] theorem setSec_drov (x : SecSt) : (s.setSec x).drov = s.drov := rfl
@[simp] theorem setSec_log (x : SecSt) : (s.setSec x).log = s.log := rfl
@[simp] theorem setSec_mem (x : SecSt) : (s.setSec x).mem = s.mem := rfl
@[simp] theorem setSec_eq (x : SecSt) : (s.setSec x).eq = s.eq := rfl
@[simp] theorem setSec_deck (x : SecSt) : (s.setSec x).deck = s.deck := rfl
@[simp] theorem setSec_ingest (x : SecSt) : (s.setSec x).ingest = s.ingest := rfl
@[simp] theorem setSec_recog (x : SecSt) : (s.setSec x).recog = s.recog := rfl
@[simp] theorem setSec_flock (x : SecSt) : (s.setSec x).flock = s.flock := rfl
@[simp] theorem setSec_hands (x : SecSt) : (s.setSec x).hands = s.hands := rfl
@[simp] theorem setSec_trig (x : SecSt) : (s.setSec x).trig = s.trig := rfl
@[simp] theorem setSec_folds (x : SecSt) : (s.setSec x).folds = s.folds := rfl
@[simp] theorem setSec_comp (x : SecSt) : (s.setSec x).comp = s.comp := rfl
@[simp] theorem setSec_pgen (x : SecSt) : (s.setSec x).pgen = s.pgen := rfl
@[simp] theorem setSec_checkers (x : SecSt) : (s.setSec x).checkers = s.checkers := rfl
@[simp] theorem setSec_tins (x : SecSt) : (s.setSec x).tins = s.tins := rfl
@[simp] theorem setSec_dac (x : SecSt) : (s.setSec x).dac = s.dac := rfl
@[simp] theorem setSec_link (x : SecSt) : (s.setSec x).link = s.link := rfl
@[simp] theorem setSec_pwr (x : SecSt) : (s.setSec x).pwr = s.pwr := rfl
@[simp] theorem setSec_shep (x : SecSt) : (s.setSec x).shep = s.shep := rfl
@[simp] theorem setSec_sec (x : SecSt) : (s.setSec x).sec = x := rfl
theorem modSec_def (f : SecSt → SecSt) : s.modSec f = s.setSec (f s.sec) := rfl
@[simp] theorem modSec_pending (f : SecSt → SecSt) : (s.modSec f).pending = s.pending := rfl
@[simp] theorem modSec_regs (f : SecSt → SecSt) : (s.modSec f).regs = s.regs := rfl
@[simp] theorem modSec_host (f : SecSt → SecSt) : (s.modSec f).host = s.host := rfl
@[simp] theorem modSec_shepM (f : SecSt → SecSt) : (s.modSec f).shepM = s.shepM := rfl
@[simp] theorem modSec_reply (f : SecSt → SecSt) : (s.modSec f).reply = s.reply := rfl
@[simp] theorem modSec_free (f : SecSt → SecSt) : (s.modSec f).free = s.free := rfl
@[simp] theorem modSec_tb (f : SecSt → SecSt) : (s.modSec f).tb = s.tb := rfl
@[simp] theorem modSec_cmd (f : SecSt → SecSt) : (s.modSec f).cmd = s.cmd := rfl
@[simp] theorem modSec_pcie (f : SecSt → SecSt) : (s.modSec f).pcie = s.pcie := rfl
@[simp] theorem modSec_drov (f : SecSt → SecSt) : (s.modSec f).drov = s.drov := rfl
@[simp] theorem modSec_log (f : SecSt → SecSt) : (s.modSec f).log = s.log := rfl
@[simp] theorem modSec_mem (f : SecSt → SecSt) : (s.modSec f).mem = s.mem := rfl
@[simp] theorem modSec_eq (f : SecSt → SecSt) : (s.modSec f).eq = s.eq := rfl
@[simp] theorem modSec_deck (f : SecSt → SecSt) : (s.modSec f).deck = s.deck := rfl
@[simp] theorem modSec_ingest (f : SecSt → SecSt) : (s.modSec f).ingest = s.ingest := rfl
@[simp] theorem modSec_recog (f : SecSt → SecSt) : (s.modSec f).recog = s.recog := rfl
@[simp] theorem modSec_flock (f : SecSt → SecSt) : (s.modSec f).flock = s.flock := rfl
@[simp] theorem modSec_hands (f : SecSt → SecSt) : (s.modSec f).hands = s.hands := rfl
@[simp] theorem modSec_trig (f : SecSt → SecSt) : (s.modSec f).trig = s.trig := rfl
@[simp] theorem modSec_folds (f : SecSt → SecSt) : (s.modSec f).folds = s.folds := rfl
@[simp] theorem modSec_comp (f : SecSt → SecSt) : (s.modSec f).comp = s.comp := rfl
@[simp] theorem modSec_pgen (f : SecSt → SecSt) : (s.modSec f).pgen = s.pgen := rfl
@[simp] theorem modSec_checkers (f : SecSt → SecSt) : (s.modSec f).checkers = s.checkers := rfl
@[simp] theorem modSec_tins (f : SecSt → SecSt) : (s.modSec f).tins = s.tins := rfl
@[simp] theorem modSec_dac (f : SecSt → SecSt) : (s.modSec f).dac = s.dac := rfl
@[simp] theorem modSec_link (f : SecSt → SecSt) : (s.modSec f).link = s.link := rfl
@[simp] theorem modSec_pwr (f : SecSt → SecSt) : (s.modSec f).pwr = s.pwr := rfl
@[simp] theorem modSec_shep (f : SecSt → SecSt) : (s.modSec f).shep = s.shep := rfl
@[simp] theorem modSec_sec (f : SecSt → SecSt) : (s.modSec f).sec = f s.sec := rfl

end Sys2Proof.Machine.State
end

