-- ==== Sys2Proof/Laws/Frame.lean ====
section
/-!
SUPPORT. Frames: `State.hide` against each update of one part, and a frame of more parts from one of fewer.
-/

namespace Sys2Proof.Machine

theorem bit_of_sub {k m : Nat} (h : 2 ^ k &&& m = 2 ^ k) : m.testBit k = true := by
  have := congrArg (fun x => x.testBit k) h
  simpa [Nat.testBit_and, Nat.testBit_two_pow_self] using this
theorem bit_mono {T m k : Nat} (h : T &&& m = T) (hk : T.testBit k = true) : m.testBit k = true := by
  have := congrArg (fun x => x.testBit k) h
  simp only [Nat.testBit_and, hk, Bool.true_and] at this
  exact this
@[simp] theorem hide_ite {c : Prop} [Decidable c] (a b : State) (m : Nat) : (if c then a else b).hide m = if c then a.hide m else b.hide m := by
  split <;> rfl
@[simp] theorem hide_ite_fst {α : Type} {c : Prop} [Decidable c] (a b : State × α) (m : Nat) :
    (if c then a else b).1.hide m = if c then a.1.hide m else b.1.hide m := by split <;> rfl
theorem hide_if {c : Prop} [Decidable c] {a b k : State} {m : Nat} (h1 : a.hide m = k) (h2 : b.hide m = k) :
    (if c then a else b).hide m = k := by split <;> assumption
@[simp] theorem hide_foldl {α : Type} {m : Nat} (f : State → α → State) (h : ∀ s x, (f s x).hide m = s.hide m) (l : List α) :
    ∀ s, (l.foldl f s).hide m = s.hide m := by
  induction l with
  | nil => intro s; rfl
  | cons a t ih => intro s; simp [ih, h]
@[simp] theorem hide_foldr {α : Type} {m : Nat} (f : α → State → State) (h : ∀ x s, (f x s).hide m = s.hide m) (s : State) (l : List α) :
    (l.foldr f s).hide m = s.hide m := by
  induction l with
  | nil => rfl
  | cons a t ih => simp [ih, h]
@[simp] theorem hide_foldl_fst {α β : Type} {m : Nat} (f : State × β → α → State × β) (h : ∀ p x, (f p x).1.hide m = p.1.hide m) (l : List α) :
    ∀ p, (l.foldl f p).1.hide m = p.1.hide m := by
  induction l with
  | nil => intro s; rfl
  | cons a t ih => intro s; simp [ih, h]
theorem hide_mono {T m : Nat} {a b : State} (h : T &&& m = T) (e : a.hide T = b.hide T) : a.hide m = b.hide m := by
  have k (x : State) : (x.hide T).hide m = x.hide m := by
    have hb := fun j => bit_mono (k := j) h
    simp only [State.hide]
    congr 1
    · cases ht : T.testBit 0 <;> simp [hb, ht]
    · cases ht : T.testBit 1 <;> simp [hb, ht]
    · cases ht : T.testBit 2 <;> simp [hb, ht]
    · cases ht : T.testBit 3 <;> simp [hb, ht]
    · cases ht : T.testBit 4 <;> simp [hb, ht]
    · cases ht : T.testBit 5 <;> simp [hb, ht]
    · cases ht : T.testBit 6 <;> simp [hb, ht]
    · cases ht : T.testBit 7 <;> simp [hb, ht]
    · cases ht : T.testBit 8 <;> simp [hb, ht]
    · cases ht : T.testBit 9 <;> simp [hb, ht]
    · cases ht : T.testBit 10 <;> simp [hb, ht]
    · cases ht : T.testBit 11 <;> simp [hb, ht]
    · cases ht : T.testBit 12 <;> simp [hb, ht]
    · cases ht : T.testBit 13 <;> simp [hb, ht]
    · cases ht : T.testBit 14 <;> simp [hb, ht]
    · cases ht : T.testBit 15 <;> simp [hb, ht]
    · cases ht : T.testBit 16 <;> simp [hb, ht]
    · cases ht : T.testBit 17 <;> simp [hb, ht]
    · cases ht : T.testBit 18 <;> simp [hb, ht]
    · cases ht : T.testBit 19 <;> simp [hb, ht]
    · cases ht : T.testBit 20 <;> simp [hb, ht]
    · cases ht : T.testBit 21 <;> simp [hb, ht]
    · cases ht : T.testBit 22 <;> simp [hb, ht]
    · cases ht : T.testBit 23 <;> simp [hb, ht]
    · cases ht : T.testBit 24 <;> simp [hb, ht]
    · cases ht : T.testBit 25 <;> simp [hb, ht]
    · cases ht : T.testBit 26 <;> simp [hb, ht]
    · cases ht : T.testBit 27 <;> simp [hb, ht]
    · unfold SecSt.hide
      cases h1 : T.testBit 28 <;> cases h2 : T.testBit 29 <;> cases h3 : T.testBit 30 <;>
        cases g1 : m.testBit 28 <;> cases g2 : m.testBit 29 <;> cases g3 : m.testBit 30 <;>
        first | rfl | (exfalso; have k1 := hb 28; have k2 := hb 29; have k3 := hb 30; rw [h1, g1] at k1; rw [h2, g2] at k2; rw [h3, g3] at k3; revert k1 k2 k3; decide)
  rw [← k a, ← k b, e]
@[simp] theorem hide_modSec {m : Nat} (s : State) (f : SecSt → SecSt) (h : 268435456 &&& m = 268435456)
    (hf : ∀ x, (f x).life = x.life ∧ (f x).count = x.count) : (s.modSec f).hide m = s.hide m := by
  have := bit_of_sub (k := 28) h
  simp [State.hide, SecSt.hide, State.modSec, State.setSec, this, hf]
@[simp] theorem hide_setPending {m : Nat} (s : State) (x : List Instr) (h : 1 &&& m = 1) : (s.setPending x).hide m = s.hide m := by
  simp [State.hide, State.setPending, bit_of_sub (k := 0) h]
@[simp] theorem hide_setRegs {m : Nat} (s : State) (x : Tab Word) (h : 2 &&& m = 2) : (s.setRegs x).hide m = s.hide m := by
  simp [State.hide, State.setRegs, bit_of_sub (k := 1) h]
@[simp] theorem hide_modRegs {m : Nat} (s : State) (f : Tab Word → Tab Word) (h : 2 &&& m = 2) : (s.modRegs f).hide m = s.hide m := hide_setRegs s _ h
@[simp] theorem hide_setHost {m : Nat} (s : State) (x : MasterSt) (h : 4 &&& m = 4) : (s.setHost x).hide m = s.hide m := by
  simp [State.hide, State.setHost, bit_of_sub (k := 2) h]
@[simp] theorem hide_modHost {m : Nat} (s : State) (f : MasterSt → MasterSt) (h : 4 &&& m = 4) : (s.modHost f).hide m = s.hide m := hide_setHost s _ h
@[simp] theorem hide_setShepM {m : Nat} (s : State) (x : MasterSt) (h : 8 &&& m = 8) : (s.setShepM x).hide m = s.hide m := by
  simp [State.hide, State.setShepM, bit_of_sub (k := 3) h]
@[simp] theorem hide_modShepM {m : Nat} (s : State) (f : MasterSt → MasterSt) (h : 8 &&& m = 8) : (s.modShepM f).hide m = s.hide m := hide_setShepM s _ h
@[simp] theorem hide_setReply {m : Nat} (s : State) (x : Reply) (h : 16 &&& m = 16) : (s.setReply x).hide m = s.hide m := by
  simp [State.hide, State.setReply, bit_of_sub (k := 4) h]
@[simp] theorem hide_setFree {m : Nat} (s : State) (x : Nat) (h : 32 &&& m = 32) : (s.setFree x).hide m = s.hide m := by
  simp [State.hide, State.setFree, bit_of_sub (k := 5) h]
@[simp] theorem hide_setTb {m : Nat} (s : State) (x : TimeSt) (h : 64 &&& m = 64) : (s.setTb x).hide m = s.hide m := by
  simp [State.hide, State.setTb, bit_of_sub (k := 6) h]
@[simp] theorem hide_modTb {m : Nat} (s : State) (f : TimeSt → TimeSt) (h : 64 &&& m = 64) : (s.modTb f).hide m = s.hide m := hide_setTb s _ h
@[simp] theorem hide_setCmd {m : Nat} (s : State) (x : CmdSt) (h : 128 &&& m = 128) : (s.setCmd x).hide m = s.hide m := by
  simp [State.hide, State.setCmd, bit_of_sub (k := 7) h]
@[simp] theorem hide_modCmd {m : Nat} (s : State) (f : CmdSt → CmdSt) (h : 128 &&& m = 128) : (s.modCmd f).hide m = s.hide m := hide_setCmd s _ h
@[simp] theorem hide_setPcie {m : Nat} (s : State) (x : PcieSt) (h : 256 &&& m = 256) : (s.setPcie x).hide m = s.hide m := by
  simp [State.hide, State.setPcie, bit_of_sub (k := 8) h]
@[simp] theorem hide_modPcie {m : Nat} (s : State) (f : PcieSt → PcieSt) (h : 256 &&& m = 256) : (s.modPcie f).hide m = s.hide m := hide_setPcie s _ h
@[simp] theorem hide_setDrov {m : Nat} (s : State) (x : DrovSt) (h : 512 &&& m = 512) : (s.setDrov x).hide m = s.hide m := by
  simp [State.hide, State.setDrov, bit_of_sub (k := 9) h]
@[simp] theorem hide_modDrov {m : Nat} (s : State) (f : DrovSt → DrovSt) (h : 512 &&& m = 512) : (s.modDrov f).hide m = s.hide m := hide_setDrov s _ h
@[simp] theorem hide_setLog {m : Nat} (s : State) (x : LogSt) (h : 1024 &&& m = 1024) : (s.setLog x).hide m = s.hide m := by
  simp [State.hide, State.setLog, bit_of_sub (k := 10) h]
@[simp] theorem hide_modLog {m : Nat} (s : State) (f : LogSt → LogSt) (h : 1024 &&& m = 1024) : (s.modLog f).hide m = s.hide m := hide_setLog s _ h
@[simp] theorem hide_setMem {m : Nat} (s : State) (x : MemSt) (h : 2048 &&& m = 2048) : (s.setMem x).hide m = s.hide m := by
  simp [State.hide, State.setMem, bit_of_sub (k := 11) h]
@[simp] theorem hide_modMem {m : Nat} (s : State) (f : MemSt → MemSt) (h : 2048 &&& m = 2048) : (s.modMem f).hide m = s.hide m := hide_setMem s _ h
@[simp] theorem hide_setEq {m : Nat} (s : State) (x : Tab EqSt) (h : 4096 &&& m = 4096) : (s.setEq x).hide m = s.hide m := by
  simp [State.hide, State.setEq, bit_of_sub (k := 12) h]
@[simp] theorem hide_modEq {m : Nat} (s : State) (f : Tab EqSt → Tab EqSt) (h : 4096 &&& m = 4096) : (s.modEq f).hide m = s.hide m := hide_setEq s _ h
@[simp] theorem hide_setDeck {m : Nat} (s : State) (x : DeckSt) (h : 8192 &&& m = 8192) : (s.setDeck x).hide m = s.hide m := by
  simp [State.hide, State.setDeck, bit_of_sub (k := 13) h]
@[simp] theorem hide_modDeck {m : Nat} (s : State) (f : DeckSt → DeckSt) (h : 8192 &&& m = 8192) : (s.modDeck f).hide m = s.hide m := hide_setDeck s _ h
@[simp] theorem hide_setIngest {m : Nat} (s : State) (x : IngestSt) (h : 16384 &&& m = 16384) : (s.setIngest x).hide m = s.hide m := by
  simp [State.hide, State.setIngest, bit_of_sub (k := 14) h]
@[simp] theorem hide_modIngest {m : Nat} (s : State) (f : IngestSt → IngestSt) (h : 16384 &&& m = 16384) : (s.modIngest f).hide m = s.hide m := hide_setIngest s _ h
@[simp] theorem hide_setRecog {m : Nat} (s : State) (x : RecogSt) (h : 32768 &&& m = 32768) : (s.setRecog x).hide m = s.hide m := by
  simp [State.hide, State.setRecog, bit_of_sub (k := 15) h]
@[simp] theorem hide_modRecog {m : Nat} (s : State) (f : RecogSt → RecogSt) (h : 32768 &&& m = 32768) : (s.modRecog f).hide m = s.hide m := hide_setRecog s _ h
@[simp] theorem hide_setFlock {m : Nat} (s : State) (x : FlockSt) (h : 65536 &&& m = 65536) : (s.setFlock x).hide m = s.hide m := by
  simp [State.hide, State.setFlock, bit_of_sub (k := 16) h]
@[simp] theorem hide_modFlock {m : Nat} (s : State) (f : FlockSt → FlockSt) (h : 65536 &&& m = 65536) : (s.modFlock f).hide m = s.hide m := hide_setFlock s _ h
@[simp] theorem hide_setHands {m : Nat} (s : State) (x : Tab HandSt) (h : 131072 &&& m = 131072) : (s.setHands x).hide m = s.hide m := by
  simp [State.hide, State.setHands, bit_of_sub (k := 17) h]
@[simp] theorem hide_modHands {m : Nat} (s : State) (f : Tab HandSt → Tab HandSt) (h : 131072 &&& m = 131072) : (s.modHands f).hide m = s.hide m := hide_setHands s _ h
@[simp] theorem hide_setTrig {m : Nat} (s : State) (x : TrigSt) (h : 262144 &&& m = 262144) : (s.setTrig x).hide m = s.hide m := by
  simp [State.hide, State.setTrig, bit_of_sub (k := 18) h]
@[simp] theorem hide_modTrig {m : Nat} (s : State) (f : TrigSt → TrigSt) (h : 262144 &&& m = 262144) : (s.modTrig f).hide m = s.hide m := hide_setTrig s _ h
@[simp] theorem hide_setFolds {m : Nat} (s : State) (x : FoldsSt) (h : 524288 &&& m = 524288) : (s.setFolds x).hide m = s.hide m := by
  simp [State.hide, State.setFolds, bit_of_sub (k := 19) h]
@[simp] theorem hide_modFolds {m : Nat} (s : State) (f : FoldsSt → FoldsSt) (h : 524288 &&& m = 524288) : (s.modFolds f).hide m = s.hide m := hide_setFolds s _ h
@[simp] theorem hide_setComp {m : Nat} (s : State) (x : CompSt) (h : 1048576 &&& m = 1048576) : (s.setComp x).hide m = s.hide m := by
  simp [State.hide, State.setComp, bit_of_sub (k := 20) h]
@[simp] theorem hide_modComp {m : Nat} (s : State) (f : CompSt → CompSt) (h : 1048576 &&& m = 1048576) : (s.modComp f).hide m = s.hide m := hide_setComp s _ h
@[simp] theorem hide_setPgen {m : Nat} (s : State) (x : PgenSt) (h : 2097152 &&& m = 2097152) : (s.setPgen x).hide m = s.hide m := by
  simp [State.hide, State.setPgen, bit_of_sub (k := 21) h]
@[simp] theorem hide_modPgen {m : Nat} (s : State) (f : PgenSt → PgenSt) (h : 2097152 &&& m = 2097152) : (s.modPgen f).hide m = s.hide m := hide_setPgen s _ h
@[simp] theorem hide_setCheckers {m : Nat} (s : State) (x : Tab CheckerSt) (h : 4194304 &&& m = 4194304) : (s.setCheckers x).hide m = s.hide m := by
  simp [State.hide, State.setCheckers, bit_of_sub (k := 22) h]
@[simp] theorem hide_modCheckers {m : Nat} (s : State) (f : Tab CheckerSt → Tab CheckerSt) (h : 4194304 &&& m = 4194304) : (s.modCheckers f).hide m = s.hide m := hide_setCheckers s _ h
@[simp] theorem hide_setTins {m : Nat} (s : State) (x : TinsSt) (h : 8388608 &&& m = 8388608) : (s.setTins x).hide m = s.hide m := by
  simp [State.hide, State.setTins, bit_of_sub (k := 23) h]
@[simp] theorem hide_modTins {m : Nat} (s : State) (f : TinsSt → TinsSt) (h : 8388608 &&& m = 8388608) : (s.modTins f).hide m = s.hide m := hide_setTins s _ h
@[simp] theorem hide_setDac {m : Nat} (s : State) (x : Tab DacSt) (h : 16777216 &&& m = 16777216) : (s.setDac x).hide m = s.hide m := by
  simp [State.hide, State.setDac, bit_of_sub (k := 24) h]
@[simp] theorem hide_modDac {m : Nat} (s : State) (f : Tab DacSt → Tab DacSt) (h : 16777216 &&& m = 16777216) : (s.modDac f).hide m = s.hide m := hide_setDac s _ h
@[simp] theorem hide_setLink {m : Nat} (s : State) (x : Tab GroupLink) (h : 33554432 &&& m = 33554432) : (s.setLink x).hide m = s.hide m := by
  simp [State.hide, State.setLink, bit_of_sub (k := 25) h]
@[simp] theorem hide_modLink {m : Nat} (s : State) (f : Tab GroupLink → Tab GroupLink) (h : 33554432 &&& m = 33554432) : (s.modLink f).hide m = s.hide m := hide_setLink s _ h
@[simp] theorem hide_setPwr {m : Nat} (s : State) (x : PwrSt) (h : 67108864 &&& m = 67108864) : (s.setPwr x).hide m = s.hide m := by
  simp [State.hide, State.setPwr, bit_of_sub (k := 26) h]
@[simp] theorem hide_modPwr {m : Nat} (s : State) (f : PwrSt → PwrSt) (h : 67108864 &&& m = 67108864) : (s.modPwr f).hide m = s.hide m := hide_setPwr s _ h
@[simp] theorem hide_setShep {m : Nat} (s : State) (x : ShepSt) (h : 134217728 &&& m = 134217728) : (s.setShep x).hide m = s.hide m := by
  simp [State.hide, State.setShep, bit_of_sub (k := 27) h]
@[simp] theorem hide_modShep {m : Nat} (s : State) (f : ShepSt → ShepSt) (h : 134217728 &&& m = 134217728) : (s.modShep f).hide m = s.hide m := hide_setShep s _ h
theorem sub_trans {a T m : Nat} (h : a &&& T = a) (h2 : T &&& m = T) : a &&& m = a := by
  rw [← h, Nat.and_assoc, h2]

end Sys2Proof.Machine
end

