-- ==== Sys2Proof/Laws/FrameCapture.lean ====
section
/-!
SUPPORT. Frames of the operations: the commands and their queues, capture, the deck and the flock. Each lemma's mask says which parts (Safety.lean) the operation
can change; it leaves every other part.
-/

set_option linter.unusedVariables false
set_option linter.unusedSimpArgs false
namespace Sys2Proof.Machine

/-! Ops -/

@[simp] theorem wr_hide (s : State) (o : Nat) (v : Word) {m : Nat} (h_sub : 2 &&& m = 2) : (wr s o v).hide m = s.hide m :=
  hide_mono h_sub (by simp [wr])
@[simp] theorem wrF_hide (s : State) (o : Nat) (hi : Nat) (lo : Nat) (v : Nat) {m : Nat} (h_sub : 2 &&& m = 2) : (wrF s o hi lo v).hide m = s.hide m :=
  hide_mono h_sub (by simp [wrF])
@[simp] theorem wr64_hide (s : State) (o : Nat) (v : Nat) {m : Nat} (h_sub : 2 &&& m = 2) : (wr64 s o v).hide m = s.hide m :=
  hide_mono h_sub (by simp [wr64])
@[simp] theorem incCnt_hide (s : State) (o : Nat) (n : Nat) {m : Nat} (h_sub : 2 &&& m = 2) : (incCnt s o n).hide m = s.hide m :=
  hide_mono h_sub (by simp [incCnt])
@[simp] theorem capture_hide (s : State) (st : Nat) (b : Nat) (o : Nat) (v : Word) {m : Nat} (h_sub : 2 &&& m = 2) : (capture s st b o v).hide m = s.hide m :=
  hide_mono h_sub (by simp [capture])
@[simp] theorem logAdd_hide (s : State) (event : Nat) (cls : Nat) (src : Nat) (unit : Nat) (data : List Byte) {m : Nat} (h_sub : 1024 &&& m = 1024) : (logAdd s event cls src unit data).hide m = s.hide m :=
  hide_mono h_sub (by simp [logAdd])
@[simp] theorem logError_hide (s : State) (o : Nat) (b : Nat) (cls : Nat) (src : Nat) (cell : Nat) {m : Nat} (h_sub : 1024 &&& m = 1024) : (logError s o b cls src cell).hide m = s.hide m :=
  hide_mono h_sub (by simp [logError])
@[simp] theorem logThreshold_hide (s : State) (o : Nat) (src : Nat) (cell : Nat) (count : Nat) {m : Nat} (h_sub : 1024 &&& m = 1024) : (logThreshold s o src cell count).hide m = s.hide m :=
  hide_mono h_sub (by simp [logThreshold])
@[simp] theorem reportCells_hide (s : State) (block : Nat) (quar cells : List Nat) (report : State → Nat → State) {m : Nat}
    (h_report : ∀ s x, (report s x).hide m = s.hide m) (h_sub : 1024 &&& m = 1024) :
    (reportCells s block quar cells report).hide m = s.hide m := by
  unfold reportCells; dsimp only
  split <;> simp [h_report, h_sub]

@[simp] theorem wearAdd_hide (s : State) (kind : Nat) (unit : Nat) (value : Nat) {m : Nat} (h_sub : 134217728 &&& m = 134217728) : (wearAdd s kind unit value).hide m = s.hide m :=
  hide_mono h_sub (by simp [wearAdd])
@[simp] theorem precursor_hide (s : State) (unit : Nat) {m : Nat} (h_sub : 134217728 &&& m = 134217728) : (precursor s unit).hide m = s.hide m :=
  hide_mono h_sub (by simp [precursor])
@[simp] theorem useFree_hide (s : State) {m : Nat} (h_sub : 32 &&& m = 32) : (useFree s).hide m = s.hide m :=
  hide_mono h_sub (by simp [useFree])

/-! Flags -/

@[simp] theorem irqEdge_hide (s : State) {m : Nat} (h_sub : 258 &&& m = 258) : (irqEdge s).hide m = s.hide m :=
  hide_mono h_sub (by simp [irqEdge])
@[simp] theorem withRegs_hide (s : State) (r : Tab Word) {m : Nat} (h_sub : 258 &&& m = 258) : (withRegs s r).hide m = s.hide m :=
  hide_mono h_sub (by simp [withRegs])
@[simp] theorem raise_hide (s : State) (o : Nat) (mask : Word) {m : Nat} (h_sub : 258 &&& m = 258) : (raise s o mask).hide m = s.hide m :=
  hide_mono h_sub (by simp [raise])
@[simp] theorem raiseBit_hide (s : State) (o : Nat) (b : Nat) {m : Nat} (h_sub : 258 &&& m = 258) : (raiseBit s o b).hide m = s.hide m :=
  hide_mono h_sub (by simp [raiseBit])
@[simp] theorem raiseErr_hide (s : State) (o : Nat) (b : Nat) (cls : Nat) (src : Nat) (cell : Nat) {m : Nat} (h_sub : 1282 &&& m = 1282) : (raiseErr s o b cls src cell).hide m = s.hide m :=
  hide_mono h_sub (by simp [raiseErr])
@[simp] theorem raiseLeaf_hide (s : State) (m : Nat) (i : Nat) {k : Nat} (h_sub : 258 &&& k = 258) : (raiseLeaf s m i).hide k = s.hide k :=
  hide_mono h_sub (by simp [raiseLeaf])
@[simp] theorem raiseEngine_hide (s : State) (p : Nat) {m : Nat} (h_sub : 258 &&& m = 258) : (raiseEngine s p).hide m = s.hide m :=
  hide_mono h_sub (by simp [raiseEngine])
@[simp] theorem setBlkState_hide (s : State) (o : Nat) (v : Nat) {m : Nat} (h_sub : 2 &&& m = 2) : (setBlkState s o v).hide m = s.hide m :=
  hide_mono h_sub (by simp [setBlkState])

/-! Operands -/

@[simp] theorem settleHbm_hide (s : State) (a : Nat) (n : Nat) {m : Nat} (h_sub : 2048 &&& m = 2048) : (settleHbm s a n).hide m = s.hide m :=
  hide_mono h_sub (by simp [settleHbm])
@[simp] theorem putBuf_hide (s : State) (l : List Seg) (bs : List Byte) {m : Nat} (h_sub : 2048 &&& m = 2048) : (putBuf s l bs).hide m = s.hide m :=
  hide_mono h_sub (by simp [putBuf])
@[simp] theorem putHost_hide (s : State) (a : Nat) (bs : List Byte) {m : Nat} (h_sub : 2048 &&& m = 2048) : (putHost s a bs).hide m = s.hide m :=
  hide_mono h_sub (by simp [putHost])
@[simp] theorem putHbm_hide (s : State) (a : Nat) (bs : List Byte) {m : Nat} (h_sub : 2048 &&& m = 2048) : (putHbm s a bs).hide m = s.hide m :=
  hide_mono h_sub (by simp [putHbm])

/-! Command -/

@[simp] theorem complete_hide (s : State) (ring : Fin 16) (cid : BitVec 16) (op : Nat) (status : Nat) (result : Nat) (result2 : Nat) {m : Nat} (h_sub : 1152 &&& m = 1152) : (complete s ring cid op status result result2).hide m = s.hide m :=
  hide_mono h_sub (by simp [complete])
@[simp] theorem completeTime_hide (s : State) (ring : Fin 16) (cid : BitVec 16) (op : Nat) (status : Nat) (t : Time) {m : Nat} (h_sub : 1152 &&& m = 1152) : (completeTime s ring cid op status t).hide m = s.hide m :=
  hide_mono h_sub (by simp [completeTime])
@[simp] theorem dropCmd_hide (s : State) (ring : Fin 16) (cid : BitVec 16) {m : Nat} (h_sub : 128 &&& m = 128) : (dropCmd s ring cid).hide m = s.hide m :=
  hide_mono h_sub (by simp [dropCmd])
@[simp] theorem finish_hide (s : State) (h : CmdHdr) (op : Nat) (status : Nat) (result : Nat) (result2 : Nat) {m : Nat} (h_sub : 1152 &&& m = 1152) : (finish s h op status result result2).hide m = s.hide m :=
  hide_mono h_sub (by simp [finish])
@[simp] theorem refuse_hide (s : State) (h : CmdHdr) (op : Nat) (status : Nat) (result : Nat) {m : Nat} (h_sub : 1152 &&& m = 1152) : (refuse s h op status result).hide m = s.hide m :=
  hide_mono h_sub (by simp [refuse])
@[simp] theorem keepRunning_hide (s : State) (h : CmdHdr) (op : Nat) (obj : Nat) (aux : Nat) {m : Nat} (h_sub : 128 &&& m = 128) : (keepRunning s h op obj aux).hide m = s.hide m :=
  hide_mono h_sub (by simp [keepRunning])
@[simp] theorem discard_hide (s : State) (ring : Fin 16) (cid : BitVec 16) {m : Nat} (h_sub : 128 &&& m = 128) : (discard s ring cid).hide m = s.hide m :=
  hide_mono h_sub (by simp [discard])
@[simp] theorem endRun_hide (s : State) (ring : Fin 16) (cid : BitVec 16) (status : Nat) (result : Nat) (result2 : Nat) {m : Nat} (h_sub : 1152 &&& m = 1152) : (endRun s ring cid status result result2).hide m = s.hide m :=
  hide_mono h_sub (by unfold endRun; (repeat' split) <;> simp)
@[simp] theorem endRunTime_hide (s : State) (ring : Fin 16) (cid : BitVec 16) (status : Nat) (t : Time) {m : Nat} (h_sub : 1152 &&& m = 1152) : (endRunTime s ring cid status t).hide m = s.hide m :=
  hide_mono h_sub (by simp [endRunTime])
@[simp] theorem arrive_hide (h : CmdHdr) (op : Nat) (ready : Bool) (s : State) {m : Nat} (h_sub : 1152 &&& m = 1152) : (arrive h op ready s).1.hide m = s.hide m :=
  hide_mono h_sub (by simp [arrive])
@[simp] theorem beginWake_hide (s : State) {m : Nat} (h_sub : 2 &&& m = 2) : (beginWake s).hide m = s.hide m :=
  hide_mono h_sub (by simp [beginWake])
@[simp] theorem startCmd_hide (h : CmdHdr) (c : Checks) (wake : Option Instr) (body : State → State) (s : State) {m : Nat} (h_body : ∀ s, (body s).hide m = s.hide m) (h_sub : 67110018 &&& m = 67110018) : (startCmd h c wake body s).hide m = s.hide m := by have e0 := sub_trans (a := 2) rfl h_sub; have e1 := sub_trans (a := 128) rfl h_sub; have e2 := sub_trans (a := 1152) rfl h_sub; have e3 := sub_trans (a := 67108864) rfl h_sub; unfold startCmd; dsimp only; (repeat' split) <;> simp [h_body, e0, e1, e2, e3]
@[simp] theorem wakeCmd_hide (h : CmdHdr) (body : State → State) (s : State) {m : Nat} (h_body : ∀ s, (body s).hide m = s.hide m) (h_sub : 128 &&& m = 128) : (wakeCmd h body s).hide m = s.hide m := by have e0 := sub_trans (a := 128) rfl h_sub; simp [wakeCmd, h_body, e0]

/-! Busy -/

@[simp] theorem setHand_hide (s : State) (h : Nat) (x : HandSt) {m : Nat} (h_sub : 131072 &&& m = 131072) : (setHand s h x).hide m = s.hide m :=
  hide_mono h_sub (by simp [setHand])
@[simp] theorem setGrp_hide (s : State) (g : Nat) (x : GroupSt) {m : Nat} (h_sub : 524288 &&& m = 524288) : (setGrp s g x).hide m = s.hide m :=
  hide_mono h_sub (by simp [setGrp])
@[simp] theorem setFold_hide (s : State) (f : Nat) (x : FoldSt) {m : Nat} (h_sub : 524288 &&& m = 524288) : (setFold s f x).hide m = s.hide m :=
  hide_mono h_sub (by simp [setFold])
@[simp] theorem setEqSt_hide (s : State) (q : Nat) (x : EqSt) {m : Nat} (h_sub : 4096 &&& m = 4096) : (setEqSt s q x).hide m = s.hide m :=
  hide_mono h_sub (by simp [setEqSt])
@[simp] theorem setChecker_hide (s : State) (n : Nat) (x : CheckerSt) {m : Nat} (h_sub : 4194304 &&& m = 4194304) : (setChecker s n x).hide m = s.hide m :=
  hide_mono h_sub (by simp [setChecker])
@[simp] theorem setDacSt_hide (s : State) (ch : Nat) (x : DacSt) {m : Nat} (h_sub : 16777216 &&& m = 16777216) : (setDacSt s ch x).hide m = s.hide m :=
  hide_mono h_sub (by simp [setDacSt])
@[simp] theorem setLinkSt_hide (s : State) (g : Nat) (x : GroupLink) {m : Nat} (h_sub : 33554432 &&& m = 33554432) : (setLinkSt s g x).hide m = s.hide m :=
  hide_mono h_sub (by simp [setLinkSt])
@[simp] theorem setTin_hide (s : State) (n : Nat) (x : TinSt) {m : Nat} (h_sub : 8388608 &&& m = 8388608) : (setTin s n x).hide m = s.hide m :=
  hide_mono h_sub (by simp [setTin])
@[simp] theorem setMeas_hide (s : State) (u : Nat) (x : MeasSt) {m : Nat} (h_sub : 8388608 &&& m = 8388608) : (setMeas s u x).hide m = s.hide m :=
  hide_mono h_sub (by simp [setMeas])
@[simp] theorem setCq_hide (s : State) (n : Nat) (x : CqSt) {m : Nat} (h_sub : 128 &&& m = 128) : (setCq s n x).hide m = s.hide m :=
  hide_mono h_sub (by simp [setCq])
@[simp] theorem setPosVoid_hide (s : State) (p : Nat) (b : Bool) {m : Nat} (h_sub : 2 &&& m = 2) : (setPosVoid s p b).hide m = s.hide m :=
  hide_mono h_sub (by simp [setPosVoid])
@[simp] theorem wakeStacks_hide (s : State) (ns : List Nat) {m : Nat} (h_sub : 258 &&& m = 258) : (wakeStacks s ns).hide m = s.hide m :=
  hide_mono h_sub (by simp [wakeStacks])
@[simp] theorem deliver_hide (s : State) (dest : BitVec 64) (bs : List Byte) {m : Nat} (h_sub : 2048 &&& m = 2048) : (deliver s dest bs).1.hide m = s.hide m :=
  hide_mono h_sub (by simp [deliver])
theorem pickFree_hide (s : State) (l : List Nat) (r : Nat × State) (h : pickFree s l = some r) {m : Nat} (h_sub : 32 &&& m = 32) : r.2.hide m = s.hide m :=
  hide_mono h_sub <| by
  unfold pickFree at h; split at h
  · cases h
  · cases h; simp

@[simp] theorem drove_hide (s : State) (n : Nat) {m : Nat} (h_sub : 34 &&& m = 34) : (drove s n).hide m = s.hide m := hide_mono h_sub <| by
  unfold drove; split
  · rfl
  · rename_i h; rw [wr64_hide (m := 34) (h_sub := rfl)]; exact pickFree_hide _ _ _ h rfl

@[simp] theorem carry_hide (h : CmdHdr) (op : Nat) (obj : Nat) (i : Instr) (go : State → State) (s : State) {m : Nat} (h_go : ∀ s, (go s).hide m = s.hide m) (h_sub : 640 &&& m = 640) : (carry h op obj i go s).hide m = s.hide m := by have e0 := sub_trans (a := 128) rfl h_sub; have e1 := sub_trans (a := 512) rfl h_sub; simp [carry, h_go, e0, e1]

/-! Timebase -/

@[simp] theorem logCoarse_hide (s : State) (b : Nat) {m : Nat} (h_sub : 1024 &&& m = 1024) : (logCoarse s b).hide m = s.hide m :=
  hide_mono h_sub (by simp [logCoarse])
@[simp] theorem stopTbase_hide (s : State) {m : Nat} (h_sub : 1346 &&& m = 1346) : (stopTbase s).hide m = s.hide m :=
  hide_mono h_sub (by simp [stopTbase])
@[simp] theorem startTbase_hide (s : State) {m : Nat} (h_sub : 1088 &&& m = 1088) : (startTbase s).hide m = s.hide m :=
  hide_mono h_sub (by simp [startTbase])
@[simp] theorem loadTime_hide (s : State) (t : Time) (bits : Word) {m : Nat} (h_sub : 1346 &&& m = 1346) : (loadTime s t bits).hide m = s.hide m :=
  hide_mono h_sub (by simp [loadTime])
@[simp] theorem setTimeBody_hide (h : CmdHdr) (mode : Byte) (time : BitVec 96) (s : State) {m : Nat} (h_sub : 1474 &&& m = 1474) : (setTimeBody h mode time s).hide m = s.hide m :=
  hide_mono h_sub (by simp [setTimeBody])
@[simp] theorem syncInEdge_hide (falling : Bool) (t : Time) (held : Nat) (s : State) {m : Nat} (h_sub : 322 &&& m = 322) : (syncInEdge falling t held s).hide m = s.hide m :=
  hide_mono h_sub (by unfold syncInEdge; (repeat' split) <;> simp)
@[simp] theorem syncOutPulse_hide (s : State) {m : Nat} (h_sub : 64 &&& m = 64) : (syncOutPulse s).hide m = s.hide m :=
  hide_mono h_sub (by simp [syncOutPulse])
@[simp] theorem syncOutEnd_hide (s : State) {m : Nat} (h_sub : 64 &&& m = 64) : (syncOutEnd s).hide m = s.hide m :=
  hide_mono h_sub (by simp [syncOutEnd])

/-! Device -/

@[simp] theorem identifyBody_hide (h : CmdHdr) (dest : BitVec 64) (s : State) {m : Nat} (h_sub : 3232 &&& m = 3232) : (identifyBody h dest s).hide m = s.hide m :=
  hide_mono h_sub (by simp [identifyBody])
@[simp] theorem getLogGo_hide (h : CmdHdr) (log : Byte) (max : BitVec 32) (fromSeq : BitVec 64) (dest : BitVec 64) (s : State) {m : Nat} (h_sub : 3234 &&& m = 3234) : (getLogGo h log max fromSeq dest s).hide m = s.hide m :=
  hide_mono h_sub (by simp [getLogGo])
@[simp] theorem getLogBody_hide (h : CmdHdr) (log : Byte) (max : BitVec 32) (fromSeq : BitVec 64) (dest : BitVec 64) (s : State) {m : Nat} (h_sub : 3746 &&& m = 3746) : (getLogBody h log max fromSeq dest s).hide m = s.hide m :=
  hide_mono h_sub (by simp [getLogBody])

/-! Queues -/

@[simp] theorem eqUpdate_hide (s : State) (q : Nat) (e : EqSt) (e' : EqSt) {m : Nat} (h_sub : 4354 &&& m = 4354) : (eqUpdate s q e e').hide m = s.hide m :=
  hide_mono h_sub (by simp [eqUpdate])
@[simp] theorem eqWord_hide (s : State) (q : Nat) (owner : BitVec 12) (w : Word) (bytes : Nat) {m : Nat} (h_sub : 4354 &&& m = 4354) : (eqWord s q owner w bytes).1.hide m = s.hide m :=
  hide_mono h_sub (by unfold eqWord; dsimp only; (repeat' split) <;> simp)
theorem eqItem_frame (q : Nat) (owner : BitVec 12) : ∀ (ws : List Word) (s : State), (eqItem s q owner ws).1.hide 4354 = s.hide 4354
  | [], s => rfl
  | [w], s => by show (eqWord s q owner w 4).1.hide 4354 = _; rw [eqWord_hide (m := 4354) (h_sub := rfl)]
  | w :: v :: t, s => by
    show (eqItem (eqWord s q owner w 0).1 q owner (v :: t)).1.hide 4354 = _
    rw [eqItem_frame, eqWord_hide (m := 4354) (h_sub := rfl)]
@[simp] theorem eqItem_hide (s : State) (q : Nat) (owner : BitVec 12) (ws : List Word) {m : Nat} (h_sub : 4354 &&& m = 4354) :
    (eqItem s q owner ws).1.hide m = s.hide m := hide_mono h_sub (eqItem_frame ..)

@[simp] theorem eqClear_hide (s : State) (q : Nat) {m : Nat} (h_sub : 4096 &&& m = 4096) : (eqClear s q).hide m = s.hide m :=
  hide_mono h_sub (by simp [eqClear])

/-! Blocks -/

@[simp] theorem setEn_hide (s : State) (o : Nat) (b : Bool) {m : Nat} (h_sub : 2 &&& m = 2) : (setEn s o b).hide m = s.hide m :=
  hide_mono h_sub (by simp [setEn])
@[simp] theorem writeEn_hide (s : State) (o : Nat) (b : Bool) {m : Nat} (h_sub : 2 &&& m = 2) : (writeEn s o b).hide m = s.hide m :=
  hide_mono h_sub (by simp [writeEn])
@[simp] theorem enableNow_hide (s : State) (o : Nat) {m : Nat} (h_sub : 2 &&& m = 2) : (enableNow s o).hide m = s.hide m :=
  hide_mono h_sub (by simp [enableNow])
@[simp] theorem bankLose_hide (s : State) (r : Nat) (b : Nat) {m : Nat} (h_sub : 2048 &&& m = 2048) : (bankLose s r b).hide m = s.hide m :=
  hide_mono h_sub (by simp [bankLose])
@[simp] theorem setBank_hide (s : State) (r : Nat) (b : Nat) (v : Nat) {m : Nat} (h_sub : 2050 &&& m = 2050) : (setBank s r b v).hide m = s.hide m :=
  hide_mono h_sub (by simp [setBank])
@[simp] theorem setBanks_hide (s : State) (l : List (Nat × Nat)) (v : Nat) {m : Nat} (h_sub : 2050 &&& m = 2050) : (setBanks s l v).hide m = s.hide m :=
  hide_mono h_sub (by simp [setBanks])

/-! Recog -/

@[simp] theorem setCounter_hide (s : State) (n : Nat) (c : CounterSt) {m : Nat} (h_sub : 32768 &&& m = 32768) : (setCounter s n c).hide m = s.hide m :=
  hide_mono h_sub (by simp [setCounter])
@[simp] theorem setTimer_hide (s : State) (n : Nat) (t : TimerSt) {m : Nat} (h_sub : 32768 &&& m = 32768) : (setTimer s n t).hide m = s.hide m :=
  hide_mono h_sub (by simp [setTimer])
@[simp] theorem stepN_hide {m : Nat} (f : Nat → State → State) (h : ∀ i s, (f i s).hide m = s.hide m) : ∀ n i s, (stepN f i n s).hide m = s.hide m := by
  intro n; induction n with
  | zero => intro i s; rfl
  | succ n ih => intro i s; simp [stepN, h, ih]

@[simp] theorem advCounter_hide (d : DeckImage) (i : Sample) (s : State) (n : Nat) {m : Nat} (h_sub : 33026 &&& m = 33026) : (advCounter d i s n).hide m = s.hide m :=
  hide_mono h_sub (by simp [advCounter])
@[simp] theorem advTimer_hide (d : DeckImage) (i : Sample) (s : State) (n : Nat) {m : Nat} (h_sub : 32768 &&& m = 32768) : (advTimer d i s n).hide m = s.hide m :=
  hide_mono h_sub (by simp [advTimer])
@[simp] theorem advUnits_hide (d : DeckImage) (cs : List Nat) (ts : List Nat) (i : Sample) (s : State) {m : Nat} (h_sub : 33026 &&& m = 33026) : (advUnits d cs ts i s).hide m = s.hide m :=
  hide_mono h_sub (by simp [advUnits])
@[simp] theorem noteEval_hide (s : State) (d : DeckImage) (i : Sample) {m : Nat} (h_sub : 33026 &&& m = 33026) : (noteEval s d i).hide m = s.hide m := hide_mono h_sub <| by
  unfold noteEval; dsimp only; split <;> simp

@[simp] theorem countLate_hide (s : State) {m : Nat} (h_sub : 1282 &&& m = 1282) : (countLate s).hide m = s.hide m :=
  hide_mono h_sub (by simp [countLate])
@[simp] theorem clearBy_hide (s0 : State) (d : DeckImage) (g : Nat) (i : Sample) {m : Nat} (h_sub : 33026 &&& m = 33026) : (clearBy s0 d g i).hide m = s0.hide m :=
  hide_mono h_sub (by simp [clearBy])
@[simp] theorem counterFeedLate_hide (n : Nat) (i : Sample) (inc : Nat) (s : State) (d : DeckImage) {m : Nat} (h_sub : 34050 &&& m = 34050) : (counterFeedLate n i inc s d).hide m = s.hide m :=
  hide_mono h_sub (by simp [counterFeedLate])
@[simp] theorem sliceFails_hide (r : Nat) (s : State) {m : Nat} (h_sub : 34050 &&& m = 34050) : (sliceFails r s).hide m = s.hide m :=
  hide_mono h_sub (by simp [sliceFails])
@[simp] theorem slicesReload_hide (s : State) {m : Nat} (h_sub : 32768 &&& m = 32768) : (slicesReload s).hide m = s.hide m :=
  hide_mono h_sub (by simp [slicesReload])

/-! Hands -/

@[simp] theorem handEval_hide (d : DeckImage) (h : Fin 32) (i : Nat) (s : State) {m : Nat} (h_sub : 393474 &&& m = 393474) : (handEval d h i s).hide m = s.hide m :=
  hide_mono h_sub (by unfold handEval; dsimp only; (repeat' split) <;> simp)
@[simp] theorem handRun_hide (d : DeckImage) (h : Fin 32) (i : Sample) (s0 : State) {m : Nat} (h_sub : 426242 &&& m = 426242) : (handRun d h i s0).hide m = s0.hide m :=
  hide_mono h_sub (by simp [handRun])
@[simp] theorem unfire_hide (s : State) (h : Nat) (i : Sample) {m : Nat} (h_sub : 262146 &&& m = 262146) : (unfire s h i).hide m = s.hide m :=
  hide_mono h_sub (by simp [unfire])
@[simp] theorem handReset_hide (d : DeckImage) (i : Sample) (s0 : State) (h : Nat) {m : Nat} (h_sub : 393218 &&& m = 393218) : (handReset d i s0 h).hide m = s0.hide m :=
  hide_mono h_sub (by simp [handReset])
@[simp] theorem armResets_hide (s : State) (d : DeckImage) (g : Nat) (i : Sample) {m : Nat} (h_sub : 426242 &&& m = 426242) : (armResets s d g i).hide m = s.hide m :=
  hide_mono h_sub (by simp [armResets])
@[simp] theorem handsIdle_hide (s : State) (d : DeckImage) {m : Nat} (h_sub : 131072 &&& m = 131072) : (handsIdle s d).hide m = s.hide m :=
  hide_mono h_sub (by simp [handsIdle])
@[simp] theorem handParity_hide (h : Fin 32) (s0 : State) (d : DeckImage) {m : Nat} (h_sub : 427266 &&& m = 427266) : (handParity h s0 d).hide m = s0.hide m :=
  hide_mono h_sub (by simp [handParity])
@[simp] theorem handReload_hide (d : DeckImage) (s : State) (h : Nat) {m : Nat} (h_sub : 393218 &&& m = 393218) : (handReload d s h).hide m = s.hide m :=
  hide_mono h_sub (by simp [handReload])
@[simp] theorem handsReload_hide (d : DeckImage) (s : State) {m : Nat} (h_sub : 393218 &&& m = 393218) : (handsReload d s).hide m = s.hide m :=
  hide_mono h_sub (by simp [handsReload])

/-! Units -/

@[simp] theorem endCtx_hide (s : State) (i : KInst) {m : Nat} (h_sub : 8192 &&& m = 8192) : (endCtx s i).hide m = s.hide m :=
  hide_mono h_sub (by simp [endCtx])
@[simp] theorem putLogical_hide (s : State) (d : DeckImage) (f : Nat) (x : Nat) (bs : List Byte) {m : Nat} (h_sub : 2048 &&& m = 2048) : (putLogical s d f x bs).hide m = s.hide m :=
  hide_mono h_sub (by simp [putLogical])
@[simp] theorem putRing_hide (s : State) (d : DeckImage) (f : Nat) (base : Nat) (size : Nat) (x : Nat) (bs : List Byte) {m : Nat} (h_sub : 2048 &&& m = 2048) : (putRing s d f base size x bs).hide m = s.hide m :=
  hide_mono h_sub (by simp [putRing])
@[simp] theorem putRingRows_hide (s : State) (d : DeckImage) (f : Nat) (base : Nat) (size : Nat) (x : Nat) (bytes : List Byte) (bad : List Nat) {m : Nat} (h_sub : 2048 &&& m = 2048) : (putRingRows s d f base size x bytes bad).hide m = s.hide m :=
  hide_mono h_sub (by simp [putRingRows])
@[simp] theorem putPage_hide (s : State) (d : DeckImage) (f : Nat) (slot : Nat) (bytes : List Byte) (bad : List Nat) (u : UnitRec) {m : Nat} (h_sub : 2048 &&& m = 2048) : (putPage s d f slot bytes bad u).hide m = s.hide m :=
  hide_mono h_sub (by simp [putPage])
@[simp] theorem storeRawPage_hide (s : State) (d : DeckImage) (f : Nat) (inst : Nat) (j : Nat) {m : Nat} (h_sub : 534528 &&& m = 534528) : (storeRawPage s d f inst j).hide m = s.hide m :=
  hide_mono h_sub (by simp [storeRawPage])
@[simp] theorem storeRawTo_hide (s : State) (d : DeckImage) (f : Nat) (last : Sample) {m : Nat} (h_sub : 534528 &&& m = 534528) :
    (storeRawTo s d f last).hide m = s.hide m := hide_mono h_sub <|
  hide_foldl _ (fun s a => hide_foldl _ (fun s inst => storeRawPage_hide (h_sub := rfl) ..) _ s) _ s

/-! Records -/

@[simp] theorem storeRecPage_hide (s : State) (d : DeckImage) (f : Nat) {m : Nat} (h_sub : 526336 &&& m = 526336) : (storeRecPage s d f).hide m = s.hide m :=
  hide_mono h_sub <| by
  unfold storeRecPage; dsimp only; split
  · rfl
  · rw [setFold_hide (m := 526336) (h_sub := rfl)]; exact putPage_hide (m := 526336) (h_sub := rfl) ..

/-- A state formed, or an overflow's cause: what is formed agrees with `s` outside the parts of `m`. -/
def hideE (m : Nat) (s : State) : Formed1 → Prop
  | .error _ => True
  | .ok t => t.hide m = s.hide m
theorem hideE_mono {T m : Nat} {s : State} {o : Formed1} (h : T &&& m = T) (e : hideE T s o) : hideE m s o := by
  cases o with
  | error c => trivial
  | ok t => exact hide_mono h e
theorem hideE_foldl {α : Type} (m : Nat) (s : State) (f : Formed1 → α → Formed1)
    (h : ∀ o x, hideE m s o → hideE m s (f o x)) (l : List α) : ∀ o, hideE m s o → hideE m s (l.foldl f o) := by
  induction l with
  | nil => intro o ho; exact ho
  | cons a t ih => intro o ho; exact ih _ (h _ _ ho)
theorem hideE_of {m : Nat} {a b : State} {o : Formed1} (h : hideE m a o) (e : a.hide m = b.hide m) : hideE m b o := by
  cases o with
  | error c => trivial
  | ok x => exact Eq.trans (show x.hide m = a.hide m from h) e
theorem hideE_if {c : Prop} [Decidable c] {m : Nat} {s : State} {o p : Formed1} (ho : hideE m s o) (hp : hideE m s p) :
    hideE m s (if c then o else p) := by split <;> assumption
theorem addRecord_hide (d : DeckImage) (f : Nat) (keep : Option (Sample × Sample)) (first last : Sample) (void flag : Bool)
    (bytes : List Byte) (s : State) {m : Nat} (h_sub : 526336 &&& m = 526336) : hideE m s (addRecord d f keep first last void flag bytes s) :=
  hideE_mono h_sub <| by
  unfold addRecord; dsimp only
  refine hideE_if trivial ?_
  split
  · trivial
  · show State.hide _ _ = _
    simp [hide_ite]

theorem addTrans_hide (d : DeckImage) (f : Nat) (keep : Option (Sample × Sample)) (i : Sample) (void flag : Bool) (bytes : List Byte)
    (s : State) (o : Formed1) {m : Nat} (h : hideE m s o) (h_sub : 526336 &&& m = 526336) : hideE m s (addTrans d f keep i void flag bytes o) := by
  cases o with
  | error c => trivial
  | ok t => unfold addTrans; exact hideE_of (addRecord_hide (h_sub := sub_trans rfl h_sub) ..) h

theorem addKeyframe_hide (d : DeckImage) (f : Nat) (keep : Option (Sample × Sample)) (i : Sample) (s : State) {m : Nat} (h_sub : 526336 &&& m = 526336) :
    hideE m s (addKeyframe d f keep i s) := hideE_mono h_sub <| by
  unfold addKeyframe
  refine hideE_foldl _ _ _ (fun o x h => addTrans_hide _ _ _ _ _ _ _ _ _ (addTrans_hide _ _ _ _ _ _ _ _ _ h rfl) rfl) _ _ ?_
  exact addTrans_hide _ _ _ _ _ _ _ _ _ (setFold_hide (h_sub := rfl) ..) rfl

theorem addItems_hide (d : DeckImage) (f : Nat) (keep : Option (Sample × Sample)) (i : Sample) :
    ∀ (fuel : Nat) (l : List TransItem) (s : State), hideE 526336 s (addItems d f keep i fuel l s) := by
  intro fuel; induction fuel with
  | zero => intro l s; unfold addItems; exact rfl
  | succ n ih =>
    intro l s
    cases l with
    | nil => unfold addItems; exact rfl
    | cons it t =>
      unfold addItems; dsimp only
      split
      · have h := addKeyframe_hide d f keep i s (m := 526336) rfl
        split
        · trivial
        · rename_i s1 e; rw [e] at h; exact hideE_of (ih _ _) h
      · split
        · split
          · trivial
          · rename_i s1 e
            have h := addRecord_hide d f keep i i false false (transRec 0 0xFFFF i) (setFold s f { foldOf s f with base := i }) (m := 526336) rfl
            rw [e] at h
            exact hideE_of (ih _ _) (Eq.trans (show s1.hide 526336 = _ from h) (setFold_hide (h_sub := rfl) ..))
        · split
          · trivial
          · rename_i s1 e
            have h := addRecord_hide d f keep i i (transMask s d (foldInst d f it.1) i != 0) (outFlagged s d f (foldInst d f it.1))
              (transBytes s d f (foldOf s f).base i it) s (m := 526336) rfl
            rw [e] at h
            exact hideE_of (hideE_of (ih _ _) (setFold_hide (h_sub := rfl) ..)) h

theorem transSample_hide (d : DeckImage) (f : Nat) (keep : Option (Sample × Sample)) (i : Sample) (s : State) {m : Nat} (h_sub : 526336 &&& m = 526336) :
    hideE m s (transSample d f keep i s) := hideE_mono h_sub <| by
  unfold transSample; dsimp only
  have h : hideE 526336 s (if i = (foldOf s f).epoch then addKeyframe d f keep i s else .ok s) := by
    split
    · exact addKeyframe_hide (h_sub := rfl) ..
    · exact rfl
  split
  · trivial
  · rename_i s1 e; rw [e] at h; exact hideE_of (hideE_mono (T := 526336) rfl (addItems_hide ..)) h

theorem stateSample_hide (d : DeckImage) (f : Nat) (keep : Option (Sample × Sample)) (i : Sample) (s : State) {m : Nat} (h_sub : 526336 &&& m = 526336) :
    hideE m s (stateSample d f keep i s) := hideE_mono h_sub <| by
  unfold stateSample
  refine hideE_foldl _ _ _ (fun o x h => ?_) _ _ rfl
  cases o with
  | error c => trivial
  | ok t =>
    dsimp only; split
    · exact hideE_of (addRecord_hide (h_sub := rfl) ..) h
    · exact h

theorem addWindow_hide (d : DeckImage) (f : Nat) (keep : Option (Sample × Sample)) (n w : Nat) (b : Sample) (s : State) {m : Nat} (h_sub : 534528 &&& m = 534528) :
    hideE m s (addWindow d f keep n w b s) := hideE_mono h_sub <| by
  unfold addWindow; dsimp only
  generalize hq : addRecord d f keep _ _ _ _ _ s = q
  have h2 : hideE 534528 s q := by rw [← hq]; exact addRecord_hide (h_sub := rfl) ..
  cases q with
  | error c => trivial
  | ok t => exact (endCtx_hide (h_sub := rfl) ..).trans (Eq.trans (setFold_hide (h_sub := rfl) ..) (show t.hide 534528 = s.hide 534528 from h2))

theorem nextSample_hide (d : DeckImage) (f : Nat) (keep : Option (Sample × Sample)) (i : Sample) (s : State) {m : Nat} (h_sub : 526336 &&& m = 526336) :
    hideE m s (if fRed d f = 1 then transSample d f keep i s else stateSample d f keep i s) := hideE_mono h_sub <| by
  split
  · exact transSample_hide (h_sub := rfl) ..
  · exact stateSample_hide (h_sub := rfl) ..
theorem takeSamples_frame (d : DeckImage) (f : Nat) (keep : Option (Sample × Sample)) :
    ∀ (n : Nat) (i : Sample) (s : State), (takeSamples d f keep n i s).1.hide 526336 = s.hide 526336 := by
  intro n; induction n with
  | zero => intro i s; rfl
  | succ n ih =>
    intro i s; unfold takeSamples
    have h := nextSample_hide d f keep i s (m := 526336) rfl
    split
    · rfl
    · rename_i s1 e; rw [e] at h; have h1 : s1.hide 526336 = s.hide 526336 := h; rw [ih, setFold_hide (m := 526336) (h_sub := rfl), h1]
@[simp] theorem takeSamples_hide (d : DeckImage) (f : Nat) (keep : Option (Sample × Sample)) (n : Nat) (i : Sample) (s : State) {m : Nat}
    (h_sub : 526336 &&& m = 526336) : (takeSamples d f keep n i s).1.hide m = s.hide m := hide_mono h_sub (takeSamples_frame ..)

theorem takeWindows_frame (d : DeckImage) (f : Nat) (keep : Option (Sample × Sample)) :
    ∀ (l : List (Nat × Nat × Sample)) (s : State), (takeWindows d f keep l s).1.hide 534528 = s.hide 534528 := by
  intro l; induction l with
  | nil => intro s; rfl
  | cons a t ih =>
    intro s; obtain ⟨w, n, b⟩ := a; unfold takeWindows
    have h := addWindow_hide d f keep n w b s (m := 534528) rfl
    split
    · rfl
    · rename_i s1 e; rw [e] at h; have h1 : s1.hide 534528 = s.hide 534528 := h; rw [ih, h1]
@[simp] theorem takeWindows_hide (d : DeckImage) (f : Nat) (keep : Option (Sample × Sample)) (l : List (Nat × Nat × Sample)) (s : State) {m : Nat}
    (h_sub : 534528 &&& m = 534528) : (takeWindows d f keep l s).1.hide m = s.hide m := hide_mono h_sub (takeWindows_frame ..)

@[simp] theorem formTo_hide (s : State) (d : DeckImage) (f : Nat) (last : Sample) {m : Nat} (h_sub : 534528 &&& m = 534528) : (formTo s d f last).1.hide m = s.hide m :=
  hide_mono h_sub <| by unfold formTo; dsimp only; split <;> simp

theorem takeUntil_hide (d : DeckImage) (f unit : Nat) (keep : Option (Sample × Sample)) :
    ∀ (n : Nat) (i : Sample) (s : State) (r : Taken), takeUntil d f unit keep n i s = some r → r.1.hide 526336 = s.hide 526336 := by
  intro n; induction n with
  | zero =>
    intro i s r h; unfold takeUntil at h; split at h
    · cases h; rfl
    · cases h
  | succ n ih =>
    intro i s r h; unfold takeUntil at h; split at h
    · cases h; rfl
    · dsimp only at h
      have h0 := nextSample_hide d f keep i s (m := 526336) rfl
      split at h
      · cases h; rfl
      · rename_i s1 e; rw [e] at h0; have h1 : s1.hide 526336 = s.hide 526336 := h0
        rw [ih _ _ _ h, setFold_hide (m := 526336) (h_sub := rfl), h1]

/-! CompFold -/

@[simp] theorem setCompPage_hide (s : State) (e : Nat) (p : CompPage) {m : Nat} (h_sub : 1048576 &&& m = 1048576) : (setCompPage s e p).hide m = s.hide m :=
  hide_mono h_sub (by simp [setCompPage])
@[simp] theorem putCompSide_hide (s : State) (d : DeckImage) (f : Nat) (u : Nat) (x : Nat) (i : Nat) (j : Nat) {m : Nat} (h_sub : 2048 &&& m = 2048) : (putCompSide s d f u x i j).hide m = s.hide m :=
  hide_mono h_sub (by simp [putCompSide])
@[simp] theorem blockCompSide_hide (s : State) (d : DeckImage) (f : Nat) (u : Nat) (x : Nat) (n : Nat) {m : Nat} (h_sub : 2048 &&& m = 2048) : (blockCompSide s d f u x n).hide m = s.hide m :=
  hide_mono h_sub (by simp [blockCompSide])
@[simp] theorem quarCmp_hide (s : State) (e : Nat) {m : Nat} (h_sub : 135267586 &&& m = 135267586) : (quarCmp s e).hide m = s.hide m :=
  hide_mono h_sub (by simp [quarCmp])
@[simp] theorem selfCheckFail_hide (s : State) (e : Nat) {m : Nat} (h_sub : 135267586 &&& m = 135267586) : (selfCheckFail s e).hide m = s.hide m :=
  hide_mono h_sub (by simp [selfCheckFail])
@[simp] theorem checkedBlock_hide (s : State) (e : Nat) (c : EngineCheck) {m : Nat} (h_sub : 135267586 &&& m = 135267586) :
    (checkedBlock s e c).hide m = s.hide m := hide_mono h_sub <| by
  unfold checkedBlock; split
  · rfl
  · rw [selfCheckFail_hide (m := 135267586) (h_sub := rfl)]
  · rw [hide_ite, quarCmp_hide (m := 135267586) (h_sub := rfl), raiseBit_hide (m := 135267586) (h_sub := rfl), ite_self]

@[simp] theorem compBlock_hide (s : State) (d : DeckImage) (f u e n : Nat) (chk : EngineCheck) (last : Bool) {m : Nat} (h_sub : 135802146 &&& m = 135802146) :
    (compBlock s d f u e n chk last).hide m = s.hide m := hide_mono h_sub <| by
  unfold compBlock
  generalize hb : codeBlock _ _ _ _ _ _ _ _ = b
  dsimp only
  rw [setCompPage_hide (m := 135802146) (h_sub := rfl), setFold_hide (m := 135802146) (h_sub := rfl), endCtx_hide (m := 135802146) (h_sub := rfl), hide_ite,
    checkedBlock_hide (m := 135802146) (h_sub := rfl), ite_self, hide_ite, incCnt_hide (m := 135802146) (h_sub := rfl), ite_self,
    wr64_hide (m := 135802146) (h_sub := rfl), wr64_hide (m := 135802146) (h_sub := rfl)]
  exact (hide_foldl _ (fun s i => putCompSide_hide (h_sub := rfl) ..) _ _).trans (useFree_hide (h_sub := rfl) ..)

theorem storeCompPage_hide (s : State) (d : DeckImage) (f u e : Nat) (p : CompPage) (last : Bool) (t : State) (h : storeCompPage s d f u e p last = some t)
    {m : Nat} (h_sub : 1575170 &&& m = 1575170) : t.hide m = s.hide m := hide_mono h_sub <| by
  unfold storeCompPage at h; dsimp only at h; split at h
  · cases h
  · cases h
    rw [setCompPage_hide (m := 1575170) (h_sub := rfl), hide_ite, raiseBit_hide (m := 1575170) (h_sub := rfl), ite_self, setFold_hide (m := 1575170) (h_sub := rfl),
      hide_ite, blockCompSide_hide (m := 1575170) (h_sub := rfl), ite_self, putLogical_hide (m := 1575170) (h_sub := rfl), putRingRows_hide (m := 1575170) (h_sub := rfl)]

@[simp] theorem dropRange_hide (s : State) (f : Nat) (e : Nat) (m : Nat) {k : Nat} (h_sub : 1572864 &&& k = 1572864) : (dropRange s f e m).hide k = s.hide k :=
  hide_mono h_sub (by simp [dropRange])
@[simp] theorem endCompPage_hide (s : State) (d : DeckImage) (f u e : Nat) (last : Bool) {m : Nat} (h_sub : 1575170 &&& m = 1575170) :
    (endCompPage s d f u e last).1.hide m = s.hide m := hide_mono h_sub <| by
  unfold endCompPage; dsimp only
  split
  · exact setCompPage_hide (m := 1575170) (h_sub := rfl) ..
  · split
    · rename_i h; exact storeCompPage_hide _ _ _ _ _ _ _ _ h rfl
    · rw [hide_ite_fst]; show (if _ then s.hide 1575170 else (dropRange _ _ _ _).hide 1575170) = _
      rw [dropRange_hide (k := 1575170) (h_sub := rfl), ite_self]

@[simp] theorem compStep_hide (s : State) (d : DeckImage) (f u e : Nat) (chk : EngineCheck) (last : Option Sample) {m : Nat} (h_sub : 135802146 &&& m = 135802146) :
    (compStep s d f u e chk last).1.hide m = s.hide m := hide_mono h_sub <| by
  unfold compStep; dsimp only; split
  · split
    · rfl
    · rw [endCompPage_hide (m := 135802146) (h_sub := rfl), setCompPage_hide (m := 135802146) (h_sub := rfl)]
  · split
    · exact compBlock_hide (h_sub := rfl) ..
    · split
      · rw [endCompPage_hide (m := 135802146) (h_sub := rfl), compBlock_hide (m := 135802146) (h_sub := rfl)]
      · exact compBlock_hide (h_sub := rfl) ..

theorem compTo_hide (d : DeckImage) (f u e : Nat) (last : Sample) : ∀ (n : Nat) (s : State), (compTo d f u e last n s).1.hide 135802146 = s.hide 135802146 := by
  intro n; induction n with
  | zero => intro s; rfl
  | succ n ih =>
    intro s; unfold compTo; dsimp only; split
    · rfl
    · have h := compStep_hide s d f u e .pass (some last) (m := 135802146) rfl
      split
      · rename_i s1 e; rw [e] at h; exact (ih _).trans h
      · exact h

@[simp] theorem compClose_hide (s : State) (d : DeckImage) (f : Nat) (last : Sample) {m : Nat} (h_sub : 135802146 &&& m = 135802146) :
    (compClose s d f last).1.hide m = s.hide m := hide_mono h_sub <| by
  unfold compClose
  refine hide_foldl_fst _ (fun p x => ?_) _ _
  split
  · split
    · rfl
    · exact compTo_hide ..
  · rfl

theorem cutTake_frame (d : DeckImage) (f u e : Nat) (so : Sample) : ∀ (n : Nat) (s : State), (cutTake d f u e so n s).hide 135802146 = s.hide 135802146 := by
  intro n; induction n with
  | zero => intro s; rfl
  | succ n ih =>
    intro s; unfold cutTake; dsimp only
    generalize min 8 _ = k
    split
    · rfl
    · split
      · rename_i hb
        have h1 := endCompPage_hide (compBlock s d f u e k .pass ((compPage s d f u e).pages + k == 256)) d f u e false (m := 135802146) rfl
        split
        · rename_i s2 h
          rw [h] at h1
          exact (ih _).trans ((show s2.hide 135802146 = _ from h1).trans (compBlock_hide (h_sub := rfl) ..))
        · exact compBlock_hide (h_sub := rfl) ..
      · exact compBlock_hide (h_sub := rfl) ..
@[simp] theorem cutTake_hide (d : DeckImage) (f u e : Nat) (so : Sample) (n : Nat) (s : State) {m : Nat} (h_sub : 135802146 &&& m = 135802146) :
    (cutTake d f u e so n s).hide m = s.hide m := hide_mono h_sub (cutTake_frame ..)

@[simp] theorem cutPage_hide (d : DeckImage) (f u e : Nat) (l : List OutSpan) (t : Nat) (s : State) {m : Nat} (h_sub : 1575170 &&& m = 1575170) :
    (cutPage d f u e l t s).hide m = s.hide m := hide_mono h_sub <| by
  unfold cutPage; dsimp only
  generalize hq : List.findSome? _ _ = q
  cases q with
  | none => rfl
  | some t =>
    obtain ⟨p, _, hp⟩ := List.exists_of_findSome?_eq_some hq
    exact storeCompPage_hide _ _ _ _ _ _ _ _ hp rfl

@[simp] theorem compCut_hide (s : State) (d : DeckImage) (f : Nat) (so : Sample) {m : Nat} (h_sub : 135802146 &&& m = 135802146) : (compCut s d f so).hide m = s.hide m :=
  hide_mono h_sub (by simp [compCut])
@[simp] theorem compOpen_hide (s : State) (d : DeckImage) (f : Nat) {m : Nat} (h_sub : 1048576 &&& m = 1048576) : (compOpen s d f).hide m = s.hide m :=
  hide_mono h_sub (by simp [compOpen])

/-! Folds -/

@[simp] theorem writeDescriptors_hide (s : State) (d : DeckImage) (g : Nat) (seg : SegSt) (last : Sample) (extra : Nat) (ovf : List Byte) {m : Nat} (h_sub : 526594 &&& m = 526594) : (writeDescriptors s d g seg last extra ovf).hide m = s.hide m :=
  hide_mono h_sub (by simp [writeDescriptors])
@[simp] theorem stopFold_hide (s : State) (d : DeckImage) (f : Nat) (so : Sample) {m : Nat} (h_sub : 135802146 &&& m = 135802146) : (stopFold s d f so).1.hide m = s.hide m :=
  hide_mono h_sub (by simp [stopFold])
@[simp] theorem stopOvf_hide (s : State) (d : DeckImage) (g : Nat) (fold : Nat) (cause : Nat) (so : Sample) {m : Nat} (h_sub : 135933218 &&& m = 135933218) : (stopOvf s d g fold cause so).hide m = s.hide m :=
  hide_mono h_sub (by unfold stopOvf; dsimp only; (repeat' split) <;> simp)
@[simp] theorem endSegment_hide (s : State) (g : Nat) (last : Sample) (extra : Nat) (next : GroupState) {m : Nat} (h_sub : 524288 &&& m = 524288) : (endSegment s g last extra next).hide m = s.hide m :=
  hide_mono h_sub (by simp [endSegment])
@[simp] theorem storeRest_hide (s : State) (d : DeckImage) (f : Nat) (last : Sample) {m : Nat} (h_sub : 135802146 &&& m = 135802146) : (storeRest s d f last).1.hide m = s.hide m := hide_mono h_sub <| by
  unfold storeRest; split
  · split
    · exact compClose_hide s d f last (m := 135802146) rfl
    · exact storeRawTo_hide (h_sub := rfl) ..
  · have h := formTo_hide s d f last (m := 135802146) rfl
    split
    · rename_i s1 e; rw [e] at h
      show (storeRecPage s1 d f).hide 135802146 = _; rw [storeRecPage_hide (m := 135802146) (h_sub := rfl)]; exact h
    · exact h

@[simp] theorem finishClose_hide (s : State) (d : DeckImage) (g : Nat) {m : Nat} (h_sub : 135933218 &&& m = 135933218) : (finishClose s d g).hide m = s.hide m := hide_mono h_sub <| by
  unfold finishClose; dsimp only; split
  · rename_i last extra seg0 _ _
    have h : ∀ (l : List Nat) (a : State × Option (Nat × Nat × Sample)),
        (l.foldl (fun (a : State × Option (Nat × Nat × Sample)) f =>
          match a.2 with
          | some _ => a
          | none =>
            let q := storeRest a.1 d f last
            (q.1, q.2.map (fun i => (f, i)))) a).1.hide 135933218 = a.1.hide 135933218 := by
      refine hide_foldl_fst _ (fun p x => ?_)
      split
      · rfl
      · exact storeRest_hide (h_sub := rfl) ..
    split
    · exact (stopOvf_hide (h_sub := rfl) ..).trans (h _ (s, none))
    · exact (writeDescriptors_hide (h_sub := rfl) ..).trans (h _ (s, none))
  · rfl

@[simp] theorem openSegment_hide (s : State) (d : DeckImage) (g k : Nat) (e : Sample) {m : Nat} (h_sub : 136228130 &&& m = 136228130) : (openSegment s d g k e).hide m = s.hide m := hide_mono h_sub <| by
  unfold openSegment; dsimp only; split
  · exact finishClose_hide (h_sub := rfl) ..
  · rw [armResets_hide (m := 136228130) (h_sub := rfl), setGrp_hide (m := 136228130) (h_sub := rfl), hide_foldl _ (fun s f => by rw [compOpen_hide (m := 136228130) (h_sub := rfl), putLogical_hide (m := 136228130) (h_sub := rfl), setFold_hide (m := 136228130) (h_sub := rfl)]), finishClose_hide (m := 136228130) (h_sub := rfl)]

@[simp] theorem reArm_hide (s : State) (d : DeckImage) (g : Nat) (sr : Sample) {m : Nat} (h_sub : 136228130 &&& m = 136228130) : (reArm s d g sr).hide m = s.hide m := hide_mono h_sub <| by
  unfold reArm; split
  · split
    · rw [hide_modDeck (m := 136228130) _ _ rfl]
    · rfl
  · rw [openSegment_hide (m := 136228130) (h_sub := rfl)]

@[simp] theorem endPost_hide (s : State) (d : DeckImage) (g : Nat) {m : Nat} (h_sub : 655618 &&& m = 655618) : (endPost s d g).hide m = s.hide m :=
  hide_mono h_sub (by unfold endPost; dsimp only; (repeat' split) <;> simp)
@[simp] theorem ownChange_hide (s : State) (d : DeckImage) (g : Nat) (i : Sample) {m : Nat} (h_sub : 136228130 &&& m = 136228130) : (ownChange s d g i).hide m = s.hide m := hide_mono h_sub <| by
  unfold ownChange; dsimp only; split
  · rw [hide_ite, endPost_hide (m := 136228130) (h_sub := rfl), ite_self]
  · split
    · rw [hide_ite, reArm_hide (m := 136228130) (h_sub := rfl), ite_self]
    · rfl
  · rw [hide_ite, setGrp_hide (m := 136228130) (h_sub := rfl), ite_self]
  · rfl

@[simp] theorem settle_hide (s : State) (d : DeckImage) (g : Nat) (i : Sample) {m : Nat} (h_sub : 136228130 &&& m = 136228130) : (settle s d g i).hide m = s.hide m := hide_mono h_sub <| by
  unfold settle; rw [ownChange_hide (m := 136228130) (h_sub := rfl), ownChange_hide (m := 136228130) (h_sub := rfl), ownChange_hide (m := 136228130) (h_sub := rfl)]

theorem overflowed_hide (r : Taken) (d : DeckImage) (g f : Nat) {m : Nat} (h_sub : 135933218 &&& m = 135933218) : (overflowed r d g f).hide m = r.1.hide m := hide_mono h_sub <| by
  unfold overflowed; split
  · rfl
  · exact stopOvf_hide (h_sub := rfl) ..

@[simp] theorem storeUnit_hide (s : State) (d : DeckImage) (f inst unit : Nat) {m : Nat} (h_sub : 135933218 &&& m = 135933218) : (storeUnit s d f inst unit).hide m = s.hide m := hide_mono h_sub <| by
  unfold storeUnit; dsimp only; split
  · rfl
  · split
    · split
      · split
        · rfl
        · rename_i e he
          refine hide_if ?_ rfl
          refine (overflowed_hide (h_sub := rfl) ..).trans ?_
          refine (hide_foldl_fst _ (fun p x => ?_) _ _).trans rfl
          split
          · split
            · exact compStep_hide (h_sub := rfl) ..
            · rfl
          · rfl
      · rw [hide_ite, storeRawPage_hide (m := 135933218) (h_sub := rfl), ite_self]
    · split
      · generalize hr : takeUntil _ _ _ _ _ _ _ = r
        cases r with
        | none => rfl
        | some r => exact (overflowed_hide (h_sub := rfl) ..).trans (hide_mono (T := 526336) rfl (takeUntil_hide _ _ _ _ _ _ _ _ hr))
      · rfl

@[simp] theorem windowRecord_hide (s : State) (d : DeckImage) (f n w : Nat) {m : Nat} (h_sub : 135933218 &&& m = 135933218) : (windowRecord s d f n w).hide m = s.hide m := hide_mono h_sub <| by
  have h := addWindow_hide d f (keepFrom s d (fGroup d f)) n w ((foldOf s f).epoch + (w + 1) * fWindow d f - 1) s (m := 135933218) rfl
  unfold windowRecord; dsimp only
  generalize addWindow d f _ _ _ _ _ = q at h ⊢
  refine hide_if rfl (hide_if rfl ?_)
  cases q with
  | error c => exact stopOvf_hide (h_sub := rfl) ..
  | ok t => exact h

/-! Capture -/

@[simp] theorem settleAll_hide (s : State) (d : DeckImage) (gs : List Nat) (i : Sample) {m : Nat} (h_sub : 136228130 &&& m = 136228130) : (settleAll s d gs i).hide m = s.hide m :=
  hide_mono h_sub (by simp [settleAll])
@[simp] theorem discardClosed_hide (s : State) (d : DeckImage) (g : Nat) {m : Nat} (h_sub : 135933218 &&& m = 135933218) : (discardClosed s d g).hide m = s.hide m := hide_mono h_sub <| by
  unfold discardClosed; dsimp only
  rw [setGrp_hide (m := 135933218) (h_sub := rfl), hide_foldl _ (fun s f => by rw [hide_modFolds (m := 135933218) _ _ rfl, hide_foldl _ (fun s k => by rw [putLogical_hide (m := 135933218) (h_sub := rfl)])]), finishClose_hide (m := 135933218) (h_sub := rfl)]

@[simp] theorem armGroup_hide (d : DeckImage) (mode : Byte) (sa : Sample) (s : State) (g : Nat) {m : Nat} (h_sub : 136228130 &&& m = 136228130) : (armGroup d mode sa s g).hide m = s.hide m :=
  hide_mono h_sub (by simp [armGroup])
@[simp] theorem armBody_hide (h : CmdHdr) (groups : BitVec 16) (mode : Byte) (at_ : Sample) (s : State) {m : Nat} (h_sub : 136228258 &&& m = 136228258) : (armBody h groups mode at_ s).hide m = s.hide m :=
  hide_mono h_sub (by unfold armBody; dsimp only; (repeat' split) <;> simp)
@[simp] theorem disarmGroup_hide (sd : Sample) (s : State) (g : Nat) {m : Nat} (h_sub : 524288 &&& m = 524288) : (disarmGroup sd s g).hide m = s.hide m :=
  hide_mono h_sub (by unfold disarmGroup; dsimp only; (repeat' split) <;> simp)
@[simp] theorem disarmBody_hide (h : CmdHdr) (groups : BitVec 16) (at_ : Sample) (s : State) {m : Nat} (h_sub : 136228258 &&& m = 136228258) : (disarmBody h groups at_ s).hide m = s.hide m :=
  hide_mono h_sub (by unfold disarmBody; (repeat' split) <;> simp)
@[simp] theorem forceBody_hide (h : CmdHdr) (groups : BitVec 16) (sf : Sample) (s : State) {m : Nat} (h_sub : 262272 &&& m = 262272) : (forceBody h groups sf s).hide m = s.hide m :=
  hide_mono h_sub (by simp [forceBody])
@[simp] theorem setPostAt_hide (d : DeckImage) (s : State) (g post : Nat) (sc : Sample) {m : Nat} (h_sub : 136228130 &&& m = 136228130) : (setPostAt d s g post sc).hide m = s.hide m := hide_mono h_sub <| by
  unfold setPostAt; dsimp only; rw [ownChange_hide (m := 136228130) (h_sub := rfl)]; split <;> rw [setGrp_hide (m := 136228130) (h_sub := rfl)]

@[simp] theorem setPostBody_hide (h : CmdHdr) (group : Byte) (post : BitVec 64) (at_ : Sample) (s : State) {m : Nat} (h_sub : 136228258 &&& m = 136228258) : (setPostBody h group post at_ s).hide m = s.hide m :=
  hide_mono h_sub (by unfold setPostBody; (repeat' split) <;> simp)
@[simp] theorem foldStatusBody_hide (h : CmdHdr) (groups : BitVec 16) (dest : BitVec 64) (at_ : Sample) (s : State) {m : Nat} (h_sub : 136228258 &&& m = 136228258) : (foldStatusBody h groups dest at_ s).hide m = s.hide m :=
  hide_mono h_sub (by unfold foldStatusBody; (repeat' split) <;> simp)
@[simp] theorem acceptAt_hide (s : State) (d : DeckImage) (g : Nat) (i : Sample) (cause : Option Fire) (forced : Bool) {m : Nat} (h_sub : 786690 &&& m = 786690) : (acceptAt s d g i cause forced).hide m = s.hide m :=
  hide_mono h_sub (by unfold acceptAt; dsimp only; (repeat' split) <;> simp)
@[simp] theorem ignoreAt_hide (s : State) (d : DeckImage) (g : Nat) (i : Sample) {m : Nat} (h_sub : 524290 &&& m = 524290) : (ignoreAt s d g i).hide m = s.hide m :=
  hide_mono h_sub (by simp [ignoreAt])
@[simp] theorem resolveForces_hide (s : State) (g : Nat) (i : Sample) (acc : Bool) {m : Nat} (h_sub : 263296 &&& m = 263296) : (resolveForces s g i acc).hide m = s.hide m :=
  hide_mono h_sub (by simp [resolveForces])
@[simp] theorem triggerAccept_hide (g : Nat) (i : Sample) (s0 : State) (d : DeckImage) {m : Nat} (h_sub : 136228258 &&& m = 136228258) : (triggerAccept g i s0 d).hide m = s0.hide m :=
  hide_mono h_sub (by simp [triggerAccept])
@[simp] theorem trigOutPulse_hide (i : Sample) (s : State) {m : Nat} (h_sub : 262144 &&& m = 262144) : (trigOutPulse i s).hide m = s.hide m :=
  hide_mono h_sub (by unfold trigOutPulse; (repeat' split) <;> simp)
@[simp] theorem trigOutEnd_hide (s : State) {m : Nat} (h_sub : 262144 &&& m = 262144) : (trigOutEnd s).hide m = s.hide m :=
  hide_mono h_sub (by simp [trigOutEnd])
@[simp] theorem tickTrigOut_hide (s : State) {m : Nat} (h_sub : 262144 &&& m = 262144) : (tickTrigOut s).hide m = s.hide m :=
  hide_mono h_sub (by simp [tickTrigOut])
@[simp] theorem putRecord_hide (s : State) (q : Nat) (ws : List Word) {m : Nat} (h_sub : 5378 &&& m = 5378) : (putRecord s q ws).1.hide m = s.hide m := hide_mono h_sub <| by
  unfold putRecord; dsimp only; rw [hide_ite_fst, eqItem_hide (m := 5378) (h_sub := rfl)]; simp

@[simp] theorem writeTrigger_hide (d : DeckImage) (s : State) (a : Accepted) {m : Nat} (h_sub : 5378 &&& m = 5378) : (writeTrigger d s a).hide m = s.hide m :=
  hide_mono h_sub (by unfold writeTrigger; (repeat' split) <;> simp)
@[simp] theorem writeRecords_hide (i : Sample) (s : State) (d : DeckImage) {m : Nat} (h_sub : 267522 &&& m = 267522) : (writeRecords i s d).hide m = s.hide m :=
  hide_mono h_sub (by simp [writeRecords])

/-! Promote -/

@[simp] theorem setPatrol_hide (s : State) (b : Nat) (x : PatrolSt) {m : Nat} (h_sub : 134217728 &&& m = 134217728) : (setPatrol s b x).hide m = s.hide m :=
  hide_mono h_sub (by simp [setPatrol])
@[simp] theorem suspendPatrol_hide (s : State) {m : Nat} (h_sub : 134217986 &&& m = 134217986) : (suspendPatrol s).hide m = s.hide m :=
  hide_mono h_sub (by simp [suspendPatrol])
@[simp] theorem abandonConfirm_hide (s : State) (b : Nat) (p : Nat) {m : Nat} (h_sub : 134217728 &&& m = 134217728) : (abandonConfirm s b p).hide m = s.hide m :=
  hide_mono h_sub (by unfold abandonConfirm; dsimp only; (repeat' split) <;> simp)
@[simp] theorem quarantineEngine_hide (s : State) (p : Nat) {m : Nat} (h_sub : 134227202 &&& m = 134227202) : (quarantineEngine s p).hide m = s.hide m :=
  hide_mono h_sub (by simp [quarantineEngine])
@[simp] theorem failSpare_hide (s : State) (b : Nat) {m : Nat} (h_sub : 134219010 &&& m = 134219010) : (failSpare s b).hide m = s.hide m :=
  hide_mono h_sub (by simp [failSpare])
@[simp] theorem declareFailing_hide (s : State) (p : Nat) {m : Nat} (h_sub : 134227202 &&& m = 134227202) : (declareFailing s p).hide m = s.hide m :=
  hide_mono h_sub (by simp [declareFailing])
@[simp] theorem engineCe_hide (s : State) (p : Nat) {m : Nat} (h_sub : 134227202 &&& m = 134227202) : (engineCe s p).hide m = s.hide m :=
  hide_mono h_sub (by simp [engineCe])
@[simp] theorem engineUe_hide (s : State) (p : Nat) {m : Nat} (h_sub : 134227202 &&& m = 134227202) : (engineUe s p).hide m = s.hide m :=
  hide_mono h_sub (by simp [engineUe])
@[simp] theorem servePromotion_hide (s : State) (p : Nat) {m : Nat} (h_sub : 134227330 &&& m = 134227330) : (servePromotion s p).hide m = s.hide m :=
  hide_mono h_sub (by unfold servePromotion; dsimp only; (repeat' split) <;> simp)
@[simp] theorem promoteStep_hide (s : State) {m : Nat} (h_sub : 134227330 &&& m = 134227330) : (promoteStep s).hide m = s.hide m :=
  hide_mono h_sub (by simp [promoteStep])
@[simp] theorem quarantineUnit_hide (s : State) (code : Nat) {m : Nat} (h_sub : 140546 &&& m = 140546) : (quarantineUnit s code).hide m = s.hide m :=
  hide_mono h_sub (by simp [quarantineUnit])

/-! Activate -/

@[simp] theorem deckLoadGo_hide (h : CmdHdr) (slot : Byte) (len : BitVec 32) (src : BitVec 64) (s : State) {m : Nat} (h_sub : 9378 &&& m = 9378) : (deckLoadGo h slot len src s).hide m = s.hide m :=
  hide_mono h_sub (by unfold deckLoadGo; dsimp only; (repeat' split) <;> simp)
@[simp] theorem deckLoadBody_hide (h : CmdHdr) (slot : Byte) (len : BitVec 32) (src : BitVec 64) (s : State) {m : Nat} (h_sub : 9890 &&& m = 9890) : (deckLoadBody h slot len src s).hide m = s.hide m :=
  hide_mono h_sub (by unfold deckLoadBody; dsimp only; (repeat' split) <;> simp)
@[simp] theorem deckVerifyBody_hide (h : CmdHdr) (slot : Byte) (s : State) {m : Nat} (h_sub : 1152 &&& m = 1152) : (deckVerifyBody h slot s).hide m = s.hide m :=
  hide_mono h_sub (by unfold deckVerifyBody; dsimp only; (repeat' split) <;> simp)
@[simp] theorem resetCapture_hide (d : DeckImage) (s : State) {m : Nat} (h_sub : 8290304 &&& m = 8290304) : (resetCapture d s).hide m = s.hide m :=
  hide_mono h_sub (by simp [resetCapture])
@[simp] theorem resetCounts_hide (s : State) {m : Nat} (h_sub : 2 &&& m = 2) : (resetCounts s).hide m = s.hide m :=
  hide_mono h_sub (by simp [resetCounts])
@[simp] theorem dealEngines_hide (d : DeckImage) (s : State) {m : Nat} (h_sub : 2 &&& m = 2) : (dealEngines d s).hide m = s.hide m :=
  hide_mono h_sub (by simp [dealEngines])
@[simp] theorem dealState_hide (d : DeckImage) (s : State) {m : Nat} (h_sub : 2 &&& m = 2) : (dealState d s).hide m = s.hide m := hide_mono h_sub <| by
  unfold dealState; refine hide_foldl _ (fun s g => ?_) _ _; split <;> rw [wrF_hide (m := 2) (h_sub := rfl)]

@[simp] theorem dealBlocks_hide (d : DeckImage) (s : State) {m : Nat} (h_sub : 2 &&& m = 2) : (dealBlocks d s).hide m = s.hide m :=
  hide_mono h_sub (by simp [dealBlocks])
@[simp] theorem dealBanks_hide (old : Option DeckImage) (d : DeckImage) (s : State) {m : Nat} (h_sub : 2050 &&& m = 2050) : (dealBanks old d s).hide m = s.hide m :=
  hide_mono h_sub (by simp [dealBanks])
@[simp] theorem dealPower_hide (d : DeckImage) (s : State) {m : Nat} (h_sub : 2 &&& m = 2) : (dealPower d s).hide m = s.hide m :=
  hide_mono h_sub (by simp [dealPower])
@[simp] theorem dealPatterns_hide (old : Option DeckImage) (d : DeckImage) (s : State) {m : Nat} (h_sub : 2099200 &&& m = 2099200) : (dealPatterns old d s).hide m = s.hide m := hide_mono h_sub <| by
  unfold dealPatterns; dsimp only; rw [hide_ite, hide_ite, hide_setMem (m := 2099200) _ _ rfl, hide_setPgen (m := 2099200) _ _ rfl, ite_self, ite_self]

@[simp] theorem dealIds_hide (d : DeckImage) (s : State) {m : Nat} (h_sub : 2 &&& m = 2) : (dealIds d s).hide m = s.hide m :=
  hide_mono h_sub (by simp [dealIds])
@[simp] theorem logDeck_hide (s : State) (d : DeckImage) (num : Nat) (kind : Nat) {m : Nat} (h_sub : 1024 &&& m = 1024) : (logDeck s d num kind).hide m = s.hide m :=
  hide_mono h_sub (by simp [logDeck])
@[simp] theorem activate_hide (s : State) (n : Nat) (d : DeckImage) {m : Nat} (h_sub : 142536034 &&& m = 142536034) : (activate s n d).hide m = s.hide m :=
  hide_mono h_sub (by simp [activate])
@[simp] theorem deckActivateBody_hide (h : CmdHdr) (slot : Byte) (s : State) {m : Nat} (h_sub : 142536162 &&& m = 142536162) : (deckActivateBody h slot s).hide m = s.hide m :=
  hide_mono h_sub (by unfold deckActivateBody; (repeat' split) <;> simp)

/-! Deal -/

@[simp] theorem quadToVoid_hide (s : State) (q : Nat) {m : Nat} (h_sub : 2 &&& m = 2) : (quadToVoid s q).hide m = s.hide m :=
  hide_mono h_sub (by simp [quadToVoid])
@[simp] theorem realignRegion_hide (s : State) (r : Nat) {m : Nat} (h_sub : 9474 &&& m = 9474) : (realignRegion s r).hide m = s.hide m :=
  hide_mono h_sub (by simp [realignRegion])
@[simp] theorem realign_hide (skew : BitVec 5) (s : State) {m : Nat} (h_sub : 9474 &&& m = 9474) : (realign skew s).hide m = s.hide m :=
  hide_mono h_sub (by simp [realign])
@[simp] theorem thermalCrossing_hide (stack : Option (Fin 4)) (temp : BitVec 16) (s : State) {m : Nat} (h_sub : 9474 &&& m = 9474) : (thermalCrossing stack temp s).hide m = s.hide m :=
  hide_mono h_sub (by unfold thermalCrossing; (repeat' split) <;> simp)
@[simp] theorem shed_hide (s : State) (d : DeckImage) {m : Nat} (h_sub : 136228130 &&& m = 136228130) : (shed s d).hide m = s.hide m := hide_mono h_sub <| by
  unfold shed; dsimp only
  refine (hide_foldl _ (fun s g => ?_) _ _).trans (settleAll_hide (h_sub := rfl) ..)
  rw [hide_modDeck (m := 136228130) _ _ rfl, hide_ite, raiseErr_hide (m := 136228130) (h_sub := rfl), stopOvf_hide (m := 136228130) (h_sub := rfl), finishClose_hide (m := 136228130) (h_sub := rfl), ite_self]

@[simp] theorem applyStage_hide (s : State) (d : DeckImage) {m : Nat} (h_sub : 136228130 &&& m = 136228130) : (applyStage s d).hide m = s.hide m :=
  hide_mono h_sub (by simp [applyStage])
@[simp] theorem deckRedealBody_hide (h : CmdHdr) (slot : Byte) (groups : BitVec 16) (s : State) {m : Nat} (h_sub : 9344 &&& m = 9344) : (deckRedealBody h slot groups s).hide m = s.hide m :=
  hide_mono h_sub (by unfold deckRedealBody; dsimp only; (repeat' split) <;> simp)
@[simp] theorem rearmWaiting_hide (d : DeckImage) (ws : List (Nat × Sample)) (sb : Sample) (s : State) {m : Nat} (h_sub : 136228130 &&& m = 136228130) :
    (rearmWaiting d ws sb s).hide m = s.hide m := hide_mono h_sub <| by
  unfold rearmWaiting; exact hide_foldl _ (fun s w => by rw [openSegment_hide (m := 136228130) (h_sub := rfl)]) _ _

@[simp] theorem applyRedeal_hide (s : State) (r : RedealSt) (b : DeckImage) (sb : Sample) {m : Nat} (h_sub : 136228258 &&& m = 136228258) : (applyRedeal s r b sb).hide m = s.hide m :=
  hide_mono h_sub (by simp [applyRedeal])
@[simp] theorem redealStep_hide (s : State) (d : DeckImage) {m : Nat} (h_sub : 136228258 &&& m = 136228258) : (redealStep s d).hide m = s.hide m :=
  hide_mono h_sub (by unfold redealStep; dsimp only; (repeat' split) <;> simp)
@[simp] theorem quarantineBlock_hide (s : State) (b : Nat) {m : Nat} (h_sub : 9218 &&& m = 9218) : (quarantineBlock s b).hide m = s.hide m :=
  hide_mono h_sub (by simp [quarantineBlock])
@[simp] theorem storeSoFar_hide (s : State) (d : DeckImage) (skew : BitVec 5) {m : Nat} (h_sub : 136228130 &&& m = 136228130) : (storeSoFar s d skew).hide m = s.hide m :=
  hide_mono h_sub (by simp [storeSoFar])
@[simp] theorem engineErrors_hide (u : BoundaryUpset) (s : State) {m : Nat} (h_sub : 134227202 &&& m = 134227202) : (engineErrors u s).hide m = s.hide m :=
  hide_mono h_sub (by simp [engineErrors])
@[simp] theorem dealBoundary_hide (u : BoundaryUpset) (s : State) {m : Nat} (h_sub : 136228258 &&& m = 136228258) : (dealBoundary u s).hide m = s.hide m :=
  hide_mono h_sub (by unfold dealBoundary; (repeat' split) <;> simp)
@[simp] theorem blockAccess_hide (s : State) (kind : Nat) (port : Nat) (owner : Nat) (op : Nat) (item : BlockedItem) {m : Nat} (h_sub : 12288 &&& m = 12288) : (blockAccess s kind port owner op item).hide m = s.hide m :=
  hide_mono h_sub (by simp [blockAccess])
@[simp] theorem failUnit_hide (s : State) (d : DeckImage) (owner : Nat) {m : Nat} (h_sub : 134358274 &&& m = 134358274) : (failUnit s d owner).hide m = s.hide m :=
  hide_mono h_sub (by simp [failUnit])
@[simp] theorem guardViolation_hide (r : Nat) (kind : Nat) (port : Nat) (owner : Nat) (op : Nat) (cycle : Nat) (item : BlockedItem) (s : State) (d : DeckImage) {m : Nat} (h_sub : 134362370 &&& m = 134362370) : (guardViolation r kind port owner op cycle item s d).hide m = s.hide m :=
  hide_mono h_sub (by unfold guardViolation; (repeat' split) <;> simp)

/-! Flock -/

@[simp] theorem flockCommit_hide (s : State) (t : FlockTab) {m : Nat} (h_sub : 65794 &&& m = 65794) : (flockCommit s t).hide m = s.hide m :=
  hide_mono h_sub (by simp [flockCommit])
@[simp] theorem flockInsertBody_hide (h : CmdHdr) (key : BitVec 96) (action : BitVec 32) (s : State) {m : Nat} (h_sub : 66946 &&& m = 66946) : (flockInsertBody h key action s).hide m = s.hide m :=
  hide_mono h_sub (by unfold flockInsertBody; (repeat' split) <;> simp)
@[simp] theorem flockDeleteBody_hide (h : CmdHdr) (key : BitVec 96) (s : State) {m : Nat} (h_sub : 66946 &&& m = 66946) : (flockDeleteBody h key s).hide m = s.hide m :=
  hide_mono h_sub (by unfold flockDeleteBody; dsimp only; (repeat' split) <;> simp)
@[simp] theorem flockUe_hide (s : State) {m : Nat} (h_sub : 1282 &&& m = 1282) : (flockUe s).hide m = s.hide m :=
  hide_mono h_sub (by simp [flockUe])
@[simp] theorem flockLookupBody_hide (h : CmdHdr) (key : BitVec 96) (s : State) {m : Nat} (h_sub : 1410 &&& m = 1410) : (flockLookupBody h key s).hide m = s.hide m :=
  hide_mono h_sub (by unfold flockLookupBody; (repeat' split) <;> simp)
@[simp] theorem flockBulkBody_hide (h : CmdHdr) (mode : Byte) (count : BitVec 32) (src : BitVec 64) (s : State) {m : Nat} (h_sub : 66946 &&& m = 66946) : (flockBulkBody h mode count src s).hide m = s.hide m :=
  hide_mono h_sub (by simp [flockBulkBody])
@[simp] theorem flockRestore_hide (b : Nat) (s : State) {m : Nat} (h_sub : 65794 &&& m = 65794) : (flockRestore b s).hide m = s.hide m :=
  hide_mono h_sub (by simp [flockRestore])
@[simp] theorem flockKey_hide (s0 : State) (d : DeckImage) (i : KInst) (c : Sample) (f : Fin 16) {m : Nat} (h_sub : 42242 &&& m = 42242) : (flockKey s0 d i c f).hide m = s0.hide m :=
  hide_mono h_sub (by unfold flockKey; dsimp only; (repeat' split) <;> simp)
@[simp] theorem keyComplete_hide (l : Nat) (n : Nat) (c : Sample) (s : State) (d : DeckImage) {m : Nat} (h_sub : 42242 &&& m = 42242) : (keyComplete l n c s d).hide m = s.hide m :=
  hide_mono h_sub (by simp [keyComplete])

end Sys2Proof.Machine
end

