-- ==== Sys2Proof/Laws/FrameUnits.lean ====
section
/-!
SUPPORT. Frames of the operations: DACs, measurement, patterns, readout, engine jobs, the host interface and the memories.
-/

set_option linter.unusedVariables false
set_option linter.unusedSimpArgs false
namespace Sys2Proof.Machine

/-! Dac -/

@[simp] theorem ddsCatch_hide (s : State) (ch : Nat) {m : Nat} (h_sub : 16777216 &&& m = 16777216) : (ddsCatch s ch).hide m = s.hide m :=
  hide_mono h_sub (by simp [ddsCatch])
@[simp] theorem ddsTune_hide (s : State) (ch : Nat) (ftw : BitVec 48) {m : Nat} (h_sub : 16777216 &&& m = 16777216) : (ddsTune s ch ftw).hide m = s.hide m :=
  hide_mono h_sub (by simp [ddsTune])
@[simp] theorem ddsCycles_hide (s : State) (ch : Nat) (c : Nat) (n : Nat) {m : Nat} (h_sub : 258 &&& m = 258) : (ddsCycles s ch c n).hide m = s.hide m :=
  hide_mono h_sub (by simp [ddsCycles])
@[simp] theorem ddsRegs_hide (s : State) (ch : Nat) (p : DdsParams) {m : Nat} (h_sub : 16777218 &&& m = 16777218) : (ddsRegs s ch p).hide m = s.hide m :=
  hide_mono h_sub (by simp [ddsRegs])
@[simp] theorem dacProgram_hide (s : State) (ch : Nat) (c : DacCmd) {m : Nat} (h_sub : 16777218 &&& m = 16777218) : (dacProgram s ch c).hide m = s.hide m :=
  hide_mono h_sub (by unfold dacProgram; (repeat' split) <;> simp)
@[simp] theorem setDacBusy_hide (s : State) (ch : Nat) (c : Option DacCmd) {m : Nat} (h_sub : 16777216 &&& m = 16777216) : (setDacBusy s ch c).hide m = s.hide m :=
  hide_mono h_sub (by simp [setDacBusy])
@[simp] theorem dacRestart_hide (s : State) (ch : Nat) (c : DacCmd) {m : Nat} (h_sub : 16777218 &&& m = 16777218) : (dacRestart s ch c).hide m = s.hide m :=
  hide_mono h_sub (by simp [dacRestart])
@[simp] theorem dacDone_hide (s : State) (ring : Fin 16) (cid : BitVec 16) {m : Nat} (h_sub : 1152 &&& m = 1152) : (dacDone s ring cid).hide m = s.hide m :=
  hide_mono h_sub (by unfold dacDone; (repeat' split) <;> simp)
@[simp] theorem dacFree_hide (s : State) (ch : Nat) {m : Nat} (h_sub : 16778368 &&& m = 16778368) : (dacFree s ch).hide m = s.hide m :=
  hide_mono h_sub (by unfold dacFree; (repeat' split) <;> simp)
@[simp] theorem dacOutput_hide (s : State) (ch : Nat) {m : Nat} (h_sub : 16777218 &&& m = 16777218) : (dacOutput s ch).hide m = s.hide m :=
  hide_mono h_sub (by simp [dacOutput])
@[simp] theorem dacStage_hide (s : State) (ch : Nat) (v : BitVec 16) {m : Nat} (h_sub : 16777218 &&& m = 16777218) : (dacStage s ch v).hide m = s.hide m :=
  hide_mono h_sub (by simp [dacStage])
@[simp] theorem dacBegin_hide (s : State) (ch : Nat) (c : DacCmd) (off : Bool) {m : Nat} (h_sub : 16777218 &&& m = 16777218) : (dacBegin s ch c off).hide m = s.hide m :=
  hide_mono h_sub (by unfold dacBegin; (repeat' split) <;> simp)
@[simp] theorem dacOn_hide (s : State) (ch : Nat) {m : Nat} (h_sub : 16778370 &&& m = 16778370) : (dacOn s ch).hide m = s.hide m :=
  hide_mono h_sub (by unfold dacOn; (repeat' split) <;> simp)
@[simp] theorem dacOff_hide (s : State) (ch : Nat) {m : Nat} (h_sub : 16777218 &&& m = 16777218) : (dacOff s ch).hide m = s.hide m :=
  hide_mono h_sub (by unfold dacOff; (repeat' split) <;> simp)
@[simp] theorem dacSetOne_hide (h : CmdHdr) (span : Byte) (values : BitVec 288) (s : State) (ch : Nat) {m : Nat} (h_sub : 16777218 &&& m = 16777218) : (dacSetOne h span values s ch).hide m = s.hide m :=
  hide_mono h_sub (by simp [dacSetOne])
@[simp] theorem dacSetBody_hide (h : CmdHdr) (channels : BitVec 64) (span : Byte) (values : BitVec 288) (s : State) {m : Nat} (h_sub : 16778370 &&& m = 16778370) : (dacSetBody h channels span values s).hide m = s.hide m :=
  hide_mono h_sub (by simp [dacSetBody])
@[simp] theorem ddsSetBody_hide (h : CmdHdr) (p : DdsParams) (s : State) {m : Nat} (h_sub : 16778370 &&& m = 16778370) : (ddsSetBody h p s).hide m = s.hide m :=
  hide_mono h_sub (by simp [ddsSetBody])
@[simp] theorem ddsT0_hide (s : State) (ch : Nat) {m : Nat} (h_sub : 16778626 &&& m = 16778626) : (ddsT0 s ch).hide m = s.hide m :=
  hide_mono h_sub (by unfold ddsT0; (repeat' split) <;> simp)
@[simp] theorem dacTickOne_hide (s : State) (ch : Nat) {m : Nat} (h_sub : 16778370 &&& m = 16778370) : (dacTickOne s ch).hide m = s.hide m :=
  hide_mono h_sub (by simp [dacTickOne])
@[simp] theorem dacTick_hide (s : State) {m : Nat} (h_sub : 16778370 &&& m = 16778370) : (dacTick s).hide m = s.hide m :=
  hide_mono h_sub (by simp [dacTick])
@[simp] theorem thrLimit_hide (ch : Nat) (s : State) {m : Nat} (h_sub : 1282 &&& m = 1282) : (thrLimit ch s).hide m = s.hide m :=
  hide_mono h_sub (by simp [thrLimit])
@[simp] theorem ddsFtwWrite_hide (ch : Nat) (hi : Bool) (v : Word) (s : State) {m : Nat} (h_sub : 16777218 &&& m = 16777218) : (ddsFtwWrite ch hi v s).hide m = s.hide m :=
  hide_mono h_sub (by simp [ddsFtwWrite])

/-! Meas -/

@[simp] theorem setRun_hide (s : State) (u : Nat) (st : MeasState) (r : MeasRun) {m : Nat} (h_sub : 8388608 &&& m = 8388608) : (setRun s u st r).hide m = s.hide m :=
  hide_mono h_sub (by simp [setRun])
@[simp] theorem putAt_hide (s : State) (r : MeasRun) (o : Nat) (bs : List Byte) {m : Nat} (h_sub : 2082 &&& m = 2082) : (putAt s r o bs).hide m = s.hide m :=
  hide_mono h_sub (by simp [putAt])
@[simp] theorem measEnd_hide (u : Nat) (cause : Nat) (t : Time) (cut : Bool) (s : State) {m : Nat} (h_sub : 8391842 &&& m = 8391842) : (measEnd u cause t cut s).hide m = s.hide m :=
  hide_mono h_sub (by unfold measEnd; (repeat' split) <;> simp)
@[simp] theorem ivAgain_hide (u : Nat) (t : Time) (s : State) {m : Nat} (h_sub : 8391842 &&& m = 8391842) : (ivAgain u t s).hide m = s.hide m :=
  hide_mono h_sub (by unfold ivAgain; (repeat' split) <;> simp)
@[simp] theorem ivStop_hide (u : Nat) (t : Time) (n : Nat) (s : State) {m : Nat} (h_sub : 8391842 &&& m = 8391842) : (ivStop u t n s).hide m = s.hide m :=
  hide_mono h_sub (by unfold ivStop; (repeat' split) <;> simp)
@[simp] theorem decCnt_hide (s : State) (o : Nat) (n : Nat) {m : Nat} (h_sub : 2 &&& m = 2) : (decCnt s o n).hide m = s.hide m :=
  hide_mono h_sub (by simp [decCnt])
@[simp] theorem ivStart_hide (u : Nat) (p : IntervalParams) (t : Time) (s : State) {m : Nat} (h_sub : 8391842 &&& m = 8391842) : (ivStart u p t s).hide m = s.hide m :=
  hide_mono h_sub (by unfold ivStart; (repeat' split) <;> simp)
@[simp] theorem ivWait_hide (u : Nat) (p : IntervalParams) (x : MStamp) (s : State) {m : Nat} (h_sub : 8391842 &&& m = 8391842) : (ivWait u p x s).hide m = s.hide m :=
  hide_mono h_sub (by unfold ivWait; (repeat' split) <;> simp)
@[simp] theorem ivStamp_hide (u : Nat) (p : IntervalParams) (x : MStamp) (s : State) {m : Nat} (h_sub : 8391842 &&& m = 8391842) : (ivStamp u p x s).hide m = s.hide m :=
  hide_mono h_sub (by unfold ivStamp; (repeat' split) <;> simp)
@[simp] theorem fqStamp_hide (u : Nat) (p : FreqParams) (x : MStamp) (s : State) {m : Nat} (h_sub : 8388610 &&& m = 8388610) : (fqStamp u p x s).hide m = s.hide m :=
  hide_mono h_sub (by unfold fqStamp; (repeat' split) <;> simp)
@[simp] theorem unitStamp_hide (u : Nat) (x : MStamp) (s : State) {m : Nat} (h_sub : 8391842 &&& m = 8391842) : (unitStamp u x s).hide m = s.hide m :=
  hide_mono h_sub (by unfold unitStamp; (repeat' split) <;> simp)
@[simp] theorem gateOpens_hide (u : Nat) (t : Time) (s : State) {m : Nat} (h_sub : 8388610 &&& m = 8388610) : (gateOpens u t s).hide m = s.hide m :=
  hide_mono h_sub (by unfold gateOpens; (repeat' split) <;> simp)
@[simp] theorem gateCloses_hide (u : Nat) (t : Time) (cut : Bool) (s : State) {m : Nat} (h_sub : 8391842 &&& m = 8391842) : (gateCloses u t cut s).hide m = s.hide m :=
  hide_mono h_sub (by unfold gateCloses; (repeat' split) <;> simp)
@[simp] theorem measEvent_hide (u : Nat) (e : MeasEvent) (s : State) {m : Nat} (h_sub : 8388608 &&& m = 8388608) : (measEvent u e s).hide m = s.hide m :=
  hide_mono h_sub (by unfold measEvent; (repeat' split) <;> simp)
@[simp] theorem unitDead_hide (u : Nat) (t : Time) (s : State) {m : Nat} (h_sub : 8388608 &&& m = 8388608) : (unitDead u t s).hide m = s.hide m :=
  hide_mono h_sub (by unfold unitDead; (repeat' split) <;> simp)
@[simp] theorem unitEvent_hide (u : Nat) (e : MeasEvent) (s : State) {m : Nat} (h_sub : 8391842 &&& m = 8391842) : (unitEvent u e s).hide m = s.hide m :=
  hide_mono h_sub (by unfold unitEvent; (repeat' split) <;> simp)
@[simp] theorem pumpOne_hide (u : Nat) (t : Time) (s : State) {m : Nat} (h_sub : 8391842 &&& m = 8391842) : (pumpOne u t s).hide m = s.hide m :=
  hide_mono h_sub (by unfold pumpOne; (repeat' split) <;> simp)
@[simp] theorem pumpTo_hide (u : Nat) (t : Time) (s : State) {m : Nat} (h_sub : 8391842 &&& m = 8391842) : (pumpTo u t s).hide m = s.hide m :=
  hide_mono h_sub (by simp [pumpTo])
@[simp] theorem gateSample_hide (u : Nat) (d : DeckImage) (s : State) (i : Sample) {m : Nat} (h_sub : 8388608 &&& m = 8388608) : (gateSample u d s i).hide m = s.hide m :=
  hide_mono h_sub (by unfold gateSample; (repeat' split) <;> simp)
@[simp] theorem gateSamples_hide (u : Nat) (s : State) {m : Nat} (h_sub : 8388608 &&& m = 8388608) : (gateSamples u s).hide m = s.hide m :=
  hide_mono h_sub (by unfold gateSamples; (repeat' split) <;> simp)
@[simp] theorem measPump_hide (u : Nat) (s : State) {m : Nat} (h_sub : 8391842 &&& m = 8391842) : (measPump u s).hide m = s.hide m :=
  hide_mono h_sub (by unfold measPump; dsimp only; (repeat' split) <;> simp)
@[simp] theorem pumpAll_hide (s : State) {m : Nat} (h_sub : 8391842 &&& m = 8391842) : (pumpAll s).hide m = s.hide m :=
  hide_mono h_sub (by simp [pumpAll])
@[simp] theorem measUpTo_hide (u : Nat) (t : Time) (s : State) {m : Nat} (h_sub : 8391842 &&& m = 8391842) : (measUpTo u t s).hide m = s.hide m :=
  hide_mono h_sub (by simp [measUpTo])
@[simp] theorem measStamp_hide (x : MStamp) (s : State) (u : Nat) {m : Nat} (h_sub : 8391842 &&& m = 8391842) : (measStamp x s u).hide m = s.hide m :=
  hide_mono h_sub (by unfold measStamp; (repeat' split) <;> simp)
@[simp] theorem gatePin_hide (u : Nat) (t : Time) (level : Bool) (s : State) {m : Nat} (h_sub : 8391842 &&& m = 8391842) : (gatePin u t level s).hide m = s.hide m :=
  hide_mono h_sub (by unfold gatePin; (repeat' split) <;> simp)
@[simp] theorem measDead_hide (n : Nat) (t : Time) (s : State) (u : Nat) {m : Nat} (h_sub : 8391842 &&& m = 8391842) : (measDead n t s u).hide m = s.hide m :=
  hide_mono h_sub (by unfold measDead; (repeat' split) <;> simp)
@[simp] theorem measWindowEnd_hide (u : Nat) (s0 : State) {m : Nat} (h_sub : 8391842 &&& m = 8391842) : (measWindowEnd u s0).hide m = s0.hide m :=
  hide_mono h_sub (by unfold measWindowEnd; dsimp only; (repeat' split) <;> simp)
@[simp] theorem measGateTimer_hide (u : Nat) (s0 : State) {m : Nat} (h_sub : 8391842 &&& m = 8391842) : (measGateTimer u s0).hide m = s0.hide m :=
  hide_mono h_sub (by unfold measGateTimer; dsimp only; (repeat' split) <;> simp)
@[simp] theorem measTimeout_hide (u : Nat) (s0 : State) {m : Nat} (h_sub : 8391842 &&& m = 8391842) : (measTimeout u s0).hide m = s0.hide m :=
  hide_mono h_sub (by unfold measTimeout; dsimp only; (repeat' split) <;> simp)
@[simp] theorem measBegin_hide (h : CmdHdr) (op : Nat) (u : Nat) (iv : Option IntervalParams) (fq : Option FreqParams) (dest : BitVec 64) (s : State) {m : Nat} (h_sub : 8388738 &&& m = 8388738) : (measBegin h op u iv fq dest s).hide m = s.hide m :=
  hide_mono h_sub (by simp [measBegin])
@[simp] theorem measAbort_hide (h : CmdHdr) (op : Nat) (u : Nat) (s : State) {m : Nat} (h_sub : 8391842 &&& m = 8391842) : (measAbort h op u s).hide m = s.hide m :=
  hide_mono h_sub (by simp [measAbort])
@[simp] theorem intervalBody_hide (h : CmdHdr) (p : IntervalParams) (s : State) {m : Nat} (h_sub : 8391842 &&& m = 8391842) : (intervalBody h p s).hide m = s.hide m :=
  hide_mono h_sub (by unfold intervalBody; (repeat' split) <;> simp)
@[simp] theorem freqBody_hide (h : CmdHdr) (p : FreqParams) (s : State) {m : Nat} (h_sub : 8391842 &&& m = 8391842) : (freqBody h p s).hide m = s.hide m :=
  hide_mono h_sub (by unfold freqBody; (repeat' split) <;> simp)

/-! Tin -/

@[simp] theorem recogStamp_hide (s : State) (n : Nat) (t : Time) (falling : Bool) {m : Nat} (h_sub : 34050 &&& m = 34050) : (recogStamp s n t falling).hide m = s.hide m :=
  hide_mono h_sub (by unfold recogStamp; (repeat' split) <;> simp)
@[simp] theorem noteStamp_hide (s : State) (n : Nat) (t : Time) (falling : Bool) {m : Nat} (h_sub : 2 &&& m = 2) : (noteStamp s n t falling).hide m = s.hide m :=
  hide_mono h_sub (by simp [noteStamp])
@[simp] theorem tinStamp_hide (n : Nat) (t : Time) (falling : Bool) (s : State) {m : Nat} (h_sub : 8424866 &&& m = 8424866) : (tinStamp n t falling s).hide m = s.hide m :=
  hide_mono h_sub (by simp [tinStamp])
@[simp] theorem trigInEdge_hide (t0 : Time) (level : Bool) (held : Nat) (s : State) {m : Nat} (h_sub : 34050 &&& m = 34050) : (trigInEdge t0 level held s).hide m = s.hide m :=
  hide_mono h_sub (by unfold trigInEdge; (repeat' split) <;> simp)
@[simp] theorem gateRecog_hide (t0 : Time) (level : Bool) (held : Nat) (s : State) {m : Nat} (h_sub : 34050 &&& m = 34050) : (gateRecog t0 level held s).hide m = s.hide m :=
  hide_mono h_sub (by unfold gateRecog; (repeat' split) <;> simp)
@[simp] theorem gateMeas_hide (t : Time) (level : Bool) (held : Nat) (s : State) {m : Nat} (h_sub : 8391842 &&& m = 8391842) : (gateMeas t level held s).hide m = s.hide m :=
  hide_mono h_sub (by simp [gateMeas])
@[simp] theorem tinLeaveOff_hide (s : State) (n : Nat) {m : Nat} (h_sub : 8388610 &&& m = 8388610) : (tinLeaveOff s n).hide m = s.hide m :=
  hide_mono h_sub (by simp [tinLeaveOff])
@[simp] theorem tinEn_hide (s : State) (n : Nat) (b : Bool) {m : Nat} (h_sub : 8388610 &&& m = 8388610) : (tinEn s n b).hide m = s.hide m :=
  hide_mono h_sub (by simp [tinEn])
@[simp] theorem tinProgram_hide (s : State) (n : Nat) (c : TinCmd) (p : TinParams) {m : Nat} (h_sub : 25165826 &&& m = 25165826) : (tinProgram s n c p).hide m = s.hide m :=
  hide_mono h_sub (by simp [tinProgram])
@[simp] theorem tinConfigBody_hide (h : CmdHdr) (p : TinParams) (s : State) {m : Nat} (h_sub : 25166978 &&& m = 25166978) : (tinConfigBody h p s).hide m = s.hide m :=
  hide_mono h_sub (by unfold tinConfigBody; dsimp only; (repeat' split) <;> simp)
@[simp] theorem tinOn_hide (s : State) (n : Nat) {m : Nat} (h_sub : 8389760 &&& m = 8389760) : (tinOn s n).hide m = s.hide m :=
  hide_mono h_sub (by unfold tinOn; (repeat' split) <;> simp)
@[simp] theorem tinOff_hide (s : State) (n : Nat) {m : Nat} (h_sub : 25165826 &&& m = 25165826) : (tinOff s n).hide m = s.hide m :=
  hide_mono h_sub (by unfold tinOff; (repeat' split) <;> simp)
@[simp] theorem tdcFail_hide (n : Nat) (s : State) {m : Nat} (h_sub : 8392098 &&& m = 8392098) : (tdcFail n s).hide m = s.hide m := hide_mono h_sub <| by
  unfold tdcFail; dsimp only
  have h : ∀ t : State, ((List.range 4).foldl (fun s u =>
      match (measOf s u).run with
      | some r => if runUses r n then measEnd u 5 (now s) false (measUpTo u (now s) s) else s
      | none => s) t).hide 8392098 = t.hide 8392098 := by
    refine hide_foldl _ (fun s u => ?_) _
    split
    · exact hide_if ((measEnd_hide (h_sub := rfl) ..).trans (measUpTo_hide (h_sub := rfl) ..)) rfl
    · rfl
  split
  · rw [endRun_hide (m := 8392098) (h_sub := rfl)]; exact (h _).trans (by rw [raiseErr_hide (m := 8392098) (h_sub := rfl), setBlkState_hide (m := 8392098) (h_sub := rfl), setTin_hide (m := 8392098) (h_sub := rfl)])
  · exact (h _).trans (by rw [raiseErr_hide (m := 8392098) (h_sub := rfl), setBlkState_hide (m := 8392098) (h_sub := rfl), setTin_hide (m := 8392098) (h_sub := rfl)])

@[simp] theorem handTo_hide (s : State) (d : DeckImage) (h : Fin 32) (i : Sample) {m : Nat} (h_sub : 144616866 &&& m = 144616866) : (handTo s d h i).hide m = s.hide m :=
  hide_mono h_sub (by simp [handTo])

/-! Pattern -/

@[simp] theorem patWrite_hide (s : State) (d : DeckImage) (o : Nat) (bs : List Byte) {m : Nat} (h_sub : 2048 &&& m = 2048) : (patWrite s d o bs).hide m = s.hide m :=
  hide_mono h_sub (by simp [patWrite])
@[simp] theorem storePseg_hide (s : State) (d : DeckImage) (p : Nat) (blocks : Nat) (streams : List (Nat × List Byte)) (ofs : List Nat) {m : Nat} (h_sub : 2099200 &&& m = 2099200) : (storePseg s d p blocks streams ofs).hide m = s.hide m :=
  hide_mono h_sub (by simp [storePseg])
@[simp] theorem patternLoadGo_hide (h : CmdHdr) (p : PatternLoadParams) (s0 : State) {m : Nat} (h_sub : 2100386 &&& m = 2100386) : (patternLoadGo h p s0).hide m = s0.hide m :=
  hide_mono h_sub (by unfold patternLoadGo; dsimp only; (repeat' split) <;> simp)
@[simp] theorem patternLoadBody_hide (h : CmdHdr) (p : PatternLoadParams) (s : State) {m : Nat} (h_sub : 2100898 &&& m = 2100898) : (patternLoadBody h p s).hide m = s.hide m :=
  hide_mono h_sub (by unfold patternLoadBody; (repeat' split) <;> simp_all)
@[simp] theorem playTo_hide (s : State) (d : DeckImage) (n : Nat) {m : Nat} (h_sub : 2097154 &&& m = 2097154) : (playTo s d n).hide m = s.hide m := hide_mono h_sub <| by
  unfold playTo; dsimp only; refine hide_if rfl ((hide_setPgen (m := 2097154) _ _ rfl).trans (hide_foldl _ (fun s q => ?_) _ _))
  split
  · exact hide_if (wr64_hide (h_sub := rfl) ..) rfl
  · rfl

@[simp] theorem playEnd_hide (s : State) {m : Nat} (h_sub : 2098562 &&& m = 2098562) : (playEnd s).hide m = s.hide m :=
  hide_mono h_sub (by simp [playEnd])
@[simp] theorem windowOut_hide (s : State) (d : DeckImage) (n : Nat) {m : Nat} (h_sub : 4199714 &&& m = 4199714) : (windowOut s d n).hide m = s.hide m := hide_mono h_sub <| by
  unfold windowOut; dsimp only; split
  · rfl
  · split
    · rw [setChecker_hide (m := 4199714) (h_sub := rfl)]
    · split
      · rw [eqItem_hide (m := 4199714) (h_sub := rfl), setChecker_hide (m := 4199714) (h_sub := rfl)]
      · rw [logAdd_hide (m := 4199714) (h_sub := rfl), useFree_hide (m := 4199714) (h_sub := rfl), incCnt_hide (m := 4199714) (h_sub := rfl), eqItem_hide (m := 4199714) (h_sub := rfl), setChecker_hide (m := 4199714) (h_sub := rfl)]

@[simp] theorem leaveCheck_hide (s : State) (d : DeckImage) (n : Nat) (st : CheckState) {m : Nat} (h_sub : 4199714 &&& m = 4199714) : (leaveCheck s d n st).hide m = s.hide m :=
  hide_mono h_sub (by simp [leaveCheck])
@[simp] theorem violationActs_hide (s : State) (d : DeckImage) (n : Nat) (i : Nat) (first : Bool) {m : Nat} (h_sub : 138325410 &&& m = 138325410) : (violationActs s d n i first).hide m = s.hide m :=
  hide_mono h_sub (by simp [violationActs])
@[simp] theorem expOut_hide (s : State) (d : DeckImage) (n : Nat) (x : Nat) {m : Nat} (h_sub : 2 &&& m = 2) : (expOut s d n x).hide m = s.hide m :=
  hide_mono h_sub (by simp [expOut])
@[simp] theorem checkOne_hide (d : DeckImage) (n : Nat) (i : Nat) (s : State) {m : Nat} (h_sub : 142523810 &&& m = 142523810) : (checkOne d n i s).hide m = s.hide m :=
  hide_mono h_sub (by simp [checkOne])
@[simp] theorem checkTo_hide (s : State) (d : DeckImage) (n i : Nat) {m : Nat} (h_sub : 142523810 &&& m = 142523810) : (checkTo s d n i).hide m = s.hide m := hide_mono h_sub <| by
  unfold checkTo; dsimp only; split
  · exact stepN_hide _ (fun k s => by rw [checkOne_hide (m := 142523810) (h_sub := rfl)]) _ _ _
  · rfl

@[simp] theorem checkerSync_hide (n : Nat) (i : Sample) (s0 : State) (d : DeckImage) {m : Nat} (h_sub : 12619170 &&& m = 12619170) : (checkerSync n i s0 d).hide m = s0.hide m :=
  hide_mono h_sub (by unfold checkerSync; dsimp only; (repeat' split) <;> simp)
@[simp] theorem maskRecord_hide (n : Nat) (w : Nat) (s : State) (d : DeckImage) {m : Nat} (h_sub : 4199714 &&& m = 4199714) : (maskRecord n w s d).hide m = s.hide m :=
  hide_mono h_sub (by unfold maskRecord; dsimp only; (repeat' split) <;> simp)
@[simp] theorem checkerDone_hide (n : Nat) (s : State) (d : DeckImage) {m : Nat} (h_sub : 142523810 &&& m = 142523810) : (checkerDone n s d).hide m = s.hide m :=
  hide_mono h_sub (by simp [checkerDone])
@[simp] theorem patternPlayBody_hide (h : CmdHdr) (p : PatternPlayParams) (s : State) {m : Nat} (h_sub : 2098304 &&& m = 2098304) : (patternPlayBody h p s).hide m = s.hide m :=
  hide_mono h_sub (by unfold patternPlayBody; (repeat' split) <;> simp)
@[simp] theorem stopCheckers_hide (s : State) (d : DeckImage) (i : Sample) {m : Nat} (h_sub : 142523810 &&& m = 142523810) : (stopCheckers s d i).hide m = s.hide m := hide_mono h_sub <| by
  unfold stopCheckers; refine hide_foldl _ (fun s n => ?_) _ _
  split
  · dsimp only; rw [leaveCheck_hide (m := 142523810) (h_sub := rfl), hide_ite, checkTo_hide (m := 142523810) (h_sub := rfl), ite_self]
  · rfl

@[simp] theorem patternStopBody_hide (h : CmdHdr) (mode : Byte) (i : Sample) (s : State) {m : Nat} (h_sub : 142523810 &&& m = 142523810) : (patternStopBody h mode i s).hide m = s.hide m := hide_mono h_sub <| by
  unfold patternStopBody; split
  · rw [refuse_hide (m := 142523810) (h_sub := rfl)]
  · dsimp only; split
    · rw [finish_hide (m := 142523810) (h_sub := rfl)]
    · rw [finish_hide (m := 142523810) (h_sub := rfl)]; split
      · rw [endRun_hide (m := 142523810) (h_sub := rfl), hide_setPgen (m := 142523810) _ _ rfl]
      · rw [hide_setPgen (m := 142523810) _ _ rfl]
    · rw [finish_hide (m := 142523810) (h_sub := rfl)]; split
      · rw [endRun_hide (m := 142523810) (h_sub := rfl), hide_setPgen (m := 142523810) _ _ rfl]
      · rw [hide_setPgen (m := 142523810) _ _ rfl]
    · split
      · rw [finish_hide (m := 142523810) (h_sub := rfl), playEnd_hide (m := 142523810) (h_sub := rfl), stopCheckers_hide (m := 142523810) (h_sub := rfl)]
      · rw [hide_modPgen (m := 142523810) _ _ rfl, keepRunning_hide (m := 142523810) (h_sub := rfl), stopCheckers_hide (m := 142523810) (h_sub := rfl)]

@[simp] theorem passDecision_hide (i : Sample) (s : State) (d : DeckImage) {m : Nat} (h_sub : 2097154 &&& m = 2097154) : (passDecision i s d).hide m = s.hide m := hide_mono h_sub <| by
  unfold passDecision; exact hide_if ((hide_setPgen (m := 2097154) _ _ rfl).trans (playTo_hide (h_sub := rfl) ..)) rfl

@[simp] theorem passEnd_hide (s0 : State) {m : Nat} (h_sub : 2098562 &&& m = 2098562) : (passEnd s0).hide m = s0.hide m := hide_mono h_sub <| by
  unfold passEnd; lift_lets; intro s p
  have h : s.hide 2098562 = s0.hide 2098562 := by
    simp only [s]; split
    · exact hide_if (playTo_hide (h_sub := rfl) ..) rfl
    · rfl
  rw [← h]
  refine hide_if rfl (hide_if (playEnd_hide (h_sub := rfl) ..) (hide_if rfl ?_))
  split
  · exact playEnd_hide (h_sub := rfl) ..
  · exact hide_setPgen (m := 2098562) _ _ rfl

@[simp] theorem playSlot_hide (s : State) (d : DeckImage) {m : Nat} (h_sub : 2098562 &&& m = 2098562) : (playSlot s d).hide m = s.hide m := hide_mono h_sub <| by
  unfold playSlot
  generalize hs : (if passLen s d s.pgen.entry ≤ s.pgen.block then passEnd s else s) = s1
  have h : s1.hide 2098562 = s.hide 2098562 := by rw [← hs]; exact hide_if (passEnd_hide (h_sub := rfl) ..) rfl
  rw [← h]; dsimp only
  refine hide_if ?_ rfl
  rw [playTo_hide (m := 2098562) (h_sub := rfl), hide_modPgen (m := 2098562) _ _ rfl]
  exact hide_if (passDecision_hide (h_sub := rfl) ..) rfl

@[simp] theorem playbackStart_hide (i : Sample) (s : State) (d : DeckImage) {m : Nat} (h_sub : 6292866 &&& m = 6292866) : (playbackStart i s d).hide m = s.hide m := hide_mono h_sub <| by
  unfold playbackStart; dsimp only
  refine hide_if ?_ rfl
  generalize hb : List.foldl _ _ _ = t
  have h : t.hide 6292866 = s.hide 6292866 := by
    rw [← hb]
    refine (hide_foldl _ (fun s n => ?_) _ _).trans ?_
    · rw [wr_hide (m := 6292866) (h_sub := rfl), setChecker_hide (m := 6292866) (h_sub := rfl)]
    · rw [wr_hide (m := 6292866) (h_sub := rfl), wr64_hide (m := 6292866) (h_sub := rfl), raiseBit_hide (m := 6292866) (h_sub := rfl), hide_setPgen (m := 6292866) _ _ rfl]
  rw [← h]
  have h4 : (match s.pgen.cmd with
      | some c => endRun t c.1 c.2 cOk (timeWord ((now s + toSlot s * fclkT) % timeMod) 0x0482 % 2 ^ 32)
          (timeWord ((now s + toSlot s * fclkT) % timeMod) 0x0482 / 2 ^ 32)
      | none => t).hide 6292866 = t.hide 6292866 := by
    split
    · exact endRun_hide (h_sub := rfl) ..
    · rfl
  exact hide_if ((playSlot_hide (h_sub := rfl) ..).trans h4) h4

@[simp] theorem tickPlay_hide (s : State) {m : Nat} (h_sub : 6292866 &&& m = 6292866) : (tickPlay s).hide m = s.hide m := hide_mono h_sub <| by
  unfold tickPlay
  generalize hs : s.modPgen _ = s1
  have h : s1.hide 6292866 = s.hide 6292866 := by rw [← hs]; exact hide_modPgen (m := 6292866) _ _ rfl
  rw [← h]; dsimp only
  split
  · rfl
  · refine hide_if rfl ?_
    have h2 : (if s1.pgen.startFlag.isSome then s1.modPgen (fun p => { p with st := .waitStart }) else s1).hide 6292866 = s1.hide 6292866 :=
      hide_if (hide_modPgen (m := 6292866) _ _ rfl) rfl
    split
    · rfl
    · exact hide_if (playSlot_hide (h_sub := rfl) ..) rfl
    · exact hide_if ((playbackStart_hide (h_sub := rfl) ..).trans h2) h2
    · exact hide_if ((playbackStart_hide (h_sub := rfl) ..).trans h2) h2

@[simp] theorem streamDetail_hide (s : State) (e : Nat) (detail : Nat) {m : Nat} (h_sub : 258 &&& m = 258) : (streamDetail s e detail).hide m = s.hide m :=
  hide_mono h_sub (by simp [streamDetail])
@[simp] theorem underrun_hide (s : State) (d : DeckImage) (e : Nat) (detail : Nat) {m : Nat} (h_sub : 6296994 &&& m = 6296994) : (underrun s d e detail).hide m = s.hide m :=
  hide_mono h_sub (by simp [underrun])

/-! Readout -/

@[simp] theorem finishReadout_hide (s : State) (d : DeckImage) (n : Nat) (j : DroverJob) {m : Nat} (h_sub : 34623458 &&& m = 34623458) : (finishReadout s d n j).hide m = s.hide m := hide_mono h_sub <| by
  unfold finishReadout; dsimp only
  rw [endRun_hide (m := 34623458) (h_sub := rfl), hide_ite, useFree_hide (m := 34623458) (h_sub := rfl), ite_self, hide_modComp (m := 34623458) _ _ rfl, hide_modDrov (m := 34623458) _ _ rfl, wrF_hide (m := 34623458) (h_sub := rfl), wr64_hide (m := 34623458) (h_sub := rfl), hide_ite, raiseErr_hide (m := 34623458) (h_sub := rfl), ite_self,
    hide_ite, incCnt_hide (m := 34623458) (h_sub := rfl), raiseErr_hide (m := 34623458) (h_sub := rfl), ite_self, hide_ite, raiseBit_hide (m := 34623458) (h_sub := rfl), ite_self]
  split
  · rw [putHost_hide (m := 34623458) (h_sub := rfl), putBuf_hide (m := 34623458) (h_sub := rfl), putBuf_hide (m := 34623458) (h_sub := rfl)]
  · rw [putBuf_hide (m := 34623458) (h_sub := rfl), putBuf_hide (m := 34623458) (h_sub := rfl)]

@[simp] theorem readoutDone_hide (s : State) (cid : BitVec 16) {m : Nat} (h_sub : 34623458 &&& m = 34623458) : (readoutDone s cid).hide m = s.hide m :=
  hide_mono h_sub (by unfold readoutDone; (repeat' split) <;> simp)
@[simp] theorem droverCmd_hide (s : State) (i : Instr) {m : Nat} (h_sub : 2108578 &&& m = 2108578) : (droverCmd s i).hide m = s.hide m :=
  hide_mono h_sub (by unfold droverCmd; (repeat' split) <;> simp)
@[simp] theorem useEngine_hide (s : State) (k : Nat) (use : Nat) (n : Nat) {m : Nat} (h_sub : 1048578 &&& m = 1048578) : (useEngine s k use n).hide m = s.hide m :=
  hide_mono h_sub (by simp [useEngine])
@[simp] theorem verifyPage_hide (s : State) (d : DeckImage) (e : Nat) (f : Nat) (k : Nat) (r : UnitRec) {m : Nat} (h_sub : 1048834 &&& m = 1048834) : (verifyPage s d e f k r).hide m = s.hide m :=
  hide_mono h_sub (by unfold verifyPage; dsimp only; (repeat' split) <;> simp)
@[simp] theorem queueRead_hide (s : State) (h : CmdHdr) (seg : Nat) (job : ReadJob) {m : Nat} (h_sub : 640 &&& m = 640) : (queueRead s h seg job).hide m = s.hide m :=
  hide_mono h_sub (by simp [queueRead])
@[simp] theorem readFoldBody_hide (h : CmdHdr) (p : ReadFoldParams) (s : State) {m : Nat} (h_sub : 1664 &&& m = 1664) : (readFoldBody h p s).hide m = s.hide m :=
  hide_mono h_sub (by unfold readFoldBody; (repeat' split) <;> simp)
@[simp] theorem readRangeBody_hide (h : CmdHdr) (p : ReadRangeParams) (s : State) {m : Nat} (h_sub : 1664 &&& m = 1664) : (readRangeBody h p s).hide m = s.hide m :=
  hide_mono h_sub (by unfold readRangeBody; dsimp only; (repeat' split) <;> simp)
@[simp] theorem readIndexBody_hide (h : CmdHdr) (p : ReadIndexParams) (s : State) {m : Nat} (h_sub : 1664 &&& m = 1664) : (readIndexBody h p s).hide m = s.hide m :=
  hide_mono h_sub (by simp [readIndexBody])

/-! Jobs -/

@[simp] theorem setCtx_hide (s : State) (k : Nat) (c : CtxSlot) {m : Nat} (h_sub : 1048576 &&& m = 1048576) : (setCtx s k c).hide m = s.hide m :=
  hide_mono h_sub (by simp [setCtx])
theorem keepCtx_hide (s : State) (slot : Option Nat) (st : StreamSt) (r : Nat × State) (h : keepCtx s slot st = some r) {m : Nat}
    (h_sub : 1048608 &&& m = 1048608) : r.2.hide m = s.hide m := hide_mono h_sub <| by
  unfold keepCtx at h; split at h
  · cases h; simp
  · split at h
    · cases h
    · rename_i k s1 e
      have h1 := pickFree_hide _ _ _ e (m := 1048608) rfl
      dsimp only at h1 h
      cases h; rw [setCtx_hide (m := 1048608) (h_sub := rfl), h1]

@[simp] theorem dropCtx_hide (s : State) (slot : Option Nat) {m : Nat} (h_sub : 1048576 &&& m = 1048576) : (dropCtx s slot).hide m = s.hide m :=
  hide_mono h_sub (by unfold dropCtx; (repeat' split) <;> simp)
@[simp] theorem endOpen_hide (s : State) (j : EngineJob) (status n : Nat) (st : StreamSt) {m : Nat} (h_sub : 1049760 &&& m = 1049760) :
    (endOpen s j status n st).hide m = s.hide m := hide_mono h_sub <| by
  unfold endOpen; split
  · rename_i t s1 e; rw [endRun_hide (m := 1049760) (h_sub := rfl)]; exact keepCtx_hide _ _ _ _ e rfl
  · rw [endRun_hide (m := 1049760) (h_sub := rfl)]

@[simp] theorem endClosed_hide (s : State) (j : EngineJob) (status : Nat) (r : Nat) {m : Nat} (h_sub : 1049728 &&& m = 1049728) : (endClosed s j status r).hide m = s.hide m :=
  hide_mono h_sub (by simp [endClosed])
@[simp] theorem runCompress_hide (s : State) (e : Nat) (j : EngineJob) (u : JobUpset) {m : Nat} (h_sub : 135269794 &&& m = 135269794) : (runCompress s e j u).hide m = s.hide m :=
  hide_mono h_sub (by simp [runCompress])
@[simp] theorem jobDataError_hide (s : State) (e : Nat) (j : EngineJob) (code : Nat) {m : Nat} (h_sub : 1049986 &&& m = 1049986) : (jobDataError s e j code).hide m = s.hide m :=
  hide_mono h_sub (by simp [jobDataError])
@[simp] theorem dcmpEcc_hide (s : State) (e : Nat) {m : Nat} (h_sub : 135267586 &&& m = 135267586) : (dcmpEcc s e).hide m = s.hide m :=
  hide_mono h_sub (by simp [dcmpEcc])
@[simp] theorem runDecompress_hide (s : State) (e : Nat) (j : EngineJob) (u : JobUpset) {m : Nat} (h_sub : 135269794 &&& m = 135269794) : (runDecompress s e j u).hide m = s.hide m :=
  hide_mono h_sub (by unfold runDecompress; dsimp only; (repeat' split) <;> simp)
@[simp] theorem queueJob_hide (s : State) (h : CmdHdr) (op : Nat) (j : EngineJob) {m : Nat} (h_sub : 1048704 &&& m = 1048704) : (queueJob s h op j).hide m = s.hide m :=
  hide_mono h_sub (by unfold queueJob; (repeat' split) <;> simp)
@[simp] theorem startJob_hide (s : State) (h : CmdHdr) (op : Nat) (token : BitVec 64) (inList : BitVec 64) (outList : BitVec 64) (new : StreamSt) (j : EngineJob) {m : Nat} (h_sub : 1049728 &&& m = 1049728) : (startJob s h op token inList outList new j).hide m = s.hide m :=
  hide_mono h_sub (by unfold startJob; (repeat' split) <;> simp)
@[simp] theorem compressBody_hide (h : CmdHdr) (p : CompressParams) (s : State) {m : Nat} (h_sub : 1049728 &&& m = 1049728) : (compressBody h p s).hide m = s.hide m :=
  hide_mono h_sub (by simp [compressBody])
@[simp] theorem decompressBody_hide (h : CmdHdr) (p : DecompressParams) (s : State) {m : Nat} (h_sub : 1049728 &&& m = 1049728) : (decompressBody h p s).hide m = s.hide m :=
  hide_mono h_sub (by simp [decompressBody])
@[simp] theorem decompressionEccError_hide (s : State) (e : Nat) {m : Nat} (h_sub : 141563298 &&& m = 141563298) : (decompressionEccError s e).hide m = s.hide m :=
  hide_mono h_sub (by unfold decompressionEccError; dsimp only; (repeat' split) <;> simp)
@[simp] theorem tickEngines_hide (s : State) {m : Nat} (h_sub : 1048578 &&& m = 1048578) : (tickEngines s).hide m = s.hide m :=
  hide_mono h_sub (by simp [tickEngines])

/-! Host -/

@[simp] theorem pairStart_hide (s : State) (n : Nat) {m : Nat} (h_sub : 130 &&& m = 130) : (pairStart s n).hide m = s.hide m :=
  hide_mono h_sub <| by unfold pairStart; rw [hide_modCmd (m := 130) _ _ rfl, wr_hide _ _ _ rfl, wr_hide _ _ _ rfl]

@[simp] theorem pairOff_hide (s : State) (n : Nat) {m : Nat} (h_sub : 130 &&& m = 130) : (pairOff s n).hide m = s.hide m :=
  hide_mono h_sub (by simp [pairOff])
@[simp] theorem pairEn_hide (s : State) (n : Nat) (b : Bool) {m : Nat} (h_sub : 130 &&& m = 130) : (pairEn s n b).hide m = s.hide m :=
  hide_mono h_sub (by simp [pairEn])
@[simp] theorem pairSettle_hide (s : State) (n : Nat) {m : Nat} (h_sub : 130 &&& m = 130) : (pairSettle s n).hide m = s.hide m :=
  hide_mono h_sub (by simp [pairSettle])
@[simp] theorem dbErr_hide (s : State) (n : Nat) {m : Nat} (h_sub : 258 &&& m = 258) : (dbErr s n).hide m = s.hide m :=
  hide_mono h_sub (by simp [dbErr])
@[simp] theorem takeEntry_hide (s : State) (ring : Fin 16) (e : List Byte) {m : Nat} (h_sub : 1152 &&& m = 1152) : (takeEntry s ring e).hide m = s.hide m :=
  hide_mono h_sub (by simp [takeEntry])
@[simp] theorem moveHead_hide (s : State) (n : Nat) {m : Nat} (h_sub : 2050 &&& m = 2050) : (moveHead s n).hide m = s.hide m :=
  hide_mono h_sub (by simp [moveHead])
@[simp] theorem setCqSt_hide (s : State) (n : Nat) (q : CqSt) {m : Nat} (h_sub : 128 &&& m = 128) : (setCqSt s n q).hide m = s.hide m :=
  hide_mono h_sub (by simp [setCqSt])
@[simp] theorem posted_hide (s : State) (n : Nat) {m : Nat} (h_sub : 386 &&& m = 386) : (posted s n).hide m = s.hide m :=
  hide_mono h_sub (by simp [posted])
@[simp] theorem writeCompletion_hide (s : State) (f : Completion) {m : Nat} (h_sub : 2434 &&& m = 2434) : (writeCompletion s f).hide m = s.hide m :=
  hide_mono h_sub (by simp [writeCompletion])
@[simp] theorem completionWrite_hide (s0 : State) (cid : BitVec 16) {m : Nat} (h_sub : 34623458 &&& m = 34623458) : (completionWrite s0 cid).hide m = s0.hide m :=
  hide_mono h_sub <| by
  have h0 : (readoutDone s0 cid).hide 34623458 = s0.hide 34623458 := readoutDone_hide (h_sub := rfl) ..
  unfold completionWrite; dsimp only; split
  · exact h0
  · refine hide_if h0 (hide_if ?_ ?_)
    · exact (raiseBit_hide (h_sub := rfl) ..).trans h0
    · exact (writeCompletion_hide (h_sub := rfl) ..).trans h0

@[simp] theorem hostReset_hide (s : State) {m : Nat} (h_sub : 1049474 &&& m = 1049474) : (hostReset s).hide m = s.hide m :=
  hide_mono h_sub <| by
  unfold hostReset; dsimp only
  rw [hide_setPcie (m := 1049474) _ _ rfl, hide_modComp (m := 1049474) _ _ rfl, hide_foldl _ (fun s n => by rw [wrF_hide (m := 1049474) (h_sub := rfl)]),
    hide_setDrov (m := 1049474) _ _ rfl, hide_modCmd (m := 1049474) _ _ rfl]
  exact hide_foldl _ (fun s n => hide_foldl _ (fun s o => wr_hide (h_sub := rfl) ..) _ s) _ s

/-! Memory -/

@[simp] theorem memLoc_hide (s : State) (r : Nat) (b : Nat) (w : Nat) (kind : Nat) {m : Nat} (h_sub : 2 &&& m = 2) : (memLoc s r b w kind).hide m = s.hide m :=
  hide_mono h_sub (by simp [memLoc])
@[simp] theorem offAccess_hide (s : State) (r : Nat) (b : Nat) (w : Nat) {m : Nat} (h_sub : 258 &&& m = 258) : (offAccess s r b w).hide m = s.hide m :=
  hide_mono h_sub (by simp [offAccess])
@[simp] theorem readUe_hide (s : State) (r : Nat) (b : Nat) (w : Nat) {m : Nat} (h_sub : 3330 &&& m = 3330) : (readUe s r b w).hide m = s.hide m :=
  hide_mono h_sub (by simp [readUe])
@[simp] theorem noteRowCe_hide (s : State) (r : Nat) (b : Nat) (w : Nat) {m : Nat} (h_sub : 2048 &&& m = 2048) : (noteRowCe s r b w).hide m = s.hide m :=
  hide_mono h_sub (by simp [noteRowCe])
@[simp] theorem readCe_hide (s : State) (r : Nat) (b : Nat) (w : Nat) {m : Nat} (h_sub : 134221058 &&& m = 134221058) : (readCe s r b w).hide m = s.hide m :=
  hide_mono h_sub (by simp [readCe])
@[simp] theorem putWord_hide (s : State) (r : Nat) (b : Nat) (w : Nat) (v : Nat) {m : Nat} (h_sub : 2048 &&& m = 2048) : (putWord s r b w v).hide m = s.hide m :=
  hide_mono h_sub (by simp [putWord])
@[simp] theorem stall_hide (r : Nat) (s : State) (m : Nat) {k : Nat} (h_sub : 258 &&& k = 258) : (stall r s m).hide k = s.hide k :=
  hide_mono h_sub (by simp [stall])
@[simp] theorem stallAll_hide (r : Nat) (s : State) (l : List Nat) {m : Nat} (h_sub : 258 &&& m = 258) : (stallAll r s l).hide m = s.hide m :=
  hide_mono h_sub (by simp [stallAll])
theorem hostWait_hide (r b : Nat) (rmw : Bool) : ∀ (n : Nat) (rivals : List (BitVec 3)) (c : Nat) (left : List Nat) (s : State),
    (hostWait r b rmw n rivals c left s).hide 258 = s.hide 258 := by
  intro n; induction n with
  | zero => intros; rfl
  | succ n ih =>
    intro rivals c left s; unfold hostWait; dsimp only
    exact hide_if (hide_if (stallAll_hide (h_sub := rfl) ..) rfl)
      ((ih ..).trans ((stall_hide (h_sub := rfl) ..).trans (stallAll_hide (h_sub := rfl) ..)))
@[simp] theorem awaitPort_hide (s : State) (x : Nat) (rmw : Bool) (rivals : List (BitVec 3)) {m : Nat} (h_sub : 258 &&& m = 258) : (awaitPort s x rmw rivals).hide m = s.hide m := hide_mono h_sub <| by
  unfold awaitPort; split
  · exact hide_if (hostWait_hide ..) rfl
  · rfl

@[simp] theorem urSent_hide (s : State) {m : Nat} (h_sub : 258 &&& m = 258) : (urSent s).hide m = s.hide m :=
  hide_mono h_sub (by simp [urSent])
@[simp] theorem wdrop_hide (s : State) (off : Nat) {m : Nat} (h_sub : 258 &&& m = 258) : (wdrop s off).hide m = s.hide m :=
  hide_mono h_sub (by simp [wdrop])
@[simp] theorem hostWord_hide (m : Merge) (s : State) (r : Nat) (b : Nat) (w : Nat) (v : BitVec 64) (portA : Option (BitVec 64)) {k : Nat} (h_sub : 2306 &&& k = 2306) : (hostWord m s r b w v portA).hide k = s.hide k :=
  hide_mono h_sub (by unfold hostWord; (repeat' split) <;> simp)
@[simp] theorem apertureWrite_hide (m : Merge) (s0 : State) (off x : Nat) (bs : List Byte) (portA : Option (BitVec 64)) (rivals : List (BitVec 3)) {k : Nat} (h_sub : 2306 &&& k = 2306) :
    (apertureWrite m s0 off x bs portA rivals).hide k = s0.hide k := hide_mono h_sub <| by
  unfold apertureWrite; dsimp only; split
  · exact urSent_hide (h_sub := rfl) ..
  · refine (hide_foldl _ (fun s i => ?_) _ _).trans (hide_if ((wdrop_hide (h_sub := rfl) ..).trans (awaitPort_hide (h_sub := rfl) ..)) (awaitPort_hide (h_sub := rfl) ..))
    split
    · rfl
    · exact hostWord_hide (h_sub := rfl) ..

@[simp] theorem hbmWrite_hide (s : State) (off : Nat) (bs : List Byte) {m : Nat} (h_sub : 2306 &&& m = 2306) : (hbmWrite s off bs).hide m = s.hide m :=
  hide_mono h_sub (by simp [hbmWrite])
@[simp] theorem bar2Put_hide (s : State) (off : Nat) (bs : List Byte) (portA : Option (BitVec 64)) (rivals : List (BitVec 3)) {m : Nat} (h_sub : 2306 &&& m = 2306) : (bar2Put s off bs portA rivals).hide m = s.hide m :=
  hide_mono h_sub (by simp [bar2Put])

@[simp] theorem apertureRead_hide (s0 : State) (x n : Nat) (rivals : List (BitVec 3)) {m : Nat} (h_sub : 3346 &&& m = 3346) : (apertureRead s0 x n rivals).hide m = s0.hide m := hide_mono h_sub <| by
  have h := awaitPort_hide s0 x false rivals (m := 3346) rfl
  unfold apertureRead
  generalize awaitPort s0 x false rivals = s at h ⊢
  rw [← h]; dsimp only
  split
  · exact (hide_setReply (m := 3346) _ _ rfl).trans (urSent_hide (h_sub := rfl) ..)
  · refine hide_if ((hide_setReply (m := 3346) _ _ rfl).trans (urSent_hide (h_sub := rfl) ..)) ?_
    split
    · exact (hide_setReply (m := 3346) _ _ rfl).trans ((urSent_hide (h_sub := rfl) ..).trans (offAccess_hide (h_sub := rfl) ..))
    · exact (hide_setReply (m := 3346) _ _ rfl).trans (hide_foldl _ (fun s p => readUe_hide (h_sub := rfl) ..) _ _)

@[simp] theorem hbmRead_hide (s : State) (off : Nat) (n : Nat) {m : Nat} (h_sub : 1298 &&& m = 1298) : (hbmRead s off n).hide m = s.hide m :=
  hide_mono h_sub (by simp [hbmRead])
@[simp] theorem scrubPass_hide (s : State) (r : Nat) (b : Nat) {m : Nat} (h_sub : 2306 &&& m = 2306) : (scrubPass s r b).hide m = s.hide m :=
  hide_mono h_sub (by simp [scrubPass])
@[simp] theorem flockWordErr_hide (w : Nat) (err : Nat) (s : State) {m : Nat} (h_sub : 134286594 &&& m = 134286594) : (flockWordErr w err s).hide m = s.hide m :=
  hide_mono h_sub (by simp [flockWordErr])
@[simp] theorem hbmPageRemap_hide (s : State) (k : Nat) (p : Nat) {m : Nat} (h_sub : 134221058 &&& m = 134221058) : (hbmPageRemap s k p).hide m = s.hide m :=
  hide_mono h_sub (by simp [hbmPageRemap])
@[simp] theorem setStack_hide (s : State) (n : Nat) (v : Nat) {m : Nat} (h_sub : 2 &&& m = 2) : (setStack s n v).hide m = s.hide m :=
  hide_mono h_sub (by simp [setStack])
@[simp] theorem stackLose_hide (s : State) (n : Nat) {m : Nat} (h_sub : 3156992 &&& m = 3156992) : (stackLose s n).hide m = s.hide m :=
  hide_mono h_sub (by simp [stackLose])
@[simp] theorem unitArrives_hide (s : State) (k : Nat) (v : Nat) {m : Nat} (h_sub : 3157250 &&& m = 3157250) : (unitArrives s k v).hide m = s.hide m :=
  hide_mono h_sub (by simp [unitArrives])
@[simp] theorem memPowerBody_hide (h : CmdHdr) (target : Byte) (state : Byte) (region : Byte) (mask : BitVec 64) (s : State) {m : Nat} (h_sub : 67112322 &&& m = 67112322) : (memPowerBody h target state region mask s).hide m = s.hide m :=
  hide_mono h_sub (by simp [memPowerBody])

end Sys2Proof.Machine
end

