-- ==== Sys2Proof/Laws/FrameLinks.lean ====
section
/-!
SUPPORT. Frames of the operations: links, upkeep, security, power, the registers and the clock.
-/

set_option linter.unusedVariables false
set_option linter.unusedSimpArgs false
namespace Sys2Proof.Machine

/-! Link -/

@[simp] theorem modLk_hide (s : State) (g : Nat) (f : GroupLink → GroupLink) {m : Nat} (h_sub : 33554432 &&& m = 33554432) : (modLk s g f).hide m = s.hide m :=
  hide_mono h_sub (by simp [modLk])
@[simp] theorem modLane_hide (s : State) (g : Nat) (i : Nat) (f : LaneSt → LaneSt) {m : Nat} (h_sub : 33554432 &&& m = 33554432) : (modLane s g i f).hide m = s.hide m :=
  hide_mono h_sub (by simp [modLane])
@[simp] theorem setPosLane_hide (s : State) (p : Nat) (n : Nat) {m : Nat} (h_sub : 2 &&& m = 2) : (setPosLane s p n).hide m = s.hide m :=
  hide_mono h_sub (by simp [setPosLane])
@[simp] theorem setPosNext_hide (s : State) (p : Nat) (i : Option Sample) {m : Nat} (h_sub : 16384 &&& m = 16384) : (setPosNext s p i).hide m = s.hide m :=
  hide_mono h_sub (by simp [setPosNext])
@[simp] theorem voidGroup_hide (s : State) (g : Nat) {m : Nat} (h_sub : 2 &&& m = 2) : (voidGroup s g).hide m = s.hide m :=
  hide_mono h_sub (by simp [voidGroup])
@[simp] theorem mapOwn_hide (s : State) (g : Nat) {m : Nat} (h_sub : 16386 &&& m = 16386) : (mapOwn s g).hide m = s.hide m :=
  hide_mono h_sub (by simp [mapOwn])
@[simp] theorem endLk_hide (s : State) (g : Nat) (kinds : List Nat) (status : Nat) (result : Nat) {m : Nat} (h_sub : 33555584 &&& m = 33555584) : (endLk s g kinds status result).hide m = s.hide m :=
  hide_mono h_sub (by simp [endLk])
@[simp] theorem endLkFree_hide (s : State) (g : Nat) (kinds : List Nat) {m : Nat} (h_sub : 33555616 &&& m = 33555616) : (endLkFree s g kinds).hide m = s.hide m :=
  hide_mono h_sub (by simp [endLkFree])
@[simp] theorem endPeer_hide (s : State) (g : Nat) (ok : Bool) (status : Nat) (result : Nat) {m : Nat} (h_sub : 33555584 &&& m = 33555584) : (endPeer s g ok status result).hide m = s.hide m :=
  hide_mono h_sub (by unfold endPeer; (repeat' split) <;> simp)
@[simp] theorem endCommit_hide (s : State) (g : Nat) (j : Nat) (status : Nat) (result : Nat) {m : Nat} (h_sub : 1152 &&& m = 1152) : (endCommit s g j status result).hide m = s.hide m :=
  hide_mono h_sub (by unfold endCommit; (repeat' split) <;> simp)
@[simp] theorem sbSend_hide (s : State) (g : Nat) (type : Byte) (seq : Byte) (payload : List Byte) {m : Nat} (h_sub : 33554432 &&& m = 33554432) : (sbSend s g type seq payload).hide m = s.hide m :=
  hide_mono h_sub (by simp [sbSend])
@[simp] theorem pumpSb_hide (s : State) (g : Nat) {m : Nat} (h_sub : 33572322 &&& m = 33572322) : (pumpSb s g).hide m = s.hide m :=
  hide_mono h_sub (by unfold pumpSb; dsimp only; (repeat' split) <;> simp)
@[simp] theorem sbAsk_hide (s : State) (g : Nat) (type : Byte) (payload : List Byte) {m : Nat} (h_sub : 33572322 &&& m = 33572322) : (sbAsk s g type payload).hide m = s.hide m :=
  hide_mono h_sub (by simp [sbAsk])
@[simp] theorem sbDone_hide (s : State) (g : Nat) {m : Nat} (h_sub : 33572322 &&& m = 33572322) : (sbDone s g).hide m = s.hide m :=
  hide_mono h_sub (by simp [sbDone])
@[simp] theorem beginState_hide (s : State) (g : Nat) (st : TrainState) (fresh : Bool) {m : Nat} (h_sub : 33572322 &&& m = 33572322) : (beginState s g st fresh).hide m = s.hide m :=
  hide_mono h_sub (by simp [beginState])
@[simp] theorem startRun_hide (s : State) (g : Nat) (st : TrainState) (keep : Bool) {m : Nat} (h_sub : 33572322 &&& m = 33572322) : (startRun s g st keep).hide m = s.hide m :=
  hide_mono h_sub (by simp [startRun])
@[simp] theorem noteFail_hide (s : State) (g : Nat) (code : Nat) (cause : Nat) {m : Nat} (h_sub : 258 &&& m = 258) : (noteFail s g code cause).hide m = s.hide m :=
  hide_mono h_sub (by simp [noteFail])
@[simp] theorem park_hide (s : State) (g : Nat) {m : Nat} (h_sub : 33572322 &&& m = 33572322) : (park s g).hide m = s.hide m :=
  hide_mono h_sub (by simp [park])
@[simp] theorem noteUnserved_hide (s : State) (g : Nat) {m : Nat} (h_sub : 1282 &&& m = 1282) : (noteUnserved s g).hide m = s.hide m :=
  hide_mono h_sub (by simp [noteUnserved])
@[simp] theorem setReference_hide (s : State) (g : Nat) {m : Nat} (h_sub : 16386 &&& m = 16386) : (setReference s g).hide m = s.hide m :=
  hide_mono h_sub (by unfold setReference; (repeat' split) <;> simp)
@[simp] theorem reachActive_hide (s : State) (g : Nat) {m : Nat} (h_sub : 33572322 &&& m = 33572322) : (reachActive s g).hide m = s.hide m :=
  hide_mono h_sub (by simp [reachActive])
@[simp] theorem passState_hide (s : State) (g : Nat) {m : Nat} (h_sub : 33572322 &&& m = 33572322) : (passState s g).hide m = s.hide m :=
  hide_mono h_sub (by unfold passState; (repeat' split) <;> simp)
@[simp] theorem excludeTrain_hide (g : Nat) (s : State) (i : Nat) {m : Nat} (h_sub : 33555714 &&& m = 33555714) : (excludeTrain g s i).hide m = s.hide m :=
  hide_mono h_sub (by simp [excludeTrain])
@[simp] theorem failAttempt_hide (s : State) (g : Nat) (cause : Nat) {m : Nat} (h_sub : 33572322 &&& m = 33572322) : (failAttempt s g cause).hide m = s.hide m :=
  hide_mono h_sub (by simp [failAttempt])
@[simp] theorem identityFail_hide (s : State) (g : Nat) {m : Nat} (h_sub : 33572322 &&& m = 33572322) : (identityFail s g).hide m = s.hide m :=
  hide_mono h_sub (by simp [identityFail])
@[simp] theorem lanesPassed_hide (s : State) (g : Nat) (mask : Nat) {m : Nat} (h_sub : 33554432 &&& m = 33554432) : (lanesPassed s g mask).hide m = s.hide m :=
  hide_mono h_sub (by simp [lanesPassed])

/-! Lanes -/

@[simp] theorem negAsk_hide (s : State) (g : Nat) (j : Nat) (fails : Nat) {m : Nat} (h_sub : 33572322 &&& m = 33572322) : (negAsk s g j fails).hide m = s.hide m :=
  hide_mono h_sub (by simp [negAsk])
@[simp] theorem trySpare_hide (s : State) (g : Nat) {m : Nat} (h_sub : 33572322 &&& m = 33572322) : (trySpare s g).hide m = s.hide m :=
  hide_mono h_sub (by unfold trySpare; dsimp only; (repeat' split) <;> simp)
@[simp] theorem wantSpare_hide (s : State) (g : Nat) (j : Nat) {m : Nat} (h_sub : 33572322 &&& m = 33572322) : (wantSpare s g j).hide m = s.hide m :=
  hide_mono h_sub (by simp [wantSpare])
@[simp] theorem promoteSpare_hide (s : State) (g : Nat) (j : Nat) {m : Nat} (h_sub : 167790050 &&& m = 167790050) : (promoteSpare s g j).hide m = s.hide m :=
  hide_mono h_sub (by simp [promoteSpare])
@[simp] theorem excludeLane_hide (s : State) (g : Nat) (i : Nat) {m : Nat} (h_sub : 33572322 &&& m = 33572322) : (excludeLane s g i).hide m = s.hide m :=
  hide_mono h_sub (by unfold excludeLane; dsimp only; (repeat' split) <;> simp)
@[simp] theorem negFail_hide (s : State) (g : Nat) {m : Nat} (h_sub : 33572322 &&& m = 33572322) : (negFail s g).hide m = s.hide m :=
  hide_mono h_sub (by unfold negFail; (repeat' split) <;> simp)
@[simp] theorem askRelevel_hide (s : State) (g : Nat) (i : Nat) {m : Nat} (h_sub : 33572322 &&& m = 33572322) : (askRelevel s g i).hide m = s.hide m :=
  hide_mono h_sub (by simp [askRelevel])
@[simp] theorem laneAttemptFailed_hide (s : State) (g : Nat) (i : Nat) {m : Nat} (h_sub : 33572322 &&& m = 33572322) : (laneAttemptFailed s g i).hide m = s.hide m :=
  hide_mono h_sub (by simp [laneAttemptFailed])
@[simp] theorem relevelPassed_hide (s : State) (g : Nat) (i : Nat) {m : Nat} (h_sub : 33554432 &&& m = 33554432) : (relevelPassed s g i).hide m = s.hide m :=
  hide_mono h_sub (by simp [relevelPassed])
@[simp] theorem countLost_hide (s : State) (g : Nat) (i : Nat) {m : Nat} (h_sub : 167790050 &&& m = 167790050) : (countLost s g i).hide m = s.hide m :=
  hide_mono h_sub (by unfold countLost; (repeat' split) <;> simp)
@[simp] theorem laneLost_hide (s : State) (g : Nat) (i : Nat) {m : Nat} (h_sub : 167790050 &&& m = 167790050) : (laneLost s g i).hide m = s.hide m :=
  hide_mono h_sub (by unfold laneLost; (repeat' split) <;> simp)
@[simp] theorem laneRejoins_hide (s : State) (g : Nat) (i : Nat) {m : Nat} (h_sub : 33554690 &&& m = 33554690) : (laneRejoins s g i).hide m = s.hide m :=
  hide_mono h_sub (by unfold laneRejoins; (repeat' split) <;> simp)
@[simp] theorem clockLost_hide (s : State) (g : Nat) {m : Nat} (h_sub : 33572322 &&& m = 33572322) : (clockLost s g).hide m = s.hide m :=
  hide_mono h_sub (by simp [clockLost])
@[simp] theorem sbLost_hide (s : State) (g : Nat) {m : Nat} (h_sub : 33572322 &&& m = 33572322) : (sbLost s g).hide m = s.hide m :=
  hide_mono h_sub (by unfold sbLost; dsimp only; (repeat' split) <;> simp)
@[simp] theorem enterEidle_hide (s : State) (g : Nat) {m : Nat} (h_sub : 33572322 &&& m = 33572322) : (enterEidle s g).hide m = s.hide m :=
  hide_mono h_sub (by simp [enterEidle])
@[simp] theorem enterDataOff_hide (s : State) (g : Nat) {m : Nat} (h_sub : 33555586 &&& m = 33555586) : (enterDataOff s g).hide m = s.hide m :=
  hide_mono h_sub (by simp [enterDataOff])
@[simp] theorem leaveEidle_hide (s : State) (g : Nat) {m : Nat} (h_sub : 33572226 &&& m = 33572226) : (leaveEidle s g).hide m = s.hide m :=
  hide_mono h_sub (by simp [leaveEidle])
@[simp] theorem leaveDataOff_hide (s : State) (g : Nat) {m : Nat} (h_sub : 33572322 &&& m = 33572322) : (leaveDataOff s g).hide m = s.hide m :=
  hide_mono h_sub (by simp [leaveDataOff])

/-! Sideband -/

@[simp] theorem sbFrame_hide (s : State) (g : Nat) (t : Byte) (f : SbFrame) (body : State → State) {m : Nat} (h_body : ∀ s, (body s).hide m = s.hide m) (h_sub : 33572322 &&& m = 33572322) : (sbFrame s g t f body).hide m = s.hide m := by have e0 := sub_trans (a := 2) rfl h_sub; have e1 := sub_trans (a := 258) rfl h_sub; have e2 := sub_trans (a := 33554432) rfl h_sub; have e3 := sub_trans (a := 33572322) rfl h_sub; simp [sbFrame, h_body, e0, e1, e2, e3]
@[simp] theorem sbNakTo_hide (s : State) (g : Nat) (f : SbFrame) (reason : Nat) {m : Nat} (h_sub : 33554432 &&& m = 33554432) : (sbNakTo s g f reason).hide m = s.hide m :=
  hide_mono h_sub (by simp [sbNakTo])
@[simp] theorem sbRefuse_hide (s : State) (g : Nat) (f : SbFrame) {m : Nat} (h_sub : 33554432 &&& m = 33554432) : (sbRefuse s g f).hide m = s.hide m :=
  hide_mono h_sub (by simp [sbRefuse])
@[simp] theorem helloBody_hide (g : Nat) (p : List Byte) (s : State) {m : Nat} (h_sub : 33572322 &&& m = 33572322) : (helloBody g p s).hide m = s.hide m :=
  hide_mono h_sub (by simp [helloBody])
@[simp] theorem statusBody_hide (g : Nat) (p : List Byte) (s : State) {m : Nat} (h_sub : 2 &&& m = 2) : (statusBody g p s).hide m = s.hide m :=
  hide_mono h_sub (by simp [statusBody])
@[simp] theorem relevelEnds_hide (s : State) (g : Nat) (mask : Nat) (ok : Bool) {m : Nat} (h_sub : 33572322 &&& m = 33572322) : (relevelEnds s g mask ok).hide m = s.hide m :=
  hide_mono h_sub (by simp [relevelEnds])
@[simp] theorem judged_hide (s : State) (g : Nat) (ok : Bool) (mask : Nat) {m : Nat} (h_sub : 33572322 &&& m = 33572322) : (judged s g ok mask).hide m = s.hide m :=
  hide_mono h_sub (by simp [judged])
@[simp] theorem askMapping_hide (s : State) (g : Nat) {m : Nat} (h_sub : 33572322 &&& m = 33572322) : (askMapping s g).hide m = s.hide m :=
  hide_mono h_sub (by simp [askMapping])
@[simp] theorem trainAnswer_hide (s : State) (g : Nat) (r : SbReq) (cmd : Nat) {m : Nat} (h_sub : 33572322 &&& m = 33572322) : (trainAnswer s g r cmd).hide m = s.hide m :=
  hide_mono h_sub (by simp [trainAnswer])
@[simp] theorem txLost_hide (s : State) (g : Nat) (code : Nat) (mask : Nat) {m : Nat} (h_sub : 167790050 &&& m = 167790050) : (txLost s g code mask).hide m = s.hide m :=
  hide_mono h_sub (by simp [txLost])
@[simp] theorem trainRequest_hide (s : State) (g : Nat) (f : SbFrame) {m : Nat} (h_sub : 167790050 &&& m = 167790050) : (trainRequest s g f).hide m = s.hide m :=
  hide_mono h_sub (by simp [trainRequest])
@[simp] theorem trainBody_hide (g : Nat) (f : SbFrame) (s : State) {m : Nat} (h_sub : 167790050 &&& m = 167790050) : (trainBody g f s).hide m = s.hide m :=
  hide_mono h_sub (by unfold trainBody; (repeat' split) <;> simp)
@[simp] theorem sendDone_hide (s : State) (g : Nat) (step : Nat) (cmd : Nat) (mask : Nat) {m : Nat} (h_sub : 33572322 &&& m = 33572322) : (sendDone s g step cmd mask).hide m = s.hide m :=
  hide_mono h_sub (by simp [sendDone])
@[simp] theorem sendRelevel_hide (s : State) (g : Nat) (l : List Nat) (cmd : Nat) {m : Nat} (h_sub : 33572322 &&& m = 33572322) : (sendRelevel s g l cmd).hide m = s.hide m :=
  hide_mono h_sub (by simp [sendRelevel])
@[simp] theorem judgeAligned_hide (s : State) (n : Nat) (mask : Nat) {m : Nat} (h_sub : 33572322 &&& m = 33572322) : (judgeAligned s n mask).hide m = s.hide m :=
  hide_mono h_sub (by simp [judgeAligned])
@[simp] theorem spareAgreed_hide (s : State) (g : Nat) {m : Nat} (h_sub : 33554432 &&& m = 33554432) : (spareAgreed s g).hide m = s.hide m :=
  hide_mono h_sub (by unfold spareAgreed; (repeat' split) <;> simp)
@[simp] theorem mappingAgreed_hide (s : State) (g : Nat) (pos : Nat) {m : Nat} (h_sub : 33572322 &&& m = 33572322) : (mappingAgreed s g pos).hide m = s.hide m :=
  hide_mono h_sub (by simp [mappingAgreed])
@[simp] theorem spareBody_hide (g : Nat) (f : SbFrame) (s : State) {m : Nat} (h_sub : 33572322 &&& m = 33572322) : (spareBody g f s).hide m = s.hide m :=
  hide_mono h_sub (by unfold spareBody; (repeat' split) <;> simp)
@[simp] theorem testChanged_hide (s : State) (g : Nat) (i : Nat) (chkWas : Bool) {m : Nat} (h_sub : 33554434 &&& m = 33554434) : (testChanged s g i chkWas).hide m = s.hide m :=
  hide_mono h_sub (by unfold testChanged; (repeat' split) <;> simp)
@[simp] theorem setPattern_hide (s : State) (g : Nat) (i : Nat) (func : Nat) (pattern : Nat) {m : Nat} (h_sub : 33554434 &&& m = 33554434) : (setPattern s g i func pattern).hide m = s.hide m :=
  hide_mono h_sub (by simp [setPattern])
@[simp] theorem testRequest_hide (s : State) (g : Nat) (f : SbFrame) {m : Nat} (h_sub : 33554434 &&& m = 33554434) : (testRequest s g f).hide m = s.hide m :=
  hide_mono h_sub (by simp [testRequest])
@[simp] theorem testBody_hide (g : Nat) (f : SbFrame) (s : State) {m : Nat} (h_sub : 33555618 &&& m = 33555618) : (testBody g f s).hide m = s.hide m :=
  hide_mono h_sub (by unfold testBody; (repeat' split) <;> simp)
@[simp] theorem powerAcked_hide (s : State) (g : Nat) (cmd : Nat) {m : Nat} (h_sub : 33572322 &&& m = 33572322) : (powerAcked s g cmd).hide m = s.hide m :=
  hide_mono h_sub (by simp [powerAcked])
@[simp] theorem powerRequest_hide (s : State) (g : Nat) (f : SbFrame) {m : Nat} (h_sub : 33572322 &&& m = 33572322) : (powerRequest s g f).hide m = s.hide m :=
  hide_mono h_sub (by simp [powerRequest])
@[simp] theorem powerBody_hide (g : Nat) (f : SbFrame) (s : State) {m : Nat} (h_sub : 33572322 &&& m = 33572322) : (powerBody g f s).hide m = s.hide m :=
  hide_mono h_sub (by unfold powerBody; (repeat' split) <;> simp)
@[simp] theorem exchangeEnds_hide (s : State) (g : Nat) (r : SbReq) (nak : Option Nat) {m : Nat} (h_sub : 33572322 &&& m = 33572322) : (exchangeEnds s g r nak).hide m = s.hide m :=
  hide_mono h_sub (by unfold exchangeEnds; (repeat' split) <;> simp)
@[simp] theorem nakBody_hide (g : Nat) (f : SbFrame) (s : State) {m : Nat} (h_sub : 33572322 &&& m = 33572322) : (nakBody g f s).hide m = s.hide m :=
  hide_mono h_sub (by unfold nakBody; (repeat' split) <;> simp)

/-! Rx -/

@[simp] theorem fixEpoch_hide (s : State) (g : Nat) (k : Nat) (i : Sample) {m : Nat} (h_sub : 16706 &&& m = 16706) : (fixEpoch s g k i).hide m = s.hide m :=
  hide_mono h_sub (by simp [fixEpoch])
@[simp] theorem supplyVoid_hide (s : State) (p : Nat) {m : Nat} (h_sub : 258 &&& m = 258) : (supplyVoid s p).hide m = s.hide m :=
  hide_mono h_sub (by simp [supplyVoid])
@[simp] theorem noteVoidWord_hide (s : State) (g : Nat) (i : Sample) {m : Nat} (h_sub : 258 &&& m = 258) : (noteVoidWord s g i).hide m = s.hide m :=
  hide_mono h_sub (by simp [noteVoidWord])
@[simp] theorem takeData_hide (s : State) (g : Nat) (i : Nat) (p : Nat) (payload : Option (BitVec 256)) {m : Nat} (h_sub : 16706 &&& m = 16706) : (takeData s g i p payload).hide m = s.hide m :=
  hide_mono h_sub (by unfold takeData; (repeat' split) <;> simp)
@[simp] theorem applyOfs_hide (s : State) (n : Nat) {m : Nat} (h_sub : 64 &&& m = 64) : (applyOfs s n).hide m = s.hide m :=
  hide_mono h_sub (by simp [applyOfs])
@[simp] theorem restart_hide (s : State) (g : Nat) (i : Nat) (idx : Option Sample) {m : Nat} (h_sub : 33554432 &&& m = 33554432) : (restart s g i idx).hide m = s.hide m :=
  hide_mono h_sub (by simp [restart])
@[simp] theorem switchMarker_hide (s : State) (g : Nat) (idx : Sample) {m : Nat} (h_sub : 167790050 &&& m = 167790050) : (switchMarker s g idx).hide m = s.hide m :=
  hide_mono h_sub (by unfold switchMarker; (repeat' split) <;> simp)
@[simp] theorem takeMarker_hide (s : State) (g : Nat) (i : Nat) (idx : Sample) {m : Nat} (h_sub : 167790050 &&& m = 167790050) : (takeMarker s g i idx).hide m = s.hide m :=
  hide_mono h_sub (by unfold takeMarker; dsimp only; (repeat' split) <;> simp)
@[simp] theorem markerFound_hide (s : State) (g : Nat) (i : Nat) (idx : Sample) {m : Nat} (h_sub : 33572322 &&& m = 33572322) : (markerFound s g i idx).hide m = s.hide m :=
  hide_mono h_sub (by unfold markerFound; (repeat' split) <;> simp)
@[simp] theorem markerSeen_hide (s : State) (g : Nat) (i : Nat) (idx : Sample) {m : Nat} (h_sub : 33554432 &&& m = 33554432) : (markerSeen s g i idx).hide m = s.hide m :=
  hide_mono h_sub (by simp [markerSeen])
@[simp] theorem rxSearch_hide (s : State) (g : Nat) (i : Nat) (ok : Bool) (marker : Bool) (w : BitVec 256) {m : Nat} (h_sub : 33572322 &&& m = 33572322) : (rxSearch s g i ok marker w).hide m = s.hide m :=
  hide_mono h_sub (by simp [rxSearch])
@[simp] theorem rxBad_hide (s : State) (g : Nat) (i : Nat) (ty : Nat) (inSlot : Bool) {m : Nat} (h_sub : 167790050 &&& m = 167790050) : (rxBad s g i ty inSlot).hide m = s.hide m :=
  hide_mono h_sub (by unfold rxBad; dsimp only; (repeat' split) <;> simp)
@[simp] theorem rxData_hide (s : State) (g : Nat) (i : Nat) (dseq : Nat) (payload : BitVec 256) {m : Nat} (h_sub : 167790050 &&& m = 167790050) : (rxData s g i dseq payload).hide m = s.hide m :=
  hide_mono h_sub (by unfold rxData; dsimp only; (repeat' split) <;> simp)
@[simp] theorem rxCtrl_hide (s : State) (g : Nat) (i : Nat) (code : Nat) {m : Nat} (h_sub : 33572322 &&& m = 33572322) : (rxCtrl s g i code).hide m = s.hide m :=
  hide_mono h_sub (by simp [rxCtrl])
@[simp] theorem rxActive_hide (s : State) (g : Nat) (i : Nat) (ty : Nat) (dseq : Nat) (ok : Bool) (inSlot : Bool) (w : BitVec 256) {m : Nat} (h_sub : 167790050 &&& m = 167790050) : (rxActive s g i ty dseq ok inSlot w).hide m = s.hide m :=
  hide_mono h_sub (by simp [rxActive])
@[simp] theorem rxBlock_hide (n : Nat) (ty : Nat) (levels : BitVec 272) (s : State) {m : Nat} (h_sub : 167790050 &&& m = 167790050) : (rxBlock n ty levels s).hide m = s.hide m :=
  hide_mono h_sub (by simp [rxBlock])
@[simp] theorem inc48_hide (s : State) (o : Nat) (n : Nat) {m : Nat} (h_sub : 2 &&& m = 2) : (inc48 s o n).hide m = s.hide m :=
  hide_mono h_sub (by simp [inc48])

/-! Stimulus -/

@[simp] theorem beginSlot_hide (t : Nat) (b : Nat) (s : State) {m : Nat} (h_sub : 167790050 &&& m = 167790050) : (beginSlot t b s).hide m = s.hide m :=
  hide_mono h_sub (by unfold beginSlot; dsimp only; (repeat' split) <;> simp)
@[simp] theorem tickSlot_hide (s : State) (t : Nat) {m : Nat} (h_sub : 167790050 &&& m = 167790050) : (tickSlot s t).hide m = s.hide m :=
  hide_mono h_sub (by unfold tickSlot; dsimp only; (repeat' split) <;> simp)

/-! LinkCmd -/

@[simp] theorem linkOn_hide (s : State) (g : Nat) {m : Nat} (h_sub : 33572322 &&& m = 33572322) : (linkOn s g).hide m = s.hide m :=
  hide_mono h_sub (by simp [linkOn])
@[simp] theorem linkOff_hide (s : State) (g : Nat) {m : Nat} (h_sub : 33572322 &&& m = 33572322) : (linkOff s g).hide m = s.hide m :=
  hide_mono h_sub (by simp [linkOff])
@[simp] theorem linkTrainBody_hide (h : CmdHdr) (g : Nat) (s : State) {m : Nat} (h_sub : 33572322 &&& m = 33572322) : (linkTrainBody h g s).hide m = s.hide m :=
  hide_mono h_sub (by simp [linkTrainBody])
@[simp] theorem linkSleepBody_hide (h : CmdHdr) (g : Nat) (action : Nat) (s : State) {m : Nat} (h_sub : 33572322 &&& m = 33572322) : (linkSleepBody h g action s).hide m = s.hide m :=
  hide_mono h_sub (by unfold linkSleepBody; dsimp only; (repeat' split) <;> simp)
@[simp] theorem scanPoints_hide (dwell : Nat) (pts : List (Int × Int)) (s : State) {m : Nat} (h_sub : 32 &&& m = 32) : (scanPoints dwell pts s).1.hide m = s.hide m :=
  hide_mono h_sub (by simp [scanPoints])
@[simp] theorem eyeScanBody_hide (h : CmdHdr) (p : EyeParams) (s : State) {m : Nat} (h_sub : 3232 &&& m = 3232) : (eyeScanBody h p s).hide m = s.hide m :=
  hide_mono h_sub (by simp [eyeScanBody])
@[simp] theorem bitSlipBody_hide (h : CmdHdr) (lane : Nat) (count : Nat) (s : State) {m : Nat} (h_sub : 33555584 &&& m = 33555584) : (bitSlipBody h lane count s).hide m = s.hide m :=
  hide_mono h_sub (by simp [bitSlipBody])
@[simp] theorem setLoop_hide (kind : Nat) (s : State) (p : Nat × Nat) {m : Nat} (h_sub : 33554434 &&& m = 33554434) : (setLoop kind s p).hide m = s.hide m :=
  hide_mono h_sub (by simp [setLoop])
@[simp] theorem loopbackBody_hide (h : CmdHdr) (kind : Nat) (ls : List (Nat × Nat)) (s : State) {m : Nat} (h_sub : 33555586 &&& m = 33555586) : (loopbackBody h kind ls s).hide m = s.hide m :=
  hide_mono h_sub (by simp [loopbackBody])
@[simp] theorem prbsBody_hide (h : CmdHdr) (dir : Byte) (func : Nat) (pattern : Nat) (peer : Bool) (ls : List (Nat × Nat)) (s : State) {m : Nat} (h_sub : 33572322 &&& m = 33572322) : (prbsBody h dir func pattern peer ls s).hide m = s.hide m :=
  hide_mono h_sub (by simp [prbsBody])

/-! Halt -/

@[simp] theorem stopPlayback_hide (s : State) {m : Nat} (h_sub : 2098562 &&& m = 2098562) : (stopPlayback s).hide m = s.hide m :=
  hide_mono h_sub (by unfold stopPlayback; dsimp only; (repeat' split) <;> simp)
@[simp] theorem stopCapture_hide (s : State) {m : Nat} (h_sub : 136228130 &&& m = 136228130) : (stopCapture s).hide m = s.hide m :=
  hide_mono h_sub (by unfold stopCapture; (repeat' split) <;> simp)
@[simp] theorem enterClassF_hide (s : State) {m : Nat} (h_sub : 205434274 &&& m = 205434274) : (enterClassF s).hide m = s.hide m :=
  hide_mono h_sub (by simp [enterClassF])

/-! Upkeep -/

@[simp] theorem spareStatusBody_hide (h : CmdHdr) (dest : BitVec 64) (s : State) {m : Nat} (h_sub : 3200 &&& m = 3200) : (spareStatusBody h dest s).hide m = s.hide m :=
  hide_mono h_sub (by simp [spareStatusBody])
@[simp] theorem forecastRec_hide (b : SparedBlock) (s : State) {m : Nat} (h_sub : 32 &&& m = 32) : (forecastRec b s).1.hide m = s.hide m :=
  hide_mono h_sub (by simp [forecastRec])
theorem forecastRecs_frame (l : List SparedBlock) : ∀ s : State, (forecastRecs l s).1.hide 32 = s.hide 32 := by
  induction l with
  | nil => intro s; rfl
  | cons b t ih => intro s; show (forecastRecs t _).1.hide 32 = _; rw [ih, forecastRec_hide (m := 32) (h_sub := rfl)]
@[simp] theorem forecastRecs_hide (l : List SparedBlock) (s : State) {m : Nat} (h_sub : 32 &&& m = 32) : (forecastRecs l s).1.hide m = s.hide m :=
  hide_mono h_sub (forecastRecs_frame ..)

@[simp] theorem wearForecastBody_hide (h : CmdHdr) (dest : BitVec 64) (s : State) {m : Nat} (h_sub : 3232 &&& m = 3232) : (wearForecastBody h dest s).hide m = s.hide m :=
  hide_mono h_sub (by simp [wearForecastBody])
@[simp] theorem spareCommitBody_hide (h : CmdHdr) (kind : Byte) (unit : Nat) (s : State) {m : Nat} (h_sub : 167798242 &&& m = 167798242) : (spareCommitBody h kind unit s).hide m = s.hide m :=
  hide_mono h_sub (by simp [spareCommitBody])
theorem raiseTarget_frame : ∀ (n : Nat) (s : State), (raiseTarget s n).hide 134219010 = s.hide 134219010 := by
  intro n; induction n with
  | zero => intro s; rfl
  | succ n ih => intro s; unfold raiseTarget; dsimp only; rw [hide_ite, ih]; simp
@[simp] theorem raiseTarget_hide (s : State) (n : Nat) {m : Nat} (h_sub : 134219010 &&& m = 134219010) : (raiseTarget s n).hide m = s.hide m :=
  hide_mono h_sub (raiseTarget_frame ..)

@[simp] theorem forecastBlock_hide (s : State) (unit : Nat) (o : Nat) (b : Nat) (out : Bool) {m : Nat} (h_sub : 134218018 &&& m = 134218018) : (forecastBlock s unit o b out).hide m = s.hide m :=
  hide_mono h_sub (by simp [forecastBlock])
@[simp] theorem forecastStep_hide (s : State) (q : Nat) {m : Nat} (h_sub : 134218018 &&& m = 134218018) : (forecastStep s q).hide m = s.hide m :=
  hide_mono h_sub (by simp [forecastStep])
@[simp] theorem ageSnapshot_hide (s : State) {m : Nat} (h_sub : 134217728 &&& m = 134217728) : (ageSnapshot s).hide m = s.hide m :=
  hide_mono h_sub (by simp [ageSnapshot])
@[simp] theorem commitWear_hide (s : State) (good : Bool) {m : Nat} (h_sub : 134217986 &&& m = 134217986) : (commitWear s good).hide m = s.hide m :=
  hide_mono h_sub (by simp [commitWear])
@[simp] theorem setCores_hide (s : State) (f : CoreState → CoreState) {m : Nat} (h_sub : 134217728 &&& m = 134217728) : (setCores s f).hide m = s.hide m :=
  hide_mono h_sub (by simp [setCores])
@[simp] theorem reconcile_hide (s : State) {m : Nat} (h_sub : 134219010 &&& m = 134219010) : (reconcile s).hide m = s.hide m :=
  hide_mono h_sub (by simp [reconcile])
@[simp] theorem quarantineCore_hide (s : State) (n : Nat) {m : Nat} (h_sub : 134219010 &&& m = 134219010) : (quarantineCore s n).hide m = s.hide m :=
  hide_mono h_sub (by simp [quarantineCore])
@[simp] theorem shepherdLost_hide (s : State) {m : Nat} (h_sub : 205434274 &&& m = 205434274) : (shepherdLost s).hide m = s.hide m :=
  hide_mono h_sub (by simp [shepherdLost])
@[simp] theorem fwStageBody_hide (h : CmdHdr) (len : BitVec 32) (src : BitVec 64) (s : State) {m : Nat} (h_sub : 134219138 &&& m = 134219138) : (fwStageBody h len src s).hide m = s.hide m :=
  hide_mono h_sub (by simp [fwStageBody])
@[simp] theorem newImage_hide (s : State) (v : Word) {m : Nat} (h_sub : 134219010 &&& m = 134219010) : (newImage s v).hide m = s.hide m :=
  hide_mono h_sub (by simp [newImage])
@[simp] theorem fwActivateBody_hide (h : CmdHdr) (s : State) {m : Nat} (h_sub : 134219138 &&& m = 134219138) : (fwActivateBody h s).hide m = s.hide m :=
  hide_mono h_sub (by unfold fwActivateBody; (repeat' split) <;> simp)
@[simp] theorem logNv_hide (s : State) (area : Nat) (refused : Nat) (bytes : Nat) {m : Nat} (h_sub : 1024 &&& m = 1024) : (logNv s area refused bytes).hide m = s.hide m :=
  hide_mono h_sub (by simp [logNv])
@[simp] theorem nvWriteBody_hide (h : CmdHdr) (area : Byte) (len : BitVec 32) (offset : BitVec 32) (src : BitVec 64) (s : State) {m : Nat} (h_sub : 402654594 &&& m = 402654594) : (nvWriteBody h area len offset src s).hide m = s.hide m :=
  hide_mono h_sub (by unfold nvWriteBody; (repeat' split) <;> simp)

/-! Security -/

@[simp] theorem zeroScratch_hide (s : State) (lo : Nat) (hi : Nat) {m : Nat} (h_sub : 2048 &&& m = 2048) : (zeroScratch s lo hi).hide m = s.hide m :=
  hide_mono h_sub (by simp [zeroScratch])
@[simp] theorem wipeSecure_hide (s : State) {m : Nat} (h_sub : 268437504 &&& m = 268437504) : (wipeSecure s).hide m = s.hide m :=
  hide_mono h_sub (by simp [wipeSecure])
@[simp] theorem logSecurity_hide (s : State) (cls : Nat) (scope : Nat) {m : Nat} (h_sub : 1024 &&& m = 1024) : (logSecurity s cls scope).hide m = s.hide m :=
  hide_mono h_sub (by simp [logSecurity])
@[simp] theorem stepTamperCount_hide (s : State) {m : Nat} (h_sub : 1342177538 &&& m = 1342177538) : (stepTamperCount s).hide m = s.hide m :=
  hide_mono h_sub <| by
  unfold stepTamperCount; dsimp only
  rw [hide_ite, raiseBit_hide (m := 1342177538) (h_sub := rfl), raiseBit_hide (m := 1342177538) (h_sub := rfl), ite_self]; rfl

@[simp] theorem loadItem_hide (s : State) (slot : Nat) (kind : Nat) (bs : List Byte) {m : Nat} (h_sub : 268437504 &&& m = 268437504) : (loadItem s slot kind bs).hide m = s.hide m :=
  hide_mono h_sub (by simp [loadItem])
@[simp] theorem unsealStore_hide (s : State) {m : Nat} (h_sub : 268437762 &&& m = 268437762) : (unsealStore s).hide m = s.hide m :=
  hide_mono h_sub (by simp [unsealStore])
@[simp] theorem keyProvisionBody_hide (h : CmdHdr) (slot : Byte) (kind : Byte) (len : BitVec 32) (src : BitVec 64) (s : State) {m : Nat} (h_sub : 268438914 &&& m = 268438914) : (keyProvisionBody h slot kind len src s).hide m = s.hide m :=
  hide_mono h_sub (by simp [keyProvisionBody])
@[simp] theorem newNonce_hide (s : State) {m : Nat} (h_sub : 34 &&& m = 34) : (newNonce s).hide m = s.hide m :=
  hide_mono h_sub (by simp [newNonce])
@[simp] theorem lifecycleAdvanceBody_hide (h : CmdHdr) (target : Nat) (len : BitVec 32) (src : BitVec 64) (s : State) {m : Nat}
    (h_sub : 805309858 &&& m = 805309858) : (lifecycleAdvanceBody h target len src s).hide m = s.hide m := hide_mono h_sub <| by
  unfold lifecycleAdvanceBody; dsimp only
  have hw (f : SecSt → SecSt) (hf : ∀ x, (f x).count = x.count) : (s.modSec f).hide 805309858 = s.hide 805309858 := by
    simp [State.hide, SecSt.hide, State.modSec, State.setSec, hf, show Nat.testBit 805309858 28 = true from rfl, show Nat.testBit 805309858 29 = true from rfl]
  refine hide_if (by simp) (hide_if (by simp) (hide_if (by simp) (hide_if (by simp) ?_)))
  rw [finish_hide (m := 805309858) (h_sub := rfl), logSecurity_hide (m := 805309858) (h_sub := rfl), raise_hide (m := 805309858) (h_sub := rfl), newNonce_hide (m := 805309858) (h_sub := rfl), wipeSecure_hide (m := 805309858) (h_sub := rfl)]
  exact hw _ (fun _ => rfl)

@[simp] theorem tamperStatusBody_hide (h : CmdHdr) (s : State) {m : Nat} (h_sub : 268436608 &&& m = 268436608) : (tamperStatusBody h s).hide m = s.hide m :=
  hide_mono h_sub (by simp [tamperStatusBody])
@[simp] theorem wipeFolds_hide (s : State) {m : Nat} (h_sub : 2099200 &&& m = 2099200) : (wipeFolds s).hide m = s.hide m :=
  hide_mono h_sub (by simp [wipeFolds])
@[simp] theorem wipeScratch_hide (s : State) {m : Nat} (h_sub : 2048 &&& m = 2048) : (wipeScratch s).hide m = s.hide m :=
  hide_mono h_sub (by simp [wipeScratch])
@[simp] theorem wipeBody_hide (h : CmdHdr) (scope : Byte) (s : State) {m : Nat} (h_sub : 270536066 &&& m = 270536066) : (wipeBody h scope s).hide m = s.hide m :=
  hide_mono h_sub (by simp [wipeBody])

/-! Power -/

@[simp] theorem porState_hide (s : State) (cause : Nat) {m : Nat} (h_sub : 536870894 &&& m = 536870894) : (porState s cause).hide m = s.hide m :=
  hide_mono h_sub <| by unfold porState; rw [hide_foldl _ (fun r n => by rw [wrF_hide (m := 536870894) (h_sub := rfl)])]; rfl

@[simp] theorem hardRepair_hide (s : State) (n : Nat) {m : Nat} (h_sub : 134218018 &&& m = 134218018) : (hardRepair s n).hide m = s.hide m :=
  hide_mono h_sub (by simp [hardRepair])
@[simp] theorem hbmReady_hide (s : State) (retry : BitVec 4) {m : Nat} (h_sub : 134218018 &&& m = 134218018) : (hbmReady s retry).hide m = s.hide m :=
  hide_mono h_sub (by simp [hbmReady])
@[simp] theorem boot_hide (s : State) (image : Bool) (retry : BitVec 4) {m : Nat} (h_sub : 473869730 &&& m = 473869730) : (boot s image retry).hide m = s.hide m :=
  hide_mono h_sub (by simp [boot])
@[simp] theorem abortAll_hide (s : State) {m : Nat} (h_sub : 1152 &&& m = 1152) : (abortAll s).hide m = s.hide m :=
  hide_mono h_sub (by simp [abortAll])
@[simp] theorem resetPower_hide (s : State) {m : Nat} (h_sub : 2 &&& m = 2) : (resetPower s).hide m = s.hide m :=
  hide_mono h_sub (by simp [resetPower])
theorem coreState_frame (s t : State) (h0 : t.pending = s.pending) (h4 : t.reply = s.reply) (h5 : t.free = s.free) (h7 : t.cmd = s.cmd)
    (h8 : t.pcie = s.pcie) (h10 : t.log = s.log) (h28 : t.sec = s.sec) : t.hide 268435438 = s.hide 268435438 := by
  unfold State.hide; rw [h0, h4, h5, h7, h8, h10, h28]; congr 1
@[simp] theorem coreState_hide (s : State) {m : Nat} (h_sub : 268435438 &&& m = 268435438) : (coreState s).hide m = s.hide m :=
  hide_mono h_sub (coreState_frame s (coreState s) rfl rfl rfl rfl rfl rfl rfl)

@[simp] theorem coreReset_hide (s : State) (low : BitVec 12) {m : Nat} (h_sub : 536870894 &&& m = 536870894) : (coreReset s low).hide m = s.hide m :=
  hide_mono h_sub (by unfold coreReset; (repeat' split) <;> simp)
@[simp] theorem setVolt_hide (s : State) (rail : Nat) (mv : BitVec 16) {m : Nat} (h_sub : 2 &&& m = 2) : (setVolt s rail mv).hide m = s.hide m :=
  hide_mono h_sub (by simp [setVolt])
@[simp] theorem leaveRange_hide (s : State) {m : Nat} (h_sub : 67108864 &&& m = 67108864) : (leaveRange s).hide m = s.hide m :=
  hide_mono h_sub (by simp [leaveRange])
@[simp] theorem setWarn_hide (s : State) (io : Bool) (b : Bool) {m : Nat} (h_sub : 67108864 &&& m = 67108864) : (setWarn s io b).hide m = s.hide m :=
  hide_mono h_sub (by simp [setWarn])
@[simp] theorem runWaking_hide (s : State) (i : Instr) {m : Nat} (h_sub : 142536162 &&& m = 142536162) : (runWaking s i).hide m = s.hide m :=
  hide_mono h_sub (by unfold runWaking; (repeat' split) <;> simp)

/-! Views -/

@[simp] theorem setMaster_hide (s : State) (m : Master) (x : MasterSt) {k : Nat} (h_sub : 12 &&& k = 12) : (setMaster s m x).hide k = s.hide k :=
  hide_mono h_sub (by unfold setMaster; (repeat' split) <;> simp)
@[simp] theorem evaluated_hide (s : State) {m : Nat} (h_sub : 33026 &&& m = 33026) : (evaluated s).hide m = s.hide m :=
  hide_mono h_sub (by unfold evaluated; (repeat' split) <;> simp)

/-! Regs -/

@[simp] theorem popQueue_hide (m : Master) (s : State) (q : Nat) {k : Nat} (h_sub : 4366 &&& k = 4366) : (popQueue m s q).1.hide k = s.hide k :=
  hide_mono h_sub (by simp [popQueue])
@[simp] theorem readWord_hide (m : Master) (s : State) (o : Nat) {k : Nat} (h_sub : 4366 &&& k = 4366) : (readWord m s o).1.hide k = s.hide k :=
  hide_mono h_sub (by simp [readWord])
@[simp] theorem accessErr_hide (m : Master) (s : State) (e : AccessErr) (write : Bool) (off : Nat) {k : Nat} (h_sub : 258 &&& k = 258) : (accessErr m s e write off).hide k = s.hide k :=
  hide_mono h_sub (by simp [accessErr])
@[simp] theorem readRefused_hide (m : Master) (s : State) (e : AccessErr) (off : Nat) {k : Nat} (h_sub : 274 &&& k = 274) : (readRefused m s e off).hide k = s.hide k :=
  hide_mono h_sub (by unfold readRefused; (repeat' split) <;> simp)
@[simp] theorem readAccess_hide (m : Master) (s : State) (off : Nat) (size : Nat) {k : Nat} (h_sub : 4382 &&& k = 4382) : (readAccess m s off size).hide k = s.hide k :=
  hide_mono h_sub (by unfold readAccess; (repeat' split) <;> simp)
@[simp] theorem chipWign_hide (m : Master) (s : State) (o : Nat) {k : Nat} (h_sub : 258 &&& k = 258) : (chipWign m s o).hide k = s.hide k :=
  hide_mono h_sub (by simp [chipWign])
@[simp] theorem wign_hide (m : Master) (s : State) (o : Nat) {k : Nat} (h_sub : 258 &&& k = 258) : (wign m s o).hide k = s.hide k :=
  hide_mono h_sub (by simp [wign])
@[simp] theorem putField_hide (o : Nat) (f : FieldD) (x : Nat) (p : State × Word) {m : Nat} (h_sub : 32 &&& m = 32) : (putField o f x p).1.hide m = p.1.hide m := hide_mono h_sub <| by
  simp [putField, hide_ite_fst]

@[simp] theorem writeField_hide (o : Nat) (off : Bool) (v : Word) (p : State × Word) (f : FieldD) {m : Nat} (h_sub : 32 &&& m = 32) : (writeField o off v p f).1.hide m = p.1.hide m := hide_mono h_sub <| by
  unfold writeField; split
  · rfl
  · exact (hide_ite_fst ..).trans (by rw [putField_hide (m := 32) (h_sub := rfl), ite_self])
  all_goals rw [putField_hide (m := 32) (h_sub := rfl)]

@[simp] theorem enWrite_hide (s : State) (o : Nat) (b : Bool) {m : Nat} (h_sub : 58742242 &&& m = 58742242) : (enWrite s o b).hide m = s.hide m :=
  hide_mono h_sub (by simp [enWrite])
@[simp] theorem flushQueue_hide (s : State) (q : Nat) {m : Nat} (h_sub : 4354 &&& m = 4354) : (flushQueue s q).hide m = s.hide m :=
  hide_mono h_sub (by simp [flushQueue])
@[simp] theorem ctrlWrite_hide (s : State) (o : Nat) (w : Word) {m : Nat} (h_sub : 58742242 &&& m = 58742242) : (ctrlWrite s o w).hide m = s.hide m :=
  hide_mono h_sub (by simp [ctrlWrite])
@[simp] theorem ownerChange_hide (s : State) (w : Word) {m : Nat} (h_sub : 1282 &&& m = 1282) : (ownerChange s w).hide m = s.hide m :=
  hide_mono h_sub (by simp [ownerChange])
@[simp] theorem pwrCtrlWrite_hide (s : State) (w : Word) {m : Nat} (h_sub : 2 &&& m = 2) : (pwrCtrlWrite s w).hide m = s.hide m :=
  hide_mono h_sub (by simp [pwrCtrlWrite])
@[simp] theorem shepCtrlWrite_hide (s : State) (w : Word) {m : Nat} (h_sub : 134217986 &&& m = 134217986) : (shepCtrlWrite s w).hide m = s.hide m :=
  hide_mono h_sub (by simp [shepCtrlWrite])
@[simp] theorem ftwWrite_hide (ch : Nat) (hi : Bool) (v : Word) (s : State) {m : Nat} (h_sub : 16777250 &&& m = 16777250) : (ftwWrite ch hi v s).hide m = s.hide m :=
  hide_mono h_sub (by simp [ftwWrite])
@[simp] theorem storeReg_hide (s : State) (o : Nat) (w : Word) (low : BitVec 12) {m : Nat} (h_sub : 536870894 &&& m = 536870894) : (storeReg s o w low).hide m = s.hide m :=
  hide_mono h_sub (by simp [storeReg])
@[simp] theorem unlockWrite_hide (m : Master) (s : State) (v : Word) {k : Nat} (h_sub : 270 &&& k = 270) : (unlockWrite m s v).hide k = s.hide k :=
  hide_mono h_sub (by simp [unlockWrite])
@[simp] theorem sqcWrite_hide (m : Master) (s : State) (o : Nat) (flags : Nat) (v : Word) {k : Nat} (h_sub : 2434 &&& k = 2434) : (sqcWrite m s o flags v).hide k = s.hide k :=
  hide_mono h_sub (by simp [sqcWrite])
@[simp] theorem fieldWrite_hide (m : Master) (s : State) (o : Nat) (fs : List FieldD) (v0 : Word) (low : BitVec 12) {k : Nat} (h_sub : 536870894 &&& k = 536870894) :
    (fieldWrite m s o fs v0 low).hide k = s.hide k := hide_mono h_sub <| by
  have h0 : ∀ c : Prop, ∀ _ : Decidable c, (if c then setMaster s m { masterOf s m with unlocked := false } else s).hide 536870894 = s.hide 536870894 := by
    intro c _; rw [hide_ite, setMaster_hide (k := 536870894) (h_sub := rfl), ite_self]
  unfold fieldWrite; dsimp only
  refine hide_if rfl (hide_if (chipWign_hide (h_sub := rfl) ..) (hide_if ?_ ?_))
  · rw [wign_hide (k := 536870894) (h_sub := rfl)]; exact h0 _ _
  · rw [storeReg_hide (m := 536870894) (h_sub := rfl)]
    refine (hide_foldl_fst _ (fun p f => writeField_hide (h_sub := rfl) ..) _ _).trans ?_
    refine hide_if ?_ (h0 _ _)
    rw [wign_hide (k := 536870894) (h_sub := rfl)]; exact h0 _ _

@[simp] theorem applyWord_hide (m : Master) (s : State) (o : Nat) (v : Word) (low : BitVec 12) {k : Nat} (h_sub : 536870894 &&& k = 536870894) : (applyWord m s o v low).hide k = s.hide k := hide_mono h_sub <| by
  unfold applyWord; split
  · rfl
  · refine hide_if (unlockWrite_hide (h_sub := rfl) ..) ?_
    split
    · rw [sqcWrite_hide (k := 536870894) (h_sub := rfl)]
    · rw [fieldWrite_hide (k := 536870894) (h_sub := rfl)]

@[simp] theorem unstage_hide (m : Master) (s : State) (o : Nat) {k : Nat} (h_sub : 12 &&& k = 12) : (unstage m s o).hide k = s.hide k :=
  hide_mono h_sub (by simp [unstage])
@[simp] theorem write4_hide (m : Master) (s : State) (o : Nat) (v : Word) (low : BitVec 12) {k : Nat} (h_sub : 536870894 &&& k = 536870894) : (write4 m s o v low).hide k = s.hide k := hide_mono h_sub <| by
  unfold write4
  refine hide_if (setMaster_hide (h_sub := rfl) ..) (hide_if ?_ (applyWord_hide (h_sub := rfl) ..))
  split
  · rw [applyWord_hide (k := 536870894) (h_sub := rfl), applyWord_hide (k := 536870894) (h_sub := rfl), unstage_hide (k := 536870894) (h_sub := rfl)]
  · rw [applyWord_hide (k := 536870894) (h_sub := rfl)]

@[simp] theorem writeAccess_hide (m : Master) (s : State) (off size be : Nat) (v : Nat) (low : BitVec 12) {k : Nat} (h_sub : 536870894 &&& k = 536870894) :
    (writeAccess m s off size be v low).hide k = s.hide k := hide_mono h_sub <| by
  unfold writeAccess
  refine hide_if rfl ?_
  split
  · rw [accessErr_hide (k := 536870894) (h_sub := rfl)]
  · refine hide_if (accessErr_hide (h_sub := rfl) ..) (hide_if (hide_if ?_ ?_) (write4_hide (h_sub := rfl) ..))
    · rw [applyWord_hide (k := 536870894) (h_sub := rfl), applyWord_hide (k := 536870894) (h_sub := rfl), unstage_hide (k := 536870894) (h_sub := rfl)]
    · rw [write4_hide (k := 536870894) (h_sub := rfl), write4_hide (k := 536870894) (h_sub := rfl)]

@[simp] theorem writeFull_hide (m : Master) (s : State) (off : Nat) (v : Word) {k : Nat} (h_sub : 536870894 &&& k = 536870894) : (writeFull m s off v).hide k = s.hide k := hide_mono h_sub <| by
  unfold writeFull; rw [writeAccess_hide (k := 536870894) (h_sub := rfl)]

@[simp] theorem spoilLines_hide (s : State) (q : Nat) (bad : Nat) {m : Nat} (h_sub : 5378 &&& m = 5378) : (spoilLines s q bad).hide m = s.hide m :=
  hide_mono h_sub (by simp [spoilLines])

/-! Settle -/

@[simp] theorem settleWith_hide (s : State) (o : Nat) (on : State → State) (off : State → State) (start : State → State) {m : Nat} (h_on : ∀ s, (on s).hide m = s.hide m) (h_off : ∀ s, (off s).hide m = s.hide m) (h_start : ∀ s, (start s).hide m = s.hide m) (h_sub : 2 &&& m = 2) : (settleWith s o on off start).hide m = s.hide m := by have e0 := sub_trans (a := 2) rfl h_sub; unfold settleWith; (repeat' split) <;> simp [h_on, h_off, h_start, e0]
@[simp] theorem settleBlock_hide (s : State) (o : Nat) {m : Nat} (h_sub : 58738146 &&& m = 58738146) : (settleBlock s o).hide m = s.hide m :=
  hide_mono h_sub (by simp [settleBlock])

/-! Tick -/

@[simp] theorem tickTime_hide (s : State) {m : Nat} (h_sub : 64 &&& m = 64) : (tickTime s).hide m = s.hide m :=
  hide_mono h_sub (by simp [tickTime])
@[simp] theorem tickSyncOut_hide (s : State) {m : Nat} (h_sub : 64 &&& m = 64) : (tickSyncOut s).hide m = s.hide m :=
  hide_mono h_sub (by simp [tickSyncOut])
@[simp] theorem tickDeal_hide (s : State) {m : Nat} (h_sub : 136228258 &&& m = 136228258) : (tickDeal s).hide m = s.hide m :=
  hide_mono h_sub (by unfold tickDeal; (repeat' split) <;> simp)
@[simp] theorem tickVoid_hide (s : State) (p : Nat) {m : Nat} (h_sub : 16642 &&& m = 16642) : (tickVoid s p).hide m = s.hide m :=
  hide_mono h_sub (by unfold tickVoid; (repeat' split) <;> simp)
@[simp] theorem tickTx_hide (s : State) (t : Nat) {m : Nat} (h_sub : 33554432 &&& m = 33554432) : (tickTx s t).hide m = s.hide m :=
  hide_mono h_sub (by simp [tickTx])
@[simp] theorem tickRun_hide (s : State) (a : Time) (b : Time) {m : Nat} (h_sub : 48254434 &&& m = 48254434) : (tickRun s a b).hide m = s.hide m :=
  hide_mono h_sub (by simp [tickRun])
@[simp] theorem tick_hide (s : State) {m : Nat} (h_sub : 184479202 &&& m = 184479202) : (tick s).hide m = s.hide m :=
  hide_mono h_sub (by simp [tick])

end Sys2Proof.Machine
end

