-- ==== Sys2Proof/Laws/ExecFrame.lean ====
section
/-!
SUPPORT. The parts that each command can change: it answers a next state, and every part outside its mask is as before.
-/

set_option linter.unusedVariables false
set_option linter.unusedSimpArgs false
namespace Sys2Proof.Machine

/-- The next state of an outcome without the parts of `m`. -/
def outHide (m : Nat) : Host.Outcome State Fault Refusal → Option State
  | .next t => some (t.hide m)
  | _ => none
@[simp] theorem outHide_next (m : Nat) (t : State) : outHide m (.next t) = some (t.hide m) := rfl
@[simp] theorem outHide_ite {c : Prop} [Decidable c] (m : Nat) (a b : Host.Outcome State Fault Refusal) :
    outHide m (if c then a else b) = if c then outHide m a else outHide m b := by split <;> rfl
theorem outHide_mono {T m : Nat} {o : Host.Outcome State Fault Refusal} {s : State} (h : T &&& m = T) (e : outHide T o = some (s.hide T)) :
    outHide m o = some (s.hide m) := by
  cases o with
  | next t => exact congrArg some (hide_mono h (Option.some.inj e))
  | fault r => cases e
  | refused r => cases e
theorem execSetTime_frame (h : CmdHdr) (mode : Byte) (timeout : BitVec 32) (time : BitVec 96) (s : State) {m : Nat} (h_sub : 67110338 &&& m = 67110338) :
    outHide m (execSetTime h mode timeout time s) = some (s.hide m) := outHide_mono h_sub (by simp [execSetTime])
theorem execSyncInEdge_frame (falling : Bool) (t : Time) (held : Nat) (s : State) {m : Nat} (h_sub : 322 &&& m = 322) :
    outHide m (execSyncInEdge falling t held s) = some (s.hide m) := outHide_mono h_sub (by simp [execSyncInEdge])
theorem execAtSyncLoad_frame (s : State) {m : Nat} (h_sub : 1474 &&& m = 1474) :
    outHide m (execAtSyncLoad s) = some (s.hide m) := outHide_mono h_sub (by unfold execAtSyncLoad; (repeat' split) <;> simp)
theorem execSetTimeTimeout_frame (s : State) {m : Nat} (h_sub : 1216 &&& m = 1216) :
    outHide m (execSetTimeTimeout s) = some (s.hide m) := outHide_mono h_sub (by unfold execSetTimeTimeout; (repeat' split) <;> simp)
theorem execSyncOutPulse_frame (s : State) {m : Nat} (h_sub : 64 &&& m = 64) :
    outHide m (execSyncOutPulse s) = some (s.hide m) := outHide_mono h_sub (by simp [execSyncOutPulse])
theorem execSyncOutPulseEnd_frame (s : State) {m : Nat} (h_sub : 64 &&& m = 64) :
    outHide m (execSyncOutPulseEnd s) = some (s.hide m) := outHide_mono h_sub (by simp [execSyncOutPulseEnd])
theorem execTbaseStop_frame (s : State) {m : Nat} (h_sub : 1346 &&& m = 1346) :
    outHide m (execTbaseStop s) = some (s.hide m) := outHide_mono h_sub (by simp [execTbaseStop])
theorem execTbaseStart_frame (s : State) {m : Nat} (h_sub : 1088 &&& m = 1088) :
    outHide m (execTbaseStart s) = some (s.hide m) := outHide_mono h_sub (by simp [execTbaseStart])
theorem execTimebasePllLock_frame (s : State) {m : Nat} (h_sub : 1474 &&& m = 1474) :
    outHide m (execTimebasePllLock s) = some (s.hide m) := outHide_mono h_sub (by unfold execTimebasePllLock; (repeat' split) <;> simp)
theorem execIdentify_frame (h : CmdHdr) (dest : BitVec 64) (s : State) {m : Nat} (h_sub : 67112098 &&& m = 67112098) :
    outHide m (execIdentify h dest s) = some (s.hide m) := outHide_mono h_sub (by simp [execIdentify])
theorem execGetLog_frame (h : CmdHdr) (log : Byte) (max : BitVec 32) (fromSeq : BitVec 64) (dest : BitVec 64) (s : State) {m : Nat} (h_sub : 67112610 &&& m = 67112610) :
    outHide m (execGetLog h log max fromSeq dest s) = some (s.hide m) := outHide_mono h_sub (by simp [execGetLog])
theorem execEqProducerWord_frame (q : Fin 32) (owner : BitVec 12) (word : Word) (bytes : Fin 5) (s : State) {m : Nat} (h_sub : 4354 &&& m = 4354) :
    outHide m (execEqProducerWord q owner word bytes s) = some (s.hide m) := outHide_mono h_sub (by simp [execEqProducerWord])
theorem execEqLineTimeout_frame (q : Fin 32) (owner : BitVec 12) (word : Option (Word × Fin 5)) (s : State) {m : Nat} (h_sub : 4354 &&& m = 4354) :
    outHide m (execEqLineTimeout q owner s word) = some (s.hide m) := outHide_mono h_sub (by simp [execEqLineTimeout])
theorem execCounterFeedLate_frame (n : Fin 64) (i : Sample) (inc : BitVec 48) (s : State) {m : Nat} (h_sub : 34050 &&& m = 34050) :
    outHide m (execCounterFeedLate n inc s i) = some (s.hide m) := outHide_mono h_sub (by unfold execCounterFeedLate; (repeat' split) <;> simp)
theorem execRecogSliceParity_frame (r : Fin 450) (s : State) {m : Nat} (h_sub : 34050 &&& m = 34050) :
    outHide m (execRecogSliceParity r s) = some (s.hide m) := outHide_mono h_sub (by unfold execRecogSliceParity; (repeat' split) <;> simp)
theorem execHandParity_frame (h : Fin 32) (s : State) {m : Nat} (h_sub : 427266 &&& m = 427266) :
    outHide m (execHandParity h s) = some (s.hide m) := outHide_mono h_sub (by unfold execHandParity; (repeat' split) <;> simp)
theorem execPrefillComplete_frame (g : Fin 16) (s : State) {m : Nat} (h_sub : 524288 &&& m = 524288) :
    outHide m (execPrefillComplete g s) = some (s.hide m) := outHide_mono h_sub (by simp [execPrefillComplete])
theorem execSegmentClose_frame (g : Fin 16) (s : State) {m : Nat} (h_sub : 135933218 &&& m = 135933218) :
    outHide m (execSegmentClose g s) = some (s.hide m) := outHide_mono h_sub (by unfold execSegmentClose; (repeat' split) <;> simp)
theorem execHoldoffEnd_frame (g : Fin 16) (s : State) {m : Nat} (h_sub : 136228130 &&& m = 136228130) :
    outHide m (execHoldoffEnd g s) = some (s.hide m) := outHide_mono h_sub (by unfold execHoldoffEnd; (repeat' split) <;> simp)
theorem execFoldOverflow_frame (f : Fin 64) (cause : Byte) (so : Sample) (s : State) {m : Nat} (h_sub : 136228130 &&& m = 136228130) :
    outHide m (execFoldOverflow f cause so s) = some (s.hide m) := outHide_mono h_sub (by unfold execFoldOverflow; (repeat' split) <;> simp)
theorem execCapturePageStore_frame (f : Fin 64) (inst : Nat) (unit : Nat) (s : State) {m : Nat} (h_sub : 135933218 &&& m = 135933218) :
    outHide m (execCapturePageStore f inst unit s) = some (s.hide m) := outHide_mono h_sub (by unfold execCapturePageStore; (repeat' split) <;> simp)
theorem execWindowRecord_frame (f : Fin 64) (inst : Nat) (w : Nat) (s : State) {m : Nat} (h_sub : 135933218 &&& m = 135933218) :
    outHide m (execWindowRecord f inst w s) = some (s.hide m) := outHide_mono h_sub (by unfold execWindowRecord; (repeat' split) <;> simp)
theorem execCompressedBlockOut_frame (e : Fin 64) (chk : EngineCheck) (s : State) {m : Nat} (h_sub : 135933218 &&& m = 135933218) :
    outHide m (execCompressedBlockOut e chk s) = some (s.hide m) := outHide_mono h_sub <| by
  unfold execCompressedBlockOut
  split
  · rfl
  · dsimp only
    rw [outHide_ite, outHide_next, outHide_next, overflowed_hide (m := 135933218) (h_sub := rfl), compStep_hide (m := 135933218) (h_sub := rfl), ite_self]

theorem execArm_frame (h : CmdHdr) (groups : BitVec 16) (mode : Byte) (sa : Sample) (s : State) {m : Nat} (h_sub : 203337122 &&& m = 203337122) :
    outHide m (execArm h groups mode sa s) = some (s.hide m) := outHide_mono h_sub (by simp [execArm])
theorem execDisarm_frame (h : CmdHdr) (groups : BitVec 16) (sd : Sample) (s : State) {m : Nat} (h_sub : 203337122 &&& m = 203337122) :
    outHide m (execDisarm h groups sd s) = some (s.hide m) := outHide_mono h_sub (by simp [execDisarm])
theorem execForceTrigger_frame (h : CmdHdr) (groups : BitVec 16) (sf : Sample) (s : State) {m : Nat} (h_sub : 67372162 &&& m = 67372162) :
    outHide m (execForceTrigger h groups sf s) = some (s.hide m) := outHide_mono h_sub (by simp [execForceTrigger])
theorem execSetPost_frame (h : CmdHdr) (group : Byte) (post : BitVec 64) (sc : Sample) (s : State) {m : Nat} (h_sub : 203337122 &&& m = 203337122) :
    outHide m (execSetPost h group post sc s) = some (s.hide m) := outHide_mono h_sub (by simp [execSetPost])
theorem execFoldStatus_frame (h : CmdHdr) (groups : BitVec 16) (dest : BitVec 64) (at_ : Sample) (s : State) {m : Nat} (h_sub : 203337122 &&& m = 203337122) :
    outHide m (execFoldStatus h groups dest at_ s) = some (s.hide m) := outHide_mono h_sub (by simp [execFoldStatus])
theorem execTriggerAccept_frame (g : Fin 16) (i : Sample) (s : State) {m : Nat} (h_sub : 136228258 &&& m = 136228258) :
    outHide m (execTriggerAccept g i s) = some (s.hide m) := outHide_mono h_sub (by unfold execTriggerAccept; (repeat' split) <;> simp)
theorem execTrigOutPulse_frame (i : Sample) (s : State) {m : Nat} (h_sub : 262144 &&& m = 262144) :
    outHide m (execTrigOutPulse i s) = some (s.hide m) := outHide_mono h_sub (by simp [execTrigOutPulse])
theorem execTrigOutPulseEnd_frame (s : State) {m : Nat} (h_sub : 262144 &&& m = 262144) :
    outHide m (execTrigOutPulseEnd s) = some (s.hide m) := outHide_mono h_sub (by simp [execTrigOutPulseEnd])
theorem execTriggerRecordWrite_frame (i : Sample) (s : State) {m : Nat} (h_sub : 267522 &&& m = 267522) :
    outHide m (execTriggerRecordWrite i s) = some (s.hide m) := outHide_mono h_sub (by unfold execTriggerRecordWrite; (repeat' split) <;> simp)
theorem execDeckLoad_frame (h : CmdHdr) (slot : Byte) (len : BitVec 32) (src : BitVec 64) (s : State) {m : Nat} (h_sub : 67118754 &&& m = 67118754) :
    outHide m (execDeckLoad h slot len src s) = some (s.hide m) := outHide_mono h_sub (by simp [execDeckLoad])
theorem execDeckVerify_frame (h : CmdHdr) (slot : Byte) (s : State) {m : Nat} (h_sub : 67110018 &&& m = 67110018) :
    outHide m (execDeckVerify h slot s) = some (s.hide m) := outHide_mono h_sub (by simp [execDeckVerify])
theorem execDeckActivate_frame (h : CmdHdr) (slot : Byte) (s : State) {m : Nat} (h_sub : 209645026 &&& m = 209645026) :
    outHide m (execDeckActivate h slot s) = some (s.hide m) := outHide_mono h_sub (by simp [execDeckActivate])
theorem execThermalSensorCrossing_frame (stack : Option (Fin 4)) (temp : BitVec 16) (s : State) {m : Nat} (h_sub : 9474 &&& m = 9474) :
    outHide m (execThermalSensorCrossing stack temp s) = some (s.hide m) := outHide_mono h_sub (by simp [execThermalSensorCrossing])
theorem execDeckRedeal_frame (h : CmdHdr) (slot : Byte) (groups : BitVec 16) (timeout : BitVec 32) (s : State) {m : Nat} (h_sub : 67118210 &&& m = 67118210) :
    outHide m (execDeckRedeal h slot groups timeout s) = some (s.hide m) := outHide_mono h_sub (by simp [execDeckRedeal])
theorem execDeckRedealTimeout_frame (s : State) {m : Nat} (h_sub : 136228258 &&& m = 136228258) :
    outHide m (execDeckRedealTimeout s) = some (s.hide m) := outHide_mono h_sub (by unfold execDeckRedealTimeout; (repeat' split) <;> simp)
theorem execDealBoundary_frame (u : BoundaryUpset) (s : State) {m : Nat} (h_sub : 136228258 &&& m = 136228258) :
    outHide m (execDealBoundary s u) = some (s.hide m) := outHide_mono h_sub (by simp [execDealBoundary])
theorem execGuardViolation_frame (region : Fin 5) (kind : BitVec 4) (port : BitVec 16) (owner : BitVec 12) (op : BitVec 3) (cycle : BitVec 16) (item : BlockedItem) (s : State) {m : Nat} (h_sub : 134362370 &&& m = 134362370) :
    outHide m (execGuardViolation region kind port owner op cycle item s) = some (s.hide m) := outHide_mono h_sub (by unfold execGuardViolation; (repeat' split) <;> simp)
theorem execFlockInsert_frame (h : CmdHdr) (key : BitVec 96) (action : BitVec 32) (s : State) {m : Nat} (h_sub : 67175810 &&& m = 67175810) :
    outHide m (execFlockInsert h key action s) = some (s.hide m) := outHide_mono h_sub (by simp [execFlockInsert])
theorem execFlockDelete_frame (h : CmdHdr) (key : BitVec 96) (s : State) {m : Nat} (h_sub : 67175810 &&& m = 67175810) :
    outHide m (execFlockDelete h key s) = some (s.hide m) := outHide_mono h_sub (by simp [execFlockDelete])
theorem execFlockLookup_frame (h : CmdHdr) (key : BitVec 96) (s : State) {m : Nat} (h_sub : 67110274 &&& m = 67110274) :
    outHide m (execFlockLookup h key s) = some (s.hide m) := outHide_mono h_sub (by simp [execFlockLookup])
theorem execFlockBulk_frame (h : CmdHdr) (mode : Byte) (count : BitVec 32) (src : BitVec 64) (s : State) {m : Nat} (h_sub : 67175810 &&& m = 67175810) :
    outHide m (execFlockBulk h mode count src s) = some (s.hide m) := outHide_mono h_sub (by simp [execFlockBulk])
theorem execFlockStashMigrate_frame (n : Fin 256) (s : State) {m : Nat} (h_sub : 65794 &&& m = 65794) :
    outHide m (execFlockStashMigrate n s) = some (s.hide m) := outHide_mono h_sub (by unfold execFlockStashMigrate; dsimp only; (repeat' split) <;> simp)
theorem execFlockBucketRestore_frame (sub : Fin 4) (bucket : Fin 16384) (s : State) {m : Nat} (h_sub : 65794 &&& m = 65794) :
    outHide m (execFlockBucketRestore sub bucket s) = some (s.hide m) := outHide_mono h_sub (by simp [execFlockBucketRestore])
theorem execFlockKeyComplete_frame (l : Fin 256) (inst : Fin 4) (c : Sample) (s : State) {m : Nat} (h_sub : 42242 &&& m = 42242) :
    outHide m (execFlockKeyComplete l inst c s) = some (s.hide m) := outHide_mono h_sub (by unfold execFlockKeyComplete; (repeat' split) <;> simp)
theorem execFlockResult_frame (f : Fin 16) (i : Sample) (s : State) {m : Nat} (h_sub : 32768 &&& m = 32768) :
    outHide m (execFlockResult f i s) = some (s.hide m) := outHide_mono h_sub (by unfold execFlockResult; (repeat' split) <;> simp)
theorem execDacSet_frame (h : CmdHdr) (channels : BitVec 64) (span : Byte) (values : BitVec 288) (s : State) {m : Nat} (h_sub : 83887234 &&& m = 83887234) :
    outHide m (execDacSet h channels span values s) = some (s.hide m) := outHide_mono h_sub (by simp [execDacSet])
theorem execDdsSet_frame (h : CmdHdr) (p : DdsParams) (s : State) {m : Nat} (h_sub : 83887234 &&& m = 83887234) :
    outHide m (execDdsSet h p s) = some (s.hide m) := outHide_mono h_sub (by simp [execDdsSet])
theorem execDdsT0_frame (ch : Fin 2) (s : State) {m : Nat} (h_sub : 16778626 &&& m = 16778626) :
    outHide m (execDdsT0 ch s) = some (s.hide m) := outHide_mono h_sub (by simp [execDdsT0])
theorem execDacUpdateTick_frame (s : State) {m : Nat} (h_sub : 16778370 &&& m = 16778370) :
    outHide m (execDacUpdateTick s) = some (s.hide m) := outHide_mono h_sub (by simp [execDacUpdateTick])
theorem execThrCurrentLimit_frame (ch : Fin 16) (s : State) {m : Nat} (h_sub : 1282 &&& m = 1282) :
    outHide m (execThrCurrentLimit ch s) = some (s.hide m) := outHide_mono h_sub (by simp [execThrCurrentLimit])
theorem execMeasStopWindowEnd_frame (u : Fin 4) (s : State) {m : Nat} (h_sub : 8391842 &&& m = 8391842) :
    outHide m (execMeasStopWindowEnd u s) = some (s.hide m) := outHide_mono h_sub (by simp [execMeasStopWindowEnd])
theorem execMeasGateTimer_frame (u : Fin 4) (s : State) {m : Nat} (h_sub : 8391842 &&& m = 8391842) :
    outHide m (execMeasGateTimer u s) = some (s.hide m) := outHide_mono h_sub (by simp [execMeasGateTimer])
theorem execMeasTimeout_frame (u : Fin 4) (s : State) {m : Nat} (h_sub : 8391842 &&& m = 8391842) :
    outHide m (execMeasTimeout u s) = some (s.hide m) := outHide_mono h_sub (by simp [execMeasTimeout])
theorem execMeasureInterval_frame (h : CmdHdr) (p : IntervalParams) (s : State) {m : Nat} (h_sub : 75500706 &&& m = 75500706) :
    outHide m (execMeasureInterval h p s) = some (s.hide m) := outHide_mono h_sub (by simp [execMeasureInterval])
theorem execMeasureFreq_frame (h : CmdHdr) (p : FreqParams) (s : State) {m : Nat} (h_sub : 75500706 &&& m = 75500706) :
    outHide m (execMeasureFreq h p s) = some (s.hide m) := outHide_mono h_sub (by simp [execMeasureFreq])
theorem execTinStamp_frame (n : Fin 16) (t : Time) (falling : Bool) (s : State) {m : Nat} (h_sub : 8424866 &&& m = 8424866) :
    outHide m (execTinStamp n t falling s) = some (s.hide m) := outHide_mono h_sub (by simp [execTinStamp])
theorem execTrigInEdge_frame (t : Time) (level : Bool) (held : Nat) (s : State) {m : Nat} (h_sub : 34050 &&& m = 34050) :
    outHide m (execTrigInEdge t level held s) = some (s.hide m) := outHide_mono h_sub (by simp [execTrigInEdge])
theorem execGateInChange_frame (t : Time) (level : Bool) (held : Nat) (s : State) {m : Nat} (h_sub : 8424866 &&& m = 8424866) :
    outHide m (execGateInChange t level held s) = some (s.hide m) := outHide_mono h_sub (by simp [execGateInChange])
theorem execTinConfig_frame (h : CmdHdr) (p : TinParams) (s : State) {m : Nat} (h_sub : 92275842 &&& m = 92275842) :
    outHide m (execTinConfig h p s) = some (s.hide m) := outHide_mono h_sub (by simp [execTinConfig])
theorem execTdcRecalibration_frame (n : Fin 16) (ok : Bool) (s : State) {m : Nat} (h_sub : 8392098 &&& m = 8392098) :
    outHide m (execTdcRecalibration n ok s) = some (s.hide m) := outHide_mono h_sub (by simp [execTdcRecalibration])
theorem execHandFire_frame (h : Fin 32) (i : Sample) (s : State) {m : Nat} (h_sub : 144616866 &&& m = 144616866) :
    outHide m (execHandFire h i s) = some (s.hide m) := outHide_mono h_sub (by unfold execHandFire; (repeat' split) <;> simp)
theorem execHandTimerExpiry_frame (h : Fin 32) (i : Sample) (s : State) {m : Nat} (h_sub : 144616866 &&& m = 144616866) :
    outHide m (execHandTimerExpiry h i s) = some (s.hide m) := outHide_mono h_sub (by unfold execHandTimerExpiry; (repeat' split) <;> simp)
theorem execCounterTargetReached_frame (n : Fin 64) (i : Sample) (s : State) {m : Nat} (h_sub : 8424866 &&& m = 8424866) :
    outHide m (execCounterTargetReached n i s) = some (s.hide m) := outHide_mono h_sub (by unfold execCounterTargetReached; (repeat' split) <;> simp)
theorem execTimerExpiry_frame (n : Fin 32) (i : Sample) (s : State) {m : Nat} (h_sub : 8424866 &&& m = 8424866) :
    outHide m (execTimerExpiry n i s) = some (s.hide m) := outHide_mono h_sub (by unfold execTimerExpiry; (repeat' split) <;> simp)
theorem execPatternLoad_frame (h : CmdHdr) (p : PatternLoadParams) (s : State) {m : Nat} (h_sub : 69209762 &&& m = 69209762) :
    outHide m (execPatternLoad h p s) = some (s.hide m) := outHide_mono h_sub (by simp [execPatternLoad])
theorem execCheckerViolation_frame (n : Fin 32) (i : Sample) (s : State) {m : Nat} (h_sub : 142523810 &&& m = 142523810) :
    outHide m (execCheckerViolation n i s) = some (s.hide m) := outHide_mono h_sub (by unfold execCheckerViolation; (repeat' split) <;> simp)
theorem execCheckerSync_frame (n : Fin 32) (i : Sample) (s : State) {m : Nat} (h_sub : 12619170 &&& m = 12619170) :
    outHide m (execCheckerSync n i s) = some (s.hide m) := outHide_mono h_sub (by unfold execCheckerSync; (repeat' split) <;> simp)
theorem execMaskCheckRecord_frame (n : Fin 32) (w : Nat) (s : State) {m : Nat} (h_sub : 4199714 &&& m = 4199714) :
    outHide m (execMaskCheckRecord n w s) = some (s.hide m) := outHide_mono h_sub (by unfold execMaskCheckRecord; (repeat' split) <;> simp)
theorem execCheckerDone_frame (n : Fin 32) (s : State) {m : Nat} (h_sub : 142523810 &&& m = 142523810) :
    outHide m (execCheckerDone n s) = some (s.hide m) := outHide_mono h_sub (by unfold execCheckerDone; (repeat' split) <;> simp)
theorem execPatternPlay_frame (h : CmdHdr) (p : PatternPlayParams) (s : State) {m : Nat} (h_sub : 69207170 &&& m = 69207170) :
    outHide m (execPatternPlay h p s) = some (s.hide m) := outHide_mono h_sub (by simp [execPatternPlay])
theorem execPatternStop_frame (h : CmdHdr) (mode : Byte) (i : Sample) (s : State) {m : Nat} (h_sub : 209632674 &&& m = 209632674) :
    outHide m (execPatternStop h mode i s) = some (s.hide m) := outHide_mono h_sub (by simp [execPatternStop])
theorem execPassDecision_frame (i : Sample) (s : State) {m : Nat} (h_sub : 2097154 &&& m = 2097154) :
    outHide m (execPassDecision s i) = some (s.hide m) := outHide_mono h_sub (by unfold execPassDecision; (repeat' split) <;> simp)
theorem execPassEnd_frame (s : State) {m : Nat} (h_sub : 2098562 &&& m = 2098562) :
    outHide m (execPassEnd s) = some (s.hide m) := outHide_mono h_sub (by simp [execPassEnd])
theorem execPlaybackStart_frame (i : Sample) (s : State) {m : Nat} (h_sub : 6292866 &&& m = 6292866) :
    outHide m (execPlaybackStart i s) = some (s.hide m) := outHide_mono h_sub (by unfold execPlaybackStart; (repeat' split) <;> simp)
theorem execPlaybackUnderrun_frame (e : Fin 32) (detail : Byte) (s : State) {m : Nat} (h_sub : 6296994 &&& m = 6296994) :
    outHide m (execPlaybackUnderrun e detail s) = some (s.hide m) := outHide_mono h_sub (by unfold execPlaybackUnderrun; (repeat' split) <;> simp)
theorem execDroverJobStart_frame (s : State) {m : Nat} (h_sub : 2109346 &&& m = 2109346) : outHide m (execDroverJobStart s) = some (s.hide m) :=
  outHide_mono h_sub <| by
  unfold execDroverJobStart; rw [outHide_next]; congr 1
  split
  · rfl
  · exact hide_if rfl ((droverCmd_hide (h_sub := rfl) ..).trans (hide_modDrov (m := 2109346) _ _ rfl))
  · split
    · rfl
    · rename_i h; have hp := pickFree_hide _ _ _ h (m := 2109346) rfl; dsimp only at hp ⊢; split <;> simp [hp]

theorem execReadoutVerification_frame (f : Fin 64) (sub seg entry : Nat) (s : State) {m : Nat} (h_sub : 1048866 &&& m = 1048866) :
    outHide m (execReadoutVerification f sub seg entry s) = some (s.hide m) := outHide_mono h_sub <| by
  unfold execReadoutVerification; rw [outHide_next]; congr 1
  split
  · split
    · rename_i h; have hp := pickFree_hide _ _ _ h (m := 1048866) rfl; dsimp only at hp ⊢; simp [hp]
    · rfl
  · rfl

theorem execReadFold_frame (h : CmdHdr) (p : ReadFoldParams) (s : State) {m : Nat} (h_sub : 67110530 &&& m = 67110530) :
    outHide m (execReadFold h p s) = some (s.hide m) := outHide_mono h_sub (by simp [execReadFold])
theorem execReadRange_frame (h : CmdHdr) (p : ReadRangeParams) (s : State) {m : Nat} (h_sub : 67110530 &&& m = 67110530) :
    outHide m (execReadRange h p s) = some (s.hide m) := outHide_mono h_sub (by simp [execReadRange])
theorem execReadIndex_frame (h : CmdHdr) (p : ReadIndexParams) (s : State) {m : Nat} (h_sub : 67110530 &&& m = 67110530) :
    outHide m (execReadIndex h p s) = some (s.hide m) := outHide_mono h_sub (by simp [execReadIndex])
theorem execEngineJobStart_frame (u : JobUpset) (s : State) {m : Nat} (h_sub : 135269794 &&& m = 135269794) : outHide m (execEngineJobStart s u) = some (s.hide m) :=
  outHide_mono h_sub <| by
  unfold execEngineJobStart; rw [outHide_next]; congr 1
  split
  · rfl
  · split
    · rfl
    · rename_i h; have hp := pickFree_hide _ _ _ h (m := 135269794) rfl; dsimp only at hp ⊢; rw [hide_ite]; simp [hp]

theorem execCompress_frame (h : CmdHdr) (p : CompressParams) (s : State) {m : Nat} (h_sub : 68158594 &&& m = 68158594) :
    outHide m (execCompress h p s) = some (s.hide m) := outHide_mono h_sub (by simp [execCompress])
theorem execDecompress_frame (h : CmdHdr) (p : DecompressParams) (s : State) {m : Nat} (h_sub : 68158594 &&& m = 68158594) :
    outHide m (execDecompress h p s) = some (s.hide m) := outHide_mono h_sub (by simp [execDecompress])
theorem execDecompressionEccError_frame (d : Fin 32) (s : State) {m : Nat} (h_sub : 141563298 &&& m = 141563298) :
    outHide m (execDecompressionEccError d s) = some (s.hide m) := outHide_mono h_sub (by simp [execDecompressionEccError])
theorem execSqDoorbell_frame (n : Fin 16) (value : BitVec 32) (s : State) {m : Nat} (h_sub : 258 &&& m = 258) :
    outHide m (execSqDoorbell n value s) = some (s.hide m) := outHide_mono h_sub (by simp [execSqDoorbell])
theorem execCqDoorbell_frame (n : Fin 16) (value : BitVec 32) (s : State) {m : Nat} (h_sub : 258 &&& m = 258) :
    outHide m (execCqDoorbell n value s) = some (s.hide m) := outHide_mono h_sub (by simp [execCqDoorbell])
theorem execCommandFetch_frame (s : State) {m : Nat} (h_sub : 3202 &&& m = 3202) : outHide m (execCommandFetch s) = some (s.hide m) :=
  outHide_mono h_sub <| by
  unfold execCommandFetch; rw [outHide_next]; congr 1
  refine hide_if rfl ?_
  split
  · rfl
  · dsimp only; simp

theorem execCompletionWrite_frame (cid : BitVec 16) (s : State) {m : Nat} (h_sub : 34623458 &&& m = 34623458) :
    outHide m (execCompletionWrite cid s) = some (s.hide m) := outHide_mono h_sub (by simp [execCompletionWrite])
theorem execCoalesceTimeout_frame (n : Fin 16) (s : State) {m : Nat} (h_sub : 258 &&& m = 258) :
    outHide m (execCoalesceTimeout n s) = some (s.hide m) := outHide_mono h_sub (by simp [execCoalesceTimeout])
theorem execCompletionTimeout_frame (who : NpReader) (s : State) {m : Nat} (h_sub : 1922 &&& m = 1922) :
    outHide m (execCompletionTimeout who s) = some (s.hide m) := outHide_mono h_sub (by unfold execCompletionTimeout; (repeat' split) <;> simp)
theorem execMsixUnmask_frame (s : State) {m : Nat} (h_sub : 256 &&& m = 256) :
    outHide m (execMsixUnmask s) = some (s.hide m) := outHide_mono h_sub (by simp [execMsixUnmask])
theorem execPcieD3hotEntry_frame (s : State) {m : Nat} (h_sub : 288 &&& m = 288) :
    outHide m (execPcieD3hotEntry s) = some (s.hide m) := outHide_mono h_sub (by simp [execPcieD3hotEntry])
theorem execPcieD0Return_frame (s : State) {m : Nat} (h_sub : 256 &&& m = 256) :
    outHide m (execPcieD0Return s) = some (s.hide m) := outHide_mono h_sub (by simp [execPcieD0Return])
theorem execPcieLinkUp_frame (speed : Fin 7) (width : Fin 4) (reversed : Bool) (flit : Bool) (s : State) {m : Nat} (h_sub : 258 &&& m = 258) :
    outHide m (execPcieLinkUp speed width reversed flit s) = some (s.hide m) := outHide_mono h_sub (by simp [execPcieLinkUp])
theorem execHostReset_frame (cause : HostResetCause) (s : State) {m : Nat} (h_sub : 1049474 &&& m = 1049474) :
    outHide m (execHostReset cause s) = some (s.hide m) := outHide_mono h_sub (by unfold execHostReset; (repeat' split) <;> simp)
theorem execBar2Write_frame (off : BitVec 38) (data : List Byte) (portA : Option (BitVec 64)) (rivals : List (BitVec 3)) (s : State) {m : Nat} (h_sub : 2306 &&& m = 2306) :
    outHide m (execBar2Write off data portA s rivals) = some (s.hide m) := outHide_mono h_sub (by simp [execBar2Write])
theorem execBar2SetAliasWrite_frame (off : BitVec 38) (data : List Byte) (portA : Option (BitVec 64)) (rivals : List (BitVec 3)) (s : State) {m : Nat} (h_sub : 2306 &&& m = 2306) :
    outHide m (execBar2SetAliasWrite off data portA s rivals) = some (s.hide m) := outHide_mono h_sub (by simp [execBar2SetAliasWrite])
theorem execBar2ClearAliasWrite_frame (off : BitVec 38) (data : List Byte) (portA : Option (BitVec 64)) (rivals : List (BitVec 3)) (s : State) {m : Nat} (h_sub : 2306 &&& m = 2306) :
    outHide m (execBar2ClearAliasWrite off data portA s rivals) = some (s.hide m) := outHide_mono h_sub (by simp [execBar2ClearAliasWrite])
theorem execBar2Read_frame (off : BitVec 38) (len : Nat) (rivals : List (BitVec 3)) (s : State) {m : Nat} (h_sub : 3346 &&& m = 3346) :
    outHide m (execBar2Read off len s rivals) = some (s.hide m) := outHide_mono h_sub (by simp [execBar2Read])
theorem execEccWriteback_frame (loc : MemLoc) (overwritten : Bool) (s : State) {m : Nat} (h_sub : 134221058 &&& m = 134221058) :
    outHide m (execEccWriteback loc overwritten s) = some (s.hide m) := outHide_mono h_sub (by simp [execEccWriteback])
theorem execScrubStep_frame (loc : MemLoc) (err : Fin 3) (s : State) {m : Nat} (h_sub : 134286594 &&& m = 134286594) :
    outHide m (execScrubStep loc err s) = some (s.hide m) := outHide_mono h_sub (by simp [execScrubStep])
theorem execRowRemap_frame (loc : MemLoc) (s0 : State) {m : Nat} (h_sub : 134221058 &&& m = 134221058) : outHide m (execRowRemap loc s0) = some (s0.hide m) :=
  outHide_mono h_sub <| by
  have h (f) (u) : (precursor (s0.modMem f) u).hide 134221058 = s0.hide 134221058 :=
    (precursor_hide (h_sub := rfl) ..).trans (hide_modMem (m := 134221058) _ _ rfl)
  unfold execRowRemap; rw [outHide_next]; congr 1; dsimp only
  refine hide_if rfl (hide_if (hide_if ?_ ?_) ?_)
  · rw [raise_hide (m := 134221058) (h_sub := rfl), wearAdd_hide (m := 134221058) (h_sub := rfl), raiseErr_hide (m := 134221058) (h_sub := rfl), hide_modMem (m := 134221058) _ _ rfl]; exact h _ _
  · rw [wearAdd_hide (m := 134221058) (h_sub := rfl), raiseErr_hide (m := 134221058) (h_sub := rfl), hide_modMem (m := 134221058) _ _ rfl]; exact h _ _
  · rw [wearAdd_hide (m := 134221058) (h_sub := rfl), raiseErr_hide (m := 134221058) (h_sub := rfl), hide_modMem (m := 134221058) _ _ rfl]; exact h _ _

theorem execHbmPageRemap_frame (stack : Fin 4) (page : Fin 9437184) (s : State) {m : Nat} (h_sub : 134221058 &&& m = 134221058) :
    outHide m (execHbmPageRemap stack page s) = some (s.hide m) := outHide_mono h_sub (by simp [execHbmPageRemap])
theorem execMemPower_frame (h : CmdHdr) (target : Byte) (state : Byte) (region : Byte) (mask : BitVec 64) (s : State) {m : Nat} (h_sub : 67112322 &&& m = 67112322) :
    outHide m (execMemPower h target state region mask s) = some (s.hide m) := outHide_mono h_sub (by simp [execMemPower])
theorem execBankPowerChangeDone_frame (u : PowerUnit) (s : State) {m : Nat} (h_sub : 70266242 &&& m = 70266242) :
    outHide m (execBankPowerChangeDone u s) = some (s.hide m) := outHide_mono h_sub (by unfold execBankPowerChangeDone; dsimp only; (repeat' split) <;> simp)
theorem execHbmSelfRefreshEntry_frame (stack : Fin 4) (s : State) {m : Nat} (h_sub : 258 &&& m = 258) :
    outHide m (execHbmSelfRefreshEntry stack s) = some (s.hide m) := outHide_mono h_sub (by simp [execHbmSelfRefreshEntry])
theorem execLaneLockLost_frame (n : Fin 68) (s : State) {m : Nat} (h_sub : 167790050 &&& m = 167790050) :
    outHide m (execLaneLockLost n s) = some (s.hide m) := outHide_mono h_sub (by simp [execLaneLockLost])
theorem execLaneRelockExpiry_frame (n : Fin 68) (s : State) {m : Nat} (h_sub : 33572322 &&& m = 33572322) :
    outHide m (execLaneRelockExpiry n s) = some (s.hide m) := outHide_mono h_sub (by simp [execLaneRelockExpiry])
theorem execRxClockLost_frame (g : Fin 4) (s : State) {m : Nat} (h_sub : 33572322 &&& m = 33572322) :
    outHide m (execRxClockLost g s) = some (s.hide m) := outHide_mono h_sub (by simp [execRxClockLost])
theorem execSbLost_frame (g : LinkGroup) (s : State) {m : Nat} (h_sub : 33572322 &&& m = 33572322) :
    outHide m (execSbLost g s) = some (s.hide m) := outHide_mono h_sub (by simp [execSbLost])
theorem execWakeBurst_frame (g : Fin 4) (s : State) {m : Nat} (h_sub : 33572226 &&& m = 33572226) :
    outHide m (execWakeBurst g s) = some (s.hide m) := outHide_mono h_sub (by simp [execWakeBurst])
theorem execSbHello_frame (g : LinkGroup) (fr : SbFrame) (s : State) {m : Nat} (h_sub : 33572322 &&& m = 33572322) :
    outHide m (execSbHello g fr s) = some (s.hide m) := outHide_mono h_sub (by simp [execSbHello])
theorem execSbStatus_frame (g : LinkGroup) (fr : SbFrame) (s : State) {m : Nat} (h_sub : 33572322 &&& m = 33572322) :
    outHide m (execSbStatus g fr s) = some (s.hide m) := outHide_mono h_sub (by simp [execSbStatus])
theorem execSbHelloSend_frame (g : LinkGroup) (s : State) {m : Nat} (h_sub : 33554464 &&& m = 33554464) :
    outHide m (execSbHelloSend g s) = some (s.hide m) := outHide_mono h_sub (by simp [execSbHelloSend])
theorem execSbTrain_frame (g : LinkGroup) (fr : SbFrame) (s : State) {m : Nat} (h_sub : 167790050 &&& m = 167790050) :
    outHide m (execSbTrain g fr s) = some (s.hide m) := outHide_mono h_sub (by simp [execSbTrain])
theorem execTrainLanesPassed_frame (g : LinkGroup) (s : State) {m : Nat} (h_sub : 33572322 &&& m = 33572322) :
    outHide m (execTrainLanesPassed g s) = some (s.hide m) := outHide_mono h_sub (by simp [execTrainLanesPassed])
theorem execTrainJudgeDeadline_frame (g : LinkGroup) (passed : BitVec 17) (s : State) {m : Nat} (h_sub : 33572322 &&& m = 33572322) :
    outHide m (execTrainJudgeDeadline g passed s) = some (s.hide m) := outHide_mono h_sub (by simp [execTrainJudgeDeadline])
theorem execTrainAttemptTimeout_frame (g : LinkGroup) (s : State) {m : Nat} (h_sub : 33572322 &&& m = 33572322) :
    outHide m (execTrainAttemptTimeout g s) = some (s.hide m) := outHide_mono h_sub (by simp [execTrainAttemptTimeout])
theorem execReprobe_frame (g : LinkGroup) (s : State) {m : Nat} (h_sub : 33572322 &&& m = 33572322) :
    outHide m (execReprobe g s) = some (s.hide m) := outHide_mono h_sub (by simp [execReprobe])
theorem execSbSpare_frame (g : LinkGroup) (fr : SbFrame) (s : State) {m : Nat} (h_sub : 33572322 &&& m = 33572322) :
    outHide m (execSbSpare g fr s) = some (s.hide m) := outHide_mono h_sub (by simp [execSbSpare])
theorem execSbTest_frame (g : LinkGroup) (fr : SbFrame) (s : State) {m : Nat} (h_sub : 33572322 &&& m = 33572322) :
    outHide m (execSbTest g fr s) = some (s.hide m) := outHide_mono h_sub (by simp [execSbTest])
theorem execSbPower_frame (g : LinkGroup) (fr : SbFrame) (s : State) {m : Nat} (h_sub : 33572322 &&& m = 33572322) :
    outHide m (execSbPower g fr s) = some (s.hide m) := outHide_mono h_sub (by simp [execSbPower])
theorem execSbActivityWake_frame (g : LinkGroup) (s : State) {m : Nat} (h_sub : 33554432 &&& m = 33554432) :
    outHide m (execSbActivityWake g s) = some (s.hide m) := outHide_mono h_sub (by simp [execSbActivityWake])
theorem execSbNak_frame (g : LinkGroup) (fr : SbFrame) (s : State) {m : Nat} (h_sub : 33572322 &&& m = 33572322) :
    outHide m (execSbNak g fr s) = some (s.hide m) := outHide_mono h_sub (by simp [execSbNak])
theorem execSbRetry_frame (g : LinkGroup) (s : State) {m : Nat} (h_sub : 33572322 &&& m = 33572322) :
    outHide m (execSbRetry g s) = some (s.hide m) := outHide_mono h_sub (by unfold execSbRetry; dsimp only; (repeat' split) <;> simp)
theorem execRxDataBlock_frame (n : Fin 68) (levels : BitVec 272) (s : State) {m : Nat} (h_sub : 167790050 &&& m = 167790050) :
    outHide m (execRxDataBlock n levels s) = some (s.hide m) := outHide_mono h_sub (by simp [execRxDataBlock])
theorem execRxMarkerBlock_frame (n : Fin 68) (levels : BitVec 272) (s : State) {m : Nat} (h_sub : 167790050 &&& m = 167790050) :
    outHide m (execRxMarkerBlock n levels s) = some (s.hide m) := outHide_mono h_sub (by simp [execRxMarkerBlock])
theorem execRxIdleBlock_frame (n : Fin 68) (levels : BitVec 272) (s : State) {m : Nat} (h_sub : 167790050 &&& m = 167790050) :
    outHide m (execRxIdleBlock n levels s) = some (s.hide m) := outHide_mono h_sub (by simp [execRxIdleBlock])
theorem execRxCtrlBlock_frame (n : Fin 68) (levels : BitVec 272) (s : State) {m : Nat} (h_sub : 167790050 &&& m = 167790050) :
    outHide m (execRxCtrlBlock n levels s) = some (s.hide m) := outHide_mono h_sub (by simp [execRxCtrlBlock])
theorem execPrbsCheckerLock_frame (g : LinkGroup) (lane : Fin 17) (s : State) {m : Nat} (h_sub : 33554432 &&& m = 33554432) :
    outHide m (execPrbsCheckerLock g lane s) = some (s.hide m) := outHide_mono h_sub (by simp [execPrbsCheckerLock])
theorem execPrbsLost_frame (g : LinkGroup) (lane : Fin 17) (errs : Fin 1025) (s : State) {m : Nat} (h_sub : 33554690 &&& m = 33554690) :
    outHide m (execPrbsLost g lane errs s) = some (s.hide m) := outHide_mono h_sub (by simp [execPrbsLost])
theorem execLanePatrolScan_frame (n : Fin 68) (vMargin : Nat) (phMargin : Nat) (s : State) {m : Nat} (h_sub : 167790050 &&& m = 167790050) :
    outHide m (execLanePatrolScan n vMargin phMargin s) = some (s.hide m) := outHide_mono h_sub (by unfold execLanePatrolScan; dsimp only; (repeat' split) <;> simp)
theorem execLinkTrain_frame (h : CmdHdr) (dir : Byte) (group : Byte) (s : State) {m : Nat} (h_sub : 100681186 &&& m = 100681186) :
    outHide m (execLinkTrain h dir group s) = some (s.hide m) := outHide_mono h_sub (by simp [execLinkTrain])
theorem execLinkSleep_frame (h : CmdHdr) (dir : Byte) (group : Byte) (action : Byte) (s : State) {m : Nat} (h_sub : 100681186 &&& m = 100681186) :
    outHide m (execLinkSleep h dir group action s) = some (s.hide m) := outHide_mono h_sub (by simp [execLinkSleep])
theorem execEyeScan_frame (h : CmdHdr) (p : EyeParams) (s : State) {m : Nat} (h_sub : 67112098 &&& m = 67112098) :
    outHide m (execEyeScan h p s) = some (s.hide m) := outHide_mono h_sub (by simp [execEyeScan])
theorem execBitSlip_frame (h : CmdHdr) (lane : Byte) (count : BitVec 16) (s : State) {m : Nat} (h_sub : 100664450 &&& m = 100664450) :
    outHide m (execBitSlip h lane count s) = some (s.hide m) := outHide_mono h_sub (by simp [execBitSlip])
theorem execLoopback_frame (h : CmdHdr) (kind : Byte) (dir : Byte) (lanes : BitVec 128) (s : State) {m : Nat} (h_sub : 100664450 &&& m = 100664450) :
    outHide m (execLoopback h kind dir lanes s) = some (s.hide m) := outHide_mono h_sub (by simp [execLoopback])
theorem execPrbs_frame (h : CmdHdr) (dir : Byte) (func : Byte) (pattern : Byte) (peer : Byte) (lanes : BitVec 128) (s : State) {m : Nat} (h_sub : 100681186 &&& m = 100681186) :
    outHide m (execPrbs h dir func pattern peer lanes s) = some (s.hide m) := outHide_mono h_sub (by simp [execPrbs])
theorem execPatrolMove_frame (q : Fin 4) (b : Fin 4) (pass : Bool) (s : State) {m : Nat} (h_sub : 134219010 &&& m = 134219010) :
    outHide m (execPatrolMove q b pass s) = some (s.hide m) := outHide_mono h_sub (by simp [execPatrolMove])
theorem execPatrolMismatch_frame (q : Fin 4) (b : Fin 4) (s : State) {m : Nat} (h_sub : 134227202 &&& m = 134227202) :
    outHide m (execPatrolMismatch q b s) = some (s.hide m) := outHide_mono h_sub (by unfold execPatrolMismatch; dsimp only; (repeat' split) <;> simp)
theorem execPatrolConfirmEnd_frame (q : Fin 4) (b : Fin 4) (s : State) {m : Nat} (h_sub : 134219010 &&& m = 134219010) :
    outHide m (execPatrolConfirmEnd q b s) = some (s.hide m) := outHide_mono h_sub (by unfold execPatrolConfirmEnd; dsimp only; (repeat' split) <;> simp)
theorem execSpareStatus_frame (h : CmdHdr) (dest : BitVec 64) (s : State) {m : Nat} (h_sub : 67112066 &&& m = 67112066) :
    outHide m (execSpareStatus h dest s) = some (s.hide m) := outHide_mono h_sub (by simp [execSpareStatus])
theorem execWearForecast_frame (h : CmdHdr) (dest : BitVec 64) (s : State) {m : Nat} (h_sub : 67112098 &&& m = 67112098) :
    outHide m (execWearForecast h dest s) = some (s.hide m) := outHide_mono h_sub (by simp [execWearForecast])
theorem execSpareCommit_frame (h : CmdHdr) (kind : Byte) (unit : BitVec 16) (s : State) {m : Nat} (h_sub : 234907106 &&& m = 234907106) :
    outHide m (execSpareCommit h kind unit s) = some (s.hide m) := outHide_mono h_sub (by simp [execSpareCommit])
theorem execAgeingMeasure_frame (q : Fin 4) (slow : BitVec 16) (roOk : Fin 65) (s : State) {m : Nat} (h_sub : 134219042 &&& m = 134219042) :
    outHide m (execAgeingMeasure q slow roOk s) = some (s.hide m) := outHide_mono h_sub (by simp [execAgeingMeasure])
theorem execWearLogCommit_frame (good : Bool) (s : State) {m : Nat} (h_sub : 134217986 &&& m = 134217986) :
    outHide m (execWearLogCommit good s) = some (s.hide m) := outHide_mono h_sub (by simp [execWearLogCommit])
theorem execLockstepMismatch_frame (s : State) {m : Nat} (h_sub : 134219010 &&& m = 134219010) :
    outHide m (execLockstepMismatch s) = some (s.hide m) := outHide_mono h_sub (by simp [execLockstepMismatch])
theorem execCoreSelfTestDone_frame (pass0 pass1 pass2 : Bool) (s : State) {m : Nat} (h_sub : 205434274 &&& m = 205434274) :
    outHide m (execCoreSelfTestDone pass0 pass1 pass2 s) = some (s.hide m) := outHide_mono h_sub <| by
  have hq : ∀ (l : List Nat) (s : State), (l.foldl quarantineCore s).hide 205434274 = s.hide 205434274 := fun l s => by simp
  unfold execCoreSelfTestDone; dsimp only; rw [outHide_ite]
  split
  · split
    · simp
    · rfl
  · split
    · simp
    · split <;> simp

theorem execFwStage_frame (h : CmdHdr) (len : BitVec 32) (src : BitVec 64) (s : State) {m : Nat} (h_sub : 201328002 &&& m = 201328002) :
    outHide m (execFwStage h len src s) = some (s.hide m) := outHide_mono h_sub (by simp [execFwStage])
theorem execFwActivate_frame (h : CmdHdr) (s : State) {m : Nat} (h_sub : 201328002 &&& m = 201328002) :
    outHide m (execFwActivate h s) = some (s.hide m) := outHide_mono h_sub (by simp [execFwActivate])
theorem execHandoverTimeout_frame (s : State) {m : Nat} (h_sub : 134219138 &&& m = 134219138) :
    outHide m (execHandoverTimeout s) = some (s.hide m) := outHide_mono h_sub (by unfold execHandoverTimeout; (repeat' split) <;> simp)
theorem execShepherdCheckpoint_frame (s : State) {m : Nat} (h_sub : 134219138 &&& m = 134219138) :
    outHide m (execShepherdCheckpoint s) = some (s.hide m) := outHide_mono h_sub (by unfold execShepherdCheckpoint; (repeat' split) <;> simp)
theorem execNvWrite_frame (h : CmdHdr) (area : Byte) (len : BitVec 32) (offset : BitVec 32) (src : BitVec 64) (s : State) {m : Nat} (h_sub : 469763458 &&& m = 469763458) :
    outHide m (execNvWrite h area len offset src s) = some (s.hide m) := outHide_mono h_sub (by simp [execNvWrite])
theorem execTamperEvent_frame (src : Fin 5) (s : State) {m : Nat} (h_sub : 1547611554 &&& m = 1547611554) :
    outHide m (execTamperEvent src s) = some (s.hide m) := outHide_mono h_sub (by simp [execTamperEvent])
theorem execTamperSourceInactive_frame (src : Fin 5) (s : State) {m : Nat} (h_sub : 268437762 &&& m = 268437762) :
    outHide m (execTamperSourceInactive src s) = some (s.hide m) := outHide_mono h_sub (by simp [execTamperSourceInactive])
theorem execKeyProvision_frame (h : CmdHdr) (slot : Byte) (kind : Byte) (len : BitVec 32) (src : BitVec 64) (s : State) {m : Nat} (h_sub : 335547778 &&& m = 335547778) :
    outHide m (execKeyProvision h slot kind len src s) = some (s.hide m) := outHide_mono h_sub (by simp [execKeyProvision])
theorem execLifecycleAdvance_frame (h : CmdHdr) (target : Byte) (len : BitVec 32) (src : BitVec 64) (s : State) {m : Nat} (h_sub : 872418722 &&& m = 872418722) :
    outHide m (execLifecycleAdvance h target len src s) = some (s.hide m) := outHide_mono h_sub (by simp [execLifecycleAdvance])
theorem execTamperStatus_frame (h : CmdHdr) (s : State) {m : Nat} (h_sub : 335545474 &&& m = 335545474) :
    outHide m (execTamperStatus h s) = some (s.hide m) := outHide_mono h_sub (by simp [execTamperStatus])
theorem execWipe_frame (h : CmdHdr) (scope : Byte) (s : State) {m : Nat} (h_sub : 337644930 &&& m = 337644930) :
    outHide m (execWipe h scope s) = some (s.hide m) := outHide_mono h_sub (by simp [execWipe])
theorem execPorNLow_frame (s : State) {m : Nat} (h_sub : 536870894 &&& m = 536870894) :
    outHide m (execPorNLow s) = some (s.hide m) := outHide_mono h_sub (by simp [execPorNLow])
theorem execPowerOnReset_frame (image : Bool) (retry : BitVec 4) (s : State) {m : Nat} (h_sub : 473869730 &&& m = 473869730) :
    outHide m (execPowerOnReset image s retry) = some (s.hide m) := outHide_mono h_sub (by simp [execPowerOnReset])
theorem execTestReset_frame (s : State) {m : Nat} (h_sub : 0 &&& m = 0) :
    outHide m (execTestReset s) = some (s.hide m) := outHide_mono h_sub (by simp [execTestReset])
theorem execSupplyFail_frame (rail : Fin 12) (mv : BitVec 16) (s : State) {m : Nat} (h_sub : 536870894 &&& m = 536870894) :
    outHide m (execSupplyFail rail mv s) = some (s.hide m) := outHide_mono h_sub (by simp [execSupplyFail])
theorem execSupplyOvervoltage_frame (rail : Fin 12) (mv : BitVec 16) (s : State) {m : Nat} (h_sub : 67110146 &&& m = 67110146) :
    outHide m (execSupplyOvervoltage rail mv s) = some (s.hide m) := outHide_mono h_sub (by simp [execSupplyOvervoltage])
theorem execSupplyWarning_frame (io : Bool) (mv : BitVec 16) (s : State) {m : Nat} (h_sub : 67109122 &&& m = 67109122) :
    outHide m (execSupplyWarning io mv s) = some (s.hide m) := outHide_mono h_sub (by simp [execSupplyWarning])
theorem execSupplyWarningClear_frame (io : Bool) (mv : BitVec 16) (s : State) {m : Nat} (h_sub : 67109122 &&& m = 67109122) :
    outHide m (execSupplyWarningClear io mv s) = some (s.hide m) := outHide_mono h_sub (by simp [execSupplyWarningClear])
theorem execAvsOffTarget_frame (meas : BitVec 10) (s : State) {m : Nat} (h_sub : 258 &&& m = 258) :
    outHide m (execAvsOffTarget meas s) = some (s.hide m) := outHide_mono h_sub (by simp [execAvsOffTarget])
theorem execRefclkLoss_frame (s : State) {m : Nat} (h_sub : 67110146 &&& m = 67110146) :
    outHide m (execRefclkLoss s) = some (s.hide m) := outHide_mono h_sub (by simp [execRefclkLoss])
theorem execRefclkReturn_frame (s : State) {m : Nat} (h_sub : 67110146 &&& m = 67110146) :
    outHide m (execRefclkReturn s) = some (s.hide m) := outHide_mono h_sub (by simp [execRefclkReturn])
theorem execAonReturnToRefclk_frame (s : State) {m : Nat} (h_sub : 2 &&& m = 2) :
    outHide m (execAonReturnToRefclk s) = some (s.hide m) := outHide_mono h_sub (by simp [execAonReturnToRefclk])
theorem execOscillatorTrim_frame (s : State) {m : Nat} (h_sub : 0 &&& m = 0) :
    outHide m (execOscillatorTrim s) = some (s.hide m) := outHide_mono h_sub (by simp [execOscillatorTrim])
theorem execRegionSleep_frame (s : State) {m : Nat} (h_sub : 67111170 &&& m = 67111170) :
    outHide m (execRegionSleep s) = some (s.hide m) := outHide_mono h_sub (by simp [execRegionSleep])
theorem execRegionsReady_frame (s : State) {m : Nat} (h_sub : 209645026 &&& m = 209645026) :
    outHide m (execRegionsReady s) = some (s.hide m) := outHide_mono h_sub (by simp [execRegionsReady])
theorem execRegisterWrite_frame (m : Master) (off : BitVec 26) (size : Nat) (be : Byte) (value : BitVec 64) (s : State) {k : Nat} (h_sub : 536870894 &&& k = 536870894) :
    outHide k (execRegisterWrite m off size be value s) = some (s.hide k) := outHide_mono h_sub (by simp [execRegisterWrite])
theorem execLatchRead_frame (m : Master) (off : BitVec 26) (s : State) {k : Nat} (h_sub : 4382 &&& k = 4382) :
    outHide k (execLatchRead m off s) = some (s.hide k) := outHide_mono h_sub (by simp [execLatchRead])
theorem execLatchLoWrite_frame (m : Master) (off : BitVec 26) (value : Word) (s : State) {k : Nat} (h_sub : 536870894 &&& k = 536870894) :
    outHide k (execLatchLoWrite m off value s) = some (s.hide k) := outHide_mono h_sub (by simp [execLatchLoWrite])
theorem execLatchHiWrite_frame (m : Master) (off : BitVec 26) (value : Word) (s : State) {k : Nat} (h_sub : 536870894 &&& k = 536870894) :
    outHide k (execLatchHiWrite m off value s) = some (s.hide k) := outHide_mono h_sub (by simp [execLatchHiWrite])
theorem execSqcClear_frame (m : Master) (off : BitVec 26) (value : Word) (s : State) {k : Nat} (h_sub : 536870894 &&& k = 536870894) :
    outHide k (execSqcClear m off value s) = some (s.hide k) := outHide_mono h_sub (by simp [execSqcClear])
theorem execEnWrite_frame (m : Master) (off : BitVec 26) (value : Word) (s : State) {k : Nat} (h_sub : 536870894 &&& k = 536870894) :
    outHide k (execEnWrite m off value s) = some (s.hide k) := outHide_mono h_sub (by simp [execEnWrite])
theorem execChipUnlockWrite_frame (m : Master) (value : Word) (s : State) {k : Nat} (h_sub : 536870894 &&& k = 536870894) :
    outHide k (execChipUnlockWrite m value s) = some (s.hide k) := outHide_mono h_sub (by simp [execChipUnlockWrite])
theorem execKeyTimeout_frame (m : Master) (s : State) {k : Nat} (h_sub : 270 &&& k = 270) :
    outHide k (execKeyTimeout m s) = some (s.hide k) := outHide_mono h_sub (by simp [execKeyTimeout])
theorem execKeyLockoutEnd_frame (m : Master) (s : State) {k : Nat} (h_sub : 12 &&& k = 12) :
    outHide k (execKeyLockoutEnd m s) = some (s.hide k) := outHide_mono h_sub (by simp [execKeyLockoutEnd])
theorem execOwnerWrite_frame (m : Master) (value : Word) (s : State) {k : Nat} (h_sub : 536870894 &&& k = 536870894) :
    outHide k (execOwnerWrite m value s) = some (s.hide k) := outHide_mono h_sub (by simp [execOwnerWrite])
theorem execCoreReset_frame (m : Master) (value : Word) (low : BitVec 12) (s : State) {k : Nat} (h_sub : 536870894 &&& k = 536870894) :
    outHide k (execCoreReset m value low s) = some (s.hide k) := outHide_mono h_sub (by simp [execCoreReset])
theorem execEqPop_frame (m : Master) (q : Fin 32) (bad : Fin 129) (s : State) {k : Nat} (h_sub : 5406 &&& k = 5406) :
    outHide k (execEqPop m q s bad) = some (s.hide k) := outHide_mono h_sub (by simp [execEqPop])
theorem execEqFlush_frame (m : Master) (q : Fin 32) (s : State) {k : Nat} (h_sub : 536870894 &&& k = 536870894) :
    outHide k (execEqFlush m q s) = some (s.hide k) := outHide_mono h_sub (by simp [execEqFlush])
theorem execDacCodeWrite_frame (m : Master) (ch : Fin 34) (value : Word) (s : State) {k : Nat} (h_sub : 536870894 &&& k = 536870894) :
    outHide k (execDacCodeWrite m ch value s) = some (s.hide k) := outHide_mono h_sub (by simp [execDacCodeWrite])
theorem execDacFreezeWrite_frame (m : Master) (value : Word) (s : State) {k : Nat} (h_sub : 536870894 &&& k = 536870894) :
    outHide k (execDacFreezeWrite m value s) = some (s.hide k) := outHide_mono h_sub (by simp [execDacFreezeWrite])
theorem execDdsFtwWrite_frame (m : Master) (ch : Fin 2) (hi : Bool) (value : Word) (s : State) {k : Nat} (h_sub : 536870894 &&& k = 536870894) :
    outHide k (execDdsFtwWrite m ch hi value s) = some (s.hide k) := outHide_mono h_sub (by simp [execDdsFtwWrite])
theorem execLaneOfsWrite_frame (m : Master) (lane : Fin 68) (value : Word) (s : State) {k : Nat} (h_sub : 536870894 &&& k = 536870894) :
    outHide k (execLaneOfsWrite m lane value s) = some (s.hide k) := outHide_mono h_sub (by simp [execLaneOfsWrite])
theorem execLaneTestWrite_frame (m : Master) (g : LinkGroup) (lane : Fin 17) (value : Word) (s : State) {k : Nat} (h_sub : 536870894 &&& k = 536870894) :
    outHide k (execLaneTestWrite m g lane value s) = some (s.hide k) := outHide_mono h_sub (by simp [execLaneTestWrite])
theorem execRegisterReadError_frame (m : Master) (off : BitVec 26) (size : Nat) (s : State) {k : Nat} (h_sub : 4382 &&& k = 4382) :
    outHide k (execRegisterReadError m off size s) = some (s.hide k) := outHide_mono h_sub (by simp [execRegisterReadError])
theorem execBlockStateSettle_frame (ctrl : BitVec 26) (s : State) {m : Nat} (h_sub : 58738146 &&& m = 58738146) :
    outHide m (execBlockStateSettle ctrl s) = some (s.hide m) := outHide_mono h_sub (by simp [execBlockStateSettle])

end Sys2Proof.Machine
end

