-- ==== Sys2Proof/Laws/Tables.lean ====
section
/-!
SUPPORT. Tables and byte memories: what a read gives after a write, and the canonical form, which every memory operation keeps.
-/

namespace Sys2Proof.Machine

/-! Tables: reading one key after a write, and the canonical form. -/

theorem tabGet_tabDel_same {α : Type} (d : α) (k : Nat) : ∀ t : Tab α, tabGet d (tabDel t k) k = d
  | [] => rfl
  | (j, w) :: t => by
    unfold tabDel; split
    · exact tabGet_tabDel_same d k t
    · rename_i h; simp only [tabGet, if_neg h]; exact tabGet_tabDel_same d k t
theorem tabGet_tabDel_other {α : Type} (d : α) {k k' : Nat} (h : k' ≠ k) : ∀ t : Tab α, tabGet d (tabDel t k) k' = tabGet d t k'
  | [] => rfl
  | (j, w) :: t => by
    have ih := tabGet_tabDel_other d h t
    unfold tabDel; split
    · rename_i e; rw [ih, tabGet, if_neg (by omega)]
    · simp only [tabGet, ih]
theorem tabGet_tabIns_same {α : Type} (d : α) (k : Nat) (v : α) : ∀ t : Tab α, (∀ e ∈ t, e.1 ≠ k) → tabGet d (tabIns t k v) k = v
  | [], _ => by simp [tabIns, tabGet]
  | (j, w) :: t, h => by
    unfold tabIns; split
    · simp [tabGet]
    · rw [tabGet, if_neg (h (j, w) (by simp))]; exact tabGet_tabIns_same d k v t (fun e he => h e (by simp [he]))
theorem tabGet_tabIns_other {α : Type} (d : α) {k k' : Nat} (v : α) (h : k' ≠ k) : ∀ t : Tab α, tabGet d (tabIns t k v) k' = tabGet d t k'
  | [] => by simp [tabIns, tabGet, Ne.symm h]
  | (j, w) :: t => by
    unfold tabIns; split
    · simp [tabGet, Ne.symm h]
    · simp only [tabGet, tabGet_tabIns_other d v h t]
theorem tabDel_mem {α : Type} (k : Nat) : ∀ (t : Tab α) (e : Nat × α), e ∈ tabDel t k → e ∈ t ∧ e.1 ≠ k
  | [], e, h => by cases h
  | (j, w) :: t, e, h => by
    unfold tabDel at h; split at h
    · have := tabDel_mem k t e h; exact ⟨by simp [this.1], this.2⟩
    · rename_i hj
      rcases List.mem_cons.1 h with rfl | h
      · exact ⟨by simp, hj⟩
      · have := tabDel_mem k t e h; exact ⟨by simp [this.1], this.2⟩
theorem tabIns_mem {α : Type} (k : Nat) (v : α) : ∀ (t : Tab α) (e : Nat × α), e ∈ tabIns t k v → e = (k, v) ∨ e ∈ t
  | [], e, h => by simp [tabIns] at h; exact .inl h
  | (j, w) :: t, e, h => by
    unfold tabIns at h; split at h
    · rcases List.mem_cons.1 h with rfl | h
      · exact .inl rfl
      · exact .inr h
    · rcases List.mem_cons.1 h with rfl | h
      · exact .inr (by simp)
      · rcases tabIns_mem k v t e h with r | r
        · exact .inl r
        · exact .inr (by simp [r])

/-- A table reads, at the key written, the value written. -/
@[simp] theorem tabGet_tabPut_same {α : Type} [DecidableEq α] (d : α) (k : Nat) (v : α) (t : Tab α) : tabGet d (tabPut d t k v) k = v := by
  unfold tabPut; split
  · subst_vars; exact tabGet_tabDel_same _ k t
  · exact tabGet_tabIns_same d k v _ (fun e he => (tabDel_mem k t e he).2)
/-- A table reads, at every other key, as before. -/
theorem tabGet_tabPut_other {α : Type} [DecidableEq α] (d d' : α) {k k' : Nat} (v : α) (h : k' ≠ k) (t : Tab α) :
    tabGet d' (tabPut d t k v) k' = tabGet d' t k' := by
  unfold tabPut; split
  · exact tabGet_tabDel_other d' h t
  · rw [tabGet_tabIns_other d' v h, tabGet_tabDel_other d' h]

theorem tabWf_cons {α : Type} [DecidableEq α] (d : α) (j : Nat) (v : α) (t : Tab α) :
    tabWf d ((j, v) :: t) = true ↔ v ≠ d ∧ (∀ e ∈ t, j < e.1) ∧ tabWf d t = true := by
  simp [tabWf, and_assoc]
theorem tabWf_tabDel {α : Type} [DecidableEq α] (d : α) (k : Nat) : ∀ t : Tab α, tabWf d t = true → tabWf d (tabDel t k) = true
  | [], _ => rfl
  | (j, w) :: t, h => by
    obtain ⟨hw, hj, ht⟩ := (tabWf_cons d j w t).1 h
    unfold tabDel; split
    · exact tabWf_tabDel d k t ht
    · exact (tabWf_cons ..).2 ⟨hw, fun e he => hj e (tabDel_mem k t e he).1, tabWf_tabDel d k t ht⟩
theorem tabWf_tabIns {α : Type} [DecidableEq α] (d : α) (k : Nat) (v : α) (hv : v ≠ d) :
    ∀ t : Tab α, tabWf d t = true → (∀ e ∈ t, e.1 ≠ k) → tabWf d (tabIns t k v) = true
  | [], _, _ => (tabWf_cons ..).2 ⟨hv, by simp, rfl⟩
  | (j, w) :: t, h, hk => by
    obtain ⟨hw, hj, ht⟩ := (tabWf_cons d j w t).1 h
    have hjk : j ≠ k := hk (j, w) (by simp)
    unfold tabIns; split
    · rename_i hlt
      refine (tabWf_cons ..).2 ⟨hv, fun e he => ?_, h⟩
      rcases List.mem_cons.1 he with rfl | he
      · exact hlt
      · exact Nat.lt_trans hlt (hj e he)
    · rename_i hlt
      refine (tabWf_cons ..).2 ⟨hw, fun e he => ?_, tabWf_tabIns d k v hv t ht (fun e he => hk e (by simp [he]))⟩
      rcases tabIns_mem k v t e he with rfl | r
      · show j < k; omega
      · exact hj e r
/-- Writing keeps the canonical form. -/
theorem tabWf_tabPut {α : Type} [DecidableEq α] (d : α) (k : Nat) (v : α) (t : Tab α) (h : tabWf d t = true) : tabWf d (tabPut d t k v) = true := by
  have hd := tabWf_tabDel d k t h
  unfold tabPut; split
  · exact hd
  · rename_i hv; exact tabWf_tabIns d k v hv _ hd (fun e he => (tabDel_mem k t e he).2)

theorem tabWf_filter {α : Type} [DecidableEq α] (d : α) (p : Nat × α → Bool) : ∀ t : Tab α, tabWf d t = true → tabWf d (t.filter p) = true
  | [], _ => rfl
  | (j, w) :: t, h => by
    obtain ⟨hw, hj, ht⟩ := (tabWf_cons d j w t).1 h
    have ih := tabWf_filter d p t ht
    rw [List.filter_cons]
    split
    · exact (tabWf_cons ..).2 ⟨hw, fun e he => hj e (List.mem_filter.1 he).1, ih⟩
    · exact ih

/-! Memory -/

@[simp] theorem memByte_memPut_same (m : Mem) (a : Nat) (b : Byte) : memByte (memPut m a b) a = b := tabGet_tabPut_same 0 a b m
theorem memByte_memPut_other (m : Mem) {a a' : Nat} (b : Byte) (h : a' ≠ a) : memByte (memPut m a b) a' = memByte m a' :=
  tabGet_tabPut_other 0 0 b h m
/-- A write leaves every byte outside the bytes written. -/
theorem memByte_memWrite_other {a' : Nat} : ∀ (bs : List Byte) (m : Mem) (a : Nat), (a' < a ∨ a + bs.length ≤ a') →
    memByte (memWrite m a bs) a' = memByte m a'
  | [], m, a, _ => rfl
  | b :: t, m, a, h => by
    simp only [List.length_cons] at h
    unfold memWrite
    rw [memByte_memWrite_other t _ _ (by omega), memByte_memPut_other _ _ (by omega)]
theorem memWf_memPut (m : Mem) (a : Nat) (b : Byte) (h : memWf m = true) : memWf (memPut m a b) = true := tabWf_tabPut 0 a b m h
theorem memWf_memWrite : ∀ (bs : List Byte) (m : Mem) (a : Nat), memWf m = true → memWf (memWrite m a bs) = true
  | [], _, _, h => h
  | b :: t, m, a, h => memWf_memWrite t _ _ (memWf_memPut m a b h)
theorem memWf_filter (m : Mem) (p : Nat × Byte → Bool) (h : memWf m = true) : memWf (m.filter p) = true := tabWf_filter 0 p m h
theorem memWf_memErase (m : Mem) (lo hi : Nat) (h : memWf m = true) : memWf (memErase m lo hi) = true := memWf_filter m _ h
/-- A write can be read back. -/
theorem memRead_memWrite_same : ∀ (bs : List Byte) (m : Mem) (a : Nat), memRead (memWrite m a bs) a bs.length = bs
  | [], _, _ => rfl
  | b :: t, m, a => by
    simp only [List.length_cons, memRead, memWrite]
    rw [memByte_memWrite_other t _ _ (by omega), memByte_memPut_same, memRead_memWrite_same t _ _]

end Sys2Proof.Machine
end

