-- ==== Sys2Proof/Laws/MemForm.lean ====
section
/-!
SUPPORT. Every operation keeps the canonical form of the memories.
-/

set_option linter.unusedVariables false
set_option linter.unusedTactic false
set_option linter.unreachableTactic false
namespace Sys2Proof.Machine

theorem MemSt.wf_iff (m : MemSt) : m.wf = true ↔ memWf m.hbm = true ∧ memWf m.scratch = true ∧ memWf m.host = true := by
  simp [MemSt.wf, and_assoc]
theorem memOk_modMem {s : State} {f : MemSt → MemSt} (h : s.memOk) (hf : ∀ m, m.wf = true → (f m).wf = true) : (s.modMem f).memOk := hf _ h
theorem memOk_setMem {s : State} {x : MemSt} (h : x.wf = true) : (s.setMem x).memOk := h
theorem memWf_foldl {α : Type} (f : Mem → α → Mem) (h : ∀ m x, memWf m = true → memWf (f m x) = true) (l : List α) :
    ∀ m, memWf m = true → memWf (l.foldl f m) = true := by
  induction l with
  | nil => intro m hm; exact hm
  | cons a t ih => intro m hm; exact ih _ (h _ _ hm)
theorem segsWrite_wf : ∀ (l : List Seg) (m : MemSt) (bs : List Byte), m.wf = true → (segsWrite m l bs).wf = true
  | [], m, bs, h => h
  | (b, a, len) :: t, m, bs, h => by
    obtain ⟨h1, h2, h3⟩ := (MemSt.wf_iff m).1 h
    unfold segsWrite
    refine segsWrite_wf t _ _ ?_
    split
    · exact (MemSt.wf_iff _).2 ⟨memWf_memWrite _ _ _ h1, h2, h3⟩
    · exact (MemSt.wf_iff _).2 ⟨h1, h2, memWf_memWrite _ _ _ h3⟩

theorem memOk_of_hide {s t : State} (h : t.hide 2147481599 = s.hide 2147481599) (hs : s.memOk) : t.memOk := by
  have e0 := congrArg State.mem h
  have e : t.mem = s.mem := e0
  unfold State.memOk; rw [e]; exact hs
theorem memOk_ite {c : Prop} [Decidable c] {a b : State} (ha : a.memOk) (hb : b.memOk) : (if c then a else b).memOk := by split <;> assumption
theorem memOk_ite_fst {α : Type} {c : Prop} [Decidable c] {a b : State × α} (ha : a.1.memOk) (hb : b.1.memOk) :
    (if c then a else b).1.memOk := by split <;> assumption
theorem memOk_foldl {α : Type} (f : State → α → State) (h : ∀ s x, s.memOk → (f s x).memOk) (l : List α) :
    ∀ s, s.memOk → (l.foldl f s).memOk := by
  induction l with
  | nil => intro s hs; exact hs
  | cons a t ih => intro s hs; exact ih _ (h _ _ hs)
theorem memOk_foldr {α : Type} (f : α → State → State) (h : ∀ x s, s.memOk → (f x s).memOk) (s : State) (hs : s.memOk) (l : List α) :
    (l.foldr f s).memOk := by
  induction l with
  | nil => exact hs
  | cons a t ih => exact h _ _ ih
theorem memOk_foldl_fst {α β : Type} (f : State × β → α → State × β) (h : ∀ p x, p.1.memOk → (f p x).1.memOk) (l : List α) :
    ∀ p, p.1.memOk → (l.foldl f p).1.memOk := by
  induction l with
  | nil => intro s hs; exact hs
  | cons a t ih => intro s hs; exact ih _ (h _ _ hs)
theorem memOk_setPending {s : State} {x : List Instr} (h : s.memOk) : (s.setPending x).memOk := h
theorem memOk_setRegs {s : State} {x : Tab Word} (h : s.memOk) : (s.setRegs x).memOk := h
theorem memOk_modRegs {s : State} {f : Tab Word → Tab Word} (h : s.memOk) : (s.modRegs f).memOk := h
theorem memOk_setHost {s : State} {x : MasterSt} (h : s.memOk) : (s.setHost x).memOk := h
theorem memOk_modHost {s : State} {f : MasterSt → MasterSt} (h : s.memOk) : (s.modHost f).memOk := h
theorem memOk_setShepM {s : State} {x : MasterSt} (h : s.memOk) : (s.setShepM x).memOk := h
theorem memOk_modShepM {s : State} {f : MasterSt → MasterSt} (h : s.memOk) : (s.modShepM f).memOk := h
theorem memOk_setReply {s : State} {x : Reply} (h : s.memOk) : (s.setReply x).memOk := h
theorem memOk_setFree {s : State} {x : Nat} (h : s.memOk) : (s.setFree x).memOk := h
theorem memOk_setTb {s : State} {x : TimeSt} (h : s.memOk) : (s.setTb x).memOk := h
theorem memOk_modTb {s : State} {f : TimeSt → TimeSt} (h : s.memOk) : (s.modTb f).memOk := h
theorem memOk_setCmd {s : State} {x : CmdSt} (h : s.memOk) : (s.setCmd x).memOk := h
theorem memOk_modCmd {s : State} {f : CmdSt → CmdSt} (h : s.memOk) : (s.modCmd f).memOk := h
theorem memOk_setPcie {s : State} {x : PcieSt} (h : s.memOk) : (s.setPcie x).memOk := h
theorem memOk_modPcie {s : State} {f : PcieSt → PcieSt} (h : s.memOk) : (s.modPcie f).memOk := h
theorem memOk_setDrov {s : State} {x : DrovSt} (h : s.memOk) : (s.setDrov x).memOk := h
theorem memOk_modDrov {s : State} {f : DrovSt → DrovSt} (h : s.memOk) : (s.modDrov f).memOk := h
theorem memOk_setLog {s : State} {x : LogSt} (h : s.memOk) : (s.setLog x).memOk := h
theorem memOk_modLog {s : State} {f : LogSt → LogSt} (h : s.memOk) : (s.modLog f).memOk := h
theorem memOk_setEq {s : State} {x : Tab EqSt} (h : s.memOk) : (s.setEq x).memOk := h
theorem memOk_modEq {s : State} {f : Tab EqSt → Tab EqSt} (h : s.memOk) : (s.modEq f).memOk := h
theorem memOk_setDeck {s : State} {x : DeckSt} (h : s.memOk) : (s.setDeck x).memOk := h
theorem memOk_modDeck {s : State} {f : DeckSt → DeckSt} (h : s.memOk) : (s.modDeck f).memOk := h
theorem memOk_setIngest {s : State} {x : IngestSt} (h : s.memOk) : (s.setIngest x).memOk := h
theorem memOk_modIngest {s : State} {f : IngestSt → IngestSt} (h : s.memOk) : (s.modIngest f).memOk := h
theorem memOk_setRecog {s : State} {x : RecogSt} (h : s.memOk) : (s.setRecog x).memOk := h
theorem memOk_modRecog {s : State} {f : RecogSt → RecogSt} (h : s.memOk) : (s.modRecog f).memOk := h
theorem memOk_setFlock {s : State} {x : FlockSt} (h : s.memOk) : (s.setFlock x).memOk := h
theorem memOk_modFlock {s : State} {f : FlockSt → FlockSt} (h : s.memOk) : (s.modFlock f).memOk := h
theorem memOk_setHands {s : State} {x : Tab HandSt} (h : s.memOk) : (s.setHands x).memOk := h
theorem memOk_modHands {s : State} {f : Tab HandSt → Tab HandSt} (h : s.memOk) : (s.modHands f).memOk := h
theorem memOk_setTrig {s : State} {x : TrigSt} (h : s.memOk) : (s.setTrig x).memOk := h
theorem memOk_modTrig {s : State} {f : TrigSt → TrigSt} (h : s.memOk) : (s.modTrig f).memOk := h
theorem memOk_setFolds {s : State} {x : FoldsSt} (h : s.memOk) : (s.setFolds x).memOk := h
theorem memOk_modFolds {s : State} {f : FoldsSt → FoldsSt} (h : s.memOk) : (s.modFolds f).memOk := h
theorem memOk_setComp {s : State} {x : CompSt} (h : s.memOk) : (s.setComp x).memOk := h
theorem memOk_modComp {s : State} {f : CompSt → CompSt} (h : s.memOk) : (s.modComp f).memOk := h
theorem memOk_setPgen {s : State} {x : PgenSt} (h : s.memOk) : (s.setPgen x).memOk := h
theorem memOk_modPgen {s : State} {f : PgenSt → PgenSt} (h : s.memOk) : (s.modPgen f).memOk := h
theorem memOk_setCheckers {s : State} {x : Tab CheckerSt} (h : s.memOk) : (s.setCheckers x).memOk := h
theorem memOk_modCheckers {s : State} {f : Tab CheckerSt → Tab CheckerSt} (h : s.memOk) : (s.modCheckers f).memOk := h
theorem memOk_setTins {s : State} {x : TinsSt} (h : s.memOk) : (s.setTins x).memOk := h
theorem memOk_modTins {s : State} {f : TinsSt → TinsSt} (h : s.memOk) : (s.modTins f).memOk := h
theorem memOk_setDac {s : State} {x : Tab DacSt} (h : s.memOk) : (s.setDac x).memOk := h
theorem memOk_modDac {s : State} {f : Tab DacSt → Tab DacSt} (h : s.memOk) : (s.modDac f).memOk := h
theorem memOk_setLink {s : State} {x : Tab GroupLink} (h : s.memOk) : (s.setLink x).memOk := h
theorem memOk_modLink {s : State} {f : Tab GroupLink → Tab GroupLink} (h : s.memOk) : (s.modLink f).memOk := h
theorem memOk_setPwr {s : State} {x : PwrSt} (h : s.memOk) : (s.setPwr x).memOk := h
theorem memOk_modPwr {s : State} {f : PwrSt → PwrSt} (h : s.memOk) : (s.modPwr f).memOk := h
theorem memOk_setShep {s : State} {x : ShepSt} (h : s.memOk) : (s.setShep x).memOk := h
theorem memOk_modShep {s : State} {f : ShepSt → ShepSt} (h : s.memOk) : (s.modShep f).memOk := h
theorem memOk_setSec {s : State} {x : SecSt} (h : s.memOk) : (s.setSec x).memOk := h
theorem memOk_modSec {s : State} {f : SecSt → SecSt} (h : s.memOk) : (s.modSec f).memOk := h
theorem startCmd_memOk (h : CmdHdr) (c : Checks) (wake : Option Instr) (body : State → State) (s : State)
    (hb : ∀ t, t.memOk → (body t).memOk) (hs : s.memOk) : (startCmd h c wake body s).memOk := by
  have ha : (arrive h c.op c.ready s).1.memOk := memOk_of_hide (arrive_hide (m := 2147481599) (h_sub := rfl) ..) hs
  unfold startCmd
  refine memOk_ite hs ?_
  dsimp only
  refine memOk_ite ha ?_
  split
  · exact memOk_of_hide (refuse_hide (m := 2147481599) (h_sub := rfl) ..) ha
  · split
    · exact hb _ ha
    · refine memOk_ite (memOk_modPwr ?_) (hb _ ha)
      exact memOk_of_hide (beginWake_hide (m := 2147481599) (h_sub := rfl) ..) (memOk_of_hide (keepRunning_hide (m := 2147481599) (h_sub := rfl) ..) ha)
theorem wakeCmd_memOk (h : CmdHdr) (body : State → State) (s : State) (hb : ∀ t, t.memOk → (body t).memOk) (hs : s.memOk) :
    (wakeCmd h body s).memOk := by
  have h1 := hb _ (memOk_of_hide (dropCmd_hide (m := 2147481599) (h_sub := rfl) s h.ring h.cid) hs)
  unfold wakeCmd; dsimp only
  exact memOk_ite (memOk_of_hide (discard_hide (m := 2147481599) (h_sub := rfl) ..) h1) h1

/-! Operands -/

theorem settleHbm_memOk (s : State) (a n : Nat) (hs : s.memOk) : (settleHbm s a n).memOk := by
  obtain ⟨h1, h2, h3⟩ := (MemSt.wf_iff _).1 hs
  exact memOk_setMem ((MemSt.wf_iff _).2 ⟨memWf_foldl _ (fun m x h => memWf_memErase _ _ _ h) _ _ h1, h2, h3⟩)

theorem putBuf_memOk (s : State) (l : List Seg) (bs : List Byte) (hs : s.memOk) : (putBuf s l bs).memOk :=
  settleHbm_memOk _ _ _ (memOk_setMem (segsWrite_wf _ _ _ hs))

theorem putHost_memOk (s : State) (a : Nat) (bs : List Byte) (hs : s.memOk) : (putHost s a bs).memOk := by
  obtain ⟨h1, h2, h3⟩ := (MemSt.wf_iff _).1 hs
  exact memOk_setMem ((MemSt.wf_iff _).2 ⟨h1, h2, memWf_memWrite _ _ _ h3⟩)

theorem putHbm_memOk (s : State) (a : Nat) (bs : List Byte) (hs : s.memOk) : (putHbm s a bs).memOk := by
  obtain ⟨h1, h2, h3⟩ := (MemSt.wf_iff _).1 hs
  exact settleHbm_memOk _ _ _ (memOk_setMem ((MemSt.wf_iff _).2 ⟨memWf_memWrite _ _ _ h1, h2, h3⟩))

/-! Busy -/

theorem deliver_memOk (s : State) (dest : BitVec 64) (bs : List Byte) (hs : s.memOk) : (deliver s dest bs).1.memOk := by unfold deliver; repeat' (first | with_reducible assumption | intro _ | with_reducible apply memOk_ite | with_reducible apply memOk_ite_fst | with_reducible apply putBuf_memOk | with_reducible apply memOk_foldl | with_reducible apply memOk_foldl_fst | with_reducible apply memOk_foldr | split)
theorem carry_memOk (h : CmdHdr) (op : Nat) (obj : Nat) (i : Instr) (go : State → State) (s : State) (h_go : ∀ s, s.memOk → (go s).memOk) (hs : s.memOk) : (carry h op obj i go s).memOk := by unfold carry; repeat' (first | with_reducible assumption | intro _ | with_reducible apply memOk_ite | with_reducible apply memOk_ite_fst | with_reducible apply h_go | with_reducible refine memOk_of_hide (keepRunning_hide (m := 2147481599) (h_sub := rfl) ..) ?_ | with_reducible apply memOk_modDrov | with_reducible apply memOk_foldl | with_reducible apply memOk_foldl_fst | with_reducible apply memOk_foldr | split)

/-! Device -/

theorem identifyBody_memOk (h : CmdHdr) (dest : BitVec 64) (s : State) (hs : s.memOk) : (identifyBody h dest s).memOk := by unfold identifyBody; repeat' (first | with_reducible assumption | intro _ | with_reducible apply memOk_ite | with_reducible apply memOk_ite_fst | with_reducible apply deliver_memOk | with_reducible refine memOk_of_hide (useFree_hide (m := 2147481599) (h_sub := rfl) ..) ?_ | with_reducible refine memOk_of_hide (finish_hide (m := 2147481599) (h_sub := rfl) ..) ?_ | with_reducible apply memOk_foldl | with_reducible apply memOk_foldl_fst | with_reducible apply memOk_foldr | split)
theorem getLogGo_memOk (h : CmdHdr) (log : Byte) (max : BitVec 32) (fromSeq : BitVec 64) (dest : BitVec 64) (s : State) (hs : s.memOk) : (getLogGo h log max fromSeq dest s).memOk := by unfold getLogGo; repeat' (first | with_reducible assumption | intro _ | with_reducible apply memOk_ite | with_reducible apply memOk_ite_fst | with_reducible refine memOk_of_hide (drove_hide (m := 2147481599) (h_sub := rfl) ..) ?_ | with_reducible apply deliver_memOk | with_reducible refine memOk_of_hide (finish_hide (m := 2147481599) (h_sub := rfl) ..) ?_ | with_reducible apply memOk_foldl | with_reducible apply memOk_foldl_fst | with_reducible apply memOk_foldr | split)
theorem getLogBody_memOk (h : CmdHdr) (log : Byte) (max : BitVec 32) (fromSeq : BitVec 64) (dest : BitVec 64) (s : State) (hs : s.memOk) : (getLogBody h log max fromSeq dest s).memOk := by unfold getLogBody; repeat' (first | with_reducible assumption | intro _ | with_reducible apply memOk_ite | with_reducible apply memOk_ite_fst | with_reducible apply carry_memOk | with_reducible apply getLogGo_memOk | with_reducible apply memOk_foldl | with_reducible apply memOk_foldl_fst | with_reducible apply memOk_foldr | split)

/-! Blocks -/

theorem bankLose_memOk (s : State) (r b : Nat) (hs : s.memOk) : (bankLose s r b).memOk := by
  refine memOk_modMem hs (fun m h => ?_)
  obtain ⟨h1, h2, h3⟩ := (MemSt.wf_iff _).1 h
  exact (MemSt.wf_iff _).2 ⟨h1, memWf_memErase _ _ _ h2, h3⟩

theorem setBank_memOk (s : State) (r : Nat) (b : Nat) (v : Nat) (hs : s.memOk) : (setBank s r b v).memOk := by unfold setBank; repeat' (first | with_reducible assumption | intro _ | with_reducible apply memOk_ite | with_reducible apply memOk_ite_fst | with_reducible refine memOk_of_hide (wrF_hide (m := 2147481599) (h_sub := rfl) ..) ?_ | with_reducible apply bankLose_memOk | with_reducible apply memOk_foldl | with_reducible apply memOk_foldl_fst | with_reducible apply memOk_foldr | split)
theorem setBanks_memOk (s : State) (l : List (Nat × Nat)) (v : Nat) (hs : s.memOk) : (setBanks s l v).memOk := by unfold setBanks; repeat' (first | with_reducible assumption | intro _ | with_reducible apply memOk_ite | with_reducible apply memOk_ite_fst | with_reducible apply setBank_memOk | with_reducible apply memOk_foldl | with_reducible apply memOk_foldl_fst | with_reducible apply memOk_foldr | split)

/-! Units -/

theorem putLogical_memOk (s : State) (d : DeckImage) (f : Nat) (x : Nat) (bs : List Byte) (hs : s.memOk) : (putLogical s d f x bs).memOk := by unfold putLogical; repeat' (first | with_reducible assumption | intro _ | with_reducible apply memOk_ite | with_reducible apply memOk_ite_fst | with_reducible apply putHbm_memOk | with_reducible apply memOk_foldl | with_reducible apply memOk_foldl_fst | with_reducible apply memOk_foldr | split)
theorem putRing_memOk (s : State) (d : DeckImage) (f : Nat) (base : Nat) (size : Nat) (x : Nat) (bs : List Byte) (hs : s.memOk) : (putRing s d f base size x bs).memOk := by unfold putRing; repeat' (first | with_reducible assumption | intro _ | with_reducible apply memOk_ite | with_reducible apply memOk_ite_fst | with_reducible apply putLogical_memOk | with_reducible apply memOk_foldl | with_reducible apply memOk_foldl_fst | with_reducible apply memOk_foldr | split)
theorem putRingRows_memOk (s : State) (d : DeckImage) (f : Nat) (base : Nat) (size : Nat) (x : Nat) (bytes : List Byte) (bad : List Nat) (hs : s.memOk) : (putRingRows s d f base size x bytes bad).memOk := by unfold putRingRows; repeat' (first | with_reducible assumption | intro _ | with_reducible apply memOk_ite | with_reducible apply memOk_ite_fst | with_reducible apply putRing_memOk | with_reducible apply memOk_foldl | with_reducible apply memOk_foldl_fst | with_reducible apply memOk_foldr | split)
theorem putPage_memOk (s : State) (d : DeckImage) (f : Nat) (slot : Nat) (bytes : List Byte) (bad : List Nat) (u : UnitRec) (hs : s.memOk) : (putPage s d f slot bytes bad u).memOk := by unfold putPage; repeat' (first | with_reducible assumption | intro _ | with_reducible apply memOk_ite | with_reducible apply memOk_ite_fst | with_reducible apply putLogical_memOk | with_reducible apply putRingRows_memOk | with_reducible apply memOk_foldl | with_reducible apply memOk_foldl_fst | with_reducible apply memOk_foldr | split)
theorem storeRawPage_memOk (s : State) (d : DeckImage) (f : Nat) (inst : Nat) (j : Nat) (hs : s.memOk) : (storeRawPage s d f inst j).memOk := by unfold storeRawPage; repeat' (first | with_reducible assumption | intro _ | with_reducible apply memOk_ite | with_reducible apply memOk_ite_fst | with_reducible refine memOk_of_hide (endCtx_hide (m := 2147481599) (h_sub := rfl) ..) ?_ | with_reducible apply putPage_memOk | with_reducible apply putLogical_memOk | with_reducible refine memOk_of_hide (setFold_hide (m := 2147481599) (h_sub := rfl) ..) ?_ | with_reducible apply memOk_foldl | with_reducible apply memOk_foldl_fst | with_reducible apply memOk_foldr | split)
theorem storeRawTo_memOk (s : State) (d : DeckImage) (f : Nat) (last : Sample) (hs : s.memOk) : (storeRawTo s d f last).memOk := by unfold storeRawTo; repeat' (first | with_reducible assumption | intro _ | with_reducible apply memOk_ite | with_reducible apply memOk_ite_fst | with_reducible apply storeRawPage_memOk | with_reducible apply memOk_foldl | with_reducible apply memOk_foldl_fst | with_reducible apply memOk_foldr | split)

/-! Records -/

theorem storeRecPage_memOk (s : State) (d : DeckImage) (f : Nat) (hs : s.memOk) : (storeRecPage s d f).memOk := by
  unfold storeRecPage
  refine memOk_ite hs ?_
  dsimp only
  generalize List.take 4096 _ = bs
  exact memOk_of_hide (setFold_hide (m := 2147481599) (h_sub := rfl) ..) (putPage_memOk _ _ _ _ _ _ _ hs)
/-- The memories of a result have their canonical form, where it is a state. -/
def memOkE : Formed1 → Prop
  | .error _ => True
  | .ok t => t.memOk
theorem memOkE_foldl {α : Type} (f : Formed1 → α → Formed1) (h : ∀ o x, memOkE o → memOkE (f o x)) (l : List α) :
    ∀ o, memOkE o → memOkE (l.foldl f o) := by
  induction l with
  | nil => intro o ho; exact ho
  | cons a t ih => intro o ho; exact ih _ (h _ _ ho)
theorem memOkE_if {c : Prop} [Decidable c] {o p : Formed1} (ho : memOkE o) (hp : memOkE p) : memOkE (if c then o else p) := by
  split <;> assumption

theorem addRecord_memOk (d : DeckImage) (f : Nat) (keep : Option (Sample × Sample)) (first last : Sample) (void flag : Bool)
    (bytes : List Byte) (s : State) (hs : s.memOk) : memOkE (addRecord d f keep first last void flag bytes s) := by
  have h1 : ∀ x, (setFold s f x).memOk := fun x => memOk_of_hide (setFold_hide (m := 2147481599) (h_sub := rfl) ..) hs
  unfold addRecord; dsimp only
  refine memOkE_if trivial ?_
  split
  · trivial
  · exact memOk_ite (storeRecPage_memOk _ _ _ (h1 _)) (h1 _)

theorem addTrans_memOk (d : DeckImage) (f : Nat) (keep : Option (Sample × Sample)) (i : Sample) (void flag : Bool) (bytes : List Byte)
    (o : Formed1) (h : memOkE o) : memOkE (addTrans d f keep i void flag bytes o) := by
  cases o with
  | error c => trivial
  | ok t => unfold addTrans; exact addRecord_memOk _ _ _ _ _ _ _ _ _ h

theorem addKeyframe_memOk (d : DeckImage) (f : Nat) (keep : Option (Sample × Sample)) (i : Sample) (s : State) (hs : s.memOk) :
    memOkE (addKeyframe d f keep i s) := by
  unfold addKeyframe
  refine memOkE_foldl _ (fun o x h => addTrans_memOk _ _ _ _ _ _ _ _ (addTrans_memOk _ _ _ _ _ _ _ _ h)) _ _ ?_
  exact addTrans_memOk _ _ _ _ _ _ _ _ (memOk_of_hide (setFold_hide (m := 2147481599) (h_sub := rfl) ..) hs)

theorem addItems_memOk (d : DeckImage) (f : Nat) (keep : Option (Sample × Sample)) (i : Sample) :
    ∀ (fuel : Nat) (l : List TransItem) (s : State), s.memOk → memOkE (addItems d f keep i fuel l s) := by
  have hsf (s : State) (x : FoldSt) (hs : s.memOk) : (setFold s f x).memOk := memOk_of_hide (setFold_hide (m := 2147481599) (h_sub := rfl) ..) hs
  intro fuel; induction fuel with
  | zero => intro l s hs; unfold addItems; exact hs
  | succ n ih =>
    intro l s hs
    cases l with
    | nil => unfold addItems; exact hs
    | cons it t =>
      unfold addItems; dsimp only
      split
      · have h := addKeyframe_memOk d f keep i s hs
        split
        · trivial
        · rename_i s1 e; rw [e] at h; exact ih _ _ h
      · split
        · split
          · trivial
          · rename_i s1 e
            have h := addRecord_memOk d f keep i i false false (transRec 0 0xFFFF i) (setFold s f { foldOf s f with base := i }) (hsf _ _ hs)
            rw [e] at h; exact ih _ _ h
        · split
          · trivial
          · rename_i s1 e
            have h := addRecord_memOk d f keep i i (transMask s d (foldInst d f it.1) i != 0) (outFlagged s d f (foldInst d f it.1))
              (transBytes s d f (foldOf s f).base i it) s hs
            rw [e] at h; exact ih _ _ (hsf _ _ h)

theorem transSample_memOk (d : DeckImage) (f : Nat) (keep : Option (Sample × Sample)) (i : Sample) (s : State) (hs : s.memOk) :
    memOkE (transSample d f keep i s) := by
  unfold transSample; dsimp only
  have h : memOkE (if i = (foldOf s f).epoch then addKeyframe d f keep i s else .ok s) := by
    split
    · exact addKeyframe_memOk _ _ _ _ _ hs
    · exact hs
  split
  · trivial
  · rename_i s1 e; rw [e] at h; exact addItems_memOk _ _ _ _ _ _ _ h

theorem stateSample_memOk (d : DeckImage) (f : Nat) (keep : Option (Sample × Sample)) (i : Sample) (s : State) (hs : s.memOk) :
    memOkE (stateSample d f keep i s) := by
  unfold stateSample
  refine memOkE_foldl _ (fun o x h => ?_) _ _ hs
  cases o with
  | error c => trivial
  | ok t =>
    dsimp only; split
    · exact addRecord_memOk _ _ _ _ _ _ _ _ _ h
    · exact h

theorem addWindow_memOk (d : DeckImage) (f : Nat) (keep : Option (Sample × Sample)) (n w : Nat) (b : Sample) (s : State) (hs : s.memOk) :
    memOkE (addWindow d f keep n w b s) := by
  unfold addWindow; dsimp only
  generalize hq : addRecord d f keep _ _ _ _ _ s = q
  have h2 : memOkE q := by rw [← hq]; exact addRecord_memOk _ _ _ _ _ _ _ _ _ hs
  cases q with
  | error c => trivial
  | ok t => exact memOk_of_hide (endCtx_hide (m := 2147481599) (h_sub := rfl) ..) (memOk_of_hide (setFold_hide (m := 2147481599) (h_sub := rfl) ..) (show t.memOk from h2))

theorem nextSample_memOk (d : DeckImage) (f : Nat) (keep : Option (Sample × Sample)) (i : Sample) (s : State) (hs : s.memOk) :
    memOkE (if fRed d f = 1 then transSample d f keep i s else stateSample d f keep i s) := by
  split
  · exact transSample_memOk _ _ _ _ _ hs
  · exact stateSample_memOk _ _ _ _ _ hs
theorem takeSamples_memOk (d : DeckImage) (f : Nat) (keep : Option (Sample × Sample)) :
    ∀ (n : Nat) (i : Sample) (s : State), s.memOk → (takeSamples d f keep n i s).1.memOk := by
  intro n; induction n with
  | zero => intro i s hs; exact hs
  | succ n ih =>
    intro i s hs; unfold takeSamples
    have h := nextSample_memOk d f keep i s hs
    split
    · exact hs
    · rename_i s1 e; rw [e] at h; exact ih _ _ (memOk_of_hide (setFold_hide (m := 2147481599) (h_sub := rfl) ..) h)

theorem takeWindows_memOk (d : DeckImage) (f : Nat) (keep : Option (Sample × Sample)) :
    ∀ (l : List (Nat × Nat × Sample)) (s : State), s.memOk → (takeWindows d f keep l s).1.memOk := by
  intro l; induction l with
  | nil => intro s hs; exact hs
  | cons a t ih =>
    intro s hs; obtain ⟨w, n, b⟩ := a; unfold takeWindows
    have h := addWindow_memOk d f keep n w b s hs
    split
    · exact hs
    · rename_i s1 e; rw [e] at h; exact ih _ h

theorem formTo_memOk (s : State) (d : DeckImage) (f : Nat) (last : Sample) (hs : s.memOk) : (formTo s d f last).1.memOk := by
  unfold formTo; dsimp only; split
  · exact takeWindows_memOk _ _ _ _ _ hs
  · exact takeSamples_memOk _ _ _ _ _ _ hs

theorem takeUntil_memOk (d : DeckImage) (f unit : Nat) (keep : Option (Sample × Sample)) :
    ∀ (n : Nat) (i : Sample) (s : State) (r : Taken), s.memOk → takeUntil d f unit keep n i s = some r → r.1.memOk := by
  intro n; induction n with
  | zero =>
    intro i s r hs h; unfold takeUntil at h; split at h
    · cases h; exact hs
    · cases h
  | succ n ih =>
    intro i s r hs h; unfold takeUntil at h; split at h
    · cases h; exact hs
    · dsimp only at h
      have h0 := nextSample_memOk d f keep i s hs
      split at h
      · cases h; exact hs
      · rename_i s1 e; rw [e] at h0
        exact ih _ _ _ (memOk_of_hide (setFold_hide (m := 2147481599) (h_sub := rfl) ..) h0) h

/-! CompFold -/

theorem putCompSide_memOk (s : State) (d : DeckImage) (f : Nat) (u : Nat) (x : Nat) (i : Nat) (j : Nat) (hs : s.memOk) : (putCompSide s d f u x i j).memOk := by unfold putCompSide; repeat' (first | with_reducible assumption | intro _ | with_reducible apply memOk_ite | with_reducible apply memOk_ite_fst | with_reducible apply putLogical_memOk | with_reducible apply memOk_foldl | with_reducible apply memOk_foldl_fst | with_reducible apply memOk_foldr | split)
theorem blockCompSide_memOk (s : State) (d : DeckImage) (f : Nat) (u : Nat) (x : Nat) (n : Nat) (hs : s.memOk) : (blockCompSide s d f u x n).memOk := by unfold blockCompSide; repeat' (first | with_reducible assumption | intro _ | with_reducible apply memOk_ite | with_reducible apply memOk_ite_fst | with_reducible apply putLogical_memOk | with_reducible apply memOk_foldl | with_reducible apply memOk_foldl_fst | with_reducible apply memOk_foldr | split)
theorem compBlock_memOk (s : State) (d : DeckImage) (f u e n : Nat) (chk : EngineCheck) (last : Bool) (hs : s.memOk) :
    (compBlock s d f u e n chk last).memOk := by
  unfold compBlock
  generalize hb : codeBlock _ _ _ _ _ _ _ _ = b
  dsimp only
  refine memOk_of_hide (setCompPage_hide (m := 2147481599) (h_sub := rfl) ..) (memOk_of_hide (setFold_hide (m := 2147481599) (h_sub := rfl) ..)
    (memOk_of_hide (endCtx_hide (m := 2147481599) (h_sub := rfl) ..) ?_))
  refine memOk_ite ?_ (memOk_of_hide (checkedBlock_hide (m := 2147481599) (h_sub := rfl) ..) ?_) <;>
    refine memOk_ite (memOk_of_hide (incCnt_hide (m := 2147481599) (h_sub := rfl) ..) ?_) ?_ <;>
    refine memOk_of_hide (wr64_hide (m := 2147481599) (h_sub := rfl) ..) (memOk_of_hide (wr64_hide (m := 2147481599) (h_sub := rfl) ..) ?_) <;>
    exact memOk_foldl _ (fun s i h => putCompSide_memOk _ _ _ _ _ _ _ h) _ _ (memOk_of_hide (useFree_hide (m := 2147481599) (h_sub := rfl) ..) hs)

theorem storeCompPage_memOk (s : State) (d : DeckImage) (f u e : Nat) (p : CompPage) (last : Bool) (t : State) (h : storeCompPage s d f u e p last = some t)
    (hs : s.memOk) : t.memOk := by
  unfold storeCompPage at h; dsimp only at h; split at h
  · cases h
  · cases h
    refine memOk_of_hide (setCompPage_hide (m := 2147481599) (h_sub := rfl) ..) (memOk_ite (memOk_of_hide (raiseBit_hide (m := 2147481599) (h_sub := rfl) ..) ?_) ?_) <;>
      refine memOk_of_hide (setFold_hide (m := 2147481599) (h_sub := rfl) ..) (memOk_ite ?_ (blockCompSide_memOk _ _ _ _ _ _ ?_)) <;>
      exact putLogical_memOk _ _ _ _ _ (putRingRows_memOk _ _ _ _ _ _ _ _ hs)

theorem endCompPage_memOk (s : State) (d : DeckImage) (f u e : Nat) (last : Bool) (hs : s.memOk) : (endCompPage s d f u e last).1.memOk := by
  unfold endCompPage; dsimp only; split
  · exact memOk_of_hide (setCompPage_hide (m := 2147481599) (h_sub := rfl) ..) hs
  · split
    · rename_i h; exact storeCompPage_memOk _ _ _ _ _ _ _ _ h hs
    · exact memOk_ite_fst hs (memOk_of_hide (dropRange_hide (k := 2147481599) (h_sub := rfl) ..) hs)

theorem compStep_memOk (s : State) (d : DeckImage) (f u e : Nat) (chk : EngineCheck) (last : Option Sample) (hs : s.memOk) :
    (compStep s d f u e chk last).1.memOk := by
  have hb (n l) : (compBlock s d f u e n chk l).memOk := compBlock_memOk _ _ _ _ _ _ _ _ hs
  unfold compStep; dsimp only; split
  · split
    · exact hs
    · exact endCompPage_memOk _ _ _ _ _ _ (memOk_of_hide (setCompPage_hide (m := 2147481599) (h_sub := rfl) ..) hs)
  · split
    · exact hb _ _
    · split
      · exact endCompPage_memOk _ _ _ _ _ _ (hb _ _)
      · exact hb _ _

theorem compTo_memOk (d : DeckImage) (f u e : Nat) (last : Sample) : ∀ (n : Nat) (s : State), s.memOk → (compTo d f u e last n s).1.memOk := by
  intro n; induction n with
  | zero => intro s hs; exact hs
  | succ n ih =>
    intro s hs; unfold compTo; dsimp only; split
    · exact hs
    · have h := compStep_memOk s d f u e .pass (some last) hs
      split
      · rename_i s1 e; rw [e] at h; exact ih _ h
      · exact h

theorem compClose_memOk (s : State) (d : DeckImage) (f : Nat) (last : Sample) (hs : s.memOk) : (compClose s d f last).1.memOk := by
  unfold compClose
  refine memOk_foldl_fst _ (fun p x h => ?_) _ _ hs
  split
  · split
    · exact h
    · exact compTo_memOk _ _ _ _ _ _ _ h
  · exact h

theorem cutTake_memOk (d : DeckImage) (f u e : Nat) (so : Sample) : ∀ (n : Nat) (s : State), s.memOk → (cutTake d f u e so n s).memOk := by
  intro n; induction n with
  | zero => intro s hs; exact hs
  | succ n ih =>
    intro s hs; unfold cutTake; dsimp only
    generalize min 8 _ = k
    have hb (l) : (compBlock s d f u e k .pass l).memOk := compBlock_memOk _ _ _ _ _ _ _ _ hs
    split
    · exact hs
    · split
      · have h1 := endCompPage_memOk (compBlock s d f u e k .pass ((compPage s d f u e).pages + k == 256)) d f u e false (hb _)
        split
        · rename_i s2 h; rw [h] at h1; exact ih _ h1
        · exact hb _
      · exact hb _

theorem cutPage_memOk (d : DeckImage) (f u e : Nat) (l : List OutSpan) (t : Nat) (s : State) (hs : s.memOk) : (cutPage d f u e l t s).memOk := by
  unfold cutPage; dsimp only
  generalize hq : List.findSome? _ _ = q
  cases q with
  | none => exact hs
  | some t =>
    obtain ⟨p, _, hp⟩ := List.exists_of_findSome?_eq_some hq
    exact storeCompPage_memOk _ _ _ _ _ _ _ _ hp hs

theorem compCut_memOk (s : State) (d : DeckImage) (f : Nat) (so : Sample) (hs : s.memOk) : (compCut s d f so).memOk := by
  unfold compCut; dsimp only
  exact memOk_foldl _ (fun s p h => cutPage_memOk _ _ _ _ _ _ _ h) _ _ (memOk_foldl _ (fun s p h => cutTake_memOk _ _ _ _ _ _ _ h) _ _ hs)

/-! Folds -/

theorem writeDescriptors_memOk (s : State) (d : DeckImage) (g : Nat) (seg : SegSt) (last : Sample) (extra : Nat) (ovf : List Byte) (hs : s.memOk) : (writeDescriptors s d g seg last extra ovf).memOk := by unfold writeDescriptors; repeat' (first | with_reducible assumption | intro _ | with_reducible apply memOk_ite | with_reducible apply memOk_ite_fst | with_reducible apply putLogical_memOk | with_reducible refine memOk_of_hide (raise_hide (m := 2147481599) (h_sub := rfl) ..) ?_ | with_reducible refine memOk_of_hide (wr64_hide (m := 2147481599) (h_sub := rfl) ..) ?_ | with_reducible refine memOk_of_hide (setGrp_hide (m := 2147481599) (h_sub := rfl) ..) ?_ | with_reducible apply memOk_modFolds | with_reducible apply memOk_foldl | with_reducible apply memOk_foldl_fst | with_reducible apply memOk_foldr | split)
theorem stopFold_memOk (s : State) (d : DeckImage) (f : Nat) (so : Sample) (hs : s.memOk) : (stopFold s d f so).1.memOk := by
  unfold stopFold; split
  · dsimp only; split
    · exact compCut_memOk _ _ _ _ hs
    · exact memOk_ite (storeRawTo_memOk _ _ _ _ hs) hs
  · exact storeRecPage_memOk _ _ _ (formTo_memOk _ _ _ _ hs)

theorem stopOvf_memOk (s : State) (d : DeckImage) (g fold cause : Nat) (so : Sample) (hs : s.memOk) : (stopOvf s d g fold cause so).memOk := by
  have hg (t : State) (x : GroupSt) (ht : t.memOk) : (setGrp t g x).memOk := memOk_of_hide (setGrp_hide (m := 2147481599) (h_sub := rfl) ..) ht
  have hm (t : State) (ht : t.memOk) : (handsIdle (raiseErr (setGrp t g { grpOf t g with st := .stoppedOvf, seg := none, closing := none })
      (Reg.FOLD_GRP_STATUS g) 3 2 0x0480 g) d).memOk :=
    memOk_of_hide (handsIdle_hide (m := 2147481599) (h_sub := rfl) ..) (memOk_of_hide (raiseErr_hide (m := 2147481599) (h_sub := rfl) ..) (hg _ _ ht))
  unfold stopOvf; dsimp only; split
  · apply hm; apply hg; apply writeDescriptors_memOk
    refine memOk_foldl_fst _ (fun p f hp => ?_) _ _ hs
    exact stopFold_memOk _ _ _ _ hp
  · split
    · exact hm _ hs
    · apply hm
      exact memOk_foldl _ (fun t f ht => putLogical_memOk _ _ _ _ _ (putLogical_memOk _ _ _ _ _ ht)) _ _ hs

theorem storeRest_memOk (s : State) (d : DeckImage) (f : Nat) (last : Sample) (hs : s.memOk) : (storeRest s d f last).1.memOk := by
  unfold storeRest; split
  · split
    · exact compClose_memOk _ _ _ _ hs
    · exact storeRawTo_memOk _ _ _ _ hs
  · have h := formTo_memOk s d f last hs
    split
    · rename_i s1 e; rw [e] at h; exact storeRecPage_memOk _ _ _ h
    · exact h

theorem finishClose_memOk (s : State) (d : DeckImage) (g : Nat) (hs : s.memOk) : (finishClose s d g).memOk := by
  unfold finishClose; dsimp only; split
  · rename_i last extra seg0 _ _
    have h : ∀ (l : List Nat) (a : State × Option (Nat × Nat × Sample)), a.1.memOk →
        (l.foldl (fun (a : State × Option (Nat × Nat × Sample)) f =>
          match a.2 with
          | some _ => a
          | none =>
            let q := storeRest a.1 d f last
            (q.1, q.2.map (fun i => (f, i)))) a).1.memOk := by
      refine memOk_foldl_fst _ (fun p x hp => ?_)
      split
      · exact hp
      · exact storeRest_memOk _ _ _ _ hp
    split
    · exact stopOvf_memOk _ _ _ _ _ _ (h _ (s, none) hs)
    · exact writeDescriptors_memOk _ _ _ _ _ _ _ (h _ (s, none) hs)
  · exact hs

theorem openSegment_memOk (s : State) (d : DeckImage) (g : Nat) (k : Nat) (e : Sample) (hs : s.memOk) : (openSegment s d g k e).memOk := by unfold openSegment; repeat' (first | with_reducible assumption | intro _ | with_reducible apply memOk_ite | with_reducible apply memOk_ite_fst | with_reducible apply finishClose_memOk | with_reducible refine memOk_of_hide (setFold_hide (m := 2147481599) (h_sub := rfl) ..) ?_ | with_reducible refine memOk_of_hide (compOpen_hide (m := 2147481599) (h_sub := rfl) ..) ?_ | with_reducible apply putLogical_memOk | with_reducible refine memOk_of_hide (setGrp_hide (m := 2147481599) (h_sub := rfl) ..) ?_ | with_reducible refine memOk_of_hide (armResets_hide (m := 2147481599) (h_sub := rfl) ..) ?_ | with_reducible apply memOk_foldl | with_reducible apply memOk_foldl_fst | with_reducible apply memOk_foldr | split)
theorem reArm_memOk (s : State) (d : DeckImage) (g : Nat) (sr : Sample) (hs : s.memOk) : (reArm s d g sr).memOk := by unfold reArm; repeat' (first | with_reducible assumption | intro _ | with_reducible apply memOk_ite | with_reducible apply memOk_ite_fst | with_reducible apply openSegment_memOk | with_reducible apply memOk_modDeck | with_reducible apply memOk_foldl | with_reducible apply memOk_foldl_fst | with_reducible apply memOk_foldr | split)
theorem ownChange_memOk (s : State) (d : DeckImage) (g : Nat) (i : Sample) (hs : s.memOk) : (ownChange s d g i).memOk := by unfold ownChange; dsimp only; repeat' (first | with_reducible assumption | intro _ | with_reducible apply memOk_ite | with_reducible apply memOk_ite_fst | with_reducible refine memOk_of_hide (endPost_hide (m := 2147481599) (h_sub := rfl) ..) ?_ | with_reducible apply reArm_memOk | with_reducible refine memOk_of_hide (setGrp_hide (m := 2147481599) (h_sub := rfl) ..) ?_ | with_reducible apply memOk_foldl | with_reducible apply memOk_foldl_fst | with_reducible apply memOk_foldr | split)
theorem settle_memOk (s : State) (d : DeckImage) (g : Nat) (i : Sample) (hs : s.memOk) : (settle s d g i).memOk := by unfold settle; repeat' (first | with_reducible assumption | intro _ | with_reducible apply memOk_ite | with_reducible apply memOk_ite_fst | with_reducible apply ownChange_memOk | with_reducible apply memOk_foldl | with_reducible apply memOk_foldl_fst | with_reducible apply memOk_foldr | split)
theorem overflowed_memOk (r : Taken) (d : DeckImage) (g f : Nat) (h : r.1.memOk) : (overflowed r d g f).memOk := by
  unfold overflowed; split
  · exact h
  · exact stopOvf_memOk _ _ _ _ _ _ h

theorem storeUnit_memOk (s : State) (d : DeckImage) (f inst unit : Nat) (hs : s.memOk) : (storeUnit s d f inst unit).memOk := by
  unfold storeUnit; dsimp only; split
  · exact hs
  · split
    · split
      · split
        · exact hs
        · rename_i e he
          refine memOk_ite ?_ hs
          apply overflowed_memOk
          generalize List.range 32 = l
          have hf := memOk_foldl_fst (fun (r : Taken) (_ : Nat) =>
            match r with
            | (s, none) => if (compPage s d f inst e).m = unit then compStep s d f inst e .pass (segEnd s (fGroup d f)) else (s, none)
            | r => r) (fun p x h => ?_) l (s, none) hs
          · exact hf
          split
          · split
            · apply compStep_memOk; exact h
            · exact h
          · exact h
      · exact memOk_ite (storeRawPage_memOk _ _ _ _ _ hs) hs
    · split
      · generalize hr : takeUntil _ _ _ _ _ _ _ = r
        cases r with
        | none => exact hs
        | some r => exact overflowed_memOk _ _ _ _ (takeUntil_memOk _ _ _ _ _ _ _ _ hs hr)
      · exact hs

theorem windowRecord_memOk (s : State) (d : DeckImage) (f n w : Nat) (hs : s.memOk) : (windowRecord s d f n w).memOk := by
  have h := addWindow_memOk d f (keepFrom s d (fGroup d f)) n w ((foldOf s f).epoch + (w + 1) * fWindow d f - 1) s hs
  unfold windowRecord; dsimp only
  generalize addWindow d f _ _ _ _ _ = q at h ⊢
  refine memOk_ite hs (memOk_ite hs ?_)
  cases q with
  | error c => exact stopOvf_memOk _ _ _ _ _ _ hs
  | ok t => exact h

/-! Capture -/

theorem settleAll_memOk (s : State) (d : DeckImage) (gs : List Nat) (i : Sample) (hs : s.memOk) : (settleAll s d gs i).memOk := by unfold settleAll; repeat' (first | with_reducible assumption | intro _ | with_reducible apply memOk_ite | with_reducible apply memOk_ite_fst | with_reducible apply settle_memOk | with_reducible apply memOk_foldl | with_reducible apply memOk_foldl_fst | with_reducible apply memOk_foldr | split)
theorem discardClosed_memOk (s : State) (d : DeckImage) (g : Nat) (hs : s.memOk) : (discardClosed s d g).memOk := by unfold discardClosed; repeat' (first | with_reducible assumption | intro _ | with_reducible apply memOk_ite | with_reducible apply memOk_ite_fst | with_reducible apply finishClose_memOk | with_reducible apply putLogical_memOk | with_reducible refine memOk_of_hide (setGrp_hide (m := 2147481599) (h_sub := rfl) ..) ?_ | with_reducible apply memOk_modFolds | with_reducible apply memOk_foldl | with_reducible apply memOk_foldl_fst | with_reducible apply memOk_foldr | split)
theorem armGroup_memOk (d : DeckImage) (mode : Byte) (sa : Sample) (s : State) (g : Nat) (hs : s.memOk) : (armGroup d mode sa s g).memOk := by unfold armGroup; repeat' (first | with_reducible assumption | intro _ | with_reducible apply memOk_ite | with_reducible apply memOk_ite_fst | with_reducible apply shed_memOk | with_reducible apply discardClosed_memOk | with_reducible refine memOk_of_hide (raiseBit_hide (m := 2147481599) (h_sub := rfl) ..) ?_ | with_reducible refine memOk_of_hide (setGrp_hide (m := 2147481599) (h_sub := rfl) ..) ?_ | with_reducible apply openSegment_memOk | with_reducible apply memOk_modDeck | with_reducible apply memOk_foldl | with_reducible apply memOk_foldl_fst | with_reducible apply memOk_foldr | split)
theorem armBody_memOk (h : CmdHdr) (groups : BitVec 16) (mode : Byte) (at_ : Sample) (s : State) (hs : s.memOk) : (armBody h groups mode at_ s).memOk := by unfold armBody; dsimp only; repeat' (first | with_reducible assumption | intro _ | with_reducible apply memOk_ite | with_reducible apply memOk_ite_fst | with_reducible refine memOk_of_hide (refuse_hide (m := 2147481599) (h_sub := rfl) ..) ?_ | with_reducible apply finishClose_memOk | with_reducible apply settleAll_memOk | with_reducible apply armGroup_memOk | with_reducible refine memOk_of_hide (finish_hide (m := 2147481599) (h_sub := rfl) ..) ?_ | with_reducible apply memOk_foldl | with_reducible apply memOk_foldl_fst | with_reducible apply memOk_foldr | split)
theorem disarmBody_memOk (h : CmdHdr) (groups : BitVec 16) (at_ : Sample) (s : State) (hs : s.memOk) : (disarmBody h groups at_ s).memOk := by unfold disarmBody; repeat' (first | with_reducible assumption | intro _ | with_reducible apply memOk_ite | with_reducible apply memOk_ite_fst | with_reducible refine memOk_of_hide (refuse_hide (m := 2147481599) (h_sub := rfl) ..) ?_ | with_reducible refine memOk_of_hide (finish_hide (m := 2147481599) (h_sub := rfl) ..) ?_ | with_reducible refine memOk_of_hide (handsIdle_hide (m := 2147481599) (h_sub := rfl) ..) ?_ | with_reducible refine memOk_of_hide (disarmGroup_hide (m := 2147481599) (h_sub := rfl) ..) ?_ | with_reducible apply settleAll_memOk | with_reducible apply memOk_foldl | with_reducible apply memOk_foldl_fst | with_reducible apply memOk_foldr | split)
theorem setPostAt_memOk (d : DeckImage) (s : State) (g : Nat) (post : Nat) (sc : Sample) (hs : s.memOk) : (setPostAt d s g post sc).memOk := by unfold setPostAt; repeat' (first | with_reducible assumption | intro _ | with_reducible apply memOk_ite | with_reducible apply memOk_ite_fst | with_reducible refine memOk_of_hide (setGrp_hide (m := 2147481599) (h_sub := rfl) ..) ?_ | with_reducible apply ownChange_memOk | with_reducible apply memOk_foldl | with_reducible apply memOk_foldl_fst | with_reducible apply memOk_foldr | split)
theorem setPostBody_memOk (h : CmdHdr) (group : Byte) (post : BitVec 64) (at_ : Sample) (s : State) (hs : s.memOk) : (setPostBody h group post at_ s).memOk := by unfold setPostBody; repeat' (first | with_reducible assumption | intro _ | with_reducible apply memOk_ite | with_reducible apply memOk_ite_fst | with_reducible refine memOk_of_hide (refuse_hide (m := 2147481599) (h_sub := rfl) ..) ?_ | with_reducible apply setPostAt_memOk | with_reducible apply settle_memOk | with_reducible refine memOk_of_hide (finish_hide (m := 2147481599) (h_sub := rfl) ..) ?_ | with_reducible refine memOk_of_hide (raiseBit_hide (m := 2147481599) (h_sub := rfl) ..) ?_ | with_reducible apply memOk_foldl | with_reducible apply memOk_foldl_fst | with_reducible apply memOk_foldr | split)
theorem foldStatusBody_memOk (h : CmdHdr) (groups : BitVec 16) (dest : BitVec 64) (at_ : Sample) (s : State) (hs : s.memOk) : (foldStatusBody h groups dest at_ s).memOk := by unfold foldStatusBody; repeat' (first | with_reducible assumption | intro _ | with_reducible apply memOk_ite | with_reducible apply memOk_ite_fst | with_reducible refine memOk_of_hide (refuse_hide (m := 2147481599) (h_sub := rfl) ..) ?_ | with_reducible apply settleAll_memOk | with_reducible apply deliver_memOk | with_reducible refine memOk_of_hide (finish_hide (m := 2147481599) (h_sub := rfl) ..) ?_ | with_reducible apply memOk_foldl | with_reducible apply memOk_foldl_fst | with_reducible apply memOk_foldr | split)
theorem triggerAccept_memOk (g : Nat) (i : Sample) (s0 : State) (d : DeckImage) (hs : s0.memOk) : (triggerAccept g i s0 d).memOk := by unfold triggerAccept; repeat' (first | with_reducible assumption | intro _ | with_reducible apply memOk_ite | with_reducible apply memOk_ite_fst | with_reducible apply settle_memOk | with_reducible refine memOk_of_hide (acceptAt_hide (m := 2147481599) (h_sub := rfl) ..) ?_ | with_reducible refine memOk_of_hide (ignoreAt_hide (m := 2147481599) (h_sub := rfl) ..) ?_ | with_reducible refine memOk_of_hide (resolveForces_hide (m := 2147481599) (h_sub := rfl) ..) ?_ | with_reducible apply memOk_modTrig | with_reducible apply memOk_foldl | with_reducible apply memOk_foldl_fst | with_reducible apply memOk_foldr | split)

/-! Activate -/

theorem dealBanks_memOk (old : Option DeckImage) (d : DeckImage) (s : State) (hs : s.memOk) : (dealBanks old d s).memOk := by unfold dealBanks; repeat' (first | with_reducible assumption | intro _ | with_reducible apply memOk_ite | with_reducible apply memOk_ite_fst | with_reducible apply setBank_memOk | with_reducible apply setBanks_memOk | with_reducible apply memOk_foldl | with_reducible apply memOk_foldl_fst | with_reducible apply memOk_foldr | split)
theorem dealPatterns_memOk (old : Option DeckImage) (d : DeckImage) (s : State) (hs : s.memOk) : (dealPatterns old d s).memOk := by
  obtain ⟨h1, h2, h3⟩ := (MemSt.wf_iff _).1 hs
  unfold dealPatterns
  refine memOk_ite hs (memOk_ite hs ?_)
  dsimp only
  generalize List.range 4096 = l
  exact memOk_setMem ((MemSt.wf_iff _).2 ⟨memWf_foldl _ (fun m x h => memWf_memPut _ _ _ h) _ _ h1, h2, h3⟩)

theorem activate_memOk (s : State) (n : Nat) (d : DeckImage) (hs : s.memOk) : (activate s n d).memOk := by unfold activate; repeat' (first | with_reducible assumption | intro _ | with_reducible apply memOk_ite | with_reducible apply memOk_ite_fst | with_reducible apply shed_memOk | with_reducible apply dealBanks_memOk | with_reducible refine memOk_of_hide (dealPower_hide (m := 2147481599) (h_sub := rfl) ..) ?_ | with_reducible refine memOk_of_hide (resetCounts_hide (m := 2147481599) (h_sub := rfl) ..) ?_ | with_reducible refine memOk_of_hide (resetCapture_hide (m := 2147481599) (h_sub := rfl) ..) ?_ | with_reducible apply dealPatterns_memOk | with_reducible refine memOk_of_hide (dealBlocks_hide (m := 2147481599) (h_sub := rfl) ..) ?_ | with_reducible refine memOk_of_hide (dealState_hide (m := 2147481599) (h_sub := rfl) ..) ?_ | with_reducible refine memOk_of_hide (dealEngines_hide (m := 2147481599) (h_sub := rfl) ..) ?_ | with_reducible refine memOk_of_hide (logDeck_hide (m := 2147481599) (h_sub := rfl) ..) ?_ | with_reducible refine memOk_of_hide (dealIds_hide (m := 2147481599) (h_sub := rfl) ..) ?_ | with_reducible refine memOk_of_hide (wrF_hide (m := 2147481599) (h_sub := rfl) ..) ?_ | with_reducible refine memOk_of_hide (startTbase_hide (m := 2147481599) (h_sub := rfl) ..) ?_ | with_reducible apply memOk_modDeck | with_reducible apply memOk_modIngest | with_reducible apply memOk_foldl | with_reducible apply memOk_foldl_fst | with_reducible apply memOk_foldr | split)
theorem deckActivateBody_memOk (h : CmdHdr) (slot : Byte) (s : State) (hs : s.memOk) : (deckActivateBody h slot s).memOk := by unfold deckActivateBody; repeat' (first | with_reducible assumption | intro _ | with_reducible apply memOk_ite | with_reducible apply memOk_ite_fst | with_reducible refine memOk_of_hide (refuse_hide (m := 2147481599) (h_sub := rfl) ..) ?_ | with_reducible refine memOk_of_hide (finish_hide (m := 2147481599) (h_sub := rfl) ..) ?_ | with_reducible apply activate_memOk | with_reducible apply memOk_foldl | with_reducible apply memOk_foldl_fst | with_reducible apply memOk_foldr | split)

/-! Deal -/

theorem shed_memOk (s : State) (d : DeckImage) (hs : s.memOk) : (shed s d).memOk := by unfold shed; repeat' (first | with_reducible assumption | intro _ | with_reducible apply memOk_ite | with_reducible apply memOk_ite_fst | with_reducible apply settleAll_memOk | with_reducible apply finishClose_memOk | with_reducible refine memOk_of_hide (raiseErr_hide (m := 2147481599) (h_sub := rfl) ..) ?_ | with_reducible apply stopOvf_memOk | with_reducible apply memOk_modDeck | with_reducible apply memOk_foldl | with_reducible apply memOk_foldl_fst | with_reducible apply memOk_foldr | split)
theorem applyStage_memOk (s : State) (d : DeckImage) (hs : s.memOk) : (applyStage s d).memOk := by unfold applyStage; repeat' (first | with_reducible assumption | intro _ | with_reducible apply memOk_ite | with_reducible apply memOk_ite_fst | with_reducible refine memOk_of_hide (wrF_hide (m := 2147481599) (h_sub := rfl) ..) ?_ | with_reducible refine memOk_of_hide (raiseErr_hide (m := 2147481599) (h_sub := rfl) ..) ?_ | with_reducible refine memOk_of_hide (raiseBit_hide (m := 2147481599) (h_sub := rfl) ..) ?_ | with_reducible refine memOk_of_hide (suspendPatrol_hide (m := 2147481599) (h_sub := rfl) ..) ?_ | with_reducible apply shed_memOk | with_reducible apply memOk_modDeck | with_reducible apply memOk_foldl | with_reducible apply memOk_foldl_fst | with_reducible apply memOk_foldr | split)
theorem rearmWaiting_memOk (d : DeckImage) (ws : List (Nat × Sample)) (sb : Sample) (s : State) (hs : s.memOk) : (rearmWaiting d ws sb s).memOk := by unfold rearmWaiting; repeat' (first | with_reducible assumption | intro _ | with_reducible apply memOk_ite | with_reducible apply memOk_ite_fst | with_reducible apply openSegment_memOk | with_reducible apply memOk_foldl | with_reducible apply memOk_foldl_fst | with_reducible apply memOk_foldr | split)
theorem applyRedeal_memOk (s : State) (r : RedealSt) (b : DeckImage) (sb : Sample) (hs : s.memOk) : (applyRedeal s r b sb).memOk := by unfold applyRedeal; repeat' (first | with_reducible assumption | intro _ | with_reducible apply memOk_ite | with_reducible apply memOk_ite_fst | with_reducible apply finishClose_memOk | with_reducible apply shed_memOk | with_reducible refine memOk_of_hide (setGrp_hide (m := 2147481599) (h_sub := rfl) ..) ?_ | with_reducible apply rearmWaiting_memOk | with_reducible refine memOk_of_hide (dealEngines_hide (m := 2147481599) (h_sub := rfl) ..) ?_ | with_reducible refine memOk_of_hide (dealIds_hide (m := 2147481599) (h_sub := rfl) ..) ?_ | with_reducible refine memOk_of_hide (endRun_hide (m := 2147481599) (h_sub := rfl) ..) ?_ | with_reducible refine memOk_of_hide (logDeck_hide (m := 2147481599) (h_sub := rfl) ..) ?_ | with_reducible apply memOk_modDeck | with_reducible apply memOk_foldl | with_reducible apply memOk_foldl_fst | with_reducible apply memOk_foldr | split)
theorem redealStep_memOk (s : State) (d : DeckImage) (hs : s.memOk) : (redealStep s d).memOk := by unfold redealStep; dsimp only; repeat' (first | with_reducible assumption | intro _ | with_reducible apply memOk_ite | with_reducible apply memOk_ite_fst | with_reducible apply settleAll_memOk | with_reducible apply applyRedeal_memOk | with_reducible apply memOk_foldl | with_reducible apply memOk_foldl_fst | with_reducible apply memOk_foldr | split)
theorem storeSoFar_memOk (s : State) (d : DeckImage) (skew : BitVec 5) (hs : s.memOk) : (storeSoFar s d skew).memOk := by unfold storeSoFar; repeat' (first | with_reducible assumption | intro _ | with_reducible apply memOk_ite | with_reducible apply memOk_ite_fst | with_reducible apply settleAll_memOk | with_reducible apply memOk_foldl | with_reducible apply memOk_foldl_fst | with_reducible apply memOk_foldr | split)
theorem dealBoundary_memOk (u : BoundaryUpset) (s : State) (hs : s.memOk) : (dealBoundary u s).memOk := by unfold dealBoundary; repeat' (first | with_reducible assumption | intro _ | with_reducible apply memOk_ite | with_reducible apply memOk_ite_fst | with_reducible refine memOk_of_hide (quarantineBlock_hide (m := 2147481599) (h_sub := rfl) ..) ?_ | with_reducible refine memOk_of_hide (engineErrors_hide (m := 2147481599) (h_sub := rfl) ..) ?_ | with_reducible apply storeSoFar_memOk | with_reducible refine memOk_of_hide (realign_hide (m := 2147481599) (h_sub := rfl) ..) ?_ | with_reducible refine memOk_of_hide (promoteStep_hide (m := 2147481599) (h_sub := rfl) ..) ?_ | with_reducible refine memOk_of_hide (handsReload_hide (m := 2147481599) (h_sub := rfl) ..) ?_ | with_reducible refine memOk_of_hide (slicesReload_hide (m := 2147481599) (h_sub := rfl) ..) ?_ | with_reducible refine memOk_of_hide (logError_hide (m := 2147481599) (h_sub := rfl) ..) ?_ | with_reducible apply redealStep_memOk | with_reducible apply applyStage_memOk | with_reducible apply memOk_modDeck | with_reducible apply memOk_foldl | with_reducible apply memOk_foldl_fst | with_reducible apply memOk_foldr | split)

/-! Meas -/

theorem putAt_memOk (s : State) (r : MeasRun) (o : Nat) (bs : List Byte) (hs : s.memOk) : (putAt s r o bs).memOk := by unfold putAt; repeat' (first | with_reducible assumption | intro _ | with_reducible apply memOk_ite | with_reducible apply memOk_ite_fst | with_reducible refine memOk_of_hide (drove_hide (m := 2147481599) (h_sub := rfl) ..) ?_ | with_reducible apply putBuf_memOk | with_reducible apply memOk_foldl | with_reducible apply memOk_foldl_fst | with_reducible apply memOk_foldr | split)
theorem measEnd_memOk (u : Nat) (cause : Nat) (t : Time) (cut : Bool) (s : State) (hs : s.memOk) : (measEnd u cause t cut s).memOk := by unfold measEnd; repeat' (first | with_reducible assumption | intro _ | with_reducible apply memOk_ite | with_reducible apply memOk_ite_fst | with_reducible refine memOk_of_hide (setMeas_hide (m := 2147481599) (h_sub := rfl) ..) ?_ | with_reducible refine memOk_of_hide (endRun_hide (m := 2147481599) (h_sub := rfl) ..) ?_ | with_reducible apply putAt_memOk | with_reducible apply memOk_foldl | with_reducible apply memOk_foldl_fst | with_reducible apply memOk_foldr | split)
theorem ivAgain_memOk (u : Nat) (t : Time) (s : State) (hs : s.memOk) : (ivAgain u t s).memOk := by unfold ivAgain; repeat' (first | with_reducible assumption | intro _ | with_reducible apply memOk_ite | with_reducible apply memOk_ite_fst | with_reducible apply measEnd_memOk | with_reducible refine memOk_of_hide (setRun_hide (m := 2147481599) (h_sub := rfl) ..) ?_ | with_reducible apply memOk_foldl | with_reducible apply memOk_foldl_fst | with_reducible apply memOk_foldr | split)
theorem ivStop_memOk (u : Nat) (t : Time) (n : Nat) (s : State) (hs : s.memOk) : (ivStop u t n s).memOk := by unfold ivStop; repeat' (first | with_reducible assumption | intro _ | with_reducible apply memOk_ite | with_reducible apply memOk_ite_fst | with_reducible apply ivAgain_memOk | with_reducible refine memOk_of_hide (setRun_hide (m := 2147481599) (h_sub := rfl) ..) ?_ | with_reducible apply putAt_memOk | with_reducible apply measEnd_memOk | with_reducible apply memOk_foldl | with_reducible apply memOk_foldl_fst | with_reducible apply memOk_foldr | split)
theorem ivStart_memOk (u : Nat) (p : IntervalParams) (t : Time) (s : State) (hs : s.memOk) : (ivStart u p t s).memOk := by unfold ivStart; repeat' (first | with_reducible assumption | intro _ | with_reducible apply memOk_ite | with_reducible apply memOk_ite_fst | with_reducible refine memOk_of_hide (incCnt_hide (m := 2147481599) (h_sub := rfl) ..) ?_ | with_reducible refine memOk_of_hide (setRun_hide (m := 2147481599) (h_sub := rfl) ..) ?_ | with_reducible refine memOk_of_hide (decCnt_hide (m := 2147481599) (h_sub := rfl) ..) ?_ | with_reducible apply ivStop_memOk | with_reducible apply putAt_memOk | with_reducible apply measEnd_memOk | with_reducible apply memOk_foldl | with_reducible apply memOk_foldl_fst | with_reducible apply memOk_foldr | split)
theorem ivWait_memOk (u : Nat) (p : IntervalParams) (x : MStamp) (s : State) (hs : s.memOk) : (ivWait u p x s).memOk := by unfold ivWait; repeat' (first | with_reducible assumption | intro _ | with_reducible apply memOk_ite | with_reducible apply memOk_ite_fst | with_reducible apply measEnd_memOk | with_reducible apply ivStart_memOk | with_reducible refine memOk_of_hide (setMeas_hide (m := 2147481599) (h_sub := rfl) ..) ?_ | with_reducible refine memOk_of_hide (incCnt_hide (m := 2147481599) (h_sub := rfl) ..) ?_ | with_reducible apply memOk_foldl | with_reducible apply memOk_foldl_fst | with_reducible apply memOk_foldr | split)
theorem ivStamp_memOk (u : Nat) (p : IntervalParams) (x : MStamp) (s : State) (hs : s.memOk) : (ivStamp u p x s).memOk := by unfold ivStamp; repeat' (first | with_reducible assumption | intro _ | with_reducible apply memOk_ite | with_reducible apply memOk_ite_fst | with_reducible apply ivStop_memOk | with_reducible refine memOk_of_hide (incCnt_hide (m := 2147481599) (h_sub := rfl) ..) ?_ | with_reducible apply ivAgain_memOk | with_reducible apply ivWait_memOk | with_reducible apply memOk_foldl | with_reducible apply memOk_foldl_fst | with_reducible apply memOk_foldr | split)
theorem unitStamp_memOk (u : Nat) (x : MStamp) (s : State) (hs : s.memOk) : (unitStamp u x s).memOk := by unfold unitStamp; repeat' (first | with_reducible assumption | intro _ | with_reducible apply memOk_ite | with_reducible apply memOk_ite_fst | with_reducible apply ivStamp_memOk | with_reducible refine memOk_of_hide (fqStamp_hide (m := 2147481599) (h_sub := rfl) ..) ?_ | with_reducible apply memOk_foldl | with_reducible apply memOk_foldl_fst | with_reducible apply memOk_foldr | split)
theorem gateCloses_memOk (u : Nat) (t : Time) (cut : Bool) (s : State) (hs : s.memOk) : (gateCloses u t cut s).memOk := by unfold gateCloses; repeat' (first | with_reducible assumption | intro _ | with_reducible apply memOk_ite | with_reducible apply memOk_ite_fst | with_reducible refine memOk_of_hide (setMeas_hide (m := 2147481599) (h_sub := rfl) ..) ?_ | with_reducible apply putAt_memOk | with_reducible refine memOk_of_hide (wr_hide (m := 2147481599) (h_sub := rfl) ..) ?_ | with_reducible refine memOk_of_hide (setRun_hide (m := 2147481599) (h_sub := rfl) ..) ?_ | with_reducible apply measEnd_memOk | with_reducible apply memOk_foldl | with_reducible apply memOk_foldl_fst | with_reducible apply memOk_foldr | split)
theorem unitEvent_memOk (u : Nat) (e : MeasEvent) (s : State) (hs : s.memOk) : (unitEvent u e s).memOk := by unfold unitEvent; repeat' (first | with_reducible assumption | intro _ | with_reducible apply memOk_ite | with_reducible apply memOk_ite_fst | with_reducible refine memOk_of_hide (gateOpens_hide (m := 2147481599) (h_sub := rfl) ..) ?_ | with_reducible apply gateCloses_memOk | with_reducible apply unitStamp_memOk | with_reducible refine memOk_of_hide (unitDead_hide (m := 2147481599) (h_sub := rfl) ..) ?_ | with_reducible apply memOk_foldl | with_reducible apply memOk_foldl_fst | with_reducible apply memOk_foldr | split)
theorem pumpOne_memOk (u : Nat) (t : Time) (s : State) (hs : s.memOk) : (pumpOne u t s).memOk := by unfold pumpOne; repeat' (first | with_reducible assumption | intro _ | with_reducible apply memOk_ite | with_reducible apply memOk_ite_fst | with_reducible apply unitEvent_memOk | with_reducible refine memOk_of_hide (setMeas_hide (m := 2147481599) (h_sub := rfl) ..) ?_ | with_reducible apply memOk_foldl | with_reducible apply memOk_foldl_fst | with_reducible apply memOk_foldr | split)
theorem pumpTo_memOk (u : Nat) (t : Time) (s : State) (hs : s.memOk) : (pumpTo u t s).memOk := by unfold pumpTo; repeat' (first | with_reducible assumption | intro _ | with_reducible apply memOk_ite | with_reducible apply memOk_ite_fst | with_reducible apply pumpOne_memOk | with_reducible apply memOk_foldl | with_reducible apply memOk_foldl_fst | with_reducible apply memOk_foldr | split)
theorem measPump_memOk (u : Nat) (s : State) (hs : s.memOk) : (measPump u s).memOk := by unfold measPump; dsimp only; repeat' (first | with_reducible assumption | intro _ | with_reducible apply memOk_ite | with_reducible apply memOk_ite_fst | with_reducible refine memOk_of_hide (gateSamples_hide (m := 2147481599) (h_sub := rfl) ..) ?_ | with_reducible apply pumpTo_memOk | with_reducible apply memOk_foldl | with_reducible apply memOk_foldl_fst | with_reducible apply memOk_foldr | split)
theorem pumpAll_memOk (s : State) (hs : s.memOk) : (pumpAll s).memOk := by unfold pumpAll; repeat' (first | with_reducible assumption | intro _ | with_reducible apply memOk_ite | with_reducible apply memOk_ite_fst | with_reducible apply measPump_memOk | with_reducible apply memOk_foldl | with_reducible apply memOk_foldl_fst | with_reducible apply memOk_foldr | split)
theorem measUpTo_memOk (u : Nat) (t : Time) (s : State) (hs : s.memOk) : (measUpTo u t s).memOk := by unfold measUpTo; repeat' (first | with_reducible assumption | intro _ | with_reducible apply memOk_ite | with_reducible apply memOk_ite_fst | with_reducible apply pumpTo_memOk | with_reducible refine memOk_of_hide (gateSamples_hide (m := 2147481599) (h_sub := rfl) ..) ?_ | with_reducible apply memOk_foldl | with_reducible apply memOk_foldl_fst | with_reducible apply memOk_foldr | split)
theorem measStamp_memOk (x : MStamp) (s : State) (u : Nat) (hs : s.memOk) : (measStamp x s u).memOk := by unfold measStamp; repeat' (first | with_reducible assumption | intro _ | with_reducible apply memOk_ite | with_reducible apply memOk_ite_fst | with_reducible refine memOk_of_hide (measEvent_hide (m := 2147481599) (h_sub := rfl) ..) ?_ | with_reducible apply measPump_memOk | with_reducible apply memOk_foldl | with_reducible apply memOk_foldl_fst | with_reducible apply memOk_foldr | split)
theorem gatePin_memOk (u : Nat) (t : Time) (level : Bool) (s : State) (hs : s.memOk) : (gatePin u t level s).memOk := by unfold gatePin; repeat' (first | with_reducible assumption | intro _ | with_reducible apply memOk_ite | with_reducible apply memOk_ite_fst | with_reducible apply measPump_memOk | with_reducible refine memOk_of_hide (measEvent_hide (m := 2147481599) (h_sub := rfl) ..) ?_ | with_reducible apply memOk_foldl | with_reducible apply memOk_foldl_fst | with_reducible apply memOk_foldr | split)
theorem measDead_memOk (n : Nat) (t : Time) (s : State) (u : Nat) (hs : s.memOk) : (measDead n t s u).memOk := by unfold measDead; repeat' (first | with_reducible assumption | intro _ | with_reducible apply memOk_ite | with_reducible apply memOk_ite_fst | with_reducible apply measPump_memOk | with_reducible refine memOk_of_hide (measEvent_hide (m := 2147481599) (h_sub := rfl) ..) ?_ | with_reducible apply memOk_foldl | with_reducible apply memOk_foldl_fst | with_reducible apply memOk_foldr | split)
theorem measWindowEnd_memOk (u : Nat) (s0 : State) (hs : s0.memOk) : (measWindowEnd u s0).memOk := by unfold measWindowEnd; dsimp only; repeat' (first | with_reducible assumption | intro _ | with_reducible apply memOk_ite | with_reducible apply memOk_ite_fst | with_reducible apply measUpTo_memOk | with_reducible apply ivAgain_memOk | with_reducible apply memOk_foldl | with_reducible apply memOk_foldl_fst | with_reducible apply memOk_foldr | split)
theorem measGateTimer_memOk (u : Nat) (s0 : State) (hs : s0.memOk) : (measGateTimer u s0).memOk := by unfold measGateTimer; dsimp only; repeat' (first | with_reducible assumption | intro _ | with_reducible apply memOk_ite | with_reducible apply memOk_ite_fst | with_reducible apply measUpTo_memOk | with_reducible refine memOk_of_hide (setRun_hide (m := 2147481599) (h_sub := rfl) ..) ?_ | with_reducible apply measEnd_memOk | with_reducible apply gateCloses_memOk | with_reducible apply memOk_foldl | with_reducible apply memOk_foldl_fst | with_reducible apply memOk_foldr | split)
theorem measTimeout_memOk (u : Nat) (s0 : State) (hs : s0.memOk) : (measTimeout u s0).memOk := by unfold measTimeout; repeat' (first | with_reducible assumption | intro _ | with_reducible apply memOk_ite | with_reducible apply memOk_ite_fst | with_reducible apply measEnd_memOk | with_reducible apply measUpTo_memOk | with_reducible apply memOk_foldl | with_reducible apply memOk_foldl_fst | with_reducible apply memOk_foldr | split)
theorem measAbort_memOk (h : CmdHdr) (op : Nat) (u : Nat) (s : State) (hs : s.memOk) : (measAbort h op u s).memOk := by unfold measAbort; repeat' (first | with_reducible assumption | intro _ | with_reducible apply memOk_ite | with_reducible apply memOk_ite_fst | with_reducible refine memOk_of_hide (finish_hide (m := 2147481599) (h_sub := rfl) ..) ?_ | with_reducible apply measEnd_memOk | with_reducible apply measUpTo_memOk | with_reducible apply memOk_foldl | with_reducible apply memOk_foldl_fst | with_reducible apply memOk_foldr | split)
theorem intervalBody_memOk (h : CmdHdr) (p : IntervalParams) (s : State) (hs : s.memOk) : (intervalBody h p s).memOk := by unfold intervalBody; repeat' (first | with_reducible assumption | intro _ | with_reducible apply memOk_ite | with_reducible apply memOk_ite_fst | with_reducible apply measAbort_memOk | with_reducible refine memOk_of_hide (refuse_hide (m := 2147481599) (h_sub := rfl) ..) ?_ | with_reducible refine memOk_of_hide (measBegin_hide (m := 2147481599) (h_sub := rfl) ..) ?_ | with_reducible apply memOk_foldl | with_reducible apply memOk_foldl_fst | with_reducible apply memOk_foldr | split)
theorem freqBody_memOk (h : CmdHdr) (p : FreqParams) (s : State) (hs : s.memOk) : (freqBody h p s).memOk := by unfold freqBody; repeat' (first | with_reducible assumption | intro _ | with_reducible apply memOk_ite | with_reducible apply memOk_ite_fst | with_reducible apply measAbort_memOk | with_reducible refine memOk_of_hide (refuse_hide (m := 2147481599) (h_sub := rfl) ..) ?_ | with_reducible refine memOk_of_hide (measBegin_hide (m := 2147481599) (h_sub := rfl) ..) ?_ | with_reducible apply memOk_foldl | with_reducible apply memOk_foldl_fst | with_reducible apply memOk_foldr | split)

/-! Tin -/

theorem tinStamp_memOk (n : Nat) (t : Time) (falling : Bool) (s : State) (hs : s.memOk) : (tinStamp n t falling s).memOk := by unfold tinStamp; repeat' (first | with_reducible assumption | intro _ | with_reducible apply memOk_ite | with_reducible apply memOk_ite_fst | with_reducible apply measDead_memOk | with_reducible refine memOk_of_hide (incCnt_hide (m := 2147481599) (h_sub := rfl) ..) ?_ | with_reducible refine memOk_of_hide (raiseBit_hide (m := 2147481599) (h_sub := rfl) ..) ?_ | with_reducible refine memOk_of_hide (noteStamp_hide (m := 2147481599) (h_sub := rfl) ..) ?_ | with_reducible refine memOk_of_hide (setTin_hide (m := 2147481599) (h_sub := rfl) ..) ?_ | with_reducible apply measStamp_memOk | with_reducible refine memOk_of_hide (recogStamp_hide (m := 2147481599) (h_sub := rfl) ..) ?_ | with_reducible apply memOk_foldl | with_reducible apply memOk_foldl_fst | with_reducible apply memOk_foldr | split)
theorem gateMeas_memOk (t : Time) (level : Bool) (held : Nat) (s : State) (hs : s.memOk) : (gateMeas t level held s).memOk := by unfold gateMeas; repeat' (first | with_reducible assumption | intro _ | with_reducible apply memOk_ite | with_reducible apply memOk_ite_fst | with_reducible apply gatePin_memOk | with_reducible apply memOk_modTins | with_reducible apply memOk_foldl | with_reducible apply memOk_foldl_fst | with_reducible apply memOk_foldr | split)
theorem tdcFail_memOk (n : Nat) (s : State) (hs : s.memOk) : (tdcFail n s).memOk := by unfold tdcFail; dsimp only; repeat' (first | with_reducible assumption | intro _ | with_reducible apply memOk_ite | with_reducible apply memOk_ite_fst | with_reducible refine memOk_of_hide (setBlkState_hide (m := 2147481599) (h_sub := rfl) ..) ?_ | with_reducible refine memOk_of_hide (setTin_hide (m := 2147481599) (h_sub := rfl) ..) ?_ | with_reducible refine memOk_of_hide (raiseErr_hide (m := 2147481599) (h_sub := rfl) ..) ?_ | with_reducible apply measEnd_memOk | with_reducible apply measUpTo_memOk | with_reducible refine memOk_of_hide (endRun_hide (m := 2147481599) (h_sub := rfl) ..) ?_ | with_reducible apply memOk_foldl | with_reducible apply memOk_foldl_fst | with_reducible apply memOk_foldr | split)
theorem handTo_memOk (s : State) (d : DeckImage) (h : Fin 32) (i : Sample) (hs : s.memOk) : (handTo s d h i).memOk := by unfold handTo; repeat' (first | with_reducible assumption | intro _ | with_reducible apply memOk_ite | with_reducible apply memOk_ite_fst | with_reducible apply pumpAll_memOk | with_reducible refine memOk_of_hide (handRun_hide (m := 2147481599) (h_sub := rfl) ..) ?_ | with_reducible apply settle_memOk | with_reducible apply memOk_foldl | with_reducible apply memOk_foldl_fst | with_reducible apply memOk_foldr | split)

/-! Pattern -/

theorem patWrite_memOk (s : State) (d : DeckImage) (o : Nat) (bs : List Byte) (hs : s.memOk) : (patWrite s d o bs).memOk := by
  obtain ⟨h1, h2, h3⟩ := (MemSt.wf_iff _).1 hs
  exact memOk_setMem ((MemSt.wf_iff _).2 ⟨memWf_foldl _ (fun m x h => memWf_memPut _ _ _ h) _ _ h1, h2, h3⟩)

theorem storePseg_memOk (s : State) (d : DeckImage) (p : Nat) (blocks : Nat) (streams : List (Nat × List Byte)) (ofs : List Nat) (hs : s.memOk) : (storePseg s d p blocks streams ofs).memOk := by unfold storePseg; repeat' (first | with_reducible assumption | intro _ | with_reducible apply memOk_ite | with_reducible apply memOk_ite_fst | with_reducible apply patWrite_memOk | with_reducible apply memOk_modPgen | with_reducible apply memOk_foldl | with_reducible apply memOk_foldl_fst | with_reducible apply memOk_foldr | split)
theorem patternLoadGo_memOk (h : CmdHdr) (p : PatternLoadParams) (s0 : State) (hs : s0.memOk) : (patternLoadGo h p s0).memOk := by unfold patternLoadGo; dsimp only; repeat' (first | with_reducible assumption | intro _ | with_reducible apply memOk_ite | with_reducible apply memOk_ite_fst | with_reducible refine memOk_of_hide (refuse_hide (m := 2147481599) (h_sub := rfl) ..) ?_ | with_reducible refine memOk_of_hide (drove_hide (m := 2147481599) (h_sub := rfl) ..) ?_ | with_reducible refine memOk_of_hide (finish_hide (m := 2147481599) (h_sub := rfl) ..) ?_ | with_reducible apply storePseg_memOk | with_reducible apply memOk_setFree | with_reducible apply memOk_foldl | with_reducible apply memOk_foldl_fst | with_reducible apply memOk_foldr | split)
theorem patternLoadBody_memOk (h : CmdHdr) (p : PatternLoadParams) (s : State) (hs : s.memOk) : (patternLoadBody h p s).memOk := by unfold patternLoadBody; repeat' (first | with_reducible assumption | intro _ | with_reducible apply memOk_ite | with_reducible apply memOk_ite_fst | with_reducible refine memOk_of_hide (refuse_hide (m := 2147481599) (h_sub := rfl) ..) ?_ | with_reducible apply carry_memOk | with_reducible apply patternLoadGo_memOk | with_reducible apply memOk_foldl | with_reducible apply memOk_foldl_fst | with_reducible apply memOk_foldr | split)
theorem violationActs_memOk (s : State) (d : DeckImage) (n : Nat) (i : Nat) (first : Bool) (hs : s.memOk) : (violationActs s d n i first).memOk := by unfold violationActs; repeat' (first | with_reducible assumption | intro _ | with_reducible apply memOk_ite | with_reducible apply memOk_ite_fst | with_reducible refine memOk_of_hide (handsIdle_hide (m := 2147481599) (h_sub := rfl) ..) ?_ | with_reducible refine memOk_of_hide (disarmGroup_hide (m := 2147481599) (h_sub := rfl) ..) ?_ | with_reducible apply settleAll_memOk | with_reducible refine memOk_of_hide (playEnd_hide (m := 2147481599) (h_sub := rfl) ..) ?_ | with_reducible apply memOk_setHands | with_reducible apply memOk_foldl | with_reducible apply memOk_foldl_fst | with_reducible apply memOk_foldr | split)
theorem checkOne_memOk (d : DeckImage) (n : Nat) (i : Nat) (s : State) (hs : s.memOk) : (checkOne d n i s).memOk := by unfold checkOne; repeat' (first | with_reducible assumption | intro _ | with_reducible apply memOk_ite | with_reducible apply memOk_ite_fst | with_reducible refine memOk_of_hide (wr_hide (m := 2147481599) (h_sub := rfl) ..) ?_ | with_reducible refine memOk_of_hide (expOut_hide (m := 2147481599) (h_sub := rfl) ..) ?_ | with_reducible refine memOk_of_hide (windowOut_hide (m := 2147481599) (h_sub := rfl) ..) ?_ | with_reducible refine memOk_of_hide (incCnt_hide (m := 2147481599) (h_sub := rfl) ..) ?_ | with_reducible refine memOk_of_hide (raiseBit_hide (m := 2147481599) (h_sub := rfl) ..) ?_ | with_reducible refine memOk_of_hide (setChecker_hide (m := 2147481599) (h_sub := rfl) ..) ?_ | with_reducible refine memOk_of_hide (wr64_hide (m := 2147481599) (h_sub := rfl) ..) ?_ | with_reducible apply violationActs_memOk | with_reducible apply memOk_foldl | with_reducible apply memOk_foldl_fst | with_reducible apply memOk_foldr | split)
theorem checkTo_memOk (s : State) (d : DeckImage) (n i : Nat) (hs : s.memOk) : (checkTo s d n i).memOk := by
  have h : ∀ (k j : Nat) (t : State), t.memOk → (stepN (checkOne d n) j k t).memOk := by
    intro k; induction k with
    | zero => intro j t ht; exact ht
    | succ k ih => intro j t ht; unfold stepN; exact checkOne_memOk _ _ _ _ (ih _ _ ht)
  unfold checkTo
  exact memOk_ite (h _ _ _ hs) hs

theorem checkerSync_memOk (n : Nat) (i : Sample) (s0 : State) (d : DeckImage) (hs : s0.memOk) : (checkerSync n i s0 d).memOk := by unfold checkerSync; repeat' (first | with_reducible assumption | intro _ | with_reducible apply memOk_ite | with_reducible apply memOk_ite_fst | with_reducible refine memOk_of_hide (noteEval_hide (m := 2147481599) (h_sub := rfl) ..) ?_ | with_reducible apply pumpAll_memOk | with_reducible refine memOk_of_hide (setChecker_hide (m := 2147481599) (h_sub := rfl) ..) ?_ | with_reducible refine memOk_of_hide (raiseBit_hide (m := 2147481599) (h_sub := rfl) ..) ?_ | with_reducible refine memOk_of_hide (wr_hide (m := 2147481599) (h_sub := rfl) ..) ?_ | with_reducible refine memOk_of_hide (wr64_hide (m := 2147481599) (h_sub := rfl) ..) ?_ | with_reducible apply memOk_foldl | with_reducible apply memOk_foldl_fst | with_reducible apply memOk_foldr | split)
theorem checkerDone_memOk (n : Nat) (s : State) (d : DeckImage) (hs : s.memOk) : (checkerDone n s d).memOk := by unfold checkerDone; repeat' (first | with_reducible assumption | intro _ | with_reducible apply memOk_ite | with_reducible apply memOk_ite_fst | with_reducible refine memOk_of_hide (raiseBit_hide (m := 2147481599) (h_sub := rfl) ..) ?_ | with_reducible refine memOk_of_hide (leaveCheck_hide (m := 2147481599) (h_sub := rfl) ..) ?_ | with_reducible apply checkTo_memOk | with_reducible apply memOk_foldl | with_reducible apply memOk_foldl_fst | with_reducible apply memOk_foldr | split)
theorem stopCheckers_memOk (s : State) (d : DeckImage) (i : Sample) (hs : s.memOk) : (stopCheckers s d i).memOk := by
  unfold stopCheckers
  refine memOk_foldl _ (fun s n h => memOk_ite ?_ h) _ _ hs
  refine memOk_of_hide (leaveCheck_hide (m := 2147481599) (h_sub := rfl) ..) ?_
  exact memOk_ite h (checkTo_memOk _ _ _ _ h)

theorem patternStopBody_memOk (h : CmdHdr) (mode : Byte) (i : Sample) (s : State) (hs : s.memOk) : (patternStopBody h mode i s).memOk := by
  unfold patternStopBody; split
  · exact memOk_of_hide (refuse_hide (m := 2147481599) (h_sub := rfl) ..) hs
  · rename_i d e
    have hc := stopCheckers_memOk s d i hs
    dsimp only; split
    · exact memOk_of_hide (finish_hide (m := 2147481599) (h_sub := rfl) ..) hs
    · refine memOk_of_hide (finish_hide (m := 2147481599) (h_sub := rfl) ..) ?_; split
      · exact memOk_of_hide (endRun_hide (m := 2147481599) (h_sub := rfl) ..) hs
      · exact hs
    · refine memOk_of_hide (finish_hide (m := 2147481599) (h_sub := rfl) ..) ?_; split
      · exact memOk_of_hide (endRun_hide (m := 2147481599) (h_sub := rfl) ..) hs
      · exact hs
    · refine memOk_ite ?_ ?_
      · exact memOk_of_hide (finish_hide (m := 2147481599) (h_sub := rfl) ..) (memOk_of_hide (playEnd_hide (m := 2147481599) (h_sub := rfl) ..) hc)
      · exact memOk_modPgen (memOk_of_hide (keepRunning_hide (m := 2147481599) (h_sub := rfl) ..) hc)

/-! Readout -/

theorem finishReadout_memOk (s : State) (d : DeckImage) (n : Nat) (j : DroverJob) (hs : s.memOk) : (finishReadout s d n j).memOk := by unfold finishReadout; repeat' (first | with_reducible assumption | intro _ | with_reducible apply memOk_ite | with_reducible apply memOk_ite_fst | with_reducible refine memOk_of_hide (judged_hide (m := 2147481599) (h_sub := rfl) ..) ?_ | with_reducible apply putBuf_memOk | with_reducible apply putHost_memOk | with_reducible refine memOk_of_hide (raiseBit_hide (m := 2147481599) (h_sub := rfl) ..) ?_ | with_reducible refine memOk_of_hide (incCnt_hide (m := 2147481599) (h_sub := rfl) ..) ?_ | with_reducible refine memOk_of_hide (raiseErr_hide (m := 2147481599) (h_sub := rfl) ..) ?_ | with_reducible refine memOk_of_hide (wrF_hide (m := 2147481599) (h_sub := rfl) ..) ?_ | with_reducible refine memOk_of_hide (wr64_hide (m := 2147481599) (h_sub := rfl) ..) ?_ | with_reducible refine memOk_of_hide (useFree_hide (m := 2147481599) (h_sub := rfl) ..) ?_ | with_reducible refine memOk_of_hide (endRun_hide (m := 2147481599) (h_sub := rfl) ..) ?_ | with_reducible apply memOk_modDrov | with_reducible apply memOk_modComp | with_reducible apply memOk_foldl | with_reducible apply memOk_foldl_fst | with_reducible apply memOk_foldr | split)
theorem readoutDone_memOk (s : State) (cid : BitVec 16) (hs : s.memOk) : (readoutDone s cid).memOk := by unfold readoutDone; repeat' (first | with_reducible assumption | intro _ | with_reducible apply memOk_ite | with_reducible apply memOk_ite_fst | with_reducible apply finishReadout_memOk | with_reducible apply memOk_foldl | with_reducible apply memOk_foldl_fst | with_reducible apply memOk_foldr | split)
theorem droverCmd_memOk (s : State) (i : Instr) (hs : s.memOk) : (droverCmd s i).memOk := by unfold droverCmd; repeat' (first | with_reducible assumption | intro _ | with_reducible apply memOk_ite | with_reducible apply memOk_ite_fst | with_reducible apply wakeCmd_memOk | with_reducible refine memOk_of_hide (deckLoadGo_hide (m := 2147481599) (h_sub := rfl) ..) ?_ | with_reducible apply getLogGo_memOk | with_reducible apply patternLoadGo_memOk | with_reducible apply memOk_foldl | with_reducible apply memOk_foldl_fst | with_reducible apply memOk_foldr | split)

/-! Jobs -/

theorem runCompress_memOk (s : State) (e : Nat) (j : EngineJob) (u : JobUpset) (hs : s.memOk) : (runCompress s e j u).memOk := by
  have h (x : State) (k : List EngineCheck) (n a b c f2 g : Nat) (hx : x.memOk) :
      (useEngine (k.foldl (fun s c => checkedBlock s e c) (incCnt (wr64 (wr64 (drove x n) (Reg.CMP_IN_LO e) a) (Reg.CMP_OUT_LO e) b) c f2)) e 2 g).memOk := by
    refine memOk_of_hide (useEngine_hide (m := 2147481599) (h_sub := rfl) ..) (memOk_foldl _ (fun s c h => memOk_of_hide (checkedBlock_hide (m := 2147481599) (h_sub := rfl) ..) h) _ _ ?_)
    exact memOk_of_hide (incCnt_hide (m := 2147481599) (h_sub := rfl) ..) (memOk_of_hide (wr64_hide (m := 2147481599) (h_sub := rfl) ..)
      (memOk_of_hide (wr64_hide (m := 2147481599) (h_sub := rfl) ..) (memOk_of_hide (drove_hide (m := 2147481599) (h_sub := rfl) ..) hx)))
  unfold runCompress; dsimp only
  refine memOk_ite (memOk_of_hide (endOpen_hide (m := 2147481599) (h_sub := rfl) ..) ?_)
    (memOk_ite (memOk_of_hide (endClosed_hide (m := 2147481599) (h_sub := rfl) ..) ?_) (memOk_of_hide (endOpen_hide (m := 2147481599) (h_sub := rfl) ..) ?_)) <;>
    exact h _ _ _ _ _ _ _ _ (memOk_setFree (putBuf_memOk _ _ _ hs))

theorem runDecompress_memOk (s : State) (e : Nat) (j : EngineJob) (u : JobUpset) (hs : s.memOk) : (runDecompress s e j u).memOk := by unfold runDecompress; repeat' (first | with_reducible assumption | intro _ | with_reducible apply memOk_ite | with_reducible apply memOk_ite_fst | with_reducible apply putBuf_memOk | with_reducible refine memOk_of_hide (drove_hide (m := 2147481599) (h_sub := rfl) ..) ?_ | with_reducible refine memOk_of_hide (useEngine_hide (m := 2147481599) (h_sub := rfl) ..) ?_ | with_reducible refine memOk_of_hide (wr64_hide (m := 2147481599) (h_sub := rfl) ..) ?_ | with_reducible refine memOk_of_hide (jobDataError_hide (m := 2147481599) (h_sub := rfl) ..) ?_ | with_reducible refine memOk_of_hide (dcmpEcc_hide (m := 2147481599) (h_sub := rfl) ..) ?_ | with_reducible refine memOk_of_hide (endClosed_hide (m := 2147481599) (h_sub := rfl) ..) ?_ | with_reducible refine memOk_of_hide (incCnt_hide (m := 2147481599) (h_sub := rfl) ..) ?_ | with_reducible refine memOk_of_hide (raiseBit_hide (m := 2147481599) (h_sub := rfl) ..) ?_ | with_reducible refine memOk_of_hide (endOpen_hide (m := 2147481599) (h_sub := rfl) ..) ?_ | with_reducible apply memOk_foldl | with_reducible apply memOk_foldl_fst | with_reducible apply memOk_foldr | split)

/-! Host -/

theorem moveHead_memOk (s : State) (n : Nat) (hs : s.memOk) : (moveHead s n).memOk := by unfold moveHead; repeat' (first | with_reducible assumption | intro _ | with_reducible apply memOk_ite | with_reducible apply memOk_ite_fst | with_reducible refine memOk_of_hide (wrF_hide (m := 2147481599) (h_sub := rfl) ..) ?_ | with_reducible apply putHost_memOk | with_reducible apply memOk_foldl | with_reducible apply memOk_foldl_fst | with_reducible apply memOk_foldr | split)
theorem writeCompletion_memOk (s : State) (f : Completion) (hs : s.memOk) : (writeCompletion s f).memOk := by unfold writeCompletion; repeat' (first | with_reducible assumption | intro _ | with_reducible apply memOk_ite | with_reducible apply memOk_ite_fst | with_reducible apply putHost_memOk | with_reducible refine memOk_of_hide (wrF_hide (m := 2147481599) (h_sub := rfl) ..) ?_ | with_reducible refine memOk_of_hide (setCqSt_hide (m := 2147481599) (h_sub := rfl) ..) ?_ | with_reducible refine memOk_of_hide (pairOff_hide (m := 2147481599) (h_sub := rfl) ..) ?_ | with_reducible refine memOk_of_hide (posted_hide (m := 2147481599) (h_sub := rfl) ..) ?_ | with_reducible apply memOk_modCmd | with_reducible apply memOk_foldl | with_reducible apply memOk_foldl_fst | with_reducible apply memOk_foldr | split)
theorem completionWrite_memOk (s0 : State) (cid : BitVec 16) (hs : s0.memOk) : (completionWrite s0 cid).memOk := by unfold completionWrite; dsimp only; repeat' (first | with_reducible assumption | intro _ | with_reducible apply memOk_ite | with_reducible apply memOk_ite_fst | with_reducible apply readoutDone_memOk | with_reducible refine memOk_of_hide (raiseBit_hide (m := 2147481599) (h_sub := rfl) ..) ?_ | with_reducible apply writeCompletion_memOk | with_reducible apply memOk_foldl | with_reducible apply memOk_foldl_fst | with_reducible apply memOk_foldr | split)

/-! Memory -/

theorem memOk_modMem_same {s : State} {f : MemSt → MemSt} (hs : s.memOk)
    (hf : ∀ m, (f m).hbm = m.hbm ∧ (f m).scratch = m.scratch ∧ (f m).host = m.host) : (s.modMem f).memOk := by
  refine memOk_modMem hs (fun m h => ?_)
  obtain ⟨h1, h2, h3⟩ := hf m
  unfold MemSt.wf at h ⊢; rw [h1, h2, h3]; exact h
theorem failRow_same (r b w : Nat) (m : MemSt) :
    (failRow r b w m).hbm = m.hbm ∧ (failRow r b w m).scratch = m.scratch ∧ (failRow r b w m).host = m.host := by
  unfold failRow; split <;> exact ⟨rfl, rfl, rfl⟩
theorem readUe_memOk (s : State) (r b w : Nat) (hs : s.memOk) : (readUe s r b w).memOk := by
  unfold readUe
  refine memOk_of_hide (incCnt_hide (m := 2147481599) (h_sub := rfl) ..) (memOk_of_hide (raiseErr_hide (m := 2147481599) (h_sub := rfl) ..) ?_)
  exact memOk_modMem_same (memOk_of_hide (memLoc_hide (m := 2147481599) (h_sub := rfl) ..) hs) (failRow_same r b w)

theorem noteRowCe_memOk (s : State) (r b w : Nat) (hs : s.memOk) : (noteRowCe s r b w).memOk := by
  unfold noteRowCe; refine memOk_modMem_same hs (fun m => ?_); dsimp only; split
  · exact failRow_same r b w _
  · exact ⟨rfl, rfl, rfl⟩

theorem readCe_memOk (s : State) (r b w : Nat) (hs : s.memOk) : (readCe s r b w).memOk := by
  have h1 (c : Tab (List Time)) (n : Nat) : (incCnt ((noteRowCe (memLoc s r b w 1) r b w).modMem (fun m => { m with ceWin := c })) n 1).memOk :=
    memOk_of_hide (incCnt_hide (m := 2147481599) (h_sub := rfl) ..) (memOk_modMem_same (noteRowCe_memOk _ _ _ _ (memOk_of_hide (memLoc_hide (m := 2147481599) (h_sub := rfl) ..) hs)) (fun _ => ⟨rfl, rfl, rfl⟩))
  unfold readCe; dsimp only
  refine memOk_ite (memOk_of_hide (precursor_hide (m := 2147481599) (h_sub := rfl) ..) (memOk_of_hide (logThreshold_hide _ _ _ _ _ (m := 2147481599) (h_sub := rfl)) (memOk_of_hide (raiseBit_hide (m := 2147481599) (h_sub := rfl) ..) (h1 _ _)))) (h1 _ _)

theorem putWord_memOk (s : State) (r b w v : Nat) (hs : s.memOk) : (putWord s r b w v).memOk := by
  obtain ⟨h1, h2, h3⟩ := (MemSt.wf_iff _).1 hs
  unfold putWord
  refine memOk_ite hs ?_
  exact memOk_setMem ((MemSt.wf_iff _).2 ⟨h1, memWf_memWrite _ _ _ h2, h3⟩)

theorem hostWord_memOk (m : Merge) (s : State) (r : Nat) (b : Nat) (w : Nat) (v : BitVec 64) (portA : Option (BitVec 64)) (hs : s.memOk) : (hostWord m s r b w v portA).memOk := by unfold hostWord; repeat' (first | with_reducible assumption | intro _ | with_reducible apply memOk_ite | with_reducible apply memOk_ite_fst | with_reducible refine memOk_of_hide (offAccess_hide (m := 2147481599) (h_sub := rfl) ..) ?_ | with_reducible apply putWord_memOk | with_reducible refine memOk_of_hide (raiseBit_hide (m := 2147481599) (h_sub := rfl) ..) ?_ | with_reducible refine memOk_of_hide (memLoc_hide (m := 2147481599) (h_sub := rfl) ..) ?_ | with_reducible refine memOk_of_hide (incCnt_hide (m := 2147481599) (h_sub := rfl) ..) ?_ | with_reducible apply memOk_foldl | with_reducible apply memOk_foldl_fst | with_reducible apply memOk_foldr | split)
theorem apertureWrite_memOk (m : Merge) (s0 : State) (off : Nat) (x : Nat) (bs : List Byte) (portA : Option (BitVec 64)) (rivals : List (BitVec 3)) (hs : s0.memOk) : (apertureWrite m s0 off x bs portA rivals).memOk := by unfold apertureWrite; repeat' (first | with_reducible assumption | intro _ | with_reducible apply memOk_ite | with_reducible apply memOk_ite_fst | with_reducible refine memOk_of_hide (urSent_hide (m := 2147481599) (h_sub := rfl) ..) ?_ | with_reducible refine memOk_of_hide (awaitPort_hide (m := 2147481599) (h_sub := rfl) ..) ?_ | with_reducible refine memOk_of_hide (wdrop_hide (m := 2147481599) (h_sub := rfl) ..) ?_ | with_reducible apply hostWord_memOk | with_reducible apply memOk_foldl | with_reducible apply memOk_foldl_fst | with_reducible apply memOk_foldr | split)
theorem hbmWrite_memOk (s : State) (off : Nat) (bs : List Byte) (hs : s.memOk) : (hbmWrite s off bs).memOk := by unfold hbmWrite; repeat' (first | with_reducible assumption | intro _ | with_reducible apply memOk_ite | with_reducible apply memOk_ite_fst | with_reducible refine memOk_of_hide (urSent_hide (m := 2147481599) (h_sub := rfl) ..) ?_ | with_reducible refine memOk_of_hide (wdrop_hide (m := 2147481599) (h_sub := rfl) ..) ?_ | with_reducible apply putHbm_memOk | with_reducible refine memOk_of_hide (wakeStacks_hide (m := 2147481599) (h_sub := rfl) ..) ?_ | with_reducible apply memOk_foldl | with_reducible apply memOk_foldl_fst | with_reducible apply memOk_foldr | split)
theorem bar2Put_memOk (s : State) (off : Nat) (bs : List Byte) (portA : Option (BitVec 64)) (rivals : List (BitVec 3)) (hs : s.memOk) : (bar2Put s off bs portA rivals).memOk := by unfold bar2Put; repeat' (first | with_reducible assumption | intro _ | with_reducible apply memOk_ite | with_reducible apply memOk_ite_fst | with_reducible apply hbmWrite_memOk | with_reducible apply apertureWrite_memOk | with_reducible refine memOk_of_hide (urSent_hide (m := 2147481599) (h_sub := rfl) ..) ?_ | with_reducible apply memOk_foldl | with_reducible apply memOk_foldl_fst | with_reducible apply memOk_foldr | split)
theorem apertureRead_memOk (s0 : State) (x n : Nat) (rivals : List (BitVec 3)) (hs : s0.memOk) : (apertureRead s0 x n rivals).memOk := by
  have h : (awaitPort s0 x false rivals).memOk := memOk_of_hide (awaitPort_hide (m := 2147481599) (h_sub := rfl) ..) hs
  unfold apertureRead
  generalize awaitPort s0 x false rivals = s at h ⊢
  dsimp only
  split
  · exact memOk_setReply (memOk_of_hide (urSent_hide (m := 2147481599) (h_sub := rfl) ..) h)
  · refine memOk_ite (memOk_setReply (memOk_of_hide (urSent_hide (m := 2147481599) (h_sub := rfl) ..) h)) ?_
    split
    · exact memOk_setReply (memOk_of_hide (urSent_hide (m := 2147481599) (h_sub := rfl) ..) (memOk_of_hide (offAccess_hide (m := 2147481599) (h_sub := rfl) ..) h))
    · exact memOk_setReply (memOk_foldl _ (fun s p hs => readUe_memOk _ _ _ _ hs) _ _ h)

theorem scrubPass_memOk (s : State) (r b : Nat) (hs : s.memOk) : (scrubPass s r b).memOk := by
  unfold scrubPass
  refine memOk_ite hs ?_
  dsimp only
  refine memOk_ite ?_ ?_
  · exact memOk_of_hide (raiseBit_hide (m := 2147481599) (h_sub := rfl) ..) (memOk_modMem_same hs (fun _ => ⟨rfl, rfl, rfl⟩))
  · exact memOk_modMem_same hs (fun _ => ⟨rfl, rfl, rfl⟩)

theorem flockWordErr_memOk (w err : Nat) (s : State) (hs : s.memOk) : (flockWordErr w err s).memOk := by
  unfold flockWordErr
  exact memOk_ite (readCe_memOk _ _ _ _ hs) (memOk_ite (readUe_memOk _ _ _ _ (memOk_ite (memOk_setFlock hs) hs)) hs)

theorem hbmPageRemap_memOk (s : State) (k : Nat) (p : Nat) (hs : s.memOk) : (hbmPageRemap s k p).memOk := by unfold hbmPageRemap; repeat' (first | with_reducible assumption | intro _ | with_reducible apply memOk_ite | with_reducible apply memOk_ite_fst | with_reducible refine memOk_of_hide (raiseBit_hide (m := 2147481599) (h_sub := rfl) ..) ?_ | with_reducible apply settleHbm_memOk | with_reducible refine memOk_of_hide (wearAdd_hide (m := 2147481599) (h_sub := rfl) ..) ?_ | with_reducible refine memOk_of_hide (raiseErr_hide (m := 2147481599) (h_sub := rfl) ..) ?_ | with_reducible refine memOk_of_hide (wrF_hide (m := 2147481599) (h_sub := rfl) ..) ?_ | with_reducible refine memOk_of_hide (precursor_hide (m := 2147481599) (h_sub := rfl) ..) ?_ | with_reducible apply memOk_modShep | with_reducible apply memOk_foldl | with_reducible apply memOk_foldl_fst | with_reducible apply memOk_foldr | split)
theorem stackLose_memOk (s : State) (n : Nat) (hs : s.memOk) : (stackLose s n).memOk := by
  unfold stackLose; dsimp only
  apply memOk_modPgen; apply memOk_modLog; apply memOk_modDeck; apply memOk_modComp
  refine memOk_modMem hs (fun m h => ?_)
  obtain ⟨h1, h2, h3⟩ := (MemSt.wf_iff _).1 h
  exact (MemSt.wf_iff _).2 ⟨memWf_memErase _ _ _ h1, h2, h3⟩

theorem unitArrives_memOk (s : State) (k : Nat) (v : Nat) (hs : s.memOk) : (unitArrives s k v).memOk := by unfold unitArrives; repeat' (first | with_reducible assumption | intro _ | with_reducible apply memOk_ite | with_reducible apply memOk_ite_fst | with_reducible refine memOk_of_hide (setStack_hide (m := 2147481599) (h_sub := rfl) ..) ?_ | with_reducible refine memOk_of_hide (raiseBit_hide (m := 2147481599) (h_sub := rfl) ..) ?_ | with_reducible apply stackLose_memOk | with_reducible apply setBank_memOk | with_reducible apply memOk_foldl | with_reducible apply memOk_foldl_fst | with_reducible apply memOk_foldr | split)
theorem memPowerBody_memOk (h : CmdHdr) (target : Byte) (state : Byte) (region : Byte) (mask : BitVec 64) (s : State) (hs : s.memOk) : (memPowerBody h target state region mask s).memOk := by unfold memPowerBody; repeat' (first | with_reducible assumption | intro _ | with_reducible apply memOk_ite | with_reducible apply memOk_ite_fst | with_reducible refine memOk_of_hide (refuse_hide (m := 2147481599) (h_sub := rfl) ..) ?_ | with_reducible refine memOk_of_hide (raiseBit_hide (m := 2147481599) (h_sub := rfl) ..) ?_ | with_reducible refine memOk_of_hide (finish_hide (m := 2147481599) (h_sub := rfl) ..) ?_ | with_reducible refine memOk_of_hide (setStack_hide (m := 2147481599) (h_sub := rfl) ..) ?_ | with_reducible apply setBank_memOk | with_reducible refine memOk_of_hide (keepRunning_hide (m := 2147481599) (h_sub := rfl) ..) ?_ | with_reducible apply memOk_modPwr | with_reducible apply memOk_foldl | with_reducible apply memOk_foldl_fst | with_reducible apply memOk_foldr | split)

/-! Sideband -/

theorem sbFrame_memOk (s : State) (g : Nat) (t : Byte) (f : SbFrame) (body : State → State) (h_body : ∀ s, s.memOk → (body s).memOk) (hs : s.memOk) : (sbFrame s g t f body).memOk := by unfold sbFrame; repeat' (first | with_reducible assumption | intro _ | with_reducible apply memOk_ite | with_reducible apply memOk_ite_fst | with_reducible apply h_body | with_reducible refine memOk_of_hide (raiseBit_hide (m := 2147481599) (h_sub := rfl) ..) ?_ | with_reducible refine memOk_of_hide (incCnt_hide (m := 2147481599) (h_sub := rfl) ..) ?_ | with_reducible refine memOk_of_hide (pumpSb_hide (m := 2147481599) (h_sub := rfl) ..) ?_ | with_reducible refine memOk_of_hide (modLk_hide (m := 2147481599) (h_sub := rfl) ..) ?_ | with_reducible refine memOk_of_hide (sbLost_hide (m := 2147481599) (h_sub := rfl) ..) ?_ | with_reducible apply memOk_foldl | with_reducible apply memOk_foldl_fst | with_reducible apply memOk_foldr | split)

/-! LinkCmd -/

theorem eyeScanBody_memOk (h : CmdHdr) (p : EyeParams) (s : State) (hs : s.memOk) : (eyeScanBody h p s).memOk := by unfold eyeScanBody; repeat' (first | with_reducible assumption | intro _ | with_reducible apply memOk_ite | with_reducible apply memOk_ite_fst | with_reducible refine memOk_of_hide (refuse_hide (m := 2147481599) (h_sub := rfl) ..) ?_ | with_reducible refine memOk_of_hide (scanPoints_hide (m := 2147481599) (h_sub := rfl) ..) ?_ | with_reducible refine memOk_of_hide (finish_hide (m := 2147481599) (h_sub := rfl) ..) ?_ | with_reducible apply deliver_memOk | with_reducible apply memOk_foldl | with_reducible apply memOk_foldl_fst | with_reducible apply memOk_foldr | split)

/-! Halt -/

theorem stopCapture_memOk (s : State) (hs : s.memOk) : (stopCapture s).memOk := by unfold stopCapture; repeat' (first | with_reducible assumption | intro _ | with_reducible apply memOk_ite | with_reducible apply memOk_ite_fst | with_reducible refine memOk_of_hide (handsIdle_hide (m := 2147481599) (h_sub := rfl) ..) ?_ | with_reducible refine memOk_of_hide (disarmGroup_hide (m := 2147481599) (h_sub := rfl) ..) ?_ | with_reducible apply settleAll_memOk | with_reducible apply memOk_foldl | with_reducible apply memOk_foldl_fst | with_reducible apply memOk_foldr | split)
theorem enterClassF_memOk (s : State) (hs : s.memOk) : (enterClassF s).memOk := by unfold enterClassF; repeat' (first | with_reducible assumption | intro _ | with_reducible apply memOk_ite | with_reducible apply memOk_ite_fst | with_reducible refine memOk_of_hide (raiseErr_hide (m := 2147481599) (h_sub := rfl) ..) ?_ | with_reducible refine memOk_of_hide (stopPlayback_hide (m := 2147481599) (h_sub := rfl) ..) ?_ | with_reducible apply stopCapture_memOk | with_reducible apply memOk_modPwr | with_reducible apply memOk_foldl | with_reducible apply memOk_foldl_fst | with_reducible apply memOk_foldr | split)

/-! Upkeep -/

theorem spareStatusBody_memOk (h : CmdHdr) (dest : BitVec 64) (s : State) (hs : s.memOk) : (spareStatusBody h dest s).memOk := by unfold spareStatusBody; repeat' (first | with_reducible assumption | intro _ | with_reducible apply memOk_ite | with_reducible apply memOk_ite_fst | with_reducible refine memOk_of_hide (finish_hide (m := 2147481599) (h_sub := rfl) ..) ?_ | with_reducible apply deliver_memOk | with_reducible apply memOk_foldl | with_reducible apply memOk_foldl_fst | with_reducible apply memOk_foldr | split)
theorem wearForecastBody_memOk (h : CmdHdr) (dest : BitVec 64) (s : State) (hs : s.memOk) : (wearForecastBody h dest s).memOk := by
  unfold wearForecastBody; dsimp only
  refine memOk_of_hide (finish_hide (m := 2147481599) (h_sub := rfl) ..) (deliver_memOk _ _ _ ?_)
  exact memOk_of_hide (forecastRecs_hide (m := 2147481599) (h_sub := rfl) ..) hs

theorem shepherdLost_memOk (s : State) (hs : s.memOk) : (shepherdLost s).memOk := by unfold shepherdLost; repeat' (first | with_reducible assumption | intro _ | with_reducible apply memOk_ite | with_reducible apply memOk_ite_fst | with_reducible apply enterClassF_memOk | with_reducible apply memOk_modShep | with_reducible apply memOk_foldl | with_reducible apply memOk_foldl_fst | with_reducible apply memOk_foldr | split)

/-! Security -/

theorem zeroScratch_memOk (s : State) (lo hi : Nat) (hs : s.memOk) : (zeroScratch s lo hi).memOk := by
  refine memOk_modMem hs (fun m h => ?_)
  obtain ⟨h1, h2, h3⟩ := (MemSt.wf_iff _).1 h
  exact (MemSt.wf_iff _).2 ⟨h1, memWf_memErase _ _ _ h2, h3⟩

theorem wipeSecure_memOk (s : State) (hs : s.memOk) : (wipeSecure s).memOk := by unfold wipeSecure; repeat' (first | with_reducible assumption | intro _ | with_reducible apply memOk_ite | with_reducible apply memOk_ite_fst | with_reducible apply zeroScratch_memOk | with_reducible apply memOk_modSec | with_reducible apply memOk_foldl | with_reducible apply memOk_foldl_fst | with_reducible apply memOk_foldr | split)
theorem loadItem_memOk (s : State) (slot kind : Nat) (bs : List Byte) (hs : s.memOk) : (loadItem s slot kind bs).memOk := by
  have hw (x : State) (a : Nat) (w : List Byte) (hx : x.memOk) : (x.modMem (fun m => { m with scratch := memWrite m.scratch a w })).memOk := by
    refine memOk_modMem hx (fun m h => ?_)
    obtain ⟨h1, h2, h3⟩ := (MemSt.wf_iff _).1 h
    exact (MemSt.wf_iff _).2 ⟨h1, memWf_memWrite _ _ _ h2, h3⟩
  unfold loadItem
  refine memOk_ite hs (memOk_ite ?_ ?_)
  · exact memOk_of_hide (hide_modSec (m := 2147481599) _ _ rfl (fun _ => ⟨rfl, rfl⟩)) (hw _ _ _ (zeroScratch_memOk _ _ _ hs))
  · exact hw _ _ _ (zeroScratch_memOk _ _ _ hs)

theorem unsealStore_memOk (s : State) (hs : s.memOk) : (unsealStore s).memOk := by unfold unsealStore; repeat' (first | with_reducible assumption | intro _ | with_reducible apply memOk_ite | with_reducible apply memOk_ite_fst | with_reducible apply loadItem_memOk | with_reducible refine memOk_of_hide (raiseBit_hide (m := 2147481599) (h_sub := rfl) ..) ?_ | with_reducible apply memOk_modSec | with_reducible apply memOk_foldl | with_reducible apply memOk_foldl_fst | with_reducible apply memOk_foldr | split)
theorem keyProvisionBody_memOk (h : CmdHdr) (slot : Byte) (kind : Byte) (len : BitVec 32) (src : BitVec 64) (s : State) (hs : s.memOk) : (keyProvisionBody h slot kind len src s).memOk := by unfold keyProvisionBody; repeat' (first | with_reducible assumption | intro _ | with_reducible apply memOk_ite | with_reducible apply memOk_ite_fst | with_reducible refine memOk_of_hide (refuse_hide (m := 2147481599) (h_sub := rfl) ..) ?_ | with_reducible refine memOk_of_hide (raiseBit_hide (m := 2147481599) (h_sub := rfl) ..) ?_ | with_reducible refine memOk_of_hide (finish_hide (m := 2147481599) (h_sub := rfl) ..) ?_ | with_reducible refine memOk_of_hide (logSecurity_hide (m := 2147481599) (h_sub := rfl) ..) ?_ | with_reducible apply loadItem_memOk | with_reducible apply memOk_modSec | with_reducible apply memOk_foldl | with_reducible apply memOk_foldl_fst | with_reducible apply memOk_foldr | split)
theorem lifecycleAdvanceBody_memOk (h : CmdHdr) (target : Nat) (len : BitVec 32) (src : BitVec 64) (s : State) (hs : s.memOk) : (lifecycleAdvanceBody h target len src s).memOk := by unfold lifecycleAdvanceBody; repeat' (first | with_reducible assumption | intro _ | with_reducible apply memOk_ite | with_reducible apply memOk_ite_fst | with_reducible refine memOk_of_hide (refuse_hide (m := 2147481599) (h_sub := rfl) ..) ?_ | with_reducible refine memOk_of_hide (newNonce_hide (m := 2147481599) (h_sub := rfl) ..) ?_ | with_reducible refine memOk_of_hide (raiseBit_hide (m := 2147481599) (h_sub := rfl) ..) ?_ | with_reducible apply wipeSecure_memOk | with_reducible refine memOk_of_hide (finish_hide (m := 2147481599) (h_sub := rfl) ..) ?_ | with_reducible refine memOk_of_hide (logSecurity_hide (m := 2147481599) (h_sub := rfl) ..) ?_ | with_reducible refine memOk_of_hide (raise_hide (m := 2147481599) (h_sub := rfl) ..) ?_ | with_reducible apply memOk_modSec | with_reducible apply memOk_foldl | with_reducible apply memOk_foldl_fst | with_reducible apply memOk_foldr | split)
theorem wipeFolds_memOk (s : State) (hs : s.memOk) : (wipeFolds s).memOk := by
  unfold wipeFolds; dsimp only
  apply memOk_modPgen
  refine memOk_modMem hs (fun m h => ?_)
  obtain ⟨h1, h2, h3⟩ := (MemSt.wf_iff _).1 h
  exact (MemSt.wf_iff _).2 ⟨memWf_filter _ _ h1, h2, h3⟩

theorem wipeScratch_memOk (s : State) (hs : s.memOk) : (wipeScratch s).memOk := by unfold wipeScratch; repeat' (first | with_reducible assumption | intro _ | with_reducible apply memOk_ite | with_reducible apply memOk_ite_fst | with_reducible apply zeroScratch_memOk | with_reducible apply memOk_foldl | with_reducible apply memOk_foldl_fst | with_reducible apply memOk_foldr | split)
theorem wipeBody_memOk (h : CmdHdr) (scope : Byte) (s : State) (hs : s.memOk) : (wipeBody h scope s).memOk := by unfold wipeBody; repeat' (first | with_reducible assumption | intro _ | with_reducible apply memOk_ite | with_reducible apply memOk_ite_fst | with_reducible refine memOk_of_hide (refuse_hide (m := 2147481599) (h_sub := rfl) ..) ?_ | with_reducible refine memOk_of_hide (raiseBit_hide (m := 2147481599) (h_sub := rfl) ..) ?_ | with_reducible apply wipeSecure_memOk | with_reducible apply wipeFolds_memOk | with_reducible apply wipeScratch_memOk | with_reducible refine memOk_of_hide (finish_hide (m := 2147481599) (h_sub := rfl) ..) ?_ | with_reducible refine memOk_of_hide (logSecurity_hide (m := 2147481599) (h_sub := rfl) ..) ?_ | with_reducible apply memOk_modSec | with_reducible apply memOk_foldl | with_reducible apply memOk_foldl_fst | with_reducible apply memOk_foldr | split)

/-! Power -/

theorem porState_memOk (s : State) (cause : Nat) (hs : s.memOk) : (porState s cause).memOk := by
  obtain ⟨h1, h2, h3⟩ := (MemSt.wf_iff _).1 hs
  unfold porState
  refine memOk_foldl _ (fun r n hr => memOk_of_hide (wrF_hide (m := 2147481599) (h_sub := rfl) ..) hr) _ _ ?_
  exact (MemSt.wf_iff _).2 ⟨rfl, rfl, h3⟩

theorem boot_memOk (s : State) (image : Bool) (retry : BitVec 4) (hs : s.memOk) : (boot s image retry).memOk := by unfold boot; repeat' (first | with_reducible assumption | intro _ | with_reducible apply memOk_ite | with_reducible apply memOk_ite_fst | with_reducible apply unsealStore_memOk | with_reducible refine memOk_of_hide (hbmReady_hide (m := 2147481599) (h_sub := rfl) ..) ?_ | with_reducible refine memOk_of_hide (wrF_hide (m := 2147481599) (h_sub := rfl) ..) ?_ | with_reducible refine memOk_of_hide (raiseBit_hide (m := 2147481599) (h_sub := rfl) ..) ?_ | with_reducible apply shepherdLost_memOk | with_reducible apply memOk_modPwr | with_reducible apply memOk_modShep | with_reducible apply memOk_foldl | with_reducible apply memOk_foldl_fst | with_reducible apply memOk_foldr | split)
theorem coreState_memOk (s : State) (hs : s.memOk) : (coreState s).memOk := by
  obtain ⟨h1, h2, h3⟩ := (MemSt.wf_iff _).1 hs
  exact (MemSt.wf_iff _).2 ⟨h1, memWf_filter _ _ h2, h3⟩

theorem coreReset_memOk (s : State) (low : BitVec 12) (hs : s.memOk) : (coreReset s low).memOk := by
  have h1 : (coreState (stopPlayback (stopCapture (abortAll s)))).memOk :=
    coreState_memOk _ (memOk_of_hide (stopPlayback_hide (m := 2147481599) (h_sub := rfl) ..)
      (stopCapture_memOk _ (memOk_of_hide (abortAll_hide (m := 2147481599) (h_sub := rfl) ..) hs)))
  have h2 (s2 : State) (k : s2.memOk) : (raiseBit (wrF (unsealStore ((List.range 8).foldl (fun s d => wrF s (Reg.DROV_STATE d) 31 0 0) (resetPower s2)))
      Reg.CHIP_RESET_CAUSE 2 2 1) Reg.CHIP_PWR_STATUS 13).memOk := by
    refine memOk_of_hide (raiseBit_hide (m := 2147481599) (h_sub := rfl) ..) (memOk_of_hide (wrF_hide (m := 2147481599) (h_sub := rfl) ..) (unsealStore_memOk _ ?_))
    refine memOk_foldl _ (fun r n hr => memOk_of_hide (wrF_hide (m := 2147481599) (h_sub := rfl) ..) hr) _ _ ?_
    exact memOk_of_hide (resetPower_hide (m := 2147481599) (h_sub := rfl) ..) k
  unfold coreReset
  refine memOk_ite (h2 _ ?_) (enterClassF_memOk _ (h2 _ ?_)) <;> split
  · exact h1
  · exact memOk_modShep (memOk_of_hide (setCores_hide (m := 2147481599) (h_sub := rfl) ..) h1)
  · exact h1
  · exact memOk_modShep (memOk_of_hide (setCores_hide (m := 2147481599) (h_sub := rfl) ..) h1)

theorem runWaking_memOk (s : State) (i : Instr) (hs : s.memOk) : (runWaking s i).memOk := by
  cases i
  case arm h groups mode sa =>
    exact wakeCmd_memOk _ _ _ (fun s k => memOk_ite (memOk_of_hide (refuse_hide (m := 2147481599) (h_sub := rfl) ..) k) (armBody_memOk _ _ _ _ _ k)) hs
  case deckActivate h slot => exact wakeCmd_memOk _ _ _ (fun s k => memOk_ite (memOk_of_hide (refuse_hide (m := 2147481599) (h_sub := rfl) ..) k) (deckActivateBody_memOk _ _ _ k)) hs
  case deckRedeal h slot groups timeout =>
    exact wakeCmd_memOk _ _ _ (fun s k => memOk_ite (memOk_of_hide (refuse_hide (m := 2147481599) (h_sub := rfl) ..) k) (memOk_of_hide (deckRedealBody_hide (m := 2147481599) (h_sub := rfl) ..) k)) hs
  case patternPlay h p =>
    exact wakeCmd_memOk _ _ _ (fun s k => memOk_ite (memOk_of_hide (refuse_hide (m := 2147481599) (h_sub := rfl) ..) k) (memOk_of_hide (patternPlayBody_hide (m := 2147481599) (h_sub := rfl) ..) k)) hs
  all_goals exact hs

/-! Regs -/

theorem storeReg_memOk (s : State) (o : Nat) (w : Word) (low : BitVec 12) (hs : s.memOk) : (storeReg s o w low).memOk := by
  unfold storeReg; dsimp only
  refine memOk_ite (memOk_of_hide (ctrlWrite_hide (m := 2147481599) (h_sub := rfl) ..) hs) ?_
  refine memOk_ite (memOk_of_hide (ownerChange_hide (m := 2147481599) (h_sub := rfl) ..) hs) ?_
  refine memOk_ite (memOk_ite (coreReset_memOk _ _ hs) hs) ?_
  refine memOk_ite (memOk_of_hide (pwrCtrlWrite_hide (m := 2147481599) (h_sub := rfl) ..) hs) ?_
  refine memOk_ite (memOk_of_hide (shepCtrlWrite_hide (m := 2147481599) (h_sub := rfl) ..) hs) ?_
  refine memOk_ite (memOk_of_hide (withRegs_hide (m := 2147481599) (h_sub := rfl) ..) hs) ?_
  refine memOk_ite (memOk_of_hide (withRegs_hide (m := 2147481599) (h_sub := rfl) ..) hs) ?_
  refine memOk_ite (memOk_of_hide (dacStage_hide (m := 2147481599) (h_sub := rfl) ..) hs) ?_
  refine memOk_ite (memOk_of_hide (ftwWrite_hide (m := 2147481599) (h_sub := rfl) ..) hs) ?_
  refine memOk_ite (memOk_of_hide (ftwWrite_hide (m := 2147481599) (h_sub := rfl) ..) hs) ?_
  have hw (o : Nat) : (wr s o w).memOk := memOk_of_hide (wr_hide (m := 2147481599) (h_sub := rfl) ..) hs
  exact memOk_ite (memOk_of_hide (testChanged_hide (m := 2147481599) (h_sub := rfl) ..) (hw _)) (hw _)

theorem sqcWrite_memOk (m : Master) (s : State) (o flags : Nat) (v : Word) (hs : s.memOk) : (sqcWrite m s o flags v).memOk := by
  have h1 (x : Tab Word) : (withRegs s x).memOk := memOk_of_hide (withRegs_hide (m := 2147481599) (h_sub := rfl) ..) hs
  unfold sqcWrite; dsimp only
  refine memOk_ite (memOk_of_hide (raiseBit_hide (m := 2147481599) (h_sub := rfl) ..) (memOk_of_hide (capture_hide (m := 2147481599) (h_sub := rfl) ..) hs)) ?_
  refine memOk_ite (h1 _) (memOk_ite (memOk_of_hide (setCq_hide (m := 2147481599) (h_sub := rfl) ..) (h1 _)) (memOk_ite ?_ (h1 _)))
  exact memOk_modMem_same (h1 _) (fun _ => ⟨rfl, rfl, rfl⟩)

theorem fieldWrite_memOk (m : Master) (s : State) (o : Nat) (fs : List FieldD) (v0 : Word) (low : BitVec 12) (hs : s.memOk) :
    (fieldWrite m s o fs v0 low).memOk := by
  have h1 (x : State) (p : Nat) (hx : x.memOk) : (wign m x p).memOk := memOk_of_hide (wign_hide (k := 2147481599) (h_sub := rfl) ..) hx
  have h0 (x : MasterSt) : (setMaster s m x).memOk := memOk_of_hide (setMaster_hide (k := 2147481599) (h_sub := rfl) ..) hs
  unfold fieldWrite; dsimp only
  refine memOk_ite hs (memOk_ite (memOk_of_hide (chipWign_hide (k := 2147481599) (h_sub := rfl) ..) hs) (memOk_ite ?_ ?_))
  · exact h1 _ _ (memOk_ite (h0 _) hs)
  · refine storeReg_memOk _ _ _ _ ?_
    refine memOk_foldl_fst _ (fun p f hp => memOk_of_hide (writeField_hide (m := 2147481599) (h_sub := rfl) ..) hp) _ _ ?_
    exact memOk_ite (h1 _ _ (memOk_ite (h0 _) hs)) (memOk_ite (h0 _) hs)

theorem applyWord_memOk (m : Master) (s : State) (o : Nat) (v : Word) (low : BitVec 12) (hs : s.memOk) : (applyWord m s o v low).memOk := by
  unfold applyWord; split
  · exact hs
  · refine memOk_ite (memOk_of_hide (unlockWrite_hide (k := 2147481599) (h_sub := rfl) ..) hs) ?_
    split
    · exact sqcWrite_memOk _ _ _ _ _ hs
    · exact fieldWrite_memOk _ _ _ _ _ _ hs

theorem write4_memOk (m : Master) (s : State) (o : Nat) (v : Word) (low : BitVec 12) (hs : s.memOk) : (write4 m s o v low).memOk := by
  unfold write4
  refine memOk_ite (memOk_of_hide (setMaster_hide (k := 2147481599) (h_sub := rfl) ..) hs) (memOk_ite ?_ (applyWord_memOk _ _ _ _ _ hs))
  split
  · exact applyWord_memOk _ _ _ _ _ (applyWord_memOk _ _ _ _ _ (memOk_of_hide (unstage_hide (k := 2147481599) (h_sub := rfl) ..) hs))
  · exact applyWord_memOk _ _ _ _ _ hs

theorem writeAccess_memOk (m : Master) (s : State) (off size be : Nat) (v : Nat) (low : BitVec 12) (hs : s.memOk) :
    (writeAccess m s off size be v low).memOk := by
  unfold writeAccess
  refine memOk_ite hs ?_
  split
  · exact memOk_of_hide (accessErr_hide (k := 2147481599) (h_sub := rfl) ..) hs
  · refine memOk_ite (memOk_of_hide (accessErr_hide (k := 2147481599) (h_sub := rfl) ..) hs) (memOk_ite (memOk_ite ?_ ?_) (write4_memOk _ _ _ _ _ hs))
    · exact applyWord_memOk _ _ _ _ _ (applyWord_memOk _ _ _ _ _ (memOk_of_hide (unstage_hide (k := 2147481599) (h_sub := rfl) ..) hs))
    · exact write4_memOk _ _ _ _ _ (write4_memOk _ _ _ _ _ hs)

theorem writeFull_memOk (m : Master) (s : State) (off : Nat) (v : Word) (hs : s.memOk) : (writeFull m s off v).memOk := by
  unfold writeFull; exact writeAccess_memOk _ _ _ _ _ _ _ hs

/-! Settle -/

theorem settleWith_memOk (s : State) (o : Nat) (on : State → State) (off : State → State) (start : State → State) (h_on : ∀ s, s.memOk → (on s).memOk) (h_off : ∀ s, s.memOk → (off s).memOk) (h_start : ∀ s, s.memOk → (start s).memOk) (hs : s.memOk) : (settleWith s o on off start).memOk := by unfold settleWith; repeat' (first | with_reducible assumption | intro _ | with_reducible apply memOk_ite | with_reducible apply memOk_ite_fst | with_reducible apply h_on | with_reducible apply h_off | with_reducible apply h_start | with_reducible refine memOk_of_hide (setBlkState_hide (m := 2147481599) (h_sub := rfl) ..) ?_ | with_reducible apply memOk_foldl | with_reducible apply memOk_foldl_fst | with_reducible apply memOk_foldr | split)

/-! Tick -/

theorem tickDeal_memOk (s : State) (hs : s.memOk) : (tickDeal s).memOk := by unfold tickDeal; repeat' (first | with_reducible assumption | intro _ | with_reducible apply memOk_ite | with_reducible apply memOk_ite_fst | with_reducible apply dealBoundary_memOk | with_reducible apply memOk_modDeck | with_reducible apply memOk_foldl | with_reducible apply memOk_foldl_fst | with_reducible apply memOk_foldr | split)
theorem tickRun_memOk (s : State) (a : Time) (b : Time) (hs : s.memOk) : (tickRun s a b).memOk := by unfold tickRun; repeat' (first | with_reducible assumption | intro _ | with_reducible apply memOk_ite | with_reducible apply memOk_ite_fst | with_reducible refine memOk_of_hide (syncOutPulse_hide (m := 2147481599) (h_sub := rfl) ..) ?_ | with_reducible refine memOk_of_hide (ddsCycles_hide (m := 2147481599) (h_sub := rfl) ..) ?_ | with_reducible refine memOk_of_hide (tickVoid_hide (m := 2147481599) (h_sub := rfl) ..) ?_ | with_reducible apply pumpAll_memOk | with_reducible refine memOk_of_hide (tickTx_hide (m := 2147481599) (h_sub := rfl) ..) ?_ | with_reducible refine memOk_of_hide (tickPlay_hide (m := 2147481599) (h_sub := rfl) ..) ?_ | with_reducible apply memOk_foldl | with_reducible apply memOk_foldl_fst | with_reducible apply memOk_foldr | split)
theorem tick_memOk (s : State) (hs : s.memOk) : (tick s).memOk := by unfold tick; repeat' (first | with_reducible assumption | intro _ | with_reducible apply memOk_ite | with_reducible apply memOk_ite_fst | with_reducible refine memOk_of_hide (tickSlot_hide (m := 2147481599) (h_sub := rfl) ..) ?_ | with_reducible refine memOk_of_hide (tickEngines_hide (m := 2147481599) (h_sub := rfl) ..) ?_ | with_reducible apply tickDeal_memOk | with_reducible refine memOk_of_hide (tickTrigOut_hide (m := 2147481599) (h_sub := rfl) ..) ?_ | with_reducible refine memOk_of_hide (tickSyncOut_hide (m := 2147481599) (h_sub := rfl) ..) ?_ | with_reducible refine memOk_of_hide (tickTime_hide (m := 2147481599) (h_sub := rfl) ..) ?_ | with_reducible apply tickRun_memOk | with_reducible apply memOk_foldl | with_reducible apply memOk_foldl_fst | with_reducible apply memOk_foldr | split)

end Sys2Proof.Machine
end

