-- ==== Sys2Proof/Laws/ExecMem.lean ====
section
/-!
SUPPORT. Every command that writes a memory keeps its canonical form.
-/

set_option linter.unusedVariables false
set_option linter.unusedTactic false
set_option linter.unreachableTactic false
namespace Sys2Proof.Machine

/-- Whether an outcome's next state has memories in canonical form. -/
def outMem : Host.Outcome State Fault Refusal → Prop
  | .next t => t.memOk
  | _ => True
theorem outMem_next {t : State} (h : t.memOk) : outMem (.next t) := h
theorem outMem_ite {c : Prop} [Decidable c] {a b : Host.Outcome State Fault Refusal} (ha : outMem a) (hb : outMem b) :
    outMem (if c then a else b) := by split <;> assumption
theorem outMem_of_frame {s : State} {o : Host.Outcome State Fault Refusal} (h : outHide 2147481599 o = some (s.hide 2147481599)) (hs : s.memOk) : outMem o := by
  cases o with
  | next t => exact memOk_of_hide (Option.some.inj h) hs
  | fault r => trivial
  | refused r => trivial
theorem execIdentify_memOk (h : CmdHdr) (dest : BitVec 64) (s : State) (hs : s.memOk) : outMem (execIdentify h dest s) := by unfold execIdentify; repeat' (first | with_reducible apply outMem_next | with_reducible apply outMem_ite | with_reducible apply startCmd_memOk | with_reducible assumption | intro _ | with_reducible apply memOk_ite | with_reducible apply memOk_ite_fst | with_reducible apply startCmd_memOk | with_reducible apply identifyBody_memOk | with_reducible apply memOk_foldl | with_reducible apply memOk_foldl_fst | with_reducible apply memOk_foldr | split)
theorem execGetLog_memOk (h : CmdHdr) (log : Byte) (max : BitVec 32) (fromSeq : BitVec 64) (dest : BitVec 64) (s : State) (hs : s.memOk) : outMem (execGetLog h log max fromSeq dest s) := by unfold execGetLog; repeat' (first | with_reducible apply outMem_next | with_reducible apply outMem_ite | with_reducible apply startCmd_memOk | with_reducible assumption | intro _ | with_reducible apply memOk_ite | with_reducible apply memOk_ite_fst | with_reducible apply startCmd_memOk | with_reducible apply getLogBody_memOk | with_reducible apply memOk_foldl | with_reducible apply memOk_foldl_fst | with_reducible apply memOk_foldr | split)
theorem execSegmentClose_memOk (g : Fin 16) (s : State) (hs : s.memOk) : outMem (execSegmentClose g s) := by unfold execSegmentClose; repeat' (first | with_reducible apply outMem_next | with_reducible apply outMem_ite | with_reducible assumption | intro _ | with_reducible apply memOk_ite | with_reducible apply memOk_ite_fst | with_reducible apply finishClose_memOk | with_reducible refine memOk_of_hide (endPost_hide (m := 2147481599) (h_sub := rfl) ..) ?_ | with_reducible apply memOk_foldl | with_reducible apply memOk_foldl_fst | with_reducible apply memOk_foldr | split)
theorem execHoldoffEnd_memOk (g : Fin 16) (s : State) (hs : s.memOk) : outMem (execHoldoffEnd g s) := by unfold execHoldoffEnd; repeat' (first | with_reducible apply outMem_next | with_reducible apply outMem_ite | with_reducible assumption | intro _ | with_reducible apply memOk_ite | with_reducible apply memOk_ite_fst | with_reducible apply reArm_memOk | with_reducible apply memOk_foldl | with_reducible apply memOk_foldl_fst | with_reducible apply memOk_foldr | split)
theorem execFoldOverflow_memOk (f : Fin 64) (cause : Byte) (so : Sample) (s : State) (hs : s.memOk) : outMem (execFoldOverflow f cause so s) := by unfold execFoldOverflow; repeat' (first | with_reducible apply outMem_next | with_reducible apply outMem_ite | with_reducible assumption | intro _ | with_reducible apply memOk_ite | with_reducible apply memOk_ite_fst | with_reducible apply settle_memOk | with_reducible apply stopOvf_memOk | with_reducible apply memOk_foldl | with_reducible apply memOk_foldl_fst | with_reducible apply memOk_foldr | split)
theorem execCapturePageStore_memOk (f : Fin 64) (inst : Nat) (unit : Nat) (s : State) (hs : s.memOk) : outMem (execCapturePageStore f inst unit s) := by unfold execCapturePageStore; repeat' (first | with_reducible apply outMem_next | with_reducible apply outMem_ite | with_reducible assumption | intro _ | with_reducible apply memOk_ite | with_reducible apply memOk_ite_fst | with_reducible apply storeUnit_memOk | with_reducible apply memOk_foldl | with_reducible apply memOk_foldl_fst | with_reducible apply memOk_foldr | split)
theorem execWindowRecord_memOk (f : Fin 64) (inst : Nat) (w : Nat) (s : State) (hs : s.memOk) : outMem (execWindowRecord f inst w s) := by unfold execWindowRecord; repeat' (first | with_reducible apply outMem_next | with_reducible apply outMem_ite | with_reducible assumption | intro _ | with_reducible apply memOk_ite | with_reducible apply memOk_ite_fst | with_reducible apply windowRecord_memOk | with_reducible apply memOk_foldl | with_reducible apply memOk_foldl_fst | with_reducible apply memOk_foldr | split)
theorem execCompressedBlockOut_memOk (e : Fin 64) (chk : EngineCheck) (s : State) (hs : s.memOk) : outMem (execCompressedBlockOut e chk s) := by
  unfold execCompressedBlockOut
  split
  · exact hs
  · exact outMem_ite hs (overflowed_memOk _ _ _ _ (compStep_memOk _ _ _ _ _ _ _ hs))

theorem execArm_memOk (h : CmdHdr) (groups : BitVec 16) (mode : Byte) (sa : Sample) (s : State) (hs : s.memOk) : outMem (execArm h groups mode sa s) := by unfold execArm; repeat' (first | with_reducible apply outMem_next | with_reducible apply outMem_ite | with_reducible apply startCmd_memOk | with_reducible assumption | intro _ | with_reducible apply memOk_ite | with_reducible apply memOk_ite_fst | with_reducible apply startCmd_memOk | with_reducible apply armBody_memOk | with_reducible apply memOk_foldl | with_reducible apply memOk_foldl_fst | with_reducible apply memOk_foldr | split)
theorem execDisarm_memOk (h : CmdHdr) (groups : BitVec 16) (sd : Sample) (s : State) (hs : s.memOk) : outMem (execDisarm h groups sd s) := by unfold execDisarm; repeat' (first | with_reducible apply outMem_next | with_reducible apply outMem_ite | with_reducible apply startCmd_memOk | with_reducible assumption | intro _ | with_reducible apply memOk_ite | with_reducible apply memOk_ite_fst | with_reducible apply startCmd_memOk | with_reducible apply disarmBody_memOk | with_reducible apply memOk_foldl | with_reducible apply memOk_foldl_fst | with_reducible apply memOk_foldr | split)
theorem execSetPost_memOk (h : CmdHdr) (group : Byte) (post : BitVec 64) (sc : Sample) (s : State) (hs : s.memOk) : outMem (execSetPost h group post sc s) := by unfold execSetPost; repeat' (first | with_reducible apply outMem_next | with_reducible apply outMem_ite | with_reducible apply startCmd_memOk | with_reducible assumption | intro _ | with_reducible apply memOk_ite | with_reducible apply memOk_ite_fst | with_reducible apply startCmd_memOk | with_reducible apply setPostBody_memOk | with_reducible apply memOk_foldl | with_reducible apply memOk_foldl_fst | with_reducible apply memOk_foldr | split)
theorem execFoldStatus_memOk (h : CmdHdr) (groups : BitVec 16) (dest : BitVec 64) (at_ : Sample) (s : State) (hs : s.memOk) : outMem (execFoldStatus h groups dest at_ s) := by unfold execFoldStatus; repeat' (first | with_reducible apply outMem_next | with_reducible apply outMem_ite | with_reducible apply startCmd_memOk | with_reducible assumption | intro _ | with_reducible apply memOk_ite | with_reducible apply memOk_ite_fst | with_reducible apply startCmd_memOk | with_reducible apply foldStatusBody_memOk | with_reducible apply memOk_foldl | with_reducible apply memOk_foldl_fst | with_reducible apply memOk_foldr | split)
theorem execTriggerAccept_memOk (g : Fin 16) (i : Sample) (s : State) (hs : s.memOk) : outMem (execTriggerAccept g i s) := by unfold execTriggerAccept; repeat' (first | with_reducible apply outMem_next | with_reducible apply outMem_ite | with_reducible assumption | intro _ | with_reducible apply memOk_ite | with_reducible apply memOk_ite_fst | with_reducible apply triggerAccept_memOk | with_reducible apply memOk_foldl | with_reducible apply memOk_foldl_fst | with_reducible apply memOk_foldr | split)
theorem execDeckActivate_memOk (h : CmdHdr) (slot : Byte) (s : State) (hs : s.memOk) : outMem (execDeckActivate h slot s) := by unfold execDeckActivate; repeat' (first | with_reducible apply outMem_next | with_reducible apply outMem_ite | with_reducible apply startCmd_memOk | with_reducible assumption | intro _ | with_reducible apply memOk_ite | with_reducible apply memOk_ite_fst | with_reducible apply startCmd_memOk | with_reducible apply deckActivateBody_memOk | with_reducible apply memOk_foldl | with_reducible apply memOk_foldl_fst | with_reducible apply memOk_foldr | split)
theorem execDeckRedealTimeout_memOk (s : State) (hs : s.memOk) : outMem (execDeckRedealTimeout s) := by unfold execDeckRedealTimeout; repeat' (first | with_reducible apply outMem_next | with_reducible apply outMem_ite | with_reducible assumption | intro _ | with_reducible apply memOk_ite | with_reducible apply memOk_ite_fst | with_reducible refine memOk_of_hide (endRun_hide (m := 2147481599) (h_sub := rfl) ..) ?_ | with_reducible apply rearmWaiting_memOk | with_reducible apply memOk_modDeck | with_reducible apply memOk_foldl | with_reducible apply memOk_foldl_fst | with_reducible apply memOk_foldr | split)
theorem execDealBoundary_memOk (u : BoundaryUpset) (s : State) (hs : s.memOk) : outMem (execDealBoundary s u) := by unfold execDealBoundary; repeat' (first | with_reducible apply outMem_next | with_reducible apply outMem_ite | with_reducible assumption | intro _ | with_reducible apply memOk_ite | with_reducible apply memOk_ite_fst | with_reducible apply dealBoundary_memOk | with_reducible apply memOk_foldl | with_reducible apply memOk_foldl_fst | with_reducible apply memOk_foldr | split)
theorem execMeasStopWindowEnd_memOk (u : Fin 4) (s : State) (hs : s.memOk) : outMem (execMeasStopWindowEnd u s) := by unfold execMeasStopWindowEnd; repeat' (first | with_reducible apply outMem_next | with_reducible apply outMem_ite | with_reducible assumption | intro _ | with_reducible apply memOk_ite | with_reducible apply memOk_ite_fst | with_reducible apply measWindowEnd_memOk | with_reducible apply memOk_foldl | with_reducible apply memOk_foldl_fst | with_reducible apply memOk_foldr | split)
theorem execMeasGateTimer_memOk (u : Fin 4) (s : State) (hs : s.memOk) : outMem (execMeasGateTimer u s) := by unfold execMeasGateTimer; repeat' (first | with_reducible apply outMem_next | with_reducible apply outMem_ite | with_reducible assumption | intro _ | with_reducible apply memOk_ite | with_reducible apply memOk_ite_fst | with_reducible apply measGateTimer_memOk | with_reducible apply memOk_foldl | with_reducible apply memOk_foldl_fst | with_reducible apply memOk_foldr | split)
theorem execMeasTimeout_memOk (u : Fin 4) (s : State) (hs : s.memOk) : outMem (execMeasTimeout u s) := by unfold execMeasTimeout; repeat' (first | with_reducible apply outMem_next | with_reducible apply outMem_ite | with_reducible assumption | intro _ | with_reducible apply memOk_ite | with_reducible apply memOk_ite_fst | with_reducible apply measTimeout_memOk | with_reducible apply memOk_foldl | with_reducible apply memOk_foldl_fst | with_reducible apply memOk_foldr | split)
theorem execMeasureInterval_memOk (h : CmdHdr) (p : IntervalParams) (s : State) (hs : s.memOk) : outMem (execMeasureInterval h p s) := by unfold execMeasureInterval; repeat' (first | with_reducible apply outMem_next | with_reducible apply outMem_ite | with_reducible apply startCmd_memOk | with_reducible assumption | intro _ | with_reducible apply memOk_ite | with_reducible apply memOk_ite_fst | with_reducible apply startCmd_memOk | with_reducible apply intervalBody_memOk | with_reducible apply memOk_foldl | with_reducible apply memOk_foldl_fst | with_reducible apply memOk_foldr | split)
theorem execMeasureFreq_memOk (h : CmdHdr) (p : FreqParams) (s : State) (hs : s.memOk) : outMem (execMeasureFreq h p s) := by unfold execMeasureFreq; repeat' (first | with_reducible apply outMem_next | with_reducible apply outMem_ite | with_reducible apply startCmd_memOk | with_reducible assumption | intro _ | with_reducible apply memOk_ite | with_reducible apply memOk_ite_fst | with_reducible apply startCmd_memOk | with_reducible apply freqBody_memOk | with_reducible apply memOk_foldl | with_reducible apply memOk_foldl_fst | with_reducible apply memOk_foldr | split)
theorem execTinStamp_memOk (n : Fin 16) (t : Time) (falling : Bool) (s : State) (hs : s.memOk) : outMem (execTinStamp n t falling s) := by unfold execTinStamp; repeat' (first | with_reducible apply outMem_next | with_reducible apply outMem_ite | with_reducible assumption | intro _ | with_reducible apply memOk_ite | with_reducible apply memOk_ite_fst | with_reducible apply tinStamp_memOk | with_reducible apply memOk_foldl | with_reducible apply memOk_foldl_fst | with_reducible apply memOk_foldr | split)
theorem execGateInChange_memOk (t : Time) (level : Bool) (held : Nat) (s : State) (hs : s.memOk) : outMem (execGateInChange t level held s) := by unfold execGateInChange; repeat' (first | with_reducible apply outMem_next | with_reducible apply outMem_ite | with_reducible assumption | intro _ | with_reducible apply memOk_ite | with_reducible apply memOk_ite_fst | with_reducible apply gateMeas_memOk | with_reducible refine memOk_of_hide (gateRecog_hide (m := 2147481599) (h_sub := rfl) ..) ?_ | with_reducible apply memOk_foldl | with_reducible apply memOk_foldl_fst | with_reducible apply memOk_foldr | split)
theorem execTdcRecalibration_memOk (n : Fin 16) (ok : Bool) (s : State) (hs : s.memOk) : outMem (execTdcRecalibration n ok s) := by unfold execTdcRecalibration; repeat' (first | with_reducible apply outMem_next | with_reducible apply outMem_ite | with_reducible assumption | intro _ | with_reducible apply memOk_ite | with_reducible apply memOk_ite_fst | with_reducible apply tdcFail_memOk | with_reducible apply memOk_foldl | with_reducible apply memOk_foldl_fst | with_reducible apply memOk_foldr | split)
theorem execHandFire_memOk (h : Fin 32) (i : Sample) (s : State) (hs : s.memOk) : outMem (execHandFire h i s) := by unfold execHandFire; repeat' (first | with_reducible apply outMem_next | with_reducible apply outMem_ite | with_reducible assumption | intro _ | with_reducible apply memOk_ite | with_reducible apply memOk_ite_fst | with_reducible apply handTo_memOk | with_reducible apply memOk_foldl | with_reducible apply memOk_foldl_fst | with_reducible apply memOk_foldr | split)
theorem execHandTimerExpiry_memOk (h : Fin 32) (i : Sample) (s : State) (hs : s.memOk) : outMem (execHandTimerExpiry h i s) := by unfold execHandTimerExpiry; repeat' (first | with_reducible apply outMem_next | with_reducible apply outMem_ite | with_reducible assumption | intro _ | with_reducible apply memOk_ite | with_reducible apply memOk_ite_fst | with_reducible apply handTo_memOk | with_reducible apply memOk_foldl | with_reducible apply memOk_foldl_fst | with_reducible apply memOk_foldr | split)
theorem execCounterTargetReached_memOk (n : Fin 64) (i : Sample) (s : State) (hs : s.memOk) : outMem (execCounterTargetReached n i s) := by unfold execCounterTargetReached; repeat' (first | with_reducible apply outMem_next | with_reducible apply outMem_ite | with_reducible assumption | intro _ | with_reducible apply memOk_ite | with_reducible apply memOk_ite_fst | with_reducible apply pumpAll_memOk | with_reducible refine memOk_of_hide (noteEval_hide (m := 2147481599) (h_sub := rfl) ..) ?_ | with_reducible apply memOk_foldl | with_reducible apply memOk_foldl_fst | with_reducible apply memOk_foldr | split)
theorem execTimerExpiry_memOk (n : Fin 32) (i : Sample) (s : State) (hs : s.memOk) : outMem (execTimerExpiry n i s) := by unfold execTimerExpiry; repeat' (first | with_reducible apply outMem_next | with_reducible apply outMem_ite | with_reducible assumption | intro _ | with_reducible apply memOk_ite | with_reducible apply memOk_ite_fst | with_reducible apply pumpAll_memOk | with_reducible refine memOk_of_hide (noteEval_hide (m := 2147481599) (h_sub := rfl) ..) ?_ | with_reducible apply memOk_foldl | with_reducible apply memOk_foldl_fst | with_reducible apply memOk_foldr | split)
theorem execPatternLoad_memOk (h : CmdHdr) (p : PatternLoadParams) (s : State) (hs : s.memOk) : outMem (execPatternLoad h p s) := by unfold execPatternLoad; repeat' (first | with_reducible apply outMem_next | with_reducible apply outMem_ite | with_reducible apply startCmd_memOk | with_reducible assumption | intro _ | with_reducible apply memOk_ite | with_reducible apply memOk_ite_fst | with_reducible apply startCmd_memOk | with_reducible apply patternLoadBody_memOk | with_reducible apply memOk_foldl | with_reducible apply memOk_foldl_fst | with_reducible apply memOk_foldr | split)
theorem execCheckerViolation_memOk (n : Fin 32) (i : Sample) (s : State) (hs : s.memOk) : outMem (execCheckerViolation n i s) := by unfold execCheckerViolation; repeat' (first | with_reducible apply outMem_next | with_reducible apply outMem_ite | with_reducible assumption | intro _ | with_reducible apply memOk_ite | with_reducible apply memOk_ite_fst | with_reducible apply checkTo_memOk | with_reducible apply memOk_foldl | with_reducible apply memOk_foldl_fst | with_reducible apply memOk_foldr | split)
theorem execCheckerSync_memOk (n : Fin 32) (i : Sample) (s : State) (hs : s.memOk) : outMem (execCheckerSync n i s) := by unfold execCheckerSync; repeat' (first | with_reducible apply outMem_next | with_reducible apply outMem_ite | with_reducible assumption | intro _ | with_reducible apply memOk_ite | with_reducible apply memOk_ite_fst | with_reducible apply checkerSync_memOk | with_reducible apply memOk_foldl | with_reducible apply memOk_foldl_fst | with_reducible apply memOk_foldr | split)
theorem execCheckerDone_memOk (n : Fin 32) (s : State) (hs : s.memOk) : outMem (execCheckerDone n s) := by unfold execCheckerDone; repeat' (first | with_reducible apply outMem_next | with_reducible apply outMem_ite | with_reducible assumption | intro _ | with_reducible apply memOk_ite | with_reducible apply memOk_ite_fst | with_reducible apply checkerDone_memOk | with_reducible apply memOk_foldl | with_reducible apply memOk_foldl_fst | with_reducible apply memOk_foldr | split)
theorem execPatternStop_memOk (h : CmdHdr) (mode : Byte) (i : Sample) (s : State) (hs : s.memOk) : outMem (execPatternStop h mode i s) := by unfold execPatternStop; repeat' (first | with_reducible apply outMem_next | with_reducible apply outMem_ite | with_reducible apply startCmd_memOk | with_reducible assumption | intro _ | with_reducible apply memOk_ite | with_reducible apply memOk_ite_fst | with_reducible apply startCmd_memOk | with_reducible apply patternStopBody_memOk | with_reducible apply memOk_foldl | with_reducible apply memOk_foldl_fst | with_reducible apply memOk_foldr | split)
theorem execDroverJobStart_memOk (s : State) (hs : s.memOk) : outMem (execDroverJobStart s) := by
  unfold execDroverJobStart; refine outMem_next ?_
  split
  · exact hs
  · exact memOk_ite hs (droverCmd_memOk _ _ (memOk_modDrov hs))
  · split
    · exact hs
    · rename_i h
      have h1 := memOk_of_hide (pickFree_hide _ _ _ h (m := 2147481599) rfl) hs
      refine memOk_of_hide (wrF_hide (m := 2147481599) (h_sub := rfl) ..) (memOk_modDrov ?_)
      split
      · exact memOk_of_hide (wakeStacks_hide (m := 2147481599) (h_sub := rfl) ..) h1
      · exact h1

theorem execEngineJobStart_memOk (u : JobUpset) (s : State) (hs : s.memOk) : outMem (execEngineJobStart s u) := by
  unfold execEngineJobStart
  refine outMem_next ?_
  split
  · exact hs
  · split
    · exact hs
    · rename_i h
      have h1 := memOk_modComp (f := fun c => c) (memOk_of_hide (pickFree_hide _ _ _ h (m := 2147481599) rfl) hs)
      exact memOk_ite (runCompress_memOk _ _ _ _ h1) (runDecompress_memOk _ _ _ _ h1)

theorem execCommandFetch_memOk (s : State) (hs : s.memOk) : outMem (execCommandFetch s) := by unfold execCommandFetch; repeat' (first | with_reducible apply outMem_next | with_reducible apply outMem_ite | with_reducible assumption | intro _ | with_reducible apply memOk_ite | with_reducible apply memOk_ite_fst | with_reducible refine memOk_of_hide (takeEntry_hide (m := 2147481599) (h_sub := rfl) ..) ?_ | with_reducible apply moveHead_memOk | with_reducible apply memOk_modCmd | with_reducible apply memOk_foldl | with_reducible apply memOk_foldl_fst | with_reducible apply memOk_foldr | split)
theorem execCompletionWrite_memOk (cid : BitVec 16) (s : State) (hs : s.memOk) : outMem (execCompletionWrite cid s) := by unfold execCompletionWrite; repeat' (first | with_reducible apply outMem_next | with_reducible apply outMem_ite | with_reducible assumption | intro _ | with_reducible apply memOk_ite | with_reducible apply memOk_ite_fst | with_reducible apply completionWrite_memOk | with_reducible apply memOk_foldl | with_reducible apply memOk_foldl_fst | with_reducible apply memOk_foldr | split)
theorem execBar2Write_memOk (off : BitVec 38) (data : List Byte) (portA : Option (BitVec 64)) (rivals : List (BitVec 3)) (s : State) (hs : s.memOk) : outMem (execBar2Write off data portA s rivals) := by unfold execBar2Write; repeat' (first | with_reducible apply outMem_next | with_reducible apply outMem_ite | with_reducible assumption | intro _ | with_reducible apply memOk_ite | with_reducible apply memOk_ite_fst | with_reducible apply bar2Put_memOk | with_reducible apply memOk_foldl | with_reducible apply memOk_foldl_fst | with_reducible apply memOk_foldr | split)
theorem execBar2SetAliasWrite_memOk (off : BitVec 38) (data : List Byte) (portA : Option (BitVec 64)) (rivals : List (BitVec 3)) (s : State) (hs : s.memOk) : outMem (execBar2SetAliasWrite off data portA s rivals) := by unfold execBar2SetAliasWrite; repeat' (first | with_reducible apply outMem_next | with_reducible apply outMem_ite | with_reducible assumption | intro _ | with_reducible apply memOk_ite | with_reducible apply memOk_ite_fst | with_reducible apply bar2Put_memOk | with_reducible apply memOk_foldl | with_reducible apply memOk_foldl_fst | with_reducible apply memOk_foldr | split)
theorem execBar2ClearAliasWrite_memOk (off : BitVec 38) (data : List Byte) (portA : Option (BitVec 64)) (rivals : List (BitVec 3)) (s : State) (hs : s.memOk) : outMem (execBar2ClearAliasWrite off data portA s rivals) := by unfold execBar2ClearAliasWrite; repeat' (first | with_reducible apply outMem_next | with_reducible apply outMem_ite | with_reducible assumption | intro _ | with_reducible apply memOk_ite | with_reducible apply memOk_ite_fst | with_reducible apply bar2Put_memOk | with_reducible apply memOk_foldl | with_reducible apply memOk_foldl_fst | with_reducible apply memOk_foldr | split)
theorem execBar2Read_memOk (off : BitVec 38) (len : Nat) (rivals : List (BitVec 3)) (s : State) (hs : s.memOk) : outMem (execBar2Read off len s rivals) := by unfold execBar2Read; repeat' (first | with_reducible apply outMem_next | with_reducible apply outMem_ite | with_reducible assumption | intro _ | with_reducible apply memOk_ite | with_reducible apply memOk_ite_fst | with_reducible refine memOk_of_hide (urSent_hide (m := 2147481599) (h_sub := rfl) ..) ?_ | with_reducible refine memOk_of_hide (hbmRead_hide (m := 2147481599) (h_sub := rfl) ..) ?_ | with_reducible apply apertureRead_memOk | with_reducible apply memOk_setReply | with_reducible apply memOk_foldl | with_reducible apply memOk_foldl_fst | with_reducible apply memOk_foldr | split)
theorem execEccWriteback_memOk (loc : MemLoc) (overwritten : Bool) (s : State) (hs : s.memOk) : outMem (execEccWriteback loc overwritten s) := by
  have h1 := readCe_memOk s loc.region loc.bank loc.word hs
  unfold execEccWriteback
  refine outMem_next (memOk_ite hs (memOk_ite h1 ?_))
  exact memOk_modMem_same h1 (fun _ => ⟨rfl, rfl, rfl⟩)

theorem execScrubStep_memOk (loc : MemLoc) (err : Fin 3) (s : State) (hs : s.memOk) : outMem (execScrubStep loc err s) := by
  have h3 (r b w : Nat) : (readUe (s.modMem (fun m => { m with badWords := insertNat m.badWords (wordAt r b w) })) r b w).memOk :=
    readUe_memOk _ _ _ _ (memOk_modMem_same hs (fun _ => ⟨rfl, rfl, rfl⟩))
  unfold execScrubStep; dsimp only
  have h4 := memOk_ite (c := err.val = 1) (readCe_memOk s loc.region.val loc.bank.val loc.word.val hs)
    (memOk_ite (c := err.val = 2) (h3 loc.region.val loc.bank.val loc.word.val) hs)
  exact outMem_next (memOk_ite (memOk_ite (flockWordErr_memOk _ _ _ hs) hs) (memOk_ite hs (memOk_ite (scrubPass_memOk _ _ _ h4) h4)))

theorem execRowRemap_memOk (loc : MemLoc) (s : State) (hs : s.memOk) : outMem (execRowRemap loc s) := by
  have hw (x : State) (o k c b n a u v : Nat) (hx : x.memOk) : (wearAdd (raiseErr x o k c b n) a u v).memOk :=
    memOk_of_hide (wearAdd_hide (m := 2147481599) (h_sub := rfl) ..) (memOk_of_hide (raiseErr_hide (m := 2147481599) (h_sub := rfl) ..) hx)
  have hr (x : State) (o : Nat) (w : Word) (hx : x.memOk) : (raise x o w).memOk := memOk_of_hide (raise_hide (m := 2147481599) (h_sub := rfl) ..) hx
  have h1 (t : Tab Nat) : (s.modMem (fun m => { m with rows := t })).memOk := memOk_modMem_same hs (fun _ => ⟨rfl, rfl, rfl⟩)
  unfold execRowRemap; dsimp only
  refine outMem_next (memOk_ite hs (memOk_ite (memOk_ite (hr _ _ _ (hw _ _ _ _ _ _ _ _ _ ?_)) (hw _ _ _ _ _ _ _ _ _ ?_)) (hw _ _ _ _ _ _ _ _ _ ?_)))
  · exact memOk_modMem_same hs (fun _ => ⟨rfl, rfl, rfl⟩)
  · exact memOk_modMem_same hs (fun _ => ⟨rfl, rfl, rfl⟩)
  · refine memOk_modMem hs (fun m h => ?_)
    obtain ⟨a, b, c⟩ := (MemSt.wf_iff _).1 h
    exact (MemSt.wf_iff _).2 ⟨a, memWf_memErase _ _ _ b, c⟩

theorem execHbmPageRemap_memOk (stack : Fin 4) (page : Fin 9437184) (s : State) (hs : s.memOk) : outMem (execHbmPageRemap stack page s) := by unfold execHbmPageRemap; repeat' (first | with_reducible apply outMem_next | with_reducible apply outMem_ite | with_reducible assumption | intro _ | with_reducible apply memOk_ite | with_reducible apply memOk_ite_fst | with_reducible apply hbmPageRemap_memOk | with_reducible apply memOk_foldl | with_reducible apply memOk_foldl_fst | with_reducible apply memOk_foldr | split)
theorem execMemPower_memOk (h : CmdHdr) (target : Byte) (state : Byte) (region : Byte) (mask : BitVec 64) (s : State) (hs : s.memOk) : outMem (execMemPower h target state region mask s) := by unfold execMemPower; repeat' (first | with_reducible apply outMem_next | with_reducible apply outMem_ite | with_reducible apply startCmd_memOk | with_reducible assumption | intro _ | with_reducible apply memOk_ite | with_reducible apply memOk_ite_fst | with_reducible apply startCmd_memOk | with_reducible apply memPowerBody_memOk | with_reducible apply memOk_foldl | with_reducible apply memOk_foldl_fst | with_reducible apply memOk_foldr | split)
theorem execBankPowerChangeDone_memOk (u : PowerUnit) (s : State) (hs : s.memOk) : outMem (execBankPowerChangeDone u s) := by unfold execBankPowerChangeDone; repeat' (first | with_reducible apply outMem_next | with_reducible apply outMem_ite | with_reducible assumption | intro _ | with_reducible apply memOk_ite | with_reducible apply memOk_ite_fst | with_reducible apply unitArrives_memOk | with_reducible refine memOk_of_hide (raiseBit_hide (m := 2147481599) (h_sub := rfl) ..) ?_ | with_reducible refine memOk_of_hide (endRun_hide (m := 2147481599) (h_sub := rfl) ..) ?_ | with_reducible apply memOk_modPwr | with_reducible apply memOk_foldl | with_reducible apply memOk_foldl_fst | with_reducible apply memOk_foldr | split)
theorem execEyeScan_memOk (h : CmdHdr) (p : EyeParams) (s : State) (hs : s.memOk) : outMem (execEyeScan h p s) := by unfold execEyeScan; repeat' (first | with_reducible apply outMem_next | with_reducible apply outMem_ite | with_reducible apply startCmd_memOk | with_reducible assumption | intro _ | with_reducible apply memOk_ite | with_reducible apply memOk_ite_fst | with_reducible apply startCmd_memOk | with_reducible apply eyeScanBody_memOk | with_reducible apply memOk_foldl | with_reducible apply memOk_foldl_fst | with_reducible apply memOk_foldr | split)
theorem execSpareStatus_memOk (h : CmdHdr) (dest : BitVec 64) (s : State) (hs : s.memOk) : outMem (execSpareStatus h dest s) := by unfold execSpareStatus; repeat' (first | with_reducible apply outMem_next | with_reducible apply outMem_ite | with_reducible apply startCmd_memOk | with_reducible assumption | intro _ | with_reducible apply memOk_ite | with_reducible apply memOk_ite_fst | with_reducible apply startCmd_memOk | with_reducible apply spareStatusBody_memOk | with_reducible apply memOk_foldl | with_reducible apply memOk_foldl_fst | with_reducible apply memOk_foldr | split)
theorem execWearForecast_memOk (h : CmdHdr) (dest : BitVec 64) (s : State) (hs : s.memOk) : outMem (execWearForecast h dest s) := by unfold execWearForecast; repeat' (first | with_reducible apply outMem_next | with_reducible apply outMem_ite | with_reducible apply startCmd_memOk | with_reducible assumption | intro _ | with_reducible apply memOk_ite | with_reducible apply memOk_ite_fst | with_reducible apply startCmd_memOk | with_reducible apply wearForecastBody_memOk | with_reducible apply memOk_foldl | with_reducible apply memOk_foldl_fst | with_reducible apply memOk_foldr | split)
theorem execCoreSelfTestDone_memOk (pass0 : Bool) (pass1 : Bool) (pass2 : Bool) (s : State) (hs : s.memOk) : outMem (execCoreSelfTestDone pass0 pass1 pass2 s) := by unfold execCoreSelfTestDone; repeat' (first | with_reducible apply outMem_next | with_reducible apply outMem_ite | with_reducible assumption | intro _ | with_reducible apply memOk_ite | with_reducible apply memOk_ite_fst | with_reducible apply shepherdLost_memOk | with_reducible refine memOk_of_hide (quarantineCore_hide (m := 2147481599) (h_sub := rfl) ..) ?_ | with_reducible refine memOk_of_hide (raiseErr_hide (m := 2147481599) (h_sub := rfl) ..) ?_ | with_reducible apply memOk_modShep | with_reducible apply memOk_foldl | with_reducible apply memOk_foldl_fst | with_reducible apply memOk_foldr | split)
theorem execTamperEvent_memOk (src : Fin 5) (s : State) (hs : s.memOk) : outMem (execTamperEvent src s) := by unfold execTamperEvent; repeat' (first | with_reducible apply outMem_next | with_reducible apply outMem_ite | with_reducible assumption | intro _ | with_reducible apply memOk_ite | with_reducible apply memOk_ite_fst | with_reducible apply wipeSecure_memOk | with_reducible refine memOk_of_hide (raise_hide (m := 2147481599) (h_sub := rfl) ..) ?_ | with_reducible refine memOk_of_hide (stepTamperCount_hide (m := 2147481599) (h_sub := rfl) ..) ?_ | with_reducible apply enterClassF_memOk | with_reducible refine memOk_of_hide (logSecurity_hide (m := 2147481599) (h_sub := rfl) ..) ?_ | with_reducible apply memOk_modSec | with_reducible apply memOk_foldl | with_reducible apply memOk_foldl_fst | with_reducible apply memOk_foldr | split)
theorem execTamperSourceInactive_memOk (src : Fin 5) (s : State) (hs : s.memOk) : outMem (execTamperSourceInactive src s) := by unfold execTamperSourceInactive; repeat' (first | with_reducible apply outMem_next | with_reducible apply outMem_ite | with_reducible assumption | intro _ | with_reducible apply memOk_ite | with_reducible apply memOk_ite_fst | with_reducible apply unsealStore_memOk | with_reducible apply memOk_modSec | with_reducible apply memOk_foldl | with_reducible apply memOk_foldl_fst | with_reducible apply memOk_foldr | split)
theorem execKeyProvision_memOk (h : CmdHdr) (slot : Byte) (kind : Byte) (len : BitVec 32) (src : BitVec 64) (s : State) (hs : s.memOk) : outMem (execKeyProvision h slot kind len src s) := by unfold execKeyProvision; repeat' (first | with_reducible apply outMem_next | with_reducible apply outMem_ite | with_reducible apply startCmd_memOk | with_reducible assumption | intro _ | with_reducible apply memOk_ite | with_reducible apply memOk_ite_fst | with_reducible apply startCmd_memOk | with_reducible apply keyProvisionBody_memOk | with_reducible apply memOk_foldl | with_reducible apply memOk_foldl_fst | with_reducible apply memOk_foldr | split)
theorem execLifecycleAdvance_memOk (h : CmdHdr) (target : Byte) (len : BitVec 32) (src : BitVec 64) (s : State) (hs : s.memOk) : outMem (execLifecycleAdvance h target len src s) := by unfold execLifecycleAdvance; repeat' (first | with_reducible apply outMem_next | with_reducible apply outMem_ite | with_reducible apply startCmd_memOk | with_reducible assumption | intro _ | with_reducible apply memOk_ite | with_reducible apply memOk_ite_fst | with_reducible apply startCmd_memOk | with_reducible apply lifecycleAdvanceBody_memOk | with_reducible apply memOk_foldl | with_reducible apply memOk_foldl_fst | with_reducible apply memOk_foldr | split)
theorem execWipe_memOk (h : CmdHdr) (scope : Byte) (s : State) (hs : s.memOk) : outMem (execWipe h scope s) := by unfold execWipe; repeat' (first | with_reducible apply outMem_next | with_reducible apply outMem_ite | with_reducible apply startCmd_memOk | with_reducible assumption | intro _ | with_reducible apply memOk_ite | with_reducible apply memOk_ite_fst | with_reducible apply startCmd_memOk | with_reducible apply wipeBody_memOk | with_reducible apply memOk_foldl | with_reducible apply memOk_foldl_fst | with_reducible apply memOk_foldr | split)
theorem execPorNLow_memOk (s : State) (hs : s.memOk) : outMem (execPorNLow s) := by unfold execPorNLow; repeat' (first | with_reducible apply outMem_next | with_reducible apply outMem_ite | with_reducible assumption | intro _ | with_reducible apply memOk_ite | with_reducible apply memOk_ite_fst | with_reducible apply porState_memOk | with_reducible apply memOk_foldl | with_reducible apply memOk_foldl_fst | with_reducible apply memOk_foldr | split)
theorem execPowerOnReset_memOk (image : Bool) (retry : BitVec 4) (s : State) (hs : s.memOk) : outMem (execPowerOnReset image s retry) := by unfold execPowerOnReset; repeat' (first | with_reducible apply outMem_next | with_reducible apply outMem_ite | with_reducible assumption | intro _ | with_reducible apply memOk_ite | with_reducible apply memOk_ite_fst | with_reducible apply boot_memOk | with_reducible apply memOk_foldl | with_reducible apply memOk_foldl_fst | with_reducible apply memOk_foldr | split)
theorem execSupplyFail_memOk (rail : Fin 12) (mv : BitVec 16) (s : State) (hs : s.memOk) : outMem (execSupplyFail rail mv s) := by unfold execSupplyFail; repeat' (first | with_reducible apply outMem_next | with_reducible apply outMem_ite | with_reducible assumption | intro _ | with_reducible apply memOk_ite | with_reducible apply memOk_ite_fst | with_reducible apply porState_memOk | with_reducible apply enterClassF_memOk | with_reducible refine memOk_of_hide (raiseErr_hide (m := 2147481599) (h_sub := rfl) ..) ?_ | with_reducible refine memOk_of_hide (leaveRange_hide (m := 2147481599) (h_sub := rfl) ..) ?_ | with_reducible refine memOk_of_hide (setVolt_hide (m := 2147481599) (h_sub := rfl) ..) ?_ | with_reducible apply memOk_foldl | with_reducible apply memOk_foldl_fst | with_reducible apply memOk_foldr | split)
theorem execRegionSleep_memOk (s : State) (hs : s.memOk) : outMem (execRegionSleep s) := by unfold execRegionSleep; repeat' (first | with_reducible apply outMem_next | with_reducible apply outMem_ite | with_reducible assumption | intro _ | with_reducible apply memOk_ite | with_reducible apply memOk_ite_fst | with_reducible refine memOk_of_hide (wrF_hide (m := 2147481599) (h_sub := rfl) ..) ?_ | with_reducible apply setBanks_memOk | with_reducible refine memOk_of_hide (raiseBit_hide (m := 2147481599) (h_sub := rfl) ..) ?_ | with_reducible apply memOk_modPwr | with_reducible apply memOk_foldl | with_reducible apply memOk_foldl_fst | with_reducible apply memOk_foldr | split)
theorem execRegionsReady_memOk (s : State) (hs : s.memOk) : outMem (execRegionsReady s) := by unfold execRegionsReady; repeat' (first | with_reducible apply outMem_next | with_reducible apply outMem_ite | with_reducible assumption | intro _ | with_reducible apply memOk_ite | with_reducible apply memOk_ite_fst | with_reducible refine memOk_of_hide (wrF_hide (m := 2147481599) (h_sub := rfl) ..) ?_ | with_reducible apply setBanks_memOk | with_reducible refine memOk_of_hide (wakeStacks_hide (m := 2147481599) (h_sub := rfl) ..) ?_ | with_reducible refine memOk_of_hide (startTbase_hide (m := 2147481599) (h_sub := rfl) ..) ?_ | with_reducible refine memOk_of_hide (raiseBit_hide (m := 2147481599) (h_sub := rfl) ..) ?_ | with_reducible apply runWaking_memOk | with_reducible apply memOk_modDeck | with_reducible apply memOk_modPwr | with_reducible apply memOk_foldl | with_reducible apply memOk_foldl_fst | with_reducible apply memOk_foldr | split)
theorem execRegisterWrite_memOk (m : Master) (off : BitVec 26) (size : Nat) (be : Byte) (value : BitVec 64) (s : State) (hs : s.memOk) : outMem (execRegisterWrite m off size be value s) := by unfold execRegisterWrite; repeat' (first | with_reducible apply outMem_next | with_reducible apply outMem_ite | with_reducible assumption | intro _ | with_reducible apply memOk_ite | with_reducible apply memOk_ite_fst | with_reducible apply writeAccess_memOk | with_reducible apply memOk_foldl | with_reducible apply memOk_foldl_fst | with_reducible apply memOk_foldr | split)
theorem execLatchLoWrite_memOk (m : Master) (off : BitVec 26) (value : Word) (s : State) (hs : s.memOk) : outMem (execLatchLoWrite m off value s) := by unfold execLatchLoWrite; repeat' (first | with_reducible apply outMem_next | with_reducible apply outMem_ite | with_reducible assumption | intro _ | with_reducible apply memOk_ite | with_reducible apply memOk_ite_fst | with_reducible apply writeFull_memOk | with_reducible apply memOk_foldl | with_reducible apply memOk_foldl_fst | with_reducible apply memOk_foldr | split)
theorem execLatchHiWrite_memOk (m : Master) (off : BitVec 26) (value : Word) (s : State) (hs : s.memOk) : outMem (execLatchHiWrite m off value s) := by unfold execLatchHiWrite; repeat' (first | with_reducible apply outMem_next | with_reducible apply outMem_ite | with_reducible assumption | intro _ | with_reducible apply memOk_ite | with_reducible apply memOk_ite_fst | with_reducible apply writeFull_memOk | with_reducible apply memOk_foldl | with_reducible apply memOk_foldl_fst | with_reducible apply memOk_foldr | split)
theorem execSqcClear_memOk (m : Master) (off : BitVec 26) (value : Word) (s : State) (hs : s.memOk) : outMem (execSqcClear m off value s) := by unfold execSqcClear; repeat' (first | with_reducible apply outMem_next | with_reducible apply outMem_ite | with_reducible assumption | intro _ | with_reducible apply memOk_ite | with_reducible apply memOk_ite_fst | with_reducible apply writeFull_memOk | with_reducible apply memOk_foldl | with_reducible apply memOk_foldl_fst | with_reducible apply memOk_foldr | split)
theorem execEnWrite_memOk (m : Master) (off : BitVec 26) (value : Word) (s : State) (hs : s.memOk) : outMem (execEnWrite m off value s) := by unfold execEnWrite; repeat' (first | with_reducible apply outMem_next | with_reducible apply outMem_ite | with_reducible assumption | intro _ | with_reducible apply memOk_ite | with_reducible apply memOk_ite_fst | with_reducible apply writeFull_memOk | with_reducible apply memOk_foldl | with_reducible apply memOk_foldl_fst | with_reducible apply memOk_foldr | split)
theorem execChipUnlockWrite_memOk (m : Master) (value : Word) (s : State) (hs : s.memOk) : outMem (execChipUnlockWrite m value s) := by unfold execChipUnlockWrite; repeat' (first | with_reducible apply outMem_next | with_reducible apply outMem_ite | with_reducible assumption | intro _ | with_reducible apply memOk_ite | with_reducible apply memOk_ite_fst | with_reducible apply writeFull_memOk | with_reducible apply memOk_foldl | with_reducible apply memOk_foldl_fst | with_reducible apply memOk_foldr | split)
theorem execOwnerWrite_memOk (m : Master) (value : Word) (s : State) (hs : s.memOk) : outMem (execOwnerWrite m value s) := by unfold execOwnerWrite; repeat' (first | with_reducible apply outMem_next | with_reducible apply outMem_ite | with_reducible assumption | intro _ | with_reducible apply memOk_ite | with_reducible apply memOk_ite_fst | with_reducible apply writeFull_memOk | with_reducible apply memOk_foldl | with_reducible apply memOk_foldl_fst | with_reducible apply memOk_foldr | split)
theorem execCoreReset_memOk (m : Master) (value : Word) (low : BitVec 12) (s : State) (hs : s.memOk) : outMem (execCoreReset m value low s) := by unfold execCoreReset; repeat' (first | with_reducible apply outMem_next | with_reducible apply outMem_ite | with_reducible assumption | intro _ | with_reducible apply memOk_ite | with_reducible apply memOk_ite_fst | with_reducible apply writeAccess_memOk | with_reducible apply memOk_foldl | with_reducible apply memOk_foldl_fst | with_reducible apply memOk_foldr | split)
theorem execEqFlush_memOk (m : Master) (q : Fin 32) (s : State) (hs : s.memOk) : outMem (execEqFlush m q s) := by unfold execEqFlush; repeat' (first | with_reducible apply outMem_next | with_reducible apply outMem_ite | with_reducible assumption | intro _ | with_reducible apply memOk_ite | with_reducible apply memOk_ite_fst | with_reducible apply writeFull_memOk | with_reducible apply memOk_foldl | with_reducible apply memOk_foldl_fst | with_reducible apply memOk_foldr | split)
theorem execDacCodeWrite_memOk (m : Master) (ch : Fin 34) (value : Word) (s : State) (hs : s.memOk) : outMem (execDacCodeWrite m ch value s) := by unfold execDacCodeWrite; repeat' (first | with_reducible apply outMem_next | with_reducible apply outMem_ite | with_reducible assumption | intro _ | with_reducible apply memOk_ite | with_reducible apply memOk_ite_fst | with_reducible apply writeFull_memOk | with_reducible apply memOk_foldl | with_reducible apply memOk_foldl_fst | with_reducible apply memOk_foldr | split)
theorem execDacFreezeWrite_memOk (m : Master) (value : Word) (s : State) (hs : s.memOk) : outMem (execDacFreezeWrite m value s) := by unfold execDacFreezeWrite; repeat' (first | with_reducible apply outMem_next | with_reducible apply outMem_ite | with_reducible assumption | intro _ | with_reducible apply memOk_ite | with_reducible apply memOk_ite_fst | with_reducible apply writeFull_memOk | with_reducible apply memOk_foldl | with_reducible apply memOk_foldl_fst | with_reducible apply memOk_foldr | split)
theorem execDdsFtwWrite_memOk (m : Master) (ch : Fin 2) (hi : Bool) (value : Word) (s : State) (hs : s.memOk) : outMem (execDdsFtwWrite m ch hi value s) := by unfold execDdsFtwWrite; repeat' (first | with_reducible apply outMem_next | with_reducible apply outMem_ite | with_reducible assumption | intro _ | with_reducible apply memOk_ite | with_reducible apply memOk_ite_fst | with_reducible apply writeFull_memOk | with_reducible apply memOk_foldl | with_reducible apply memOk_foldl_fst | with_reducible apply memOk_foldr | split)
theorem execLaneOfsWrite_memOk (m : Master) (lane : Fin 68) (value : Word) (s : State) (hs : s.memOk) : outMem (execLaneOfsWrite m lane value s) := by unfold execLaneOfsWrite; repeat' (first | with_reducible apply outMem_next | with_reducible apply outMem_ite | with_reducible assumption | intro _ | with_reducible apply memOk_ite | with_reducible apply memOk_ite_fst | with_reducible apply writeFull_memOk | with_reducible apply memOk_foldl | with_reducible apply memOk_foldl_fst | with_reducible apply memOk_foldr | split)
theorem execLaneTestWrite_memOk (m : Master) (g : LinkGroup) (lane : Fin 17) (value : Word) (s : State) (hs : s.memOk) : outMem (execLaneTestWrite m g lane value s) := by unfold execLaneTestWrite; repeat' (first | with_reducible apply outMem_next | with_reducible apply outMem_ite | with_reducible assumption | intro _ | with_reducible apply memOk_ite | with_reducible apply memOk_ite_fst | with_reducible apply writeFull_memOk | with_reducible apply memOk_foldl | with_reducible apply memOk_foldl_fst | with_reducible apply memOk_foldr | split)

end Sys2Proof.Machine
end

