-- ==== Sys2Proof/Laws/Exec.lean ====
section
/-!
SUPPORT. What holds of the next state of every command, and of every tick.
-/

set_option linter.unusedVariables false
namespace Sys2Proof.Machine

/-- A command's next state: the queue is as before; the life-cycle state is as before or moves up, at most to 4; the tamper count is as
before or one more, at most 32. -/
def Keeps (s : State) (o : Host.Outcome State Fault Refusal) : Prop :=
  ∃ t, o = .next t ∧ t.pending = s.pending ∧ (t.sec.life = s.sec.life ∨ s.sec.life < t.sec.life ∧ t.sec.life ≤ 4) ∧
    (t.sec.count = s.sec.count ∨ s.sec.count < 32 ∧ t.sec.count = s.sec.count + 1)

theorem kept_of_hide {s t : State} (h : t.hide 536870910 = s.hide 536870910) : t.pending = s.pending ∧ t.sec.life = s.sec.life ∧ t.sec.count = s.sec.count := by
  have h0 := congrArg State.pending h
  have h1 := congrArg (fun x => x.sec.life) h
  have h2 := congrArg (fun x => x.sec.count) h
  exact ⟨h0, h1, h2⟩
theorem keeps_of_frame {s : State} {o : Host.Outcome State Fault Refusal} (h : outHide 536870910 o = some (s.hide 536870910)) : Keeps s o := by
  cases o with
  | next t =>
    obtain ⟨a, b, c⟩ := kept_of_hide (Option.some.inj h)
    exact ⟨t, rfl, a, .inl b, .inl c⟩
  | fault r => cases h
  | refused r => cases h
theorem firstBad_none {l : List (Nat × Bool)} (h : firstBad l = none) : ∀ f ∈ l, f.2 = true := by
  unfold firstBad at h
  rw [Option.map_eq_none_iff, List.find?_eq_none] at h
  intro f hf; have := h f hf; simpa using this
theorem judge_fields {c : Checks} {s : State} (h : judge c s = none) : ∀ f ∈ c.fields, f.2 = true := by
  unfold judge at h
  split at h
  · cases h
  · cases hb : firstBad c.fields with
    | none => exact firstBad_none hb
    | some o => rw [hb] at h; cases h
theorem judge_withReserved {c : Checks} {r : Option Nat} {s : State} (h : judge (c.withReserved r) s = none) : judge c s = none := by
  cases r with
  | none => exact h
  | some o => exact absurd (judge_fields h (o, false) (by simp [Checks.withReserved])) Bool.false_ne_true
/-- A command that starts either only moves commands (it waits, is refused, or waits for the regions) or has its effect. -/
theorem startCmd_cases (h : CmdHdr) (c : Checks) (wake : Option Instr) (body : State → State) (s : State) :
    (startCmd h c wake body s).hide 67110018 = s.hide 67110018 ∨
      (judge c (arrive h c.op c.ready s).1 = none ∧ startCmd h c wake body s = body (arrive h c.op c.ready s).1) := by
  have ha : (arrive h c.op c.ready s).1.hide 67110018 = s.hide 67110018 := arrive_hide (h_sub := rfl) ..
  unfold startCmd
  split
  · exact .inl rfl
  dsimp only
  split
  · exact .inl ha
  split
  · exact .inl ((refuse_hide (h_sub := rfl) ..).trans ha)
  · rename_i hj
    split
    · exact .inr ⟨judge_withReserved hj, rfl⟩
    · split
      · left
        rw [hide_modPwr (m := 67110018) _ _ rfl]
        exact (beginWake_hide (h_sub := rfl) ..).trans ((keepRunning_hide (h_sub := rfl) ..).trans ha)
      · exact .inr ⟨judge_withReserved hj, rfl⟩
theorem lifecycleAdvanceBody_kept (h : CmdHdr) (target : Nat) (len : BitVec 32) (src : BitVec 64) (s : State) :
    (lifecycleAdvanceBody h target len src s).hide 536870910 = s.hide 536870910 ∨
      (∃ f : SecSt → SecSt, (∀ x, (f x).life = target ∧ (f x).count = x.count) ∧
        (lifecycleAdvanceBody h target len src s).hide 536870910 = (s.modSec f).hide 536870910) := by
  unfold lifecycleAdvanceBody; dsimp only
  split
  · left; exact refuse_hide (h_sub := rfl) ..
  split
  · left; exact refuse_hide (h_sub := rfl) ..
  split
  · left; exact (refuse_hide (h_sub := rfl) ..).trans ((newNonce_hide (h_sub := rfl) ..).trans (raiseBit_hide (h_sub := rfl) ..))
  split
  · left; exact refuse_hide (h_sub := rfl) ..
  · right
    refine ⟨fun x => { x with life := target, policy := BitVec.ofNat 8 (leAt (segsRead s.mem (bufList s src) len.toNat) 5 1) },
      fun _ => ⟨rfl, rfl⟩, ?_⟩
    exact (finish_hide (h_sub := rfl) ..).trans ((logSecurity_hide (h_sub := rfl) ..).trans ((raise_hide (h_sub := rfl) ..).trans
      ((newNonce_hide (h_sub := rfl) ..).trans (wipeSecure_hide (h_sub := rfl) ..))))
theorem execLifecycleAdvance_kept (h : CmdHdr) (target : Byte) (len : BitVec 32) (src : BitVec 64) (s : State) :
    Keeps s (execLifecycleAdvance h target len src s) := by
  unfold execLifecycleAdvance
  refine ⟨_, rfl, ?_⟩
  have ha := kept_of_hide (arrive_hide (m := 536870910) (h_sub := rfl) h 0x0D01 true s)
  rcases startCmd_cases h _ none (lifecycleAdvanceBody h target.toNat len src) s with e | ⟨hj, e⟩
  · obtain ⟨a, b, c⟩ := kept_of_hide (hide_mono (m := 536870910) rfl e)
    exact ⟨a, .inl b, .inl c⟩
  · rw [e]
    have hf := of_decide_eq_true (judge_fields hj (8, decide (1 ≤ target.toNat ∧ target.toNat ≤ 4 ∧ s.sec.life < target.toNat)) (by simp [lifecycleAdvanceChecks]))
    simp only [lifecycleAdvanceChecks]
    rcases lifecycleAdvanceBody_kept h target.toNat len src (arrive h 0x0D01 true s).1 with k | ⟨f, hg, k⟩
    · obtain ⟨a, b, c⟩ := kept_of_hide k
      exact ⟨a.trans ha.1, .inl (b.trans ha.2.1), .inl (c.trans ha.2.2)⟩
    · obtain ⟨a, b, c⟩ := kept_of_hide k
      have hl : ((arrive h 0x0D01 true s).1.modSec f).sec.life = target.toNat := (hg _).1
      have hc : ((arrive h 0x0D01 true s).1.modSec f).sec.count = (arrive h 0x0D01 true s).1.sec.count := (hg _).2
      exact ⟨a.trans ha.1, .inr (by rw [b, hl]; exact ⟨hf.2.2, hf.2.1⟩), .inl (c.trans (hc.trans ha.2.2))⟩
theorem stepTamperCount_kept (s : State) : (stepTamperCount s).hide 536870910 = (s.modSec (fun x => { x with count := s.sec.count + 1 })).hide 536870910 := by
  unfold stepTamperCount; dsimp only
  rw [hide_ite, raiseBit_hide (m := 536870910) (h_sub := rfl), raiseBit_hide (m := 536870910) (h_sub := rfl), ite_self]
theorem execTamperEvent_kept (src : Fin 5) (s : State) : Keeps s (execTamperEvent src s) := by
  have base (t : State) (p : Prop) (hp : p) (hk : ∀ u : State, u.hide 536870910 = t.hide 536870910 → p →
      u.pending = s.pending ∧ (u.sec.life = s.sec.life ∨ s.sec.life < u.sec.life ∧ u.sec.life ≤ 4) ∧
        (u.sec.count = s.sec.count ∨ s.sec.count < 32 ∧ u.sec.count = s.sec.count + 1)) (c : Bool) :
      Keeps s (if c = true then .next (enterClassF (logSecurity t 4 1)) else .next (logSecurity t 0 1)) := by
    split
    · exact ⟨_, rfl, hk _ ((enterClassF_hide (h_sub := rfl) ..).trans (logSecurity_hide (h_sub := rfl) ..)) hp⟩
    · exact ⟨_, rfl, hk _ (logSecurity_hide (h_sub := rfl) ..) hp⟩
  have hs (f : SecSt → SecSt) (hf : ∀ x, (f x).life = x.life ∧ (f x).count = x.count) :
      (raise ((wipeSecure s).modSec f) Reg.SEC_STATUS 3).hide 536870910 = s.hide 536870910 :=
    (raise_hide (h_sub := rfl) ..).trans ((hide_modSec _ _ rfl hf).trans (wipeSecure_hide (h_sub := rfl) ..))
  unfold execTamperEvent
  split
  · exact ⟨s, rfl, rfl, .inl rfl, .inl rfl⟩
  · dsimp only
    have h1 := hs (fun x => { x with latched := x.latched ||| BitVec.ofNat 5 (2 ^ src.val), active := x.active ||| BitVec.ofNat 5 (2 ^ src.val) })
      (fun _ => ⟨rfl, rfl⟩)
    refine base _ True trivial (fun u hu _ => ?_) _
    obtain ⟨a1, b1, c1⟩ := kept_of_hide h1
    split at hu
    · rename_i hc
      rw [Bool.and_eq_true, decide_eq_true_eq] at hc
      obtain ⟨a, b, c⟩ := kept_of_hide (hu.trans (stepTamperCount_kept _))
      exact ⟨a.trans a1, .inl (b.trans b1), .inr ⟨hc.2, c.trans (congrArg (· + 1) c1)⟩⟩
    · obtain ⟨a, b, c⟩ := kept_of_hide hu
      exact ⟨a.trans a1, .inl (b.trans b1), .inl (c.trans c1)⟩

/-- Every command answers a next state that keeps the queue, and moves the life-cycle state and the tamper count only up. -/
theorem exec_keeps (i : Instr) (s : State) : Keeps s (exec i s) := by
  cases i with
  | identify h dest => exact keeps_of_frame (execIdentify_frame (m := 536870910) (h_sub := rfl) ..)
  | getLog h log max fromSeq dest => exact keeps_of_frame (execGetLog_frame (m := 536870910) (h_sub := rfl) ..)
  | setTime h mode timeout time => exact keeps_of_frame (execSetTime_frame (m := 536870910) (h_sub := rfl) ..)
  | syncInEdge falling t held => exact keeps_of_frame (execSyncInEdge_frame (m := 536870910) (h_sub := rfl) ..)
  | atSyncLoad => exact keeps_of_frame (execAtSyncLoad_frame (m := 536870910) (h_sub := rfl) ..)
  | setTimeTimeout => exact keeps_of_frame (execSetTimeTimeout_frame (m := 536870910) (h_sub := rfl) ..)
  | syncOutPulse => exact keeps_of_frame (execSyncOutPulse_frame (m := 536870910) (h_sub := rfl) ..)
  | tbaseStop => exact keeps_of_frame (execTbaseStop_frame (m := 536870910) (h_sub := rfl) ..)
  | tbaseStart => exact keeps_of_frame (execTbaseStart_frame (m := 536870910) (h_sub := rfl) ..)
  | deckLoad h slot len src => exact keeps_of_frame (execDeckLoad_frame (m := 536870910) (h_sub := rfl) ..)
  | deckVerify h slot => exact keeps_of_frame (execDeckVerify_frame (m := 536870910) (h_sub := rfl) ..)
  | deckActivate h slot => exact keeps_of_frame (execDeckActivate_frame (m := 536870910) (h_sub := rfl) ..)
  | deckRedeal h slot groups timeout => exact keeps_of_frame (execDeckRedeal_frame (m := 536870910) (h_sub := rfl) ..)
  | dealBoundary u => exact keeps_of_frame (execDealBoundary_frame (m := 536870910) (h_sub := rfl) ..)
  | guardViolation region kind port owner op cycle item => exact keeps_of_frame (execGuardViolation_frame (m := 536870910) (h_sub := rfl) ..)
  | thermalSensorCrossing stack temp => exact keeps_of_frame (execThermalSensorCrossing_frame (m := 536870910) (h_sub := rfl) ..)
  | arm h groups mode sa => exact keeps_of_frame (execArm_frame (m := 536870910) (h_sub := rfl) ..)
  | disarm h groups sd => exact keeps_of_frame (execDisarm_frame (m := 536870910) (h_sub := rfl) ..)
  | forceTrigger h groups sf => exact keeps_of_frame (execForceTrigger_frame (m := 536870910) (h_sub := rfl) ..)
  | setPost h group post sc => exact keeps_of_frame (execSetPost_frame (m := 536870910) (h_sub := rfl) ..)
  | foldStatus h groups dest at_ => exact keeps_of_frame (execFoldStatus_frame (m := 536870910) (h_sub := rfl) ..)
  | prefillComplete g => exact keeps_of_frame (execPrefillComplete_frame (m := 536870910) (h_sub := rfl) ..)
  | handFire h sx => exact keeps_of_frame (execHandFire_frame (m := 536870910) (h_sub := rfl) ..)
  | triggerAccept g sx => exact keeps_of_frame (execTriggerAccept_frame (m := 536870910) (h_sub := rfl) ..)
  | trigOutPulse sx => exact keeps_of_frame (execTrigOutPulse_frame (m := 536870910) (h_sub := rfl) ..)
  | triggerRecordWrite sx => exact keeps_of_frame (execTriggerRecordWrite_frame (m := 536870910) (h_sub := rfl) ..)
  | segmentClose g => exact keeps_of_frame (execSegmentClose_frame (m := 536870910) (h_sub := rfl) ..)
  | holdoffEnd g => exact keeps_of_frame (execHoldoffEnd_frame (m := 536870910) (h_sub := rfl) ..)
  | foldOverflow f cause sx => exact keeps_of_frame (execFoldOverflow_frame (m := 536870910) (h_sub := rfl) ..)
  | capturePageStore f inst unit => exact keeps_of_frame (execCapturePageStore_frame (m := 536870910) (h_sub := rfl) ..)
  | windowRecord f inst w => exact keeps_of_frame (execWindowRecord_frame (m := 536870910) (h_sub := rfl) ..)
  | counterTargetReached n sx => exact keeps_of_frame (execCounterTargetReached_frame (m := 536870910) (h_sub := rfl) ..)
  | counterFeedLate n inc i => exact keeps_of_frame (execCounterFeedLate_frame (m := 536870910) (h_sub := rfl) ..)
  | timerExpiry n sx => exact keeps_of_frame (execTimerExpiry_frame (m := 536870910) (h_sub := rfl) ..)
  | handTimerExpiry h sx => exact keeps_of_frame (execHandTimerExpiry_frame (m := 536870910) (h_sub := rfl) ..)
  | recogSliceParity r => exact keeps_of_frame (execRecogSliceParity_frame (m := 536870910) (h_sub := rfl) ..)
  | handParity h => exact keeps_of_frame (execHandParity_frame (m := 536870910) (h_sub := rfl) ..)
  | flockKeyComplete l inst sx => exact keeps_of_frame (execFlockKeyComplete_frame (m := 536870910) (h_sub := rfl) ..)
  | flockResult f sx => exact keeps_of_frame (execFlockResult_frame (m := 536870910) (h_sub := rfl) ..)
  | flockInsert h key action => exact keeps_of_frame (execFlockInsert_frame (m := 536870910) (h_sub := rfl) ..)
  | flockDelete h key => exact keeps_of_frame (execFlockDelete_frame (m := 536870910) (h_sub := rfl) ..)
  | flockLookup h key => exact keeps_of_frame (execFlockLookup_frame (m := 536870910) (h_sub := rfl) ..)
  | flockBulk h mode count src => exact keeps_of_frame (execFlockBulk_frame (m := 536870910) (h_sub := rfl) ..)
  | flockStashMigrate n => exact keeps_of_frame (execFlockStashMigrate_frame (m := 536870910) (h_sub := rfl) ..)
  | flockBucketRestore sub bucket => exact keeps_of_frame (execFlockBucketRestore_frame (m := 536870910) (h_sub := rfl) ..)
  | tinStamp n t falling => exact keeps_of_frame (execTinStamp_frame (m := 536870910) (h_sub := rfl) ..)
  | trigInEdge t level held => exact keeps_of_frame (execTrigInEdge_frame (m := 536870910) (h_sub := rfl) ..)
  | gateInChange t level held => exact keeps_of_frame (execGateInChange_frame (m := 536870910) (h_sub := rfl) ..)
  | tinConfig h p => exact keeps_of_frame (execTinConfig_frame (m := 536870910) (h_sub := rfl) ..)
  | tdcRecalibration n ok => exact keeps_of_frame (execTdcRecalibration_frame (m := 536870910) (h_sub := rfl) ..)
  | measureInterval h p => exact keeps_of_frame (execMeasureInterval_frame (m := 536870910) (h_sub := rfl) ..)
  | measureFreq h p => exact keeps_of_frame (execMeasureFreq_frame (m := 536870910) (h_sub := rfl) ..)
  | measStopWindowEnd u => exact keeps_of_frame (execMeasStopWindowEnd_frame (m := 536870910) (h_sub := rfl) ..)
  | measGateTimer u => exact keeps_of_frame (execMeasGateTimer_frame (m := 536870910) (h_sub := rfl) ..)
  | measTimeout u => exact keeps_of_frame (execMeasTimeout_frame (m := 536870910) (h_sub := rfl) ..)
  | dacSet h channels span values => exact keeps_of_frame (execDacSet_frame (m := 536870910) (h_sub := rfl) ..)
  | ddsSet h p => exact keeps_of_frame (execDdsSet_frame (m := 536870910) (h_sub := rfl) ..)
  | ddsT0 ch => exact keeps_of_frame (execDdsT0_frame (m := 536870910) (h_sub := rfl) ..)
  | dacUpdateTick => exact keeps_of_frame (execDacUpdateTick_frame (m := 536870910) (h_sub := rfl) ..)
  | thrCurrentLimit ch => exact keeps_of_frame (execThrCurrentLimit_frame (m := 536870910) (h_sub := rfl) ..)
  | blockStateSettle ctrl => exact keeps_of_frame (execBlockStateSettle_frame (m := 536870910) (h_sub := rfl) ..)
  | patternLoad h p => exact keeps_of_frame (execPatternLoad_frame (m := 536870910) (h_sub := rfl) ..)
  | patternPlay h p => exact keeps_of_frame (execPatternPlay_frame (m := 536870910) (h_sub := rfl) ..)
  | playbackStart sx => exact keeps_of_frame (execPlaybackStart_frame (m := 536870910) (h_sub := rfl) ..)
  | patternStop h mode sx => exact keeps_of_frame (execPatternStop_frame (m := 536870910) (h_sub := rfl) ..)
  | passDecision i => exact keeps_of_frame (execPassDecision_frame (m := 536870910) (h_sub := rfl) ..)
  | passEnd => exact keeps_of_frame (execPassEnd_frame (m := 536870910) (h_sub := rfl) ..)
  | playbackUnderrun d detail => exact keeps_of_frame (execPlaybackUnderrun_frame (m := 536870910) (h_sub := rfl) ..)
  | checkerSync n sx => exact keeps_of_frame (execCheckerSync_frame (m := 536870910) (h_sub := rfl) ..)
  | checkerViolation n sx => exact keeps_of_frame (execCheckerViolation_frame (m := 536870910) (h_sub := rfl) ..)
  | maskCheckRecord n w => exact keeps_of_frame (execMaskCheckRecord_frame (m := 536870910) (h_sub := rfl) ..)
  | checkerDone n => exact keeps_of_frame (execCheckerDone_frame (m := 536870910) (h_sub := rfl) ..)
  | compress h p => exact keeps_of_frame (execCompress_frame (m := 536870910) (h_sub := rfl) ..)
  | decompress h p => exact keeps_of_frame (execDecompress_frame (m := 536870910) (h_sub := rfl) ..)
  | engineJobStart u => exact keeps_of_frame (execEngineJobStart_frame (m := 536870910) (h_sub := rfl) ..)
  | readoutVerification f sub seg entry => exact keeps_of_frame (execReadoutVerification_frame (m := 536870910) (h_sub := rfl) ..)
  | compressedBlockOut e chk => exact keeps_of_frame (execCompressedBlockOut_frame (m := 536870910) (h_sub := rfl) ..)
  | decompressionEccError d => exact keeps_of_frame (execDecompressionEccError_frame (m := 536870910) (h_sub := rfl) ..)
  | readFold h p => exact keeps_of_frame (execReadFold_frame (m := 536870910) (h_sub := rfl) ..)
  | readRange h p => exact keeps_of_frame (execReadRange_frame (m := 536870910) (h_sub := rfl) ..)
  | readIndex h p => exact keeps_of_frame (execReadIndex_frame (m := 536870910) (h_sub := rfl) ..)
  | droverJobStart => exact keeps_of_frame (execDroverJobStart_frame (m := 536870910) (h_sub := rfl) ..)
  | completionTimeout who => exact keeps_of_frame (execCompletionTimeout_frame (m := 536870910) (h_sub := rfl) ..)
  | sqDoorbell n value => exact keeps_of_frame (execSqDoorbell_frame (m := 536870910) (h_sub := rfl) ..)
  | cqDoorbell n value => exact keeps_of_frame (execCqDoorbell_frame (m := 536870910) (h_sub := rfl) ..)
  | commandFetch => exact keeps_of_frame (execCommandFetch_frame (m := 536870910) (h_sub := rfl) ..)
  | completionWrite cid => exact keeps_of_frame (execCompletionWrite_frame (m := 536870910) (h_sub := rfl) ..)
  | coalesceTimeout n => exact keeps_of_frame (execCoalesceTimeout_frame (m := 536870910) (h_sub := rfl) ..)
  | registerWrite m off size be value => exact keeps_of_frame (execRegisterWrite_frame (k := 536870910) (h_sub := rfl) ..)
  | latchRead m off => exact keeps_of_frame (execLatchRead_frame (k := 536870910) (h_sub := rfl) ..)
  | latchLoWrite m off value => exact keeps_of_frame (execLatchLoWrite_frame (k := 536870910) (h_sub := rfl) ..)
  | latchHiWrite m off value => exact keeps_of_frame (execLatchHiWrite_frame (k := 536870910) (h_sub := rfl) ..)
  | sqcClear m off value => exact keeps_of_frame (execSqcClear_frame (k := 536870910) (h_sub := rfl) ..)
  | enWrite m off value => exact keeps_of_frame (execEnWrite_frame (k := 536870910) (h_sub := rfl) ..)
  | chipUnlockWrite m value => exact keeps_of_frame (execChipUnlockWrite_frame (k := 536870910) (h_sub := rfl) ..)
  | keyTimeout m => exact keeps_of_frame (execKeyTimeout_frame (k := 536870910) (h_sub := rfl) ..)
  | keyLockoutEnd m => exact keeps_of_frame (execKeyLockoutEnd_frame (k := 536870910) (h_sub := rfl) ..)
  | ownerWrite m value => exact keeps_of_frame (execOwnerWrite_frame (k := 536870910) (h_sub := rfl) ..)
  | coreReset m value low => exact keeps_of_frame (execCoreReset_frame (k := 536870910) (h_sub := rfl) ..)
  | eqPop m q bad => exact keeps_of_frame (execEqPop_frame (k := 536870910) (h_sub := rfl) ..)
  | eqFlush m q => exact keeps_of_frame (execEqFlush_frame (k := 536870910) (h_sub := rfl) ..)
  | eqProducerWord q owner word bytes => exact keeps_of_frame (execEqProducerWord_frame (m := 536870910) (h_sub := rfl) ..)
  | eqLineTimeout q owner word => exact keeps_of_frame (execEqLineTimeout_frame (m := 536870910) (h_sub := rfl) ..)
  | dacCodeWrite m ch value => exact keeps_of_frame (execDacCodeWrite_frame (k := 536870910) (h_sub := rfl) ..)
  | dacFreezeWrite m value => exact keeps_of_frame (execDacFreezeWrite_frame (k := 536870910) (h_sub := rfl) ..)
  | ddsFtwWrite m ch hi value => exact keeps_of_frame (execDdsFtwWrite_frame (k := 536870910) (h_sub := rfl) ..)
  | laneOfsWrite m lane value => exact keeps_of_frame (execLaneOfsWrite_frame (k := 536870910) (h_sub := rfl) ..)
  | laneTestWrite m g lane value => exact keeps_of_frame (execLaneTestWrite_frame (k := 536870910) (h_sub := rfl) ..)
  | bar2Write off data portA rivals => exact keeps_of_frame (execBar2Write_frame (m := 536870910) (h_sub := rfl) ..)
  | bar2SetAliasWrite off data portA rivals => exact keeps_of_frame (execBar2SetAliasWrite_frame (m := 536870910) (h_sub := rfl) ..)
  | bar2ClearAliasWrite off data portA rivals => exact keeps_of_frame (execBar2ClearAliasWrite_frame (m := 536870910) (h_sub := rfl) ..)
  | msixUnmask => exact keeps_of_frame (execMsixUnmask_frame (m := 536870910) (h_sub := rfl) ..)
  | pcieD3hotEntry => exact keeps_of_frame (execPcieD3hotEntry_frame (m := 536870910) (h_sub := rfl) ..)
  | hostReset cause => exact keeps_of_frame (execHostReset_frame (m := 536870910) (h_sub := rfl) ..)
  | powerOnReset image retry => exact keeps_of_frame (execPowerOnReset_frame (m := 536870910) (h_sub := rfl) ..)
  | testReset => exact keeps_of_frame (execTestReset_frame (m := 536870910) (h_sub := rfl) ..)
  | supplyFail rail mv => exact keeps_of_frame (execSupplyFail_frame (m := 536870910) (h_sub := rfl) ..)
  | supplyOvervoltage rail mv => exact keeps_of_frame (execSupplyOvervoltage_frame (m := 536870910) (h_sub := rfl) ..)
  | supplyWarning io mv => exact keeps_of_frame (execSupplyWarning_frame (m := 536870910) (h_sub := rfl) ..)
  | supplyWarningClear io mv => exact keeps_of_frame (execSupplyWarningClear_frame (m := 536870910) (h_sub := rfl) ..)
  | avsOffTarget meas => exact keeps_of_frame (execAvsOffTarget_frame (m := 536870910) (h_sub := rfl) ..)
  | refclkLoss => exact keeps_of_frame (execRefclkLoss_frame (m := 536870910) (h_sub := rfl) ..)
  | refclkReturn => exact keeps_of_frame (execRefclkReturn_frame (m := 536870910) (h_sub := rfl) ..)
  | aonReturnToRefclk => exact keeps_of_frame (execAonReturnToRefclk_frame (m := 536870910) (h_sub := rfl) ..)
  | oscillatorTrim => exact keeps_of_frame (execOscillatorTrim_frame (m := 536870910) (h_sub := rfl) ..)
  | regionSleep => exact keeps_of_frame (execRegionSleep_frame (m := 536870910) (h_sub := rfl) ..)
  | hbmSelfRefreshEntry stack => exact keeps_of_frame (execHbmSelfRefreshEntry_frame (m := 536870910) (h_sub := rfl) ..)
  | memPower h target state region mask => exact keeps_of_frame (execMemPower_frame (m := 536870910) (h_sub := rfl) ..)
  | bankPowerChangeDone u => exact keeps_of_frame (execBankPowerChangeDone_frame (m := 536870910) (h_sub := rfl) ..)
  | tamperEvent src => exact execTamperEvent_kept ..
  | lifecycleAdvance h target len src => exact execLifecycleAdvance_kept ..
  | keyProvision h slot kind len src => exact keeps_of_frame (execKeyProvision_frame (m := 536870910) (h_sub := rfl) ..)
  | tamperStatus h => exact keeps_of_frame (execTamperStatus_frame (m := 536870910) (h_sub := rfl) ..)
  | wipe h scope => exact keeps_of_frame (execWipe_frame (m := 536870910) (h_sub := rfl) ..)
  | rxDataBlock n levels => exact keeps_of_frame (execRxDataBlock_frame (m := 536870910) (h_sub := rfl) ..)
  | rxMarkerBlock n levels => exact keeps_of_frame (execRxMarkerBlock_frame (m := 536870910) (h_sub := rfl) ..)
  | rxIdleBlock n levels => exact keeps_of_frame (execRxIdleBlock_frame (m := 536870910) (h_sub := rfl) ..)
  | rxCtrlBlock n levels => exact keeps_of_frame (execRxCtrlBlock_frame (m := 536870910) (h_sub := rfl) ..)
  | laneLockLost n => exact keeps_of_frame (execLaneLockLost_frame (m := 536870910) (h_sub := rfl) ..)
  | laneRelockExpiry n => exact keeps_of_frame (execLaneRelockExpiry_frame (m := 536870910) (h_sub := rfl) ..)
  | rxClockLost g => exact keeps_of_frame (execRxClockLost_frame (m := 536870910) (h_sub := rfl) ..)
  | wakeBurst g => exact keeps_of_frame (execWakeBurst_frame (m := 536870910) (h_sub := rfl) ..)
  | sbHello g fr => exact keeps_of_frame (execSbHello_frame (m := 536870910) (h_sub := rfl) ..)
  | sbTrain g fr => exact keeps_of_frame (execSbTrain_frame (m := 536870910) (h_sub := rfl) ..)
  | sbSpare g fr => exact keeps_of_frame (execSbSpare_frame (m := 536870910) (h_sub := rfl) ..)
  | sbTest g fr => exact keeps_of_frame (execSbTest_frame (m := 536870910) (h_sub := rfl) ..)
  | sbPower g fr => exact keeps_of_frame (execSbPower_frame (m := 536870910) (h_sub := rfl) ..)
  | sbStatus g fr => exact keeps_of_frame (execSbStatus_frame (m := 536870910) (h_sub := rfl) ..)
  | sbNak g fr => exact keeps_of_frame (execSbNak_frame (m := 536870910) (h_sub := rfl) ..)
  | sbRetry g => exact keeps_of_frame (execSbRetry_frame (m := 536870910) (h_sub := rfl) ..)
  | sbLost g => exact keeps_of_frame (execSbLost_frame (m := 536870910) (h_sub := rfl) ..)
  | sbHelloSend g => exact keeps_of_frame (execSbHelloSend_frame (m := 536870910) (h_sub := rfl) ..)
  | sbActivityWake g => exact keeps_of_frame (execSbActivityWake_frame (m := 536870910) (h_sub := rfl) ..)
  | trainLanesPassed g => exact keeps_of_frame (execTrainLanesPassed_frame (m := 536870910) (h_sub := rfl) ..)
  | trainJudgeDeadline g passed => exact keeps_of_frame (execTrainJudgeDeadline_frame (m := 536870910) (h_sub := rfl) ..)
  | trainAttemptTimeout g => exact keeps_of_frame (execTrainAttemptTimeout_frame (m := 536870910) (h_sub := rfl) ..)
  | reprobe g => exact keeps_of_frame (execReprobe_frame (m := 536870910) (h_sub := rfl) ..)
  | linkTrain h dir group => exact keeps_of_frame (execLinkTrain_frame (m := 536870910) (h_sub := rfl) ..)
  | linkSleep h dir group action => exact keeps_of_frame (execLinkSleep_frame (m := 536870910) (h_sub := rfl) ..)
  | eyeScan h p => exact keeps_of_frame (execEyeScan_frame (m := 536870910) (h_sub := rfl) ..)
  | bitSlip h lane count => exact keeps_of_frame (execBitSlip_frame (m := 536870910) (h_sub := rfl) ..)
  | loopback h kind dir lanes => exact keeps_of_frame (execLoopback_frame (m := 536870910) (h_sub := rfl) ..)
  | prbs h dir func pattern peer lanes => exact keeps_of_frame (execPrbs_frame (m := 536870910) (h_sub := rfl) ..)
  | lanePatrolScan n vMargin phMargin => exact keeps_of_frame (execLanePatrolScan_frame (m := 536870910) (h_sub := rfl) ..)
  | eccWriteback loc overwritten => exact keeps_of_frame (execEccWriteback_frame (m := 536870910) (h_sub := rfl) ..)
  | scrubStep loc err => exact keeps_of_frame (execScrubStep_frame (m := 536870910) (h_sub := rfl) ..)
  | rowRemap loc => exact keeps_of_frame (execRowRemap_frame (m := 536870910) (h_sub := rfl) ..)
  | hbmPageRemap stack page => exact keeps_of_frame (execHbmPageRemap_frame (m := 536870910) (h_sub := rfl) ..)
  | patrolMove q b pass => exact keeps_of_frame (execPatrolMove_frame (m := 536870910) (h_sub := rfl) ..)
  | patrolMismatch q b => exact keeps_of_frame (execPatrolMismatch_frame (m := 536870910) (h_sub := rfl) ..)
  | patrolConfirmEnd q b => exact keeps_of_frame (execPatrolConfirmEnd_frame (m := 536870910) (h_sub := rfl) ..)
  | spareStatus h dest => exact keeps_of_frame (execSpareStatus_frame (m := 536870910) (h_sub := rfl) ..)
  | spareCommit h kind unit => exact keeps_of_frame (execSpareCommit_frame (m := 536870910) (h_sub := rfl) ..)
  | wearForecast h dest => exact keeps_of_frame (execWearForecast_frame (m := 536870910) (h_sub := rfl) ..)
  | ageingMeasure q slow roOk => exact keeps_of_frame (execAgeingMeasure_frame (m := 536870910) (h_sub := rfl) ..)
  | wearLogCommit good => exact keeps_of_frame (execWearLogCommit_frame (m := 536870910) (h_sub := rfl) ..)
  | lockstepMismatch => exact keeps_of_frame (execLockstepMismatch_frame (m := 536870910) (h_sub := rfl) ..)
  | coreSelfTestDone pass0 pass1 pass2 => exact keeps_of_frame (execCoreSelfTestDone_frame (m := 536870910) (h_sub := rfl) ..)
  | fwStage h len src => exact keeps_of_frame (execFwStage_frame (m := 536870910) (h_sub := rfl) ..)
  | fwActivate h => exact keeps_of_frame (execFwActivate_frame (m := 536870910) (h_sub := rfl) ..)
  | handoverTimeout => exact keeps_of_frame (execHandoverTimeout_frame (m := 536870910) (h_sub := rfl) ..)
  | nvWrite h area len offset src => exact keeps_of_frame (execNvWrite_frame (m := 536870910) (h_sub := rfl) ..)
  | deckRedealTimeout => exact keeps_of_frame (execDeckRedealTimeout_frame (m := 536870910) (h_sub := rfl) ..)
  | regionsReady => exact keeps_of_frame (execRegionsReady_frame (m := 536870910) (h_sub := rfl) ..)
  | timebasePllLock => exact keeps_of_frame (execTimebasePllLock_frame (m := 536870910) (h_sub := rfl) ..)
  | prbsCheckerLock g lane => exact keeps_of_frame (execPrbsCheckerLock_frame (m := 536870910) (h_sub := rfl) ..)
  | prbsLost g lane errs => exact keeps_of_frame (execPrbsLost_frame (m := 536870910) (h_sub := rfl) ..)
  | trigOutPulseEnd => exact keeps_of_frame (execTrigOutPulseEnd_frame (m := 536870910) (h_sub := rfl) ..)
  | syncOutPulseEnd => exact keeps_of_frame (execSyncOutPulseEnd_frame (m := 536870910) (h_sub := rfl) ..)
  | pcieLinkUp speed width reversed flit => exact keeps_of_frame (execPcieLinkUp_frame (m := 536870910) (h_sub := rfl) ..)
  | pcieD0Return => exact keeps_of_frame (execPcieD0Return_frame (m := 536870910) (h_sub := rfl) ..)
  | porNLow => exact keeps_of_frame (execPorNLow_frame (m := 536870910) (h_sub := rfl) ..)
  | tamperSourceInactive src => exact keeps_of_frame (execTamperSourceInactive_frame (m := 536870910) (h_sub := rfl) ..)
  | bar2Read off len rivals => exact keeps_of_frame (execBar2Read_frame (m := 536870910) (h_sub := rfl) ..)
  | registerReadError m off size => exact keeps_of_frame (execRegisterReadError_frame (k := 536870910) (h_sub := rfl) ..)
  | shepherdCheckpoint => exact keeps_of_frame (execShepherdCheckpoint_frame (m := 536870910) (h_sub := rfl) ..)

/-- Every command keeps the canonical form of the memories. -/
theorem exec_memOk (i : Instr) (s : State) (hs : s.memOk) : outMem (exec i s) := by
  cases i with
  | identify h dest => exact execIdentify_memOk (hs := hs) ..
  | getLog h log max fromSeq dest => exact execGetLog_memOk (hs := hs) ..
  | setTime h mode timeout time => exact outMem_of_frame (execSetTime_frame (m := 2147481599) (h_sub := rfl) ..) hs
  | syncInEdge falling t held => exact outMem_of_frame (execSyncInEdge_frame (m := 2147481599) (h_sub := rfl) ..) hs
  | atSyncLoad => exact outMem_of_frame (execAtSyncLoad_frame (m := 2147481599) (h_sub := rfl) ..) hs
  | setTimeTimeout => exact outMem_of_frame (execSetTimeTimeout_frame (m := 2147481599) (h_sub := rfl) ..) hs
  | syncOutPulse => exact outMem_of_frame (execSyncOutPulse_frame (m := 2147481599) (h_sub := rfl) ..) hs
  | tbaseStop => exact outMem_of_frame (execTbaseStop_frame (m := 2147481599) (h_sub := rfl) ..) hs
  | tbaseStart => exact outMem_of_frame (execTbaseStart_frame (m := 2147481599) (h_sub := rfl) ..) hs
  | deckLoad h slot len src => exact outMem_of_frame (execDeckLoad_frame (m := 2147481599) (h_sub := rfl) ..) hs
  | deckVerify h slot => exact outMem_of_frame (execDeckVerify_frame (m := 2147481599) (h_sub := rfl) ..) hs
  | deckActivate h slot => exact execDeckActivate_memOk (hs := hs) ..
  | deckRedeal h slot groups timeout => exact outMem_of_frame (execDeckRedeal_frame (m := 2147481599) (h_sub := rfl) ..) hs
  | dealBoundary u => exact execDealBoundary_memOk (hs := hs) ..
  | guardViolation region kind port owner op cycle item => exact outMem_of_frame (execGuardViolation_frame (m := 2147481599) (h_sub := rfl) ..) hs
  | thermalSensorCrossing stack temp => exact outMem_of_frame (execThermalSensorCrossing_frame (m := 2147481599) (h_sub := rfl) ..) hs
  | arm h groups mode sa => exact execArm_memOk (hs := hs) ..
  | disarm h groups sd => exact execDisarm_memOk (hs := hs) ..
  | forceTrigger h groups sf => exact outMem_of_frame (execForceTrigger_frame (m := 2147481599) (h_sub := rfl) ..) hs
  | setPost h group post sc => exact execSetPost_memOk (hs := hs) ..
  | foldStatus h groups dest at_ => exact execFoldStatus_memOk (hs := hs) ..
  | prefillComplete g => exact outMem_of_frame (execPrefillComplete_frame (m := 2147481599) (h_sub := rfl) ..) hs
  | handFire h sx => exact execHandFire_memOk (hs := hs) ..
  | triggerAccept g sx => exact execTriggerAccept_memOk (hs := hs) ..
  | trigOutPulse sx => exact outMem_of_frame (execTrigOutPulse_frame (m := 2147481599) (h_sub := rfl) ..) hs
  | triggerRecordWrite sx => exact outMem_of_frame (execTriggerRecordWrite_frame (m := 2147481599) (h_sub := rfl) ..) hs
  | segmentClose g => exact execSegmentClose_memOk (hs := hs) ..
  | holdoffEnd g => exact execHoldoffEnd_memOk (hs := hs) ..
  | foldOverflow f cause sx => exact execFoldOverflow_memOk (hs := hs) ..
  | capturePageStore f inst unit => exact execCapturePageStore_memOk (hs := hs) ..
  | windowRecord f inst w => exact execWindowRecord_memOk (hs := hs) ..
  | counterTargetReached n sx => exact execCounterTargetReached_memOk (hs := hs) ..
  | counterFeedLate n inc i => exact outMem_of_frame (execCounterFeedLate_frame (m := 2147481599) (h_sub := rfl) ..) hs
  | timerExpiry n sx => exact execTimerExpiry_memOk (hs := hs) ..
  | handTimerExpiry h sx => exact execHandTimerExpiry_memOk (hs := hs) ..
  | recogSliceParity r => exact outMem_of_frame (execRecogSliceParity_frame (m := 2147481599) (h_sub := rfl) ..) hs
  | handParity h => exact outMem_of_frame (execHandParity_frame (m := 2147481599) (h_sub := rfl) ..) hs
  | flockKeyComplete l inst sx => exact outMem_of_frame (execFlockKeyComplete_frame (m := 2147481599) (h_sub := rfl) ..) hs
  | flockResult f sx => exact outMem_of_frame (execFlockResult_frame (m := 2147481599) (h_sub := rfl) ..) hs
  | flockInsert h key action => exact outMem_of_frame (execFlockInsert_frame (m := 2147481599) (h_sub := rfl) ..) hs
  | flockDelete h key => exact outMem_of_frame (execFlockDelete_frame (m := 2147481599) (h_sub := rfl) ..) hs
  | flockLookup h key => exact outMem_of_frame (execFlockLookup_frame (m := 2147481599) (h_sub := rfl) ..) hs
  | flockBulk h mode count src => exact outMem_of_frame (execFlockBulk_frame (m := 2147481599) (h_sub := rfl) ..) hs
  | flockStashMigrate n => exact outMem_of_frame (execFlockStashMigrate_frame (m := 2147481599) (h_sub := rfl) ..) hs
  | flockBucketRestore sub bucket => exact outMem_of_frame (execFlockBucketRestore_frame (m := 2147481599) (h_sub := rfl) ..) hs
  | tinStamp n t falling => exact execTinStamp_memOk (hs := hs) ..
  | trigInEdge t level held => exact outMem_of_frame (execTrigInEdge_frame (m := 2147481599) (h_sub := rfl) ..) hs
  | gateInChange t level held => exact execGateInChange_memOk (hs := hs) ..
  | tinConfig h p => exact outMem_of_frame (execTinConfig_frame (m := 2147481599) (h_sub := rfl) ..) hs
  | tdcRecalibration n ok => exact execTdcRecalibration_memOk (hs := hs) ..
  | measureInterval h p => exact execMeasureInterval_memOk (hs := hs) ..
  | measureFreq h p => exact execMeasureFreq_memOk (hs := hs) ..
  | measStopWindowEnd u => exact execMeasStopWindowEnd_memOk (hs := hs) ..
  | measGateTimer u => exact execMeasGateTimer_memOk (hs := hs) ..
  | measTimeout u => exact execMeasTimeout_memOk (hs := hs) ..
  | dacSet h channels span values => exact outMem_of_frame (execDacSet_frame (m := 2147481599) (h_sub := rfl) ..) hs
  | ddsSet h p => exact outMem_of_frame (execDdsSet_frame (m := 2147481599) (h_sub := rfl) ..) hs
  | ddsT0 ch => exact outMem_of_frame (execDdsT0_frame (m := 2147481599) (h_sub := rfl) ..) hs
  | dacUpdateTick => exact outMem_of_frame (execDacUpdateTick_frame (m := 2147481599) (h_sub := rfl) ..) hs
  | thrCurrentLimit ch => exact outMem_of_frame (execThrCurrentLimit_frame (m := 2147481599) (h_sub := rfl) ..) hs
  | blockStateSettle ctrl => exact outMem_of_frame (execBlockStateSettle_frame (m := 2147481599) (h_sub := rfl) ..) hs
  | patternLoad h p => exact execPatternLoad_memOk (hs := hs) ..
  | patternPlay h p => exact outMem_of_frame (execPatternPlay_frame (m := 2147481599) (h_sub := rfl) ..) hs
  | playbackStart sx => exact outMem_of_frame (execPlaybackStart_frame (m := 2147481599) (h_sub := rfl) ..) hs
  | patternStop h mode sx => exact execPatternStop_memOk (hs := hs) ..
  | passDecision i => exact outMem_of_frame (execPassDecision_frame (m := 2147481599) (h_sub := rfl) ..) hs
  | passEnd => exact outMem_of_frame (execPassEnd_frame (m := 2147481599) (h_sub := rfl) ..) hs
  | playbackUnderrun d detail => exact outMem_of_frame (execPlaybackUnderrun_frame (m := 2147481599) (h_sub := rfl) ..) hs
  | checkerSync n sx => exact execCheckerSync_memOk (hs := hs) ..
  | checkerViolation n sx => exact execCheckerViolation_memOk (hs := hs) ..
  | maskCheckRecord n w => exact outMem_of_frame (execMaskCheckRecord_frame (m := 2147481599) (h_sub := rfl) ..) hs
  | checkerDone n => exact execCheckerDone_memOk (hs := hs) ..
  | compress h p => exact outMem_of_frame (execCompress_frame (m := 2147481599) (h_sub := rfl) ..) hs
  | decompress h p => exact outMem_of_frame (execDecompress_frame (m := 2147481599) (h_sub := rfl) ..) hs
  | engineJobStart u => exact execEngineJobStart_memOk (hs := hs) ..
  | readoutVerification f sub seg entry => exact outMem_of_frame (execReadoutVerification_frame (m := 2147481599) (h_sub := rfl) ..) hs
  | compressedBlockOut e chk => exact execCompressedBlockOut_memOk (hs := hs) ..
  | decompressionEccError d => exact outMem_of_frame (execDecompressionEccError_frame (m := 2147481599) (h_sub := rfl) ..) hs
  | readFold h p => exact outMem_of_frame (execReadFold_frame (m := 2147481599) (h_sub := rfl) ..) hs
  | readRange h p => exact outMem_of_frame (execReadRange_frame (m := 2147481599) (h_sub := rfl) ..) hs
  | readIndex h p => exact outMem_of_frame (execReadIndex_frame (m := 2147481599) (h_sub := rfl) ..) hs
  | droverJobStart => exact execDroverJobStart_memOk (hs := hs) ..
  | completionTimeout who => exact outMem_of_frame (execCompletionTimeout_frame (m := 2147481599) (h_sub := rfl) ..) hs
  | sqDoorbell n value => exact outMem_of_frame (execSqDoorbell_frame (m := 2147481599) (h_sub := rfl) ..) hs
  | cqDoorbell n value => exact outMem_of_frame (execCqDoorbell_frame (m := 2147481599) (h_sub := rfl) ..) hs
  | commandFetch => exact execCommandFetch_memOk (hs := hs) ..
  | completionWrite cid => exact execCompletionWrite_memOk (hs := hs) ..
  | coalesceTimeout n => exact outMem_of_frame (execCoalesceTimeout_frame (m := 2147481599) (h_sub := rfl) ..) hs
  | registerWrite m off size be value => exact execRegisterWrite_memOk (hs := hs) ..
  | latchRead m off => exact outMem_of_frame (execLatchRead_frame (k := 2147481599) (h_sub := rfl) ..) hs
  | latchLoWrite m off value => exact execLatchLoWrite_memOk (hs := hs) ..
  | latchHiWrite m off value => exact execLatchHiWrite_memOk (hs := hs) ..
  | sqcClear m off value => exact execSqcClear_memOk (hs := hs) ..
  | enWrite m off value => exact execEnWrite_memOk (hs := hs) ..
  | chipUnlockWrite m value => exact execChipUnlockWrite_memOk (hs := hs) ..
  | keyTimeout m => exact outMem_of_frame (execKeyTimeout_frame (k := 2147481599) (h_sub := rfl) ..) hs
  | keyLockoutEnd m => exact outMem_of_frame (execKeyLockoutEnd_frame (k := 2147481599) (h_sub := rfl) ..) hs
  | ownerWrite m value => exact execOwnerWrite_memOk (hs := hs) ..
  | coreReset m value low => exact execCoreReset_memOk (hs := hs) ..
  | eqPop m q bad => exact outMem_of_frame (execEqPop_frame (k := 2147481599) (h_sub := rfl) ..) hs
  | eqFlush m q => exact execEqFlush_memOk (hs := hs) ..
  | eqProducerWord q owner word bytes => exact outMem_of_frame (execEqProducerWord_frame (m := 2147481599) (h_sub := rfl) ..) hs
  | eqLineTimeout q owner word => exact outMem_of_frame (execEqLineTimeout_frame (m := 2147481599) (h_sub := rfl) ..) hs
  | dacCodeWrite m ch value => exact execDacCodeWrite_memOk (hs := hs) ..
  | dacFreezeWrite m value => exact execDacFreezeWrite_memOk (hs := hs) ..
  | ddsFtwWrite m ch hi value => exact execDdsFtwWrite_memOk (hs := hs) ..
  | laneOfsWrite m lane value => exact execLaneOfsWrite_memOk (hs := hs) ..
  | laneTestWrite m g lane value => exact execLaneTestWrite_memOk (hs := hs) ..
  | bar2Write off data portA rivals => exact execBar2Write_memOk (hs := hs) ..
  | bar2SetAliasWrite off data portA rivals => exact execBar2SetAliasWrite_memOk (hs := hs) ..
  | bar2ClearAliasWrite off data portA rivals => exact execBar2ClearAliasWrite_memOk (hs := hs) ..
  | msixUnmask => exact outMem_of_frame (execMsixUnmask_frame (m := 2147481599) (h_sub := rfl) ..) hs
  | pcieD3hotEntry => exact outMem_of_frame (execPcieD3hotEntry_frame (m := 2147481599) (h_sub := rfl) ..) hs
  | hostReset cause => exact outMem_of_frame (execHostReset_frame (m := 2147481599) (h_sub := rfl) ..) hs
  | powerOnReset image retry => exact execPowerOnReset_memOk (hs := hs) ..
  | testReset => exact outMem_of_frame (execTestReset_frame (m := 2147481599) (h_sub := rfl) ..) hs
  | supplyFail rail mv => exact execSupplyFail_memOk (hs := hs) ..
  | supplyOvervoltage rail mv => exact outMem_of_frame (execSupplyOvervoltage_frame (m := 2147481599) (h_sub := rfl) ..) hs
  | supplyWarning io mv => exact outMem_of_frame (execSupplyWarning_frame (m := 2147481599) (h_sub := rfl) ..) hs
  | supplyWarningClear io mv => exact outMem_of_frame (execSupplyWarningClear_frame (m := 2147481599) (h_sub := rfl) ..) hs
  | avsOffTarget meas => exact outMem_of_frame (execAvsOffTarget_frame (m := 2147481599) (h_sub := rfl) ..) hs
  | refclkLoss => exact outMem_of_frame (execRefclkLoss_frame (m := 2147481599) (h_sub := rfl) ..) hs
  | refclkReturn => exact outMem_of_frame (execRefclkReturn_frame (m := 2147481599) (h_sub := rfl) ..) hs
  | aonReturnToRefclk => exact outMem_of_frame (execAonReturnToRefclk_frame (m := 2147481599) (h_sub := rfl) ..) hs
  | oscillatorTrim => exact outMem_of_frame (execOscillatorTrim_frame (m := 2147481599) (h_sub := rfl) ..) hs
  | regionSleep => exact execRegionSleep_memOk (hs := hs) ..
  | hbmSelfRefreshEntry stack => exact outMem_of_frame (execHbmSelfRefreshEntry_frame (m := 2147481599) (h_sub := rfl) ..) hs
  | memPower h target state region mask => exact execMemPower_memOk (hs := hs) ..
  | bankPowerChangeDone u => exact execBankPowerChangeDone_memOk (hs := hs) ..
  | tamperEvent src => exact execTamperEvent_memOk (hs := hs) ..
  | lifecycleAdvance h target len src => exact execLifecycleAdvance_memOk (hs := hs) ..
  | keyProvision h slot kind len src => exact execKeyProvision_memOk (hs := hs) ..
  | tamperStatus h => exact outMem_of_frame (execTamperStatus_frame (m := 2147481599) (h_sub := rfl) ..) hs
  | wipe h scope => exact execWipe_memOk (hs := hs) ..
  | rxDataBlock n levels => exact outMem_of_frame (execRxDataBlock_frame (m := 2147481599) (h_sub := rfl) ..) hs
  | rxMarkerBlock n levels => exact outMem_of_frame (execRxMarkerBlock_frame (m := 2147481599) (h_sub := rfl) ..) hs
  | rxIdleBlock n levels => exact outMem_of_frame (execRxIdleBlock_frame (m := 2147481599) (h_sub := rfl) ..) hs
  | rxCtrlBlock n levels => exact outMem_of_frame (execRxCtrlBlock_frame (m := 2147481599) (h_sub := rfl) ..) hs
  | laneLockLost n => exact outMem_of_frame (execLaneLockLost_frame (m := 2147481599) (h_sub := rfl) ..) hs
  | laneRelockExpiry n => exact outMem_of_frame (execLaneRelockExpiry_frame (m := 2147481599) (h_sub := rfl) ..) hs
  | rxClockLost g => exact outMem_of_frame (execRxClockLost_frame (m := 2147481599) (h_sub := rfl) ..) hs
  | wakeBurst g => exact outMem_of_frame (execWakeBurst_frame (m := 2147481599) (h_sub := rfl) ..) hs
  | sbHello g fr => exact outMem_of_frame (execSbHello_frame (m := 2147481599) (h_sub := rfl) ..) hs
  | sbTrain g fr => exact outMem_of_frame (execSbTrain_frame (m := 2147481599) (h_sub := rfl) ..) hs
  | sbSpare g fr => exact outMem_of_frame (execSbSpare_frame (m := 2147481599) (h_sub := rfl) ..) hs
  | sbTest g fr => exact outMem_of_frame (execSbTest_frame (m := 2147481599) (h_sub := rfl) ..) hs
  | sbPower g fr => exact outMem_of_frame (execSbPower_frame (m := 2147481599) (h_sub := rfl) ..) hs
  | sbStatus g fr => exact outMem_of_frame (execSbStatus_frame (m := 2147481599) (h_sub := rfl) ..) hs
  | sbNak g fr => exact outMem_of_frame (execSbNak_frame (m := 2147481599) (h_sub := rfl) ..) hs
  | sbRetry g => exact outMem_of_frame (execSbRetry_frame (m := 2147481599) (h_sub := rfl) ..) hs
  | sbLost g => exact outMem_of_frame (execSbLost_frame (m := 2147481599) (h_sub := rfl) ..) hs
  | sbHelloSend g => exact outMem_of_frame (execSbHelloSend_frame (m := 2147481599) (h_sub := rfl) ..) hs
  | sbActivityWake g => exact outMem_of_frame (execSbActivityWake_frame (m := 2147481599) (h_sub := rfl) ..) hs
  | trainLanesPassed g => exact outMem_of_frame (execTrainLanesPassed_frame (m := 2147481599) (h_sub := rfl) ..) hs
  | trainJudgeDeadline g passed => exact outMem_of_frame (execTrainJudgeDeadline_frame (m := 2147481599) (h_sub := rfl) ..) hs
  | trainAttemptTimeout g => exact outMem_of_frame (execTrainAttemptTimeout_frame (m := 2147481599) (h_sub := rfl) ..) hs
  | reprobe g => exact outMem_of_frame (execReprobe_frame (m := 2147481599) (h_sub := rfl) ..) hs
  | linkTrain h dir group => exact outMem_of_frame (execLinkTrain_frame (m := 2147481599) (h_sub := rfl) ..) hs
  | linkSleep h dir group action => exact outMem_of_frame (execLinkSleep_frame (m := 2147481599) (h_sub := rfl) ..) hs
  | eyeScan h p => exact execEyeScan_memOk (hs := hs) ..
  | bitSlip h lane count => exact outMem_of_frame (execBitSlip_frame (m := 2147481599) (h_sub := rfl) ..) hs
  | loopback h kind dir lanes => exact outMem_of_frame (execLoopback_frame (m := 2147481599) (h_sub := rfl) ..) hs
  | prbs h dir func pattern peer lanes => exact outMem_of_frame (execPrbs_frame (m := 2147481599) (h_sub := rfl) ..) hs
  | lanePatrolScan n vMargin phMargin => exact outMem_of_frame (execLanePatrolScan_frame (m := 2147481599) (h_sub := rfl) ..) hs
  | eccWriteback loc overwritten => exact execEccWriteback_memOk (hs := hs) ..
  | scrubStep loc err => exact execScrubStep_memOk (hs := hs) ..
  | rowRemap loc => exact execRowRemap_memOk (hs := hs) ..
  | hbmPageRemap stack page => exact execHbmPageRemap_memOk (hs := hs) ..
  | patrolMove q b pass => exact outMem_of_frame (execPatrolMove_frame (m := 2147481599) (h_sub := rfl) ..) hs
  | patrolMismatch q b => exact outMem_of_frame (execPatrolMismatch_frame (m := 2147481599) (h_sub := rfl) ..) hs
  | patrolConfirmEnd q b => exact outMem_of_frame (execPatrolConfirmEnd_frame (m := 2147481599) (h_sub := rfl) ..) hs
  | spareStatus h dest => exact execSpareStatus_memOk (hs := hs) ..
  | spareCommit h kind unit => exact outMem_of_frame (execSpareCommit_frame (m := 2147481599) (h_sub := rfl) ..) hs
  | wearForecast h dest => exact execWearForecast_memOk (hs := hs) ..
  | ageingMeasure q slow roOk => exact outMem_of_frame (execAgeingMeasure_frame (m := 2147481599) (h_sub := rfl) ..) hs
  | wearLogCommit good => exact outMem_of_frame (execWearLogCommit_frame (m := 2147481599) (h_sub := rfl) ..) hs
  | lockstepMismatch => exact outMem_of_frame (execLockstepMismatch_frame (m := 2147481599) (h_sub := rfl) ..) hs
  | coreSelfTestDone pass0 pass1 pass2 => exact execCoreSelfTestDone_memOk (hs := hs) ..
  | fwStage h len src => exact outMem_of_frame (execFwStage_frame (m := 2147481599) (h_sub := rfl) ..) hs
  | fwActivate h => exact outMem_of_frame (execFwActivate_frame (m := 2147481599) (h_sub := rfl) ..) hs
  | handoverTimeout => exact outMem_of_frame (execHandoverTimeout_frame (m := 2147481599) (h_sub := rfl) ..) hs
  | nvWrite h area len offset src => exact outMem_of_frame (execNvWrite_frame (m := 2147481599) (h_sub := rfl) ..) hs
  | deckRedealTimeout => exact execDeckRedealTimeout_memOk (hs := hs) ..
  | regionsReady => exact execRegionsReady_memOk (hs := hs) ..
  | timebasePllLock => exact outMem_of_frame (execTimebasePllLock_frame (m := 2147481599) (h_sub := rfl) ..) hs
  | prbsCheckerLock g lane => exact outMem_of_frame (execPrbsCheckerLock_frame (m := 2147481599) (h_sub := rfl) ..) hs
  | prbsLost g lane errs => exact outMem_of_frame (execPrbsLost_frame (m := 2147481599) (h_sub := rfl) ..) hs
  | trigOutPulseEnd => exact outMem_of_frame (execTrigOutPulseEnd_frame (m := 2147481599) (h_sub := rfl) ..) hs
  | syncOutPulseEnd => exact outMem_of_frame (execSyncOutPulseEnd_frame (m := 2147481599) (h_sub := rfl) ..) hs
  | pcieLinkUp speed width reversed flit => exact outMem_of_frame (execPcieLinkUp_frame (m := 2147481599) (h_sub := rfl) ..) hs
  | pcieD0Return => exact outMem_of_frame (execPcieD0Return_frame (m := 2147481599) (h_sub := rfl) ..) hs
  | porNLow => exact execPorNLow_memOk (hs := hs) ..
  | tamperSourceInactive src => exact execTamperSourceInactive_memOk (hs := hs) ..
  | bar2Read off len rivals => exact execBar2Read_memOk (hs := hs) ..
  | registerReadError m off size => exact outMem_of_frame (execRegisterReadError_frame (k := 2147481599) (h_sub := rfl) ..) hs
  | shepherdCheckpoint => exact outMem_of_frame (execShepherdCheckpoint_frame (m := 2147481599) (h_sub := rfl) ..) hs

end Sys2Proof.Machine
end

