-- ==== Sys2Proof/Laws/Regs.lean ====
section
/-!
SUPPORT. Registers: reading after a write, the fields of a word, and what raising a flag changes.
-/

namespace Sys2Proof.Machine

@[simp] theorem rd_wr_same (s : State) (o : Nat) (v : Word) : rd (wr s o v) o = v := tabGet_tabPut_same ..
theorem rd_wr_other (s : State) {o o' : Nat} (v : Word) (h : o' ≠ o) : rd (wr s o v) o' = rd s o' := tabGet_tabPut_other _ _ _ h _
theorem raw_wr_other (s : State) {o o' : Nat} (d v : Word) (h : o' ≠ o) : tabGet d (wr s o v).regs o' = tabGet d s.regs o' :=
  tabGet_tabPut_other _ _ _ h _

/-! Frames within the registers -/

theorem regsBut_refl (os : List Nat) (s : State) : s.regsBut os s := fun _ _ _ _ => rfl
theorem regsBut_of_eq {os : List Nat} {s t : State} (h : t.regs = s.regs) : s.regsBut os t := fun _ _ _ _ => by rw [h]
theorem regsBut_trans {os : List Nat} {s t u : State} (h1 : s.regsBut os t) (h2 : t.regsBut os u) : s.regsBut os u :=
  fun o d h k => (h2 o d h k).trans (h1 o d h k)
theorem regsBut_mono {as bs : List Nat} {s t : State} (h : ∀ o ∈ as, o ∈ bs) (k : s.regsBut as t) : s.regsBut bs t :=
  fun o d ho hn => k o d (fun ha => ho (h o ha)) hn
theorem regsBut_wr (s : State) (o : Nat) (v : Word) : s.regsBut [o] (wr s o v) :=
  fun o' d h _ => raw_wr_other s d v (by simpa using h)
theorem regsBut_wrF (s : State) (o hi lo v : Nat) : s.regsBut [o] (wrF s o hi lo v) := regsBut_wr s o _

theorem sqSetR_other {r : Tab Word} {o o' : Nat} (d mask : Word) (h : o' ≠ o) : tabGet d (sqSetR r o mask) o' = tabGet d r o' :=
  tabGet_tabPut_other _ _ _ h _
theorem setTree_other (f : Nat → Nat) (o : Nat) (d : Word) (l : List (Nat × Nat)) : ∀ (r : Tab Word), (∀ p ∈ l, f p.1 ≠ o) →
    tabGet d (setTree f r l) o = tabGet d r o := by
  unfold setTree
  induction l with
  | nil => intro r _; rfl
  | cons p t ih =>
    intro r h
    rw [List.foldl_cons, ih _ (fun q hq => h q (List.mem_cons_of_mem _ hq)), sqSetR_other d _ (Ne.symm (h p List.mem_cons_self))]

theorem groupBits_keys : ∀ (l : List (Nat × Nat)) (acc : List (Nat × Nat)) (q : Nat × Nat),
    q ∈ l.foldl (fun acc p => assocSet acc p.1 ((2 ^ p.2) ||| (assoc acc p.1).getD 0)) acc → (∃ p ∈ l, p.1 = q.1) ∨ ∃ p ∈ acc, p.1 = q.1
  | [], acc, q, h => .inr ⟨q, h, rfl⟩
  | p :: t, acc, q, h => by
    rcases groupBits_keys t _ q h with ⟨a, ha, e⟩ | ⟨a, ha, e⟩
    · exact .inl ⟨a, by simp [ha], e⟩
    · rcases List.mem_cons.1 ha with rfl | hb
      · exact .inl ⟨p, by simp, e⟩
      · exact .inr ⟨a, (List.mem_filter.1 hb).1, e⟩

/-- Whether an optional leaf lies in the interrupt tree. -/
def leafLt (x : Option (Nat × Nat)) : Prop := ∀ p, x = some p → p.1 < 384
theorem leafLt_none : leafLt none := fun _ h => nomatch h
theorem leafLt_some {p : Nat × Nat} (h : p.1 < 384) : leafLt (some p) := fun _ e => Option.some.inj e ▸ h
theorem leafLt_if {c : Prop} [Decidable c] {a b : Option (Nat × Nat)} (ha : c → leafLt a) (hb : ¬c → leafLt b) : leafLt (if c then a else b) := by
  split
  · exact ha ‹_›
  · exact hb ‹_›

/-- Every leaf lies in the interrupt tree (Table 16-9). -/
theorem leafOf_lt (o b : Nat) (hb : b < 24) : leafLt (leafOf o b) := by
  unfold leafOf leafChip leafCmd blkGroup
  dsimp only
  repeat' (first
    | exact leafLt_none
    | (refine leafLt_if (fun _ => ?_) (fun _ => ?_))
    | (refine leafLt_some ?_; (repeat' split) <;> (try dsimp only) <;> omega))

theorem nodeOf_lt (m : Nat) : (nodeOf m).1 < 448 := by
  unfold nodeOf; (repeat' split) <;> (dsimp only; omega)
theorem setTree_frame (f : Nat → Nat) (r : Tab Word) (l : List (Nat × Nat)) {o : Nat} (d : Word) (h : ∀ p ∈ l, f p.1 ≠ o) :
    tabGet d (setTree f r (groupBits l)) o = tabGet d r o := by
  refine setTree_other f o d _ r (fun q hq => ?_)
  rcases groupBits_keys l [] q hq with ⟨p, hp, e⟩ | ⟨p, hp, _⟩
  · rw [← e]; exact h p hp
  · cases hp
theorem climb_other (r r' : Tab Word) (ms : List Nat) {o : Nat} (d : Word) (h : ¬(0x200 ≤ o ∧ o < 0x1000)) :
    tabGet d (climb r r' ms) o = tabGet d r' o := by
  refine setTree_frame _ _ _ d (fun p hp => ?_)
  obtain ⟨m, _, rfl⟩ := List.mem_map.1 hp
  have := nodeOf_lt m
  unfold Reg.IRQ_NODE_STATUS; omega
/-- Raising flags changes, outside the interrupt tree, the status register alone. -/
theorem raiseR_other (r : Tab Word) (a : Nat) (mask : Word) {o : Nat} (d : Word) (h : ¬(0x200 ≤ o ∧ o < 0x1000)) :
    tabGet d (raiseR r a mask) o = tabGet d (sqSetR r a mask) o := by
  unfold raiseR; dsimp only
  rw [climb_other _ _ _ d h]
  refine setTree_frame _ _ _ d (fun p hp => ?_)
  have hp := (List.mem_filter.1 hp).1
  rw [List.mem_eraseDups] at hp
  obtain ⟨b, hb, e⟩ := List.mem_filterMap.1 hp
  have hb : b < 24 := List.mem_range.1 (List.mem_filter.1 hb).1
  have := leafOf_lt a b hb p e
  unfold Reg.IRQ_BLK_STATUS; omega

theorem irqEdge_regs (s : State) : (irqEdge s).regs = s.regs ∨ (irqEdge s).regs = raiseR s.regs Reg.PCIE_STATUS 0x1000 := by
  unfold irqEdge; dsimp only
  split
  · split
    · exact .inl rfl
    · exact .inr rfl
  · exact .inl rfl
/-- What a change of registers changes: what it says, and PCIE_STATUS where the interrupt's edge sends a PME (R338). -/
theorem withRegs_regs (s : State) (r : Tab Word) : (withRegs s r).regs = r ∨ (withRegs s r).regs = raiseR r Reg.PCIE_STATUS 0x1000 := by
  unfold withRegs; split
  · exact irqEdge_regs (s.setRegs r)
  · exact .inl rfl
theorem regsBut_raise (s : State) (o : Nat) (mask : Word) : s.regsBut [o, Reg.PCIE_STATUS] (raise s o mask) := by
  intro o' d h k
  have ho : o' ≠ o := fun e => h (by simp [e])
  have hp : o' ≠ Reg.PCIE_STATUS := fun e => h (by simp [e])
  have h1 : tabGet d (raiseR s.regs o mask) o' = tabGet d s.regs o' := (raiseR_other _ _ _ d k).trans (sqSetR_other d _ ho)
  rcases withRegs_regs s (raiseR s.regs o mask) with e | e
  · exact (congrArg (tabGet d · o') e).trans h1
  · exact (congrArg (tabGet d · o') e).trans ((raiseR_other _ _ _ d k).trans ((sqSetR_other d _ hp).trans h1))
theorem regsBut_raiseBit (s : State) (o b : Nat) : s.regsBut [o, Reg.PCIE_STATUS] (raiseBit s o b) := regsBut_raise s o _
theorem regsBut_raiseErr (s : State) (o b cls src cell : Nat) : s.regsBut [o, Reg.PCIE_STATUS] (raiseErr s o b cls src cell) := regsBut_raise s o _

/-! Flags -/

theorem seq_low (w : Word) (b : Nat) (hb : b < 24) : (w + 0x1000000).getLsbD b = w.getLsbD b := by
  have h : (w + 0x1000000).toNat % 2 ^ 24 = w.toNat % 2 ^ 24 := by
    rw [BitVec.toNat_add]; show (w.toNat + 16777216) % 2 ^ 32 % 2 ^ 24 = _; omega
  have k : ((w + 0x1000000).toNat % 2 ^ 24).testBit b = (w.toNat % 2 ^ 24).testBit b := by rw [h]
  rw [Nat.testBit_mod_two_pow, Nat.testBit_mod_two_pow, decide_eq_true hb, Bool.true_and, Bool.true_and] at k
  exact k
/-- Raising flags sets those of the mask and leaves the others. -/
theorem sqSetR_flag (r : Tab Word) (o : Nat) (mask : Word) (b : Nat) (hb : b < 24) :
    (tabGet 0 (sqSetR r o mask) o).getLsbD b = ((tabGet 0 r o).getLsbD b || mask.getLsbD b) := by
  unfold sqSetR; rw [tabGet_tabPut_same, seq_low _ _ hb, BitVec.getLsbD_or]
theorem flagSet_raise (s : State) (o : Nat) (mask : Word) (b : Nat) (hb : b < 24) (k : ¬(0x200 ≤ o ∧ o < 0x1000)) (hp : o ≠ Reg.PCIE_STATUS) :
    flagSet (raise s o mask) o b = (flagSet s o b || mask.getLsbD b) := by
  have h1 : (tabGet 0 (raiseR s.regs o mask) o).getLsbD b = (flagSet s o b || mask.getLsbD b) := by
    rw [raiseR_other _ _ _ 0 k, sqSetR_flag _ _ _ _ hb]; rfl
  unfold flagSet at h1 ⊢
  rcases withRegs_regs s (raiseR s.regs o mask) with e | e
  · exact (congrArg (fun r => (tabGet 0 r o).getLsbD b) e).trans h1
  · refine (congrArg (fun r => (tabGet 0 r o).getLsbD b) e).trans ?_
    rw [raiseR_other _ _ _ 0 k, sqSetR_other 0 _ hp]; exact h1
theorem flagSet_raiseBit (s : State) (o b : Nat) (hb : b < 24) (k : ¬(0x200 ≤ o ∧ o < 0x1000)) (hp : o ≠ Reg.PCIE_STATUS) :
    flagSet (raiseBit s o b) o b = true := by
  unfold raiseBit; rw [flagSet_raise s o _ b hb k hp]
  have : (BitVec.ofNat 32 (2 ^ b)).getLsbD b = true := by
    rw [BitVec.getLsbD_ofNat, Nat.testBit_two_pow_self]; simp; omega
  rw [this, Bool.or_true]
theorem flagSet_raiseErr (s : State) (o b cls src cell : Nat) (hb : b < 24) (k : ¬(0x200 ≤ o ∧ o < 0x1000)) (hp : o ≠ Reg.PCIE_STATUS) :
    flagSet (raiseErr s o b cls src cell) o b = true := flagSet_raiseBit s o b hb k hp
/-- An appended log entry is the newest, and the next sequence number moves on. -/
theorem logAdd_log (s : State) (event cls src unit : Nat) (data : List Byte) :
    (logAdd s event cls src unit data).log = { s.log with
      entries := ({ time := now s, src := src, seq := s.log.next, event := event, cls := cls, unit := unit, data := data } ::
        s.log.entries).take 1048576
      next := s.log.next + 1 } := rfl

end Sys2Proof.Machine
end

