-- ==== Sys2Proof/Laws/Start.lean ====
section
/-!
SUPPORT. What starting and ending a Zalou command do, said once: a command that starts has its effect, one that a check refuses
completes with that status, and one that may not start leaves the state as it is.
-/

namespace Sys2Proof.Machine

theorem arrive_starts {s : State} {h : CmdHdr} {c : Checks} (hs : s.canStart h c) : arrive h c.op c.ready s = (s, true) := by
  obtain ⟨_, hf, hc, hn, hq, hr⟩ := hs
  have hn' : ¬(1024 ≤ inFlight s) := by omega
  simp [arrive, hf, hc, hn', hq, hr]

/-- A command that starts, and passes every check, has its effect. -/
theorem startCmd_starts {s : State} {h : CmdHdr} {c : Checks} (wake : Option Instr) (body : State → State) (hs : s.starts h c)
    (hw : wake = none ∨ asleep s = false) : startCmd h c wake body s = body s := by
  obtain ⟨hc, hj⟩ := hs
  have hf := hc.2.1
  unfold startCmd
  rw [arrive_starts hc]
  rcases hw with rfl | hw
  · simp [hc.1, hj, hf, Checks.withReserved]
  · cases wake <;> simp [hc.1, hj, hw, hf, Checks.withReserved]

/-- A command that starts, and fails a check, completes with that check's status. -/
theorem startCmd_refused {s : State} {h : CmdHdr} {c : Checks} {st r : Nat} (wake : Option Instr) (body : State → State)
    (hs : s.canStart h c) (hj : judge c s = some (st, r)) : startCmd h c wake body s = refuse s h c.op st r := by
  have hf := hs.2.1
  unfold startCmd
  rw [arrive_starts hs]
  simp [hs.1, hj, hf, Checks.withReserved]

/-- While no core runs Zalou nothing starts. -/
theorem startCmd_waits {s : State} {h : CmdHdr} {c : Checks} (wake : Option Instr) (body : State → State)
    (hs : processing s = false) : startCmd h c wake body s = s := by
  simp [startCmd, hs]

theorem complete_cmd (s : State) (h : CmdHdr) (op st r r2 : Nat) :
    (complete s h.ring h.cid op st r r2).cmd = s.completing h st r r2 := by
  unfold complete State.completing
  split <;> rfl

theorem finish_cmd (s : State) (h : CmdHdr) (op st r r2 : Nat) : (finish s h op st r r2).cmd = s.completing h st r r2 :=
  complete_cmd s h op st r r2

theorem refuse_cmd (s : State) (h : CmdHdr) (op st r : Nat) : (refuse s h op st r).cmd = s.completing h st r 0 :=
  complete_cmd s h op st r 0

theorem keepRunning_cmd (s : State) (h : CmdHdr) (op obj aux : Nat) : (keepRunning s h op obj aux).cmd = s.running h op obj aux := rfl

/-- A command that runs, and is no orphan, leaves its completion. -/
theorem endRun_cmd {s : State} {ring : Fin 16} {cid : BitVec 16} {op : Nat} (st r r2 : Nat) (h : s.runs ring cid op) :
    (endRun s ring cid st r r2).cmd = s.ending ring cid st r r2 := by
  obtain ⟨x, hx, _, ho⟩ := h
  unfold endRun
  rw [hx]
  simp only [ho, Bool.false_eq_true, if_false]
  unfold complete State.ending dropCmd
  dsimp only
  split <;> rfl

theorem endRun_none {s : State} {ring : Fin 16} {cid : BitVec 16} (st r r2 : Nat) (h : findRun s ring cid = none) :
    endRun s ring cid st r r2 = s := by
  unfold endRun; rw [h]

end Sys2Proof.Machine
end

