-- ==== Sys2Proof/WellFormed.lean ====
section
/-!
DEFINITION. Which commands are well formed: the accesses a bus can make. A register access has 1, 2, 4 or 8 bytes inside
BAR0 (R317, R369) and no byte enable beyond them; a register or a CTRL register is named by a multiple of 4 (R369); a memory
access has a byte and lies inside BAR2 (R318); a resource kind is one of those of Table 3-1 (R50). The fields of a Zalou
command are not judged here: a field out of range completes with INVALID_FIELD (R345).
-/

namespace Sys2Proof

/-- Whether a command is well formed. -/
def Instr.wf (i : Instr) : Bool :=
  match i with
  | .identify _ _ => true
  | .getLog _ _ _ _ _ => true
  | .setTime _ _ _ _ => true
  | .syncInEdge _ _ _ => true
  | .atSyncLoad => true
  | .setTimeTimeout => true
  | .syncOutPulse => true
  | .tbaseStop => true
  | .tbaseStart => true
  | .deckLoad _ _ _ _ => true
  | .deckVerify _ _ => true
  | .deckActivate _ _ => true
  | .deckRedeal _ _ _ _ => true
  | .dealBoundary _ => true
  | .guardViolation _ kind _ _ _ _ _ => decide (kind.toNat < 10)
  | .thermalSensorCrossing _ _ => true
  | .arm _ _ _ _ => true
  | .disarm _ _ _ => true
  | .forceTrigger _ _ _ => true
  | .setPost _ _ _ _ => true
  | .foldStatus _ _ _ _ => true
  | .prefillComplete _ => true
  | .handFire _ _ => true
  | .triggerAccept _ _ => true
  | .trigOutPulse _ => true
  | .triggerRecordWrite _ => true
  | .segmentClose _ => true
  | .holdoffEnd _ => true
  | .foldOverflow _ _ _ => true
  | .capturePageStore _ _ _ => true
  | .windowRecord _ _ _ => true
  | .counterTargetReached _ _ => true
  | .counterFeedLate _ _ _ => true
  | .timerExpiry _ _ => true
  | .handTimerExpiry _ _ => true
  | .recogSliceParity _ => true
  | .handParity _ => true
  | .flockKeyComplete _ _ _ => true
  | .flockResult _ _ => true
  | .flockInsert _ _ _ => true
  | .flockDelete _ _ => true
  | .flockLookup _ _ => true
  | .flockBulk _ _ _ _ => true
  | .flockStashMigrate _ => true
  | .flockBucketRestore _ _ => true
  | .tinStamp _ _ _ => true
  | .trigInEdge _ _ _ => true
  | .gateInChange _ _ _ => true
  | .tinConfig _ _ => true
  | .tdcRecalibration _ _ => true
  | .measureInterval _ _ => true
  | .measureFreq _ _ => true
  | .measStopWindowEnd _ => true
  | .measGateTimer _ => true
  | .measTimeout _ => true
  | .dacSet _ _ _ _ => true
  | .ddsSet _ _ => true
  | .ddsT0 _ => true
  | .dacUpdateTick => true
  | .thrCurrentLimit _ => true
  | .blockStateSettle ctrl => decide (ctrl.toNat % 4 = 0)
  | .patternLoad _ _ => true
  | .patternPlay _ _ => true
  | .playbackStart _ => true
  | .patternStop _ _ _ => true
  | .passDecision _ => true
  | .passEnd => true
  | .playbackUnderrun _ _ => true
  | .checkerSync _ _ => true
  | .checkerViolation _ _ => true
  | .maskCheckRecord _ _ => true
  | .checkerDone _ => true
  | .compress _ _ => true
  | .decompress _ _ => true
  | .engineJobStart _ => true
  | .readoutVerification _ _ _ _ => true
  | .compressedBlockOut _ _ => true
  | .decompressionEccError _ => true
  | .readFold _ _ => true
  | .readRange _ _ => true
  | .readIndex _ _ => true
  | .droverJobStart => true
  | .completionTimeout _ => true
  | .sqDoorbell _ _ => true
  | .cqDoorbell _ _ => true
  | .commandFetch => true
  | .completionWrite _ => true
  | .coalesceTimeout _ => true
  | .registerWrite _ off size be _ => decide (off.toNat + size ≤ 2 ^ 26 ∧ (size = 1 ∨ size = 2 ∨ size = 4 ∨ size = 8) ∧ be.toNat < 2 ^ size)
  | .latchRead _ off => decide (off.toNat % 4 = 0)
  | .latchLoWrite _ off _ => decide (off.toNat % 4 = 0)
  | .latchHiWrite _ off _ => decide (off.toNat % 4 = 0)
  | .sqcClear _ off _ => decide (off.toNat % 4 = 0)
  | .enWrite _ off _ => decide (off.toNat % 4 = 0)
  | .chipUnlockWrite _ _ => true
  | .keyTimeout _ => true
  | .keyLockoutEnd _ => true
  | .ownerWrite _ _ => true
  | .coreReset _ _ _ => true
  | .eqPop _ _ _ => true
  | .eqFlush _ _ => true
  | .eqProducerWord _ _ _ _ => true
  | .eqLineTimeout _ _ _ => true
  | .dacCodeWrite _ _ _ => true
  | .dacFreezeWrite _ _ => true
  | .ddsFtwWrite _ _ _ _ => true
  | .laneOfsWrite _ _ _ => true
  | .laneTestWrite _ _ _ _ => true
  | .bar2Write off data _ _ => decide (data ≠ [] ∧ off.toNat + data.length ≤ 2 ^ 38)
  | .bar2SetAliasWrite off data _ _ => decide (data ≠ [] ∧ off.toNat + data.length ≤ 2 ^ 38)
  | .bar2ClearAliasWrite off data _ _ => decide (data ≠ [] ∧ off.toNat + data.length ≤ 2 ^ 38)
  | .msixUnmask => true
  | .pcieD3hotEntry => true
  | .hostReset _ => true
  | .powerOnReset _ _ => true
  | .testReset => true
  | .supplyFail _ _ => true
  | .supplyOvervoltage _ _ => true
  | .supplyWarning _ _ => true
  | .supplyWarningClear _ _ => true
  | .avsOffTarget _ => true
  | .refclkLoss => true
  | .refclkReturn => true
  | .aonReturnToRefclk => true
  | .oscillatorTrim => true
  | .regionSleep => true
  | .hbmSelfRefreshEntry _ => true
  | .memPower _ _ _ _ _ => true
  | .bankPowerChangeDone _ => true
  | .tamperEvent _ => true
  | .lifecycleAdvance _ _ _ _ => true
  | .keyProvision _ _ _ _ _ => true
  | .tamperStatus _ => true
  | .wipe _ _ => true
  | .rxDataBlock _ _ => true
  | .rxMarkerBlock _ _ => true
  | .rxIdleBlock _ _ => true
  | .rxCtrlBlock _ _ => true
  | .laneLockLost _ => true
  | .laneRelockExpiry _ => true
  | .rxClockLost _ => true
  | .wakeBurst _ => true
  | .sbHello _ _ => true
  | .sbTrain _ _ => true
  | .sbSpare _ _ => true
  | .sbTest _ _ => true
  | .sbPower _ _ => true
  | .sbStatus _ _ => true
  | .sbNak _ _ => true
  | .sbRetry _ => true
  | .sbLost _ => true
  | .sbHelloSend _ => true
  | .sbActivityWake _ => true
  | .trainLanesPassed _ => true
  | .trainJudgeDeadline _ _ => true
  | .trainAttemptTimeout _ => true
  | .reprobe _ => true
  | .linkTrain _ _ _ => true
  | .linkSleep _ _ _ _ => true
  | .eyeScan _ _ => true
  | .bitSlip _ _ _ => true
  | .loopback _ _ _ _ => true
  | .prbs _ _ _ _ _ _ => true
  | .lanePatrolScan _ _ _ => true
  | .eccWriteback _ _ => true
  | .scrubStep _ _ => true
  | .rowRemap _ => true
  | .hbmPageRemap _ _ => true
  | .patrolMove _ _ _ => true
  | .patrolMismatch _ _ => true
  | .patrolConfirmEnd _ _ => true
  | .spareStatus _ _ => true
  | .spareCommit _ _ _ => true
  | .wearForecast _ _ => true
  | .ageingMeasure _ _ _ => true
  | .wearLogCommit _ => true
  | .lockstepMismatch => true
  | .coreSelfTestDone _ _ _ => true
  | .fwStage _ _ _ => true
  | .fwActivate _ => true
  | .handoverTimeout => true
  | .nvWrite _ _ _ _ _ => true
  | .deckRedealTimeout => true
  | .regionsReady => true
  | .timebasePllLock => true
  | .prbsCheckerLock _ _ => true
  | .prbsLost _ _ _ => true
  | .trigOutPulseEnd => true
  | .syncOutPulseEnd => true
  | .pcieLinkUp _ _ _ _ => true
  | .pcieD0Return => true
  | .porNLow => true
  | .tamperSourceInactive _ => true
  | .bar2Read off len _ => decide (1 ≤ len ∧ off.toNat + len ≤ 2 ^ 38)
  | .registerReadError _ off size => decide (1 ≤ size ∧ size ≤ 8 ∧ off.toNat + size ≤ 2 ^ 26)
  | .shepherdCheckpoint => true

end Sys2Proof
end

