-- ==== Sys2Proof/Tests/Slice0.lean ====
section
/-!
SUPPORT. The model's own tests, each a named theorem; expected results come from the spec, whose rule each test's comment names.
-/

-- One theorem after the other: many at once would ask for more memory than a checker has.
set_option Elab.async false

namespace Sys2Proof.Tests

open Sys2Proof Sys2Proof.Machine

/-- A command header: ring 0, CID 7, no FENCE, CFLAGS 0. -/
def h0 : CmdHdr := { ring := 0, cid := 7, fence := false, cflags := 0 }

/-- The state after reset with TBASE running and locked. -/
def onTime : State := { State.reset with tb := { running := true }, regs := [(0x50, 0x102)] }

/-- A deck image without sections. -/
def emptyDeck : DeckImage := { len := 0, bytes := [], sig := none }

/-- A deck with one slot table: kind 3 of SPINE with one port of two entries, the first given to owner 0x165 for operation 1. -/
def spineDeck : DeckImage where
  len := 0x218
  bytes := [(0x1E, 1), (0x100, 4), (0x101, 4), (0x105, 2), (0x200, 3), (0x204, 1), (0x208, 2), (0x212, 0x65), (0x213, 0x91)]
  sig := none

/-- A deck with these header bytes and these sections (type, region, bytes by offset), each at its own 64 KiB. -/
def deckOf (hdr : List (Nat × Byte)) (secs : List (Nat × Nat × List (Nat × Byte))) : DeckImage where
  len := 0x10000 * (secs.length + 1)
  bytes := hdr ++ [(0x1E, BitVec.ofNat 8 secs.length)] ++ ((List.range secs.length).zip secs).flatMap (fun x =>
    [(0x100 + 16 * x.1, BitVec.ofNat 8 x.2.1), (0x101 + 16 * x.1, BitVec.ofNat 8 x.2.2.1), (0x106 + 16 * x.1, BitVec.ofNat 8 (x.1 + 1))] ++
      x.2.2.2.map (fun b => (0x10000 * (x.1 + 1) + b.1, b.2)))
  sig := none

/-! Well-formedness: for each check a command that it refuses -/

/-- R369: an access has 1, 2, 4 or 8 bytes. -/
theorem test_wf_size : (Instr.registerWrite .host 0x30 3 7 0).wf = false ∧ (Instr.registerWrite .host 0x30 4 15 0).wf = true := by decide
/-- R369: no byte enable beyond the access. -/
theorem test_wf_enables : (Instr.registerWrite .host 0x30 2 7 0).wf = false := by decide
/-- R317: BAR0 has 64 MiB. -/
theorem test_wf_bar0 : (Instr.registerWrite .host 0x3FFFFFE 4 15 0).wf = false ∧ (Instr.registerReadError .host 0x3FFFFFE 4).wf = false := by
  decide
/-- R369: a register is named by a multiple of 4. -/
theorem test_wf_aligned : (Instr.latchRead .host 0x400006).wf = false ∧ (Instr.latchLoWrite .host 0x400006 0).wf = false ∧
    (Instr.latchHiWrite .host 0x400006 0).wf = false ∧ (Instr.sqcClear .host 0x22 0).wf = false ∧ (Instr.enWrite .host 0x600002 1).wf = false ∧
    (Instr.blockStateSettle 0x600002).wf = false := by decide
/-- R318: BAR2 has 256 GiB, and an access has a byte. -/
theorem test_wf_bar2 : (Instr.bar2Write 0x3FFFFFFFFF [1, 2] none []).wf = false ∧ (Instr.bar2Write 0 [] none []).wf = false ∧
    (Instr.bar2SetAliasWrite 0 [] none []).wf = false ∧ (Instr.bar2ClearAliasWrite 0x3FFFFFFFFF [1, 2] none []).wf = false ∧
    (Instr.bar2Read 0 0 []).wf = false ∧ (Instr.bar2Read 0x3FFFFFFFF0 32 []).wf = false := by decide
/-- R50, Table 3-1: ten resource kinds. -/
theorem test_wf_kind : (Instr.guardViolation 0 10 0 0 0 0 .none).wf = false ∧ (Instr.guardViolation 0 9 0 0 0 0 .none).wf = true := by decide
/-- R369: a read that fails has 1 to 8 bytes. -/
theorem test_wf_read : (Instr.registerReadError .host 0 0).wf = false ∧ (Instr.registerReadError .host 0 9).wf = false := by decide

/-! The spec's worked examples -/

/-- R8: the time word of an edge on TIN3 at 1,000,000.5 ns. -/
theorem test_time_word : timeWord (1000000 * 65536 + 0x8000) 0x0403 = 0xF424080000403 := by decide
/-- Chapter 6, two-trick trigger: G(4,000,003) at x1 with E at 5,000 ns. -/
theorem test_grid_time : gridTime { State.reset with tb := { epoch := some (nsT 5000) }, deck := { active := some (0, emptyDeck) } } 4000003 =
    some (630000 * 65536 + 0x7800) := by decide +kernel
/-- Table 6-9: word 0 of the record of hand 2, trick 1, branch 0. -/
theorem test_record_word : recordWord0 1 0 2 1 0 true false true false false true = 0x10109480 := by decide
/-- R236, chapter 9: a mask-check record of checker 0 with three violations. -/
theorem test_mask_word : maskWord0 0 3 = 0x30000003 := by decide
/-- R260: +1.200 V in the spans 0 to +2.5 V and ±2.5 V. -/
theorem test_threshold_codes : mvCode 3 0 1200 = 0x7AE1 ∧ mvCode 3 2 1200 = 0xBD71 := by decide
/-- R209: ZLIB, FINISH, no input. -/
theorem test_empty_stream : (inflate true 100 [0x78, 0x01, 0x03, 0, 0, 0, 0, 1]).out = [] ∧
    (inflate true 100 [0x78, 0x01, 0x03, 0, 0, 0, 0, 1]).used = 8 := by decide +kernel
/-- R398, queue 5: EOI, BYTES 28, LSEQ 0; and the CUT line of LSEQ 1. -/
theorem test_line_tag : lineTag { words := [], eoi := true, ovr := false, cut := false, tmo := false, bytes := 28, lseq := 0 } = 0x8F000000 ∧
    lineTag { words := [], eoi := true, ovr := false, cut := true, tmo := false, bytes := 28, lseq := 1 } = 0xAF000001 := by decide +kernel
/-- R267: the sine table ends at 32,767 and the half wave repeats it negated. -/
theorem test_sine : sineOf 0x3FFC = 32767 ∧ sineOf 0xBFFC = -32767 := by decide +kernel
/-- R444's example: the lid opened in FIELD with TAMPER_HALT; the cause is 0x02, the count 1, and class F in force. -/
theorem test_tamper : (match exec (.tamperEvent 1) { State.reset with sec := { life := 2, policy := 4 } } with
    | .next t => decide (t.sec.latched = 2 ∧ t.sec.count = 1 ∧ t.pwr.classF = true)
    | _ => false) = true := by decide +kernel
/-- R444: the last of the 32 tamper-count bits; without TAMPER_HALT no class F. -/
theorem test_tamper_count : (match exec (.tamperEvent 0) { State.reset with sec := { life := 2, count := 31 } } with
    | .next t => t.sec.count == 32 && flagSet t Reg.SEC_STATUS 7 && !t.pwr.classF
    | _ => false) = true := by decide +kernel
/-- R371: the key opens the lock of its writer. -/
theorem test_key : (match exec (.chipUnlockWrite .host 0x4E4C5A21) State.reset with
    | .next t => t.host.unlocked && !t.shepM.unlocked
    | _ => false) = true := by decide +kernel
/-- R420: a write of CHIP_RESET with the lock closed is ignored and flagged. -/
theorem test_reset_locked : (match exec (.coreReset .host 1 0) State.reset with
    | .next t => flagSet t Reg.CHIP_STATUS 7 && !flagSet t Reg.CHIP_PWR_STATUS 13
    | _ => false) = true := by decide +kernel
/-- R421: POR_N rises with a valid image. -/
theorem test_boot : (match exec (.powerOnReset true 0) { State.reset with pwr := { por := true } } with
    | .next t => (rd t Reg.CMDQ_READY).getLsbD 0 && hbmAll t && !t.shep.recovery
    | _ => false) = true := by decide +kernel

/-- R55: SHA-384 of "abc", the example of the standard that the rule names. -/
theorem test_sha384_abc : sha384 [0x61, 0x62, 0x63] =
    0xcb00753f45a35e8bb5a03d699ac65007272c32ab0eded1631a8b605a43ff5bed8086072ba1e7cc2358baeca134c825a7#384 := by decide +kernel
/-- R43, R44: the sample of index 0 on lane 3, whose offset is -10 units, with E at 1,000. -/
theorem test_lane_offset : laneSampleTime { State.reset with tb := { epoch := some 1000, laneOfs := [(3, 0xFFFFF6)] } } 3 0 = some 990 := by
  decide +kernel

/-! The queue -/

/-- The front command runs with the rest as its queue. -/
theorem test_step_front : (match step (State.reset.setPending [.testReset, .oscillatorTrim]) with
    | .next t => t.pending == [.oscillatorTrim]
    | _ => false) = true := by decide +kernel
/-- R7: with TBASE running, a step on an empty queue is 0.625 ns. -/
theorem test_step_idle : (match step onTime with
    | .next t => t.tb.now == 40960
    | _ => false) = true := by decide +kernel
/-- The table gives no row bits. -/
theorem test_decode_none : decodeTableWord 32 0 = none ∧ State.reset.withFetchWord 32 0 = State.reset := by decide

/-! Witnesses: states and operands that meet the hypotheses of each statement -/

theorem wit_IdleStepPassesOneFclk : State.reset.pending = [] ∧ State.reset.tb.running = false ∧ ¬64 ≤ State.reset.tb.sub + 1 := by decide
theorem wit_IdleStepPassesOneFclk_running : onTime.pending = [] ∧ onTime.tb.running = true := by decide
theorem wit_IdleStepPassesOneFclk_coarse :
    64 ≤ ({ State.reset with tb := { sub := 63 } } : State).tb.sub + 1 := by decide

theorem wit_StepKeepsTheSecurityInvariant : State.reset.secOk ∧ step State.reset = .next (tick State.reset) := ⟨by decide, rfl⟩

theorem wit_StepKeepsMemoryCanonical : State.reset.memOk ∧ step State.reset = .next (tick State.reset) := ⟨by decide, rfl⟩

theorem wit_FusesOnlyRise : step State.reset = .next (tick State.reset) := rfl

theorem wit_RefusedCommandHasNoEffect :
    zalou State.reset (.forceTrigger h0 1 0) = some (h0, forceTriggerChecks h0 1 State.reset) ∧
    State.reset.canStart h0 (forceTriggerChecks h0 1 State.reset) ∧
    judge (forceTriggerChecks h0 1 State.reset) State.reset = some (cState, 0) := by
  refine ⟨rfl, ?_, ?_⟩ <;> decide +kernel

theorem wit_ChecksInOrder : State.reset.shep.recovery = false ∧
    firstBad (identifyChecks { h0 with cflags := 1 } 0 State.reset).fields = some 3 ∧
    firstBad (forceTriggerChecks h0 1 State.reset).fields = none ∧ (forceTriggerChecks h0 1 State.reset).dagger = true ∧
    ({ State.reset with pwr := { classF := true } } : State).pwr.classF = true ∧
    (forceTriggerChecks h0 1 State.reset).deck = true ∧ actDeck State.reset = none := by decide +kernel
theorem wit_ChecksInOrder_denied : let s : State := { State.reset with sec := { life := 4 } }
    scrapped s = true ∧ scrapOps.contains (flockLookupChecks h0).op = false ∧ (flockLookupChecks h0).deck = false ∧
    firstBad (flockLookupChecks h0).objects = none ∧
    hostOwned { State.reset with regs := [(0x30, 0x30)] } [0x4, 0x3] = some 0x3 ∧
    (keyProvisionChecks h0 0 0 1 0 { State.reset with sec := { life := 2 } }).denied = true := by decide +kernel
theorem wit_ChecksInOrder_busy : (setTimeChecks h0 0 0 0 { State.reset with cmd := { running :=
    [{ ring := 0, cid := 9, op := 0x0103, obj := 0, aux := 0 }] } }).held = some 9 ∧
    (setTimeChecks h0 0 0 0 State.reset).held = none := by decide +kernel

theorem wit_CommandWaitsOrIsDuplicate : zalou State.reset (.tamperStatus h0) = some (h0, tamperStatusChecks h0) ∧
    processing { State.reset with shep := { lost := true } } = false ∧ processing State.reset = true ∧
    cidInFlight { State.reset with cmd := { running := [{ ring := 3, cid := 7, op := 0x0103, obj := 0, aux := 0 }] } } 7 = true ∧
    cidInFlight { State.reset with cmd := { running := [{ ring := 0, cid := 8, op := 0x0103, obj := 0, aux := 0 }] } } 7 = false ∧
    fenced { State.reset with cmd := { running := [{ ring := 0, cid := 8, op := 0x0103, obj := 0, aux := 0 }] } }
      { h0 with fence := true } = true := ⟨rfl, by decide⟩
theorem wit_CommandWaitsOrIsDuplicate_turn :
    let s : State := { State.reset with cmd := { fetched := [{ ring := 0, cid := 7, fence := false }] } }
    processing s = true ∧ fenced s h0 = false ∧ (tamperStatusChecks h0).ready = true ∧
      cidInFlight (s.setCmd { s.cmd with fetched := [] }) h0.cid = false ∧ inFlight (s.setCmd { s.cmd with fetched := [] }) < 1024 := by
  decide +kernel
theorem wit_CommandWaitsOrIsDuplicate_full :
    1024 ≤ inFlight { State.reset with cmd := { finished := List.replicate 1024 ⟨1, 2, 0, 0, 0⟩ } } := by decide +kernel

theorem wit_IdentifyDeliversItsData : let s : State := { State.reset with mem := { host := [(8, 64), (9, 1), (12, 4)] } }
    s.starts h0 (identifyChecks h0 0 s) ∧ segsLen (bufList s 0) = 320 := by decide +kernel

theorem wit_GetLogDeliversEntries : let s : State := { State.reset with mem := { host := [(8, 64), (9, 1), (12, 4)] } }
    s.starts h0 (getLogChecks h0 0 5 0 s) ∧ s.starts h0 (getLogChecks h0 1 5 0 s) ∧ droverReady s = true ∧
      droverReady { s with drov := { waiting := [{ ring := 1, cid := 9, check := false, job := .cmd (.tamperStatus h0), seg := 0 }] } } = false := by
  decide +kernel

theorem wit_BufferWritesStayInTheBuffers : State.reset.shep.pageQuar = [] := rfl

theorem wit_SetTimeImmediateLoadsTheBellwether : onTime.starts h0 (setTimeChecks h0 0 0 0x50000 onTime) ∧
    captureBusy onTime = false ∧ measuring onTime = false ∧ playing onTime = false ∧ onTime.tb.running = true ∧
    tbaseLocked onTime = true := by decide +kernel

theorem wit_SetTimeRefusedWhileBusy : let s : State := { onTime with pgen := { st := .run } }
    s.starts h0 (setTimeChecks h0 0 0 0 s) ∧ playing s = true ∧ measuring s = false := by decide +kernel
theorem wit_SetTimeRefusedWhileBusy_capture : let s : State := { onTime with folds := { groups := [(2, { st := .armed })] } }
    captureBusy s = true := by decide +kernel
def someRun : MeasRun := { ring := 0, cid := 1, interval := none, freq := none, at_ := 0 }
theorem wit_SetTimeRefusedWhileBusy_meas : measuring { onTime with tins := { meas := [(1, { run := some someRun })] } } = true := by
  decide +kernel

theorem wit_SetTimeAtSync : State.reset.starts h0 (setTimeChecks h0 1 10000 0x50000 State.reset) ∧
    captureBusy State.reset = false ∧ measuring State.reset = false ∧ playing State.reset = false := by decide +kernel
def waitingState (edge : Option Time) : State :=
  { onTime with
    tb := { running := true, wait := some { ring := 0, cid := 7, atSync := true, time := 9, edge := edge } }
    cmd := { running := [{ ring := 0, cid := 7, op := 0x0103, obj := 0, aux := 0 }] } }
theorem wit_SetTimeAtSync_edge : (waitingState none).tb.running = true ∧
    (rd (waitingState none) Reg.TBASE_CTRL).getLsbD 1 = false ∧ rdF (waitingState none) Reg.TBASE_CTRL 15 8 + 1 ≤ 5 := by decide +kernel
theorem wit_SetTimeAtSync_wait (e : Option Time) : (waitingState e).runs 0 7 0x0103 := ⟨_, rfl, rfl, rfl⟩

theorem wit_TbaseStopsAndStarts : onTime.tb.running = true ∧ onTime.tb.sub = 0 ∧ onTime.tb.syncLeft ≤ 1 ∧ tbaseMayStop onTime = true ∧ onTime.tb.wait = none := by decide +kernel
theorem wit_TbaseStopsAndStarts_start : let s : State := { State.reset with link := [(0, { st := .detect })] }
    tbaseMayStop s = false ∧ s.tb.running = false := by decide +kernel
theorem wit_TbaseStopsAndStarts_lock : let s : State :=
      { State.reset with
        tb := { running := true, wait := some { ring := 0, cid := 7, atSync := false, time := 5, edge := none } }
        cmd := { running := [{ ring := 0, cid := 7, op := 0x0103, obj := 0, aux := 0 }] } }
    s.tb.running = true ∧ s.runs 0 7 0x0103 := ⟨rfl, _, rfl, rfl, rfl⟩
theorem wit_TbaseStopsAndStarts_sync : let s : State :=
      { onTime with regs := [(0x400000, 0x00180401)], tb := { running := true, crossed := true } }
    s.tb.running = true ∧ s.tb.crossed = true ∧ (rd s Reg.TBASE_CTRL).getLsbD 0 = true := by decide +kernel

/-- A state whose stacks answer and whose host memory holds at 0 a list of one 64-byte buffer. -/
def hbmOn : State := { State.reset with regs := [(0x4C, 0xAA000)], mem := { host := [(8, 64), (9, 1), (12, 4)] } }
theorem wit_DeckLoadAndVerify : hbmOn.starts h0 (deckLoadChecks h0 3 5 0 hbmOn) ∧ slotActive hbmOn 3 = false ∧ hbmAll hbmOn = true ∧ droverReady hbmOn = true ∧
    hbmOn.starts h0 (deckVerifyChecks h0 3 hbmOn) ∧
    slotDeck { hbmOn with deck := { slots := [(3, emptyDeck)] } } 3 = some emptyDeck := by decide +kernel
theorem wit_DeckLoadAndVerify_active : let s : State := { hbmOn with deck := { active := some (3, emptyDeck) } }
    slotActive s 3 = true ∧ s.starts h0 (deckLoadChecks h0 3 5 0 s) ∧ s.starts h0 (deckVerifyChecks h0 3 s) := by decide +kernel

theorem wit_DeckActivateMakesTheDeckActive : let s : State := { hbmOn with deck := { slots := [(3, emptyDeck)] } }
    s.starts h0 (deckActivateChecks h0 3 s) ∧ asleep s = false ∧ slotDeck s 3 = some emptyDeck ∧ captureBusy s = false ∧
    playing s = false ∧ recogMeasuring s = false ∧ slotDeck s 4 = none ∧ s.starts h0 (deckActivateChecks h0 4 s) := by decide +kernel
theorem wit_DeckActivateMakesTheDeckActive_busy :
    let s : State := { hbmOn with deck := { slots := [(3, emptyDeck)] }, pgen := { st := .run } }
    s.starts h0 (deckActivateChecks h0 3 s) ∧ asleep s = false ∧ playing s = true := by decide +kernel

theorem wit_SleepingRegionsHoldCommandsBack : let s : State := { hbmOn with regs := [(0x4C, 0xAA003)] }
    zalou s (.deckActivate h0 3) = some (h0, deckActivateChecks h0 3 s) ∧ s.starts h0 (deckActivateChecks h0 3 s) ∧
    asleep s = true := ⟨rfl, by decide +kernel⟩

def redealState (b : DeckImage) : State :=
  { hbmOn with deck := { slots := [(3, b)], active := some (2, emptyDeck) } }
theorem wit_DeckRedealWaitsForItsBoundary : let s := redealState emptyDeck
    s.starts h0 (deckRedealChecks h0 3 1 5 s) ∧ asleep s = false ∧ actDeck s = some emptyDeck ∧ slotDeck s 3 = some emptyDeck ∧
    slotActive s 3 = false ∧ redealConflict s emptyDeck emptyDeck 1 = none := by decide +kernel
theorem wit_DeckRedealWaitsForItsBoundary_conflict :
    let b : DeckImage := { len := 0, bytes := [(0x18, 1)], sig := none }
    let s := redealState b
    s.starts h0 (deckRedealChecks h0 3 1 5 s) ∧ redealConflict s emptyDeck b 1 = some (0, 0) := by decide +kernel
theorem wit_DeckRedealWaitsForItsBoundary_timeout :
    let s : State := { State.reset with
      deck := { active := some (2, emptyDeck), redeal := some { ring := 0, cid := 7, slot := 3, groups := 1, waiting := [] } }
      cmd := { running := [{ ring := 0, cid := 7, op := 0x0204, obj := 3, aux := 0 }] } }
    (actDeck s).isSome = true ∧ s.runs 0 7 0x0204 := ⟨by decide, _, rfl, rfl, rfl⟩

def dealt : State := { State.reset with deck := { active := some (2, emptyDeck) } }
theorem wit_DealBoundaryMovesTheDealOn : actDeck dealt = some emptyDeck ∧ dealt.deck.promos = [] ∧
    dealt.deck.stageNext = dealt.deck.stage ∧ dealt.deck.spineReload = false ∧ dealt.deck.redeal = none ∧
    (∀ r < 5, dealNum dealt r = 0) ∧ dealt.deck.blocked = [] := by decide
theorem wit_DealBoundaryMovesTheDealOn_differs :
    let s : State := { dealt with deck := { active := some (2, emptyDeck), num := [(3, 7)] } }
    dealNum s 3 ≠ 0 ∧ (∀ r < 5, r ≠ 3 → dealNum s r = 0) ∧ s.deck.blocked = [] := by decide
theorem wit_DealBoundaryMovesTheDealOn_blocked :
    let s : State := { dealt with deck := { active := some (2, emptyDeck), num := [(3, 7)], blocked := [3] } }
    s.deck.blocked = [3] ∧ (∀ r < 5, r ≠ 3 → dealNum s r = 0) := by decide
theorem wit_DealBoundaryMovesTheDealOn_redeal :
    let s : State := { dealt with
      deck := { active := some (2, emptyDeck), slots := [(3, emptyDeck)], redeal := some { ring := 0, cid := 7, slot := 3, groups := 1, waiting := [] } }
      cmd := { running := [{ ring := 0, cid := 7, op := 0x0204, obj := 3, aux := 0 }] } }
    actDeck s = some emptyDeck ∧ slotDeck s 3 = some emptyDeck ∧ s.runs 0 7 0x0204 ∧ (∀ g, (grpOf s g).st = .idle) :=
  ⟨rfl, rfl, ⟨_, rfl, rfl, rfl⟩, fun _ => rfl⟩


theorem wit_GuardBlocksWhatTheDeckDoesNotSchedule : let d := spineDeck
    let s : State := { State.reset with deck := { active := some (2, d) } }
    actDeck s = some d ∧ guardedIn 3 4 = true ∧ 0 < kindPorts 3 ∧ slotV (slotNow s d 3 4 0 (entryAt 3 0)) = true ∧
    slotOwner (slotNow s d 3 4 0 (entryAt 3 0)) = 0x165 ∧ slotOp (slotNow s d 3 4 0 (entryAt 3 0)) = 1 ∧
    slotV (slotNow s d 3 4 0 (entryAt 3 1)) = false ∧ 4 ∉ s.deck.blocked ∧ flagSet s (Reg.GUARD_STATUS 4) 0 = false ∧
    tabGet 0 s.deck.viol (4 * 4096 + 0x165) + 1 < rdF s (Reg.GUARD_CTRL 4) 15 8 ∧
    (noteTime s second (tabGet [] s.deck.violSec (4 * 4096 + 0x165))).length < rdF s (Reg.GUARD_CTRL 4) 7 0 ∧
    unitFlagged s 0x165 = false := by decide +kernel
theorem wit_GuardBlocksWhatTheDeckDoesNotSchedule_later :
    let s : State := { State.reset with deck := { active := some (2, spineDeck), viol := [(4 * 4096 + 0x165, 2)] }, regs := [(0x1000, 1)] }
    flagSet s (Reg.GUARD_STATUS 4) 0 = true ∧ rdF s (Reg.GUARD_CTRL 4) 15 8 ≤ tabGet 0 s.deck.viol (4 * 4096 + 0x165) + 1 := by
  decide +kernel

/-- Capture: group 0 with two segments, POST 100, fold 0 raw FULL of one step of engine 1. -/
def capDeck : DeckImage := deckOf [] [
  (0x09, 0xF, [(0, 1), (4, 2), (16, 100), (32, 1), (0x400, 1), (0x411, 0x10), (0x41A, 1), (0x421, 0x10), (0x425, 0x10)]),
  (0x0A, 0xF, [(0, 1), (4, 0x40), (0x40, 1)])]
def capState : State := { hbmOn with deck := { active := some (2, capDeck) } }
theorem wit_ArmOpensASegment : capState.starts h0 (armChecks h0 1 0 capState) ∧ asleep capState = false ∧
    actDeck capState = some capDeck ∧ (∀ g ∈ maskGroups 1, groupDone capState g = true) ∧ capState.deck.stage ≠ 3 ∧
    capState.starts h0 (armChecks h0 1 1 capState) ∧ (∀ g ∈ maskGroups 1, (grpOf capState g).closed < gSegments capDeck g) := by
  decide +kernel
theorem wit_ArmOpensASegment_stage3 : let s : State := { capState with deck := { active := some (2, capDeck), stage := 3 } }
    s.starts h0 (armChecks h0 1 0 s) ∧ asleep s = false ∧ s.deck.stage = 3 := by decide +kernel
theorem wit_ArmOpensASegment_full : let s : State := { capState with folds := { groups := [(0, { st := .stopped, closed := 2 })] } }
    s.starts h0 (armChecks h0 1 1 s) ∧ groupDone s 0 = true ∧ gSegments capDeck 0 ≤ (grpOf s 0).closed := by decide +kernel
def armedState : State :=
  { capState with folds := { groups := [(0, { st := .armed, post := 100, seg := some { seg := 0, epoch := 512 } })] } }
theorem wit_ArmOpensASegment_busy : armedState.starts h0 (armChecks h0 1 0 armedState) ∧ (grpOf armedState 0).st = .armed ∧
    armedState.deck.stage ≠ 3 := by decide +kernel
theorem wit_ArmOpensASegment_prefill : (grpOf { capState with folds := { groups := [(0, { st := .prefill })] } } 0).st = .prefill := by
  decide
/-- A group whose capacity of one unit cannot hold its POST. -/
theorem wit_ArmOpensASegment_clamped : let s : State := { capState with folds := { groups := [(0, { post := 10 ^ 9 })] } }
    clampPost capDeck 0 (grpOf s 0).post ≠ (grpOf s 0).post ∧ groupDone s 0 = true := by decide +kernel

theorem wit_DisarmStopsItsGroups : armedState.starts h0 (disarmChecks h0 1 armedState) ∧ (grpOf armedState 0).st = .armed := by
  decide +kernel
def postState : State :=
  { capState with folds := { groups := [(0, { st := .post, post := 100, seg := some { seg := 0, epoch := 512, trig := some 600, post := 100, postEnd := 700 } })] } }
theorem wit_DisarmStopsItsGroups_post : postState.starts h0 (disarmChecks h0 1 postState) ∧ (grpOf postState 0).st = .post ∧
    (grpOf postState 0).seg.map SegSt.postEnd = some 700 := by decide +kernel
theorem wit_DisarmStopsItsGroups_holdoff : let s : State := { capState with folds := { groups := [(0, { st := .holdoff })] } }
    s.starts h0 (disarmChecks h0 1 s) ∧ (grpOf s 0).st = .holdoff ∧ rearmAt s 0 = none := by decide +kernel

def forced : Force := { ring := 0, cid := 7, sample := 640, groups := 1, accepted := 0, anyfill := false }
theorem wit_ForcedTriggerIsPresented : capState.starts h0 (forceTriggerChecks h0 1 capState) := by decide +kernel
theorem wit_ForcedTriggerIsPresented_armed :
    let s : State := { armedState with trig := { forces := [forced] }, cmd := { running := [{ ring := 0, cid := 7, op := 0x0303, obj := 1, aux := 0 }] } }
    s.trig.presented.contains (0, 640) = false ∧ s.runs 0 7 0x0303 ∧ (grpOf s 0).st = .armed := ⟨rfl, ⟨_, rfl, rfl, rfl⟩, rfl⟩
theorem wit_ForcedTriggerIsPresented_done :
    let s : State := { capState with trig := { forces := [forced] }, cmd := { running := [{ ring := 0, cid := 7, op := 0x0303, obj := 1, aux := 0 }] } }
    groupDone s 0 = true ∧ s.runs 0 7 0x0303 := ⟨rfl, _, rfl, rfl, rfl⟩
theorem wit_ForcedTriggerIsPresented_none : capState.trig.fires = [] ∧ capState.trig.forces = [] := by decide

theorem wit_SetPostAndFoldStatus : postState.starts h0 (setPostChecks h0 0 50 postState) ∧ actDeck postState = some capDeck ∧
    postState.starts h0 (foldStatusChecks h0 1 0 postState) ∧ capState.starts h0 (foldStatusChecks h0 1 0 capState) ∧
    clampPost capDeck 0 (10 ^ 9) ≠ 10 ^ 9 ∧ armedState.starts h0 (setPostChecks h0 0 1000000000 armedState) := by decide +kernel

theorem wit_SegmentsCloseAndReopen : actDeck postState = some capDeck ∧ (grpOf postState 0).st = .post ∧
    (∀ f ∈ gFolds capDeck 0, fRed capDeck f = 0 ∧ fIsComp capDeck f = false) ∧ ((grpOf postState 0).closed + 1 < gSegments capDeck 0) := by
  decide +kernel
def lastSeg0 : SegSt := { seg := 0, epoch := 512, trig := some 600, postEnd := 700 }
def holdState : State :=
  { capState with folds := { groups := [(0, { st := .holdoff, closed := 1, holdEnd := some 800, lastSeg := some lastSeg0 })] } }
theorem wit_SegmentsCloseAndReopen_holdoff : (grpOf holdState 0).st = .holdoff ∧ rearmAt holdState 0 = some 800 ∧
    redealNames holdState 0 = false := by decide +kernel
theorem wit_SegmentsCloseAndReopen_redeal :
    let s : State := { holdState with deck := { active := some (2, capDeck), redeal := some { ring := 0, cid := 7, slot := 3, groups := 1, waiting := [] } } }
    redealNames s 0 = true := by decide +kernel

theorem wit_OverflowStopsTheGroup : actDeck armedState = some capDeck ∧ fV capDeck 0 = true ∧
    (grpOf armedState (fGroup capDeck 0)).st = .armed ∧ groupDone capState (fGroup capDeck 0) = true := by decide +kernel
/-- A TRANSITIONS fold has no capacity in samples. -/
theorem wit_OverflowStopsTheGroup_space : let d := deckOf [] [(0x09, 0xF, [(0, 1), (4, 2), (32, 1), (0x400, 3)])]
    fV d 0 = true ∧ foldCap d 0 = none ∧ fGroup d 0 = 0 := by decide +kernel

theorem wit_RawPagesAreStoredInTheirRing : hasSegment capState (fGroup capDeck 0) = false ∧ fV capDeck 0 = true ∧ fRed capDeck 0 = 0 ∧
    fIsComp capDeck 0 = false ∧ hasSegment armedState (fGroup capDeck 0) = true ∧ 0 < fNinst capDeck 0 ∧
    (foldOf armedState 0).epoch ≤ pageLast capDeck 1 ∧ segEnd armedState (fGroup capDeck 0) = none ∧ (foldOf armedState 0).units = [] ∧
    armedState.shep.pageQuar = [] ∧ blockedRows armedState (engQuad (foldInst capDeck 0 0).1) 0 0 1 32 = [] ∧
    (dataBase capDeck 0 0 + 4096 * (1 % ringPages capDeck 0)) % extentSize + 4096 ≤ extentSize := by decide +kernel

/-- Fold 0 of group 0 is a DENSITY fold of one step with windows of 64 samples. -/
def winDeck : DeckImage := deckOf [] [
  (0x09, 0xF, [(0, 1), (4, 2), (32, 1), (0x400, 5), (0x411, 0x10), (0x41A, 1), (0x421, 0x10), (0x425, 0x10)]),
  (0x0A, 0xF, [(0, 1), (4, 0x40), (8, 6), (0x40, 1)])]
theorem wit_WindowsAndBlocksMoveOn :
    let s : State := { armedState with deck := { active := some (2, winDeck) } }
    fV winDeck 0 = true ∧ fRed winDeck 0 = 2 ∧ 0 < fNinst winDeck 0 ∧ hasSegment s (fGroup winDeck 0) = true ∧
    tabGet 0 (foldOf s 0).nextWin 0 = 0 ∧ segEnd s (fGroup winDeck 0) = none ∧ 1 < pageCap winDeck 0 ∧
    (addWindow winDeck 0 (keepFrom s winDeck 0) 0 0 63 s).isOk = true := by decide +kernel
/-- Fold 0 of group 0 is a FULL fold whose first substream engine 5 compresses without coding. -/
def compDeck : DeckImage := deckOf [] [
  (0x09, 0xF, [(0, 1), (4, 2), (32, 1), (0x400, 0x11), (0x411, 0x10), (0x41A, 1), (0x421, 0x10), (0x425, 0x10), (0x429, 0x10)]),
  (0x0A, 0xF, [(0, 1), (4, 0x40), (0x40, 1)]), (0x0B, 0xF, [(80, 1)])]
theorem wit_WindowsAndBlocksMoveOn_comp :
    let s : State := { armedState with deck := { active := some (2, compDeck) } }
    cmpV compDeck 5 = true ∧ fIsComp compDeck (cmpFold compDeck 5) = true ∧ hasSegment s (fGroup compDeck (cmpFold compDeck 5)) = true ∧
    (compPage s compDeck 0 0 5).pages = 0 := by decide +kernel
theorem wit_WindowsAndBlocksMoveOn_left (p : CompPage) (h : p.pages = 0) : compLeft compDeck 0 p none = 256 := by
  unfold compLeft; simp only [h]; decide +kernel

/-- Hand 2: trick 0 has branch 0 (ALWAYS, COUNT 1, GROUPS 1, NEXT 1); trick 1 the same with COUNT 2; trick 2 branch 0 with term A,
recognizer 5, which is enabled. -/
def handDeck : DeckImage := deckOf [] [
  (0x08, 0xF, [(0x880, 1), (0x8C2, 0x40), (0x8C3, 0x81), (0x8C4, 1), (0x8C8, 1), (0x8CC, 1), (0x902, 0x40), (0x903, 0x81), (0x904, 2),
    (0x940, 5), (0x943, 0x80), (0x944, 1)]),
  (0x07, 0xF, [(0x6A0, 1)])]
def handState (x : HandSt) : State :=
  { State.reset with deck := { active := some (2, handDeck) }, hands := [(2, x)], recog := { slices := [{ r := 5, from_ := 0 }] } }
theorem wit_HandFiresItsLowestBranch : let s := handState { st := .run, next := 9 }
    actDeck s = some handDeck ∧ bitsOf 16 (hArmGroups handDeck 2) = [] ∧ (handOf (noteEval s handDeck 9) 2).next = 9 ∧
    (∀ m < 4, (measOf s m).run = none) ∧ (handOf (noteEval s handDeck 9) 2).st = .run ∧
    (∀ b < 4, brV handDeck 2 0 b = true → (condAt (noteEval s handDeck 9) handDeck 2 0 9 b).pause = false) ∧
    brV handDeck 2 0 0 = true ∧ (condAt (noteEval s handDeck 9) handDeck 2 0 9 0).res = true ∧ brCount handDeck 2 0 0 = 1 := by
  decide +kernel
theorem wit_HandFiresItsLowestBranch_counts : let s := handState { st := .run, trick := 1, next := 9 }
    (∀ b < 4, brV handDeck 2 1 b = true → (condAt (noteEval s handDeck 9) handDeck 2 1 9 b).pause = false) ∧
    (∀ b < 4, brV handDeck 2 1 b = true → brCount handDeck 2 1 b = 2) := by decide +kernel
theorem wit_HandFiresItsLowestBranch_pauses : let s := handState { st := .run, trick := 2, next := 9 }
    brV handDeck 2 2 0 = true ∧ (condAt (noteEval s handDeck 9) handDeck 2 2 9 0).pause = true := by decide +kernel
theorem wit_HandFiresItsLowestBranch_parity : hEn handDeck 2 = true ∧ ¬(handOf (handState {}) 2).next < handCount (handState {}) ∧
    (handOf (handState {}) 2).st ≠ .fault ∧
    (handOf (handState {}) 2).lastFail = none ∧ (handOf (handState { lastFail := some 0, ht := some 5 }) 2).lastFail = some 0 ∧
    (handOf (handState { lastFail := some 0, ht := some 5 }) 2).ht = some 5 := by decide +kernel

/-- Counter 3 counts recognizer 5 (always 1) with TARGET 2; timer 4 is started by it with LIMIT 0; counter 7 is fed. -/
def counterDeck : DeckImage := deckOf [] [
  (0x07, 0xF, [(0x6A0, 1), (0x13060, 1), (0x13064, 0), (0x13880, 1), (0x130E0, 5)])]
def counterState : State := { State.reset with
  deck := { active := some (2, counterDeck) }
  recog := { counters := [(3, { count := 1, last := some 8 }), (7, { last := some 8 })], timers := [(4, { last := some 8 })] } }
theorem wit_CountersTimersAndSlices : actDeck counterState = some counterDeck ∧
    (∀ k < 64, recEn counterDeck (0x140 + k) = true → (counterOf counterState k).last = some 8) ∧
    (∀ k < 32, recEn counterDeck (0x180 + k) = true → (timerOf counterState k).last = some 8) ∧
    recEn counterDeck 0x143 = true ∧ recEn counterDeck 0x142 = false ∧
    slicePaused counterState 0x143 9 = false ∧ recEn counterDeck 0x184 = true ∧
    recEn counterDeck 0x147 = true ∧ nbits (recCtrl counterDeck 0x147) 2 1 = 2 ∧ recEn counterDeck 5 = true ∧
    9 + feedLag counterDeck ≥ unitNext counterState (counterOf counterState 7).last := by decide +kernel

/-- Group 0's records go to queue 1, which is ON. -/
def routeDeck : DeckImage := deckOf [] [(0x08, 0xF, [(0x8800, 0x81)])]
def routeState : State := { State.reset with
  deck := { active := some (2, routeDeck) }
  regs := [(Reg.EQ_CTRL 1, 0x21)]
  trig := { accepted := [{ group := 0, sample := 9, forced := true }] } }
theorem wit_TriggersAreRecordedAndPulsed : actDeck routeState = some routeDeck ∧ route routeDeck 0 = some 1 ∧ eqOn routeState 1 = true ∧
    eqOf routeState 1 = {} ∧ routeState.trig.accepted.filter (fun a => a.sample == 9) = [{ group := 0, sample := 9, forced := true }] ∧
    firesAt routeState routeDeck 0 9 = [] ∧ route routeDeck 1 = none := by decide +kernel

def queueState (e : EqSt) : State := { routeState with eq := [(1, e)] }
def openLine : EqSt := { opens := [{ owner := 0x210, words := [1, 2] }] }
def fullQueue : EqSt :=
  { opens := (List.range 64).map (fun k => { owner := BitVec.ofNat 12 k, words := [1] }), drain := [⟨[], false, false, false, true, 4, 0⟩] }
theorem wit_EventQueuesKeepWholeLines : eqOn routeState 1 = true ∧ (eqOpen (eqSwap (eqOf (queueState openLine) 1)) 0x210).isSome = true ∧
    eqOpen (eqSwap (eqOf (queueState fullQueue) 1)) 0x210 = none ∧ eqFull (eqSwap (eqOf (queueState fullQueue) 1)) = true ∧
    eqOpen (eqOf (queueState openLine) 1) 0x210 = some { owner := 0x210, words := [1, 2] } := by decide +kernel
theorem wit_EventQueuesKeepWholeLines_flush : ownerLets .shepherd routeState (Reg.EQ_CTRL 1) = true ∧
    blkEn routeState (Reg.EQ_CTRL 1) = true ∧ blkState routeState (Reg.EQ_CTRL 1) = stOn := by decide +kernel

/-- A table that holds key 5, in the first way of its bucket of sub-table 0. -/
def flockState : State :=
  { hbmOn with flock := { main := [(flockLoc 5 0 0, { key := 5, action := 0x80000123 })], stash := [(2, { key := 6, action := 0x80000001 })] } }
theorem wit_FlockCommandsKeepTheTable : flockState.starts h0 (flockInsertChecks h0 0x80000007 flockState) ∧
    flockState.starts h0 (flockDeleteChecks h0 flockState) ∧ flockState.starts h0 (flockLookupChecks h0) ∧
    flockState.starts h0 (flockBulkChecks h0 0 1 0 flockState) ∧ 16 ≤ segsLen (bufList flockState 0) := by decide +kernel
theorem wit_FlockCommandsKeepTheTable_entry :
    let s : State := { hbmOn with mem := { host := [(0, 32), (8, 64), (12, 4), (47, 0x80)] } }
    s.starts h0 (flockBulkChecks h0 0 1 0 s) ∧
    ∀ e ∈ flockEntries 1 (segsRead s.mem (bufList s 0) 16), entryV e = true ∧ nbits e.action.toNat 30 28 = 0 := by decide +kernel
theorem wit_FlockCommandsKeepTheTable_places : flockFind (flockTab flockState) 5 = some (false, flockLoc 5 0 0) ∧
    flockFind (flockTab flockState) 6 = some (true, 2) ∧ flockFind (flockTab flockState) 9 = none ∧
    emptyIn (flockTab flockState) 9 [0, 1, 2, 3] = some (flockLoc 9 0 0) := by decide +kernel

/-- Engine 0: instance 0 extracts an empty key, qualified by recognizer 5, for the lookup of engine 0's instance 1; instance 2's key has
a byte of the sample before. -/
def keyDeck : DeckImage := deckOf [] [
  (0x01, 0xF, (List.range 12).map (fun j => (38 + j, 0xFF)) ++ [(0, 0x20), (1, 0x10), (32, 5), (33, 1), (34, 1), (50, 5)] ++
    [(80, 5), (81, 1), (82, 1), (86, 0x10), (98, 5)]), (0x07, 0xF, [(0x6A0, 1)])]
def keyState (x : RecogSt) : State := { flockState with deck := { active := some (2, keyDeck) }, recog := x }
theorem wit_FlockKeysAndUpkeep : let s := keyState {}; let u := noteEval s keyDeck 64
    actDeck s = some keyDeck ∧ (0, 0) ∈ instsOf keyDeck 5 ∧ keyLost u keyDeck (0, 0) 64 0 = false ∧
    (recAt u keyDeck (pKeyQual keyDeck (0, 0) % 1024) 64).res = true ∧ assoc s.recog.lastKeyFclk 0 ≠ some (64 / groupLen s) ∧
    (keyOf u keyDeck (0, 0) 64).2 = false ∧ (flockLook s (keyOf u keyDeck (0, 0) 64).1).isSome = true ∧
    (0, 2) ∈ instsOf keyDeck 5 ∧ (keyOf u keyDeck (0, 2) 64).2 = true := by decide +kernel
theorem wit_FlockKeysAndUpkeep_drop : let s := keyState { lastKeyFclk := [(0, 64 / groupLen (keyState {}))] }
    assoc s.recog.lastKeyFclk 0 = some (64 / groupLen s) := by decide +kernel
theorem wit_FlockKeysAndUpkeep_upkeep : let e := stashAt (flockTab flockState) 2
    entryV e = true ∧ emptyIn (flockTab flockState) e.key [0, 1, 2, 3] = some (flockLoc 6 0 0) ∧
    entryV (stashAt (flockTab flockState) 3) = false := by decide +kernel

/-- THR 1 is ON in span 0, THR 2 in span 2, THR 3 is OFF, CALOUT0 is ON in DC mode; EQ 1 is STOPPING with EN. -/
def dacState : State := { hbmOn with
  regs := [(0x4C, 0xAA000), (Reg.DAC_CTRL 1, 0x21), (Reg.DAC_CTRL 2, 0x221), (Reg.DAC_CTRL 3, 0), (Reg.DAC_CTRL 4, 0x11),
    (Reg.DAC_CTRL 32, 0x21), (Reg.EQ_CTRL 1, 0x31), (Reg.EQ_CTRL 2, 0x30), (Reg.EQ_CTRL 3, 0x11)] }
theorem wit_DacCodesChangeAtTheTick : dacState.starts h0 (dacSetChecks h0 0xE 0 0 dacState) ∧
    dacState.starts h0 (dacSetChecks h0 0x100000000 0 0 dacState) ∧ dacNamed 0xE = [1, 2, 3] ∧ dacNamed 0x100000000 = [32] ∧
    (∀ ch < 34, (dacOf dacState ch).busy = none) ∧ blkState dacState (Reg.DAC_CTRL 1) = stOn ∧
    rdF dacState (Reg.DAC_CTRL 1) 9 8 = 0 ∧ rdF dacState (Reg.DAC_CTRL 2) 9 8 = 2 ∧ blkState dacState (Reg.DAC_CTRL 3) = stOff ∧
    blkState dacState (Reg.DAC_CTRL 32) = stOn ∧ rdF dacState (Reg.DAC_CTRL 32) 11 10 = 0 ∧
    (rd dacState Reg.DAC_GLOBAL).getLsbD 0 = false ∧ ownerLets .shepherd dacState (Reg.DAC_CODE 1) = true ∧
    ownerLets .shepherd dacState (Reg.DAC_CODE 32) = true ∧ ownerLets .shepherd dacState Reg.DAC_GLOBAL = true ∧
    blkState dacState (Reg.DAC_CTRL 4) = stStarting ∧ blkState dacState (Reg.EQ_CTRL 1) = stStopping ∧
    blkEn dacState (Reg.EQ_CTRL 1) = true ∧ blkEn dacState (Reg.EQ_CTRL 2) = false ∧
    blkState dacState (Reg.EQ_CTRL 3) = stStarting := by decide +kernel
theorem wit_DacCodesChangeAtTheTick_tick : let s : State := { dacState with
      dac := [(1, { staged := true, busy := some { ring := 0, cid := 7, span := none, code := none, dds := none } })]
      cmd := { running := [{ ring := 0, cid := 7, op := 0x0801, obj := 0, aux := 0 }] } }
    (dacOf s 1).staged = true ∧ (∀ k < 34, k ≠ 1 → (dacOf s k).busy = none) ∧ s.runs 0 7 0x0801 :=
  ⟨rfl, by decide +kernel, ⟨_, rfl, rfl, rfl⟩⟩
theorem wit_DacCodesChangeAtTheTick_frozen : let s : State := { dacState with regs := [(Reg.DAC_GLOBAL, 1)] }
    (rd s Reg.DAC_GLOBAL).getLsbD 0 = true ∧ blkState s (Reg.DAC_CTRL 1) ≠ stOn := by decide +kernel

/-- DDS_SET of CALOUT0 in SINE mode, at once. -/
def sineSet : DdsParams :=
  { ch := 32, mode := 2, span := 0, start := 0, ftw := 0x10000, phase := 0, amp := 5, ofs := 100, hi := 0, lo := 0, hiLen := 0, loLen := 0,
    t0 := 0 }
def sineAt : DdsParams := { sineSet with start := 1, t0 := 0x1000000000 }
def sineOn : State := { hbmOn with regs := [(0x4C, 0xAA000), (Reg.DAC_CTRL 32, 0x821)] }
theorem wit_DdsStartsAtItsT0 : sineOn.starts h0 (ddsSetChecks h0 sineSet sineOn) ∧ ddsLive sineOn sineSet = true ∧
    dacState.starts h0 (ddsSetChecks h0 sineSet dacState) ∧ ddsLive dacState sineSet = false ∧
    blkState dacState (Reg.DAC_CTRL 32) ≠ stOff ∧ hbmOn.starts h0 (ddsSetChecks h0 sineSet hbmOn) ∧
    blkState hbmOn (Reg.DAC_CTRL 32) = stOff ∧ sineOn.starts h0 (ddsSetChecks h0 sineAt sineOn) ∧
    wordTime sineAt.t0 < sineOn.tb.now + nsT 2000 ∧ ownerLets .shepherd sineOn (Reg.DDS_FTW_LO 32) = true := by decide +kernel
theorem wit_DdsStartsAtItsT0_at : let s : State := { sineOn with
      dac := [(32, { busy := some { ring := 0, cid := 7, span := none, code := none, dds := some sineSet, t0 := 10240 }, heldLo := some 3 })]
      cmd := { running := [{ ring := 0, cid := 7, op := 0x0802, obj := 32, aux := 0 }] } }
    (dacOf s 32).busy.isSome = true ∧ rdF s (Reg.DAC_CTRL 32) 11 10 = 2 ∧ (dacOf s 32).heldLo = some 3 ∧ s.runs 0 7 0x0802 :=
  ⟨by decide +kernel, by decide +kernel, by decide +kernel, ⟨_, rfl, rfl, rfl⟩⟩

def tinState : State := { hbmOn with regs := [(0x4C, 0xAA000), (Reg.TIN_CTRL 3, 0xC021), (Reg.TIN_CTRL 4, 0xC011)] }
def tinSet (n : Nat) : TinParams :=
  { input := BitVec.ofNat 8 n, mode := 0, term := 0, hyst := 0, slope := 0, stamp := 3, thresh := 0, ofs := 0 }
theorem wit_StampsAndPinsReachTheirConsumers : (∀ u < 4, (measOf tinState u).run = none) ∧
    blkState tinState (Reg.TIN_CTRL 3) = stOn ∧ edgeSel (rdF tinState (Reg.TIN_CTRL 3) 15 14) true = true ∧
    (tinOf tinState 3).lastStamp = none ∧ blkState tinState (Reg.TIN_CTRL 5) ≠ stOn ∧ inDead 0 100 = true ∧
    tinState.starts h0 (tinConfigChecks h0 (tinSet 3) tinState) ∧ tinState.starts h0 (tinConfigChecks h0 (tinSet 5) tinState) ∧
    measUser tinState 3 = none ∧ tinLocked tinState 3 = false ∧ (tinOf tinState 3).stuck = false ∧
    blkState tinState (Reg.TIN_CTRL 5) = stOff ∧ blkState tinState (Reg.DAC_CTRL 21) = stOff := by decide +kernel
theorem wit_StampsAndPinsReachTheirConsumers_pins : capState.recog.trigLevel = false ∧ pinFilt capState 0x1C0 ≤ 0 ∧
    gateAccepted capState = false ∧ pinFilt capState 0x1C1 ≤ 0 ∧ (∀ u < 4, (measOf capState u).run = none) := by decide +kernel
theorem wit_StampsAndPinsReachTheirConsumers_settles : let s : State := { tinState with
      tins := { ins := [(4, { cmd := some { ring := 0, cid := 7, p := none }, lastStamp := some 0 })] }
      cmd := { running := [{ ring := 0, cid := 7, op := 0x0701, obj := 4, aux := 0 }] } }
    blkState s (Reg.TIN_CTRL 4) = stStarting ∧ (tinOf s 4).cmd.isSome = true ∧ (tinOf s 4).lastStamp = some 0 ∧ s.runs 0 7 0x0701 :=
  ⟨by decide +kernel, by decide +kernel, by decide +kernel, ⟨_, rfl, rfl, rfl⟩⟩
def ivParams : IntervalParams :=
  { unit := 2, start := 0x13, stopSet := 8, stop := 1, nstop := 3, nstart := 2, stopWin := 50, timeout := 1,
    gate := { source := 1, opt := 0, arg := 0, len := 1000, openAt := 0 }, dest := 0 }
def ivRun : MeasRun :=
  { ring := 0, cid := 7, interval := some ivParams, freq := none, at_ := 0, gateClose := some 100, outAddr := [(false, 4096, 64)] }
def measState (st : MeasState) (r : MeasRun) : State := { tinState with
  tins := { meas := [(2, { st := st, run := some r })] }
  cmd := { running := [{ ring := 0, cid := 7, op := 0x0702, obj := 2, aux := 0 }] } }
theorem wit_StampsAndPinsReachTheirConsumers_busy : let s := measState .waitStart ivRun
    measUser s 3 = some 7 ∧ s.starts { h0 with cid := 9 } (tinConfigChecks { h0 with cid := 9 } (tinSet 3) s) := by decide +kernel

def fqParams : FreqParams :=
  { unit := 2, input := 0x13, d := 1, timeout := 1, gate := { source := 1, opt := 0, arg := 0, len := 1000, openAt := 0 }, dest := 0 }
theorem wit_MeasurementsStartAndEnd : tinState.starts h0 (measureIntervalChecks h0 ivParams tinState) ∧
    tinState.starts h0 (measureFreqChecks h0 fqParams tinState) ∧ stamps tinState 3 1 = true ∧
    firstBad (gateNeeds tinState ivParams.gate) = none ∧ (∀ n ∈ bitsOf 16 8, stamps tinState n 1 = true) ∧
    hbmOn.starts h0 (measureIntervalChecks h0 { ivParams with start := 0x23 } hbmOn) ∧ stamps hbmOn 3 2 = false ∧ ivRun.waiting = [] ∧
    hbmOn.starts h0 (measureFreqChecks h0 { fqParams with input := 0x23 } hbmOn) := by decide +kernel
theorem wit_MeasurementsStartAndEnd_ends : let s := measState .stops { ivRun with startNo := 2 }
    (measOf s 2).run = some { ivRun with startNo := 2 } ∧ (measOf s 2).st = .stops ∧ ivParams.gate.source = 1 ∧
    (measOf (measState .waitStart ivRun) 2).st = .waitStart ∧ (measOf (measState .waitGate ivRun) 2).st = .waitGate ∧
    ivRun.gateClose = some 100 ∧ 100 ≤ ivRun.ts + nsT ivParams.stopWin.toNat ∧ s.runs 0 7 0x0702 :=
  ⟨rfl, rfl, rfl, rfl, rfl, rfl, by decide, ⟨_, rfl, rfl, rfl⟩⟩
theorem wit_MeasurementsStartAndEnd_cut :
    let p : IntervalParams := { ivParams with gate := { source := 2, opt := 0, arg := 0, len := 0, openAt := 0 } }
    let r : MeasRun := { ivRun with interval := some p, gateOpen := some 5, gateClose := none }
    (measOf (measState .waitStart r) 2).run = some r ∧ p.gate.source ≠ 1 ∧ r.startOfs = none ∧ p.stop.getLsbD 4 = false := by
  decide
theorem wit_MeasurementsStartAndEnd_abort : let s := measState .waitStart ivRun
    let h : CmdHdr := { ring := 0, cid := 9, fence := false, cflags := 1 }
    let q : IntervalParams := { unit := 2, start := 0, stopSet := 0, stop := 0, nstop := 0, nstart := 0, stopWin := 0, timeout := 0, dest := 0
                                gate := { source := 0, opt := 0, arg := 0, len := 0, openAt := 0 } }
    s.starts h (measureIntervalChecks h q s) := by decide +kernel
theorem wit_MeasurementsStartAndEnd_freq :
    let r : MeasRun := { ivRun with interval := none, freq := some fqParams }
    let s : State := { measState .collect r with cmd := { running := [{ ring := 0, cid := 7, op := 0x0703, obj := 2, aux := 0 }] } }
    (measOf s 2).run = some r ∧ (measOf s 2).st = .collect ∧ 64 ≤ segsLen r.outAddr ∧ s.runs 0 7 0x0703 :=
  ⟨rfl, rfl, by decide, ⟨_, rfl, rfl, rfl⟩⟩

/-- Engine 0 drives position 0, engine 4 expects for checker 0; the list is entry 0, segment 10, once; checker 0 is enabled. -/
def playDeck : DeckImage := deckOf [] [
  (0x0C, 0xF, [(0, 1), (2, 1), (0x40, 1), (0x80, 2), (0x240, 10), (0x242, 0xFF), (0x243, 0xFF), (0x244, 1)]),
  (0x0D, 0xF, [(0, 0x0B), (10, 1), (64, 1)]), (0x07, 0xF, [(0x6A0, 1)])]
def playState (x : PgenSt) : State := { hbmOn with
  deck := { active := some (2, playDeck) }, pgen := x
  checkers := [(0, { st := .check, s0 := 0, firstSeen := false })]
  cmd := { running := [{ ring := 0, cid := 9, op := 0x0602, obj := 0, aux := 0 }, { ring := 0, cid := 8, op := 0x0603, obj := 0, aux := 0 }] } }
def seg10 : List (Nat × Pseg) := [(10, { blocks := 64, table := 65536, streams := [] })]
def loadParams : PatternLoadParams := { pseg := 5, format := 0, lenBlocks := 64, engines := 1, lists := 0x100 }
def playParams : PatternPlayParams := { entry := 0, start := 0, stopMode := 0, startFlag := 0, checkers := 0 }
theorem wit_PlaybackRunsItsList : (playState {}).starts h0 (patternLoadChecks h0 loadParams (playState {})) ∧
    droverReady (playState {}) = true ∧
    psegBusy (playState {}) playDeck 5 = false ∧ psegBusy (playState { st := .run }) playDeck 10 = true ∧
    (playState { st := .run }).starts h0 (patternLoadChecks h0 { loadParams with pseg := 10 } (playState { st := .run })) := by
  decide +kernel
theorem wit_PlaybackRunsItsList_play : let s : State := { playState { psegs := seg10 } with cmd := {} }
    s.starts h0 (patternPlayChecks h0 playParams s) ∧ asleep s = false ∧ playing s = false ∧ playLoaded s playDeck playParams = true ∧
    playFaulty s playDeck playParams = false ∧ playLoaded (playState {}) playDeck playParams = false ∧
    ({ playState { st := .run } with cmd := {} } : State).starts h0
      (patternPlayChecks h0 playParams ({ playState { st := .run } with cmd := {} } : State)) := by decide +kernel
theorem wit_PlaybackRunsItsList_start : let s := playState { st := .waitStart, startFlag := some (2, 1), cmd := some (0, 9) }
    flagSeen s playDeck 2 1 5 = false ∧ (playState { st := .prefill, cmd := some (0, 9) }).pgen.startFlag = none ∧ s.runs 0 9 0x0602 :=
  ⟨by decide +kernel, rfl, ⟨_, rfl, rfl, rfl⟩⟩
theorem wit_PlaybackRunsItsList_stop : let s := playState { st := .run, entry := 0, stops := [{ ring := 0, cid := 8 }], checkers := 1 }
    s.starts h0 (patternStopChecks h0 0 s) ∧ s.starts h0 (patternStopChecks h0 1 s) ∧ checkerRuns s 0 = true ∧
    (playState {}).starts h0 (patternStopChecks h0 0 (playState {})) ∧ pbRole playDeck 0 = 1 ∧ pbRole playDeck 4 = 2 ∧
    pbTarget playDeck 4 = 0 ∧
    (playState { st := .prefill, cmd := some (0, 9) }).starts h0 (patternStopChecks h0 0 (playState { st := .prefill, cmd := some (0, 9) })) := by
  decide +kernel
theorem wit_PlaybackRunsItsList_waits : (playState { st := .run, stops := [{ ring := 0, cid := 8 }] }).runs 0 8 0x0603 :=
  ⟨_, rfl, rfl, rfl⟩

/-- Checker 0 compares CH0 of its chain of segment 0; its sync is recognizer 5, which is 1 at every sample; ACTIONS is FEED_HANDS. -/
def checkDeck (actions : Byte) : DeckImage := deckOf [] [
  (0x0C, 0xF, [(0, 1), (2, 1), (0x80, 2)]), (0x0D, 0xF, [(0, 0x0B), (2, actions), (10, 1), (64, 1)]), (0x07, 0xF, [(0x6A0, 1)])]
def checkState (actions : Byte) (x : CheckerSt) : State := { State.reset with
  deck := { active := some (2, checkDeck actions) }, checkers := [(0, x)]
  pgen := { psegs := [(0, { blocks := 64, table := 65536, streams := [] })] } }
theorem wit_CheckersCompareAndReport : let s := checkState 4 { st := .waitSync, from_ := 3 }
    actDeck s = some (checkDeck 4) ∧ (checkerOf s 0).st = .waitSync ∧ mcSync (checkDeck 4) 0 = 5 ∧
    (recAt (noteEval s (checkDeck 4) 4) (checkDeck 4) 5 3).res = true := by decide +kernel
theorem wit_CheckersCompareAndReport_compare : let s := checkState 4 { st := .check, s0 := 0 }
    (rd s (Reg.MCHK_CMP 0)).toNat = 0 ∧ 0 < expCount s (checkDeck 4) 0 ∧ mcActions (checkDeck 4) 0 = 4 ∧
    failing s (checkDeck 4) 0 0 = [] ∧ failing { s with ingest := { blocks := [(0, { void := false, bits := 1 })] } } (checkDeck 4) 0 0 = [0] := by
  decide +kernel
theorem wit_CheckersCompareAndReport_record :
    let s : State := { checkState 1 { st := .check, s0 := 0, window := some (0, 3, 5, 1, 0) } with
      regs := [(Reg.EQ_CTRL 0, 0x21), (Reg.MCHK_CMP 0, 2048)] }
    32 ≤ (rd s (Reg.MCHK_CMP 0)).toNat ∧ nbit (mcActions (checkDeck 1) 0) 0 = true ∧ nbit (mcActions (checkDeck 4) 0) 0 = false ∧
    eqOn s (mcLogEq (checkDeck 1) 0) = true ∧ eqOf s (mcLogEq (checkDeck 1) 0) = {} ∧
    expCount s (checkDeck 1) 0 ≤ (rd s (Reg.MCHK_CMP 0)).toNat := by decide +kernel

def jobOf (coded : List Byte) : EngineJob :=
  { ring := 0, cid := 7, stream := { comp := false, raw := true, coded := coded }, slot := none, flush := 3, more := false, adler := false,
    limit := 0 }
def jobState (op : Nat) (j : EngineJob) : State :=
  { hbmOn with comp := { jobs := [j] }, cmd := { running := [{ ring := 0, cid := 7, op := op, obj := 0, aux := 0 }] } }
/-- Slot 2 keeps a COMPRESS stream of generation 5. -/
def tokenState : State := { hbmOn with comp := { ctx := [(2, { gen := 5, stream := some { comp := true, raw := true } })] } }
def cmpParams (token : BitVec 64) : CompressParams :=
  { format := 0, mode := 0, flush := 3, search := 0, token := token, inList := 0, outList := 0 }
theorem wit_JobsRunOnStreams : tokenCtx tokenState true 0x50002 = some (2, { comp := true, raw := true }) ∧
    tokenState.starts h0 (compressChecks h0 (cmpParams 0x50002) tokenState) ∧
    tokenState.starts h0 (compressChecks h0 (cmpParams 0x60002) tokenState) ∧ tokenCtx tokenState true 0x60002 = none ∧
    (let s : State := { hbmOn with mem := { host := [(0x100, 64), (0x108, 64), (0x10C, 4)] } }
     s.starts h0 (compressChecks h0 { cmpParams 0 with inList := 0x100, outList := 0x100 } s)) := by decide +kernel
theorem wit_JobsRunOnStreams_run : jobEngines (jobState 0x0502 (jobOf [3, 0])) (jobOf [3, 0]) ≠ [] ∧
    (inflate false 0 [3, 0]).stop = .done ∧ (inflate false 0 [1, 1, 0, 0xFE, 0xFF, 65]).stop = .full ∧ (inflate false 0 []).stop = .short ∧
    (∃ c, (inflate false 0 [7]).stop = .bad c) ∧ freeSlots (jobState 0x0502 (jobOf [3, 0])) ≠ [] ∧
    (jobState 0x0502 (jobOf [3, 0])).runs 0 7 0x0502 :=
  ⟨by decide +kernel, by decide +kernel, by decide +kernel, by decide +kernel, ⟨_, rfl⟩, by decide +kernel, ⟨_, rfl, rfl, rfl⟩⟩
theorem wit_JobsRunOnStreams_compress : let j : EngineJob := { jobOf [] with stream := { comp := true, raw := true } }
    jobEngines (jobState 0x0501 j) j ≠ [] ∧ droverReady (jobState 0x0501 j) = true ∧ (jobState 0x0501 j).runs 0 7 0x0501 :=
  ⟨by decide +kernel, by decide +kernel, ⟨_, rfl, rfl, rfl⟩⟩

/-- Group 0 of the capture deck with segment 0 of fold 0 closed, one unit retained. -/
def unit0 : UnitRec := { inst := 0, num := 0, first := 0, last := 4095, ofs := 0, len := 4096, brand := crc32c (List.replicate 4096 0), flagged := false,
                         void := false, blocked := false, cut := false }
def readState : State := { capState with
  folds := { closedUnits := [(0, { units := [unit0] })], groups := [(0, { st := .stopped, closed := 1 })] } }
def readFold0 : ReadFoldParams :=
  { fold := 0, format := 0, part := 0, sub := 0, seg := 0, first := 0, count := 0, dest := 0, report := 4096, mlist := 0 }
def readRange0 : ReadRangeParams :=
  { fold := 0, bounds := 0, format := 0, seg := 0, start := 0, stop := 9, dest := 0, report := 4096, mlist := 0 }
def readIndex0 : ReadIndexParams := { fold := 0, kind := 0, seg := 0, first := 0, count := 0, dest := 0 }
theorem wit_ReadoutsCopyToTheHost : readState.starts h0 (readFoldChecks h0 readFold0 readState) ∧ segClosed readState 0 0 = true ∧
    segClosed readState 0 1 = false ∧ readState.starts h0 (readFoldChecks h0 { readFold0 with seg := 1 } readState) ∧
    readState.starts h0 (readFoldChecks h0 { readFold0 with first := 1 } readState) ∧
    readState.starts h0 (readRangeChecks h0 readRange0 readState) ∧ readState.starts h0 (readIndexChecks h0 readIndex0 readState) ∧
    readUnits capDeck 0 0 0 0 (segUnits readState 0 0) = 1 := by decide +kernel
def readJob : DroverJob := { ring := 0, cid := 7, check := false, job := .index { readIndex0 with seg := 1, count := 0, dest := 0x200 }, seg := 1 }
def copyState : State := { readState with
  drov := { jobs := [(3, readJob)] }, cmd := { running := [{ ring := 0, cid := 7, op := 0x0403, obj := 0, aux := 0 }] }
  mem := { host := [(0x201, 16), (0x209, 32), (0x20C, 4)] } }
theorem wit_ReadoutsCopyToTheHost_copy : copyState.drov.jobs.find? (fun p => p.2.cid == 7) = some (3, readJob) ∧
    unverified copyState capDeck readJob = [] ∧ gSegments capDeck 0 = 2 ∧ 4096 ≤ segsLen (bufList copyState (jobDest readJob)) ∧
    pairState copyState 0 = stOff ∧ copyState.runs 0 7 (jobOp readJob) ∧ assoc copyState.drov.jobs 4 = none :=
  ⟨rfl, by decide +kernel, by decide +kernel, by decide +kernel, by decide +kernel, ⟨_, rfl, rfl, rfl⟩, rfl⟩
theorem wit_ReadoutsCopyToTheHost_fetcher : pairState { hbmOn with regs := [(Reg.CMDQ_CTRL 3, 0x21)] } 3 = stOn := by decide +kernel

/-- Pair 3 is ON with rings of 64; its SQ holds entries 5 to 8. -/
def ringState : State := { hbmOn with
  regs := [(0x111000 + 0xC0, 0x6621), (0x111000 + 0xC0 + 0x08, 0x1000), (0x111000 + 0xC0 + 0x10, 0x2000), (0x111000 + 0xC0 + 0x20, 0x90005),
           (0x111000 + 0xC0 + 0x24, 0x40002), (0x111000 + 0xC0 + 0x28, 0x10003)]
  mem := { host := [(0x1140, 1), (0x1141, 1), (0x1144, 9)] } }
theorem wit_RingsCarryCommandsAndCompletions : pairState ringState 3 = stOn ∧ ringState.pcie.d3hot = false ∧
    ringDist 64 (sqHead ringState 3) (sqTail ringState 3) ≤ ringDist 64 (sqHead ringState 3) 10 ∧
    ringDist 64 (sqHead ringState 3) 6 < ringDist 64 (sqHead ringState 3) (sqTail ringState 3) ∧
    ringDist 64 (cqHead ringState 3) 4 ≤ ringDist 64 (cqHead ringState 3) (cqTail ringState 3) ∧
    ringDist 64 (cqHead ringState 3) (cqTail ringState 3) < ringDist 64 (cqHead ringState 3) 5 := by decide +kernel
theorem wit_RingsCarryCommandsAndCompletions_fetch : inFlight ringState < 1024 ∧ processing ringState = true ∧ sqHead ringState 3 ≠ sqTail ringState 3 ∧
    (∀ j < 3, pairState ringState ((ringState.cmd.turn + j) % 16) ≠ stOn) ∧
    (let e := memRead ringState.mem.host (rd64 ringState (Reg.CMDQ_SQ_BASE_LO 3) + 64 * sqHead ringState 3) 64
     opcodes.contains (leAt e 0 2) = true ∧ leAt e 2 1 / 2 = 0 ∧ leAt e 6 2 = 0 ∧ cidInFlight ringState 9 = false ∧ leAt e 4 2 = 9) ∧
    (∀ n < 16, pairState State.reset n ≠ stOn) := by decide +kernel
theorem wit_RingsCarryCommandsAndCompletions_done :
    let s : State := { ringState with cmd := { finished := [{ ring := 3, cid := 9, status := 0, result := 0, result2 := 0 }] } }
    s.drov.jobs = [] ∧ (cqTail s 3 + 1) % cqSize s 3 ≠ cqHead s 3 ∧ pairState s 3 = stOn ∧
    (let u : State := { s with regs := [(0x1110C0, 0x6630), (0x1110E4, 0x3F0000)] }
     pairState u 3 = stStopping ∧ pairInFlight u 3 = 1 ∧ (cqTail u 3 + 1) % cqSize u 3 = cqHead u 3 ∧
      blkEn u (Reg.CMDQ_CTRL 3) = false) := by decide +kernel
theorem wit_RingsCarryCommandsAndCompletions_coalesce :
    let s : State := { ringState with cmd := { cq := [(3, { pending := 2 })] } }
    (tabGet {} s.cmd.cq 3).pending ≠ 0 ∧ rdF s (Reg.CMDQ_COAL 3) 31 16 ≠ 0 ∧ inFlight s = 0 ∧
    State.reset.pcie.msixMask = true := by decide +kernel

/-- Banks 0 and 1 of quad scratch 0 are ON; the stacks are ON. -/
def scratchState : State := { hbmOn with regs := [(0x4C, 0xAA000), (Reg.MEM_BANK_PWR 0 0, 0xA)] }
theorem wit_WindowReachesTheMemories : apLoc 8 = some (0, 0, 1) ∧ hostMayWrite scratchState 0 8 = true ∧ bankOn scratchState 0 0 = true ∧
    bankOn scratchState 0 2 = false ∧ portAIdle scratchState 0 0 0 = true ∧ scratchState.mem.deadRows = [] ∧ hostMayWrite scratchState 5 (72 * 2 ^ 20) = false ∧
    apLoc (72 * 2 ^ 20) = some (5, 0, 0) ∧ apLoc (76 * 2 ^ 20) = none ∧ scratchState.pcie.d3hot = false := by decide +kernel
theorem wit_WindowReachesTheMemories_bad : let s : State := { scratchState with mem := { badWords := [8] } }
    wordBad s 0 0 1 = true ∧ apBad s (0, 0, 1) = true ∧ (0, 0, 1) ∈ apWords 8 8 ∧ (∀ p ∈ apWords 16 16, apBad s p = false) := by
  decide +kernel
theorem wit_WindowReachesTheMemories_hbm : stackUsable scratchState 1 = true ∧ stackUsable State.reset 0 = false ∧
    hbmWritable scratchState 0x100 = true ∧ hbmWritable scratchState (stackSize scratchState - 1) = false ∧ scratchState.shep.pageQuar = [] ∧
    hbmBad scratchState 0x100 8 = false ∧ hbmBad { scratchState with mem := { badHbm := [0x100] } } 0x100 8 = true := by decide +kernel

theorem wit_BanksStacksAndRepairs : scratchState.starts h0 (memPowerChecks h0 1 1 0 5 scratchState) ∧
    scratchState.starts h0 (memPowerChecks h0 1 0 0 3 scratchState) ∧
    (powerNamed 1 0 3).filter (fun k => unitPower scratchState k != 2) = [] ∧
    (powerNamed 1 0 5).filter (fun k => unitPower scratchState k != 1) = [0, 2] ∧
    captureBusy scratchState = false ∧ playing scratchState = false ∧
    capState.starts h0 (memPowerChecks h0 0 2 0 1 capState) ∧ (actDeck capState).isSome = true := by decide +kernel
theorem wit_BanksStacksAndRepairs_done :
    let s : State := { scratchState with pwr := { changing := [(1, 0, some (0, 7)), (512, 0, none)] } }
    s.pwr.changing.find? (fun c => c.1 == powerKey (.bank 0 1)) = some (1, 0, some (0, 7)) ∧
    s.pwr.changing.find? (fun c => c.1 == powerKey (.stack 0)) = some (512, 0, none) := by decide +kernel
theorem wit_BanksStacksAndRepairs_runs :
    (jobState 0x0B01 (jobOf [])).runs 0 7 0x0B01 := ⟨_, rfl, rfl, rfl⟩
theorem wit_BanksStacksAndRepairs_refresh : let s : State := { hbmOn with regs := [(Reg.CHIP_PWR_CTRL, 4), (0x4C, 0xAA003)] }
    (rd s Reg.CHIP_PWR_CTRL).getLsbD 2 = true ∧ regionsAsleep s = true ∧ stackState s 2 = 2 := by decide +kernel
theorem wit_BanksStacksAndRepairs_rows : bankOn scratchState 0 1 = true ∧ banksOn scratchState ≠ [] ∧
    tabGet 0 scratchState.mem.rows 1 < 10 ∧ 10 ≤ tabGet 0 [(1, 10)] 1 ∧ rdF scratchState (Reg.HBM_POOL 0) 18 0 ≠ 0 := by decide +kernel

def regWitState : State := { hbmOn with regs := [(0x30, 0x0FFFFFF7), (0x4C, 0xAA000)] }
theorem wit_RegisterAccessesFollowTheWidthRules : (findReg 0xC).isNone = true ∧ (findReg 0x18).isSome = true ∧
    ownerLets .host regWitState (Reg.MRX_PRBS_ERR_LO 1 2) = true ∧ isLo (Reg.MRX_PRBS_ERR_LO 1 2) = true ∧
    ownerLets .host State.reset 0xA00008 = false := by decide +kernel
/-- CMDQ_COAL of pair 0, of plain RW fields; its base registers are CFG fields. -/
theorem wit_RegisterAccessesFollowTheWidthRules_plain : (findReg (Reg.CMDQ_COAL 0)).isSome = true ∧
    ctrlOf (Reg.CMDQ_COAL 0) ≠ some (Reg.CMDQ_COAL 0) ∧ isLo (Reg.CMDQ_COAL 0) = false ∧ isHi (Reg.CMDQ_COAL 0) = false ∧
    ownerLets .host State.reset (Reg.CMDQ_COAL 0) = true ∧ cfgOpen State.reset (Reg.CMDQ_COAL 0) = true ∧
    cfgOpen ringState (Reg.CMDQ_SQ_BASE_LO 3) = false ∧ ((findReg (Reg.CMDQ_SQ_BASE_LO 3)).map (fun r =>
      changesCfg (rd ringState (Reg.CMDQ_SQ_BASE_LO 3)) 0x5000 r.fields)) = some true := by decide +kernel
theorem wit_RegisterAccessesFollowTheWidthRules_patrol : ownerLets .shepherd State.reset Reg.SHEP_CTRL = true ∧
    (rd State.reset Reg.SHEP_CTRL).getLsbD 0 = true ∧ State.reset.deck.stage = 0 ∧ spareServes State.reset 3 = false ∧
    (patrolOf State.reset 3).failed = false := by decide +kernel
theorem wit_RegisterAccessesFollowTheWidthRules_group : (findReg 0x200008).isSome = true ∧ latchedBy 0x200008 = [0x20000C] ∧
    (findReg 0x20000C).isSome = true := by decide +kernel

theorem wit_KeysClearsEnablesAndOwners : (masterOf State.reset .host).unlocked = false ∧ (findReg 0x5C).isSome = true ∧
    (masterOf State.reset .shepherd).lockout = false ∧ 8 ≤ ({ strikes := 7 } : MasterSt).strikes + 1 := by decide
theorem wit_KeysClearsEnablesAndOwners_open : (masterOf { State.reset with host := { unlocked := true } } .host).unlocked = true ∧
    (masterOf { State.reset with shepM := { lockout := true } } .shepherd).lockout = true := by decide
theorem wit_KeysClearsEnablesAndOwners_sqc : ((findReg Reg.MEM_STATUS).bind RegD.flags).isSome = true ∧
    ((findReg (Reg.IRQ_BLK_STATUS 6)).bind RegD.flags).isSome = true ∧ ((findReg (Reg.CMDQ_STATUS 3)).bind RegD.flags).isSome = true := by
  decide +kernel
theorem wit_KeysClearsEnablesAndOwners_en : ownerLets .host ringState (Reg.CMDQ_CTRL 3) = true ∧
    blkState ringState (Reg.CMDQ_CTRL 3) = stOn ∧ ownerLets .shepherd ringState (Reg.INGEST_CTRL 2) = true ∧
    (let s : State := { State.reset with regs := [(Reg.MRX_TRAIN_CTRL 2, 0x06486421)] }
     ownerLets .shepherd s (Reg.MRX_TRAIN_CTRL 2) = true ∧ blkEn s (Reg.MRX_TRAIN_CTRL 2) = true) := by decide +kernel

/-- Receive group 1 is ACTIVE; lane 2 serves position 18 and expects the block in slot 5 of its interval. -/
def rxLaneSt : LaneSt := { st := .active, lock := true, markerNo := some 800, slot := 5, scr := 0x7FFFFFFD }
def rxState (x : LaneSt) : State := { State.reset with
  link := [(1, { st := .active, lanes := [(2, x), (16, { st := .active })], caps := 2 })]
  ingest := { pos := [(18, some 800)] } }
/-- The levels of a block of type `ty` with a good CRC. -/
def goodLevels (ty : Nat) (raw : BitVec 256) : BitVec 272 :=
  let b : BitVec 272 := BitVec.ofNat 272 (raw.toNat * 65536 + (crc12 (BitVec.ofNat 2 ty) raw).toNat * 16 + ty)
  b ^^^ ((b >>> 1) &&& loBits)
theorem wit_ReceivedBlocksReachIngest : rxLane 18 = (1, 2) ∧ receiving (linkOf (rxState rxLaneSt) 1) rxLaneSt = true ∧
    servedBy (linkOf (rxState rxLaneSt) 1) 2 = some 2 ∧ posNext (rxState rxLaneSt) 18 = some 800 := by decide +kernel
theorem wit_ReceivedBlocksReachIngest_data : let b := rxBits (linkOf (rxState rxLaneSt) 1) rxLaneSt (goodLevels 0 5)
    b.toNat % 4 = 0 ∧ crc12 0 ((b >>> 16).setWidth 256) = BitVec.ofNat 12 (nbits b.toNat 15 4) ∧
    nbits b.toNat 3 2 = rxLaneSt.dataCnt % 4 := by decide +kernel
/-- A marker of lane 2, group 1, mode 0, INDEX 800. -/
def marker800 : BitVec 256 := BitVec.ofNat 256 (0xC3A5 + 2 * 65536 + 1 * 2 ^ 24 + 800 * 2 ^ 64)
theorem wit_ReceivedBlocksReachIngest_marker : markerOk (rxState rxLaneSt) 1 2 marker800 = true ∧ markerIndex marker800 = 800 ∧
    (let b := rxBits (linkOf (rxState rxLaneSt) 1) rxLaneSt (goodLevels 3 marker800)
     b.toNat % 4 = 3 ∧ crc12 3 ((b >>> 16).setWidth 256) = BitVec.ofNat 12 (nbits b.toNat 15 4)) ∧
    markerOk (rxState rxLaneSt) 1 2 0 = false := by decide +kernel
theorem wit_ReceivedBlocksReachIngest_bad : let b := rxBits (linkOf (rxState rxLaneSt) 1) rxLaneSt 0
    b.toNat % 4 = 0 ∧ crc12 0 ((b >>> 16).setWidth 256) ≠ BitVec.ofNat 12 (nbits b.toNat 15 4) ∧
    rxLaneSt.crcFails + 1 ≤ rdF (rxState rxLaneSt) (Reg.MRX_LINK_CFG 1) 15 8 := by decide +kernel
theorem wit_ReceivedBlocksReachIngest_events : (linkOf (rxState rxLaneSt) 1).st = .active ∧
    checking { rxState rxLaneSt with regs := [(Reg.MRX_LANE_TEST 1 2, 0x20)] } 1 2 = true ∧
    rdF (rxState rxLaneSt) Reg.SHEP_CTRL 23 16 ≠ 0 ∧ inRun { st := .blockLock } = true ∧
    (linkOf { State.reset with link := [(3, { st := .eidle })] } 3).st = .eidle := by decide +kernel

def grpState (l : GroupLink) : State := { State.reset with link := [(2, l)] }
def openReq (t : Byte) (payload : List Byte) : Option SbReq := some { type := t, seq := 9, payload := payload }
def frameOf (t : Byte) (payload : List Byte) : SbFrame := { good := true, type := t, seq := 9, payload := payload }
theorem wit_SidebandLeadsTraining : sbValid (frameOf 1 [0, 1, 2, 3, 4, 0, 0, 0, 0, 0, 0, 0]) = true ∧
    helloOk 2 [0, 1, 2, 3, 4, 0, 0, 0, 0, 0, 0, 0] = true ∧ helloOk 2 [0, 1, 1, 3, 4, 0, 0, 0, 0, 0, 0, 0] = false ∧
    sbValid (frameOf 2 [3, 1, 0xFF, 0xFF, 0, 0, 0, 0]) = true ∧ sbValid (frameOf 2 [3, 0, 0xFF, 0xFF, 0, 0, 0, 0]) = true ∧
    sbValid (frameOf 3 [0xFF, 1, 0, 0, 0, 0, 0, 0, 0, 0, 0, 0]) = true ∧ sbValid (frameOf 4 [2, 4, 7, 0, 0, 0, 0, 0]) = true ∧
    sbValid (frameOf 5 [4, 0, 0, 0]) = true ∧ sbValid (frameOf 6 [0, 0, 0, 0, 0, 0, 0, 0]) = true ∧ sbValid (frameOf 0x7F [2, 1]) = true ∧
    sbValid (frameOf 0x7F [2, 4]) = false := by decide +kernel
theorem wit_SidebandLeadsTraining_run : let s := grpState { st := .levelTrain, step := 2, mask := 0xFFFF, req := openReq 2 (trainPay 3 2 0xFFFF 0) }
    inRun (linkOf s 2) = true ∧ (linkOf s 2).step = 2 ∧ ((linkOf s 2).req.map (fun r => (r.type, r.seq, leAt r.payload 1 1))) = some (2, 9, 2) ∧
    procRuns s 2 = false ∧ testBusy s [(2, 0)] = false := by decide +kernel
theorem wit_SidebandLeadsTraining_step : let s := grpState { st := .deskew, step := 2, mask := 0xFFFF }
    inRun (linkOf s 2) = true ∧ deskewed s 2 0xFFFF = false ∧ (linkOf s 2).req = none ∧
    (0xFFFF : BitVec 17) &&& 0x1FFFF = 0xFFFF := by decide +kernel
theorem wit_SidebandLeadsTraining_deskew :
    let s := grpState { st := .deskew, step := 2, mask := 1, excl := 0x1FFFE, lanes := [(0, { mark := some (0, 80000000) })] }
    deskewed s 2 1 = true ∧ aligned s 2 = true ∧
    (let u : State := { s with ingest := { ref := some 0 }, tb := { s.tb with epoch := some 0, now := 0 } }
     deskewed u 2 1 = true ∧ aligned u 2 = false) := by decide +kernel
theorem wit_SidebandLeadsTraining_answer : let s : State := { State.reset with
    link := [(4, { st := .active, req := openReq 4 [1, 0, 1, 0, 0, 0, 0, 0], cmds := [{ ring := 0, cid := 7, kind := 6 }] })]
    cmd := { running := [{ ring := 0, cid := 7, op := 0x0906, obj := 0, aux := 0 }] } }
    (linkOf s 4).cmds.length = 1 ∧ (∀ k < 6, k ≠ 4 → (linkOf s k).cmds = []) ∧ s.runs 0 7 0x0906 :=
  ⟨by decide, by decide, ⟨_, rfl, rfl, rfl⟩⟩

def idleGroup (l : GroupLink) : State := { hbmOn with link := [(2, l), (4, l)], regs := [(0x4C, 0xAA000), (Reg.MRX_TRAIN_CTRL 2, 0x064864AD)] }
def eye0 : EyeParams := { lane := 34, eye := 1, dwell := 10, phMin := 0xF0, phMax := 16, phStep := 8, vMin := 0xF0, vMax := 16, vStep := 8, dest := 0 }
theorem wit_LinkCommandsActOnTheirLanes : let s := idleGroup {}
    s.starts h0 (linkTrainChecks h0 0 2) ∧ grpServes s 2 = false ∧ blkEn s (Reg.MRX_TRAIN_CTRL 2) = true ∧
    s.starts h0 (linkTrainChecks h0 1 0) ∧ blkEn s (Reg.MRX_TRAIN_CTRL 4) = false ∧
    s.starts h0 (loopbackChecks h0 1 0 1 s) ∧ s.starts h0 (prbsChecks h0 0 2 4 1 1 s) ∧ (∀ p ∈ [(0, 0)], serves s p.1 p.2 = false) := by
  decide +kernel
theorem wit_LinkCommandsActOnTheirLanes_active : let s := idleGroup { st := .active, lanes := [(2, { st := .active })] }
    s.starts h0 (linkSleepChecks h0 0 2 0 s) ∧ s.starts h0 (linkSleepChecks h0 1 0 1 s) ∧ grpServes s 2 = true ∧ captureBusy s = false ∧
    procRuns s 2 = false ∧ s.starts h0 (eyeScanChecks h0 eye0 s) ∧ rxLane 34 = (2, 2) ∧ (laneOf s 2 2).st = .active ∧
    segsLen (bufList s 0) / 8 = 40 := by decide +kernel
theorem wit_LinkCommandsActOnTheirLanes_slip : let s := idleGroup { st := .blockLock }
    s.starts h0 (bitSlipChecks h0 34 5 s) ∧ slipSw s 2 = true ∧ (linkOf s 2).st = .blockLock ∧ slipSw s 1 = false ∧
    s.starts h0 (bitSlipChecks h0 18 5 s) := by decide +kernel

def patrolState (x : PatrolSt) : State := { hbmOn with shep := { patrol := [(2, x)] } }
theorem wit_PatrolSparesAndAgeing : patrolSuspended (patrolState {}) 2 = false ∧ spareServes (patrolState {}) 2 = false ∧
    spareFree (patrolState { slot := some 6, confirming := true }) 2 = true ∧ (patrolOf (patrolState { slot := some 6 }) 2).slot = some 6 ∧
    patrolSuspended { patrolState { slot := some 6 } with regs := [(Reg.SHEP_CTRL, 0)] } 2 = true ∧
    spareFree (patrolState { slot := some 6, failed := true }) 2 = false := by decide +kernel
theorem wit_PatrolSparesAndAgeing_unconf :
    3 ≤ (((17 * 2 + 6) :: (([(35, 5), (36, 5)] : List (Nat × Time)).filter
      (fun e => decide (0 < e.2 + nsT (24 * 3600 * second)))).map Prod.fst).eraseDups).length := by decide +kernel
theorem wit_PatrolSparesAndAgeing_commit : hbmOn.starts h0 (spareCommitChecks h0 0 40) ∧ spareFree hbmOn 2 = true ∧
    hbmOn.starts h0 (spareCommitChecks h0 0 16) ∧
    (let s := idleGroup { st := .active, caps := 2, lanes := [(16, { st := .active })] }
     s.starts h0 (spareCommitChecks h0 1 34) ∧ (laneOf s 2 16).st = .active ∧ (linkOf s 2).caps.getLsbD 1 = true ∧ rxLane 34 = (2, 2)) := by
  decide +kernel
theorem wit_PatrolSparesAndAgeing_lists : hbmOn.starts h0 (spareStatusChecks h0 0 hbmOn) ∧ hbmOn.starts h0 (wearForecastChecks h0 0 hbmOn) ∧
    segsLen (bufList hbmOn 0) = 320 ∧ (sparedBlocks hbmOn)[3]?.isSome = true ∧ rdF hbmOn Reg.CHIP_AVS 9 0 < 800 ∧
    nvWarned hbmOn = false := by decide +kernel

def coreState3 (a b c : CoreState) : State := { hbmOn with shep := { cores := (a, b, c) } }
theorem wit_CoresFirmwareAndNvAreas : hbmOn.shep.cores = (.paired, .paired, .warm) ∧ hbmOn.starts h0 (fwStageChecks h0 4 0 hbmOn) ∧
    (segsRead hbmOn.mem (bufList hbmOn 0) 4).length = 4 ∧ hbmOn.starts h0 (fwStageChecks h0 400 0 hbmOn) ∧
    (segsRead hbmOn.mem (bufList hbmOn 0) 400).length < 400 ∧ hbmOn.starts h0 (fwActivateChecks h0 hbmOn) ∧
    hbmOn.starts h0 (nvWriteChecks h0 0 4 0 hbmOn) ∧ hbmOn.starts h0 (nvWriteChecks h0 3 0 0 hbmOn) ∧ nvWarned hbmOn = false := by
  decide +kernel
theorem wit_CoresFirmwareAndNvAreas_test : (coreState3 .selfTest .selfTest .single).shep.cores.1 = .selfTest ∧
    (coreState3 .selfTest .selfTest .quarantined).shep.cores.2.1 = .selfTest ∧ (coreState3 .single .quarantined .quarantined).shep.handover = none := by
  decide
def handover7 : State := { hbmOn with
  shep := { cores := (.staged, .staged, .single), stagedImage := some 9, handover := some (0, 7) }
  cmd := { running := [{ ring := 0, cid := 7, op := 0x0C05, obj := 0, aux := 0 }] } }
theorem wit_CoresFirmwareAndNvAreas_handover : handover7.shep.handover = some (0, 7) ∧ handover7.runs 0 7 0x0C05 := ⟨rfl, ⟨_, rfl, rfl, rfl⟩⟩
theorem wit_CoresFirmwareAndNvAreas_staged : let s : State := { coreState3 .paired .paired .staged with
    shep := { cores := (.paired, .paired, .staged), stagedImage := some 9 } }
    s.starts h0 (fwActivateChecks h0 s) ∧ s.shep.stagedImage = some 9 := by decide +kernel

def fieldState (src count : Nat) : State := { hbmOn with sec := { life := 2, count := count, policy := 4, active := BitVec.ofNat 5 src } }
theorem wit_TamperKeysLifeCycleAndWipe : tamperArmed hbmOn 2 = true ∧ tamperArmed { hbmOn with pwr := { outOfRange := true } } 2 = false ∧
    tamperArmed (fieldState 0 27) 1 = true ∧ (fieldState 0 27).sec.life = 2 ∧ (fieldState 0 27).sec.policy.getLsbD 2 = true := by decide +kernel
theorem wit_TamperKeysLifeCycleAndWipe_commands : hbmOn.starts h0 (keyProvisionChecks h0 3 0 4 0 hbmOn) ∧
    hbmOn.starts h0 (keyProvisionChecks h0 247 3 4 0 hbmOn) ∧ hbmOn.starts h0 (keyProvisionChecks h0 32 2 128 0 hbmOn) ∧
    (segsRead hbmOn.mem (bufList hbmOn 0) 4).length = 4 ∧ (segsRead hbmOn.mem (bufList hbmOn 0) 128).length = 128 ∧
    hbmOn.starts h0 (lifecycleAdvanceChecks h0 4 352 0 hbmOn) ∧ captureBusy hbmOn = false ∧ playing hbmOn = false ∧ nvWarned hbmOn = false ∧
    hbmOn.starts h0 (tamperStatusChecks h0) ∧ hbmOn.starts h0 (wipeChecks h0 7 hbmOn) ∧
    hbmOn.starts h0 (wipeChecks h0 1 hbmOn) := by decide +kernel
/-- A list of 352 bytes for the authorisation, in a state whose capture runs and in one whose supply warns. -/
def authState : State := { hbmOn with mem := { host := [(8, 64), (9, 1), (10, 1), (12, 4)] } }
theorem wit_TamperKeysLifeCycleAndWipe_list : authState.starts h0 (lifecycleAdvanceChecks h0 4 352 0 authState) ∧
    captureBusy { authState with folds := { groups := [(3, { st := .armed })] } } = true ∧
    nvWarned { authState with pwr := { warnIo := true } } = true := by decide +kernel

theorem wit_ResetsAndWhatTheyKeep : hbmOn.pwr.por = false ∧ (rd State.reset Reg.CMDQ_READY).getLsbD 0 = false ∧
    processing State.reset = true ∧ processing (coreState3 .quarantined .quarantined .quarantined) = false ∧
    (rd { hbmOn with regs := [(Reg.CMDQ_READY, 1)] } Reg.CMDQ_READY).getLsbD 0 = true ∧ actDeck hbmOn = none ∧ hbmOn.pgen.st = .idle ∧
    (masterOf { hbmOn with host := { unlocked := true } } .host).unlocked = true ∧ (1 : Word).getLsbD 0 = true := by decide +kernel
theorem wit_ResetsAndWhatTheyKeep_items : let s : State := { hbmOn with sec := { sealedItems := [(3, 0, [1], 0, 0), (4, 0, [1], 2, 0)] } }
    s.sec.active = 0 ∧ s.sec.sealedItems.all (fun i => i.2.2.2.1 == s.sec.life && i.2.2.2.2 == s.sec.count && !scrapped s) = false := by
  decide +kernel

def sleepy (v st : Nat) : State := { hbmOn with
  deck := { active := some (3, emptyDeck) }, regs := [(0x44, BitVec.ofNat 32 v), (0x4C, BitVec.ofNat 32 st)] }
theorem wit_SuppliesClocksSleepAndWake : hbmOn.pwr.por = false ∧ maySleep (sleepy 0x100 0x2) = true ∧ maySleep (sleepy 0 0x2) = false ∧
    rdF (sleepy 0x100 0x1) Reg.CHIP_PWR_STATE 1 0 = 1 ∧ (actDeck (sleepy 0 2)).isSome = true ∧ hbmOn.pwr.holdover = none ∧
    rdF hbmOn Reg.CHIP_AVS 9 0 = 760 := by decide +kernel

end Sys2Proof.Tests
end

/-!
PROOF. An fclk on an empty queue: only tickTime moves the bellwether, SYNC_OUT's pulse is all else in the timebase that moves, and the
parts outside the mask of `tick_hide` stay.
-/

namespace Sys2Proof.Machine

/-! The timebase through a tick. The mask 2147483583 has every part's bit but the timebase's, so a frame with it is one of the timebase
alone. A transmit group never reaches startTbase, so its sideband requests and spares have sharper frames here than in Laws. -/

/-- A part (or what is read of the state) that a mask does not hide is equal where the hidden forms are. -/
theorem part_of_hide {α : Type} {m : Nat} {s t : State} (h : t.hide m = s.hide m) (p : State → α) (hp : ∀ x, p (x.hide m) = p x) :
    p t = p s := by
  rw [← hp t, h, hp s]

theorem tb_of_hide {s t : State} (h : t.hide 2147483583 = s.hide 2147483583) : t.tb = s.tb := part_of_hide h State.tb fun _ => rfl

theorem pumpSb_hide_butTb (s : State) (g : Nat) : (pumpSb s g).hide 2147483583 = s.hide 2147483583 := by
  unfold pumpSb; dsimp only
  (repeat' split) <;> simp

theorem sbAsk_hide_butTb (s : State) (g : Nat) (type : Byte) (payload : List Byte) :
    (sbAsk s g type payload).hide 2147483583 = s.hide 2147483583 := by
  simp [sbAsk, pumpSb_hide_butTb]

theorem negAsk_hide_butTb (s : State) (g j fails : Nat) : (negAsk s g j fails).hide 2147483583 = s.hide 2147483583 := by
  simp [negAsk, sbAsk_hide_butTb]

theorem trySpare_hide_butTb (s : State) (g : Nat) : (trySpare s g).hide 2147483583 = s.hide 2147483583 := by
  unfold trySpare; dsimp only
  (repeat' split) <;> simp [negAsk_hide_butTb]

theorem promoteSpare_hide_butTb (s : State) (g j : Nat) : (promoteSpare s g j).hide 2147483583 = s.hide 2147483583 := by
  simp [promoteSpare, trySpare_hide_butTb]

theorem enterEidle_hide_butTb (s : State) (g : Nat) : (enterEidle s g).hide 2147483583 = s.hide 2147483583 := by
  simp [enterEidle, sbAsk_hide_butTb]

theorem beginSlot_hide_butTb (t b : Nat) (s : State) : (beginSlot t b s).hide 2147483583 = s.hide 2147483583 := by
  unfold beginSlot; dsimp only
  (repeat' split) <;> simp [promoteSpare_hide_butTb, enterEidle_hide_butTb]

theorem tickSlot_hide_butTb (s : State) (t : Nat) : (tickSlot s t).hide 2147483583 = s.hide 2147483583 := by
  unfold tickSlot; dsimp only
  (repeat' split) <;> simp [beginSlot_hide_butTb]

/-- What of the timebase SYNC_OUT's pulse (R42) does not move. -/
def TimeSt.withoutPulse (x : TimeSt) : TimeSt := { x with syncOut := false, syncLeft := 0 }

theorem syncOutPulse_withoutPulse (s : State) : (syncOutPulse s).tb.withoutPulse = s.tb.withoutPulse := by
  unfold syncOutPulse; split <;> rfl

theorem tickSyncOut_withoutPulse (s : State) : (tickSyncOut s).tb.withoutPulse = s.tb.withoutPulse := by
  unfold tickSyncOut syncOutEnd; (repeat' split) <;> rfl

theorem tickRun_tb (s : State) (a b : Time) : (tickRun s a b).tb = (syncOutPulse s).tb :=
  tb_of_hide (by simp [tickRun])

theorem tick_withoutPulse (s : State) : (tick s).tb.withoutPulse = (tickTime s).tb.withoutPulse := by
  have parts (s : State) : ([0, 1].foldl tickSlot (tickEngines (tickDeal (tickTrigOut s)))).tb = s.tb :=
    tb_of_hide (by simp [tickSlot_hide_butTb])
  unfold tick; dsimp only
  split
  · rw [tickRun_tb, syncOutPulse_withoutPulse, parts, tickSyncOut_withoutPulse]
  · rw [parts, tickSyncOut_withoutPulse]

theorem tickTime_sub (s : State) : (tickTime s).tb.sub = if 64 ≤ s.tb.sub + 1 then 0 else s.tb.sub + 1 := by
  simp [tickTime]

theorem tickTime_now_of_running {s : State} (h : s.tb.running = true) : (tickTime s).tb.now = (s.tb.now + 4 * 10240) % 2 ^ 80 := by
  simp [tickTime, h, fclkT, timeMod]

theorem tickTime_now_of_stopped {s : State} (h : s.tb.running = false) :
    (tickTime s).tb.now = if 64 ≤ s.tb.sub + 1 then (s.tb.now + 40 * 65536) % 2 ^ 80 else s.tb.now := by
  simp [tickTime, h, nsT, timeMod]

/-- Settles O2: the timebase by `tick_withoutPulse` and what `tickTime` does, the other parts by `tick_hide`. -/
theorem idleStepPassesOneFclk : Obligations.IdleStepPassesOneFclk := by
  unfold Obligations.IdleStepPassesOneFclk
  intro s hp
  have keeps {α : Type} := part_of_hide (α := α) (tick_hide s (m := 184479202) rfl)
  have hclk := tick_withoutPulse s
  simp only [TimeSt.withoutPulse, TimeSt.mk.injEq] at hclk
  obtain ⟨hnow, hrun, hsub, hepoch, hofs, hwait, -⟩ := hclk
  refine ⟨tick s, by simp [step, hp], (keeps State.pending fun _ => rfl).trans hp, fun h => ⟨hrun.trans h, ?_⟩,
    fun h => ⟨hrun.trans h, ?_⟩, ?_, hepoch, hwait, hofs, keeps State.host fun _ => rfl, keeps State.shepM fun _ => rfl,
    keeps State.reply fun _ => rfl, keeps State.drov fun _ => rfl, keeps State.eq fun _ => rfl, keeps State.flock fun _ => rfl,
    keeps State.dac fun _ => rfl, keeps State.pwr fun _ => rfl, keeps State.sec fun _ => rfl⟩
  · rw [hnow, tickTime_now_of_running h]
  · rw [hnow, tickTime_now_of_stopped h]
  · rw [hsub, tickTime_sub]

end Sys2Proof.Machine

/-!
PROOF. What every command answers, and when a Zalou command starts: the cases are those of its arrival.
-/

namespace Sys2Proof.Machine

/-- Settles O8, by what `exec_keeps` says of every command. -/
theorem everyCommandAnswersANextState : Obligations.EveryCommandAnswersANextState := by
  unfold Obligations.EveryCommandAnswersANextState
  intro i s
  obtain ⟨t, ht, hp, -, -⟩ := exec_keeps i s
  exact ⟨t, ht, hp⟩

/-- The state in which no command is fetched. -/
def State.noneFetched (s : State) : State := s.setCmd { s.cmd with fetched := [] }

/-- A Zalou command's row is its start under `startCmd`, and neither its checks nor its effect depend on the fetched commands. -/
theorem exec_zalou {s : State} {i : Instr} {h : CmdHdr} {c : Checks} (hz : zalou s i = some (h, c)) :
    ∃ wake body, exec i s = .next (startCmd h c wake body s) ∧
      exec i s.noneFetched = .next (startCmd h c wake body s.noneFetched) := by
  cases i <;> cases hz <;> exact ⟨_, _, rfl, rfl⟩

/-- Among fetched commands of which none is this one, the arrival ends without a start or judges the ID first (R325, R326). -/
theorem arrive_new {s : State} {h : CmdHdr} (op : Nat) (ready : Bool)
    (hnew : s.cmd.fetched.any (fun f => f.ring == h.ring && f.cid == h.cid) = false) :
    arrive h op ready s =
      if cidInFlight s h.cid then (complete s h.ring h.cid op cIdInUse 0 0, false)
      else if 1024 ≤ inFlight s then (s, false)
      else if s.cmd.fetched.isEmpty && !fenced s h && ready then (s, true)
      else (s.modCmd (fun c => { c with
        fetched := c.fetched ++ [{ ring := h.ring, cid := h.cid, fence := h.fence }] }), false) := by
  have hhead : (s.cmd.fetched.head?.map fun f => f.ring == h.ring && f.cid == h.cid).getD false = false := by
    cases hl : s.cmd.fetched with
    | nil => rfl
    | cons f fs => rw [hl, List.any_cons, Bool.or_eq_false_iff] at hnew; exact hnew.1
  unfold arrive
  simp only [hhead, hnew, Bool.false_eq_true, if_false]

/-- A command that does not start now leaves what its arrival leaves. -/
theorem startCmd_of_not_started {s t : State} {h : CmdHdr} {c : Checks} (wake : Option Instr) (body : State → State)
    (hp : processing s = true) (ha : arrive h c.op c.ready s = (t, false)) : startCmd h c wake body s = t := by
  simp [startCmd, hp, ha]

/-- The only fetched command starts, once nothing holds it back, as it does where it is not fetched yet. -/
theorem startCmd_alone {s : State} {h : CmdHdr} {c : Checks} {f : Fetched} (wake : Option Instr) (body : State → State)
    (hp : processing s = true) (hl : s.cmd.fetched = [f]) (hring : f.ring = h.ring) (hcid : f.cid = h.cid)
    (hresv : f.resv = none) (hf : fenced s h = false) (hr : c.ready = true)
    (hid : cidInFlight s.noneFetched h.cid = false) (hn : inFlight s.noneFetched < 1024) :
    startCmd h c wake body s = startCmd h c wake body s.noneFetched := by
  have ha : arrive h c.op c.ready s = (s.noneFetched, true) := by
    simp [arrive, hl, hring, hcid, hf, hr, State.noneFetched, State.modCmd]
  have hb : arrive h c.op c.ready s.noneFetched = (s.noneFetched, true) :=
    arrive_starts ⟨hp, rfl, hid, hn, hf, hr⟩
  have hp' : processing s.noneFetched = true := hp
  have hl' : s.noneFetched.cmd.fetched = [] := rfl
  simp [startCmd, hp, hp', ha, hb, hl, hl', hring, hcid, hresv]

/-- Settles O11: every Zalou command goes through `startCmd`, and the cases are those of its arrival. -/
theorem commandWaitsOrIsDuplicate : Obligations.CommandWaitsOrIsDuplicate := by
  unfold Obligations.CommandWaitsOrIsDuplicate
  intro i s h c hz
  obtain ⟨wake, body, hexec, hexec'⟩ := exec_zalou hz
  refine ⟨fun hp => ?_, fun hp hnew => ⟨fun hid => ?_, fun hid hn hheld => ?_, fun hid hn => ?_⟩,
    fun f hp hl hring hcid hresv hf hr hid hn => ?_⟩
  · rw [hexec, startCmd_waits wake body hp]
  · have ha := arrive_new c.op c.ready hnew
    rw [if_pos hid] at ha
    rw [hexec, startCmd_of_not_started wake body hp ha]
    exact ⟨_, rfl, complete_cmd .., complete_hide (h_sub := rfl) ..⟩
  · have ha := arrive_new c.op c.ready hnew
    have hwait : (s.cmd.fetched.isEmpty && !fenced s h && c.ready) = false := by
      rcases hheld with hf | hne
      · simp [hf]
      · simp [List.isEmpty_iff, hne]
    rw [hid, if_neg Bool.false_ne_true, if_neg (by omega), hwait, if_neg Bool.false_ne_true] at ha
    rw [hexec, startCmd_of_not_started wake body hp ha]
    exact ⟨_, rfl, rfl, hide_modCmd _ _ rfl⟩
  · have ha := arrive_new c.op c.ready hnew
    rw [hid, if_neg Bool.false_ne_true, if_pos hn] at ha
    rw [hexec, startCmd_of_not_started wake body hp ha]
  · exact hexec.trans ((congrArg _ (startCmd_alone wake body hp hl hring hcid hresv hf hr hid hn)).trans hexec'.symm)

end Sys2Proof.Machine

/-!
PROOF. A power-on reset does not release a stack that MEM_POWER holds in self-refresh, so not every stack answers after it.
-/

namespace Sys2Proof.Machine

/-- The header of the MEM_POWER below. -/
def holdHdr : CmdHdr := { ring := 0, cid := 7, fence := false, cflags := 0 }

/-- The machine after a MEM_POWER, right after reset, that puts stack 0 into self-refresh. -/
def stackHeld : State := memPowerBody holdHdr 0 1 0 1 State.reset

theorem exec_memPower_reset : exec (.memPower holdHdr 0 1 0 1) State.reset = .next stackHeld :=
  congrArg Host.Outcome.next (startCmd_starts none _ (by decide +kernel) (.inl rfl))

theorem boot_stackHeld_not_hbmAll : hbmAll (boot stackHeld true 0) = false := by decide +kernel

theorem exec_powerOnReset_stackHeld : exec (.powerOnReset true 0) stackHeld = .next (boot stackHeld true 0) :=
  congrArg Host.Outcome.next (if_pos (by decide +kernel))

/-- Refutes O59: in `stackHeld`, one MEM_POWER after reset, READY is 0 and Zalou runs, but POWER_ON_RESET keeps the list of held
stacks, so stack 0 still serves no command (R418) and `hbmAll` is false. -/
theorem not_resetsAndWhatTheyKeep : ¬ Obligations.ResetsAndWhatTheyKeep := by
  unfold Obligations.ResetsAndWhatTheyKeep
  intro h
  obtain ⟨-, -, -, -, hboot, -⟩ := h
  have hlow : (rd stackHeld Reg.CMDQ_READY).getLsbD 0 = false := by decide +kernel
  have hruns : processing stackHeld = true := by decide +kernel
  obtain ⟨t, ht, -, -, -, -, -, -, hall, -⟩ := ((hboot true 0 stackHeld).2 (.inr hlow)).1 hruns
  rw [exec_powerOnReset_stackHeld] at ht
  cases ht
  exact absurd (boot_stackHeld_not_hbmAll.symm.trans hall) (by decide)

end Sys2Proof.Machine

/-!
PROOF. What the operations shared by the statements of this family do: the fields of a word, registers and parts through a raised
flag, and the newest log entry.
-/

namespace Sys2Proof.Machine

/-! Fields of a word -/

theorem getLsbD_withField (w : Word) (hi lo v i : Nat) :
    (withField w hi lo v).getLsbD i =
      if lo ≤ i ∧ i ≤ hi then decide (i < 32) && v.testBit (i - lo) else w.getLsbD i := by
  simp only [withField, BitVec.getLsbD_or, BitVec.getLsbD_and, BitVec.getLsbD_not, BitVec.getLsbD_ofNat,
    Nat.testBit_mul_two_pow, Nat.testBit_two_pow_sub_one, Nat.testBit_mod_two_pow]
  by_cases hlt : i < 32
  · by_cases hlo : lo ≤ i
    · have hk : i - lo < hi + 1 - lo ↔ i ≤ hi := by omega
      by_cases hhi : i ≤ hi <;> simp [hlt, hlo, hk, hhi]
    · simp [hlt, hlo]
  · simp [hlt, BitVec.getLsbD_of_ge w i (Nat.le_of_not_lt hlt)]

theorem testBit_fieldOf (w : Word) (hi lo j : Nat) :
    (fieldOf w hi lo).testBit j = (decide (j < hi + 1 - lo) && w.getLsbD (lo + j)) := by
  simp [fieldOf, nbits, Nat.testBit_div_two_pow, BitVec.getLsbD, Nat.add_comm]

theorem fieldOf_withField_same (w : Word) {hi lo : Nat} (v : Nat) (hhi : hi < 32) :
    fieldOf (withField w hi lo v) hi lo = v % 2 ^ (hi + 1 - lo) := by
  refine Nat.eq_of_testBit_eq fun j => ?_
  rw [testBit_fieldOf, getLsbD_withField, Nat.testBit_mod_two_pow]
  by_cases hj : j < hi + 1 - lo
  · have hin : lo ≤ lo + j ∧ lo + j ≤ hi := by omega
    have hlt : lo + j < 32 := by omega
    simp [hin, hlt]
  · simp [hj]

theorem fieldOf_withField_other (w : Word) {hi lo hi' lo' : Nat} (v : Nat) (h : hi < lo' ∨ hi' < lo) :
    fieldOf (withField w hi lo v) hi' lo' = fieldOf w hi' lo' := by
  refine Nat.eq_of_testBit_eq fun j => ?_
  rw [testBit_fieldOf, testBit_fieldOf, getLsbD_withField]
  by_cases hj : j < hi' + 1 - lo'
  · rw [if_neg (by omega)]
  · simp [hj]

/-! Registers -/

theorem rdF_wrF_same (s : State) (o : Nat) {hi lo : Nat} (v : Nat) (hhi : hi < 32) :
    rdF (wrF s o hi lo v) o hi lo = v % 2 ^ (hi + 1 - lo) := by
  rw [rdF, wrF, rd_wr_same, fieldOf_withField_same _ _ hhi]

theorem rdF_wrF_field (s : State) (o v : Nat) {hi lo hi' lo' : Nat} (h : hi < lo' ∨ hi' < lo) :
    rdF (wrF s o hi lo v) o hi' lo' = rdF s o hi' lo' := by
  rw [rdF, wrF, rd_wr_same, fieldOf_withField_other _ _ h]; rfl

theorem rd_wrF_other (s : State) {o o' : Nat} (hi lo v : Nat) (h : o' ≠ o) : rd (wrF s o hi lo v) o' = rd s o' :=
  rd_wr_other s _ h

theorem bit_wrF (s : State) (o hi lo v i : Nat) (hi32 : i < 32) :
    (rd (wrF s o hi lo v) o).getLsbD i = if lo ≤ i ∧ i ≤ hi then v.testBit (i - lo) else (rd s o).getLsbD i := by
  rw [wrF, rd_wr_same, getLsbD_withField, decide_eq_true hi32, Bool.true_and]

theorem flagSet_wrF_other (s : State) {o o' : Nat} (hi lo v b : Nat) (h : o' ≠ o) :
    flagSet (wrF s o hi lo v) o' b = flagSet s o' b :=
  congrArg (BitVec.getLsbD · b) (raw_wr_other s 0 _ h)

/-! Registers outside a frame -/

variable {s t : State} {os : List Nat} {o : Nat}

theorem State.regsBut.rd (h : s.regsBut os t) (ho : o ∉ os) (k : ¬(0x200 ≤ o ∧ o < 0x1000)) : rd t o = rd s o := h o _ ho k

theorem State.regsBut.rdF (h : s.regsBut os t) (hi lo : Nat) (ho : o ∉ os) (k : ¬(0x200 ≤ o ∧ o < 0x1000)) :
    rdF t o hi lo = rdF s o hi lo := congrArg (fieldOf · hi lo) (h.rd ho k)

theorem State.regsBut.flagSet (h : s.regsBut os t) (b : Nat) (ho : o ∉ os) (k : ¬(0x200 ≤ o ∧ o < 0x1000)) :
    flagSet t o b = flagSet s o b := congrArg (BitVec.getLsbD · b) (h o 0 ho k)

/-! Parts through a raised flag, and the newest log entry -/

section
variable (s : State) (o b : Nat)

theorem raiseBit_part {α : Type} (p : State → α) (hp : ∀ x, p (x.hide 258) = p x) : p (raiseBit s o b) = p s :=
  part_of_hide (raiseBit_hide (m := 258) (h_sub := rfl) s o b) p hp

@[simp] theorem raiseBit_cmd : (raiseBit s o b).cmd = s.cmd := raiseBit_part s o b State.cmd fun _ => rfl
@[simp] theorem raiseBit_log : (raiseBit s o b).log = s.log := raiseBit_part s o b State.log fun _ => rfl
@[simp] theorem raiseBit_tb : (raiseBit s o b).tb = s.tb := raiseBit_part s o b State.tb fun _ => rfl
@[simp] theorem raiseBit_deck : (raiseBit s o b).deck = s.deck := raiseBit_part s o b State.deck fun _ => rfl
@[simp] theorem raiseBit_pwr : (raiseBit s o b).pwr = s.pwr := raiseBit_part s o b State.pwr fun _ => rfl
@[simp] theorem raiseBit_shep : (raiseBit s o b).shep = s.shep := raiseBit_part s o b State.shep fun _ => rfl

variable (cls src cell : Nat)

@[simp] theorem raiseErr_pwr : (raiseErr s o b cls src cell).pwr = s.pwr := raiseBit_pwr s o b
@[simp] theorem raiseErr_shep : (raiseErr s o b cls src cell).shep = s.shep := raiseBit_shep s o b

@[simp] theorem newestLog_raiseErr :
    ((raiseErr s o b cls src cell).newestLog.map fun e => (e.event, e.cls)) = some (1, cls) := rfl

end

end Sys2Proof.Machine

/-!
PROOF. Class F's mark, and the supplies: a fail, an overvoltage, the warnings and AVS (R25, R406, R408-R410).
-/

namespace Sys2Proof.Machine

/-! Class F, before capture and playback stop -/

/-- The device in class F, its capture and playback not yet stopped. -/
def markClassF (s : State) : State :=
  raiseErr (s.modPwr (fun p => { p with classF := true })) Reg.CHIP_STATUS 12 4 0x0480 0

theorem enterClassF_eq (s : State) : enterClassF s = stopPlayback (stopCapture (markClassF s)) := rfl

@[simp] theorem markClassF_pwr (s : State) : (markClassF s).pwr = { s.pwr with classF := true } := raiseErr_pwr ..

@[simp] theorem markClassF_shep (s : State) : (markClassF s).shep = s.shep := raiseErr_shep ..

theorem flagSet_markClassF (s : State) : flagSet (markClassF s) Reg.CHIP_STATUS 12 = true :=
  flagSet_raiseErr _ _ _ _ _ _ (by decide) (by decide) (by decide)

theorem regsBut_markClassF (s : State) : s.regsBut [Reg.CHIP_STATUS, Reg.PCIE_STATUS] (markClassF s) :=
  regsBut_raiseErr _ _ _ _ _ _

theorem markClassF_hide {m : Nat} (s : State) (h1 : 1282 &&& m = 1282) (h2 : 67108864 &&& m = 67108864) :
    (markClassF s).hide m = s.hide m := by
  simp [markClassF, h1, h2]

/-! A flag of CHIP_PWR_STATUS that is raised under a condition -/

def raiseWhen (p : Bool) (s : State) (b : Nat) : State := if p then raiseBit s Reg.CHIP_PWR_STATUS b else s

section
variable (p : Bool) (s : State) (b : Nat)

@[simp] theorem raiseWhen_hide {m : Nat} (h : 258 &&& m = 258) : (raiseWhen p s b).hide m = s.hide m := by
  simp [raiseWhen, h]

@[simp] theorem raiseWhen_pwr : (raiseWhen p s b).pwr = s.pwr :=
  part_of_hide (raiseWhen_hide p s b (m := 258) rfl) State.pwr fun _ => rfl

theorem flagSet_raiseWhen {p : Bool} (hb : b < 24) (hp : p = true) : flagSet (raiseWhen p s b) Reg.CHIP_PWR_STATUS b = true := by
  subst hp; exact flagSet_raiseBit s _ b hb (by decide) (by decide)

theorem regsBut_raiseWhen : s.regsBut [Reg.CHIP_PWR_STATUS, Reg.PCIE_STATUS] (raiseWhen p s b) := by
  cases p
  · exact regsBut_refl _ s
  · exact regsBut_raiseBit s _ b

end

/-! Supplies -/

theorem vmon_ne_avs (rail : Nat) : Reg.CHIP_VMON rail ≠ Reg.CHIP_AVS := by unfold Reg.CHIP_VMON Reg.CHIP_AVS; omega

theorem vmon_fin (rail : Fin 12) : ¬(0x200 ≤ Reg.CHIP_VMON rail ∧ Reg.CHIP_VMON rail < 0x1000) ∧
    Reg.CHIP_VMON rail ∉ [Reg.CHIP_PWR_STATUS, Reg.CHIP_STATUS, Reg.PCIE_STATUS] := by
  revert rail; decide

theorem rdF_setVolt (s : State) (rail : Fin 12) (mv : BitVec 16) :
    rdF (setVolt s rail mv) (Reg.CHIP_VMON rail) 15 0 = mv.toNat := by
  have hvolt : rdF (wrF s (Reg.CHIP_VMON rail) 15 0 mv.toNat) (Reg.CHIP_VMON rail) 15 0 = mv.toNat := by
    rw [rdF_wrF_same _ _ _ (by decide)]; exact Nat.mod_eq_of_lt mv.isLt
  unfold setVolt; dsimp only
  split
  · rw [(regsBut_wrF _ _ _ _ _).rdF _ _ (by simpa using vmon_ne_avs rail) (vmon_fin rail).1]; exact hvolt
  · exact hvolt

theorem regsBut_setVolt_of_ne {rail : Nat} (s : State) (mv : BitVec 16) (h : rail ≠ 0) :
    s.regsBut [Reg.CHIP_VMON rail] (setVolt s rail mv) := by
  simpa [setVolt, h] using regsBut_wrF s (Reg.CHIP_VMON rail) 15 0 mv.toNat

theorem regsBut_setVolt (s : State) (rail : Nat) (mv : BitVec 16) :
    s.regsBut [Reg.CHIP_VMON rail, Reg.CHIP_AVS] (setVolt s rail mv) := by
  have hv := regsBut_wrF s (Reg.CHIP_VMON rail) 15 0 mv.toNat
  unfold setVolt; dsimp only
  split
  · exact regsBut_trans (regsBut_mono (by simp) hv) (regsBut_mono (by simp) (regsBut_wrF _ _ _ _ _))
  · exact regsBut_mono (by simp) hv

/-- A rail has left its range with error `b` of class `cls`: what a fail and an overvoltage share. -/
def railError (s : State) (rail : Fin 12) (mv : BitVec 16) (b cls : Nat) : State :=
  raiseErr (leaveRange (setVolt s rail mv)) Reg.CHIP_PWR_STATUS b cls 0x0480 rail

section
variable (s : State) (rail : Fin 12) (mv : BitVec 16) (b cls : Nat)

theorem setVolt_pwr (n : Nat) : (setVolt s n mv).pwr = s.pwr :=
  part_of_hide (setVolt_hide (m := 2) (h_sub := rfl) ..) State.pwr fun _ => rfl

theorem railError_pwr : (railError s rail mv b cls).pwr = { s.pwr with outOfRange := true } := by
  simp [railError, leaveRange, setVolt_pwr]

theorem flagSet_railError (hb : b < 24) : flagSet (railError s rail mv b cls) Reg.CHIP_PWR_STATUS b = true :=
  flagSet_raiseErr _ _ _ _ _ _ hb (by decide) (by decide)

theorem regsBut_railError :
    s.regsBut [Reg.CHIP_VMON rail, Reg.CHIP_AVS, Reg.CHIP_PWR_STATUS, Reg.PCIE_STATUS] (railError s rail mv b cls) :=
  regsBut_trans (t := leaveRange (setVolt s rail mv)) (regsBut_mono (by simp) (regsBut_setVolt s rail mv))
    (regsBut_mono (by simp) (regsBut_raiseErr _ _ _ _ _ _))

theorem rdF_railError : rdF (railError s rail mv b cls) (Reg.CHIP_VMON rail) 15 0 = mv.toNat := by
  obtain ⟨htree, hnot⟩ := vmon_fin rail
  rw [railError, (regsBut_raiseErr _ _ _ _ _ _).rdF 15 0 (by simp_all) htree]
  exact rdF_setVolt s rail mv

theorem railError_sameBut : s.sameBut [.regs, .pcie, .log, .pwr] (railError s rail mv b cls) := by
  simp [State.sameBut, partMask, Part.bit, railError, leaveRange]

end

/-- SUPPLY_FAIL of a rail that enters class F, and SUPPLY_OVERVOLTAGE. -/
theorem supplyFail_and_overvoltage (rail : Fin 12) (mv : BitVec 16) (s : State) :
    (s.pwr.por = true → exec (.supplyFail rail mv) s = .next s ∧ exec (.supplyOvervoltage rail mv) s = .next s) ∧
    (s.pwr.por = false → rail.val ≠ 2 → rail.val ≠ 5 → ∃ u, exec (.supplyFail rail mv) s = .next (stopPlayback (stopCapture u)) ∧
      u.pwr = { s.pwr with outOfRange := true, classF := true } ∧ flagSet u Reg.CHIP_PWR_STATUS 2 = true ∧ flagSet u Reg.CHIP_STATUS 12 = true ∧
      rdF u (Reg.CHIP_VMON rail) 15 0 = mv.toNat ∧ u.log.entries.head?.map (fun e => (e.event, e.cls)) = some (1, 4) ∧
      s.regsBut [Reg.CHIP_VMON rail, Reg.CHIP_AVS, Reg.CHIP_PWR_STATUS, Reg.CHIP_STATUS, Reg.PCIE_STATUS] u ∧
      s.sameBut [.regs, .pcie, .log, .pwr] u) ∧
    (s.pwr.por = false → ∃ t, exec (.supplyOvervoltage rail mv) s = .next t ∧ t.pwr = { s.pwr with outOfRange := true } ∧
      flagSet t Reg.CHIP_PWR_STATUS 3 = true ∧ rdF t (Reg.CHIP_VMON rail) 15 0 = mv.toNat ∧
      t.newestLog.map (fun e => (e.event, e.cls)) = some (1, 1) ∧
      s.regsBut [Reg.CHIP_VMON rail, Reg.CHIP_AVS, Reg.CHIP_PWR_STATUS, Reg.PCIE_STATUS] t ∧ s.sameBut [.regs, .pcie, .log, .pwr] t) := by
  refine ⟨fun h => ?_, fun h h2 h5 => ⟨markClassF (railError s rail mv 2 4), ?_, ?_, ?_, flagSet_markClassF _, ?_, rfl, ?_, ?_⟩,
    fun h => ⟨railError s rail mv 3 1, ?_, railError_pwr .., flagSet_railError _ _ _ _ _ (by decide), rdF_railError ..,
      newestLog_raiseErr .., regsBut_railError _ _ _ _ _, railError_sameBut ..⟩⟩
  · simp [exec, execSupplyFail, execSupplyOvervoltage, h]
  · exact congrArg Host.Outcome.next ((if_neg (by simp [h])).trans (if_neg (by omega)))
  · simp [railError_pwr]
  · rw [(regsBut_markClassF _).flagSet 2 (by decide) (by decide)]; exact flagSet_railError _ _ _ _ _ (by decide)
  · obtain ⟨htree, hnot⟩ := vmon_fin rail
    rw [(regsBut_markClassF _).rdF 15 0 (by simp_all) htree]; exact rdF_railError ..
  · exact regsBut_trans (regsBut_mono (by simp) (regsBut_railError _ _ _ _ _)) (regsBut_mono (by simp) (regsBut_markClassF _))
  · exact (markClassF_hide _ rfl rfl).trans (railError_sameBut s rail mv 2 4)
  · exact congrArg Host.Outcome.next (if_neg (by simp [h]))

/-! Warnings -/

/-- The rail of a warning: VDD_IO or VDD_AON. -/
def warnRail (io : Bool) : Fin 12 := if io then 5 else 2

theorem warnRail_val (io : Bool) : (warnRail io).val = if io then 5 else 2 := by cases io <;> rfl

theorem regsBut_setVolt_warnRail (s : State) (io : Bool) (mv : BitVec 16) :
    s.regsBut [Reg.CHIP_VMON (warnRail io)] (setVolt s (warnRail io) mv) :=
  regsBut_setVolt_of_ne s mv (by cases io <;> decide)

theorem setVolt_setWarn_sameBut (s : State) (io b : Bool) (n : Nat) (mv : BitVec 16) :
    s.sameBut [.regs, .pcie, .pwr] (setVolt (setWarn s io b) n mv) := by
  simp [State.sameBut, partMask, Part.bit, setWarn]

/-- SUPPLY_WARNING and SUPPLY_WARNING_CLEAR. -/
theorem supplyWarning_and_clear (io : Bool) (mv : BitVec 16) (s : State) (rail : Nat) (hrail : rail = if io then 5 else 2) :
    (∃ t, exec (.supplyWarning io mv) s = .next t ∧ nvWarned t = true ∧ rdF t (Reg.CHIP_VMON rail) 15 0 = mv.toNat ∧
      (nvWarned s = false → flagSet t Reg.CHIP_PWR_STATUS 0 = true) ∧
      s.regsBut [Reg.CHIP_VMON rail, Reg.CHIP_PWR_STATUS, Reg.PCIE_STATUS] t ∧ s.sameBut [.regs, .pcie, .pwr] t) ∧
    (∃ t, exec (.supplyWarningClear io mv) s = .next t ∧ nvWarned t = (if io then s.pwr.warnAon else s.pwr.warnIo) ∧
      rdF t (Reg.CHIP_VMON rail) 15 0 = mv.toNat ∧ (nvWarned s = true → nvWarned t = false → flagSet t Reg.CHIP_PWR_STATUS 1 = true) ∧
      s.regsBut [Reg.CHIP_VMON rail, Reg.CHIP_PWR_STATUS, Reg.PCIE_STATUS] t ∧ s.sameBut [.regs, .pcie, .pwr] t) := by
  rw [← warnRail_val] at hrail
  subst hrail
  obtain ⟨htree, hnot⟩ := vmon_fin (warnRail io)
  have hraise (p : Bool) (u : State) (b : Nat) := regsBut_raiseWhen p u b
  have hvolt (b : Bool) := regsBut_setVolt_warnRail (setWarn s io b) io mv
  have hsame (b : Bool) := setVolt_setWarn_sameBut s io b (warnRail io) mv
  constructor
  · refine ⟨raiseWhen (!nvWarned s) (leaveRange (setVolt (setWarn s io true) (warnRail io) mv)) 0, ?_, ?_, ?_,
      fun h => flagSet_raiseWhen _ _ (by decide) (by simp [h]), ?_, ?_⟩
    · cases h : nvWarned s <;> simp [exec, execSupplyWarning, h, warnRail_val, raiseWhen]
    · cases io <;> simp [nvWarned, leaveRange, setVolt_pwr, setWarn]
    · rw [(hraise _ _ _).rdF 15 0 (by simp_all) htree]; exact rdF_setVolt (setWarn s io true) (warnRail io) mv
    · exact regsBut_trans (t := leaveRange (setVolt (setWarn s io true) (warnRail io) mv)) (regsBut_mono (by simp) (hvolt true))
        (regsBut_mono (by simp) (hraise _ _ _))
    · exact (raiseWhen_hide _ _ _ rfl).trans ((hide_modPwr _ _ rfl).trans (hsame true))
  · have hwarn : nvWarned (setVolt (setWarn s io false) (warnRail io) mv) = if io then s.pwr.warnAon else s.pwr.warnIo := by
      cases io <;> simp [nvWarned, setVolt_pwr, setWarn]
    refine ⟨raiseWhen (nvWarned s && !nvWarned (setVolt (setWarn s io false) (warnRail io) mv))
      (setVolt (setWarn s io false) (warnRail io) mv) 1, ?_, ?_, ?_, fun h ht => flagSet_raiseWhen _ _ (by decide) ?_, ?_, ?_⟩
    · cases io <;> rfl
    · rw [nvWarned, raiseWhen_pwr]; exact hwarn
    · rw [(hraise _ _ _).rdF 15 0 (by simp_all) htree]; exact rdF_setVolt (setWarn s io false) (warnRail io) mv
    · rw [nvWarned, raiseWhen_pwr] at ht
      rw [h, nvWarned, ht]; rfl
    · exact regsBut_trans (regsBut_mono (by simp) (hvolt false)) (regsBut_mono (by simp) (hraise _ _ _))
    · exact (raiseWhen_hide _ _ _ rfl).trans (hsame false)

/-! AVS -/

/-- The model's test of 2% is that of the rule. -/
theorem avs_off_iff (t m : Nat) : t < 50 * (max m t - min m t) ↔ m * 100 < 98 * t ∨ 102 * t < m * 100 := by omega

/-- AVS_OFF_TARGET. -/
theorem avsOffTarget (meas : BitVec 10) (s : State) : ∃ t, exec (.avsOffTarget meas) s = .next t ∧
    rdF t Reg.CHIP_AVS 25 16 = meas.toNat ∧ rdF t Reg.CHIP_AVS 9 0 = rdF s Reg.CHIP_AVS 9 0 ∧
    (meas.toNat * 100 < 98 * rdF s Reg.CHIP_AVS 9 0 ∨ 102 * rdF s Reg.CHIP_AVS 9 0 < meas.toNat * 100 → flagSet t Reg.CHIP_PWR_STATUS 7 = true) ∧
    (98 * rdF s Reg.CHIP_AVS 9 0 ≤ meas.toNat * 100 → meas.toNat * 100 ≤ 102 * rdF s Reg.CHIP_AVS 9 0 → s.regsBut [Reg.CHIP_AVS] t ∧ t.pcie = s.pcie) ∧
    s.regsBut [Reg.CHIP_AVS, Reg.CHIP_PWR_STATUS, Reg.PCIE_STATUS] t ∧ s.sameBut [.regs, .pcie] t := by
  have hmeas : rdF (wrF s Reg.CHIP_AVS 25 16 meas.toNat) Reg.CHIP_AVS 25 16 = meas.toNat := by
    rw [rdF_wrF_same _ _ _ (by decide)]; exact Nat.mod_eq_of_lt meas.isLt
  have htarget : rdF (wrF s Reg.CHIP_AVS 25 16 meas.toNat) Reg.CHIP_AVS 9 0 = rdF s Reg.CHIP_AVS 9 0 :=
    rdF_wrF_field _ _ _ (by decide)
  have hregs := regsBut_wrF s Reg.CHIP_AVS 25 16 meas.toNat
  have hsame : s.sameBut [.regs, .pcie] (wrF s Reg.CHIP_AVS 25 16 meas.toNat) := wrF_hide (h_sub := rfl) ..
  have hraise := regsBut_raiseWhen (decide (rdF s Reg.CHIP_AVS 9 0 < 50 * (max meas.toNat (rdF s Reg.CHIP_AVS 9 0) -
    min meas.toNat (rdF s Reg.CHIP_AVS 9 0)))) (wrF s Reg.CHIP_AVS 25 16 meas.toNat) 7
  refine ⟨_, ?_, (hraise.rdF 25 16 (by decide) (by decide)).trans hmeas, (hraise.rdF 9 0 (by decide) (by decide)).trans htarget,
    fun h => flagSet_raiseWhen _ _ (by decide) (decide_eq_true ((avs_off_iff _ _).2 h)), fun h1 h2 => ?_,
    regsBut_trans (regsBut_mono (by simp) hregs) (regsBut_mono (by simp) hraise), (raiseWhen_hide _ _ _ rfl).trans hsame⟩
  · simp [exec, execAvsOffTarget, raiseWhen]
  · have hin := mt (avs_off_iff (rdF s Reg.CHIP_AVS 9 0) meas.toNat).1 (by omega)
    rw [raiseWhen, decide_eq_false hin]
    exact ⟨hregs, rfl⟩

end Sys2Proof.Machine

/-!
PROOF. REFCLK's loss and return (R413, R414).
-/

namespace Sys2Proof.Machine

/-- Holdover has the value `h`, LOCK and HOLDOVER of CHIP_CLK_STATUS read `v`, and flag `b` is raised as class D. -/
def holdoverTo (s : State) (h : Option Time) (v b : Nat) : State :=
  raiseErr (wrF (s.modPwr (fun p => { p with holdover := h })) Reg.CHIP_CLK_STATUS 7 6 v) Reg.CHIP_PWR_STATUS b 2 0x0480 0

section
variable (s : State) (h : Option Time) (v b : Nat)

theorem rd_clk_holdoverTo : rd (holdoverTo s h v b) Reg.CHIP_CLK_STATUS = withField (rd s Reg.CHIP_CLK_STATUS) 7 6 v := by
  rw [holdoverTo, (regsBut_raiseErr _ _ _ _ _ _).rd (by decide) (by decide), wrF, rd_wr_same]; rfl

theorem rdF_clk_holdoverTo (hv : v < 4) : rdF (holdoverTo s h v b) Reg.CHIP_CLK_STATUS 7 6 = v := by
  rw [rdF, rd_clk_holdoverTo, fieldOf_withField_same _ _ (by decide)]; exact Nat.mod_eq_of_lt hv

theorem aon_holdoverTo : (rd (holdoverTo s h v b) Reg.CHIP_CLK_STATUS).getLsbD 8 = (rd s Reg.CHIP_CLK_STATUS).getLsbD 8 := by
  rw [rd_clk_holdoverTo, getLsbD_withField, if_neg (by decide)]

theorem flagSet_holdoverTo (hb : b < 24) : flagSet (holdoverTo s h v b) Reg.CHIP_PWR_STATUS b = true :=
  flagSet_raiseErr _ _ _ _ _ _ hb (by decide) (by decide)

theorem holdoverTo_pwr : (holdoverTo s h v b).pwr = { s.pwr with holdover := h } := raiseErr_pwr ..

theorem regsBut_holdoverTo : s.regsBut [Reg.CHIP_CLK_STATUS, Reg.CHIP_PWR_STATUS, Reg.PCIE_STATUS] (holdoverTo s h v b) :=
  regsBut_trans (t := wrF (s.modPwr (fun p => { p with holdover := h })) Reg.CHIP_CLK_STATUS 7 6 v)
    (regsBut_mono (by simp) (regsBut_wrF _ _ _ _ _)) (regsBut_mono (by simp) (regsBut_raiseErr _ _ _ _ _ _))

theorem holdoverTo_sameBut : s.sameBut [.regs, .pcie, .log, .pwr] (holdoverTo s h v b) := by
  simp [State.sameBut, partMask, Part.bit, holdoverTo]

end

/-- AON falls back from REFCLK / 4 to the oscillator. -/
def aonFallBack (s : State) : State := raiseBit (wrF s Reg.CHIP_CLK_STATUS 8 8 1) Reg.CHIP_PWR_STATUS 6

theorem rd_clk_aonFallBack (s : State) : rd (aonFallBack s) Reg.CHIP_CLK_STATUS = withField (rd s Reg.CHIP_CLK_STATUS) 8 8 1 := by
  rw [aonFallBack, (regsBut_raiseBit _ _ _).rd (by decide) (by decide), wrF, rd_wr_same]

theorem regsBut_aonFallBack (s : State) : s.regsBut [Reg.CHIP_CLK_STATUS, Reg.CHIP_PWR_STATUS, Reg.PCIE_STATUS] (aonFallBack s) :=
  regsBut_trans (regsBut_mono (by simp) (regsBut_wrF s Reg.CHIP_CLK_STATUS 8 8 1)) (regsBut_mono (by simp) (regsBut_raiseBit _ _ _))

theorem aonFallBack_log (s : State) : (aonFallBack s).log = s.log := raiseBit_log ..

theorem flagSet_aonFallBack_keep {s : State} {b : Nat} (hb : b < 24) (h : flagSet s Reg.CHIP_PWR_STATUS b = true) :
    flagSet (aonFallBack s) Reg.CHIP_PWR_STATUS b = true := by
  rw [aonFallBack, raiseBit, flagSet_raise _ _ _ _ hb (by decide) (by decide), flagSet_wrF_other _ _ _ _ _ (by decide), h, Bool.true_or]

/-- REFCLK_LOSS without holdover: class D, and AON falls back where it runs from REFCLK / 4. -/
theorem refclkLoss_of_present {s : State} (hno : s.pwr.holdover = none) :
    ∃ t, exec .refclkLoss s = .next t ∧ t.pwr.holdover = some s.tb.now ∧
      rdF t Reg.CHIP_CLK_STATUS 7 6 = 2 ∧ flagSet t Reg.CHIP_PWR_STATUS 4 = true ∧ t.newestLog.map LogEntry.cls = some 2 ∧
      ((rd s Reg.CHIP_PWR_CTRL).getLsbD 1 = true → (rd t Reg.CHIP_CLK_STATUS).getLsbD 8 = true ∧
        ((rd s Reg.CHIP_CLK_STATUS).getLsbD 8 = false → flagSet t Reg.CHIP_PWR_STATUS 6 = true)) ∧
      ((rd s Reg.CHIP_PWR_CTRL).getLsbD 1 = false → (rd t Reg.CHIP_CLK_STATUS).getLsbD 8 = (rd s Reg.CHIP_CLK_STATUS).getLsbD 8) ∧
      s.regsBut [Reg.CHIP_CLK_STATUS, Reg.CHIP_PWR_STATUS, Reg.PCIE_STATUS] t ∧ s.sameBut [.regs, .pcie, .log, .pwr] t := by
  have hexec : exec .refclkLoss s = .next (if aonFromRef s && !(rd s Reg.CHIP_CLK_STATUS).getLsbD 8
      then aonFallBack (holdoverTo s (some s.tb.now) 2 4) else holdoverTo s (some s.tb.now) 2 4) := by
    simp [exec, execRefclkLoss, refclkGone, hno]; rfl
  refine ⟨_, hexec, ?_⟩
  have hflag := flagSet_holdoverTo s (some s.tb.now) 2 4 (by decide)
  split
  · rename_i hfall
    obtain ⟨href, haon⟩ := Bool.and_eq_true_iff.1 hfall
    refine ⟨?_, ?_, flagSet_aonFallBack_keep (by decide) hflag, ?_,
      fun _ => ⟨?_, fun _ => flagSet_raiseBit _ _ _ (by decide) (by decide) (by decide)⟩,
      fun h => absurd (href.symm.trans h) (by decide), regsBut_trans (regsBut_holdoverTo _ _ _ _) (regsBut_aonFallBack _), ?_⟩
    · simp [aonFallBack, wrF, wr, holdoverTo_pwr]
    · rw [rdF, rd_clk_aonFallBack, fieldOf_withField_other _ _ (by decide)]
      exact rdF_clk_holdoverTo _ _ _ _ (by decide)
    · rw [State.newestLog, aonFallBack_log]; rfl
    · rw [rd_clk_aonFallBack, getLsbD_withField]; rfl
    · exact (raiseBit_hide (h_sub := rfl) ..).trans ((wrF_hide (h_sub := rfl) ..).trans (holdoverTo_sameBut ..))
  · rename_i hstay
    refine ⟨by rw [holdoverTo_pwr], rdF_clk_holdoverTo _ _ _ _ (by decide), hflag, rfl, fun href => ?_,
      fun _ => aon_holdoverTo _ _ _ _, regsBut_holdoverTo _ _ _ _, holdoverTo_sameBut ..⟩
    have haon : (rd s Reg.CHIP_CLK_STATUS).getLsbD 8 = true := by simpa [aonFromRef, href] using hstay
    exact ⟨(aon_holdoverTo _ _ _ _).trans haon, fun h => absurd (haon.symm.trans h) (by decide)⟩

/-- REFCLK_RETURN in holdover. -/
theorem refclkReturn_of_gone {s : State} (hgone : s.pwr.holdover.isSome = true) :
    ∃ t, exec .refclkReturn s = .next t ∧ t.pwr = { s.pwr with holdover := none } ∧
      rdF t Reg.CHIP_CLK_STATUS 7 6 = 1 ∧ flagSet t Reg.CHIP_PWR_STATUS 5 = true ∧ t.newestLog.map LogEntry.cls = some 2 ∧
      s.regsBut [Reg.CHIP_CLK_STATUS, Reg.CHIP_PWR_STATUS, Reg.PCIE_STATUS] t ∧ s.sameBut [.regs, .pcie, .log, .pwr] t :=
  ⟨holdoverTo s none 1 5, if_pos hgone, holdoverTo_pwr .., rdF_clk_holdoverTo _ _ _ _ (by decide),
    flagSet_holdoverTo _ _ _ _ (by decide), rfl, regsBut_holdoverTo _ _ _ _, holdoverTo_sameBut ..⟩

/-- AON_RETURN_TO_REFCLK. -/
theorem aonReturn (s : State) : ∃ t, exec .aonReturnToRefclk s = .next t ∧
    ((rd s Reg.CHIP_PWR_CTRL).getLsbD 1 = true → s.pwr.holdover = none →
      (rd t Reg.CHIP_CLK_STATUS).getLsbD 8 = false ∧ s.regsBut [Reg.CHIP_CLK_STATUS] t) ∧
    ((rd s Reg.CHIP_PWR_CTRL).getLsbD 1 = false ∨ s.pwr.holdover.isSome = true → t = s) ∧ s.sameBut [.regs] t := by
  refine ⟨_, rfl, fun href hno => ?_, fun h => if_neg ?_, ?_⟩
  · rw [if_pos (by simp [aonFromRef, href, refclkGone, hno])]
    exact ⟨by rw [bit_wrF _ _ _ _ _ _ (by decide)]; rfl, regsBut_wrF _ _ _ _ _⟩
  · rcases h with href | hgone
    · simp [show aonFromRef s = false from href]
    · simp [refclkGone, hgone]
  · exact hide_if (wrF_hide (h_sub := rfl) ..) rfl

end Sys2Proof.Machine

/-!
PROOF. What class F leaves of capture and playback (R25): nothing plays, and no group goes on.
-/

namespace Sys2Proof.Machine

/-- A group that captures no more: it waits for no re-arm, and where it has a segment it is IDLE, STOPPED or STOPPED_OVF. -/
def GroupSt.quiet (x : GroupSt) : Prop :=
  x.st ≠ .holdoff ∧ (x.seg.isSome = true → x.st ∈ [GroupState.idle, .stopped, .stoppedOvf])

@[simp] theorem grpOf_setGrp_same (s : State) (g : Nat) (x : GroupSt) : grpOf (setGrp s g x) g = x := tabGet_tabPut_same ..

theorem grpOf_setGrp_other (s : State) {g g' : Nat} (x : GroupSt) (h : g' ≠ g) : grpOf (setGrp s g x) g' = grpOf s g' :=
  tabGet_tabPut_other _ _ _ h _

/-- DISARM of a group either leaves the state, where the group captures no more, or stops it. -/
theorem disarmGroup_cases (sd : Sample) (s : State) (g : Nat) :
    (disarmGroup sd s g = s ∧ (grpOf s g).quiet) ∨ ∃ x : GroupSt, x.quiet ∧ disarmGroup sd s g = setGrp s g x := by
  have hstop (x : GroupSt) (hx : x.st = .stopped) : x.quiet := by simp [GroupSt.quiet, hx]
  unfold disarmGroup; dsimp only
  split
  · split
    · exact .inr ⟨_, hstop _ rfl, rfl⟩
    · exact .inr ⟨_, hstop _ rfl, rfl⟩
  · split
    · exact .inr ⟨_, hstop _ rfl, rfl⟩
    · exact .inr ⟨_, hstop _ rfl, rfl⟩
  · exact .inr ⟨_, hstop _ rfl, rfl⟩
  · exact .inr ⟨_, hstop _ rfl, rfl⟩
  · rename_i hhold hprefill harmed hpost
    refine .inl ⟨rfl, hhold, fun hseg => ?_⟩
    obtain ⟨seg, hseg⟩ := Option.isSome_iff_exists.1 hseg
    cases hst : (grpOf s g).st <;> simp_all

theorem disarmGroup_stops (sd : Sample) (s : State) (g : Nat) : (grpOf (disarmGroup sd s g) g).quiet := by
  rcases disarmGroup_cases sd s g with ⟨h, hs⟩ | ⟨x, hx, h⟩
  · rw [h]; exact hs
  · rw [h, grpOf_setGrp_same]; exact hx

theorem disarmGroup_keeps_quiet (sd : Sample) (s : State) (g g' : Nat) (hs : (grpOf s g').quiet) :
    (grpOf (disarmGroup sd s g) g').quiet := by
  by_cases hg : g' = g
  · subst hg; exact disarmGroup_stops sd s g'
  · rcases disarmGroup_cases sd s g with ⟨h, -⟩ | ⟨x, -, h⟩
    · rw [h]; exact hs
    · rw [h, grpOf_setGrp_other _ _ hg]; exact hs

theorem foldl_disarmGroup_stops (sd : Sample) (g : Nat) : ∀ (gs : List Nat) (s : State), g ∈ gs ∨ (grpOf s g).quiet →
    (grpOf (gs.foldl (disarmGroup sd) s) g).quiet
  | [], _, h => h.resolve_left List.not_mem_nil
  | a :: gs, s, h => by
    refine foldl_disarmGroup_stops sd g gs _ ?_
    rcases h with h | h
    · rcases List.mem_cons.1 h with rfl | h
      · exact .inr (disarmGroup_stops sd s g)
      · exact .inl h
    · exact .inr (disarmGroup_keeps_quiet sd s a g h)

theorem grpOf_stopPlayback (s : State) (g : Nat) : grpOf (stopPlayback s) g = grpOf s g :=
  part_of_hide (stopPlayback_hide (m := 2098562) (h_sub := rfl) s) (fun x => grpOf x g) fun _ => rfl

theorem grpOf_handsIdle (s : State) (d : DeckImage) (g : Nat) : grpOf (handsIdle s d) g = grpOf s g :=
  part_of_hide (handsIdle_hide (m := 131072) (h_sub := rfl) s d) (fun x => grpOf x g) fun _ => rfl

theorem stopCapture_stops {s : State} {g : Nat} (hg : g < 16) (hd : (actDeck s).isSome = true) :
    (grpOf (stopCapture s) g).quiet := by
  obtain ⟨d, hd⟩ := Option.isSome_iff_exists.1 hd
  unfold stopCapture
  rw [hd]
  dsimp only
  rw [grpOf_handsIdle]
  exact foldl_disarmGroup_stops _ _ _ _ (.inl (List.mem_range.2 hg))

/-- Steps that change at most commands and the log leave playback. -/
theorem foldl_pgen_of_hide {α : Type} (f : State → α → State) (hf : ∀ s x, (f s x).hide 1152 = s.hide 1152) (l : List α) (s : State) :
    (l.foldl f s).pgen = s.pgen :=
  part_of_hide (hide_foldl f hf l s) State.pgen fun _ => rfl

theorem endRun_pgen (s : State) (ring : Fin 16) (cid : BitVec 16) (st r r2 : Nat) : (endRun s ring cid st r r2).pgen = s.pgen :=
  part_of_hide (endRun_hide (m := 1152) (h_sub := rfl) ..) State.pgen fun _ => rfl

theorem playEnd_idle {s : State} (h : s.pgen.st = .run) : (playEnd s).pgen.st = .idle := by
  unfold playEnd
  rw [if_pos h]
  dsimp only
  rw [foldl_pgen_of_hide _ (fun _ _ => endRun_hide (h_sub := rfl) ..)]
  rfl

/-- Class F ends playback in every state of it. -/
theorem stopPlayback_idle (s : State) : (stopPlayback s).pgen.st = .idle := by
  unfold stopPlayback; dsimp only
  split
  · assumption
  · exact playEnd_idle ‹_›
  all_goals
    split
    · rw [endRun_pgen]; rfl
    · rfl

/-- Nothing plays after class F, and no group that captured goes on. -/
theorem classF_stops (u : State) : playing (stopPlayback (stopCapture u)) = false ∧
    (∀ g < 16, (actDeck u).isSome = true → (grpOf (stopPlayback (stopCapture u)) g).quiet) := by
  refine ⟨by simp [playing, stopPlayback_idle], fun g hg hd => ?_⟩
  rw [grpOf_stopPlayback]
  exact stopCapture_stops hg hd

end Sys2Proof.Machine

/-!
PROOF. Sleep and wake of the regions (R416, R419): the fields of CHIP_PWR_STATE and the banks' power states.
-/

namespace Sys2Proof.Machine

/-! The regions' fields of CHIP_PWR_STATE -/

def regionState (s : State) (r : Nat) : Nat := rdF s Reg.CHIP_PWR_STATE (2 * r + 1) (2 * r)

def setRegion (s : State) (r v : Nat) : State := wrF s Reg.CHIP_PWR_STATE (2 * r + 1) (2 * r) v

theorem regionState_setRegion {s : State} {r r' v : Nat} (hr : r < 5) (hv : v < 4) :
    regionState (setRegion s r' v) r = if r = r' then v else regionState s r := by
  split
  · rename_i h
    subst h
    have hbits : 2 * r + 1 + 1 - 2 * r = 2 := by omega
    rw [regionState, setRegion, rdF_wrF_same _ _ _ (by omega), hbits]
    exact Nat.mod_eq_of_lt hv
  · exact rdF_wrF_field _ _ _ (by omega)

theorem regionState_foldl_setRegion {r v : Nat} (hr : r < 5) (hv : v < 4) : ∀ (l : List Nat) (s : State),
    regionState (l.foldl (fun s r => setRegion s r v) s) r = if r ∈ l then v else regionState s r
  | [], s => by simp
  | a :: l, s => by
    rw [List.foldl_cons, regionState_foldl_setRegion hr hv l, regionState_setRegion hr hv]
    by_cases hl : r ∈ l <;> simp [hl]

theorem foldl_setRegion_rd (v : Nat) {o : Nat} (h : o ≠ Reg.CHIP_PWR_STATE) : ∀ (l : List Nat) (s : State),
    rd (l.foldl (fun s r => setRegion s r v) s) o = rd s o
  | [], _ => rfl
  | a :: l, s => by rw [List.foldl_cons, foldl_setRegion_rd v h l]; exact rd_wrF_other _ _ _ _ h

theorem mem_regionsIn (s : State) (v r : Nat) : r ∈ regionsIn s v ↔ r < 5 ∧ regionState s r = v := by
  simp [regionsIn, regionState]

theorem regionState_of_rd {s t : State} (h : rd t Reg.CHIP_PWR_STATE = rd s Reg.CHIP_PWR_STATE) (r : Nat) :
    regionState t r = regionState s r := congrArg (fieldOf · (2 * r + 1) (2 * r)) h

/-! The banks' fields of MEM_BANK_PWR -/

/-- The field of a bank, as the pair of its register and its place there. -/
def bankField (r b : Nat) : Nat × Nat := (Reg.MEM_BANK_PWR r (b / 16), b % 16)

theorem bankState_eq (s : State) {r : Nat} (b : Nat) (hr : r < 5) : bankState s r b =
    rdF s (bankField r b).1 (2 * (bankField r b).2 + 1) (2 * (bankField r b).2) := if_neg (by omega)

theorem bankField_place (r b : Nat) : (bankField r b).2 < 16 := Nat.mod_lt _ (by decide)

theorem rd_setBank (s : State) (r b v : Nat) :
    rd (setBank s r b v) = rd (wrF s (bankField r b).1 (2 * (bankField r b).2 + 1) (2 * (bankField r b).2) v) := by
  unfold setBank; dsimp only
  split <;> rfl

theorem rd_setBank_other (s : State) {r b v o : Nat} (h : o ≠ (bankField r b).1) : rd (setBank s r b v) o = rd s o := by
  rw [rd_setBank]; exact rd_wrF_other _ _ _ _ h

theorem bankState_setBank {s : State} {r r' b b' v : Nat} (hr : r < 5) (hv : v < 4) :
    bankState (setBank s r' b' v) r b = if bankField r b = bankField r' b' then v else bankState s r b := by
  rw [bankState_eq _ _ hr, bankState_eq _ _ hr, rdF, rd_setBank]
  have hplace := bankField_place r b
  split
  · rename_i h
    have hbits : 2 * (bankField r' b').2 + 1 + 1 - 2 * (bankField r' b').2 = 2 := by omega
    rw [h] at hplace ⊢
    refine (rdF_wrF_same _ _ _ (by omega)).trans ?_
    rw [hbits]; exact Nat.mod_eq_of_lt hv
  · rename_i h
    by_cases ho : (bankField r b).1 = (bankField r' b').1
    · have hb : (bankField r b).2 ≠ (bankField r' b').2 := fun hb => h (Prod.ext ho hb)
      rw [ho]
      exact rdF_wrF_field _ _ _ (by omega)
    · rw [rd_wrF_other _ _ _ _ ho]; rfl

theorem bankState_setBanks {r b v : Nat} (hr : r < 5) (hv : v < 4) : ∀ (l : List (Nat × Nat)) (s : State),
    bankState (setBanks s l v) r b = if ∃ p ∈ l, bankField r b = bankField p.1 p.2 then v else bankState s r b
  | [], s => by simp [setBanks]
  | p :: l, s => by
    have ih := bankState_setBanks (b := b) hr hv l (setBank s p.1 p.2 v)
    rw [bankState_setBank hr hv] at ih
    refine ih.trans ?_
    by_cases hl : ∃ q ∈ l, bankField r b = bankField q.1 q.2
    · rw [if_pos hl, if_pos (hl.imp fun q h => ⟨List.mem_cons_of_mem _ h.1, h.2⟩)]
    · by_cases hp : bankField r b = bankField p.1 p.2
      · rw [if_neg hl, if_pos hp, if_pos ⟨p, List.mem_cons_self, hp⟩]
      · simp [hl, hp]

theorem bankField_inj {r r' b b' : Nat} (hb : b < 64) (hb' : b' < 64) : bankField r b = bankField r' b' ↔ (r, b) = (r', b') := by
  simp only [bankField, Reg.MEM_BANK_PWR, Prod.mk.injEq]
  omega

theorem rd_setBanks_low {o : Nat} (h : o < 0x3000100) (v : Nat) : ∀ (l : List (Nat × Nat)) (s : State), rd (setBanks s l v) o = rd s o
  | [], _ => rfl
  | p :: l, s => (rd_setBanks_low h v l _).trans (rd_setBank_other s (by unfold bankField Reg.MEM_BANK_PWR; omega))

theorem bankState_of_rd {s t : State} (h : ∀ o, 0x3000100 ≤ o → rd t o = rd s o) (r b : Nat) : bankState t r b = bankState s r b := by
  unfold bankState rdF
  rw [h _ (by unfold Reg.MEM_BANK_PWR; omega)]

theorem bankCount_le (r : Nat) : bankCount r ≤ 64 := by
  unfold bankCount; (repeat' split) <;> omega

end Sys2Proof.Machine

/-!
PROOF. REGION_SLEEP and REGIONS_READY (R416, R419).
-/

namespace Sys2Proof.Machine

theorem setBank_hide_of_ne {m : Nat} (s : State) (r b : Nat) {v : Nat} (hv : v ≠ 0) (h : 2 &&& m = 2) :
    (setBank s r b v).hide m = s.hide m := by
  simp [setBank, hv, h]

theorem setBanks_hide_of_ne {m : Nat} (s : State) (l : List (Nat × Nat)) {v : Nat} (hv : v ≠ 0) (h : 2 &&& m = 2) :
    (setBanks s l v).hide m = s.hide m := by
  refine hide_foldl _ (fun t p => ?_) l s
  exact setBank_hide_of_ne t p.1 p.2 hv h

theorem foldl_setRegion_hide {m : Nat} (v : Nat) (h : 2 &&& m = 2) (l : List Nat) (s : State) :
    (l.foldl (fun s r => setRegion s r v) s).hide m = s.hide m := hide_foldl _ (fun _ _ => wrF_hide (h_sub := h) ..) l s

/-! Sleep -/

/-- The conditions of R416, one at a time. -/
theorem maySleep_false {s : State} (h : rdF s Reg.CHIP_PWR_CTRL 15 8 = 0 ∨ actDeck s = none ∨ asleep s = true ∨ playing s = true ∨
    s.drov.jobs ≠ [] ∨ s.drov.waiting ≠ [] ∨ s.comp.jobs ≠ []) : maySleep s = false := by
  have hempty {α : Type} {l : List α} (hl : l ≠ []) : l.isEmpty = false := List.isEmpty_eq_false_iff.2 hl
  unfold maySleep
  rcases h with h | h | h | h | h | h | h
  · simp [h]
  · simp [h]
  · simp [h]
  · simp [h]
  · simp [hempty h]
  · simp [hempty h]
  · simp [hempty h]

/-- The banks that go to RETAIN: those of the regions that are ON, where they are ON. -/
def sleepBanks (s : State) : List (Nat × Nat) :=
  (regionsIn s 2).flatMap (fun r => ((List.range (bankCount r)).filter (fun b => bankState s r b == 2)).map (fun b => (r, b)))

theorem mem_sleepBanks (s : State) (r b : Nat) :
    (r, b) ∈ sleepBanks s ↔ (r < 5 ∧ regionState s r = 2) ∧ b < bankCount r ∧ bankState s r b = 2 := by
  simp only [sleepBanks, List.mem_flatMap, List.mem_map, List.mem_filter, List.mem_range, beq_iff_eq, Prod.mk.injEq]
  constructor
  · rintro ⟨r', hr, b', hb, rfl, rfl⟩
    exact ⟨(mem_regionsIn s 2 r').1 hr, hb⟩
  · rintro ⟨hr, hb⟩
    exact ⟨r, (mem_regionsIn s 2 r).2 hr, b, hb, rfl, rfl⟩

/-- The registers of the regions and of the banks as REGION_SLEEP leaves them. -/
def sleepRegs (s : State) : State := setBanks ((regionsIn s 2).foldl (fun s r => setRegion s r 3) s) (sleepBanks s) 1

theorem regionState_sleepRegs (s : State) {r : Nat} (hr : r < 5) :
    regionState (sleepRegs s) r = if regionState s r = 2 then 3 else regionState s r := by
  rw [sleepRegs, regionState_of_rd (rd_setBanks_low (by decide) _ _ _), regionState_foldl_setRegion hr (by decide)]
  simp [mem_regionsIn, hr]

theorem bankState_sleepRegs (s : State) {r b : Nat} (hr : r < 5) (hb : b < bankCount r) :
    bankState (sleepRegs s) r b = if regionState s r = 2 ∧ bankState s r b = 2 then 1 else bankState s r b := by
  have hmem : (∃ p ∈ sleepBanks s, bankField r b = bankField p.1 p.2) ↔ (r, b) ∈ sleepBanks s := by
    constructor
    · rintro ⟨⟨r', b'⟩, hp, hf⟩
      obtain ⟨-, hb', -⟩ := (mem_sleepBanks s r' b').1 hp
      rw [(bankField_inj (Nat.lt_of_lt_of_le hb (bankCount_le r)) (Nat.lt_of_lt_of_le hb' (bankCount_le r'))).1 hf]
      exact hp
    · exact fun hp => ⟨_, hp, rfl⟩
  have hregs : bankState ((regionsIn s 2).foldl (fun s r => setRegion s r 3) s) r b = bankState s r b :=
    bankState_of_rd (fun o ho => foldl_setRegion_rd 3 (by unfold Reg.CHIP_PWR_STATE; omega) _ s) r b
  rw [sleepRegs, bankState_setBanks hr (by decide), hregs]
  simp [hmem, mem_sleepBanks, hr, hb]

/-- The state that REGION_SLEEP leaves where it may. -/
def slept (s : State) : State :=
  raiseBit (wrF ((sleepRegs s).modPwr (fun p => { p with slept := (sleepBanks s).map (fun x => x.1 * 64 + x.2) }))
    Reg.CHIP_CLK_STATUS 0 0 0) Reg.CHIP_PWR_STATUS 8

theorem exec_regionSleep (s : State) :
    exec .regionSleep s = if maySleep s ∧ s.deck.cycle = 0 then .next (slept s) else .next s := rfl

theorem rd_slept (s : State) {o : Nat} (ho : o ∉ [Reg.CHIP_CLK_STATUS, Reg.CHIP_PWR_STATUS, Reg.PCIE_STATUS])
    (k : ¬(0x200 ≤ o ∧ o < 0x1000)) : rd (slept s) o = rd (sleepRegs s) o := by
  rw [slept, (regsBut_raiseBit _ _ _).rd (by simp_all) k, rd_wrF_other _ _ _ _ (by simp_all)]
  rfl

theorem slept_sameBut (s : State) : s.sameBut [.regs, .pcie, .pwr] (slept s) := by
  simp [State.sameBut, partMask, Part.bit, slept, sleepRegs, setBanks_hide_of_ne, foldl_setRegion_hide]

/-- REGION_SLEEP. -/
theorem regionSleep_spec (s : State) : (maySleep s = false ∨ s.deck.cycle ≠ 0 → exec .regionSleep s = .next s) ∧
    (rdF s Reg.CHIP_PWR_CTRL 15 8 = 0 ∨ actDeck s = none ∨ asleep s = true ∨ playing s = true ∨ s.drov.jobs ≠ [] ∨ s.drov.waiting ≠ [] ∨
      s.comp.jobs ≠ [] → maySleep s = false) ∧
    (maySleep s = true → s.deck.cycle = 0 → ∃ t, exec .regionSleep s = .next t ∧
      (∀ r < 5, regionState t r = (if regionState s r = 2 then 3 else regionState s r)) ∧
      (∀ r < 5, ∀ b < bankCount r, bankState t r b = (if regionState s r = 2 ∧ bankState s r b = 2 then 1 else bankState s r b)) ∧
      (rd t Reg.CHIP_CLK_STATUS).getLsbD 0 = false ∧ flagSet t Reg.CHIP_PWR_STATUS 8 = true ∧
      s.sameBut [.regs, .pcie, .pwr] t) := by
  refine ⟨fun h => ?_, maySleep_false, fun hmay hcyc => ⟨slept s, ?_, fun r hr => ?_, fun r hr b hb => ?_, ?_,
    flagSet_raiseBit _ _ _ (by decide) (by decide) (by decide), slept_sameBut s⟩⟩
  · rw [exec_regionSleep, if_neg]
    rintro ⟨hmay, hcyc⟩
    rcases h with h | h
    · exact absurd (h.symm.trans hmay) (by decide)
    · exact h hcyc
  · rw [exec_regionSleep, if_pos ⟨hmay, hcyc⟩]
  · rw [regionState_of_rd (rd_slept s (by decide) (by decide))]
    exact regionState_sleepRegs s hr
  · rw [bankState_of_rd (t := slept s) (s := sleepRegs s) fun o ho => rd_slept s ?_ (by omega)]
    · exact bankState_sleepRegs s hr hb
    · simp only [Reg.CHIP_CLK_STATUS, Reg.CHIP_PWR_STATUS, Reg.PCIE_STATUS, List.mem_cons, List.not_mem_nil, or_false]
      omega
  · rw [slept, (regsBut_raiseBit _ _ _).rd (by decide) (by decide), bit_wrF _ _ _ _ _ _ (by decide)]
    rfl

end Sys2Proof.Machine

/-!
PROOF. REGIONS_READY (R419): the regions, the banks that slept, TBASE and the deal numbers.
-/

namespace Sys2Proof.Machine

/-! TBASE's restart -/

theorem startTbase_regs (s : State) : (startTbase s).regs = s.regs :=
  part_of_hide (startTbase_hide (m := 1088) (h_sub := rfl) s) State.regs fun _ => rfl

theorem logCoarse_tb (s : State) (b : Nat) : (logCoarse s b).tb = s.tb := by
  unfold logCoarse; split <;> rfl

theorem startTbase_running (s : State) : (startTbase s).tb.running = true := by
  unfold startTbase; dsimp only
  split
  · assumption
  · split <;> rfl

theorem startTbase_now (s : State) : (startTbase s).tb.now =
    if s.tb.running = true ∨ s.tb.sub = 0 then s.tb.now else (s.tb.now + nsT 40) % timeMod := by
  unfold startTbase; dsimp only
  by_cases hrun : s.tb.running = true
  · simp [hrun]
  · by_cases hsub : s.tb.sub = 0 <;> simp [hrun, hsub, logCoarse_tb]

/-! Stacks that wake by themselves -/

theorem regsBut_wakeStacks : ∀ (ns : List Nat) (s : State),
    s.regsBut [Reg.CHIP_PWR_STATE, Reg.CHIP_PWR_STATUS, Reg.PCIE_STATUS] (wakeStacks s ns)
  | [], s => regsBut_refl _ s
  | n :: ns, s => by
    refine regsBut_trans ?_ (regsBut_wakeStacks ns _)
    dsimp only
    split
    · exact regsBut_trans (regsBut_mono (by simp) (regsBut_wrF _ _ _ _ _)) (regsBut_mono (by simp) (regsBut_raiseBit _ _ _))
    · exact regsBut_refl _ s

theorem regionState_wakeStacks {r : Nat} (hr : r < 5) : ∀ (ns : List Nat) (s : State),
    regionState (wakeStacks s ns) r = regionState s r
  | [], _ => rfl
  | n :: ns, s => by
    refine (regionState_wakeStacks hr ns _).trans ?_
    dsimp only
    split
    · exact ((regsBut_raiseBit _ _ _).rdF _ _ (by decide) (by decide)).trans (rdF_wrF_field _ _ _ (by omega))
    · rfl

/-! Deal numbers -/

theorem tabGet_foldl_tabMod_succ {r : Nat} : ∀ (l : List Nat) (t : Tab Nat), l.Nodup →
    tabGet 0 (l.foldl (fun t r => tabMod 0 t r (· + 1)) t) r = tabGet 0 t r + if r ∈ l then 1 else 0
  | [], _, _ => by simp
  | a :: l, t, hnd => by
    obtain ⟨ha, hl⟩ := List.nodup_cons.1 hnd
    rw [List.foldl_cons, tabGet_foldl_tabMod_succ l _ hl, tabMod]
    by_cases hra : r = a
    · subst hra
      simp [ha]
    · rw [tabGet_tabPut_other _ _ _ hra]
      simp [hra]

/-! The woken state -/

/-- The state in which the regions on their way are ON, TBASE runs, and the banks that slept are ON. -/
def wokenRegs (s : State) : State :=
  setBanks (wakeStacks (startTbase ((regionsIn s 1).foldl (fun s r => setRegion s r 2) s)) [0, 1, 2, 3])
    (s.pwr.slept.map (fun k => (k / 64, k % 64))) 2

/-- The woken state before the waiting commands take effect. -/
def woken (s : State) : State :=
  (raiseBit (wrF ((wokenRegs s).modDeck (fun d => { d with
      cycle := 0, num := (List.range 5).foldl (fun t r => tabMod 0 t r (· + 1)) d.num }))
    Reg.CHIP_CLK_STATUS 1 0 3) Reg.CHIP_PWR_STATUS 9).modPwr (fun p => { p with waking := [], slept := [] })

theorem exec_regionsReady (s : State) :
    exec .regionsReady s = if (regionsIn s 1).isEmpty then .next s else .next (s.pwr.waking.foldl runWaking (woken s)) := rfl

theorem wokenRegs_hide {m : Nat} (s : State) (h : 1346 &&& m = 1346) : (wokenRegs s).hide m = s.hide m := by
  refine hide_mono h ?_
  rw [wokenRegs, setBanks_hide_of_ne _ _ (by decide) rfl, wakeStacks_hide (h_sub := rfl), startTbase_hide (h_sub := rfl),
    foldl_setRegion_hide _ rfl]

theorem regionState_wokenRegs (s : State) {r : Nat} (hr : r < 5) :
    regionState (wokenRegs s) r = if regionState s r = 1 then 2 else regionState s r := by
  rw [wokenRegs, regionState_of_rd (rd_setBanks_low (by decide) _ _ _), regionState_wakeStacks hr,
    regionState_of_rd (congrFun (congrArg rdR (startTbase_regs _)) _), regionState_foldl_setRegion hr (by decide)]
  simp [mem_regionsIn, hr]

theorem bankState_wokenRegs (s : State) {k : Nat} (hk : k ∈ s.pwr.slept) (hlt : k < 288) : bankState (wokenRegs s) (k / 64) (k % 64) = 2 := by
  rw [wokenRegs, bankState_setBanks (by omega) (by decide), if_pos]
  exact ⟨(k / 64, k % 64), List.mem_map.2 ⟨k, hk, rfl⟩, rfl⟩

theorem wokenRegs_tb (s : State) : (wokenRegs s).tb = (startTbase ((regionsIn s 1).foldl (fun s r => setRegion s r 2) s)).tb := by
  refine part_of_hide (m := 258) ?_ State.tb fun _ => rfl
  rw [wokenRegs, setBanks_hide_of_ne _ _ (by decide) rfl, wakeStacks_hide (h_sub := rfl)]

theorem foldl_setRegion_tb (l : List Nat) (v : Nat) (s : State) : (l.foldl (fun s r => setRegion s r v) s).tb = s.tb :=
  part_of_hide (m := 2) (foldl_setRegion_hide v rfl l s) State.tb fun _ => rfl

theorem woken_tb (s : State) : (woken s).tb = (startTbase ((regionsIn s 1).foldl (fun s r => setRegion s r 2) s)).tb :=
  (raiseBit_tb ..).trans (wokenRegs_tb s)

theorem woken_now (s : State) :
    (woken s).tb.now = if s.tb.running = true ∨ s.tb.sub = 0 then s.tb.now else (s.tb.now + nsT 40) % timeMod := by
  rw [woken_tb, startTbase_now, foldl_setRegion_tb]

theorem woken_deck (s : State) : (woken s).deck =
    { s.deck with cycle := 0, num := (List.range 5).foldl (fun t r => tabMod 0 t r (· + 1)) s.deck.num } := by
  have hdeck : (wokenRegs s).deck = s.deck := part_of_hide (m := 1346) (wokenRegs_hide s rfl) State.deck fun _ => rfl
  rw [← hdeck]
  exact raiseBit_deck ..

theorem rd_woken (s : State) {o : Nat} (ho : o ∉ [Reg.CHIP_CLK_STATUS, Reg.CHIP_PWR_STATUS, Reg.PCIE_STATUS])
    (k : ¬(0x200 ≤ o ∧ o < 0x1000)) : rd (woken s) o = rd (wokenRegs s) o := by
  refine ((regsBut_raiseBit _ _ _).rd (by simp_all) k).trans (rd_wrF_other _ _ _ _ (by simp_all))

theorem woken_sameBut (s : State) : s.sameBut [.regs, .tb, .pcie, .log, .deck, .pwr] (woken s) := by
  simp [State.sameBut, partMask, Part.bit, woken, wokenRegs_hide]

/-- REGIONS_READY. -/
theorem regionsReady_spec (s : State) : ((∀ r < 5, regionState s r ≠ 1) → exec .regionsReady s = .next s) ∧
    ((∃ r < 5, regionState s r = 1) → ∃ u, exec .regionsReady s = .next (s.pwr.waking.foldl runWaking u) ∧
      (∀ r < 5, regionState u r = (if regionState s r = 1 then 2 else regionState s r) ∧
        tabGet 0 u.deck.num r = tabGet 0 s.deck.num r + 1) ∧
      (∀ k ∈ s.pwr.slept, k < 288 → bankState u (k / 64) (k % 64) = 2) ∧ u.tb.running = true ∧
      u.tb.now = (if s.tb.running = true ∨ s.tb.sub = 0 then s.tb.now else (s.tb.now + nsT 40) % timeMod) ∧
      rdF u Reg.CHIP_CLK_STATUS 1 0 = 3 ∧ flagSet u Reg.CHIP_PWR_STATUS 9 = true ∧ u.deck.cycle = 0 ∧ u.pwr.waking = [] ∧ u.pwr.slept = [] ∧
      u.mem = s.mem ∧ s.sameBut [.regs, .tb, .pcie, .log, .deck, .pwr] u) := by
  refine ⟨fun h => ?_, fun ⟨r, hr, hst⟩ => ⟨woken s, ?_, fun r hr => ⟨?_, ?_⟩, fun k hk hlt => ?_, ?_, woken_now s, ?_,
    flagSet_raiseBit _ _ _ (by decide) (by decide) (by decide), ?_, rfl, rfl, ?_, woken_sameBut s⟩⟩
  · rw [exec_regionsReady, if_pos]
    rw [List.isEmpty_iff, List.eq_nil_iff_forall_not_mem]
    exact fun r hr => h r ((mem_regionsIn s 1 r).1 hr).1 ((mem_regionsIn s 1 r).1 hr).2
  · rw [exec_regionsReady, if_neg]
    rw [List.isEmpty_iff]
    exact List.ne_nil_of_mem ((mem_regionsIn s 1 r).2 ⟨hr, hst⟩)
  · rw [regionState_of_rd (rd_woken s (by decide) (by decide)), regionState_wokenRegs s hr]
  · rw [woken_deck, tabGet_foldl_tabMod_succ _ _ List.nodup_range, if_pos (List.mem_range.2 hr)]
  · rw [bankState_of_rd (t := woken s) (s := wokenRegs s) fun o ho => rd_woken s ?_ (by omega)]
    · exact bankState_wokenRegs s hk hlt
    · simp only [Reg.CHIP_CLK_STATUS, Reg.CHIP_PWR_STATUS, Reg.PCIE_STATUS, List.mem_cons, List.not_mem_nil, or_false]
      omega
  · rw [woken_tb]; exact startTbase_running _
  · exact ((regsBut_raiseBit _ _ _).rdF _ _ (by decide) (by decide)).trans (rdF_wrF_same _ _ _ (by decide))
  · rw [woken_deck]
  · exact part_of_hide (woken_sameBut s) State.mem fun _ => rfl

end Sys2Proof.Machine

/-!
PROOF. The statement on supplies, clocks, sleep and wake, from the spec lemma of each event.
-/

namespace Sys2Proof.Machine

/-- Settles O60, event by event: each of the supplies, of REFCLK, of sleep and of wake has its lemma above. -/
theorem suppliesClocksSleepAndWake : Obligations.SuppliesClocksSleepAndWake := by
  unfold Obligations.SuppliesClocksSleepAndWake
  refine ⟨supplyFail_and_overvoltage, classF_stops, supplyWarning_and_clear, avsOffTarget,
    fun s => ⟨fun hgone => if_pos hgone, fun hno => ⟨if_neg ?_, refclkLoss_of_present hno⟩, refclkReturn_of_gone,
      aonReturn s, rfl⟩, regionSleep_spec, regionsReady_spec⟩
  simp [refclkGone, hno]

end Sys2Proof.Machine

/-!
PROOF. Firmware and the non-volatile areas: FW_STAGE, FW_ACTIVATE with its handover, NV_WRITE (R362, R410, R430, R431).
-/

namespace Sys2Proof.Machine

/-! Completions of states with the same command interface -/

theorem completing_of_cmd {s t : State} (hc : t.cmd = s.cmd) (h : CmdHdr) (st r r2 : Nat) : t.completing h st r r2 = s.completing h st r r2 := by
  simp [State.completing, hc]

theorem finish_cmd_of_cmd {s t : State} (hc : t.cmd = s.cmd) (h : CmdHdr) (op st r r2 : Nat) :
    (finish t h op st r r2).cmd = s.completing h st r r2 := (finish_cmd ..).trans (completing_of_cmd hc ..)

theorem endRun_cmd_of_cmd {s t : State} (hc : t.cmd = s.cmd) {ring : Fin 16} {cid : BitVec 16} {op : Nat} (st r r2 : Nat)
    (hr : s.runs ring cid op) : (endRun t ring cid st r r2).cmd = s.ending ring cid st r r2 := by
  have hrt : t.runs ring cid op := by
    obtain ⟨x, hx, hop, ho⟩ := hr
    exact ⟨x, by rw [findRun, hc]; exact hx, hop, ho⟩
  rw [endRun_cmd st r r2 hrt]
  simp [State.ending, hc]

/-- Opcode, command ID and status: the data of a COMMAND entry (Table 15-17). -/
def commandData (h : CmdHdr) (op status : Nat) : List Byte := leBytes 2 op ++ leBytes 2 h.cid.toNat ++ leBytes 2 status

theorem newestLog_complete (s : State) (h : CmdHdr) {op : Nat} (st r r2 : Nat) (hop : loggedOps.contains op = true) :
    (finish s h op st r r2).newestLog.map (fun x => (x.event, x.data)) = some (6, commandData h op st) := by
  simp only [finish, complete, hop, if_true]
  rfl

/-- A command that ends with `status` and `result`, its COMMAND entry the newest, and changes at most flags besides. -/
def EndsWith (e : Instr) (h : CmdHdr) (op status result : Nat) (s : State) : Prop :=
  ∃ t, exec e s = .next t ∧ t.cmd = s.completing h status result 0 ∧ t.newestLog.map (fun x => (x.event, x.data)) =
    some (6, commandData h op status) ∧ s.sameBut [.regs, .cmd, .pcie, .log] t

theorem endsWith_refuse {e : Instr} {h : CmdHdr} {op st r : Nat} {s t : State} (he : exec e s = .next (refuse t h op st r))
    (hop : loggedOps.contains op = true) (hc : t.cmd = s.cmd) (ht : s.sameBut [.regs, .cmd, .pcie, .log] t) :
    EndsWith e h op st r s :=
  ⟨_, he, finish_cmd_of_cmd hc .., newestLog_complete _ _ _ _ _ hop, (refuse_hide (h_sub := rfl) ..).trans ht⟩

/-- A command whose checks pass, and that needs no region, has its effect. -/
theorem next_startCmd {h : CmdHdr} {c : Checks} {body : State → State} {s : State} (hs : s.starts h c) :
    (.next (startCmd h c none body s) : Host.Outcome State Fault Refusal) = .next (body s) :=
  congrArg _ (startCmd_starts none body hs (.inl rfl))

/-! FW_STAGE -/

theorem fwStage_short {h : CmdHdr} {len : BitVec 32} {src : BitVec 64} {s : State} (hs : s.starts h (fwStageChecks h len src s))
    (hlen : (segsRead s.mem (bufList s src) len.toNat).length < len.toNat) : EndsWith (.fwStage h len src) h 0x0C04 cField 12 s :=
  endsWith_refuse ((next_startCmd hs).trans (congrArg _ (if_pos hlen))) rfl rfl rfl

theorem fwStage_badSignature {h : CmdHdr} {len : BitVec 32} {src : BitVec 64} {s : State} (hs : s.starts h (fwStageChecks h len src s))
    (hlen : len.toNat ≤ (segsRead s.mem (bufList s src) len.toNat).length)
    (hsig : Config.fwSigOk (segsRead s.mem (bufList s src) len.toNat) (cosKeys s) (cosRequired s) = false) :
    EndsWith (.fwStage h len src) h 0x0C04 cAuth 0 s := by
  refine endsWith_refuse (t := raiseBit s Reg.SEC_STATUS 3) ((next_startCmd hs).trans (congrArg _ ?_)) rfl (raiseBit_cmd ..)
    (raiseBit_hide (h_sub := rfl) ..)
  simp [fwStageBody, hsig, Nat.not_lt.2 hlen]

theorem fwStage_good {h : CmdHdr} {len : BitVec 32} {src : BitVec 64} {s : State} (hs : s.starts h (fwStageChecks h len src s))
    (hlen : len.toNat ≤ (segsRead s.mem (bufList s src) len.toNat).length)
    (hsig : Config.fwSigOk (segsRead s.mem (bufList s src) len.toNat) (cosKeys s) (cosRequired s) = true) :
    exec (.fwStage h len src) s = .next (finish ((setCores s (fun c => if c = .warm then .staged else c)).modShep (fun p =>
      { p with stagedImage := some (Config.fwVersion (segsRead s.mem (bufList s src) len.toNat)) }))
      h 0x0C04 cOk (Config.fwVersion (segsRead s.mem (bufList s src) len.toNat)).toNat 0) := by
  refine (next_startCmd hs).trans (congrArg _ ?_)
  simp [fwStageBody, hsig, Nat.not_lt.2 hlen]

theorem finish_shep (s : State) (h : CmdHdr) (op st r r2 : Nat) : (finish s h op st r r2).shep = s.shep :=
  part_of_hide (finish_hide (m := 1152) (h_sub := rfl) ..) State.shep fun _ => rfl

theorem endRun_shep (s : State) (ring : Fin 16) (cid : BitVec 16) (st r r2 : Nat) : (endRun s ring cid st r r2).shep = s.shep :=
  part_of_hide (endRun_hide (m := 1152) (h_sub := rfl) ..) State.shep fun _ => rfl

theorem flagSet_finish (s : State) (h : CmdHdr) (op st r r2 o b : Nat) : flagSet (finish s h op st r r2) o b = flagSet s o b :=
  part_of_hide (finish_hide (m := 1152) (h_sub := rfl) ..) (fun x => flagSet x o b) fun _ => rfl

theorem flagSet_endRun (s : State) (ring : Fin 16) (cid : BitVec 16) (st r r2 o b : Nat) :
    flagSet (endRun s ring cid st r r2) o b = flagSet s o b :=
  part_of_hide (endRun_hide (m := 1152) (h_sub := rfl) ..) (fun x => flagSet x o b) fun _ => rfl

/-- FW_STAGE, with the bytes of its list named. -/
theorem fwStage_spec (h : CmdHdr) (len : BitVec 32) (src : BitVec 64) (s : State) (bs : List Byte) (hs : s.starts h (fwStageChecks h len src s))
    (hbs : bs = segsRead s.mem (bufList s src) len.toNat) :
    (bs.length < len.toNat → EndsWith (.fwStage h len src) h 0x0C04 cField 12 s) ∧
    (len.toNat ≤ bs.length → Config.fwSigOk bs (cosKeys s) (cosRequired s) = false → EndsWith (.fwStage h len src) h 0x0C04 cAuth 0 s) ∧
    (len.toNat ≤ bs.length → Config.fwSigOk bs (cosKeys s) (cosRequired s) = true → ∃ t, exec (.fwStage h len src) s = .next t ∧
      t.cmd = s.completing h cOk (Config.fwVersion bs).toNat 0 ∧ t.shep.stagedImage = some (Config.fwVersion bs) ∧
      coreList t = (coreList s).map (fun c => if c = .warm then .staged else c) ∧ t.shep.image = s.shep.image ∧ s.sameBut [.cmd, .log, .shep] t) := by
  subst hbs
  refine ⟨fwStage_short hs, fwStage_badSignature hs, fun hlen hsig => ⟨_, fwStage_good hs hlen hsig, finish_cmd_of_cmd rfl .., ?_, ?_, ?_, ?_⟩⟩
  · rw [finish_shep]; rfl
  · rw [coreList, finish_shep]; rfl
  · rw [finish_shep]; rfl
  · exact (finish_hide (h_sub := rfl) ..).trans ((hide_modShep _ _ rfl).trans (setCores_hide (h_sub := rfl) ..))

/-! FW_ACTIVATE and its handover -/

@[simp] theorem newImage_cmd (s : State) (v : Word) : (newImage s v).cmd = s.cmd := raiseBit_cmd ..

@[simp] theorem newImage_shep (s : State) (v : Word) :
    (newImage s v).shep = { s.shep with image := v, stagedImage := none, handover := none, recovery := false } := raiseBit_shep ..

theorem flagSet_newImage (s : State) (v : Word) : flagSet (newImage s v) Reg.SHEP_STATUS 4 = true :=
  flagSet_raiseBit _ _ _ (by decide) (by decide) (by decide)

/-- FW_ACTIVATE. -/
theorem fwActivate_spec (h : CmdHdr) (s : State) (hs : s.starts h (fwActivateChecks h s)) :
    (s.shep.stagedImage = none → EndsWith (.fwActivate h) h 0x0C05 cState 0 s) ∧
    (∀ v, s.shep.stagedImage = some v →
      (CoreState.staged ∈ coreList s → ∃ t, exec (.fwActivate h) s = .next t ∧ t.cmd = s.running h 0x0C05 0 0 ∧
        t.shep.handover = some (h.ring, h.cid) ∧ t.shep.image = s.shep.image ∧
        coreList t = (coreList s).map (fun c => if c = .staged then .single else if c = .paired then .staged else c) ∧ s.sameBut [.cmd, .shep] t) ∧
      (CoreState.staged ∉ coreList s → ∃ t, exec (.fwActivate h) s = .next t ∧ t.cmd = s.completing h cOk v.toNat 0 ∧ t.shep.image = v ∧
        t.shep.stagedImage = none ∧ t.shep.recovery = false ∧ flagSet t Reg.SHEP_STATUS 4 = true ∧
        s.sameBut [.regs, .cmd, .pcie, .log, .shep] t)) := by
  have hexec : exec (.fwActivate h) s = .next (fwActivateBody h s) := next_startCmd hs
  refine ⟨fun hnone => ?_, fun v hv => ⟨fun hst => ?_, fun hst => ?_⟩⟩
  · exact endsWith_refuse (hexec.trans (by simp [fwActivateBody, hnone])) rfl rfl rfl
  · refine ⟨(keepRunning (setCores s (fun c => if c = .staged then .single else if c = .paired then .staged else c))
      h 0x0C05 0 0).modShep (fun p => { p with handover := some (h.ring, h.cid) }), hexec.trans (congrArg _ ?_), rfl, rfl, rfl, rfl,
      (hide_modShep _ _ rfl).trans ((hide_modCmd _ _ rfl).trans (setCores_hide (h_sub := rfl) ..))⟩
    simp [fwActivateBody, hv, hst]
  · refine ⟨finish (newImage s v) h 0x0C05 cOk v.toNat 0, hexec.trans (congrArg _ ?_), finish_cmd_of_cmd (newImage_cmd s v) .., ?_, ?_, ?_, ?_, ?_⟩
    · simp [fwActivateBody, hv, hst]
    · simp [finish_shep]
    · simp [finish_shep]
    · simp [finish_shep]
    · rw [flagSet_finish]; exact flagSet_newImage s v
    · exact (finish_hide (h_sub := rfl) ..).trans (newImage_hide (h_sub := rfl) ..)

/-- The pair takes its place again, and the spare is warm. -/
def pairBack (c : CoreState) : CoreState := if c = .staged then .paired else if c = .single then .warm else c

/-- HANDOVER_TIMEOUT in a handover. -/
theorem handoverTimeout_spec {s : State} {c : Fin 16 × BitVec 16} (hc : s.shep.handover = some c) (hr : s.runs c.1 c.2 0x0C05) :
    ∃ t, exec .handoverTimeout s = .next t ∧ t.cmd = s.ending c.1 c.2 cEngine 0 0 ∧ t.shep.handover = none ∧ t.shep.stagedImage = none ∧
      t.shep.image = s.shep.image ∧ flagSet t Reg.SHEP_STATUS 5 = true ∧ coreList t = (coreList s).map pairBack ∧
      s.sameBut [.regs, .cmd, .pcie, .log, .shep] t := by
  refine ⟨endRun (raiseBit ((setCores s pairBack).modShep (fun p => { p with handover := none, stagedImage := none })) Reg.SHEP_STATUS 5)
    c.1 c.2 cEngine 0 0, ?_, endRun_cmd_of_cmd (raiseBit_cmd ..) _ _ _ hr, ?_, ?_, ?_, ?_, ?_, ?_⟩
  · simp only [exec, execHandoverTimeout, hc]; rfl
  · rw [endRun_shep, raiseBit_shep]; rfl
  · rw [endRun_shep, raiseBit_shep]; rfl
  · rw [endRun_shep, raiseBit_shep]; rfl
  · rw [flagSet_endRun]; exact flagSet_raiseBit _ _ _ (by decide) (by decide) (by decide)
  · rw [coreList, endRun_shep, raiseBit_shep]; rfl
  · exact (endRun_hide (h_sub := rfl) ..).trans ((raiseBit_hide (h_sub := rfl) ..).trans
      ((hide_modShep _ _ rfl).trans (setCores_hide (h_sub := rfl) ..)))

/-- The state with the record of a checkpoint (R429). -/
def checkpointed (s : State) : State := s.modShep (fun p => { p with checkpoint := inFlight s, record := unitStates s })

/-- SHEPHERD_CHECKPOINT in a handover: the new image takes over. -/
theorem checkpoint_handover {s : State} {c : Fin 16 × BitVec 16} {v : Word} (hc : s.shep.handover = some c)
    (hr : s.runs c.1 c.2 0x0C05) (hv : s.shep.stagedImage = some v) :
    ∃ t, exec .shepherdCheckpoint s = .next t ∧ t.cmd = s.ending c.1 c.2 cOk v.toNat 0 ∧
      t.shep.image = v ∧ t.shep.handover = none ∧ t.shep.stagedImage = none ∧ flagSet t Reg.SHEP_STATUS 4 = true ∧
      coreList t = (coreList s).map pairBack ∧ s.sameBut [.regs, .cmd, .pcie, .log, .shep] t := by
  refine ⟨endRun (newImage (setCores (checkpointed s) pairBack) v) c.1 c.2 cOk v.toNat 0, ?_,
    endRun_cmd_of_cmd (newImage_cmd ..) _ _ _ hr, ?_, ?_, ?_, ?_, ?_, ?_⟩
  · simp only [exec, execShepherdCheckpoint, hc, hv]; rfl
  · rw [endRun_shep, newImage_shep]
  · rw [endRun_shep, newImage_shep]
  · rw [endRun_shep, newImage_shep]
  · rw [flagSet_endRun]; exact flagSet_newImage ..
  · rw [coreList, endRun_shep, newImage_shep]; rfl
  · exact (endRun_hide (h_sub := rfl) ..).trans ((newImage_hide (h_sub := rfl) ..).trans
      ((setCores_hide (h_sub := rfl) ..).trans (hide_modShep _ _ rfl)))

/-- SHEPHERD_CHECKPOINT without a handover, or with no image staged. -/
theorem checkpoint_plain {s : State} (h : s.shep.handover = none ∨ s.shep.stagedImage = none) : ∃ t, exec .shepherdCheckpoint s = .next t ∧
    t.shep = { s.shep with checkpoint := inFlight s, record := unitStates s } ∧ s.sameBut [.shep] t := by
  refine ⟨checkpointed s, ?_, rfl, hide_modShep _ _ rfl⟩
  rcases h with h | h
  · simp only [exec, execShepherdCheckpoint, h]; rfl
  · simp only [exec, execShepherdCheckpoint, h]
    cases s.shep.handover
    · rfl
    · rfl

/-! NV_WRITE -/

theorem max_commitWear (s : State) : max (commitWear s true).shep.genA (commitWear s true).shep.genB = max s.shep.genA s.shep.genB + 1 := by
  by_cases h : s.shep.genA ≤ s.shep.genB
  · simp [commitWear, h]
  · simp [commitWear, h]; omega

/-- NV_WRITE's areas are those of R362. -/
theorem nvWrite_area_le {h : CmdHdr} {area : Byte} {len : BitVec 32} {src : BitVec 64} {s : State}
    (hs : s.starts h (nvWriteChecks h area len src s)) : area.toNat ≤ 3 :=
  of_decide_eq_true (judge_fields hs.2 (8, decide (area.toNat ≤ 3)) (by simp [nvWriteChecks]))

/-- The area's bytes in flash with `bs` at the offset. -/
def nvStore (s : State) (area : Byte) (ofs : Nat) (bs : List Byte) : State := s.modSec (fun x =>
  if area = 0 then { x with nvCal := memWrite x.nvCal ofs bs }
  else if area = 1 then { x with nvDeck := memWrite x.nvDeck ofs bs }
  else { x with nvFirm := memWrite x.nvFirm ofs bs, flashImage := Config.flashVersion (memWrite x.nvFirm ofs bs) })

theorem nvStore_hide {m : Nat} (s : State) (area : Byte) (ofs : Nat) (bs : List Byte) (h : 268435456 &&& m = 268435456) :
    (nvStore s area ofs bs).hide m = s.hide m := by
  refine hide_modSec _ _ h fun x => ?_
  (repeat' split) <;> exact ⟨rfl, rfl⟩

/-- Only the named area takes the bytes. -/
theorem nvStore_areas (s : State) {area : Byte} (ofs : Nat) (bs : List Byte) (ha : area = 0 ∨ area = 1 ∨ area = 2) :
    (nvStore s area ofs bs).sec.nvCal = (if area = 0 then memWrite s.sec.nvCal ofs bs else s.sec.nvCal) ∧
    (nvStore s area ofs bs).sec.nvDeck = (if area = 1 then memWrite s.sec.nvDeck ofs bs else s.sec.nvDeck) ∧
    (nvStore s area ofs bs).sec.nvFirm = (if area = 2 then memWrite s.sec.nvFirm ofs bs else s.sec.nvFirm) ∧
    (nvStore s area ofs bs).sec.sealedItems = s.sec.sealedItems := by
  rcases ha with rfl | rfl | rfl <;> simp [nvStore, State.modSec, State.setSec]

theorem finish_sec (s : State) (h : CmdHdr) (op st r r2 : Nat) : (finish s h op st r r2).sec = s.sec :=
  part_of_hide (finish_hide (m := 1152) (h_sub := rfl) ..) State.sec fun _ => rfl

/-- NV_WRITE. -/
theorem nvWrite_spec (h : CmdHdr) (area : Byte) (len ofs : BitVec 32) (src : BitVec 64) (s : State) (bs : List Byte)
    (hs : s.starts h (nvWriteChecks h area len src s)) (hbs : bs = segsRead s.mem (bufList s src) len.toNat) :
    (nvWarned s = true → EndsWith (.nvWrite h area len ofs src) h 0x0C06 cNv 0 s) ∧
    (nvWarned s = false → area = 3 → ∃ t, exec (.nvWrite h area len ofs src) s = .next t ∧ t.cmd = s.completing h cOk 0 0 ∧
      max t.shep.genA t.shep.genB = max s.shep.genA s.shep.genB + 1 ∧ s.sameBut [.cmd, .log, .shep] t) ∧
    (nvWarned s = false → area ≠ 3 → bs.length < len.toNat → EndsWith (.nvWrite h area len ofs src) h 0x0C06 cField 12 s) ∧
    (nvWarned s = false → area ≠ 3 → len.toNat ≤ bs.length → ∃ t, exec (.nvWrite h area len ofs src) s = .next t ∧
      t.cmd = s.completing h cOk len.toNat 0 ∧ t.sec.nvCal = (if area = 0 then memWrite s.sec.nvCal ofs.toNat bs else s.sec.nvCal) ∧
      t.sec.nvDeck = (if area = 1 then memWrite s.sec.nvDeck ofs.toNat bs else s.sec.nvDeck) ∧
      t.sec.nvFirm = (if area = 2 then memWrite s.sec.nvFirm ofs.toNat bs else s.sec.nvFirm) ∧ t.sec.sealedItems = s.sec.sealedItems ∧
      s.sameBut [.cmd, .log, .sec] t) := by
  subst hbs
  have hexec : exec (.nvWrite h area len ofs src) s = .next (nvWriteBody h area len ofs src s) := next_startCmd hs
  refine ⟨fun hw => ?_, fun hw ha => ?_, fun hw ha hlen => ?_, fun hw ha hlen => ?_⟩
  · exact endsWith_refuse (t := logNv s area.toNat 1 0) (hexec.trans (congrArg _ (if_pos hw))) rfl rfl (logNv_hide (h_sub := rfl) ..)
  · refine ⟨finish (logNv (commitWear s true) 3 0 0) h 0x0C06 cOk 0 0, hexec.trans (congrArg _ ?_), finish_cmd_of_cmd rfl .., ?_, ?_⟩
    · simp [nvWriteBody, hw, ha]
    · rw [finish_shep]; exact max_commitWear s
    · exact (finish_hide (h_sub := rfl) ..).trans ((logNv_hide (h_sub := rfl) ..).trans (hide_setShep _ _ rfl))
  · refine endsWith_refuse (t := s) (hexec.trans (congrArg _ ?_)) rfl rfl rfl
    simp only [nvWriteBody, hw, if_neg ha, if_pos hlen, Bool.false_eq_true, if_false]
  · refine ⟨finish (logNv (nvStore s area ofs.toNat (segsRead s.mem (bufList s src) len.toNat)) area.toNat 0 len.toNat) h 0x0C06 cOk len.toNat 0,
      hexec.trans (congrArg _ ?_), finish_cmd_of_cmd rfl .., ?_⟩
    · simp only [nvWriteBody, hw, if_neg ha, if_neg (Nat.not_lt.2 hlen), Bool.false_eq_true, if_false]
      rfl
    · have harea : area = 0 ∨ area = 1 ∨ area = 2 := by
        have hle := nvWrite_area_le hs
        bv_omega
      obtain ⟨hcal, hdeck, hfirm, hsealed⟩ := nvStore_areas s ofs.toNat (segsRead s.mem (bufList s src) len.toNat) harea
      rw [finish_sec]
      exact ⟨hcal, hdeck, hfirm, hsealed,
        (finish_hide (h_sub := rfl) ..).trans ((logNv_hide (h_sub := rfl) ..).trans (nvStore_hide _ _ _ _ rfl))⟩

end Sys2Proof.Machine

/-!
PROOF. A lockstep mismatch (R429, R430): the spare that takes over from the checkpoint, and the record that it corrects.
-/

namespace Sys2Proof.Machine

theorem flagSet_raiseBit_keep {s : State} {o b b' : Nat} (hb : b < 24) (k : ¬(0x200 ≤ o ∧ o < 0x1000)) (hp : o ≠ Reg.PCIE_STATUS)
    (h : flagSet s o b = true) : flagSet (raiseBit s o b') o b = true := by
  rw [raiseBit, flagSet_raise s o _ b hb k hp, h, Bool.true_or]

/-! The record that a takeover corrects -/

/-- The units of which the record and the data path disagree, with both states. -/
def mismatches (s : State) : List (Nat × Nat × Nat) :=
  ((List.range 48).zip (s.shep.record.zip (unitStates s))).filter (fun x => x.2.1 != x.2.2)

/-- A unit's record is corrected, and the correction logged. -/
def correctUnit (s : State) (x : Nat × Nat × Nat) : State :=
  let src := if x.1 < 16 then 0x0480 else 0x0410 + (x.1 - 16)
  let unit := if x.1 < 16 then unitCode (Reg.FOLD_GRP_STATUS x.1) x.1 else unitCode Reg.TRIG_NET_STATUS (x.1 - 16)
  raiseBit (logAdd s 3 0 src unit [BitVec.ofNat 8 x.2.1, BitVec.ofNat 8 x.2.2]) Reg.SHEP_STATUS 15

theorem reconcile_eq (s : State) :
    reconcile s = (mismatches s).foldl correctUnit (s.modShep (fun p => { p with record := unitStates s })) := rfl

theorem correctUnit_shep (s : State) (x : Nat × Nat × Nat) : (correctUnit s x).shep = s.shep := raiseBit_shep ..

theorem foldl_correctUnit_shep (l : List (Nat × Nat × Nat)) : ∀ s : State, (l.foldl correctUnit s).shep = s.shep := by
  induction l with
  | nil => exact fun _ => rfl
  | cons x l ih => exact fun s => (ih _).trans (correctUnit_shep s x)

theorem reconcile_shep (s : State) : (reconcile s).shep = { s.shep with record := unitStates s } := by
  rw [reconcile_eq, foldl_correctUnit_shep]; rfl

theorem flagSet_correctUnit_keep {s : State} {b : Nat} (x : Nat × Nat × Nat) (hb : b < 24) (h : flagSet s Reg.SHEP_STATUS b = true) :
    flagSet (correctUnit s x) Reg.SHEP_STATUS b = true :=
  flagSet_raiseBit_keep hb (by decide) (by decide) h

theorem flagSet_foldl_correctUnit {b : Nat} (hb : b < 24) (l : List (Nat × Nat × Nat)) : ∀ s : State,
    flagSet s Reg.SHEP_STATUS b = true → flagSet (l.foldl correctUnit s) Reg.SHEP_STATUS b = true := by
  induction l with
  | nil => exact fun _ h => h
  | cons x l ih => exact fun s h => ih _ (flagSet_correctUnit_keep x hb h)

theorem flagSet_reconcile {s : State} {b : Nat} (hb : b < 24) (h : flagSet s Reg.SHEP_STATUS b = true) :
    flagSet (reconcile s) Reg.SHEP_STATUS b = true := flagSet_foldl_correctUnit hb _ _ h

theorem mem_zip_self {α : Type} {p : α × α} {l : List α} (h : p ∈ l.zip l) : p.1 = p.2 := by
  obtain ⟨n, hn⟩ := List.mem_iff_getElem?.1 h
  obtain ⟨h1, h2⟩ := List.getElem?_zip_eq_some.1 hn
  exact Option.some.inj (h1.symm.trans h2)

theorem mismatches_nil {s : State} (h : s.shep.record = unitStates s) : mismatches s = [] := by
  refine List.filter_eq_nil_iff.2 fun x hx => ?_
  rw [h] at hx
  simp [mem_zip_self (List.of_mem_zip (a := x.1) (b := x.2) hx).2]

theorem mem_mismatches {s : State} {k x y : Nat} (hk : k < 48) (hx : s.shep.record[k]? = some x) (hy : (unitStates s)[k]? = some y)
    (hne : x ≠ y) : (k, x, y) ∈ mismatches s := by
  refine List.mem_filter.2 ⟨List.mem_iff_getElem?.2 ⟨k, ?_⟩, by simpa using hne⟩
  exact List.getElem?_zip_eq_some.2 ⟨by simp [hk], List.getElem?_zip_eq_some.2 ⟨hx, hy⟩⟩

theorem length_mismatches (s : State) : (mismatches s).length ≤ 48 := by
  refine (List.length_filter_le _ _).trans ?_
  rw [List.length_zip, List.length_range]
  exact Nat.min_le_left _ _

/-- A correction keeps the log's newest entries, one place further on. -/
theorem mem_take_correctUnit {s : State} {e : LogEntry} {n : Nat} (x : Nat × Nat × Nat) (hn : n < 1048576)
    (h : e ∈ s.log.entries.take n) : e ∈ (correctUnit s x).log.entries.take (n + 1) := by
  rw [correctUnit, raiseBit_log, logAdd_log]
  show e ∈ ((_ :: s.log.entries).take 1048576).take (n + 1)
  rw [List.take_take, Nat.min_eq_left (Nat.succ_le_of_lt hn), List.take_succ_cons]
  exact List.mem_cons_of_mem _ h

theorem mem_foldl_correctUnit {e : LogEntry} : ∀ (l : List (Nat × Nat × Nat)) (s : State) (n : Nat), n + l.length ≤ 1048576 →
    e ∈ s.log.entries.take n → e ∈ (l.foldl correctUnit s).log.entries
  | [], _, _, _, h => List.mem_of_mem_take h
  | x :: l, s, n, hn, h => by
    rw [List.length_cons] at hn
    exact mem_foldl_correctUnit l _ (n + 1) (by omega) (mem_take_correctUnit x (by omega) h)

/-- Every correction sets RECORD_FIX's flag and leaves its entry. -/
theorem foldl_correctUnit_entry {x : Nat × Nat × Nat} : ∀ (l : List (Nat × Nat × Nat)) (s : State), l.length ≤ 48 → x ∈ l →
    flagSet (l.foldl correctUnit s) Reg.SHEP_STATUS 15 = true ∧
      ∃ e ∈ (l.foldl correctUnit s).log.entries, e.event = 3 ∧ e.data = [BitVec.ofNat 8 x.2.1, BitVec.ofNat 8 x.2.2]
  | [], _, _, h => nomatch h
  | a :: l, s, hlen, h => by
    rw [List.length_cons] at hlen
    rcases List.mem_cons.1 h with rfl | h
    · refine ⟨flagSet_foldl_correctUnit (by decide) l _ (flagSet_raiseBit _ _ _ (by decide) (by decide) (by decide)), ?_⟩
      have hlog : (correctUnit s x).log.entries.take 1 = [{
          time := now s, src := if x.1 < 16 then 0x0480 else 0x0410 + (x.1 - 16), seq := s.log.next, event := 3, cls := 0
          unit := if x.1 < 16 then unitCode (Reg.FOLD_GRP_STATUS x.1) x.1 else unitCode Reg.TRIG_NET_STATUS (x.1 - 16)
          data := [BitVec.ofNat 8 x.2.1, BitVec.ofNat 8 x.2.2] }] := by
        rw [correctUnit, raiseBit_log]; rfl
      exact ⟨_, mem_foldl_correctUnit l _ 1 (by omega) (hlog ▸ List.mem_cons_self), rfl, rfl⟩
    · exact foldl_correctUnit_entry l _ (by omega) h

/-! The mismatch -/

/-- What a mismatch makes of a core: the pair tests itself, a spare runs alone. -/
def afterMismatch (c : CoreState) : CoreState := if c = .paired then .selfTest else if c = .warm ∨ c = .staged then .single else c

/-- The state in which the pair tests itself and its spare, if any, runs alone; a staged image is dropped. -/
def pairStopped (s : State) : State :=
  raiseBit (if (coreList s).contains .staged then (setCores s afterMismatch).modShep (fun h => { h with stagedImage := none })
    else setCores s afterMismatch) Reg.SHEP_STATUS 0

/-- A spare takes over: warm, or with an image staged. -/
def hasSpare (s : State) : Bool := (coreList s).contains .warm || (coreList s).contains .staged

/-- What a mismatch of a running pair leaves. -/
def mismatched (s : State) : State :=
  if hasSpare s then reconcile (raiseBit (pairStopped s) Reg.SHEP_STATUS 1) else pairStopped s

theorem exec_lockstepMismatch (s : State) :
    exec .lockstepMismatch s = if !(coreList s).contains .paired then .next s else .next (mismatched s) := rfl

theorem pairStopped_shep (s : State) : (pairStopped s).shep = { s.shep with
    cores := (afterMismatch s.shep.cores.1, afterMismatch s.shep.cores.2.1, afterMismatch s.shep.cores.2.2)
    stagedImage := if (coreList s).contains .staged then none else s.shep.stagedImage } := by
  rw [pairStopped, raiseBit_shep]
  split <;> rfl

theorem pairStopped_hide {m : Nat} (s : State) (h1 : 258 &&& m = 258) (h2 : 134217728 &&& m = 134217728) :
    (pairStopped s).hide m = s.hide m := by
  simp [pairStopped, h1, h2]

theorem unitStates_of_hide {s t : State} (h : t.hide 134217986 = s.hide 134217986) : unitStates t = unitStates s :=
  part_of_hide h unitStates fun _ => rfl

theorem unitStates_pairStopped (s : State) : unitStates (raiseBit (pairStopped s) Reg.SHEP_STATUS 1) = unitStates s :=
  unitStates_of_hide ((raiseBit_hide (h_sub := rfl) ..).trans (pairStopped_hide s rfl rfl))

theorem pairStopped_log (s : State) : (pairStopped s).log = s.log :=
  part_of_hide (m := 134217986) (pairStopped_hide s rfl rfl) State.log fun _ => rfl

theorem flagSet_pairStopped (s : State) : flagSet (pairStopped s) Reg.SHEP_STATUS 0 = true :=
  flagSet_raiseBit _ _ _ (by decide) (by decide) (by decide)

theorem mismatched_shep (s : State) : (mismatched s).shep =
    { (pairStopped s).shep with record := if hasSpare s then unitStates s else s.shep.record } := by
  unfold mismatched
  split
  · rw [reconcile_shep, raiseBit_shep, unitStates_pairStopped]
  · rw [pairStopped_shep]

theorem flagSet_mismatched (s : State) : flagSet (mismatched s) Reg.SHEP_STATUS 0 = true := by
  unfold mismatched
  split
  · exact flagSet_reconcile (by decide) (flagSet_raiseBit_keep (by decide) (by decide) (by decide) (flagSet_pairStopped s))
  · exact flagSet_pairStopped s

theorem mismatched_sameBut (s : State) : s.sameBut [.regs, .pcie, .log, .shep] (mismatched s) := by
  have hstop : s.sameBut [.regs, .pcie, .log, .shep] (pairStopped s) := pairStopped_hide s rfl rfl
  unfold mismatched
  split
  · exact (reconcile_hide (h_sub := rfl) ..).trans ((raiseBit_hide (h_sub := rfl) ..).trans hstop)
  · exact hstop

/-- The record that a takeover starts from. -/
theorem mismatched_record {s : State} (hspare : hasSpare s = true) :
    flagSet (mismatched s) Reg.SHEP_STATUS 1 = true ∧ (s.shep.record = unitStates s → (mismatched s).log = s.log) ∧
      (∀ k x y, k < 48 → s.shep.record[k]? = some x → (unitStates s)[k]? = some y → x ≠ y →
        flagSet (mismatched s) Reg.SHEP_STATUS 15 = true ∧
          ∃ e ∈ (mismatched s).log.entries, e.event = 3 ∧ e.data = [BitVec.ofNat 8 x, BitVec.ofNat 8 y]) := by
  have hrec : (raiseBit (pairStopped s) Reg.SHEP_STATUS 1).shep.record = s.shep.record := by
    rw [raiseBit_shep, pairStopped_shep]
  have hunits := unitStates_pairStopped s
  rw [mismatched, if_pos hspare]
  refine ⟨flagSet_reconcile (by decide) (flagSet_raiseBit _ _ _ (by decide) (by decide) (by decide)), fun h => ?_,
    fun k x y hk hx hy hne => ?_⟩
  · rw [reconcile_eq, mismatches_nil (by rw [hrec, hunits, h])]
    exact (raiseBit_log ..).trans (pairStopped_log s)
  · rw [reconcile_eq]
    exact foldl_correctUnit_entry (x := (k, x, y)) _ _ (length_mismatches _)
      (mem_mismatches hk (by rw [hrec]; exact hx) (by rw [hunits]; exact hy) hne)

/-- LOCKSTEP_MISMATCH. -/
theorem lockstepMismatch_spec (s : State) : (CoreState.paired ∉ coreList s → exec .lockstepMismatch s = .next s) ∧
    (CoreState.paired ∈ coreList s → ∃ t, exec .lockstepMismatch s = .next t ∧ flagSet t Reg.SHEP_STATUS 0 = true ∧
      coreList t = (coreList s).map afterMismatch ∧
      (CoreState.warm ∈ coreList s ∨ CoreState.staged ∈ coreList s → flagSet t Reg.SHEP_STATUS 1 = true) ∧
      (CoreState.staged ∈ coreList s → t.shep.stagedImage = none) ∧
      (CoreState.staged ∉ coreList s → t.shep.stagedImage = s.shep.stagedImage) ∧
      (CoreState.warm ∉ coreList s → CoreState.staged ∉ coreList s → t.shep.record = s.shep.record ∧ t.log = s.log) ∧
      (CoreState.warm ∈ coreList s ∨ CoreState.staged ∈ coreList s →
        t.shep.record = unitStates s ∧ (s.shep.record = unitStates s → t.log = s.log) ∧
        (∀ k x y, k < 48 → s.shep.record[k]? = some x → (unitStates s)[k]? = some y → x ≠ y → flagSet t Reg.SHEP_STATUS 15 = true ∧
          ∃ e ∈ t.log.entries, e.event = 3 ∧ e.data = [BitVec.ofNat 8 x, BitVec.ofNat 8 y])) ∧
      s.sameBut [.regs, .pcie, .log, .shep] t) := by
  have hspare : hasSpare s = true ↔ CoreState.warm ∈ coreList s ∨ CoreState.staged ∈ coreList s := by simp [hasSpare]
  refine ⟨fun h => ?_, fun h => ⟨mismatched s, ?_, flagSet_mismatched s, ?_, fun hs => (mismatched_record (hspare.2 hs)).1,
    fun hs => ?_, fun hs => ?_, fun hw hs => ?_, fun hs => ⟨?_, (mismatched_record (hspare.2 hs)).2⟩, mismatched_sameBut s⟩⟩
  · simp [exec_lockstepMismatch, h]
  · simp [exec_lockstepMismatch, h]
  · rw [coreList, mismatched_shep, pairStopped_shep]; rfl
  · rw [mismatched_shep, pairStopped_shep]; simp [hs]
  · rw [mismatched_shep, pairStopped_shep]; simp [hs]
  · have hno : hasSpare s = false := by simp [hasSpare, hw, hs]
    rw [mismatched_shep, mismatched, hno]
    exact ⟨rfl, pairStopped_log s⟩
  · rw [mismatched_shep, if_pos (hspare.2 hs)]

end Sys2Proof.Machine

/-!
PROOF. CORE_SELF_TEST_DONE (R25, R429, R430): which cores run on, and when none is left.
-/

namespace Sys2Proof.Machine

/-! The cores of a self-test -/

/-- Whether core `n` passes. -/
def corePass (p0 p1 p2 : Bool) (n : Nat) : Bool := ([p0, p1, p2][n]?).getD false

def testedCores (s : State) : List Nat := (List.range 3).filter (fun n => (coreList s)[n]? == some .selfTest)
def goodCores (s : State) (pass : Nat → Bool) : List Nat := (testedCores s).filter pass
def badCores (s : State) (pass : Nat → Bool) : List Nat := (testedCores s).filter (fun n => !pass n)

/-- The lowest core that runs alone. -/
def loneCore (s : State) : Option Nat := (List.range 3).find? (fun n => (coreList s)[n]? == some .single)

def putCores (s : State) (f : Nat → CoreState → CoreState) : State :=
  s.modShep (fun h => { h with cores := (f 0 h.cores.1, f 1 h.cores.2.1, f 2 h.cores.2.2) })

section
variable {s : State} {pass : Nat → Bool} {k : Nat}

theorem mem_testedCores : k ∈ testedCores s ↔ k < 3 ∧ (coreList s)[k]? = some .selfTest := by simp [testedCores]

theorem mem_goodCores : k ∈ goodCores s pass ↔ (k < 3 ∧ (coreList s)[k]? = some .selfTest) ∧ pass k = true := by
  rw [goodCores, List.mem_filter, mem_testedCores]

theorem mem_badCores : k ∈ badCores s pass ↔ (k < 3 ∧ (coreList s)[k]? = some .selfTest) ∧ pass k = false := by
  rw [badCores, List.mem_filter, mem_testedCores, Bool.not_eq_true']

theorem goodCores_eq_nil : goodCores s pass = [] ↔ ∀ k < 3, (coreList s)[k]? = some .selfTest → pass k = false := by
  simp [goodCores, List.filter_eq_nil_iff, mem_testedCores]

theorem badCores_eq_nil : badCores s pass = [] ↔ ∀ k < 3, (coreList s)[k]? = some .selfTest → pass k = true := by
  simp [badCores, List.filter_eq_nil_iff, mem_testedCores]

theorem head?_goodCores : (goodCores s pass).head? = some k ↔
    k < 3 ∧ (coreList s)[k]? = some .selfTest ∧ pass k = true ∧ ∀ j < k, (coreList s)[j]? = some .selfTest → pass j = false := by
  rw [goodCores, testedCores, List.filter_filter, List.head?_filter, List.find?_range_eq_some]
  simp [and_assoc, and_left_comm, ← imp_iff_or_not]

theorem loneCore_eq_some : loneCore s = some k ↔
    k < 3 ∧ (coreList s)[k]? = some .single ∧ ∀ j < k, (coreList s)[j]? ≠ some .single := by
  rw [loneCore, List.find?_range_eq_some]
  simp [and_left_comm]

theorem loneCore_eq_none : loneCore s = none ↔ ∀ j < 3, (coreList s)[j]? ≠ some .single := by
  simp [loneCore]

theorem testedCores_eq_nil : testedCores s = [] ↔ ∀ j < 3, (coreList s)[j]? ≠ some .selfTest := by
  simp [testedCores]

theorem coreList_putCores (s : State) (f : Nat → CoreState → CoreState) {c : CoreState} (h : (coreList s)[k]? = some c) :
    (coreList (putCores s f))[k]? = some (f k c) := by
  match k, h with
  | 0, h => exact congrArg (Option.map (f 0)) h
  | 1, h => exact congrArg (Option.map (f 1)) h
  | 2, h => exact congrArg (Option.map (f 2)) h

end

/-! Quarantine -/

theorem quarantineCore_cores (s : State) (n : Nat) : (quarantineCore s n).shep.cores = s.shep.cores := by
  show (raiseErr s Reg.SHEP_STATUS 2 3 0x0480 n).shep.cores = _
  rw [raiseErr_shep]

theorem flagSet_quarantineCore (s : State) (n : Nat) : flagSet (quarantineCore s n) Reg.SHEP_STATUS 2 = true :=
  flagSet_raiseErr s Reg.SHEP_STATUS 2 3 0x0480 n (by decide) (by decide) (by decide)

theorem foldl_quarantineCore_cores (l : List Nat) : ∀ s : State, (l.foldl quarantineCore s).shep.cores = s.shep.cores := by
  induction l with
  | nil => exact fun _ => rfl
  | cons n l ih => exact fun s => (ih _).trans (quarantineCore_cores s n)

theorem flagSet_foldl_quarantineCore : ∀ (l : List Nat) (s : State), l ≠ [] → flagSet (l.foldl quarantineCore s) Reg.SHEP_STATUS 2 = true
  | [], _, h => absurd rfl h
  | [n], s, _ => flagSet_quarantineCore s n
  | n :: m :: l, s, _ => flagSet_foldl_quarantineCore (m :: l) (quarantineCore s n) (List.cons_ne_nil m l)

/-! Who runs on -/

/-- All cores pass: they are the pair again, and the spare `n` is warm. -/
def passAll (good : List Nat) (n k : Nat) (c : CoreState) : CoreState := if good.contains k then .paired else if k = n then .warm else c

/-- Some core fails: one that passes pairs with the spare `n`. -/
def passSome (good bad : List Nat) (n k : Nat) (c : CoreState) : CoreState :=
  if bad.contains k then .quarantined else if (good.contains k ∨ k = n) ∧ !good.isEmpty then .paired else c

/-- No spare: the lowest that passes runs alone. -/
def passAlone (good bad : List Nat) (k : Nat) (c : CoreState) : CoreState :=
  if bad.contains k then .quarantined else if good.head? = some k then .single else if good.contains k then .warm else c

/-- The cores of the list in quarantine, with the states that `f` gives. -/
def quarantineAll (s : State) (f : Nat → CoreState → CoreState) (bad : List Nat) : State := bad.foldl quarantineCore (putCores s f)

theorem coreList_quarantineAll {s : State} {f : Nat → CoreState → CoreState} (bad : List Nat) {k : Nat} {c : CoreState}
    (h : (coreList s)[k]? = some c) : (coreList (quarantineAll s f bad))[k]? = some (f k c) := by
  have hcores : coreList (quarantineAll s f bad) = coreList (putCores s f) := by
    rw [coreList, quarantineAll, foldl_quarantineCore_cores]; rfl
  rw [hcores, coreList_putCores s f h]

/-- Core `n` runs single: SINGLE is raised. -/
def runSingle (s : State) (n : Nat) : State := raiseErr s Reg.SHEP_STATUS 3 3 0x0480 n

theorem coreList_runSingle (s : State) (n : Nat) : coreList (runSingle s n) = coreList s := by
  rw [coreList, runSingle, raiseErr_shep]; rfl

theorem flagSet_runSingle (s : State) (n : Nat) : flagSet (runSingle s n) Reg.SHEP_STATUS 3 = true :=
  flagSet_raiseErr _ _ _ _ _ _ (by decide) (by decide) (by decide)

/-- No core is left, before capture and playback stop. -/
def noCore (s : State) : State := markClassF (s.modShep (fun h => { h with lost := true }))

theorem shepherdLost_eq (s : State) : shepherdLost s = stopPlayback (stopCapture (noCore s)) := rfl

theorem coreList_noCore (s : State) : coreList (noCore s) = coreList s := by
  rw [coreList, noCore, markClassF_shep]; rfl

theorem noCore_classF (s : State) :
    (noCore s).shep.lost = true ∧ (noCore s).pwr.classF = true ∧ flagSet (noCore s) Reg.CHIP_STATUS 12 = true := by
  refine ⟨?_, ?_, flagSet_markClassF _⟩
  · rw [noCore, markClassF_shep]; rfl
  · rw [noCore, markClassF_pwr]

/-- What a self-test leaves while core `n` runs alone. -/
def spareResult (s : State) (pass : Nat → Bool) (n : Nat) : State :=
  if (badCores s pass).isEmpty then putCores s (passAll (goodCores s pass) n)
  else if (goodCores s pass).isEmpty then
    runSingle (quarantineAll s (passSome (goodCores s pass) (badCores s pass) n) (badCores s pass)) n
  else quarantineAll s (passSome (goodCores s pass) (badCores s pass) n) (badCores s pass)

/-- The cores after a self-test during which none ran. -/
def aloneCores (s : State) (pass : Nat → Bool) : State :=
  quarantineAll s (passAlone (goodCores s pass) (badCores s pass)) (badCores s pass)

section
variable {p0 p1 p2 : Bool} {s : State} {n : Nat}

/-- No core tests itself, and the one that runs alone, if any, passes or a handover is under way. -/
theorem selfTest_idle (ht : testedCores s = [])
    (h : s.shep.handover ≠ none ∨ ∀ n, loneCore s = some n → corePass p0 p1 p2 n = true) : exec (.coreSelfTestDone p0 p1 p2) s = .next s := by
  refine (if_pos (List.isEmpty_iff.2 ht)).trans ?_
  split
  · rename_i n hn
    refine if_neg ?_
    rcases h with h | h
    · simp [Option.isNone_iff_eq_none, h]
    · have hpass : ([p0, p1, p2][n]?).getD false = true := h n hn
      simp [hpass]
  · rfl

/-- The core that runs alone fails. -/
theorem selfTest_last (ht : testedCores s = []) (hn : loneCore s = some n) (hh : s.shep.handover = none) (hp : corePass p0 p1 p2 n = false) :
    exec (.coreSelfTestDone p0 p1 p2) s =
      .next (shepherdLost (quarantineCore (putCores s (fun k c => if k = n then .quarantined else c)) n)) := by
  refine (if_pos (List.isEmpty_iff.2 ht)).trans ?_
  have hn' : (List.range 3).find? (fun n => (coreList s)[n]? == some .single) = some n := hn
  have hp' : ([p0, p1, p2][n]?).getD false = false := hp
  simp only [hn', hh, hp', Option.isNone_none, Bool.not_false, Bool.and_true, if_true]
  rfl

/-- The pair has tested itself while core `n` runs alone. -/
theorem selfTest_spare (ht : testedCores s ≠ []) (hn : loneCore s = some n) :
    exec (.coreSelfTestDone p0 p1 p2) s = .next (spareResult s (corePass p0 p1 p2) n) := by
  refine (if_neg (mt List.isEmpty_iff.1 ht)).trans ?_
  have hn' : (List.range 3).find? (fun n => (coreList s)[n]? == some .single) = some n := hn
  simp only [hn']
  exact (apply_ite Host.Outcome.next _ _ _).symm

/-- The pair has tested itself, no core ran meanwhile, and `n` is the lowest that passes. -/
theorem selfTest_alone (ht : testedCores s ≠ []) (hl : loneCore s = none) (hn : (goodCores s (corePass p0 p1 p2)).head? = some n) :
    exec (.coreSelfTestDone p0 p1 p2) s = .next (runSingle (aloneCores s (corePass p0 p1 p2)) n) := by
  refine (if_neg (mt List.isEmpty_iff.1 ht)).trans ?_
  have hl' : (List.range 3).find? (fun n => (coreList s)[n]? == some .single) = none := hl
  simp only [hl']
  split
  · rename_i m hm
    obtain rfl : m = n := Option.some.inj (hm.symm.trans hn)
    rfl
  · rename_i hm
    exact nomatch hm.symm.trans hn

/-- The pair has tested itself, no core ran meanwhile, and none passes. -/
theorem selfTest_none (ht : testedCores s ≠ []) (hl : loneCore s = none) (hn : (goodCores s (corePass p0 p1 p2)).head? = none) :
    exec (.coreSelfTestDone p0 p1 p2) s = .next (shepherdLost (aloneCores s (corePass p0 p1 p2))) := by
  refine (if_neg (mt List.isEmpty_iff.1 ht)).trans ?_
  have hl' : (List.range 3).find? (fun n => (coreList s)[n]? == some .single) = none := hl
  simp only [hl']
  split
  · rename_i m hm
    exact nomatch hm.symm.trans hn
  · rfl

end

/-! The cores after a self-test -/

section
variable {s : State} {pass : Nat → Bool} {n k : Nat}

theorem goodCores_ne_nil (hk : k < 3) (ht : (coreList s)[k]? = some .selfTest) (hp : pass k = true) : goodCores s pass ≠ [] :=
  List.ne_nil_of_mem (mem_goodCores.2 ⟨⟨hk, ht⟩, hp⟩)

theorem badCores_ne_nil (hk : k < 3) (ht : (coreList s)[k]? = some .selfTest) (hp : pass k = false) : badCores s pass ≠ [] :=
  List.ne_nil_of_mem (mem_badCores.2 ⟨⟨hk, ht⟩, hp⟩)

theorem not_mem_testedCores_of_single (h : (coreList s)[n]? = some .single) : n ∉ goodCores s pass ∧ n ∉ badCores s pass := by
  simp [mem_goodCores, mem_badCores, h]

/-- Every core that fails is quarantined, whoever runs on. -/
theorem coreList_failed {f : Nat → CoreState → CoreState} (hf : ∀ k c, k ∈ badCores s pass → f k c = .quarantined)
    (hk : k < 3) (ht : (coreList s)[k]? = some .selfTest) (hp : pass k = false) :
    (coreList (quarantineAll s f (badCores s pass)))[k]? = some .quarantined := by
  rw [coreList_quarantineAll _ ht, hf k _ (mem_badCores.2 ⟨⟨hk, ht⟩, hp⟩)]

theorem passSome_bad {good bad : List Nat} (k : Nat) (c : CoreState) (h : k ∈ bad) : passSome good bad n k c = .quarantined := by
  simp [passSome, h]

theorem passAlone_bad {good bad : List Nat} (k : Nat) (c : CoreState) (h : k ∈ bad) : passAlone good bad k c = .quarantined := by
  simp [passAlone, h]

theorem spareResult_allPass (hn : (coreList s)[n]? = some .single) (hall : ∀ k < 3, (coreList s)[k]? = some .selfTest → pass k = true) :
    (∀ k < 3, (coreList s)[k]? = some .selfTest → (coreList (spareResult s pass n))[k]? = some .paired) ∧
      (coreList (spareResult s pass n))[n]? = some .warm := by
  rw [spareResult, if_pos (List.isEmpty_iff.2 (badCores_eq_nil.2 hall))]
  constructor
  · intro k hk ht
    rw [coreList_putCores _ _ ht]
    simp [passAll, mem_goodCores, hk, ht, hall k hk ht]
  · rw [coreList_putCores _ _ hn]
    simp [passAll, (not_mem_testedCores_of_single hn).1]

theorem spareResult_somePass (hn : (coreList s)[n]? = some .single) (hbad : badCores s pass ≠ []) (hgood : goodCores s pass ≠ []) :
    (coreList (spareResult s pass n))[n]? = some .paired ∧
      (∀ k < 3, (coreList s)[k]? = some .selfTest → pass k = true → (coreList (spareResult s pass n))[k]? = some .paired) ∧
      flagSet (spareResult s pass n) Reg.SHEP_STATUS 2 = true := by
  rw [spareResult, if_neg (mt List.isEmpty_iff.1 hbad), if_neg (mt List.isEmpty_iff.1 hgood)]
  refine ⟨?_, fun k hk ht hp => ?_, flagSet_foldl_quarantineCore _ _ hbad⟩
  · rw [coreList_quarantineAll _ hn]
    simp [passSome, (not_mem_testedCores_of_single hn).2, hgood]
  · rw [coreList_quarantineAll _ ht]
    simp [passSome, mem_goodCores, mem_badCores, hk, ht, hp, hgood]

theorem spareResult_nonePass (hn : (coreList s)[n]? = some .single) (hbad : badCores s pass ≠ []) (hgood : goodCores s pass = []) :
    (coreList (spareResult s pass n))[n]? = some .single ∧ flagSet (spareResult s pass n) Reg.SHEP_STATUS 3 = true := by
  rw [spareResult, if_neg (mt List.isEmpty_iff.1 hbad), if_pos (List.isEmpty_iff.2 hgood)]
  refine ⟨?_, flagSet_runSingle _ _⟩
  rw [coreList_runSingle, coreList_quarantineAll _ hn]
  simp [passSome, (not_mem_testedCores_of_single hn).2, hgood]

theorem spareResult_failed (hk : k < 3) (ht : (coreList s)[k]? = some .selfTest) (hp : pass k = false) :
    (coreList (spareResult s pass n))[k]? = some .quarantined := by
  rw [spareResult, if_neg (mt List.isEmpty_iff.1 (badCores_ne_nil hk ht hp))]
  split
  · rw [coreList_runSingle, coreList_failed passSome_bad hk ht hp]
  · rw [coreList_failed passSome_bad hk ht hp]

theorem aloneCores_lowest (hk : (goodCores s pass).head? = some k) : (coreList (aloneCores s pass))[k]? = some .single := by
  obtain ⟨hlt, ht, hp, -⟩ := head?_goodCores.1 hk
  rw [aloneCores, coreList_quarantineAll _ ht]
  simp [passAlone, hk, mem_badCores, hp]

end

end Sys2Proof.Machine

/-!
PROOF. The statement on the Shepherd's cores, its firmware and the non-volatile areas, from the spec lemma of each event.
-/

namespace Sys2Proof.Machine

/-- Core `k` is in state `c`. -/
abbrev CoreIs (s : State) (k : Nat) (c : CoreState) : Prop := (coreList s)[k]? = some c

/-- CORE_SELF_TEST_DONE without a core under test. -/
theorem coreSelfTest_noneTested (p0 p1 p2 : Bool) (s : State) :
    ((∀ n < 3, ¬CoreIs s n .selfTest) →
      s.shep.handover ≠ none ∨ (∀ n < 3, CoreIs s n .single → corePass p0 p1 p2 n = true) →
      exec (.coreSelfTestDone p0 p1 p2) s = .next s) ∧
    (∀ n < 3, (∀ k < 3, ¬CoreIs s k .selfTest) → CoreIs s n .single →
      (∀ k < n, ¬CoreIs s k .single) → s.shep.handover = none → corePass p0 p1 p2 n = false →
      ∃ u, exec (.coreSelfTestDone p0 p1 p2) s = .next (stopPlayback (stopCapture u)) ∧ CoreIs u n .quarantined ∧
        u.shep.lost = true ∧ u.pwr.classF = true ∧ flagSet u Reg.CHIP_STATUS 12 = true) := by
  refine ⟨fun ht h => ?_, fun n hn ht hone hfirst hh hp => ?_⟩
  · refine selfTest_idle (testedCores_eq_nil.2 ht) (h.imp_right fun hall n hn => ?_)
    obtain ⟨hlt, hone, -⟩ := loneCore_eq_some.1 hn
    exact hall n hlt hone
  · refine ⟨noCore (quarantineCore (putCores s (fun k c => if k = n then .quarantined else c)) n), selfTest_last (testedCores_eq_nil.2 ht) (loneCore_eq_some.2 ⟨hn, hone, hfirst⟩) hh hp,
      ?_, noCore_classF _⟩
    have hcores : coreList (quarantineCore (putCores s (fun k c => if k = n then .quarantined else c)) n) =
        coreList (putCores s (fun k c => if k = n then .quarantined else c)) := by
      rw [coreList, quarantineCore_cores]; rfl
    rw [CoreIs, coreList_noCore, hcores, coreList_putCores _ _ hone, if_pos rfl]

/-- CORE_SELF_TEST_DONE of cores under test: `gone` where class F follows. -/
theorem coreSelfTest_tested (p0 p1 p2 : Bool) (s : State) (htested : ∃ k < 3, CoreIs s k .selfTest) :
    ∃ (t : State) (gone : Bool), exec (.coreSelfTestDone p0 p1 p2) s = .next (if gone then stopPlayback (stopCapture t) else t) ∧
      (gone = true ↔ (∀ n < 3, ¬CoreIs s n .single) ∧
        ∀ k < 3, CoreIs s k .selfTest → corePass p0 p1 p2 k = false) ∧
      (∀ k < 3, CoreIs s k .selfTest → corePass p0 p1 p2 k = false → CoreIs t k .quarantined) ∧
      (∀ n < 3, CoreIs s n .single → (∀ k < n, ¬CoreIs s k .single) →
        ((∀ k < 3, CoreIs s k .selfTest → corePass p0 p1 p2 k = true) →
          (∀ k < 3, CoreIs s k .selfTest → CoreIs t k .paired) ∧ CoreIs t n .warm) ∧
        ((∃ k < 3, CoreIs s k .selfTest ∧ corePass p0 p1 p2 k = false) →
          (∃ k < 3, CoreIs s k .selfTest ∧ corePass p0 p1 p2 k = true) → CoreIs t n .paired ∧
          (∀ k < 3, CoreIs s k .selfTest → corePass p0 p1 p2 k = true → CoreIs t k .paired) ∧
          flagSet t Reg.SHEP_STATUS 2 = true) ∧
        ((∀ k < 3, CoreIs s k .selfTest → corePass p0 p1 p2 k = false) → CoreIs t n .single ∧
          flagSet t Reg.SHEP_STATUS 3 = true)) ∧
      ((∀ n < 3, ¬CoreIs s n .single) →
        (∀ k < 3, CoreIs s k .selfTest → corePass p0 p1 p2 k = true →
          (∀ j < k, CoreIs s j .selfTest → corePass p0 p1 p2 j = false) → CoreIs t k .single ∧
          flagSet t Reg.SHEP_STATUS 3 = true) ∧
        (gone = true → t.shep.lost = true ∧ t.pwr.classF = true ∧ flagSet t Reg.CHIP_STATUS 12 = true)) := by
  obtain ⟨k₀, hk₀, ht₀⟩ := htested
  have htested : testedCores s ≠ [] := fun h => testedCores_eq_nil.1 h k₀ hk₀ ht₀
  cases hl : loneCore s with
  | some n =>
    obtain ⟨hn, hone, hfirst⟩ := loneCore_eq_some.1 hl
    refine ⟨spareResult s (corePass p0 p1 p2) n, false, selfTest_spare htested hl,
      ⟨fun h => (nomatch h), fun h => absurd hone (h.1 n hn)⟩, fun k hk ht hp => spareResult_failed hk ht hp,
      fun m hm hmone hmfirst => ?_, fun hnone => absurd hone (hnone n hn)⟩
    obtain rfl : n = m := Option.some.inj (hl.symm.trans (loneCore_eq_some.2 ⟨hm, hmone, hmfirst⟩))
    refine ⟨spareResult_allPass hone, ?_, fun hnone => ?_⟩
    · rintro ⟨j, hj, htj, hpj⟩ ⟨k, hk, htk, hpk⟩
      exact spareResult_somePass hone (badCores_ne_nil hj htj hpj) (goodCores_ne_nil hk htk hpk)
    · exact spareResult_nonePass hone (badCores_ne_nil hk₀ ht₀ (hnone k₀ hk₀ ht₀)) (goodCores_eq_nil.2 hnone)
  | none =>
    have hnosingle := loneCore_eq_none.1 hl
    cases hg : (goodCores s (corePass p0 p1 p2)).head? with
    | some n =>
      obtain ⟨hn, htn, hpn, -⟩ := head?_goodCores.1 hg
      refine ⟨runSingle (aloneCores s (corePass p0 p1 p2)) n, false, selfTest_alone htested hl hg,
        ⟨fun h => (nomatch h), fun h => absurd (hpn.symm.trans (h.2 n hn htn)) (by decide)⟩, fun k hk ht hp => ?_,
        fun m hm hmone => absurd hmone (hnosingle m hm), fun _ => ⟨fun k hk ht hp hfirst => ⟨?_, flagSet_runSingle _ _⟩, fun h => nomatch h⟩⟩
      · rw [CoreIs, coreList_runSingle]; exact coreList_failed passAlone_bad hk ht hp
      · rw [CoreIs, coreList_runSingle]
        exact aloneCores_lowest (head?_goodCores.2 ⟨hk, ht, hp, hfirst⟩)
    | none =>
      have hfail := goodCores_eq_nil.1 (List.head?_eq_none_iff.1 hg)
      refine ⟨noCore (aloneCores s (corePass p0 p1 p2)), true, selfTest_none htested hl hg, ⟨fun _ => ⟨hnosingle, hfail⟩, fun _ => rfl⟩,
        fun k hk ht hp => ?_, fun m hm hmone => absurd hmone (hnosingle m hm),
        fun _ => ⟨fun k hk ht hp => absurd (hp.symm.trans (hfail k hk ht)) (by decide), fun _ => noCore_classF _⟩⟩
      rw [CoreIs, coreList_noCore]; exact coreList_failed passAlone_bad hk ht hp

/-- Settles O57, event by event: the mismatch, the self-test with and without a core under test, FW_STAGE, FW_ACTIVATE, the two ends
of a handover, and NV_WRITE. -/
theorem coresFirmwareAndNvAreas : Obligations.CoresFirmwareAndNvAreas := by
  unfold Obligations.CoresFirmwareAndNvAreas
  intro cores all ends
  refine ⟨lockstepMismatch_spec, fun p0 p1 p2 s => ?_, fwStage_spec, fwActivate_spec, fun s => ⟨fun hnone => ?_, fun c hc hr =>
    ⟨handoverTimeout_spec hc hr, fun v hv => checkpoint_handover hc hr hv⟩, checkpoint_plain⟩, nvWrite_spec⟩
  · obtain ⟨hidle, hlast⟩ := coreSelfTest_noneTested p0 p1 p2 s
    exact ⟨hidle, hlast, coreSelfTest_tested p0 p1 p2 s⟩
  · simp only [exec, execHandoverTimeout, hnone]

end Sys2Proof.Machine

/-!
PROOF. What the shared operations of the timebase do, each said once: a raised flag and a completion seen from the other parts, a load
of the bellwether, and the stop and the restart of TBASE (R33, R37, R38, R40).
-/

namespace Sys2Proof.Machine

/-! Parts through raised flags and completions -/

theorem raise_part {α : Type} (s : State) (o : Nat) (mask : Word) (p : State → α) (hp : ∀ x, p (x.hide 258) = p x) :
    p (raise s o mask) = p s :=
  part_of_hide (raise_hide (m := 258) (h_sub := rfl) s o mask) p hp

theorem complete_part {α : Type} (s : State) (ring : Fin 16) (cid : BitVec 16) (op st r r2 : Nat) (p : State → α)
    (hp : ∀ x, p (x.hide 1152) = p x) : p (complete s ring cid op st r r2) = p s :=
  part_of_hide (complete_hide (m := 1152) (h_sub := rfl) ..) p hp

theorem endRun_part {α : Type} (s : State) (ring : Fin 16) (cid : BitVec 16) (st r r2 : Nat) (p : State → α)
    (hp : ∀ x, p (x.hide 1152) = p x) : p (endRun s ring cid st r r2) = p s :=
  part_of_hide (endRun_hide (m := 1152) (h_sub := rfl) ..) p hp

theorem endRun_of_runs {s : State} {ring : Fin 16} {cid : BitVec 16} {op : Nat} (st r r2 : Nat) (h : s.runs ring cid op) :
    endRun s ring cid st r r2 = complete (dropCmd s ring cid) ring cid op st r r2 := by
  obtain ⟨x, hx, rfl, ho⟩ := h
  simp only [endRun, hx, ho, Bool.false_eq_true, if_false]

theorem runs_of_cmd {s t : State} (hc : t.cmd = s.cmd) {ring : Fin 16} {cid : BitVec 16} {op : Nat} (h : s.runs ring cid op) :
    t.runs ring cid op := by
  obtain ⟨x, hx, hop, ho⟩ := h
  exact ⟨x, by rw [findRun, hc]; exact hx, hop, ho⟩

/-- An appended entry stands before the newest of those that stood. -/
theorem take_logAdd (s : State) (event cls src unit : Nat) (data : List Byte) {n : Nat} (hn : n < 1048576) :
    (logAdd s event cls src unit data).log.entries.take (n + 1) =
      { time := now s, src := src, seq := s.log.next, event := event, cls := cls, unit := unit, data := data } ::
        s.log.entries.take n := by
  have hmin : min n 1048575 = n := by omega
  simp only [logAdd_log, List.take_succ_cons, List.take_take, hmin]

/-- A completion of a logged kind puts its COMMAND entry before the newest entry (R366). -/
theorem newest_complete (s : State) (ring : Fin 16) (cid : BitVec 16) {op : Nat} (st r r2 : Nat)
    (hop : loggedOps.contains op = true) :
    ∃ e : LogEntry, e.event = 6 ∧ (complete s ring cid op st r r2).log.entries.take 2 = e :: s.log.entries.take 1 := by
  simp only [complete, hop, if_true]
  exact ⟨_, rfl, take_logAdd _ _ _ _ _ _ (by decide)⟩

/-! A load of the bellwether -/

/-- The timebase in which the bellwether has taken `t`, and the link epoch has moved by the same amount (R40). -/
def TimeSt.load (x : TimeSt) (t : Time) : TimeSt :=
  { x with
    now := t % timeMod
    crossed := false
    epoch := x.epoch.map (fun e => (e + t + (timeMod - x.now % timeMod)) % timeMod) }

/-- The entry of a step from the time of `s` to `t` (Table 2-1): the time words before and after. -/
def stepEntry (s : State) (t : Time) : LogEntry :=
  { time := t % timeMod, src := 0x0481, seq := s.log.next, event := 4, cls := 0, unit := 0x400000
    data := leBytes 12 (timeWord s.tb.now 0) ++ leBytes 4 0 ++ leBytes 12 (timeWord (t % timeMod) 0) }

section
variable (s : State) (t : Time) (bits : Word)

theorem loadTime_tb : (loadTime s t bits).tb = s.tb.load t := raise_part _ _ _ State.tb fun _ => rfl

theorem loadTime_cmd : (loadTime s t bits).cmd = s.cmd := raise_part _ _ _ State.cmd fun _ => rfl

theorem newest_loadTime : (loadTime s t bits).log.entries.take 1 = [stepEntry s t] := by
  have hnow := raise_part (s.setTb (s.tb.load t)) Reg.TBASE_STATUS bits now fun _ => rfl
  have hnext := raise_part (s.setTb (s.tb.load t)) Reg.TBASE_STATUS bits (fun x => x.log.next) fun _ => rfl
  refine (take_logAdd (raise (s.setTb (s.tb.load t)) Reg.TBASE_STATUS bits) _ _ _ _ _ (n := 0) (by decide)).trans ?_
  rw [hnow, hnext]
  rfl

theorem flagSet_loadTime {b : Nat} (hb : b < 24) (hbit : bits.getLsbD b = true) :
    flagSet (loadTime s t bits) Reg.TBASE_STATUS b = true :=
  (flagSet_raise (s.setTb (s.tb.load t)) _ bits b hb (by decide) (by decide)).trans (by rw [hbit, Bool.or_true])

theorem regsBut_loadTime : s.regsBut [Reg.TBASE_STATUS, Reg.PCIE_STATUS] (loadTime s t bits) :=
  regsBut_raise (s.setTb (s.tb.load t)) _ bits

end

/-! The load of a SET_TIME that waited -/

/-- The waiting SET_TIME, of that ring and ID, has loaded `v` and completed. -/
def loadWaiting (s : State) (ring : Fin 16) (cid : BitVec 16) (v : Time) (bits : Word) : State :=
  endRun (loadTime (s.modTb (fun b => { b with wait := none })) v bits) ring cid cOk 0 0

section
variable (s : State) (ring : Fin 16) (cid : BitVec 16) (v : Time) (bits : Word)

theorem loadWaiting_tb : (loadWaiting s ring cid v bits).tb = { s.tb.load v with wait := none } :=
  (endRun_part _ _ _ _ _ _ State.tb fun _ => rfl).trans (loadTime_tb ..)

theorem loadWaiting_regs :
    (loadWaiting s ring cid v bits).regs = (loadTime (s.modTb (fun b => { b with wait := none })) v bits).regs :=
  endRun_part _ _ _ _ _ _ State.regs fun _ => rfl

theorem flagSet_loadWaiting {b : Nat} (hb : b < 24) (hbit : bits.getLsbD b = true) :
    flagSet (loadWaiting s ring cid v bits) Reg.TBASE_STATUS b = true :=
  (flagSet_endRun ..).trans (flagSet_loadTime _ v bits hb hbit)

theorem regsBut_loadWaiting : s.regsBut [Reg.TBASE_STATUS, Reg.PCIE_STATUS] (loadWaiting s ring cid v bits) :=
  regsBut_trans (regsBut_loadTime (s.modTb _) v bits) (regsBut_of_eq (loadWaiting_regs ..))

theorem loadWaiting_sameBut : s.sameBut [.tb, .cmd, .log, .regs, .pcie] (loadWaiting s ring cid v bits) := by
  simp [State.sameBut, partMask, Part.bit, loadWaiting]

variable {s ring cid}

theorem loadWaiting_cmd {op : Nat} (hr : s.runs ring cid op) :
    (loadWaiting s ring cid v bits).cmd = s.ending ring cid cOk 0 0 :=
  endRun_cmd_of_cmd (loadTime_cmd (s.modTb _) v bits) _ _ _ hr

theorem newest_loadWaiting (hr : s.runs ring cid 0x0103) :
    ∃ x : LogEntry, (loadWaiting s ring cid v bits).log.entries.take 2 = [x, stepEntry s v] := by
  rw [loadWaiting, endRun_of_runs _ _ _ (runs_of_cmd (loadTime_cmd (s.modTb _) v bits) hr)]
  obtain ⟨x, -, hx⟩ := newest_complete
    (dropCmd (loadTime (s.modTb (fun b => { b with wait := none })) v bits) ring cid) ring cid cOk 0 0 (op := 0x0103) rfl
  exact ⟨x, hx.trans (congrArg (x :: ·) (newest_loadTime (s.modTb _) v bits))⟩

end

/-! The stop and the restart of TBASE -/

theorem logCoarse_of_present {s : State} (b : Nat) (h : refclkGone s = false) : logCoarse s b = s := by
  rw [logCoarse, h]; rfl

theorem logCoarse_regs (s : State) (b : Nat) : (logCoarse s b).regs = s.regs :=
  part_of_hide (logCoarse_hide (m := 1024) (h_sub := rfl) s b) State.regs fun _ => rfl

theorem startTbase_of_running {s : State} (h : s.tb.running = true) : startTbase s = s := if_pos h

theorem startTbase_tb_of_stopped {s : State} (h : s.tb.running = false) :
    (startTbase s).tb = if s.tb.sub = 0 then { s.tb with running := true }
      else { s.tb with running := true, sub := 0, now := (s.tb.now + nsT 40) % timeMod } := by
  simp only [startTbase, h, Bool.false_eq_true, if_false]
  split <;> rw [State.modTb_tb, logCoarse_tb]

/-- A restart moves neither the link epoch nor the SET_TIME that waits. -/
theorem startTbase_epoch_wait (s : State) :
    (startTbase s).tb.epoch = s.tb.epoch ∧ (startTbase s).tb.wait = s.tb.wait := by
  cases h : s.tb.running with
  | true => rw [startTbase_of_running h]; exact ⟨rfl, rfl⟩
  | false => rw [startTbase_tb_of_stopped h]; split <;> exact ⟨rfl, rfl⟩

theorem startTbase_log {s : State} (h : s.tb.running = true ∨ refclkGone s = false) : (startTbase s).log = s.log := by
  rcases h with h | h
  · rw [startTbase_of_running h]
  · rw [startTbase, logCoarse_of_present _ h]
    split
    · rfl
    · split <;> exact State.modTb_log ..

theorem stopTbase_tb (s : State) : (stopTbase s).tb = { s.tb with running := false, crossed := false } :=
  (raiseBit_tb ..).trans (congrArg (fun x : TimeSt => { x with running := false, crossed := false }) (logCoarse_tb s 4))

theorem stopTbase_log {s : State} (h : refclkGone s = false) : (stopTbase s).log = s.log := by
  rw [stopTbase, logCoarse_of_present _ h]
  exact raiseBit_log ..

/-- The state in which TBASE is stopped, before TBASE_STATUS.COARSE is set. -/
def tbaseHalted (s : State) : State :=
  wrF ((logCoarse s 4).modTb (fun t => { t with running := false, crossed := false })) Reg.CHIP_CLK_STATUS 1 1 0

theorem regsBut_tbaseHalted (s : State) : s.regsBut [Reg.CHIP_CLK_STATUS] (tbaseHalted s) :=
  regsBut_trans (regsBut_of_eq (logCoarse_regs s 4)) (regsBut_wrF ((logCoarse s 4).modTb _) _ _ _ _)

theorem regsBut_stopTbase (s : State) :
    s.regsBut [Reg.TBASE_STATUS, Reg.CHIP_CLK_STATUS, Reg.PCIE_STATUS] (stopTbase s) :=
  regsBut_trans (regsBut_mono (by simp) (regsBut_tbaseHalted s)) (regsBut_mono (by simp) (regsBut_raiseBit _ _ _))

theorem stopTbase_unlocked (s : State) : (rd (stopTbase s) Reg.CHIP_CLK_STATUS).getLsbD 1 = false := by
  refine (congrArg (BitVec.getLsbD · 1) ((regsBut_raiseBit (tbaseHalted s) _ _).rd (by decide) (by decide))).trans ?_
  rw [tbaseHalted, bit_wrF _ _ _ _ _ _ (by decide)]
  rfl

end Sys2Proof.Machine

/-!
PROOF. SET_TIME (R37-R41): what it does once it is admitted, the edge of SYNC_IN, the load and the timeout.
-/

namespace Sys2Proof.Machine

/-! SET_TIME once admitted -/

/-- A SET_TIME that passes its checks has its effect. -/
theorem exec_setTime {h : CmdHdr} {mode : Byte} {timeout : BitVec 32} {time : BitVec 96} {s : State}
    (hs : s.starts h (setTimeChecks h mode timeout time s)) :
    exec (.setTime h mode timeout time) s = .next (setTimeBody h mode time s) := next_startCmd hs

theorem setTimeBody_busy (h : CmdHdr) (mode : Byte) (time : BitVec 96) {s : State}
    (hbusy : captureBusy s = true ∨ measuring s = true ∨ playing s = true) :
    ∃ r, setTimeBody h mode time s = refuse s h 0x0103 cBusy r ∧ (measuring s = false → r = 0xFFFF) := by
  unfold setTimeBody
  by_cases hc : captureBusy s = true
  · exact ⟨_, if_pos hc, fun _ => rfl⟩
  · by_cases hm : measuring s = true
    · exact ⟨_, (if_neg hc).trans (if_pos hm), fun hn => absurd (hm.symm.trans hn) (by decide)⟩
    · have hp : playing s = true := (hbusy.resolve_left hc).resolve_left hm
      exact ⟨_, (if_neg hc).trans ((if_neg hm).trans (if_pos hp)), fun _ => rfl⟩

/-- The SET_TIME AT_SYNC that waits for an edge. -/
def syncWait (h : CmdHdr) (time : BitVec 96) : TimeWait :=
  { ring := h.ring, cid := h.cid, atSync := true, time := wordTime time, edge := none }

section
variable {s : State} (h : CmdHdr) (time : BitVec 96) (hc : captureBusy s = false) (hm : measuring s = false)
  (hp : playing s = false)
include hc hm hp

theorem setTimeBody_immediate (hrun : s.tb.running = true) (hlock : tbaseLocked s = true) :
    setTimeBody h 0 time s = finish (loadTime s (wordTime time) 1) h 0x0103 cOk 0 0 := by
  simp [setTimeBody, hc, hm, hp, hrun, hlock]

theorem setTimeBody_atSync :
    setTimeBody h 1 time s =
      keepRunning (startTbase (s.modTb (fun t => { t with wait := some (syncWait h time) }))) h 0x0103 0 0 := by
  simp [setTimeBody, syncWait, hc, hm, hp]

end

/-- The time of a time word fits in 80 bits. -/
theorem wordTime_mod (time : BitVec 96) : wordTime time % timeMod = time.toNat / 65536 :=
  Nat.mod_eq_of_lt (by unfold wordTime timeMod; omega)

/-! IMMEDIATE -/

/-- Settles O15: the admitted SET_TIME is a load (`loadTime`) and then a completion. -/
theorem setTimeImmediateLoadsTheBellwether : Obligations.SetTimeImmediateLoadsTheBellwether := by
  unfold Obligations.SetTimeImmediateLoadsTheBellwether
  intro h time s hs hc hm hp hrun hlock
  obtain ⟨e1, he1, hnew⟩ := newest_complete (loadTime s (wordTime time) 1) h.ring h.cid cOk 0 0 (op := 0x0103) rfl
  refine ⟨finish (loadTime s (wordTime time) 1) h 0x0103 cOk 0 0, e1, stepEntry s (wordTime time), ?_, ?_, ?_,
    hnew.trans (congrArg (e1 :: ·) (newest_loadTime ..)), he1, rfl, rfl, ?_, finish_cmd_of_cmd (loadTime_cmd ..) .., ?_, ?_⟩
  · rw [exec_setTime hs, setTimeBody_immediate h time hc hm hp hrun hlock]
  · rw [finish, complete_part _ _ _ _ _ _ _ State.tb fun _ => rfl, loadTime_tb, TimeSt.load, wordTime_mod]
    rfl
  · exact (flagSet_finish ..).trans (flagSet_loadTime _ _ _ (by decide) rfl)
  · rw [stepEntry, wordTime_mod]
  · simp [State.sameBut, partMask, Part.bit]
  · exact regsBut_trans (regsBut_loadTime s _ _) (regsBut_of_eq (complete_part _ _ _ _ _ _ _ State.regs fun _ => rfl))

/-- Settles O16, by the three causes of BUSY in their order (`setTimeBody_busy`). -/
theorem setTimeRefusedWhileBusy : Obligations.SetTimeRefusedWhileBusy := by
  unfold Obligations.SetTimeRefusedWhileBusy
  intro h mode timeout time s hs hbusy
  obtain ⟨r, hbody, hr⟩ := setTimeBody_busy h mode time hbusy
  exact ⟨_, r, by rw [exec_setTime hs, hbody], refuse_cmd .., hr, refuse_hide (h_sub := rfl) ..⟩

/-! AT_SYNC -/

/-- SET_TIME AT_SYNC waits, and TBASE runs. -/
theorem setTime_atSync_waits (h : CmdHdr) (timeout : BitVec 32) (time : BitVec 96) (s : State)
    (hs : s.starts h (setTimeChecks h 1 timeout time s)) (hc : captureBusy s = false) (hm : measuring s = false)
    (hp : playing s = false) :
    ∃ t, exec (.setTime h 1 timeout time) s = .next t ∧ t.tb.running = true ∧ t.tb.epoch = s.tb.epoch ∧
      t.tb.now = (if s.tb.running = true ∨ s.tb.sub = 0 then s.tb.now else (s.tb.now + 40 * 65536) % 2 ^ 80) ∧
      t.tb.wait = some { ring := h.ring, cid := h.cid, atSync := true, time := time.toNat / 65536, edge := none } ∧
      t.cmd = s.running h 0x0103 0 0 ∧ s.sameBut [.tb, .cmd, .log] t ∧
      (s.tb.running = true ∨ refclkGone s = false → t.log = s.log) := by
  refine ⟨_, (exec_setTime hs).trans (congrArg _ (setTimeBody_atSync h time hc hm hp)), startTbase_running _,
    (startTbase_epoch_wait _).1, startTbase_now _, (startTbase_epoch_wait _).2, ?_, ?_, fun hlog => startTbase_log hlog⟩
  · have hcmd := part_of_hide (startTbase_hide (m := 1088) (h_sub := rfl)
      (s.modTb (fun t => { t with wait := some (syncWait h time) }))) State.cmd fun _ => rfl
    rw [keepRunning_cmd, State.running, hcmd]
    rfl
  · simp [State.sameBut, partMask, Part.bit]

theorem syncInEdge_accepted {falling : Bool} {at_ : Time} {held : Nat} {w : TimeWait} {s : State} (hrun : s.tb.running = true)
    (hw : s.tb.wait = some w) (hsync : w.atSync = true) (hedge : w.edge = none)
    (hpol : (rd s Reg.TBASE_CTRL).getLsbD 1 = falling) (hheld : rdF s Reg.TBASE_CTRL 15 8 + 1 ≤ held) :
    syncInEdge falling at_ held s = (raiseBit s Reg.TBASE_STATUS 3).modTb (fun b =>
      { b with wait := some { w with edge := some (sampledTime s at_) } }) := by
  subst hpol
  simp [syncInEdge, hrun, hw, hsync, hedge, hheld]

theorem syncInEdge_ignored {falling : Bool} {at_ : Time} {held : Nat} {s : State}
    (h : (rd s Reg.TBASE_CTRL).getLsbD 1 ≠ falling ∨ held < rdF s Reg.TBASE_CTRL 15 8 + 1) :
    syncInEdge falling at_ held s = s := by
  refine if_neg fun hcond => ?_
  simp only [Bool.and_eq_true, beq_iff_eq, decide_eq_true_eq] at hcond
  obtain ⟨⟨-, hpol⟩, hheld⟩ := hcond
  exact h.elim (· hpol) (Nat.not_lt.2 hheld)

theorem exec_atSyncLoad {ring : Fin 16} {cid : BitVec 16} {time e : Time} {s : State}
    (hw : s.tb.wait = some { ring := ring, cid := cid, atSync := true, time := time, edge := some e }) :
    exec .atSyncLoad s = .next (loadWaiting s ring cid (time + (s.tb.now + (timeMod - e % timeMod))) 3) := by
  simp only [exec, execAtSyncLoad, hw, loadWaiting]

theorem exec_setTimeTimeout {ring : Fin 16} {cid : BitVec 16} {time : Time} {s : State}
    (hw : s.tb.wait = some { ring := ring, cid := cid, atSync := true, time := time, edge := none }) :
    exec .setTimeTimeout s = .next (endRun (s.modTb (fun b => { b with wait := none })) ring cid cTimeout 0 0) := by
  simp only [exec, execSetTimeTimeout, hw]

/-- Settles O17, event by event: the start, an edge of SYNC_IN, the load and the timeout. -/
theorem setTimeAtSync : Obligations.SetTimeAtSync := by
  unfold Obligations.SetTimeAtSync
  refine ⟨setTime_atSync_waits, fun falling at_ held w s hrun hw hsync hedge => ⟨fun ⟨hpol, hheld⟩ => ?_, fun hno => ?_⟩,
    fun ring cid time e s hw hr => ?_, fun ring cid time s hw hr => ?_⟩
  · refine ⟨_, congrArg Host.Outcome.next (syncInEdge_accepted hrun hw hsync hedge hpol hheld), ?_,
      flagSet_raiseBit _ _ _ (by decide) (by decide) (by decide), ?_, regsBut_raiseBit _ _ _⟩
    · rw [State.modTb_tb, raiseBit_tb]
    · simp [State.sameBut, partMask, Part.bit]
  · exact congrArg Host.Outcome.next (syncInEdge_ignored hno)
  · obtain ⟨x, hx⟩ := newest_loadWaiting (time + (s.tb.now + (timeMod - e % timeMod))) 3 hr
    have htb := loadWaiting_tb s ring cid (time + (s.tb.now + (timeMod - e % timeMod))) 3
    refine ⟨_, x, _, exec_atSyncLoad hw, congrArg TimeSt.now htb, congrArg TimeSt.wait htb, fun E hE => ?_,
      flagSet_loadWaiting _ _ _ _ _ (by decide) rfl, flagSet_loadWaiting _ _ _ _ _ (by decide) rfl, hx, rfl,
      loadWaiting_cmd _ _ hr, loadWaiting_sameBut .., regsBut_loadWaiting _ _ _ _ _⟩
    exact (congrArg TimeSt.epoch htb).trans (congrArg (Option.map _) hE)
  · refine ⟨_, exec_setTimeTimeout hw, endRun_part _ _ _ _ _ _ State.tb fun _ => rfl, endRun_cmd_of_cmd rfl _ _ _ hr, ?_⟩
    simp [State.sameBut, partMask, Part.bit]

end Sys2Proof.Machine

/-!
PROOF. The stop and the restart of TBASE, the lock of its PLL, and SYNC_OUT (R33, R41, R42, R417).
-/

namespace Sys2Proof.Machine

theorem exec_tbaseStop {s : State} (hrun : s.tb.running = true) (hsub : s.tb.sub = 0) (hmay : tbaseMayStop s = true) :
    exec .tbaseStop s = .next (stopTbase s) := by
  simp [exec, execTbaseStop, hrun, hsub, hmay]

theorem exec_tbaseStart {s : State} (hmay : tbaseMayStop s = false) : exec .tbaseStart s = .next (startTbase s) := by
  simp [exec, execTbaseStart, hmay]

/-- The state in which the timebase PLL has locked. -/
def pllLocked (s : State) : State := wrF s Reg.CHIP_CLK_STATUS 1 1 1

theorem pllLocked_bit (s : State) : (rd (pllLocked s) Reg.CHIP_CLK_STATUS).getLsbD 1 = true := by
  rw [pllLocked, bit_wrF _ _ _ _ _ _ (by decide)]
  rfl

theorem exec_timebasePllLock_noneWaits {s : State} (hw : s.tb.wait = none) : exec .timebasePllLock s = .next (pllLocked s) := by
  simp only [exec, execTimebasePllLock, hw, pllLocked]

theorem exec_timebasePllLock_immediate {ring : Fin 16} {cid : BitVec 16} {time : Time} {s : State} (hrun : s.tb.running = true)
    (hw : s.tb.wait = some { ring := ring, cid := cid, atSync := false, time := time, edge := none }) :
    exec .timebasePllLock s = .next (loadWaiting (pllLocked s) ring cid time 1) := by
  simp only [exec, execTimebasePllLock, hw, hrun, if_true, loadWaiting, pllLocked]

/-- The PLL's lock with a SET_TIME IMMEDIATE that waits for it. -/
theorem timebasePllLock_loads {ring : Fin 16} {cid : BitVec 16} {time : Time} {s : State}
    (hw : s.tb.wait = some { ring := ring, cid := cid, atSync := false, time := time, edge := none })
    (hrun : s.tb.running = true) (hr : s.runs ring cid 0x0103) :
    ∃ t, exec .timebasePllLock s = .next t ∧ t.tb.now = time % 2 ^ 80 ∧ t.tb.wait = none ∧
      flagSet t Reg.TBASE_STATUS 0 = true ∧ (rd t Reg.CHIP_CLK_STATUS).getLsbD 1 = true ∧
      t.cmd = s.ending ring cid cOk 0 0 ∧ s.sameBut [.tb, .cmd, .log, .regs, .pcie] t ∧
      s.regsBut [Reg.TBASE_STATUS, Reg.CHIP_CLK_STATUS, Reg.PCIE_STATUS] t := by
  have htb := loadWaiting_tb (pllLocked s) ring cid time 1
  refine ⟨_, exec_timebasePllLock_immediate hrun hw, congrArg TimeSt.now htb, congrArg TimeSt.wait htb,
    flagSet_loadWaiting _ _ _ _ _ (by decide) rfl, ?_, loadWaiting_cmd (s := pllLocked s) _ _ hr, ?_, ?_⟩
  · rw [(regsBut_loadWaiting (pllLocked s) ring cid time 1).rd (by decide) (by decide)]
    exact pllLocked_bit s
  · exact (loadWaiting_sameBut ..).trans (wrF_hide (h_sub := rfl) ..)
  · exact regsBut_trans (regsBut_mono (by simp) (regsBut_wrF s Reg.CHIP_CLK_STATUS 1 1 1))
      (regsBut_mono (by simp) (regsBut_loadWaiting (pllLocked s) _ _ _ _))

theorem exec_syncOutPulse {s : State} (hrun : s.tb.running = true) (hcross : s.tb.crossed = true)
    (hen : (rd s Reg.TBASE_CTRL).getLsbD 0 = true) :
    exec .syncOutPulse s =
      .next (s.setTb { s.tb with syncOut := true, syncLeft := 64 * (rdF s Reg.TBASE_CTRL 23 16 + 1) }) := by
  simp [exec, execSyncOutPulse, syncOutPulse, hrun, hcross, hen, State.modTb]

theorem exec_syncOutPulseEnd {s : State} (hleft : s.tb.syncLeft ≤ 1) :
    exec .syncOutPulseEnd s = .next (s.setTb { s.tb with syncOut := false, syncLeft := 0 }) :=
  congrArg Host.Outcome.next (if_pos hleft)

/-- Settles O18, event by event: the stop, the restart, the PLL's lock, and the two ends of SYNC_OUT's pulse. -/
theorem tbaseStopsAndStarts : Obligations.TbaseStopsAndStarts := by
  unfold Obligations.TbaseStopsAndStarts
  intro s
  refine ⟨fun hrun hsub hmay => ⟨stopTbase s, exec_tbaseStop hrun hsub hmay, stopTbase_tb s,
      flagSet_raiseBit _ _ _ (by decide) (by decide) (by decide), stopTbase_unlocked s, stopTbase_hide (h_sub := rfl) s,
      stopTbase_log, regsBut_stopTbase s⟩,
    fun hmay hrun => ⟨startTbase s, exec_tbaseStart hmay, startTbase_tb_of_stopped hrun, startTbase_hide (h_sub := rfl) s,
      fun hno => startTbase_log (.inr hno)⟩,
    fun hw => ⟨pllLocked s, exec_timebasePllLock_noneWaits hw, pllLocked_bit s, wrF_hide (h_sub := rfl) .., regsBut_wrF _ _ _ _ _⟩,
    fun ring cid time hw hrun hr => timebasePllLock_loads hw hrun hr, exec_syncOutPulse, exec_syncOutPulseEnd⟩

end Sys2Proof.Machine

/-!
PROOF. What the deck's commands do to shared parts, each said once: lists with one entry per key, a drover that moves bytes, and
completions of kinds that are not logged.
-/

namespace Sys2Proof.Machine

/-! Lists with one entry per key -/

theorem assoc_filter_same {α : Type} (t : List (Nat × α)) (k : Nat) : assoc (t.filter (fun e => e.1 != k)) k = none := by
  induction t with
  | nil => rfl
  | cons e t ih =>
    rw [List.filter_cons]
    split
    · next h => rw [assoc, if_neg (by simpa using h)]; exact ih
    · exact ih

theorem assoc_filter_other {α : Type} (t : List (Nat × α)) {k n : Nat} (h : n ≠ k) :
    assoc (t.filter (fun e => e.1 != k)) n = assoc t n := by
  induction t with
  | nil => rfl
  | cons e t ih =>
    rw [List.filter_cons]
    by_cases he : e.1 = k
    · rw [if_neg (by simpa using he), ih, assoc, if_neg (fun c => h (c.symm.trans he))]
    · rw [if_pos (by simpa using he), assoc, assoc, ih]

@[simp] theorem assoc_assocDel_same {α : Type} (t : List (Nat × α)) (k : Nat) : assoc (assocDel t k) k = none :=
  assoc_filter_same t k

theorem assoc_assocDel_other {α : Type} (t : List (Nat × α)) {k n : Nat} (h : n ≠ k) : assoc (assocDel t k) n = assoc t n :=
  assoc_filter_other t h

@[simp] theorem assoc_assocSet_same {α : Type} (t : List (Nat × α)) (k : Nat) (v : α) : assoc (assocSet t k v) k = some v :=
  if_pos rfl

theorem assoc_assocSet_other {α : Type} (t : List (Nat × α)) {k n : Nat} (v : α) (h : n ≠ k) :
    assoc (assocSet t k v) n = assoc t n :=
  (if_neg (Ne.symm h)).trans (assoc_filter_other t h)

/-! A drover's count of bytes -/

theorem rd64_wr64_same (s : State) (o v : Nat) : rd64 (wr64 s o v) o = v % 2 ^ 64 := by
  have hlo : rd (wr64 s o v) o = BitVec.ofNat 32 v := (rd_wr_other _ _ (by omega)).trans (rd_wr_same ..)
  have hhi : rd (wr64 s o v) (o + 4) = BitVec.ofNat 32 (v / 2 ^ 32) := rd_wr_same ..
  rw [rd64, hlo, hhi, BitVec.toNat_ofNat, BitVec.toNat_ofNat]
  omega

theorem regsBut_wr64 (s : State) (o v : Nat) : s.regsBut [o, o + 4] (wr64 s o v) :=
  regsBut_trans (regsBut_mono (by simp) (regsBut_wr s o _)) (regsBut_mono (by simp) (regsBut_wr _ (o + 4) _))

/-- A job accepted while a drover is ready goes to one of the free drovers, which counts its bytes. -/
theorem drove_spec (s : State) (n : Nat) (h : droverReady s = true) :
    ∃ v ∈ freeDrovers s, rd64 (drove s n) (Reg.DROV_BYTES_LO v) = (rd64 s (Reg.DROV_BYTES_LO v) + n) % 2 ^ 64 ∧
      s.regsBut [Reg.DROV_BYTES_LO v, Reg.DROV_BYTES_LO v + 4] (drove s n) := by
  unfold drove pickFree
  cases hl : freeDrovers s with
  | nil => simp [droverReady, hl] at h
  | cons a l =>
    have hi : (freeVal 16 s).toNat % (a :: l).length < (a :: l).length := Nat.mod_lt _ (by simp)
    refine ⟨(a :: l).getD ((freeVal 16 s).toNat % (a :: l).length) a, ?_, rd64_wr64_same .., regsBut_wr64 (useFree s) _ _⟩
    rw [List.getD_eq_getElem _ _ hi]
    exact List.getElem_mem _

/-! Completions of kinds that are not logged -/

theorem complete_hide_quiet (s : State) (ring : Fin 16) (cid : BitVec 16) {op : Nat} (st r r2 : Nat)
    (hop : loggedOps.contains op = false) : (complete s ring cid op st r r2).hide 128 = s.hide 128 := by
  simp only [complete, hop, Bool.false_eq_true, if_false]
  exact hide_modCmd _ _ rfl

theorem finish_sameBut_quiet (s : State) (h : CmdHdr) {op : Nat} (st r r2 : Nat) (hop : loggedOps.contains op = false) :
    s.sameBut [.cmd] (finish s h op st r r2) := complete_hide_quiet s _ _ st r r2 hop

theorem finish_part {α : Type} (s : State) (h : CmdHdr) (op st r r2 : Nat) (p : State → α) (hp : ∀ x, p (x.hide 1152) = p x) :
    p (finish s h op st r r2) = p s := complete_part s _ _ op st r r2 p hp

@[simp] theorem finish_deck (s : State) (h : CmdHdr) (op st r r2 : Nat) : (finish s h op st r r2).deck = s.deck :=
  finish_part s h op st r r2 State.deck fun _ => rfl

@[simp] theorem finish_regs (s : State) (h : CmdHdr) (op st r r2 : Nat) : (finish s h op st r r2).regs = s.regs :=
  finish_part s h op st r r2 State.regs fun _ => rfl

theorem rd_finish (s : State) (h : CmdHdr) (op st r r2 o : Nat) : rd (finish s h op st r r2) o = rd s o :=
  congrArg (rdR · o) (finish_regs ..)

end Sys2Proof.Machine

/-!
PROOF. DECK_LOAD and DECK_VERIFY (R75, R350).
-/

namespace Sys2Proof.Machine

theorem exec_deckLoad {h : CmdHdr} {slot : Byte} {len : BitVec 32} {src : BitVec 64} {s : State}
    (hs : s.starts h (deckLoadChecks h slot len src s)) :
    exec (.deckLoad h slot len src) s = .next (deckLoadBody h slot len src s) := next_startCmd hs

theorem exec_deckVerify {h : CmdHdr} {slot : Byte} {s : State} (hs : s.starts h (deckVerifyChecks h slot s)) :
    exec (.deckVerify h slot) s = .next (deckVerifyBody h slot s) := next_startCmd hs

theorem deckLoadBody_active (h : CmdHdr) {slot : Byte} (len : BitVec 32) (src : BitVec 64) {s : State}
    (ha : slotActive s slot.toNat = true) : deckLoadBody h slot len src s = refuse s h 0x0201 cBusy 0xFFFF := if_pos ha

theorem deckLoadBody_inactive (h : CmdHdr) {slot : Byte} (len : BitVec 32) (src : BitVec 64) {s : State}
    (ha : slotActive s slot.toNat = false) (hm : hbmAll s = true) :
    deckLoadBody h slot len src s = carry h 0x0201 slot.toNat (.deckLoad h slot len src) (deckLoadGo h slot len src) s := by
  simp [deckLoadBody, ha, hm]

theorem deckVerifyBody_active (h : CmdHdr) {slot : Byte} {s : State} (ha : slotActive s slot.toNat = true) :
    deckVerifyBody h slot s = refuse s h 0x0202 cBusy 0xFFFF := if_pos ha

/-- A job that finds no drover ready runs on, and waits behind the others. -/
theorem carry_waits (h : CmdHdr) (op obj : Nat) (i : Instr) (go : State → State) {s : State} (hd : droverReady s = false) :
    carry h op obj i go s = (keepRunning s h op obj 0).modDrov (fun x => { x with
      waiting := x.waiting ++ [{ ring := h.ring, cid := h.cid, check := false, job := .cmd i, seg := 0 }] }) := by
  simp [carry, hd]

/-- The state in which a drover has moved the image and its slot holds none yet. -/
def deckMoved (s : State) (slot : Byte) (n : Nat) : State :=
  (drove s n).modDeck (fun k => { k with slots := assocDel k.slots slot.toNat })

theorem drove_deck (s : State) (n : Nat) : (drove s n).deck = s.deck :=
  part_of_hide (drove_hide (m := 34) (h_sub := rfl) s n) State.deck fun _ => rfl

theorem drove_cmd (s : State) (n : Nat) : (drove s n).cmd = s.cmd :=
  part_of_hide (drove_hide (m := 34) (h_sub := rfl) s n) State.cmd fun _ => rfl

theorem deckMoved_deck (s : State) (slot : Byte) (n : Nat) :
    (deckMoved s slot n).deck = { s.deck with slots := assocDel s.deck.slots slot.toNat } :=
  congrArg (fun k : DeckSt => { k with slots := assocDel k.slots slot.toNat }) (drove_deck s n)

theorem deckMoved_cmd (s : State) (slot : Byte) (n : Nat) : (deckMoved s slot n).cmd = s.cmd := drove_cmd s n

/-- DECK_LOAD's frame: its slot, the completion with its log entry, and the drover's choice and count. -/
theorem deckLoadGo_sameBut (h : CmdHdr) (slot : Byte) (len : BitVec 32) (src : BitVec 64) (s : State) :
    s.sameBut [.deck, .cmd, .log, .regs, .free] (deckLoadGo h slot len src s) := deckLoadGo_hide (h_sub := rfl) ..

theorem deckLoadGo_regs (h : CmdHdr) (slot : Byte) (len : BitVec 32) (src : BitVec 64) (s : State) :
    (deckLoadGo h slot len src s).regs = (drove s len.toNat).regs := by
  unfold deckLoadGo; dsimp only
  split <;> exact finish_regs ..

section
variable (h : CmdHdr) {slot : Byte} {len : BitVec 32} {src : BitVec 64} {s : State} {d : DeckImage}
  (hd : d = imageOf (segsRead s.mem (bufList s src) len.toNat))
include hd

theorem deckLoadGo_good (hc : deckChecks s d len.toNat = none) :
    deckLoadGo h slot len src s = finish ((deckMoved s slot len.toNat).modDeck (fun k => { k with slots := assocSet k.slots slot.toNat d }))
      h 0x0201 cOk 0 (dkId d) := by
  subst hd; simp only [deckLoadGo, hc, deckMoved]

theorem deckLoadGo_bad {f : Fail} (hc : deckChecks s d len.toNat = some f) :
    deckLoadGo h slot len src s = finish (deckMoved s slot len.toNat) h 0x0201 cDeckInvalid (failWord f) (dkId d) := by
  subst hd; simp only [deckLoadGo, hc, deckMoved]

end

/-- What DECK_LOAD leaves in the slots and answers where every check passes. -/
theorem deckLoadGo_loads (h : CmdHdr) {slot : Byte} {len : BitVec 32} {src : BitVec 64} {s : State} {d : DeckImage}
    (hd : d = imageOf (segsRead s.mem (bufList s src) len.toNat)) (hc : deckChecks s d len.toNat = none) :
    slotDeck (deckLoadGo h slot len src s) slot.toNat = some d ∧
      (deckLoadGo h slot len src s).cmd = s.completing h cOk 0 (dkId d) := by
  rw [deckLoadGo_good h hd hc]
  refine ⟨?_, (finish_cmd ..).trans (completing_of_cmd (drove_cmd ..) ..)⟩
  rw [slotDeck, finish_deck, State.modDeck_deck]
  exact assoc_assocSet_same ..

/-- What it leaves and answers where a check fails. -/
theorem deckLoadGo_empties (h : CmdHdr) {slot : Byte} {len : BitVec 32} {src : BitVec 64} {s : State} {d : DeckImage} {f : Fail}
    (hd : d = imageOf (segsRead s.mem (bufList s src) len.toNat)) (hc : deckChecks s d len.toNat = some f) :
    slotDeck (deckLoadGo h slot len src s) slot.toNat = none ∧
      (deckLoadGo h slot len src s).cmd = s.completing h cDeckInvalid (failWord f) (dkId d) := by
  rw [deckLoadGo_bad h hd hc]
  refine ⟨?_, (finish_cmd ..).trans (completing_of_cmd (drove_cmd ..) ..)⟩
  rw [slotDeck, finish_deck, deckMoved_deck]
  exact assoc_assocDel_same ..

/-- Either way every other slot, and all else of the deck's state, is as before. -/
theorem deckLoadGo_others (h : CmdHdr) (slot : Byte) (len : BitVec 32) (src : BitVec 64) (s : State) :
    (∀ n, n ≠ slot.toNat → slotDeck (deckLoadGo h slot len src s) n = slotDeck s n) ∧
      { (deckLoadGo h slot len src s).deck with slots := s.deck.slots } = s.deck := by
  cases hc : deckChecks s (imageOf (segsRead s.mem (bufList s src) len.toNat)) len.toNat with
  | none =>
    rw [deckLoadGo_good h rfl hc, finish_deck, State.modDeck_deck, deckMoved_deck]
    refine ⟨fun n hn => ?_, rfl⟩
    rw [slotDeck, finish_deck, State.modDeck_deck, deckMoved_deck]
    exact (assoc_assocSet_other _ _ hn).trans (assoc_assocDel_other _ hn)
  | some f =>
    rw [deckLoadGo_bad h rfl hc, finish_deck, deckMoved_deck]
    refine ⟨fun n hn => ?_, rfl⟩
    rw [slotDeck, finish_deck, deckMoved_deck]
    exact assoc_assocDel_other _ hn

theorem deckVerifyBody_empty (h : CmdHdr) {slot : Byte} {s : State} (ha : slotActive s slot.toNat = false)
    (hd : slotDeck s slot.toNat = none) : deckVerifyBody h slot s = refuse s h 0x0202 cState 0 := by
  simp [deckVerifyBody, ha, hd]

/-- The bytes of a loaded image that DECK_VERIFY checks: those of the deck and of its signature block. -/
def deckSize (d : DeckImage) : Nat := d.len + (if d.sig.isSome then 128 else 0)

section
variable (h : CmdHdr) {slot : Byte} {s : State} {d : DeckImage} (ha : slotActive s slot.toNat = false)
  (hd : slotDeck s slot.toNat = some d)
include ha hd

theorem deckVerifyBody_good (hc : deckChecks s d (deckSize d) = none) :
    deckVerifyBody h slot s = finish s h 0x0202 cOk 0 (dkId d) := by
  rw [deckSize] at hc
  simp only [deckVerifyBody, ha, hd, hc, Bool.false_eq_true, if_false]

theorem deckVerifyBody_bad {f : Fail} (hc : deckChecks s d (deckSize d) = some f) :
    deckVerifyBody h slot s = finish s h 0x0202 cDeckInvalid (failWord f) (dkId d) := by
  rw [deckSize] at hc
  simp only [deckVerifyBody, ha, hd, hc, Bool.false_eq_true, if_false]

end

/-- Settles O19, by what `deckLoadGo` and `deckVerifyBody` leave for each outcome of the checks, and by `drove_spec` for the drover. -/
theorem deckLoadAndVerify : Obligations.DeckLoadAndVerify := by
  unfold Obligations.DeckLoadAndVerify
  refine ⟨fun h slot len src s hs ha hm => ⟨fun hd => ?_, fun hd => ?_⟩, fun h slot s hs ha => ?_,
    fun h slot len src s ha => ⟨fun hs => ?_, fun hs => ?_⟩⟩
  · refine ⟨_, (exec_deckLoad hs).trans (congrArg _ ((deckLoadBody_inactive h len src ha hm).trans (carry_waits _ _ _ _ _ hd))),
      rfl, rfl, ?_, ?_⟩
    · simp [State.modDrov, keepRunning]
    · simp [State.sameBut, partMask, Part.bit]
  · obtain ⟨v, hv, hbytes, hregs⟩ := drove_spec s len.toNat hd
    obtain ⟨hother, hdeck⟩ := deckLoadGo_others h slot len src s
    have hrest := deckLoadGo_regs h slot len src s
    obtain ⟨d, himage⟩ : ∃ d, d = imageOf (segsRead s.mem (bufList s src) len.toNat) := ⟨_, rfl⟩
    refine ⟨deckLoadGo h slot len src s, d, v, ?_, himage, ?_, hother, hdeck, hv, ?_, deckLoadGo_sameBut .., ?_⟩
    · exact (exec_deckLoad hs).trans (congrArg _ ((deckLoadBody_inactive h len src ha hm).trans (if_pos hd)))
    · cases hc : deckChecks s d len.toNat with
      | none => exact deckLoadGo_loads h himage hc
      | some f => exact deckLoadGo_empties h himage hc
    · rw [← hbytes, rd64, rd64, rd, rd, hrest]; rfl
    · exact regsBut_trans hregs (regsBut_of_eq hrest)
  · refine ⟨_, exec_deckVerify hs, ?_⟩
    cases hd : slotDeck s slot.toNat with
    | none => rw [deckVerifyBody_empty h ha hd]; exact ⟨finish_sameBut_quiet s h _ _ _ rfl, refuse_cmd ..⟩
    | some d =>
      change _ ∧ match deckChecks s d (deckSize d) with | none => _ | some f => _
      cases hc : deckChecks s d (deckSize d) with
      | none => rw [deckVerifyBody_good h ha hd hc]; exact ⟨finish_sameBut_quiet s h _ _ _ rfl, finish_cmd ..⟩
      | some f => rw [deckVerifyBody_bad h ha hd hc]; exact ⟨finish_sameBut_quiet s h _ _ _ rfl, finish_cmd ..⟩
  · exact ⟨_, (exec_deckLoad hs).trans (congrArg _ (deckLoadBody_active h len src ha)), refuse_cmd .., refuse_hide (h_sub := rfl) ..⟩
  · exact ⟨_, (exec_deckVerify hs).trans (congrArg _ (deckVerifyBody_active h ha)), refuse_cmd .., finish_sameBut_quiet s h _ _ _ rfl⟩

end Sys2Proof.Machine

/-!
PROOF. The schedule guard's count of violations under an active deck whose ENGINE_MAP names a slot that no block has (R68, R72).
-/

namespace Sys2Proof.Machine

/-- A deck whose only section, the ENGINE_MAP, gives logical engine 0 the slot 2311 of its block, which has 17. -/
def strayDeck : DeckImage where
  len := 0x20000
  bytes := [(0x1E, 1), (0x100, 2), (0x101, 0xF), (0x106, 1), (0x10000, 0x07), (0x10001, 0x09)]
  sig := none

/-- The state in which that deck is active, and SPINE's guard has blocked engine 0 twice in this deal period. -/
def strayState : State := { State.reset with deck := { active := some (0, strayDeck), viol := [(4 * 4096, 2)] } }

/-- The state after the third such access. -/
def strayAfter : State := guardViolation 4 3 0 0 1 0 .none strayState strayDeck

theorem exec_guardViolation_stray : exec (.guardViolation 4 3 0 0 1 0 .none) strayState = .next strayAfter := rfl

/-- The map leads to physical engine 2311, whose interrupt leaf (Table 16-9, continued past the last block) has the offset of SPINE's
GUARD_VIOL_CNT. -/
theorem liveEng_stray : liveEng strayState strayDeck 0 = 2311 := by decide +kernel

theorem violCnt_strayAfter : rd strayAfter (Reg.GUARD_VIOL_CNT 4) = 0x1010001 := by decide +kernel

/-- Refutes O24: the deck of `strayState` is not one that DECK_LOAD lets pass, and the statement does not ask it to be. With the third
violation engine 0 is failing, and the interrupt leaf of its slot, out of range, overwrites the count: 0x1010001 in place of 1. -/
theorem not_guardBlocksWhatTheDeckDoesNotSchedule : ¬ Obligations.GuardBlocksWhatTheDeckDoesNotSchedule := by
  unfold Obligations.GuardBlocksWhatTheDeckDoesNotSchedule
  intro h
  have hentry : 0 = slotNow strayState strayDeck 3 4 0 (entryAt 3 0) := by decide +kernel
  obtain ⟨-, hblocked⟩ := h 4 3 0 0 1 0 .none strayState strayDeck 0 4 3 rfl (by decide) (by decide) rfl hentry (by decide)
  obtain ⟨t, ht, -, hcnt, -⟩ := hblocked (.inl (by decide))
  rw [exec_guardViolation_stray] at ht
  cases ht
  have hone : BitVec.ofNat 32 (min ((rd strayState (Reg.GUARD_VIOL_CNT 4)).toNat + 1) 0xFFFFFFFF) = 1 := by decide +kernel
  exact absurd (violCnt_strayAfter.symm.trans (hcnt.trans hone)) (by decide)

end Sys2Proof.Machine

/-!
PROOF. DECK_ACTIVATE (R76): what the stages of an activation leave, and the cases of the command.
-/

namespace Sys2Proof.Machine

/-! The stages of an activation -/

/-- The deck's state with deck `d` of slot `n` active, at deal cycle 0 and deal number 0. -/
def DeckSt.begun (k : DeckSt) (n : Nat) (d : DeckImage) : DeckSt :=
  { k with
    active := some (n, d), cycle := 0, num := [], blocked := [], viol := [], violSec := [], quarUnits := [], spineReload := false
    ctxBad := [], quarBlocks := [], shed := [], blockedItems := [] }

/-- The state in which capture has begun anew under deck `d` of slot `n`, before the registers are set up. -/
def captureBegun (s : State) (n : Nat) (d : DeckImage) : State :=
  resetCapture d ((s.modDeck (·.begun n d)).modIngest (fun i => { i with first := storedTo (s.modDeck (·.begun n d)) }))

/-- The engines, blocks, banks and patterns are as the deck deals them. -/
def dealAll (old : Option DeckImage) (d : DeckImage) (s : State) : State :=
  dealPatterns old d (dealBlocks d (dealState d (dealEngines d (dealBanks old d (dealPower d (resetCounts s))))))

/-- The last stage: TBASE runs, its PLL is locked, the guards have the deck's identity, and the activation is logged. -/
def dealStarted (d : DeckImage) (s : State) : State :=
  logDeck (dealIds d (wrF (startTbase s) Reg.CHIP_CLK_STATUS 1 0 3)) d 0 0

theorem activate_eq (s : State) (n : Nat) (d : DeckImage) :
    activate s n d = dealStarted d (dealAll (actDeck s) d (captureBegun s n d)) := rfl

/-- Setting up the engines, blocks, banks and patterns changes registers, playback and memory only. -/
theorem dealAll_part {α : Type} (old : Option DeckImage) (d : DeckImage) (s : State) (p : State → α)
    (hp : ∀ x, p (x.hide 2099202) = p x) : p (dealAll old d s) = p s :=
  part_of_hide (m := 2099202) (by simp [dealAll]) p hp

theorem dealStarted_part {α : Type} (d : DeckImage) (s : State) (p : State → α) (hp : ∀ x, p (x.hide 1090) = p x) :
    p (dealStarted d s) = p s :=
  part_of_hide (m := 1090) (by simp [dealStarted]) p hp

/-- What neither the set-up nor the start touches is as capture has begun it. -/
theorem activate_part {α : Type} (s : State) (n : Nat) (d : DeckImage) (p : State → α) (hp : ∀ x, p (x.hide 2100290) = p x) :
    p (activate s n d) = p (captureBegun s n d) :=
  part_of_hide (m := 2100290) (by simp [activate_eq, dealStarted, dealAll]) p hp

theorem activate_deck (s : State) (n : Nat) (d : DeckImage) : (activate s n d).deck = s.deck.begun n d :=
  activate_part s n d State.deck fun _ => rfl

theorem activate_cmd (s : State) (n : Nat) (d : DeckImage) : (activate s n d).cmd = s.cmd :=
  part_of_hide (activate_hide (m := 142536034) (h_sub := rfl) s n d) State.cmd fun _ => rfl

/-! Hands and fold groups -/

theorem handOf_activate (s : State) (n : Nat) (d : DeckImage) (k : Nat) : handOf (activate s n d) k = {} :=
  activate_part s n d (fun x => handOf x k) fun _ => rfl

theorem tabGet_foldl_tabPut {α : Type} [DecidableEq α] (x : α) (f : Nat → α) (k : Nat) : ∀ (l : List Nat) (t : Tab α),
    tabGet x (l.foldl (fun t j => tabPut x t j (f j)) t) k = if k ∈ l then f k else tabGet x t k
  | [], t => by simp
  | j :: l, t => by
    rw [List.foldl_cons, tabGet_foldl_tabPut x f k l]
    by_cases hkl : k ∈ l
    · simp [hkl]
    · by_cases hkj : k = j
      · subst hkj; simp
      · simp [hkl, hkj, tabGet_tabPut_other]

/-- A group begins IDLE, with the POST of the deck. -/
theorem grpOf_activate (s : State) (n : Nat) (d : DeckImage) (g : Nat) :
    grpOf (activate s n d) g = if g ∈ dkGroups d then { post := gPost d g } else {} :=
  (activate_part s n d (fun x => grpOf x g) fun _ => rfl).trans
    (tabGet_foldl_tabPut ({} : GroupSt) (fun g => ({ post := gPost d g } : GroupSt)) g (dkGroups d) [])

/-! The timebase -/

theorem dealStarted_tb (d : DeckImage) (s : State) : (dealStarted d s).tb = (startTbase s).tb :=
  part_of_hide (m := 1026) (by simp [dealStarted]) State.tb fun _ => rfl

theorem activate_tb (s : State) (n : Nat) (d : DeckImage) :
    (activate s n d).tb = (startTbase (dealAll (actDeck s) d (captureBegun s n d))).tb := dealStarted_tb ..

theorem captureBegun_tb (s : State) (n : Nat) (d : DeckImage) : (captureBegun s n d).tb = s.tb :=
  part_of_hide (m := 8315136) (by simp [captureBegun]) State.tb fun _ => rfl

theorem activate_now (s : State) (n : Nat) (d : DeckImage) : (activate s n d).tb.now =
    if s.tb.running = true ∨ s.tb.sub = 0 then s.tb.now else (s.tb.now + 40 * 65536) % 2 ^ 80 := by
  have htb : (dealAll (actDeck s) d (captureBegun s n d)).tb = s.tb :=
    (dealAll_part _ d _ State.tb fun _ => rfl).trans (captureBegun_tb s n d)
  rw [activate_tb, startTbase_now, htb]
  rfl

/-! The regions' fields of CHIP_PWR_STATE -/

theorem regionState_foldl_deal (v : Nat → Nat) (hv : ∀ r, v r < 4) {r : Nat} (hr : r < 5) : ∀ (l : List Nat) (s : State),
    regionState (l.foldl (fun s r => setRegion s r (v r)) s) r = if r ∈ l then v r else regionState s r
  | [], s => by simp
  | a :: l, s => by
    rw [List.foldl_cons, regionState_foldl_deal v hv hr l, regionState_setRegion hr (hv a)]
    by_cases hl : r ∈ l
    · simp [hl]
    · by_cases ha : r = a <;> simp [hl, ha]

theorem rd_foldl {α : Type} {o : Nat} (f : State → α → State) (h : ∀ s x, rd (f s x) o = rd s o) :
    ∀ (l : List α) (s : State), rd (l.foldl f s) o = rd s o
  | [], _ => rfl
  | x :: l, s => (rd_foldl f h l (f s x)).trans (h s x)

/-- The stacks' fields lie above the regions'. -/
theorem regionState_wakeStack (s : State) {r : Nat} (n : Nat) (hr : r < 5) :
    regionState (if rdF s Reg.CHIP_PWR_STATE (13 + 2 * n) (12 + 2 * n) = 1 ∧ !s.pwr.held.contains n then
      wrF s Reg.CHIP_PWR_STATE (13 + 2 * n) (12 + 2 * n) 2 else s) r = regionState s r := by
  split
  · exact rdF_wrF_field _ _ _ (by omega)
  · rfl

theorem regionState_dealPower (d : DeckImage) (s : State) {r : Nat} (hr : r < 5) :
    regionState (dealPower d s) r = if dkUses d r then 2 else 0 := by
  have hstacks (s : State) : ∀ l : List Nat, regionState (l.foldl (fun s n =>
      if rdF s Reg.CHIP_PWR_STATE (13 + 2 * n) (12 + 2 * n) = 1 ∧ !s.pwr.held.contains n then
        wrF s Reg.CHIP_PWR_STATE (13 + 2 * n) (12 + 2 * n) 2 else s) s) r = regionState s r := fun l => by
    induction l generalizing s with
    | nil => rfl
    | cons n l ih => exact (ih _).trans (regionState_wakeStack s n hr)
  refine (hstacks _ _).trans ((regionState_foldl_deal (fun r => if dkUses d r then 2 else 0) (fun r => ?_) hr _ _).trans ?_)
  · split <;> decide
  · rw [if_pos (List.mem_range.2 hr)]

/-! The rest of the set-up leaves CHIP_PWR_STATE -/

theorem rd_setBlkState_other (s : State) {o o' : Nat} (v : Nat) (h : o' ≠ o) : rd (setBlkState s o v) o' = rd s o' :=
  rd_wrF_other _ _ _ _ h

theorem rd_setEn_other (s : State) {o o' : Nat} (b : Bool) (h : o' ≠ o) : rd (setEn s o b) o' = rd s o' := rd_wrF_other _ _ _ _ h

theorem rd_enableNow_other (s : State) {o o' : Nat} (h : o' ≠ o) : rd (enableNow s o) o' = rd s o' := by
  unfold enableNow writeEn
  simp only [if_true]
  (repeat' split) <;> simp [rd_setBlkState_other, rd_setEn_other, h]

section
variable {o : Nat} (s : State) (d : DeckImage) (ho : o = Reg.CHIP_PWR_STATE)
include ho

theorem rd_dealEngines : rd (dealEngines d s) o = rd s o := by
  unfold dealEngines; dsimp only
  rw [rd_foldl _ fun s e => ?_, rd_foldl _ fun s e => ?_]
  · exact rd_wrF_other _ _ _ _ (by subst ho; unfold Reg.CHIP_PWR_STATE Reg.CMP_STATE; omega)
  · have hne : o ≠ Reg.DCMP_STATE e := by subst ho; unfold Reg.CHIP_PWR_STATE Reg.DCMP_STATE; omega
    exact (rd_wrF_other _ _ _ _ hne).trans (rd_wrF_other _ _ _ _ hne)

theorem rd_dealState : rd (dealState d s) o = rd s o := by
  refine rd_foldl _ (fun s g => ?_) _ _
  have hne : o ≠ Reg.INGEST_STATE_CFG g := by subst ho; unfold Reg.CHIP_PWR_STATE Reg.INGEST_STATE_CFG; omega
  split <;> exact rd_wrF_other _ _ _ _ hne

theorem rd_dealBlocks : rd (dealBlocks d s) o = rd s o := by
  unfold dealBlocks; dsimp only
  rw [rd_foldl _ fun s q => ?_, rd_foldl _ fun s q => ?_]
  · have hne : o ≠ Reg.INGEST_CTRL q := by subst ho; unfold Reg.CHIP_PWR_STATE Reg.INGEST_CTRL; omega
    split
    · exact rd_enableNow_other s hne
    · exact (rd_setBlkState_other _ _ hne).trans (rd_setEn_other _ _ hne)
  · split
    · exact rd_enableNow_other s (by subst ho; unfold Reg.CHIP_PWR_STATE Reg.EQ_CTRL; omega)
    · rfl

theorem rd_dealBanks (old : Option DeckImage) : rd (dealBanks old d s) o = rd s o := by
  have hlow : o < 0x3000100 := by subst ho; decide
  unfold dealBanks; dsimp only
  rw [rd_setBanks_low hlow, rd_setBanks_low hlow, rd_foldl _ fun s b => ?_]
  exact rd_setBank_other s (by unfold bankField Reg.MEM_BANK_PWR; omega)

theorem rd_dealStarted : rd (dealStarted d s) o = rd s o := by
  have hbase (r : Nat) : 0x1000 ≤ Reg.guardBase r := by unfold Reg.guardBase; split <;> omega
  have hids (s : State) : rd (dealIds d s) o = rd s o := rd_foldl _ (fun s r => by
    have hr := hbase r
    have hne : o ≠ Reg.GUARD_DECKID_LO r ∧ o ≠ Reg.GUARD_DECKID_LO r + 4 := by
      subst ho; unfold Reg.CHIP_PWR_STATE Reg.GUARD_DECKID_LO; omega
    exact (rd_wr_other _ _ hne.2).trans (rd_wr_other _ _ hne.1)) _ _
  have hlog : (dealStarted d s).regs = (dealIds d (wrF (startTbase s) Reg.CHIP_CLK_STATUS 1 0 3)).regs :=
    part_of_hide (logDeck_hide (m := 1024) (h_sub := rfl) ..) State.regs fun _ => rfl
  have hclk : o ≠ Reg.CHIP_CLK_STATUS := by subst ho; decide
  refine (congrArg (rdR · o) hlog).trans ((hids _).trans ((rd_wrF_other _ _ _ _ hclk).trans ?_))
  exact congrArg (rdR · o) (startTbase_regs s)

end

theorem dealPatterns_regs (old : Option DeckImage) (d : DeckImage) (s : State) : (dealPatterns old d s).regs = s.regs :=
  part_of_hide (dealPatterns_hide (m := 2099200) (h_sub := rfl) ..) State.regs fun _ => rfl

/-- The regions that the deck names are ON, the others OFF. -/
theorem regionState_activate (s : State) (n : Nat) (d : DeckImage) {r : Nat} (hr : r < 5) :
    regionState (activate s n d) r = if dkUses d r then 2 else 0 := by
  rw [activate_eq, ← regionState_dealPower d (resetCounts (captureBegun s n d)) hr]
  refine regionState_of_rd ?_ r
  rw [rd_dealStarted _ _ rfl, dealAll, rd, dealPatterns_regs]
  exact (rd_dealBlocks _ d rfl).trans ((rd_dealState _ d rfl).trans ((rd_dealEngines _ d rfl).trans (rd_dealBanks _ d rfl _)))

/-! The command -/

theorem exec_deckActivate {h : CmdHdr} {slot : Byte} {s : State} (hs : s.starts h (deckActivateChecks h slot s))
    (ha : asleep s = false) : exec (.deckActivate h slot) s = .next (deckActivateBody h slot s) :=
  congrArg _ (startCmd_starts _ _ hs (.inr ha))

section
variable (h : CmdHdr) {slot : Byte} {s : State}

theorem deckActivateBody_empty (hd : slotDeck s slot.toNat = none) : deckActivateBody h slot s = refuse s h 0x0203 cState 0 := by
  simp only [deckActivateBody, hd]

theorem deckActivateBody_busy {d : DeckImage} (hd : slotDeck s slot.toNat = some d)
    (hb : captureBusy s = true ∨ playing s = true ∨ recogMeasuring s = true) :
    deckActivateBody h slot s = refuse s h 0x0203 cBusy 0xFFFF := by
  simp only [deckActivateBody, hd]
  exact if_pos (by simpa [or_assoc] using hb)

theorem deckActivateBody_free {d : DeckImage} (hd : slotDeck s slot.toNat = some d) (hc : captureBusy s = false)
    (hp : playing s = false) (hm : recogMeasuring s = false) :
    deckActivateBody h slot s = finish (activate s slot.toNat d) h 0x0203 cOk 0 0 := by
  simp only [deckActivateBody, hd, hc, hp, hm]
  rfl

end

/-- Settles O20, by what `activate` leaves of each part. -/
theorem deckActivateMakesTheDeckActive : Obligations.DeckActivateMakesTheDeckActive := by
  unfold Obligations.DeckActivateMakesTheDeckActive
  intro h slot s hs ha
  have hexec := exec_deckActivate hs ha
  refine ⟨fun hd => ?_, fun d hd => ⟨fun hb => ?_, fun hc hp hm => ?_⟩⟩
  · exact ⟨_, hexec.trans (congrArg _ (deckActivateBody_empty h hd)), refuse_cmd .., refuse_hide (h_sub := rfl) ..⟩
  · exact ⟨_, hexec.trans (congrArg _ (deckActivateBody_busy h hd hb)), refuse_cmd .., refuse_hide (h_sub := rfl) ..⟩
  · have keep {α : Type} := finish_part (α := α) (activate s slot.toNat d) h 0x0203 cOk 0 0
    have hdeck := (keep State.deck fun _ => rfl).trans (activate_deck s slot.toNat d)
    have htb := keep State.tb fun _ => rfl
    have hgrp (g : Nat) := (keep (fun x => grpOf x g) fun _ => rfl).trans (grpOf_activate s slot.toNat d g)
    refine ⟨_, hexec.trans (congrArg _ (deckActivateBody_free h hd hc hp hm)), ?_, ?_, fun r => ?_, ?_, fun r hr => ?_, fun k => ?_,
      fun g => ?_, fun g hg hv => ?_, ?_, finish_cmd_of_cmd (activate_cmd ..) .., ?_, ?_⟩
    · rw [hdeck]; rfl
    · rw [hdeck]; rfl
    · rw [dealNum, hdeck]; rfl
    · rw [hdeck]; rfl
    · exact (keep (fun x => regionState x r) fun _ => rfl).trans (regionState_activate s slot.toNat d hr)
    · exact (keep (fun x => handOf x k) fun _ => rfl).trans (handOf_activate ..)
    · rw [hgrp]; split <;> exact ⟨rfl, rfl⟩
    · rw [hgrp, if_pos (by simp [dkGroups, hg, hv])]
    · rw [htb, activate_tb]; exact startTbase_running _
    · rw [htb]; exact activate_now ..
    · exact (finish_hide (h_sub := rfl) ..).trans (activate_hide (h_sub := rfl) ..)

end Sys2Proof.Machine

/-!
PROOF. The end of a re-deal that waits in vain (R78): a group that waited re-arms, and its last segment, still to be closed, is stored.
-/

namespace Sys2Proof.Machine

/-- A deck with group 0, whose only fold, fold 0, keeps raw pages of one step, context 0 of engine 1. -/
def pageDeck : DeckImage where
  len := 0x30000
  bytes := [(0x1E, 2), (0x100, 0x09), (0x101, 0xF), (0x106, 1), (0x110, 0x0A), (0x111, 0xF), (0x116, 2),
    (0x10000, 1), (0x10020, 1), (0x10400, 1), (0x20000, 1), (0x20004, 0x40), (0x20040, 1)]
  sig := none

/-- The re-deal to slot 3 for which group 0 waits since its hold-off ended at sample 1,024. -/
def vainRedeal : RedealSt := { ring := 0, cid := 7, slot := 3, groups := 1, waiting := [(0, 1024)] }

/-- The state in which that re-deal waits: the segment of group 0 that ended with sample 511 is still to be closed, and the step of its
fold runs from a reset context (R70). -/
def vainState : State := { State.reset with
  deck := { active := some (2, pageDeck), redeal := some vainRedeal, ctxBad := [4] }
  cmd := { running := [{ ring := 0, cid := 7, op := 0x0204, obj := 3, aux := 0 }] }
  folds := { groups := [(0, { st := .holdoff, closed := 1, closing := some (511, 0), lastSeg := some { seg := 0, epoch := 0 } })] } }

/-- The state after the re-deal's timeout. -/
def vainAfter : State :=
  endRun (rearmWaiting pageDeck [(0, 1024)] (nextGroup vainState) (vainState.modDeck (fun k => { k with redeal := none }))) 0 7 cTimeout 0 0

theorem exec_deckRedealTimeout_vain : exec .deckRedealTimeout vainState = .next vainAfter := rfl

/-- The page's end is the step's natural boundary, so its context is no longer lost. -/
theorem ctxBad_vainAfter : vainAfter.deck.ctxBad = [] := by decide +kernel

/-- Refutes O22, in its last part: the timeout leaves the active deck, but not all of the deck's state but the re-deal. The group that
waited re-arms, its last segment is stored first, and with its page the record of the step's lost context is cleared. -/
theorem not_deckRedealWaitsForItsBoundary : ¬ Obligations.DeckRedealWaitsForItsBoundary := by
  unfold Obligations.DeckRedealWaitsForItsBoundary
  intro h
  obtain ⟨t, ht, hdeck, -⟩ := h.2 vainRedeal vainState rfl rfl ⟨_, rfl, rfl, rfl⟩
  rw [exec_deckRedealTimeout_vain] at ht
  cases ht
  have hkept : vainAfter.deck.ctxBad = [4] := congrArg DeckSt.ctxBad hdeck
  exact absurd (ctxBad_vainAfter.symm.trans hkept) (by decide)

end Sys2Proof.Machine

/-!
PROOF. Flags through later events, and what a failing span engine or spare leaves: the registers of its quad, the deck's lists of
engines, and the patrol of its block (R69, R70, R425, R427).
-/

namespace Sys2Proof.Machine

/-! Flags that stay set -/

/-- Every flag set in `s` is set in `t`, but for those of the interrupt tree and of PCIE_STATUS. -/
def State.flagsStay (s t : State) : Prop :=
  ∀ o b, b < 24 → ¬(0x200 ≤ o ∧ o < 0x1000) → o ≠ Reg.PCIE_STATUS → flagSet s o b = true → flagSet t o b = true

theorem State.flagsStay.trans {s t u : State} (h1 : s.flagsStay t) (h2 : t.flagsStay u) : s.flagsStay u :=
  fun o b hb hk hp h => h2 o b hb hk hp (h1 o b hb hk hp h)

theorem flagsStay_of_regs {s t : State} (h : t.regs = s.regs) : s.flagsStay t := fun o b _ _ _ hf => by
  rw [flagSet, h]; exact hf

theorem flagsStay_raise (s : State) (o : Nat) (mask : Word) : s.flagsStay (raise s o mask) := fun o' b hb hk hp h => by
  by_cases ho : o' = o
  · subst ho; rw [flagSet_raise _ _ _ _ hb hk hp, h, Bool.true_or]
  · rw [(regsBut_raise s o mask).flagSet b (by simp [ho, hp]) hk]; exact h

theorem flagsStay_raiseBit (s : State) (o b : Nat) : s.flagsStay (raiseBit s o b) := flagsStay_raise s o _

theorem flagsStay_raiseErr (s : State) (o b cls src cell : Nat) : s.flagsStay (raiseErr s o b cls src cell) := flagsStay_raise s o _

/-- A write to a register leaves the flags of the others. -/
theorem flagsStay_of_regsBut {s t : State} {o : Nat} (h : s.regsBut [o] t) (ho : ∀ b, flagSet s o b = true → flagSet t o b = true) :
    s.flagsStay t := fun o' b _ hk _ hf => by
  by_cases he : o' = o
  · subst he; exact ho b hf
  · rw [h.flagSet b (by simp [he]) hk]; exact hf

/-! Leaves without a status register -/

theorem regsBut_raiseLeaf (s : State) {m : Nat} (i : Nat) (hm : m < 384) : s.regsBut [Reg.PCIE_STATUS] (raiseLeaf s m i) := by
  intro o d ho hk
  have hp : o ≠ Reg.PCIE_STATUS := by simpa using ho
  have hblk : o ≠ Reg.IRQ_BLK_STATUS m := by unfold Reg.IRQ_BLK_STATUS; omega
  have h1 : tabGet d (climb s.regs (sqSetR s.regs (Reg.IRQ_BLK_STATUS m) (BitVec.ofNat 32 (2 ^ i))) [m]) o = tabGet d s.regs o :=
    (climb_other _ _ _ d hk).trans (sqSetR_other d _ hblk)
  rcases withRegs_regs s (climb s.regs (sqSetR s.regs (Reg.IRQ_BLK_STATUS m) (BitVec.ofNat 32 (2 ^ i))) [m]) with e | e
  · exact (congrArg (tabGet d · o) e).trans h1
  · exact (congrArg (tabGet d · o) e).trans ((raiseR_other _ _ _ d hk).trans ((sqSetR_other d _ hp).trans h1))

theorem regsBut_raiseEngine (s : State) {p : Nat} (hp : p < 272) : s.regsBut [Reg.PCIE_STATUS] (raiseEngine s p) :=
  regsBut_raiseLeaf s _ (by omega)

theorem flagsStay_raiseEngine (s : State) {p : Nat} (hp : p < 272) : s.flagsStay (raiseEngine s p) := fun o b _ hk hpcie h => by
  rw [(regsBut_raiseEngine s hp).flagSet b (by simpa using hpcie) hk]; exact h

/-! A patrol record -/

@[simp] theorem patrolOf_setPatrol_same (s : State) (b : Nat) (x : PatrolSt) : patrolOf (setPatrol s b x) b = x :=
  tabGet_tabPut_same ..

theorem raiseBit_patrol (s : State) (o b k : Nat) : patrolOf (raiseBit s o b) k = patrolOf s k :=
  raiseBit_part s o b (fun x => patrolOf x k) fun _ => rfl

/-! A spare that fails -/

/-- Block `b`'s spare is recorded as failed, before its flag and its leaf are set. -/
def spareFailed (s : State) (b : Nat) : State := setPatrol s b { patrolOf s b with slot := none, confirming := false, failed := true }

theorem failSpare_eq (s : State) (b : Nat) :
    failSpare s b = wearAdd (raiseEngine (raiseErr (spareFailed s b) (Reg.QUAD_STATUS (b / 4)) 4 3 0x0480 ((17 * b + 16) % 68)) (17 * b + 16))
      7 (engUnit (17 * b + 16)) 0 := rfl

theorem failSpare_part {α : Type} (s : State) (b : Nat) (p : State → α) (hp : ∀ x, p (x.hide 134219010) = p x) : p (failSpare s b) = p s :=
  part_of_hide (failSpare_hide (m := 134219010) (h_sub := rfl) s b) p hp

theorem patrolOf_failSpare (s : State) (b : Nat) :
    patrolOf (failSpare s b) b = { patrolOf s b with slot := none, confirming := false, failed := true } := by
  have h := part_of_hide (m := 1282) (s := spareFailed s b)
    (t := raiseEngine (raiseErr (spareFailed s b) (Reg.QUAD_STATUS (b / 4)) 4 3 0x0480 ((17 * b + 16) % 68)) (17 * b + 16))
    (by simp) (fun x => patrolOf x b) fun _ => rfl
  exact h.trans (patrolOf_setPatrol_same ..)

theorem wear_failSpare (s : State) (b : Nat) : ((failSpare s b).shep.wear.head?.map WearEntry.kind) = some 7 := rfl

theorem newestLog_failSpare (s : State) (b : Nat) : ((failSpare s b).newestLog.map LogEntry.cls) = some 3 := by
  have h := part_of_hide (m := 134217986) (s := raiseErr (spareFailed s b) (Reg.QUAD_STATUS (b / 4)) 4 3 0x0480 ((17 * b + 16) % 68))
    (t := failSpare s b) (by simp [failSpare_eq]) State.newestLog fun _ => rfl
  rw [h]; rfl

theorem offTree_quadStatus (q : Nat) : ¬(0x200 ≤ Reg.QUAD_STATUS q ∧ Reg.QUAD_STATUS q < 0x1000) := by
  unfold Reg.QUAD_STATUS; omega

theorem quadStatus_ne_pcieStatus (q : Nat) : Reg.QUAD_STATUS q ≠ Reg.PCIE_STATUS := by
  unfold Reg.QUAD_STATUS Reg.PCIE_STATUS; omega

theorem flagSet_raiseBit_quad (s : State) (q : Nat) {b : Nat} (hb : b < 24) : flagSet (raiseBit s (Reg.QUAD_STATUS q) b) (Reg.QUAD_STATUS q) b = true :=
  flagSet_raiseBit _ _ _ hb (offTree_quadStatus q) (quadStatus_ne_pcieStatus q)

theorem State.flagsStay.quad {s t : State} (h : s.flagsStay t) {q b : Nat} (hb : b < 24) (hf : flagSet s (Reg.QUAD_STATUS q) b = true) :
    flagSet t (Reg.QUAD_STATUS q) b = true := h _ b hb (offTree_quadStatus q) (quadStatus_ne_pcieStatus q) hf

theorem flagSet_failSpare (s : State) {b : Nat} (hb : b < 16) : flagSet (failSpare s b) (Reg.QUAD_STATUS (b / 4)) 4 = true :=
  (flagsStay_raiseEngine _ (by omega)).quad (by decide) (flagSet_raiseBit_quad _ _ (by decide))

/-! An engine that fails -/

theorem mem_insertNat (l : List Nat) (k x : Nat) : x ∈ insertNat l k ↔ x = k ∨ x ∈ l := by
  induction l with
  | nil => simp [insertNat]
  | cons j l ih =>
    unfold insertNat
    split
    · simp
    · split
      · next h => simp [h]
      · simp [ih, or_left_comm]

theorem quarantineEngine_deck (s : State) (p : Nat) :
    (quarantineEngine s p).deck = { s.deck with quarEngines := insertNat s.deck.quarEngines p } :=
  part_of_hide (m := 134219010) (s := s.modDeck (fun d => { d with quarEngines := insertNat d.quarEngines p }))
    (by simp [quarantineEngine]) State.deck fun _ => rfl

theorem regsBut_quarantineEngine (s : State) {p : Nat} (hp : p < 272) :
    s.regsBut [Reg.QUAD_STATUS (engQuadP p), Reg.PCIE_STATUS] (quarantineEngine s p) :=
  regsBut_trans (regsBut_raiseErr (s.modDeck _) _ _ _ _ _) (regsBut_mono (by simp) (regsBut_raiseEngine _ hp))

theorem flagsStay_quarantineEngine (s : State) {p : Nat} (hp : p < 272) : s.flagsStay (quarantineEngine s p) :=
  (flagsStay_raiseErr (s.modDeck _) _ _ _ _ _).trans (flagsStay_raiseEngine _ hp)

theorem abandonConfirm_part {α : Type} (s : State) (b p : Nat) (f : State → α) (hf : ∀ x, f (x.hide 134217728) = f x) :
    f (abandonConfirm s b p) = f s := part_of_hide (abandonConfirm_hide (m := 134217728) (h_sub := rfl) s b p) f hf

section
variable {s : State} {p : Nat}

theorem declareFailing_quarantined (h : s.deck.quarEngines.contains p = true) :
    declareFailing s p = logError s (Reg.QUAD_STATUS (engQuadP p)) 3 3 0x0480 (p % 68) := if_pos h

theorem declareFailing_promoted (hq : s.deck.quarEngines.contains p = false) (h : s.deck.promos.any (fun x => x.engine == p) = true) :
    declareFailing s p =
      s.modDeck (fun d => { d with promos := d.promos.map (fun x => if x.engine = p then { x with charge := true } else x) }) := by
  unfold declareFailing; dsimp only
  rw [if_neg (by simp only [hq, Bool.false_eq_true, not_false_eq_true]), if_pos h]

theorem declareFailing_noSpare (hq : s.deck.quarEngines.contains p = false) (h : s.deck.promos.any (fun x => x.engine == p) = false)
    (hslot : p % 17 ≠ 16) (hfree : spareFree s (engBlock p) = false) : declareFailing s p = quarantineEngine s p := by
  unfold declareFailing; dsimp only
  rw [if_neg (by simp only [hq, Bool.false_eq_true, not_false_eq_true]), if_neg (by simp only [h, Bool.false_eq_true, not_false_eq_true]),
    if_neg hslot, if_neg (by simp only [hfree, Bool.false_eq_true, not_false_eq_true])]

/-- The promotion that waits for the failing engine: of a spare in lockstep to the next boundary, of another to the one after it. -/
def promotionOf (s : State) (p : Nat) : Promotion :=
  { engine := p, wait := if (patrolOf s (engBlock p)).slot == some (p % 17) then 1 else 2 }

/-- Where no promotion of a block waits, none of its engines is under promotion. -/
theorem promos_of_spareFree (hfree : spareFree s (engBlock p) = true) : s.deck.promos.any (fun x => x.engine == p) = false := by
  have h : s.deck.promos.any (fun x => engBlock x.engine == engBlock p) = false := by
    simp only [spareFree, Bool.and_eq_true, Bool.not_eq_true'] at hfree
    exact hfree.2
  rw [List.any_eq_false] at h ⊢
  exact fun x hx he => h x hx (by simp only [beq_iff_eq] at he ⊢; rw [he])

/-- The spare is promoted, and its patrol ends. -/
theorem declareFailing_promotes (hq : s.deck.quarEngines.contains p = false) (hslot : p % 17 ≠ 16) (hfree : spareFree s (engBlock p) = true) :
    declareFailing s p =
      (let s1 := (abandonConfirm s (engBlock p) p).modDeck (fun d => { d with promos := d.promos ++ [promotionOf s p] })
       if (patrolOf s (engBlock p)).slot.isSome then raiseBit s1 (Reg.QUAD_STATUS (engBlock p / 4)) 11 else s1) := by
  unfold declareFailing; dsimp only
  rw [if_neg (by simp only [hq, Bool.false_eq_true, not_false_eq_true]),
    if_neg (by simp only [promos_of_spareFree hfree, Bool.false_eq_true, not_false_eq_true]), if_neg hslot, if_pos hfree]
  rfl

/-- The promotion logs nothing. -/
theorem declareFailing_promotes_hide (hq : s.deck.quarEngines.contains p = false) (hslot : p % 17 ≠ 16)
    (hfree : spareFree s (engBlock p) = true) : (declareFailing s p).hide 134226178 = s.hide 134226178 := by
  rw [declareFailing_promotes hq hslot hfree]
  dsimp only
  split <;> simp

theorem declareFailing_promotes_deck (hq : s.deck.quarEngines.contains p = false) (hslot : p % 17 ≠ 16)
    (hfree : spareFree s (engBlock p) = true) :
    (declareFailing s p).deck = { s.deck with promos := s.deck.promos ++ [promotionOf s p] } := by
  rw [declareFailing_promotes hq hslot hfree]
  have hdeck := abandonConfirm_part s (engBlock p) p State.deck fun _ => rfl
  dsimp only
  split
  · rw [raiseBit_deck, State.modDeck_deck, hdeck]
  · rw [State.modDeck_deck, hdeck]

end

theorem declareFailing_cases (s : State) (p : Nat) :
    (declareFailing s p).regs = s.regs ∨
    (∃ u : State, u.regs = s.regs ∧ declareFailing s p = raiseBit u (Reg.QUAD_STATUS (engBlock p / 4)) 11) ∨
    (p % 17 = 16 ∧ declareFailing s p = failSpare s (engBlock p)) ∨ declareFailing s p = quarantineEngine s p := by
  unfold declareFailing; dsimp only
  have habandon := abandonConfirm_part s (engBlock p) p State.regs fun _ => rfl
  split
  · exact .inl rfl
  · split
    · exact .inl rfl
    · split
      · next hspare =>
        split
        · exact .inr (.inr (.inr rfl))
        · exact .inr (.inr (.inl ⟨hspare, rfl⟩))
      · split
        · split
          · exact .inr (.inl ⟨(abandonConfirm s (engBlock p) p).modDeck _, habandon, rfl⟩)
          · exact .inl habandon
        · exact .inr (.inr (.inr rfl))

theorem regsBut_failSpare (s : State) {b : Nat} (hb : b < 16) :
    s.regsBut [Reg.QUAD_STATUS (b / 4), Reg.PCIE_STATUS] (failSpare s b) :=
  regsBut_trans (regsBut_raiseErr (spareFailed s b) _ _ _ _ _) (regsBut_mono (by simp) (regsBut_raiseEngine _ (by omega)))

theorem flagsStay_failSpare (s : State) {b : Nat} (hb : b < 16) : s.flagsStay (failSpare s b) :=
  (flagsStay_raiseErr (spareFailed s b) _ _ _ _ _).trans (flagsStay_raiseEngine _ (by omega))

section
variable (s : State) {p : Nat} (hp : p < 272)
include hp

/-- A failing engine changes no register but the status of its quad. -/
theorem regsBut_declareFailing : s.regsBut [Reg.QUAD_STATUS (engQuadP p), Reg.PCIE_STATUS] (declareFailing s p) := by
  have hquad : engBlock p / 4 = engQuadP p := by unfold engBlock engQuadP; omega
  rcases declareFailing_cases s p with h | ⟨u, hu, h⟩ | ⟨-, h⟩ | h
  · exact regsBut_of_eq h
  · rw [h, hquad]; exact regsBut_trans (regsBut_of_eq hu) (regsBut_raiseBit _ _ _)
  · rw [h, ← hquad]; exact regsBut_failSpare s (by unfold engBlock; omega)
  · rw [h]; exact regsBut_quarantineEngine s hp

theorem flagsStay_declareFailing : s.flagsStay (declareFailing s p) := by
  rcases declareFailing_cases s p with h | ⟨u, hu, h⟩ | ⟨-, h⟩ | h
  · exact flagsStay_of_regs h
  · rw [h]; exact (flagsStay_of_regs hu).trans (flagsStay_raiseBit _ _ _)
  · rw [h]; exact flagsStay_failSpare s (by unfold engBlock; omega)
  · rw [h]; exact flagsStay_quarantineEngine s hp

end

end Sys2Proof.Machine

/-!
PROOF. Patrol: the move to the next slot, a mismatch, and the end of its confirmation (R426, R427).
-/

namespace Sys2Proof.Machine

/-! The next active slot -/

theorem activeSlots_sorted (s : State) (k : Nat) : (activeSlots s k).Pairwise (· < ·) := by
  unfold activeSlots
  split
  · exact List.Pairwise.nil
  · exact List.Pairwise.filter _ List.pairwise_lt_range

section
variable {l : List Nat} {n r : Nat}

theorem head?_le (hl : l.Pairwise (· < ·)) (hn : n ∈ l) : ∃ r, l.head? = some r ∧ r ≤ n := by
  cases l with
  | nil => exact absurd hn List.not_mem_nil
  | cons a l =>
    refine ⟨a, rfl, ?_⟩
    rcases List.mem_cons.1 hn with rfl | hn
    · exact Nat.le_refl _
    · exact Nat.le_of_lt ((List.pairwise_cons.1 hl).1 n hn)

theorem find?_gt_le {m : Nat} (hl : l.Pairwise (· < ·)) (hn : n ∈ l) (hm : m < n) :
    ∃ r, l.find? (fun x => decide (m < x)) = some r ∧ m < r ∧ r ≤ n := by
  induction l with
  | nil => exact absurd hn List.not_mem_nil
  | cons a l ih =>
    obtain ⟨ha, hl⟩ := List.pairwise_cons.1 hl
    by_cases hma : m < a
    · refine ⟨a, List.find?_cons_of_pos (by simpa using hma), hma, ?_⟩
      rcases List.mem_cons.1 hn with rfl | hn
      · exact Nat.le_refl _
      · exact Nat.le_of_lt (ha n hn)
    · rw [List.find?_cons_of_neg (by simpa using hma)]
      exact ih hl ((List.mem_cons.1 hn).resolve_left (fun e => hma (e ▸ hm)))

theorem nextSlot_mem {cur : Option Nat} (h : nextSlot l cur = some r) : r ∈ l := by
  cases cur with
  | none => exact List.mem_of_head? h
  | some m =>
    rw [nextSlot, Option.or_eq_some_iff] at h
    rcases h with h | ⟨-, h⟩
    · exact List.mem_of_find?_eq_some h
    · exact List.mem_of_head? h

theorem nextSlot_nil (cur : Option Nat) : nextSlot [] cur = none := by cases cur <;> rfl

theorem nextSlot_above {m : Nat} (hl : l.Pairwise (· < ·)) (hn : n ∈ l) (hm : m < n) :
    ∃ r, nextSlot l (some m) = some r ∧ m < r ∧ r ≤ n := by
  obtain ⟨r, hr, hlo, hhi⟩ := find?_gt_le hl hn hm
  exact ⟨r, by rw [nextSlot, hr, Option.some_or], hlo, hhi⟩

/-- Past the highest active slot the patrol wraps to the lowest. -/
theorem nextSlot_wraps {cur : Option Nat} (hl : l.Pairwise (· < ·)) (hn : n ∈ l) (hcur : ∀ m r, cur = some m → r ∈ l → r ≤ m) :
    ∃ r, nextSlot l cur = some r ∧ r ≤ n := by
  cases cur with
  | none => exact head?_le hl hn
  | some m =>
    have hnone : l.find? (fun x => decide (m < x)) = none :=
      List.find?_eq_none.2 fun x hx => by simpa using hcur m x rfl hx
    rw [nextSlot, hnone, Option.none_or]
    exact head?_le hl hn

end

/-! PATROL_MOVE -/

section
variable {q b : Fin 4} {s : State} {k : Nat} (hk : k = 4 * q.val + b.val)
include hk

theorem block_lt : k < 16 := by omega

theorem block_quad : k / 4 = q.val := by omega

theorem exec_patrolMove_spent (pass : Bool) (h : spareServes s k = true ∨ (patrolOf s k).failed = true) :
    exec (.patrolMove q b pass) s = .next s := by
  subst hk
  exact if_pos (by simpa using h)

variable (hserves : spareServes s k = false) (hfailed : (patrolOf s k).failed = false)
include hserves hfailed

theorem exec_patrolMove_suspended (pass : Bool) (hsusp : patrolSuspended s k = true) : exec (.patrolMove q b pass) s =
    if (patrolOf s k).slot.isSome then
      .next (raiseBit (setPatrol s k { patrolOf s k with slot := none, confirming := false }) (Reg.QUAD_STATUS q.val) 11)
    else .next s := by
  subst hk
  exact (if_neg (by simp [hserves, hfailed])).trans (if_pos hsusp)

theorem exec_patrolMove_moves (pass : Bool) (hsusp : patrolSuspended s k = false) (hconf : (patrolOf s k).confirming = false) :
    exec (.patrolMove q b pass) s = .next (if pass then setPatrol s k { patrolOf s k with slot := nextSlot (activeSlots s k) (patrolOf s k).slot }
      else failSpare s k) := by
  subst hk
  simp only [exec, execPatrolMove, hserves, hfailed, hsusp, hconf]
  cases pass <;> rfl

theorem exec_patrolMove_confirming (pass : Bool) (hsusp : patrolSuspended s k = false) (hconf : (patrolOf s k).confirming = true) :
    exec (.patrolMove q b pass) s = .next s := by
  subst hk
  simp only [exec, execPatrolMove, hserves, hfailed, hsusp, hconf]
  rfl

end

/-- PATROL_MOVE. -/
theorem patrolMove_spec (q b : Fin 4) (pass : Bool) (s : State) (k : Nat) (x : PatrolSt) (hk : k = 4 * q + b) (hx : x = patrolOf s k) :
    (spareServes s k = true ∨ x.failed = true → exec (.patrolMove q b pass) s = .next s) ∧
    (spareServes s k = false → x.failed = false → patrolSuspended s k = true →
      (x.slot = none → exec (.patrolMove q b pass) s = .next s) ∧
      (x.slot ≠ none → ∃ t, exec (.patrolMove q b pass) s = .next t ∧ patrolOf t k = { x with slot := none, confirming := false } ∧
        flagSet t (Reg.QUAD_STATUS q) 11 = true ∧ s.sameBut [.regs, .pcie, .shep] t)) ∧
    (spareServes s k = false → x.failed = false → patrolSuspended s k = false →
      (x.confirming = true → exec (.patrolMove q b pass) s = .next s) ∧
      (x.confirming = false → pass = false → ∃ t, exec (.patrolMove q b pass) s = .next t ∧ (patrolOf t k).failed = true ∧
        (patrolOf t k).slot = none ∧ flagSet t (Reg.QUAD_STATUS q) 4 = true ∧ (t.newestLog.map LogEntry.cls) = some 3 ∧
        (t.shep.wear.head?.map WearEntry.kind) = some 7 ∧ s.sameBut [.regs, .pcie, .log, .shep] t) ∧
      (x.confirming = false → pass = true → ∃ t, exec (.patrolMove q b pass) s = .next t ∧ s.sameBut [.shep] t ∧
        (∀ n, (patrolOf t k).slot = some n → n ∈ activeSlots s k) ∧ (activeSlots s k = [] → (patrolOf t k).slot = none) ∧
        (∀ m n, x.slot = some m → n ∈ activeSlots s k → m < n → ∃ r, (patrolOf t k).slot = some r ∧ m < r ∧ r ≤ n) ∧
        (∀ n, n ∈ activeSlots s k → (∀ m r, x.slot = some m → r ∈ activeSlots s k → r ≤ m) → ∃ r, (patrolOf t k).slot = some r ∧ r ≤ n))) := by
  subst hx
  refine ⟨exec_patrolMove_spent hk pass, fun hserves hfailed hsusp => ⟨fun hslot => ?_, fun hslot => ?_⟩,
    fun hserves hfailed hsusp => ⟨exec_patrolMove_confirming hk hserves hfailed pass hsusp, fun hconf hpass => ?_, fun hconf hpass => ?_⟩⟩
  · rw [exec_patrolMove_suspended hk hserves hfailed pass hsusp, hslot]; rfl
  · refine ⟨_, (exec_patrolMove_suspended hk hserves hfailed pass hsusp).trans (if_pos (Option.isSome_iff_ne_none.2 hslot)), ?_,
      flagSet_raiseBit_quad _ _ (by decide), (raiseBit_hide (h_sub := rfl) ..).trans (setPatrol_hide (h_sub := rfl) ..)⟩
    rw [raiseBit_patrol, patrolOf_setPatrol_same]
  · subst hpass
    refine ⟨failSpare s k, exec_patrolMove_moves hk hserves hfailed false hsusp hconf, ?_, ?_, ?_, newestLog_failSpare s k,
      wear_failSpare s k, failSpare_hide (h_sub := rfl) ..⟩
    · rw [patrolOf_failSpare]
    · rw [patrolOf_failSpare]
    · rw [← block_quad hk]; exact flagSet_failSpare s (block_lt hk)
  · subst hpass
    refine ⟨_, exec_patrolMove_moves hk hserves hfailed true hsusp hconf, setPatrol_hide (h_sub := rfl) .., ?_⟩
    rw [if_pos rfl, patrolOf_setPatrol_same]
    have hsorted := activeSlots_sorted s k
    refine ⟨fun n hn => nextSlot_mem hn, fun hnil => ?_, fun m n hm hn hlt => ?_, fun n hn hlast => nextSlot_wraps hsorted hn hlast⟩
    · rw [hnil]; exact nextSlot_nil _
    · rw [hm]; exact nextSlot_above hsorted hn hlt

/-! PATROL_MISMATCH -/

/-- The state in which a mismatch in quad `q` has been counted and flagged. -/
def mismatchNoted (s : State) (q : Nat) : State := raiseBit (incCnt s (Reg.QUAD_MISMATCH_CNT q) 1) (Reg.QUAD_STATUS q) 0

/-- A second mismatch has confirmed the first, before the engine is declared failing. -/
def mismatchConfirmed (s : State) (q k p : Nat) : State :=
  raiseEngine (raiseErr (setPatrol (mismatchNoted s q) k { patrolOf s k with confirming := false }) (Reg.QUAD_STATUS q) 1 2 0x0480 (p % 68)) p

section
variable (s : State) (q k : Nat) {p : Nat}

theorem mismatchNoted_hide {m : Nat} (h : 258 &&& m = 258) : (mismatchNoted s q).hide m = s.hide m :=
  (raiseBit_hide (h_sub := h) ..).trans (incCnt_hide (h_sub := sub_trans (T := 258) rfl h) ..)

theorem mismatchConfirmed_hide {m : Nat} (h : 134219010 &&& m = 134219010) : (mismatchConfirmed s q k p).hide m = s.hide m := by
  refine hide_mono h ?_
  simp [mismatchConfirmed, mismatchNoted_hide]

theorem rd_mismatchNoted : rd (mismatchNoted s q) (Reg.QUAD_MISMATCH_CNT q) = satAdd (rd s (Reg.QUAD_MISMATCH_CNT q)) 1 := by
  have hoff : Reg.QUAD_MISMATCH_CNT q ∉ [Reg.QUAD_STATUS q, Reg.PCIE_STATUS] := by
    simp only [List.mem_cons, List.not_mem_nil, or_false]
    unfold Reg.QUAD_MISMATCH_CNT Reg.QUAD_STATUS Reg.PCIE_STATUS; omega
  have htree : ¬(0x200 ≤ Reg.QUAD_MISMATCH_CNT q ∧ Reg.QUAD_MISMATCH_CNT q < 0x1000) := by unfold Reg.QUAD_MISMATCH_CNT; omega
  exact ((regsBut_raiseBit _ _ _).rd hoff htree).trans (rd_wr_same ..)

theorem flagSet_mismatchNoted : flagSet (mismatchNoted s q) (Reg.QUAD_STATUS q) 0 = true := flagSet_raiseBit_quad _ _ (by decide)

variable (hp : p < 272)
include hp

theorem regsBut_mismatchConfirmed : (mismatchNoted s q).regsBut [Reg.QUAD_STATUS q, Reg.PCIE_STATUS] (mismatchConfirmed s q k p) :=
  regsBut_trans (regsBut_raiseErr (setPatrol (mismatchNoted s q) k _) _ _ _ _ _) (regsBut_mono (by simp) (regsBut_raiseEngine _ hp))

theorem flagsStay_mismatchConfirmed : (mismatchNoted s q).flagsStay (mismatchConfirmed s q k p) :=
  (flagsStay_raiseErr (setPatrol (mismatchNoted s q) k _) _ _ _ _ _).trans (flagsStay_raiseEngine _ hp)

theorem flagSet_mismatchConfirmed : flagSet (mismatchConfirmed s q k p) (Reg.QUAD_STATUS q) 1 = true :=
  (flagsStay_raiseEngine _ hp).quad (by decide) (flagSet_raiseBit_quad _ _ (by decide))

end

theorem patrolOf_mismatchConfirmed (s : State) (q k p : Nat) :
    patrolOf (mismatchConfirmed s q k p) k = { patrolOf s k with confirming := false } := by
  have h := part_of_hide (m := 1282) (s := setPatrol (mismatchNoted s q) k { patrolOf s k with confirming := false })
    (t := mismatchConfirmed s q k p) (by simp [mismatchConfirmed]) (fun x => patrolOf x k) fun _ => rfl
  exact h.trans (patrolOf_setPatrol_same ..)

/-- A spare under confirmation is as free as it was before. -/
theorem spareFree_mismatchConfirmed (s : State) (q k p : Nat) : spareFree (mismatchConfirmed s q k p) k = spareFree s k := by
  have hdeck := part_of_hide (mismatchConfirmed_hide (m := 134219010) s q k rfl (p := p)) State.deck fun _ => rfl
  rw [spareFree, spareFree, spareServes, spareServes, hdeck, patrolOf_mismatchConfirmed]

section
variable {q b : Fin 4} {s : State} {k : Nat} (hk : k = 4 * q.val + b.val)
include hk

theorem exec_patrolMismatch_none (hslot : (patrolOf s k).slot = none) : exec (.patrolMismatch q b) s = .next s := by
  subst hk; simp only [exec, execPatrolMismatch, hslot]

theorem exec_patrolMismatch_first {n : Nat} (hslot : (patrolOf s k).slot = some n) (hconf : (patrolOf s k).confirming = false) :
    exec (.patrolMismatch q b) s = .next (setPatrol (mismatchNoted s q) k { patrolOf s k with confirming := true }) := by
  subst hk; simp only [exec, execPatrolMismatch, hslot, hconf]; rfl

theorem exec_patrolMismatch_second {n : Nat} (hslot : (patrolOf s k).slot = some n) (hconf : (patrolOf s k).confirming = true) :
    exec (.patrolMismatch q b) s = .next (declareFailing (mismatchConfirmed s q k (17 * k + n)) (17 * k + n)) := by
  subst hk; simp only [exec, execPatrolMismatch, mismatchConfirmed, mismatchNoted, hslot, hconf, if_true]

end

/-- What a confirmed mismatch does to the deck's lists of engines. -/
theorem declareFailing_confirmed {s : State} {k n : Nat} (q : Nat) (hslot : (patrolOf s k).slot = some n) (hn : n < 16) :
    (s.deck.quarEngines.contains (17 * k + n) = false → s.deck.promos.any (fun p => p.engine == 17 * k + n) = false →
      (spareFree s k = true → ∃ p ∈ (declareFailing (mismatchConfirmed s q k (17 * k + n)) (17 * k + n)).deck.promos,
        p.engine = 17 * k + n ∧ p.wait = 1) ∧
      (spareFree s k = false →
        (declareFailing (mismatchConfirmed s q k (17 * k + n)) (17 * k + n)).deck.quarEngines.contains (17 * k + n) = true)) ∧
    (s.deck.quarEngines.contains (17 * k + n) = true →
      (declareFailing (mismatchConfirmed s q k (17 * k + n)) (17 * k + n)).deck = s.deck) ∧
    (s.deck.quarEngines.contains (17 * k + n) = false → s.deck.promos.any (fun p => p.engine == 17 * k + n) = true →
      (declareFailing (mismatchConfirmed s q k (17 * k + n)) (17 * k + n)).deck =
        { s.deck with promos := s.deck.promos.map (fun p => if p.engine = 17 * k + n then { p with charge := true } else p) }) := by
  have hdeck := part_of_hide (mismatchConfirmed_hide (m := 134219010) s q k rfl (p := 17 * k + n)) State.deck fun _ => rfl
  have hblock : engBlock (17 * k + n) = k := by unfold engBlock; omega
  have hmod : (17 * k + n) % 17 = n := by omega
  have hfree := spareFree_mismatchConfirmed s q k (17 * k + n)
  have hpatrol := patrolOf_mismatchConfirmed s q k (17 * k + n)
  generalize mismatchConfirmed s q k (17 * k + n) = u at hdeck hfree hpatrol ⊢
  generalize 17 * k + n = p at hblock hmod ⊢
  refine ⟨fun hq hpro => ⟨fun hf => ?_, fun hf => ?_⟩, fun hq => ?_, fun hq hpro => ?_⟩
  · rw [declareFailing_promotes_deck (by rw [hdeck]; exact hq) (by omega) (by rw [hblock, hfree]; exact hf)]
    refine ⟨promotionOf u p, List.mem_append_right _ List.mem_cons_self, rfl, ?_⟩
    simp [promotionOf, hblock, hpatrol, hslot, hmod]
  · rw [declareFailing_noSpare (by rw [hdeck]; exact hq) (by rw [hdeck]; exact hpro) (by omega) (by rw [hblock, hfree]; exact hf),
      quarantineEngine_deck]
    exact List.contains_iff_mem.2 ((mem_insertNat _ _ _).2 (.inl rfl))
  · rw [declareFailing_quarantined (by rw [hdeck]; exact hq)]; exact hdeck
  · rw [declareFailing_promoted (by rw [hdeck]; exact hq) (by rw [hdeck]; exact hpro), State.modDeck_deck, hdeck]

/-- PATROL_MISMATCH. -/
theorem patrolMismatch_spec (q b : Fin 4) (s : State) (k : Nat) (x : PatrolSt) (hk : k = 4 * q + b) (hx : x = patrolOf s k) {n : Nat}
    (hslot : x.slot = some n) (hn : n < 16) : ∃ t, exec (.patrolMismatch q b) s = .next t ∧ flagSet t (Reg.QUAD_STATUS q) 0 = true ∧
      rd t (Reg.QUAD_MISMATCH_CNT q) = satAdd (rd s (Reg.QUAD_MISMATCH_CNT q)) 1 ∧
      (x.confirming = false → patrolOf t k = { x with confirming := true } ∧ t.deck = s.deck ∧ t.log = s.log) ∧
      (x.confirming = true → flagSet t (Reg.QUAD_STATUS q) 1 = true ∧ (s.deck.quarEngines.contains (17 * k + n) = false →
        s.deck.promos.any (fun p => p.engine == 17 * k + n) = false →
        (spareFree s k = true → ∃ p ∈ t.deck.promos, p.engine = 17 * k + n ∧ p.wait = 1) ∧
        (spareFree s k = false → t.deck.quarEngines.contains (17 * k + n) = true)) ∧
        (s.deck.quarEngines.contains (17 * k + n) = true → t.deck = s.deck) ∧
        (s.deck.quarEngines.contains (17 * k + n) = false → s.deck.promos.any (fun p => p.engine == 17 * k + n) = true →
          t.deck = { s.deck with promos := s.deck.promos.map (fun p => if p.engine = 17 * k + n then { p with charge := true } else p) })) ∧
      s.sameBut [.regs, .pcie, .log, .deck, .shep] t := by
  subst hx
  have hp : 17 * k + n < 272 := by omega
  cases hconf : (patrolOf s k).confirming with
  | false =>
    refine ⟨_, exec_patrolMismatch_first hk hslot hconf, flagSet_mismatchNoted s q, rd_mismatchNoted s q,
      fun _ => ⟨patrolOf_setPatrol_same .., raiseBit_deck .., raiseBit_log ..⟩, nofun, ?_⟩
    exact (setPatrol_hide (h_sub := rfl) ..).trans (mismatchNoted_hide s q rfl)
  | true =>
    have hquad : engQuadP (17 * k + n) = q.val := by unfold engQuadP; omega
    have hregs := regsBut_trans (regsBut_mismatchConfirmed s q k hp) (hquad ▸ regsBut_declareFailing (mismatchConfirmed s q k (17 * k + n)) hp)
    have hstay := flagsStay_declareFailing (mismatchConfirmed s q k (17 * k + n)) hp
    have hoff : Reg.QUAD_MISMATCH_CNT q ∉ [Reg.QUAD_STATUS q, Reg.PCIE_STATUS] := by
      simp only [List.mem_cons, List.not_mem_nil, or_false]
      unfold Reg.QUAD_MISMATCH_CNT Reg.QUAD_STATUS Reg.PCIE_STATUS; omega
    refine ⟨_, exec_patrolMismatch_second hk hslot hconf, ?_, ?_, nofun, fun _ => ⟨?_, declareFailing_confirmed q hslot hn⟩, ?_⟩
    · exact ((flagsStay_mismatchConfirmed s q k hp).trans hstay).quad (by decide) (flagSet_mismatchNoted s q)
    · exact (hregs.rd hoff (by unfold Reg.QUAD_MISMATCH_CNT; omega)).trans (rd_mismatchNoted s q)
    · exact hstay.quad (by decide) (flagSet_mismatchConfirmed s q k hp)
    · exact (declareFailing_hide (h_sub := rfl) ..).trans (mismatchConfirmed_hide s q k rfl)

/-! PATROL_CONFIRM_END -/

/-- The unconfirmed mismatches of the last 24 h, with the one against slot `n` first. -/
def unconfirmed (s : State) (k n : Nat) : List (Nat × Time) :=
  (17 * k + n, now s) :: (patrolOf s k).unconf.filter (fun e => decide (now s < e.2 + nsT day))

/-- The confirmation has ended without a second mismatch. -/
def confirmEnded (s : State) (k n : Nat) : State :=
  precursor (setPatrol s k { patrolOf s k with confirming := false, unconf := unconfirmed s k n }) (engBlockUnit k)

theorem confirmEnded_hide (s : State) (k n : Nat) {m : Nat} (h : 134217728 &&& m = 134217728) : (confirmEnded s k n).hide m = s.hide m :=
  (precursor_hide (h_sub := h) ..).trans (setPatrol_hide (h_sub := h) ..)

theorem patrolOf_confirmEnded (s : State) (k n : Nat) :
    patrolOf (confirmEnded s k n) k = { patrolOf s k with confirming := false, unconf := unconfirmed s k n } :=
  patrolOf_setPatrol_same ..

section
variable {q b : Fin 4} {s : State} {k : Nat} (hk : k = 4 * q.val + b.val)
include hk

theorem exec_patrolConfirmEnd_none (h : (patrolOf s k).slot = none ∨ (patrolOf s k).confirming = false) :
    exec (.patrolConfirmEnd q b) s = .next s := by
  subst hk
  rcases h with h | h
  · simp only [exec, execPatrolConfirmEnd, h]
  · simp only [exec, execPatrolConfirmEnd, h]
    cases (patrolOf s (4 * q.val + b.val)).slot <;> rfl

theorem exec_patrolConfirmEnd_ends {n : Nat} (hslot : (patrolOf s k).slot = some n) (hconf : (patrolOf s k).confirming = true) :
    exec (.patrolConfirmEnd q b) s = if 3 ≤ (((unconfirmed s k n).map Prod.fst).eraseDups).length then .next (failSpare (confirmEnded s k n) k)
      else .next (confirmEnded s k n) := by
  subst hk
  simp only [exec, execPatrolConfirmEnd, hslot, hconf, confirmEnded, unconfirmed]

end

/-- PATROL_CONFIRM_END of a confirmation that is open. -/
theorem patrolConfirmEnd_spec (q b : Fin 4) (s : State) (k : Nat) (x : PatrolSt) (hk : k = 4 * q + b) (hx : x = patrolOf s k) (n : Nat)
    (hslot : x.slot = some n) (hconf : x.confirming = true) : ∃ t, exec (.patrolConfirmEnd q b) s = .next t ∧
      (patrolOf t k).confirming = false ∧ (17 * k + n, s.tb.now) ∈ (patrolOf t k).unconf ∧ t.deck = s.deck ∧
      (3 ≤ (((17 * k + n) :: (x.unconf.filter (fun e => decide (s.tb.now < e.2 + nsT (24 * 3600 * second)))).map Prod.fst).eraseDups).length →
        (patrolOf t k).failed = true) ∧
      (((17 * k + n) :: (x.unconf.filter (fun e => decide (s.tb.now < e.2 + nsT (24 * 3600 * second)))).map Prod.fst).eraseDups.length < 3 →
        (patrolOf t k).failed = x.failed ∧ t.regs = s.regs) ∧
      s.sameBut [.regs, .pcie, .log, .shep] t := by
  subst hx
  have hlist : ((17 * k + n) :: ((patrolOf s k).unconf.filter (fun e => decide (s.tb.now < e.2 + nsT (24 * 3600 * second)))).map Prod.fst) =
      (unconfirmed s k n).map Prod.fst := rfl
  rw [hlist, exec_patrolConfirmEnd_ends hk hslot hconf]
  split
  · next hmany =>
    refine ⟨failSpare (confirmEnded s k n) k, rfl, ?_, ?_, failSpare_part _ _ State.deck fun _ => rfl, fun _ => ?_,
      fun hfew => absurd hmany (Nat.not_le.2 hfew), (failSpare_hide (h_sub := rfl) ..).trans (confirmEnded_hide s k n rfl)⟩
    · rw [patrolOf_failSpare]
    · rw [patrolOf_failSpare, patrolOf_confirmEnded]; exact List.mem_cons_self
    · rw [patrolOf_failSpare]
  · next hfew =>
    refine ⟨confirmEnded s k n, rfl, ?_, ?_, rfl, fun hmany => absurd hmany hfew, fun _ => ⟨?_, rfl⟩, confirmEnded_hide s k n rfl⟩
    · rw [patrolOf_confirmEnded]
    · rw [patrolOf_confirmEnded]; exact List.mem_cons_self
    · rw [patrolOf_confirmEnded]

end Sys2Proof.Machine

/-!
PROOF. SPARE_STATUS and WEAR_FORECAST (R361, R434): a list of records of one size, delivered into one host buffer, and read there.
-/

namespace Sys2Proof.Machine

/-! Bytes within a write -/

theorem memRead_memWrite_other (bs : List Byte) (m : Mem) (a : Nat) : ∀ (n a' : Nat), (a' + n ≤ a ∨ a + bs.length ≤ a') →
    memRead (memWrite m a bs) a' n = memRead m a' n
  | 0, _, _ => rfl
  | n + 1, a', h => by
    rw [memRead, memRead, memByte_memWrite_other bs m a (by omega), memRead_memWrite_other bs m a n (a' + 1) (by omega)]

theorem memWrite_append (bs cs : List Byte) : ∀ (m : Mem) (a : Nat),
    memWrite m a (bs ++ cs) = memWrite (memWrite m a bs) (a + bs.length) cs := by
  induction bs with
  | nil => exact fun m a => rfl
  | cons b bs ih =>
    intro m a
    rw [List.cons_append, memWrite, memWrite, ih, List.length_cons, Nat.add_assoc, Nat.add_comm 1]

/-- What stands between two parts of a write is read back from its place. -/
theorem memRead_memWrite_mid (pre mid post : List Byte) (m : Mem) (a : Nat) :
    memRead (memWrite m a (pre ++ (mid ++ post))) (a + pre.length) mid.length = mid := by
  rw [memWrite_append, memWrite_append, memRead_memWrite_other _ _ _ _ _ (.inl (Nat.le_refl _)), memRead_memWrite_same]

@[simp] theorem length_leBytes : ∀ (n x : Nat), (leBytes n x).length = n
  | 0, _ => rfl
  | n + 1, x => congrArg (· + 1) (length_leBytes n (x / 256))

/-! A transfer into one host buffer -/

theorem deliver_host {s : State} {dest : BitVec 64} {a len : Nat} {bs : List Byte} (hl : bufList s dest = [(false, a, len)])
    (hlen : bs.length ≤ len) : (deliver s dest bs).1.mem.host = memWrite s.mem.host a bs := by
  simp [deliver, hl, putBuf, settleHbm, segsWrite, List.take_of_length_le hlen]

theorem segsLen_single (a len : Nat) : segsLen [(false, a, len)] = len := by simp [segsLen]

theorem finish_mem (s : State) (h : CmdHdr) (op st r r2 : Nat) : (finish s h op st r r2).mem = s.mem :=
  finish_part s h op st r r2 State.mem fun _ => rfl

/-! The lists of spared blocks -/

theorem sparedBlocks_length (s : State) : (sparedBlocks s).length = 339 := by
  simp only [sparedBlocks, List.length_append, List.length_map, List.length_range, List.length_flatMap, List.length_cons,
    List.length_nil]
  decide

theorem spareEntry_length (b : SparedBlock) : (spareEntry b).length = 16 := by simp [spareEntry, byteSat]

theorem length_flatten_map {α : Type} (f : α → List Byte) {c : Nat} (hf : ∀ x, (f x).length = c) (l : List α) :
    (l.map f).flatten.length = c * l.length := by
  simp [List.length_flatten, List.map_map, Function.comp_def, hf, Nat.mul_comm]

/-- A list that has an element at `i` is what stands before it, the element, and the rest. -/
theorem split_at {α : Type} {l : List α} {i : Nat} {x : α} (h : l[i]? = some x) :
    ∃ l1 l2, l = l1 ++ x :: l2 ∧ l1.length = i := by
  obtain ⟨hi, hx⟩ := List.getElem?_eq_some_iff.1 h
  refine ⟨l.take i, l.drop (i + 1), ?_, by simp; omega⟩
  rw [← hx, List.getElem_cons_drop, List.take_append_drop]

/-! SPARE_STATUS -/

/-- The records that SPARE_STATUS lists, and the bytes of those that fit. -/
def spareList (s : State) : List SparedBlock := sparedBlocks s ++ quarBlocksOf s

def spareBytes (l : List SparedBlock) : List Byte := (l.map spareEntry).flatten

theorem exec_spareStatus {h : CmdHdr} {dest : BitVec 64} {s : State} (hs : s.starts h (spareStatusChecks h dest s)) :
    exec (.spareStatus h dest) s = .next (spareStatusBody h dest s) := next_startCmd hs

theorem spareStatusBody_eq (h : CmdHdr) (dest : BitVec 64) (s : State) {n : Nat}
    (hn : n = min (spareList s).length (segsLen (bufList s dest) / 16)) : spareStatusBody h dest s =
      finish (deliver s dest (spareBytes ((spareList s).take n))).1 h 0x0C01 (if n < (spareList s).length then cBufferFull else cOk) n 0 := by
  subst hn; rfl

/-- The record at `i` of a list of records that is written from `a`. -/
theorem memRead_spareBytes {l : List SparedBlock} {i : Nat} {b : SparedBlock} (hb : l[i]? = some b) (m : Mem) (a : Nat) :
    memRead (memWrite m a (spareBytes l)) (a + 16 * i) 16 = spareEntry b := by
  obtain ⟨l1, l2, rfl, rfl⟩ := split_at hb
  have h := memRead_memWrite_mid (spareBytes l1) (spareEntry b) (spareBytes l2) m a
  rw [spareEntry_length, spareBytes, length_flatten_map _ spareEntry_length] at h
  rw [spareBytes, List.map_append, List.flatten_append, List.map_cons, List.flatten_cons]
  exact h

/-- SPARE_STATUS. -/
theorem spareStatus_spec (h : CmdHdr) (dest : BitVec 64) (s : State) (bl : List SparedBlock) (n : Nat)
    (hs : s.starts h (spareStatusChecks h dest s)) (hbl : bl = sparedBlocks s ++ quarBlocksOf s)
    (hn : n = min bl.length (segsLen (bufList s dest) / 16)) : ∃ t, exec (.spareStatus h dest) s = .next t ∧
      t.cmd = s.completing h (if n < bl.length then cBufferFull else cOk) n 0 ∧ 339 ≤ bl.length ∧
      (∀ a len i b, bufList s dest = [(false, a, len)] → i < n → bl[i]? = some b → memRead t.mem.host (a + 16 * i) 16 =
        leBytes 4 b.unit ++ leBytes 1 (min b.fitted 255) ++ leBytes 1 (min b.serving 255) ++ leBytes 1 (min b.failed 255) ++ List.replicate 9 0) ∧
      s.sameBut [.cmd, .mem] t := by
  subst hbl
  have hcmd := part_of_hide (deliver_hide (m := 2048) (h_sub := rfl) s dest (spareBytes ((spareList s).take n))) State.cmd fun _ => rfl
  refine ⟨_, (exec_spareStatus hs).trans (congrArg _ (spareStatusBody_eq h dest s hn)), finish_cmd_of_cmd hcmd .., ?_,
    fun a len i b hl hi hb => ?_, ?_⟩
  · rw [List.length_append, sparedBlocks_length]; exact Nat.le_add_right ..
  · rw [hl, segsLen_single] at hn
    have htake : ((spareList s).take n)[i]? = some b := (List.getElem?_take_of_lt hi).trans hb
    have hlen : (spareBytes ((spareList s).take n)).length ≤ len := by
      rw [spareBytes, length_flatten_map _ spareEntry_length, List.length_take]; omega
    rw [finish_mem, deliver_host hl hlen]
    exact memRead_spareBytes htake _ a
  · exact (hide_mono rfl (finish_sameBut_quiet _ h _ _ _ rfl)).trans (deliver_hide (h_sub := rfl) ..)

/-! WEAR_FORECAST -/

/-- The 8 bytes of a record that name its block and count its spares. -/
def forecastHead (b : SparedBlock) : List Byte :=
  leBytes 4 b.unit ++ leBytes 1 b.kind ++ leBytes 1 (min b.fitted 255) ++ leBytes 1 (min (b.fitted - b.serving - b.failed) 255) ++ [0]

/-- The 10 bytes that the Shepherd estimates. -/
def forecastGuess (b : SparedBlock) (s : State) : List Byte :=
  leBytes 4 (freeVal 32 s).toNat ++ leBytes 4 (freeVal 32 (useFree s)).toNat ++ leBytes 2 (wearOf (useFree (useFree s)) b)

/-- The 6 bytes of what the block has shown: its precursors and its last promotion. -/
def forecastPast (b : SparedBlock) (s : State) : List Byte := leBytes 2 (precursorCount s b.unit) ++ leBytes 4 (lastDays s b)

theorem forecastRec_bytes (b : SparedBlock) (s : State) :
    (forecastRec b s).2 = forecastHead b ++ (forecastGuess b s ++ (forecastPast b s ++ List.replicate 8 0)) := by
  simp only [forecastRec, forecastHead, forecastGuess, forecastPast, byteSat, List.append_assoc]

theorem forecastHead_length (b : SparedBlock) : (forecastHead b).length = 8 := by simp [forecastHead]

theorem forecastGuess_length (b : SparedBlock) (s : State) : (forecastGuess b s).length = 10 := by simp [forecastGuess]

theorem forecastPast_length (b : SparedBlock) (s : State) : (forecastPast b s).length = 6 := by simp [forecastPast]

theorem forecastRec_length (b : SparedBlock) (s : State) : (forecastRec b s).2.length = 32 := by
  rw [forecastRec_bytes]
  simp [forecastHead_length, forecastGuess_length, forecastPast_length]

theorem forecastRecs_length : ∀ (l : List SparedBlock) (s : State), (forecastRecs l s).2.length = 32 * l.length
  | [], _ => rfl
  | b :: l, s => by
    rw [forecastRecs, List.length_append, forecastRec_length, forecastRecs_length l, List.length_cons]; omega

/-- The record of a block among those of a list: it is made in a state that only the free values tell from the first. -/
theorem forecastRecs_split (b : SparedBlock) (l2 : List SparedBlock) : ∀ (l1 : List SparedBlock) (s : State),
    ∃ (u : State) (pre post : List Byte), u.hide 32 = s.hide 32 ∧ pre.length = 32 * l1.length ∧
      (forecastRecs (l1 ++ b :: l2) s).2 = pre ++ ((forecastRec b u).2 ++ post)
  | [], s => ⟨s, [], (forecastRecs l2 (forecastRec b s).1).2, rfl, rfl, rfl⟩
  | c :: l1, s => by
    obtain ⟨u, pre, post, hu, hpre, hrec⟩ := forecastRecs_split b l2 l1 (forecastRec c s).1
    refine ⟨u, (forecastRec c s).2 ++ pre, post, hu.trans (forecastRec_hide (h_sub := rfl) ..), ?_, ?_⟩
    · rw [List.length_append, forecastRec_length, hpre, List.length_cons]; omega
    · rw [List.cons_append, forecastRecs, hrec, List.append_assoc]

theorem forecastPast_of_hide {s u : State} (h : u.hide 32 = s.hide 32) (b : SparedBlock) : forecastPast b u = forecastPast b s :=
  part_of_hide h (forecastPast b) fun _ => rfl

/-- The two parts of the record at `i` that the Shepherd does not estimate. -/
theorem memRead_forecastRecs {l : List SparedBlock} {i : Nat} {b : SparedBlock} (hb : l[i]? = some b) (s : State) (m : Mem) (a : Nat) :
    memRead (memWrite m a (forecastRecs l s).2) (a + 32 * i) 8 = forecastHead b ∧
      memRead (memWrite m a (forecastRecs l s).2) (a + 32 * i + 18) 6 = forecastPast b s := by
  obtain ⟨l1, l2, rfl, rfl⟩ := split_at hb
  obtain ⟨u, pre, post, hu, hpre, hrec⟩ := forecastRecs_split b l2 l1 s
  rw [hrec, forecastRec_bytes, ← hpre]
  constructor
  · have h := memRead_memWrite_mid pre (forecastHead b) (forecastGuess b u ++ (forecastPast b u ++ List.replicate 8 0) ++ post) m a
    rw [forecastHead_length] at h
    simpa only [List.append_assoc] using h
  · have h := memRead_memWrite_mid (pre ++ (forecastHead b ++ forecastGuess b u)) (forecastPast b u) (List.replicate 8 0 ++ post) m a
    rw [forecastPast_length, List.length_append, List.length_append, forecastHead_length, forecastGuess_length] at h
    rw [← forecastPast_of_hide hu]
    simpa only [List.append_assoc, Nat.add_assoc] using h

theorem exec_wearForecast {h : CmdHdr} {dest : BitVec 64} {s : State} (hs : s.starts h (wearForecastChecks h dest s)) :
    exec (.wearForecast h dest) s = .next (wearForecastBody h dest s) := next_startCmd hs

theorem wearForecastBody_eq (h : CmdHdr) (dest : BitVec 64) (s : State) {n : Nat}
    (hn : n = min 339 (segsLen (bufList s dest) / 32)) : wearForecastBody h dest s =
      finish (deliver (forecastRecs ((sparedBlocks s).take n) s).1 dest (forecastRecs ((sparedBlocks s).take n) s).2).1 h 0x0C03
        (if n < 339 then cBufferFull else cOk) n 0 := by
  subst hn
  simp only [wearForecastBody, sparedBlocks_length]

/-- WEAR_FORECAST. -/
theorem wearForecast_spec (h : CmdHdr) (dest : BitVec 64) (s : State) (n : Nat) (hs : s.starts h (wearForecastChecks h dest s))
    (hn : n = min 339 (segsLen (bufList s dest) / 32)) : ∃ t, exec (.wearForecast h dest) s = .next t ∧
      t.cmd = s.completing h (if n < 339 then cBufferFull else cOk) n 0 ∧
      (∀ a len i b, bufList s dest = [(false, a, len)] → i < n → (sparedBlocks s)[i]? = some b → memRead t.mem.host (a + 32 * i) 8 =
        leBytes 4 b.unit ++ leBytes 1 b.kind ++ leBytes 1 (min b.fitted 255) ++ leBytes 1 (min (b.fitted - b.serving - b.failed) 255) ++ [0] ∧
        memRead t.mem.host (a + 32 * i + 18) 6 = leBytes 2 (precursorCount s b.unit) ++ leBytes 4 (lastDays s b)) ∧
      s.sameBut [.free, .cmd, .mem] t := by
  have hfree := forecastRecs_frame ((sparedBlocks s).take n) s
  have hcmd := part_of_hide ((deliver_hide (m := 2080) (h_sub := rfl) (forecastRecs ((sparedBlocks s).take n) s).1 dest
    (forecastRecs ((sparedBlocks s).take n) s).2).trans (hide_mono rfl hfree)) State.cmd fun _ => rfl
  refine ⟨_, (exec_wearForecast hs).trans (congrArg _ (wearForecastBody_eq h dest s hn)), finish_cmd_of_cmd hcmd ..,
    fun a len i b hl hi hb => ?_, ?_⟩
  · have hl' : bufList (forecastRecs ((sparedBlocks s).take n) s).1 dest = [(false, a, len)] :=
      (part_of_hide hfree (fun x => bufList x dest) fun _ => rfl).trans hl
    have hhost := part_of_hide hfree (fun x => x.mem.host) fun _ => rfl
    rw [hl, segsLen_single] at hn
    have htake : ((sparedBlocks s).take n)[i]? = some b := (List.getElem?_take_of_lt hi).trans hb
    have hlen : (forecastRecs ((sparedBlocks s).take n) s).2.length ≤ len := by
      rw [forecastRecs_length, List.length_take]; omega
    rw [finish_mem, deliver_host hl' hlen]
    exact memRead_forecastRecs htake s _ a
  · exact (hide_mono rfl (finish_sameBut_quiet _ h _ _ _ rfl)).trans ((deliver_hide (h_sub := rfl) ..).trans (hide_mono rfl hfree))

end Sys2Proof.Machine

/-!
PROOF. SPARE_COMMIT (R361): the spare of an engine block (R69), and that of a group of lanes (R304).
-/

namespace Sys2Proof.Machine

theorem exec_spareCommit {h : CmdHdr} {kind : Byte} {unit : BitVec 16} {s : State} (hs : s.starts h (spareCommitChecks h kind unit)) :
    exec (.spareCommit h kind unit) s = .next (spareCommitBody h kind unit.toNat s) := next_startCmd hs

/-- SPARE_COMMIT's units are those of R361. -/
theorem spareCommit_unit_lt {h : CmdHdr} {kind : Byte} {unit : BitVec 16} {s : State} (hs : s.starts h (spareCommitChecks h kind unit)) :
    unit.toNat < if kind = 0 then 272 else if kind = 1 then 68 else 34 :=
  of_decide_eq_true (judge_fields hs.2 (10, decide (unit.toNat < if kind = 0 then 272 else if kind = 1 then 68 else 34))
    (by simp [spareCommitChecks]))

/-! The spare of an engine block -/

section
variable (h : CmdHdr) (s : State) (n : Nat)

/-- The state in which SPARE_COMMIT for engine `n` runs, before the spare is asked for. -/
def commitAsked : State := raiseBit (keepRunning s h 0x0C02 n 0) (Reg.QUAD_STATUS (n / 68)) 13

theorem commitAsked_part {α : Type} (p : State → α) (hp : ∀ x, p (x.hide 386) = p x) : p (commitAsked h s n) = p s :=
  part_of_hide (m := 386) (by simp [commitAsked, keepRunning]) p hp

theorem commitAsked_cmd : (commitAsked h s n).cmd = s.running h 0x0C02 n 0 := raiseBit_cmd ..

theorem flagSet_commitAsked : flagSet (commitAsked h s n) (Reg.QUAD_STATUS (n / 68)) 13 = true := flagSet_raiseBit_quad _ _ (by decide)

variable {s n}

theorem spareCommitBody_noEngine
    (hno : spareFree s (n / 17) = false ∨ n % 17 = 16 ∨ s.deck.quarEngines.contains n = true) :
    spareCommitBody h 0 n s = refuse s h 0x0C02 cNoSpare 0 := by
  refine (if_pos rfl).trans (if_pos ?_)
  rcases hno with hno | hno | hno
  · rw [engBlock, hno]; rfl
  · simp [hno]
  · rw [hno, Bool.or_true]

variable (hfree : spareFree s (n / 17) = true) (hslot : n % 17 ≠ 16) (hquar : s.deck.quarEngines.contains n = false)
include hfree hslot hquar

theorem spareCommitBody_engine : spareCommitBody h 0 n s = declareFailing (commitAsked h s n) n := by
  refine (if_pos rfl).trans (if_neg ?_)
  rw [engBlock, hfree, hquar]
  simp [hslot]

theorem spareCommit_promotes : ∃ p ∈ (declareFailing (commitAsked h s n) n).deck.promos,
    p.engine = n ∧ p.wait = if (patrolOf s (n / 17)).slot = some (n % 17) then 1 else 2 := by
  have hdeck := commitAsked_part h s n State.deck fun _ => rfl
  have hfree' := commitAsked_part h s n (fun x => spareFree x (n / 17)) fun _ => rfl
  have hpatrol := commitAsked_part h s n (fun x => patrolOf x (n / 17)) fun _ => rfl
  rw [declareFailing_promotes_deck (by rw [hdeck]; exact hquar) hslot (hfree'.trans hfree)]
  refine ⟨promotionOf (commitAsked h s n) n, List.mem_append_right _ List.mem_cons_self, rfl, ?_⟩
  simp only [promotionOf, engBlock, hpatrol, beq_iff_eq]

end

/-- SPARE_COMMIT of an engine. -/
theorem spareCommit_engine (h : CmdHdr) {unit : BitVec 16} {s : State} {n : Nat} (hs : s.starts h (spareCommitChecks h 0 unit))
    (hn : n = unit.toNat) :
    (spareFree s (n / 17) = false ∨ n % 17 = 16 ∨ s.deck.quarEngines.contains n = true →
      ∃ t, exec (.spareCommit h 0 unit) s = .next t ∧ t.cmd = s.completing h cNoSpare 0 0 ∧ s.sameBut [.cmd] t) ∧
    (spareFree s (n / 17) = true → n % 17 ≠ 16 → s.deck.quarEngines.contains n = false →
      ∃ t, exec (.spareCommit h 0 unit) s = .next t ∧ t.cmd = s.running h 0x0C02 n 0 ∧ flagSet t (Reg.QUAD_STATUS (n / 68)) 13 = true ∧
        (∃ p ∈ t.deck.promos, p.engine = n ∧ p.wait = (if (patrolOf s (n / 17)).slot = some (n % 17) then 1 else 2)) ∧
        s.sameBut [.regs, .cmd, .pcie, .deck, .shep] t) := by
  subst hn
  have hexec := exec_spareCommit hs
  have hlt : unit.toNat < 272 := spareCommit_unit_lt hs
  refine ⟨fun hno => ⟨_, hexec.trans (congrArg _ (spareCommitBody_noEngine h hno)), refuse_cmd .., finish_sameBut_quiet s h _ _ _ rfl⟩,
    fun hfree hslot hquar => ?_⟩
  have hdeck := commitAsked_part h s unit.toNat State.deck fun _ => rfl
  have hfree' := (commitAsked_part h s unit.toNat (fun x => spareFree x (unit.toNat / 17)) fun _ => rfl).trans hfree
  have hframe := declareFailing_promotes_hide (s := commitAsked h s unit.toNat) (by rw [hdeck]; exact hquar) hslot hfree'
  refine ⟨_, hexec.trans (congrArg _ (spareCommitBody_engine h hfree hslot hquar)), ?_, ?_, spareCommit_promotes h hfree hslot hquar, ?_⟩
  · exact (part_of_hide hframe State.cmd fun _ => rfl).trans (commitAsked_cmd ..)
  · exact (flagsStay_declareFailing _ hlt).quad (by decide) (flagSet_commitAsked ..)
  · exact (hide_mono rfl hframe).trans (hide_mono (T := 386) rfl (by simp [commitAsked, keepRunning]))

/-! The spare of a group of lanes -/

theorem linkOf_modLk_same (s : State) (g : Nat) (f : GroupLink → GroupLink) : linkOf (modLk s g f) g = f (linkOf s g) :=
  tabGet_tabPut_same ..

theorem pumpSb_neg (s : State) (g : Nat) : (linkOf (pumpSb s g) g).neg = (linkOf s g).neg := by
  unfold pumpSb; dsimp only
  split
  · split
    · rfl
    · rw [sbSend, linkOf_modLk_same, linkOf_modLk_same]
  · rfl

theorem pumpSb_hide_link (s : State) (g : Nat) : (pumpSb s g).hide 33554432 = s.hide 33554432 := by
  unfold pumpSb; dsimp only
  (repeat' split) <;> simp

theorem negAsk_neg (s : State) (g j fails : Nat) : (linkOf (negAsk s g j fails) g).neg.map (fun x => x.pos.val) = some (j % 16) := by
  unfold negAsk sbAsk; dsimp only
  rw [pumpSb_neg, linkOf_modLk_same, linkOf_modLk_same]
  rfl

theorem negAsk_hide_link (s : State) (g j fails : Nat) : (negAsk s g j fails).hide 33554464 = s.hide 33554464 := by
  unfold negAsk sbAsk; dsimp only
  rw [hide_mono (T := 33554432) rfl (pumpSb_hide_link _ _)]
  split <;> simp

section
variable (h : CmdHdr) {kind : Byte} {s : State} {n : Nat} {q : Nat × Nat} (hkind : kind ≠ 0)
  (hq : q = if kind = 1 then rxLane n else txLane n)
include hkind hq

theorem spareCommitBody_noLane (hno : q.2 = 16 ∨ (linkOf s q.1).mapped.isSome = true ∨ (linkOf s q.1).excl.getLsbD 16 = true ∨
    (linkOf s q.1).excl.getLsbD q.2 = true) : spareCommitBody h kind n s = refuse s h 0x0C02 cNoSpare 0 := by
  subst hq
  exact (if_neg hkind).trans (if_pos hno)

theorem spareCommitBody_lane (hyes : ¬(q.2 = 16 ∨ (linkOf s q.1).mapped.isSome = true ∨ (linkOf s q.1).excl.getLsbD 16 = true ∨
    (linkOf s q.1).excl.getLsbD q.2 = true)) :
    spareCommitBody h kind n s = wantSpare (keepRunning s h 0x0C02 (32 * q.1 + q.2) 1) q.1 q.2 := by
  subst hq
  exact (if_neg hkind).trans (if_neg hyes)

end

theorem rxLane_le (n : Nat) : (rxLane n).2 ≤ 16 := by unfold rxLane; split <;> dsimp only <;> omega

theorem txLane_le (n : Nat) : (txLane n).2 ≤ 16 := by unfold txLane; split <;> dsimp only <;> omega

/-- The state in which position `j` is the only one of its group that asks for the spare. -/
def wanted (s : State) (g j : Nat) : State := modLk s g (fun l => { l with wantSpare := [Fin.ofNat 16 j] })

/-- A position that asks alone, in a group whose spare is ACTIVE and not mapped, has its negotiation begun. -/
theorem wantSpare_asks {s : State} {g : Nat} (j : Nat) (hneg : (linkOf s g).neg = none) (hwant : (linkOf s g).wantSpare = [])
    (hst : (linkOf s g).st = .active) (hmap : (linkOf s g).mapped = none) (hcaps : (linkOf s g).caps.getLsbD 1 = true)
    (hexcl : (linkOf s g).excl.getLsbD 16 = false) (hlane : (laneOf s g 16).st = .active) :
    wantSpare s g j = negAsk (wanted s g j) g (Fin.ofNat 16 j).val 0 := by
  have hset : modLk s g (fun l => { l with
      wantSpare := if l.wantSpare.contains (Fin.ofNat 16 j) then l.wantSpare else l.wantSpare ++ [Fin.ofNat 16 j] }) = wanted s g j := by
    unfold modLk wanted
    simp only [hwant]
    rfl
  have hlane' : (laneOf (wanted s g j) g 16).st = .active := by
    rw [laneOf, wanted, linkOf_modLk_same]; exact hlane
  unfold wantSpare
  dsimp only
  rw [hset, trySpare]
  simp only [wanted, linkOf_modLk_same, hneg]
  rw [if_pos ⟨hst, by rw [hmap]; rfl, hcaps, by rw [hexcl]; rfl, hlane'⟩]

/-- SPARE_COMMIT of a lane. -/
theorem spareCommit_lane (h : CmdHdr) {kind : Byte} {unit : BitVec 16} {s : State} {n : Nat} (hs : s.starts h (spareCommitChecks h kind unit))
    (hn : n = unit.toNat) (q : Nat × Nat) (l : GroupLink) (hkind : kind ≠ 0) (hq : q = if kind = 1 then rxLane n else txLane n)
    (hl : l = linkOf s q.1) :
    (q.2 = 16 ∨ l.mapped.isSome = true ∨ l.excl.getLsbD 16 = true ∨ l.excl.getLsbD q.2 = true →
      ∃ t, exec (.spareCommit h kind unit) s = .next t ∧ t.cmd = s.completing h cNoSpare 0 0 ∧ s.sameBut [.cmd] t) ∧
    (q.2 ≠ 16 → l.mapped = none → l.excl.getLsbD 16 = false → l.excl.getLsbD q.2 = false → l.neg = none → l.wantSpare = [] → l.st = .active →
      l.caps.getLsbD 1 = true → (laneOf s q.1 16).st = .active → ∃ t, exec (.spareCommit h kind unit) s = .next t ∧
        t.cmd = s.running h 0x0C02 (32 * q.1 + q.2) 1 ∧ (linkOf t q.1).neg.map (fun x => x.pos.val) = some q.2 ∧
        s.sameBut [.free, .cmd, .link] t) := by
  subst hn hl
  have hexec := exec_spareCommit hs
  refine ⟨fun hno => ⟨_, hexec.trans (congrArg _ (spareCommitBody_noLane h hkind hq hno)), refuse_cmd .., finish_sameBut_quiet s h _ _ _ rfl⟩,
    fun hlane hmap hexcl hout hneg hwant hst hcaps hspare => ?_⟩
  have hle : q.2 ≤ 16 := by
    rw [hq]; split
    · exact rxLane_le _
    · exact txLane_le _
  have hyes : ¬(q.2 = 16 ∨ (linkOf s q.1).mapped.isSome = true ∨ (linkOf s q.1).excl.getLsbD 16 = true ∨
      (linkOf s q.1).excl.getLsbD q.2 = true) := by
    simp only [hlane, hmap, hexcl, hout, Option.isSome_none, Bool.false_eq_true, or_self, not_false_eq_true]
  have hasks := wantSpare_asks (s := keepRunning s h 0x0C02 (32 * q.1 + q.2) 1) q.2 hneg hwant hst hmap hcaps hexcl hspare
  have hframe := negAsk_hide_link (wanted (keepRunning s h 0x0C02 (32 * q.1 + q.2) 1) q.1 q.2) q.1 (Fin.ofNat 16 q.2).val 0
  refine ⟨_, hexec.trans (congrArg _ ((spareCommitBody_lane h hkind hq hyes).trans hasks)), ?_, ?_, ?_⟩
  · exact part_of_hide hframe State.cmd fun _ => rfl
  · rw [negAsk_neg, Fin.val_ofNat, Nat.mod_mod, Nat.mod_eq_of_lt (by omega)]
  · exact (hide_mono rfl hframe).trans (hide_mono (T := 33554560) rfl (by simp [wanted, keepRunning]))

/-- SPARE_COMMIT. -/
theorem spareCommit_spec (h : CmdHdr) (kind : Byte) (unit : BitVec 16) (s : State) (n : Nat) (hs : s.starts h (spareCommitChecks h kind unit))
    (hn : n = unit.toNat) :
    (kind = 0 →
      (spareFree s (n / 17) = false ∨ n % 17 = 16 ∨ s.deck.quarEngines.contains n = true →
        ∃ t, exec (.spareCommit h kind unit) s = .next t ∧ t.cmd = s.completing h cNoSpare 0 0 ∧ s.sameBut [.cmd] t) ∧
      (spareFree s (n / 17) = true → n % 17 ≠ 16 → s.deck.quarEngines.contains n = false →
        ∃ t, exec (.spareCommit h kind unit) s = .next t ∧ t.cmd = s.running h 0x0C02 n 0 ∧ flagSet t (Reg.QUAD_STATUS (n / 68)) 13 = true ∧
          (∃ p ∈ t.deck.promos, p.engine = n ∧ p.wait = (if (patrolOf s (n / 17)).slot = some (n % 17) then 1 else 2)) ∧
          s.sameBut [.regs, .cmd, .pcie, .deck, .shep] t)) ∧
    (∀ q l, kind ≠ 0 → q = (if kind = 1 then rxLane n else txLane n) → l = linkOf s q.1 →
      (q.2 = 16 ∨ l.mapped.isSome = true ∨ l.excl.getLsbD 16 = true ∨ l.excl.getLsbD q.2 = true →
        ∃ t, exec (.spareCommit h kind unit) s = .next t ∧ t.cmd = s.completing h cNoSpare 0 0 ∧ s.sameBut [.cmd] t) ∧
      (q.2 ≠ 16 → l.mapped = none → l.excl.getLsbD 16 = false → l.excl.getLsbD q.2 = false → l.neg = none → l.wantSpare = [] → l.st = .active →
        l.caps.getLsbD 1 = true → (laneOf s q.1 16).st = .active → ∃ t, exec (.spareCommit h kind unit) s = .next t ∧
          t.cmd = s.running h 0x0C02 (32 * q.1 + q.2) 1 ∧ (linkOf t q.1).neg.map (fun x => x.pos.val) = some q.2 ∧
          s.sameBut [.free, .cmd, .link] t)) :=
  ⟨fun h0 => by subst h0; exact spareCommit_engine h hs hn, fun q l hkind hq hl => spareCommit_lane h hs hn q l hkind hq hl⟩

end Sys2Proof.Machine

/-!
PROOF. An ageing measurement (R406, R433, R434): the stored delay, the flags of its steps, TARGET, and the forecast that is made anew.
-/

namespace Sys2Proof.Machine

/-! TARGET -/

/-- TARGET has risen to `v`, and the wear log has the step. -/
def targetRaised (s : State) (v : Nat) : State :=
  wearAdd (raiseErr (wrF s Reg.CHIP_AVS 9 0 v) Reg.CHIP_PWR_STATUS 7 0 0x0480 0) 5 (unitCode Reg.CHIP_AVS 0) v

theorem raiseTarget_succ (s : State) (n : Nat) : raiseTarget s (n + 1) =
    if rdF s Reg.CHIP_AVS 9 0 < 800 then raiseTarget (targetRaised s (min (rdF s Reg.CHIP_AVS 9 0 + 5) 800)) n else s := rfl

theorem regsBut_targetRaised (s : State) (v : Nat) :
    s.regsBut [Reg.CHIP_AVS, Reg.CHIP_PWR_STATUS, Reg.PCIE_STATUS] (targetRaised s v) :=
  regsBut_trans (regsBut_mono (by simp) (regsBut_wrF s Reg.CHIP_AVS 9 0 v))
    (regsBut_mono (by simp) (regsBut_raiseErr (wrF s Reg.CHIP_AVS 9 0 v) Reg.CHIP_PWR_STATUS 7 0 0x0480 0))

theorem rdF_targetRaised (s : State) {v : Nat} (hv : v < 1024) : rdF (targetRaised s v) Reg.CHIP_AVS 9 0 = v :=
  ((regsBut_raiseErr (wrF s Reg.CHIP_AVS 9 0 v) Reg.CHIP_PWR_STATUS 7 0 0x0480 0).rdF 9 0 (by decide) (by decide)).trans
    ((rdF_wrF_same s Reg.CHIP_AVS v (by decide)).trans (Nat.mod_eq_of_lt hv))

theorem targetRaised_forecast (s : State) (v : Nat) : (targetRaised s v).shep.forecast = s.shep.forecast := by
  change (raiseErr (wrF s Reg.CHIP_AVS 9 0 v) Reg.CHIP_PWR_STATUS 7 0 0x0480 0).shep.forecast = s.shep.forecast
  rw [raiseErr_shep]
  rfl

theorem regsBut_raiseTarget : ∀ (n : Nat) (s : State),
    s.regsBut [Reg.CHIP_AVS, Reg.CHIP_PWR_STATUS, Reg.PCIE_STATUS] (raiseTarget s n)
  | 0, s => regsBut_refl _ s
  | n + 1, s => by
    rw [raiseTarget_succ]
    split
    · exact regsBut_trans (regsBut_targetRaised s _) (regsBut_raiseTarget n _)
    · exact regsBut_refl _ s

theorem raiseTarget_forecast : ∀ (n : Nat) (s : State), (raiseTarget s n).shep.forecast = s.shep.forecast
  | 0, _ => rfl
  | n + 1, s => by
    rw [raiseTarget_succ]
    split
    · exact (raiseTarget_forecast n _).trans (targetRaised_forecast s _)
    · rfl

/-- Each step is 5 mV, and none passes 800 mV. -/
theorem rdF_raiseTarget : ∀ (n : Nat) (s : State), rdF (raiseTarget s n) Reg.CHIP_AVS 9 0 =
    if rdF s Reg.CHIP_AVS 9 0 < 800 then min (rdF s Reg.CHIP_AVS 9 0 + 5 * n) 800 else rdF s Reg.CHIP_AVS 9 0
  | 0, s => by
    rw [raiseTarget]
    split <;> omega
  | n + 1, s => by
    rw [raiseTarget_succ]
    split
    · rw [rdF_raiseTarget n, rdF_targetRaised s (by omega)]
      split <;> omega
    · rfl

/-! The forecast made anew -/

section
variable (s : State) (unit o b : Nat) (out : Bool)

/-- Whether the forecast of a block falls within HORIZON. -/
def forecastNear : Bool :=
  10 * rdF s Reg.SHEP_CTRL 31 24 != 0 &&
    (out || decide (min (freeVal 32 s).toNat (freeVal 32 (useFree s)).toNat ≤ 10 * rdF s Reg.SHEP_CTRL 31 24))

/-- The state in which the list of the blocks within HORIZON is made anew. -/
def forecastListed : State := (useFree (useFree s)).modShep (fun h => { h with
  forecast := if forecastNear s out then insertNat h.forecast unit else h.forecast.filter (· != unit) })

theorem forecastBlock_eq : forecastBlock s unit o b out =
    if forecastNear s out && !s.shep.forecast.contains unit then raiseBit (forecastListed s unit out) o b else forecastListed s unit out := rfl

theorem regsBut_forecastBlock : s.regsBut [o, Reg.PCIE_STATUS] (forecastBlock s unit o b out) := by
  rw [forecastBlock_eq]
  split
  · exact regsBut_raiseBit (forecastListed s unit out) o b
  · exact regsBut_refl _ s

theorem flagsStay_forecastBlock : s.flagsStay (forecastBlock s unit o b out) := by
  rw [forecastBlock_eq]
  split
  · exact flagsStay_raiseBit (forecastListed s unit out) o b
  · exact flagsStay_of_regs rfl

end

section
variable (q : Nat)

/-- The forecasts of some engine blocks of quad `q`. -/
def forecastBlocks (l : List Nat) (s : State) : State :=
  l.foldl (fun s b => forecastBlock s (engBlockUnit (4 * q + b)) (Reg.QUAD_STATUS q) 9 (quadWorn s q)) s

theorem forecastStep_eq (s : State) : forecastStep s q =
    forecastBlock (forecastBlocks q (List.range 4) s) (unitCode (Reg.HBM_STATUS q) q) (Reg.HBM_STATUS q) 11 false := rfl

theorem regsBut_forecastBlocks : ∀ (l : List Nat) (s : State), s.regsBut [Reg.QUAD_STATUS q, Reg.PCIE_STATUS] (forecastBlocks q l s)
  | [], s => regsBut_refl _ s
  | _ :: l, _ => regsBut_trans (regsBut_forecastBlock _ _ _ _ _) (regsBut_forecastBlocks l _)

theorem flagsStay_forecastBlocks : ∀ (l : List Nat) (s : State), s.flagsStay (forecastBlocks q l s)
  | [], _ => flagsStay_of_regs rfl
  | _ :: l, _ => (flagsStay_forecastBlock _ _ _ _ _).trans (flagsStay_forecastBlocks l _)

theorem regsBut_forecastStep (s : State) : s.regsBut [Reg.QUAD_STATUS q, Reg.HBM_STATUS q, Reg.PCIE_STATUS] (forecastStep s q) := by
  rw [forecastStep_eq]
  exact regsBut_trans (regsBut_mono (by simp) (regsBut_forecastBlocks q (List.range 4) s))
    (regsBut_mono (by simp) (regsBut_forecastBlock (forecastBlocks q (List.range 4) s) _ (Reg.HBM_STATUS q) _ _))

theorem flagsStay_forecastStep (s : State) : s.flagsStay (forecastStep s q) := by
  rw [forecastStep_eq]
  exact (flagsStay_forecastBlocks q (List.range 4) s).trans (flagsStay_forecastBlock _ _ _ _ _)

/-- A quad that is worn out has its forecast flag, where HORIZON is set and its first block is not forecast yet. -/
theorem flagSet_forecastStep {s : State} (hworn : quadWorn s q = true) (hlim : rdF s Reg.SHEP_CTRL 31 24 ≠ 0)
    (hnew : s.shep.forecast.contains (engBlockUnit (4 * q)) = false) : flagSet (forecastStep s q) (Reg.QUAD_STATUS q) 9 = true := by
  have hnear : forecastNear s true = true := by simp [forecastNear, hlim]
  have hfirst : flagSet (forecastBlock s (engBlockUnit (4 * q + 0)) (Reg.QUAD_STATUS q) 9 true) (Reg.QUAD_STATUS q) 9 = true := by
    rw [forecastBlock_eq, hnear, Nat.add_zero, hnew]
    exact flagSet_raiseBit_quad _ _ (by decide)
  have hsplit : forecastBlocks q (List.range 4) s = forecastBlocks q [1, 2, 3]
      (forecastBlock s (engBlockUnit (4 * q + 0)) (Reg.QUAD_STATUS q) 9 (quadWorn s q)) := rfl
  rw [forecastStep_eq, hsplit, hworn]
  exact ((flagsStay_forecastBlocks q [1, 2, 3] _).trans (flagsStay_forecastBlock _ _ _ _ _)).quad (by decide) hfirst

end

/-! AGEING_MEASURE -/

section
variable (s : State) (q slow ro : Nat)

/-- The state in which the measurement of quad `q` is stored. -/
def ageStored : State := wrF (wrF s (Reg.QUAD_AGE q) 15 0 slow) (Reg.QUAD_AGE q) 22 16 ro

/-- RO_FAIL, where fewer oscillators answer than before. -/
def ageOscFlag : State :=
  if ro < rdF s (Reg.QUAD_AGE q) 22 16 then raiseBit (ageStored s q slow ro) (Reg.QUAD_STATUS q) 10 else ageStored s q slow ro

/-- AGE_STEP, where the delay has come to another step of 0.5%. -/
def ageStepFlag : State :=
  if rdF s (Reg.QUAD_AGE q) 15 0 / 50 ≠ slow / 50 then raiseBit (ageOscFlag s q slow ro) (Reg.QUAD_STATUS q) 7 else ageOscFlag s q slow ro

/-- AVS_REQ and TARGET, where it has come to a higher step of 1%. -/
def ageAvs : State :=
  if rdF s (Reg.QUAD_AGE q) 15 0 / 100 < slow / 100 then
    raiseTarget (raiseBit (ageStepFlag s q slow ro) (Reg.QUAD_STATUS q) 8) (slow / 100 - rdF s (Reg.QUAD_AGE q) 15 0 / 100)
  else ageStepFlag s q slow ro

/-- The registers of an ageing measurement of quad `q` before its forecast. -/
def ageRegs : List Nat := [Reg.QUAD_STATUS q, Reg.CHIP_AVS, Reg.CHIP_PWR_STATUS, Reg.PCIE_STATUS]

theorem regsBut_ageStored : s.regsBut [Reg.QUAD_AGE q] (ageStored s q slow ro) :=
  regsBut_trans (regsBut_wrF s (Reg.QUAD_AGE q) 15 0 slow) (regsBut_wrF _ (Reg.QUAD_AGE q) 22 16 ro)

theorem regsBut_ageStepFlag : (ageStored s q slow ro).regsBut [Reg.QUAD_STATUS q, Reg.PCIE_STATUS] (ageStepFlag s q slow ro) := by
  have hosc : (ageStored s q slow ro).regsBut [Reg.QUAD_STATUS q, Reg.PCIE_STATUS] (ageOscFlag s q slow ro) := by
    unfold ageOscFlag
    split
    · exact regsBut_raiseBit _ _ _
    · exact regsBut_refl _ _
  unfold ageStepFlag
  split
  · exact regsBut_trans hosc (regsBut_raiseBit _ _ _)
  · exact hosc

theorem flagsStay_ageStepFlag : (ageOscFlag s q slow ro).flagsStay (ageStepFlag s q slow ro) := by
  unfold ageStepFlag
  split
  · exact flagsStay_raiseBit _ _ _
  · exact flagsStay_of_regs rfl

theorem regsBut_ageAvs : (ageStepFlag s q slow ro).regsBut (ageRegs q) (ageAvs s q slow ro) := by
  unfold ageAvs
  split
  · exact regsBut_trans (regsBut_mono (by simp [ageRegs]) (regsBut_raiseBit _ _ _)) (regsBut_mono (by simp [ageRegs]) (regsBut_raiseTarget _ _))
  · exact regsBut_refl _ _

theorem flagSet_raiseTarget_quad (u : State) (n b : Nat) : flagSet (raiseTarget u n) (Reg.QUAD_STATUS q) b = flagSet u (Reg.QUAD_STATUS q) b := by
  have hoff : Reg.QUAD_STATUS q ∉ [Reg.CHIP_AVS, Reg.CHIP_PWR_STATUS, Reg.PCIE_STATUS] := by
    simp only [List.mem_cons, List.not_mem_nil, or_false, not_or]
    unfold Reg.QUAD_STATUS Reg.CHIP_AVS Reg.CHIP_PWR_STATUS Reg.PCIE_STATUS; omega
  exact (regsBut_raiseTarget n u).flagSet b hoff (offTree_quadStatus q)

/-- The quad's flags stay through the steps of TARGET. -/
theorem flagSet_ageAvs {b : Nat} (hb : b < 24) (hf : flagSet (ageStepFlag s q slow ro) (Reg.QUAD_STATUS q) b = true) :
    flagSet (ageAvs s q slow ro) (Reg.QUAD_STATUS q) b = true := by
  unfold ageAvs
  split
  · rw [flagSet_raiseTarget_quad]; exact (flagsStay_raiseBit _ _ _).quad hb hf
  · exact hf

theorem ageAvs_forecast : (ageAvs s q slow ro).shep.forecast = s.shep.forecast := by
  have hosc : (ageOscFlag s q slow ro).shep = s.shep := by
    unfold ageOscFlag
    split
    · exact raiseBit_shep ..
    · rfl
  have hstep : (ageStepFlag s q slow ro).shep = s.shep := by
    unfold ageStepFlag
    split
    · exact (raiseBit_shep ..).trans hosc
    · exact hosc
  unfold ageAvs
  split
  · rw [raiseTarget_forecast, raiseBit_shep, hstep]
  · rw [hstep]

theorem ageStepFlag_hide {m : Nat} (h : 258 &&& m = 258) : (ageStepFlag s q slow ro).hide m = s.hide m := by
  have hm : 2 &&& m = 2 := sub_trans (T := 258) rfl h
  have hosc : (ageOscFlag s q slow ro).hide m = s.hide m := by
    have hst : (ageStored s q slow ro).hide m = s.hide m := (wrF_hide (h_sub := hm) ..).trans (wrF_hide (h_sub := hm) ..)
    exact hide_if ((raiseBit_hide (h_sub := h) ..).trans hst) hst
  exact hide_if ((raiseBit_hide (h_sub := h) ..).trans hosc) hosc

theorem ageAvs_hide {m : Nat} (h : 134219010 &&& m = 134219010) : (ageAvs s q slow ro).hide m = s.hide m := by
  have hm : 258 &&& m = 258 := sub_trans (T := 134219010) rfl h
  have hstep := ageStepFlag_hide s q slow ro hm
  exact hide_if ((raiseTarget_hide (h_sub := h) ..).trans ((raiseBit_hide (h_sub := hm) ..).trans hstep)) hstep

/-- The delay and the oscillators, as stored, through the flags, TARGET and the forecast. -/
theorem rd_quadAge : rd (forecastStep (ageAvs s q slow ro) q) (Reg.QUAD_AGE q) = rd (ageAvs s q slow ro) (Reg.QUAD_AGE q) ∧
    rd (ageAvs s q slow ro) (Reg.QUAD_AGE q) = rd (ageStored s q slow ro) (Reg.QUAD_AGE q) := by
  have hoff : Reg.QUAD_AGE q ∉ Reg.HBM_STATUS q :: ageRegs q := by
    simp only [ageRegs, List.mem_cons, List.not_mem_nil, or_false, not_or]
    unfold Reg.QUAD_AGE Reg.HBM_STATUS Reg.QUAD_STATUS Reg.CHIP_AVS Reg.CHIP_PWR_STATUS Reg.PCIE_STATUS; omega
  have htree : ¬(0x200 ≤ Reg.QUAD_AGE q ∧ Reg.QUAD_AGE q < 0x1000) := by unfold Reg.QUAD_AGE; omega
  refine ⟨(regsBut_mono ?_ (regsBut_forecastStep q (ageAvs s q slow ro))).rd hoff htree,
    (regsBut_trans (regsBut_mono ?_ (regsBut_ageStepFlag s q slow ro)) (regsBut_mono ?_ (regsBut_ageAvs s q slow ro))).rd hoff htree⟩
  · simp [ageRegs]
  · simp [ageRegs]
  · simp [ageRegs]

theorem rdF_ageStored (hslow : slow < 65536) (hro : ro < 128) : rdF (ageStored s q slow ro) (Reg.QUAD_AGE q) 15 0 = slow ∧
    rdF (ageStored s q slow ro) (Reg.QUAD_AGE q) 22 16 = ro := by
  constructor
  · rw [ageStored, rdF_wrF_field _ _ _ (by omega), rdF_wrF_same _ _ _ (by decide)]
    exact Nat.mod_eq_of_lt hslow
  · rw [ageStored, rdF_wrF_same _ _ _ (by decide)]
    exact Nat.mod_eq_of_lt hro

/-- A register that no quad's measurement names is as it was when AVS_REQ is judged. -/
theorem rdF_ageStepFlag (hi lo : Nat) {o : Nat} (ho : o < 0x200 ∨ o = Reg.SHEP_CTRL) :
    rdF (ageStepFlag s q slow ro) o hi lo = rdF s o hi lo := by
  have hoff : o ∉ [Reg.QUAD_AGE q, Reg.QUAD_STATUS q, Reg.PCIE_STATUS] := by
    simp only [List.mem_cons, List.not_mem_nil, or_false, not_or]
    unfold Reg.SHEP_CTRL at ho
    unfold Reg.QUAD_AGE Reg.QUAD_STATUS Reg.PCIE_STATUS; omega
  have htree : ¬(0x200 ≤ o ∧ o < 0x1000) := by unfold Reg.SHEP_CTRL at ho; omega
  exact (regsBut_trans (regsBut_mono (by simp) (regsBut_ageStored s q slow ro))
    (regsBut_mono (by simp) (regsBut_ageStepFlag s q slow ro))).rdF hi lo hoff htree

end

/-- AGEING_MEASURE. -/
theorem ageingMeasure_spec (q : Fin 4) (slow : BitVec 16) (ro : Fin 65) (s : State) (old target : Nat)
    (hold : old = rdF s (Reg.QUAD_AGE q) 15 0) (htarget : target = rdF s Reg.CHIP_AVS 9 0) :
    ∃ t, exec (.ageingMeasure q slow ro) s = .next t ∧ rdF t (Reg.QUAD_AGE q) 15 0 = slow.toNat ∧ rdF t (Reg.QUAD_AGE q) 22 16 = ro ∧
      (ro.val < rdF s (Reg.QUAD_AGE q) 22 16 → flagSet t (Reg.QUAD_STATUS q) 10 = true) ∧
      (old / 50 ≠ slow.toNat / 50 → flagSet t (Reg.QUAD_STATUS q) 7 = true) ∧
      (old / 100 < slow.toNat / 100 → flagSet t (Reg.QUAD_STATUS q) 8 = true ∧
        rdF t Reg.CHIP_AVS 9 0 = (if target < 800 then min (target + 5 * (slow.toNat / 100 - old / 100)) 800 else target)) ∧
      (slow.toNat / 100 ≤ old / 100 → rdF t Reg.CHIP_AVS 9 0 = target ∧ t.log = s.log) ∧
      (400 ≤ slow.toNat → rdF s Reg.SHEP_CTRL 31 24 ≠ 0 → (∀ b < 4, s.shep.forecast.contains (engBlockUnit (4 * q + b)) = false) →
        flagSet t (Reg.QUAD_STATUS q) 9 = true) ∧
      s.sameBut [.regs, .free, .pcie, .log, .shep] t := by
  subst hold htarget
  obtain ⟨hage, hage'⟩ := rd_quadAge s q.val slow.toNat ro.val
  obtain ⟨hslow, hro⟩ := rdF_ageStored s q.val slow.toNat ro.val slow.isLt (by omega)
  have hstay := flagsStay_forecastStep q.val (ageAvs s q.val slow.toNat ro.val)
  have havs : rdF (forecastStep (ageAvs s q.val slow.toNat ro.val) q.val) Reg.CHIP_AVS 9 0 =
      rdF (ageAvs s q.val slow.toNat ro.val) Reg.CHIP_AVS 9 0 := by
    refine (regsBut_forecastStep q.val _).rdF 9 0 ?_ (by decide)
    simp only [List.mem_cons, List.not_mem_nil, or_false, not_or]
    unfold Reg.CHIP_AVS Reg.QUAD_STATUS Reg.HBM_STATUS Reg.PCIE_STATUS; omega
  refine ⟨forecastStep (ageAvs s q.val slow.toNat ro.val) q.val, rfl, ?_, ?_, fun hosc => ?_, fun hstep => ?_, fun hreq => ⟨?_, ?_⟩,
    fun hreq => ⟨?_, ?_⟩, fun hworn hlim hnew => ?_, ?_⟩
  · rw [rdF, hage, hage']; exact hslow
  · rw [rdF, hage, hage']; exact hro
  · refine hstay.quad (by decide) (flagSet_ageAvs _ _ _ _ (by decide) ((flagsStay_ageStepFlag s _ _ _).quad (by decide) ?_))
    rw [ageOscFlag, if_pos hosc]; exact flagSet_raiseBit_quad _ _ (by decide)
  · refine hstay.quad (by decide) (flagSet_ageAvs _ _ _ _ (by decide) ?_)
    rw [ageStepFlag, if_pos hstep]; exact flagSet_raiseBit_quad _ _ (by decide)
  · refine hstay.quad (by decide) ?_
    rw [ageAvs, if_pos hreq, flagSet_raiseTarget_quad]; exact flagSet_raiseBit_quad _ _ (by decide)
  · have hbefore : rdF (raiseBit (ageStepFlag s q.val slow.toNat ro.val) (Reg.QUAD_STATUS q.val) 8) Reg.CHIP_AVS 9 0 = rdF s Reg.CHIP_AVS 9 0 := by
      refine ((regsBut_raiseBit _ _ _).rdF 9 0 ?_ (by decide)).trans (rdF_ageStepFlag s _ _ _ 9 0 (.inl (by decide)))
      simp only [List.mem_cons, List.not_mem_nil, or_false, not_or]
      unfold Reg.CHIP_AVS Reg.QUAD_STATUS Reg.PCIE_STATUS; omega
    rw [havs, ageAvs, if_pos hreq, rdF_raiseTarget, hbefore]
  · rw [havs, ageAvs, if_neg (Nat.not_lt.2 hreq)]; exact rdF_ageStepFlag s _ _ _ 9 0 (.inl (by decide))
  · have hlog := part_of_hide (forecastStep_hide (m := 134218018) (h_sub := rfl) (ageAvs s q.val slow.toNat ro.val) q.val) State.log fun _ => rfl
    rw [hlog, ageAvs, if_neg (Nat.not_lt.2 hreq)]
    exact part_of_hide (ageStepFlag_hide (m := 258) _ _ _ _ rfl) State.log fun _ => rfl
  · refine flagSet_forecastStep q.val ?_ ?_ ?_
    · rw [quadWorn, rdF, hage']
      exact decide_eq_true (by rw [← rdF, hslow]; exact hworn)
    · have hctrl : rdF (ageAvs s q.val slow.toNat ro.val) Reg.SHEP_CTRL 31 24 = rdF s Reg.SHEP_CTRL 31 24 := by
        refine ((regsBut_ageAvs s q.val slow.toNat ro.val).rdF 31 24 ?_ (by decide)).trans (rdF_ageStepFlag s _ _ _ 31 24 (.inr rfl))
        simp only [ageRegs, List.mem_cons, List.not_mem_nil, or_false, not_or]
        unfold Reg.SHEP_CTRL Reg.QUAD_STATUS Reg.CHIP_AVS Reg.CHIP_PWR_STATUS Reg.PCIE_STATUS; omega
      rw [hctrl]; exact hlim
    · rw [ageAvs_forecast]; exact hnew 0 (by decide)
  · exact (forecastStep_hide (h_sub := rfl) ..).trans (ageAvs_hide _ _ _ _ rfl)

end Sys2Proof.Machine

/-!
PROOF. The commit of the wear log (R410, R435), and with it the statement on patrol, spares and ageing as a whole.
-/

namespace Sys2Proof.Machine

/-! The daily snapshot -/

/-- The Shepherd's state without the wear entries and what goes with them: the copies in flash are among what remains. -/
def ShepSt.withoutWear (h : ShepSt) : ShepSt := { h with wear := [], wearNext := 0, commitDue := false, snapAt := 0 }

/-- The entries of the ages of some quads. -/
def ageEntries (l : List Nat) (s : State) : State :=
  l.foldl (fun s q => wearAdd s 6 (unitCode (Reg.QUAD_STATUS q) 0) (rdF s (Reg.QUAD_AGE q) 15 0)) s

theorem ageEntries_withoutWear : ∀ (l : List Nat) (s : State), (ageEntries l s).shep.withoutWear = s.shep.withoutWear
  | [], _ => rfl
  | _ :: l, _ => ageEntries_withoutWear l _

theorem ageEntries_snapAt : ∀ (l : List Nat) (s : State), (ageEntries l s).shep.snapAt = s.shep.snapAt
  | [], _ => rfl
  | _ :: l, _ => ageEntries_snapAt l _

theorem ageEntries_wear_length : ∀ (l : List Nat) (s : State), (ageEntries l s).shep.wear.length = s.shep.wear.length + l.length
  | [], _ => rfl
  | _ :: l, s => (ageEntries_wear_length l _).trans (by
      change s.shep.wear.length + 1 + l.length = s.shep.wear.length + (l.length + 1); omega)

/-- The state in which the time of the snapshot is noted. -/
def snapNoted (s : State) : State := s.modShep (fun h => { h with snapAt := now s })

theorem ageSnapshot_due {s : State} (h : s.shep.snapAt + nsT day ≤ now s) :
    ageSnapshot s = ageEntries (List.range 4) (snapNoted s) := if_pos h

theorem ageSnapshot_due_entries {s : State} (h : s.shep.snapAt + nsT day ≤ now s) :
    (ageSnapshot s).shep.snapAt = now s ∧ (ageSnapshot s).shep.wear.length = s.shep.wear.length + 4 := by
  rw [ageSnapshot_due h]
  exact ⟨ageEntries_snapAt _ _, ageEntries_wear_length _ _⟩

theorem ageSnapshot_early {s : State} (h : now s < s.shep.snapAt + nsT day) : ageSnapshot s = s := if_neg (Nat.not_le.2 h)

theorem ageSnapshot_withoutWear (s : State) : (ageSnapshot s).shep.withoutWear = s.shep.withoutWear := by
  rcases Nat.lt_or_ge (now s) (s.shep.snapAt + nsT day) with h | h
  · rw [ageSnapshot_early h]
  · rw [ageSnapshot_due h]; exact ageEntries_withoutWear _ _

theorem ageSnapshot_regs (s : State) : (ageSnapshot s).regs = s.regs :=
  part_of_hide (ageSnapshot_hide (m := 134217728) (h_sub := rfl) s) State.regs fun _ => rfl

/-! The commit -/

theorem commitWear_false_shep (u : State) : (commitWear u false).shep = { u.shep with
    goodA := !decide (u.shep.genA ≤ u.shep.genB) && u.shep.goodA, goodB := decide (u.shep.genA ≤ u.shep.genB) && u.shep.goodB
    retry := !u.shep.retry, commitDue := !u.shep.retry } := raiseBit_shep ..

/-- A commit, good or not, leaves the entries and the time of the snapshot. -/
theorem commitWear_entries (u : State) (good : Bool) :
    (commitWear u good).shep.snapAt = u.shep.snapAt ∧ (commitWear u good).shep.wear = u.shep.wear := by
  cases good with
  | true => exact ⟨rfl, rfl⟩
  | false => rw [commitWear_false_shep]; exact ⟨rfl, rfl⟩

theorem commitWear_true_regs (u : State) : (commitWear u true).regs = u.regs := rfl

theorem commitWear_true_due (u : State) : (commitWear u true).shep.commitDue = false := rfl

theorem min_commitWear (u : State) :
    min (commitWear u true).shep.genA (commitWear u true).shep.genB = max u.shep.genA u.shep.genB := by
  by_cases h : u.shep.genA ≤ u.shep.genB
  · simp [commitWear, h]
  · simp [commitWear, h]; omega

/-- A good commit rewrites the older copy only. -/
theorem commitWear_true_copies (u : State) : if u.shep.genA ≤ u.shep.genB then
      (commitWear u true).shep.goodA = true ∧ (commitWear u true).shep.imageA = wearImage u ∧ (commitWear u true).shep.imageB = u.shep.imageB
    else (commitWear u true).shep.goodB = true ∧ (commitWear u true).shep.imageB = wearImage u ∧
      (commitWear u true).shep.imageA = u.shep.imageA := by
  split
  · next h => simp [commitWear, h]
  · next h => simp [commitWear, h]

theorem flagSet_commitWear_false (u : State) : flagSet (commitWear u false) Reg.SHEP_STATUS 6 = true :=
  flagSet_raiseBit _ _ _ (by decide) (by decide) (by decide)

/-- A commit that failed its read-back leaves the older copy bad. -/
theorem commitWear_false_copies (u : State) : if u.shep.genA ≤ u.shep.genB then
      (commitWear u false).shep.goodA = false ∧ (commitWear u false).shep.goodB = u.shep.goodB
    else (commitWear u false).shep.goodB = false ∧ (commitWear u false).shep.goodA = u.shep.goodA := by
  rw [commitWear_false_shep]
  split
  · next h => simp [h]
  · next h => simp [h]

section
variable {s u : State} (h : u.shep.withoutWear = s.shep.withoutWear)
include h

/-- What states agree on whose Shepherds differ in the wear entries only. -/
theorem shep_of_withoutWear {α : Type} (p : ShepSt → α) (hp : ∀ x, p x.withoutWear = p x) : p u.shep = p s.shep := by
  rw [← hp, h, hp]

theorem commitWear_good :
    max (commitWear u true).shep.genA (commitWear u true).shep.genB = max s.shep.genA s.shep.genB + 1 ∧
    min (commitWear u true).shep.genA (commitWear u true).shep.genB = max s.shep.genA s.shep.genB ∧
    if s.shep.genA ≤ s.shep.genB then
      (commitWear u true).shep.goodA = true ∧ (commitWear u true).shep.imageA = wearImage u ∧ (commitWear u true).shep.imageB = s.shep.imageB
    else (commitWear u true).shep.goodB = true ∧ (commitWear u true).shep.imageB = wearImage u ∧
      (commitWear u true).shep.imageA = s.shep.imageA := by
  rw [← shep_of_withoutWear h ShepSt.genA fun _ => rfl, ← shep_of_withoutWear h ShepSt.genB fun _ => rfl,
    ← shep_of_withoutWear h ShepSt.imageA fun _ => rfl, ← shep_of_withoutWear h ShepSt.imageB fun _ => rfl]
  exact ⟨max_commitWear u, min_commitWear u, commitWear_true_copies u⟩

theorem commitWear_bad : (commitWear u false).shep.genA = s.shep.genA ∧ (commitWear u false).shep.genB = s.shep.genB ∧
    (commitWear u false).shep.commitDue = !s.shep.retry ∧
    if s.shep.genA ≤ s.shep.genB then (commitWear u false).shep.goodA = false ∧ (commitWear u false).shep.goodB = s.shep.goodB
    else (commitWear u false).shep.goodB = false ∧ (commitWear u false).shep.goodA = s.shep.goodA := by
  rw [← shep_of_withoutWear h ShepSt.genA fun _ => rfl, ← shep_of_withoutWear h ShepSt.genB fun _ => rfl,
    ← shep_of_withoutWear h ShepSt.retry fun _ => rfl, ← shep_of_withoutWear h ShepSt.goodA fun _ => rfl,
    ← shep_of_withoutWear h ShepSt.goodB fun _ => rfl]
  refine ⟨?_, ?_, ?_, commitWear_false_copies u⟩
  · rw [commitWear_false_shep]
  · rw [commitWear_false_shep]
  · rw [commitWear_false_shep]

end

theorem exec_wearLogCommit (good : Bool) {s : State} (hwarn : nvWarned s = false) :
    exec (.wearLogCommit good) s = .next (commitWear (ageSnapshot s) good) := by
  simp [exec, execWearLogCommit, hwarn]

/-- WEAR_LOG_COMMIT outside a supply warning. -/
theorem wearLogCommit_spec (good : Bool) (s : State) (h : ShepSt) (hh : h = s.shep) (hwarn : nvWarned s = false) :
    ∃ t, exec (.wearLogCommit good) s = .next t ∧ s.sameBut [.regs, .pcie, .shep] t ∧
      (good = true → t.regs = s.regs ∧ max t.shep.genA t.shep.genB = max h.genA h.genB + 1 ∧ min t.shep.genA t.shep.genB = max h.genA h.genB ∧
        t.shep.commitDue = false ∧ (if h.genA ≤ h.genB then t.shep.goodA = true ∧ t.shep.imageA = wearImage (ageSnapshot s) ∧
          t.shep.imageB = h.imageB else t.shep.goodB = true ∧ t.shep.imageB = wearImage (ageSnapshot s) ∧ t.shep.imageA = h.imageA)) ∧
      (h.snapAt + nsT day ≤ s.tb.now → t.shep.snapAt = s.tb.now ∧ t.shep.wear.length = h.wear.length + 4) ∧
      (s.tb.now < h.snapAt + nsT day → t.shep.snapAt = h.snapAt ∧ t.shep.wear = h.wear) ∧
      (good = false → t.shep.genA = h.genA ∧ t.shep.genB = h.genB ∧ t.shep.commitDue = !h.retry ∧ flagSet t Reg.SHEP_STATUS 6 = true ∧
        (if h.genA ≤ h.genB then t.shep.goodA = false ∧ t.shep.goodB = h.goodB else t.shep.goodB = false ∧ t.shep.goodA = h.goodA)) := by
  subst hh
  obtain ⟨hsnap, hwear⟩ := commitWear_entries (ageSnapshot s) good
  have hcopies := ageSnapshot_withoutWear s
  refine ⟨_, exec_wearLogCommit good hwarn, (commitWear_hide (h_sub := rfl) ..).trans (ageSnapshot_hide (h_sub := rfl) ..),
    fun hgood => ?_, fun hdue => ?_, fun hearly => ?_, fun hbad => ?_⟩
  · subst hgood
    obtain ⟨hmax, hmin, hrewritten⟩ := commitWear_good hcopies
    exact ⟨(commitWear_true_regs _).trans (ageSnapshot_regs s), hmax, hmin, commitWear_true_due _, hrewritten⟩
  · rw [hsnap, hwear]
    exact ageSnapshot_due_entries hdue
  · rw [hsnap, hwear, ageSnapshot_early hearly]
    exact ⟨rfl, rfl⟩
  · subst hbad
    obtain ⟨hgenA, hgenB, hretry, hkept⟩ := commitWear_bad hcopies
    exact ⟨hgenA, hgenB, hretry, flagSet_commitWear_false _, hkept⟩

/-- Settles O56, event by event: the three of patrol, the three maintenance commands, the ageing measurement, and the wear log. -/
theorem patrolSparesAndAgeing : Obligations.PatrolSparesAndAgeing := by
  unfold Obligations.PatrolSparesAndAgeing
  refine ⟨patrolMove_spec, fun q b s k x hk hx => ⟨fun hnone => exec_patrolMismatch_none hk (hx ▸ hnone),
      fun n hslot hn => patrolMismatch_spec q b s k x hk hx hslot hn, fun hno => exec_patrolConfirmEnd_none hk (hx ▸ hno),
      patrolConfirmEnd_spec q b s k x hk hx⟩,
    spareCommit_spec, spareStatus_spec, wearForecast_spec, ageingMeasure_spec, fun good s h hh => ⟨fun hwarn => ?_, fun hio haon => ?_⟩⟩
  · have hw : nvWarned s = true := by simpa [nvWarned] using hwarn
    exact congrArg Host.Outcome.next (if_pos hw)
  · exact wearLogCommit_spec good s h hh (by simp [nvWarned, hio, haon])

end Sys2Proof.Machine

/-!
PROOF. What storing leaves of the deck's state (R73, R77): a fold group that stores, closes a segment, overflows or re-arms touches the
record of lost contexts and the list of groups that wait for a re-deal, and nothing else of it.
-/

namespace Sys2Proof.Machine

/-- The deck's state but for the lost contexts and the groups that wait for a re-deal. -/
def DeckSt.core (k : DeckSt) : DeckSt := { k with ctxBad := [], redeal := k.redeal.map (fun r => { r with waiting := [] }) }

def State.deckCore (s : State) : DeckSt := s.deck.core

theorem deckCore_of_deck {s t : State} (h : t.deck = s.deck) : t.deckCore = s.deckCore := congrArg DeckSt.core h

theorem deckCore_of_hide {s t : State} {m : Nat} (h : t.hide m = s.hide m) (hm : m.testBit 13 = false) : t.deckCore = s.deckCore :=
  deckCore_of_deck (part_of_hide h State.deck fun x => by simp [State.hide, hm])

theorem deckCore_foldl {α : Type} (f : State → α → State) (h : ∀ s x, (f s x).deckCore = s.deckCore) :
    ∀ (l : List α) (s : State), (l.foldl f s).deckCore = s.deckCore
  | [], _ => rfl
  | x :: l, s => (deckCore_foldl f h l (f s x)).trans (h s x)

theorem deckCore_foldl_fst {α β : Type} (f : State × β → α → State × β) (h : ∀ p x, (f p x).1.deckCore = p.1.deckCore) :
    ∀ (l : List α) (p : State × β), (l.foldl f p).1.deckCore = p.1.deckCore
  | [], _ => rfl
  | x :: l, p => (deckCore_foldl_fst f h l (f p x)).trans (h p x)

theorem deckCore_ite {c : Prop} [Decidable c] {a b s : State} (ha : a.deckCore = s.deckCore) (hb : b.deckCore = s.deckCore) :
    (if c then a else b).deckCore = s.deckCore := by split <;> assumption

/-! Pages and records -/

section
variable (s : State) (d : DeckImage) (f g : Nat)

theorem endCtx_deckCore (i : KInst) : (endCtx s i).deckCore = s.deckCore := deckCore_ite rfl rfl

theorem storeRawPage_deckCore (inst j : Nat) : (storeRawPage s d f inst j).deckCore = s.deckCore := by
  unfold storeRawPage; dsimp only
  refine deckCore_ite rfl ?_
  refine (deckCore_of_hide (setFold_hide (m := 524288) (h_sub := rfl) ..) rfl).trans ?_
  refine (deckCore_of_hide (putLogical_hide (m := 2048) (h_sub := rfl) ..) rfl).trans ?_
  exact (endCtx_deckCore ..).trans (deckCore_of_hide (putPage_hide (m := 526336) (h_sub := rfl) ..) rfl)

theorem storeRawTo_deckCore (last : Sample) : (storeRawTo s d f last).deckCore = s.deckCore :=
  deckCore_foldl _ (fun s _ => deckCore_foldl _ (fun s _ => storeRawPage_deckCore s ..) _ s) _ s

theorem storeRecPage_deckCore : (storeRecPage s d f).deckCore = s.deckCore :=
  deckCore_of_hide (storeRecPage_hide (m := 526336) (h_sub := rfl) ..) rfl

theorem addWindow_deckCore (keep : Option (Sample × Sample)) (n w : Nat) (b : Sample) {t : State}
    (h : addWindow d f keep n w b s = .ok t) : t.deckCore = s.deckCore := by
  unfold addWindow at h; dsimp only at h
  generalize hq : addRecord d f keep _ _ _ _ _ s = q at h
  have hrec : hideE 526336 s q := hq ▸ addRecord_hide (h_sub := rfl) ..
  cases q with
  | error c => cases h
  | ok u =>
    cases h
    refine (endCtx_deckCore ..).trans ((deckCore_of_hide (setFold_hide (m := 524288) (h_sub := rfl) ..) rfl).trans ?_)
    exact deckCore_of_hide hrec rfl

theorem takeWindows_deckCore (keep : Option (Sample × Sample)) :
    ∀ (l : List (Nat × Nat × Sample)) (s : State), (takeWindows d f keep l s).1.deckCore = s.deckCore
  | [], _ => rfl
  | (w, n, b) :: l, s => by
    unfold takeWindows
    split
    · rfl
    · next u h => exact (takeWindows_deckCore keep l u).trans (addWindow_deckCore s d f keep n w b h)

theorem formTo_deckCore (last : Sample) : (formTo s d f last).1.deckCore = s.deckCore := by
  unfold formTo; dsimp only
  split
  · exact takeWindows_deckCore d f _ _ s
  · exact deckCore_of_hide (takeSamples_hide (m := 526336) (h_sub := rfl) ..) rfl

/-! Compression -/

theorem compBlock_deckCore (u e n : Nat) (chk : EngineCheck) (last : Bool) : (compBlock s d f u e n chk last).deckCore = s.deckCore := by
  unfold compBlock
  generalize codeBlock _ _ _ _ _ _ _ _ = b
  dsimp only
  refine (deckCore_of_hide (setCompPage_hide (m := 1048576) (h_sub := rfl) ..) rfl).trans ?_
  refine (deckCore_of_hide (setFold_hide (m := 524288) (h_sub := rfl) ..) rfl).trans ((endCtx_deckCore ..).trans ?_)
  refine deckCore_of_hide (m := 135793954) ?_ rfl
  rw [hide_ite, checkedBlock_hide (m := 135793954) (h_sub := rfl), ite_self, hide_ite, incCnt_hide (m := 135793954) (h_sub := rfl), ite_self,
    wr64_hide (m := 135793954) (h_sub := rfl), wr64_hide (m := 135793954) (h_sub := rfl)]
  exact (hide_foldl _ (fun s i => putCompSide_hide (h_sub := rfl) ..) _ _).trans (useFree_hide (h_sub := rfl) ..)

theorem endCompPage_deckCore (u e : Nat) (last : Bool) : (endCompPage s d f u e last).1.deckCore = s.deckCore :=
  deckCore_of_hide (endCompPage_hide (m := 1575170) (h_sub := rfl) ..) rfl

theorem compStep_deckCore (u e : Nat) (chk : EngineCheck) (last : Option Sample) : (compStep s d f u e chk last).1.deckCore = s.deckCore := by
  unfold compStep; dsimp only
  split
  · split
    · rfl
    · exact (endCompPage_deckCore ..).trans (deckCore_of_hide (setCompPage_hide (m := 1048576) (h_sub := rfl) ..) rfl)
  · split
    · exact compBlock_deckCore ..
    · split
      · exact (endCompPage_deckCore ..).trans (compBlock_deckCore ..)
      · exact compBlock_deckCore ..

theorem compTo_deckCore (u e : Nat) (last : Sample) : ∀ (n : Nat) (s : State), (compTo d f u e last n s).1.deckCore = s.deckCore
  | 0, _ => rfl
  | n + 1, s => by
    unfold compTo; dsimp only
    have h := compStep_deckCore s d f u e .pass (some last)
    split
    · rfl
    · split
      · next u' hu => rw [hu] at h; exact (compTo_deckCore u e last n u').trans h
      · exact h

theorem compClose_deckCore (last : Sample) : (compClose s d f last).1.deckCore = s.deckCore := by
  unfold compClose
  refine deckCore_foldl_fst _ (fun p x => ?_) _ _
  split
  · split
    · rfl
    · exact compTo_deckCore ..
  · rfl

theorem cutTake_deckCore (u e : Nat) (so : Sample) : ∀ (n : Nat) (s : State), (cutTake d f u e so n s).deckCore = s.deckCore
  | 0, _ => rfl
  | n + 1, s => by
    unfold cutTake; dsimp only
    generalize min 8 _ = k
    have hblock (last : Bool) := compBlock_deckCore s d f u e k .pass last
    have hpage := endCompPage_deckCore (compBlock s d f u e k .pass ((compPage s d f u e).pages + k == 256)) d f u e false
    split
    · rfl
    · split
      · split
        · next u' hu => rw [hu] at hpage; exact (cutTake_deckCore u e so n u').trans (hpage.trans (hblock _))
        · exact hblock _
      · exact hblock _

theorem compCut_deckCore (so : Sample) : (compCut s d f so).deckCore = s.deckCore :=
  (deckCore_foldl _ (fun _ _ => deckCore_of_hide (cutPage_hide (m := 1575170) (h_sub := rfl) ..) rfl) _ _).trans
    (deckCore_foldl _ (fun s _ => cutTake_deckCore _ _ _ _ _ _ s) _ s)

/-! Folds and groups -/

theorem stopFold_deckCore (so : Sample) : (stopFold s d f so).1.deckCore = s.deckCore := by
  unfold stopFold; dsimp only
  split
  · split
    · exact compCut_deckCore ..
    · exact deckCore_ite (storeRawTo_deckCore ..) rfl
  · exact (storeRecPage_deckCore ..).trans (formTo_deckCore ..)

theorem stopOvf_deckCore (fold cause : Nat) (so : Sample) : (stopOvf s d g fold cause so).deckCore = s.deckCore := by
  have hmark (u : State) (x : GroupSt) (o : Nat) :
      (handsIdle (raiseErr (setGrp u g x) o 3 2 0x0480 g) d).deckCore = u.deckCore := by
    refine deckCore_of_hide (m := 656642) ?_ rfl
    rw [handsIdle_hide (m := 656642) (h_sub := rfl), raiseErr_hide (m := 656642) (h_sub := rfl), setGrp_hide (m := 656642) (h_sub := rfl)]
  unfold stopOvf; dsimp only
  split
  · refine (hmark ..).trans ((deckCore_of_hide (setGrp_hide (m := 524288) (h_sub := rfl) ..) rfl).trans ?_)
    refine (deckCore_of_hide (writeDescriptors_hide (m := 526594) (h_sub := rfl) ..) rfl).trans ?_
    refine deckCore_foldl_fst _ (fun p f => ?_) _ (s, none)
    exact stopFold_deckCore ..
  · split
    · exact hmark ..
    · refine (hmark ..).trans (deckCore_foldl _ (fun s f => deckCore_of_hide (m := 2048) ?_ rfl) _ s)
      rw [putLogical_hide (m := 2048) (h_sub := rfl), putLogical_hide (m := 2048) (h_sub := rfl)]

theorem storeRest_deckCore (last : Sample) : (storeRest s d f last).1.deckCore = s.deckCore := by
  unfold storeRest
  split
  · split
    · exact compClose_deckCore ..
    · exact storeRawTo_deckCore ..
  · have h := formTo_deckCore s d f last
    split
    · next u hu => rw [hu] at h; exact (storeRecPage_deckCore ..).trans h
    · exact h

theorem finishClose_deckCore : (finishClose s d g).deckCore = s.deckCore := by
  unfold finishClose; dsimp only
  split
  · next last extra seg0 _ _ =>
    have hrest (l : List Nat) (a : State × Option (Nat × Nat × Sample)) : (l.foldl (fun (a : State × Option (Nat × Nat × Sample)) f =>
        match a.2 with
        | some _ => a
        | none =>
          let q := storeRest a.1 d f last
          (q.1, q.2.map (fun i => (f, i)))) a).1.deckCore = a.1.deckCore := by
      refine deckCore_foldl_fst _ (fun p x => ?_) l a
      split
      · rfl
      · exact storeRest_deckCore ..
    split
    · exact (stopOvf_deckCore ..).trans (hrest _ (s, none))
    · exact (deckCore_of_hide (writeDescriptors_hide (m := 526594) (h_sub := rfl) ..) rfl).trans (hrest _ (s, none))
  · rfl

theorem openSegment_deckCore (k : Nat) (e : Sample) : (openSegment s d g k e).deckCore = s.deckCore := by
  unfold openSegment; dsimp only
  refine deckCore_ite (finishClose_deckCore ..) ?_
  refine (deckCore_of_hide (armResets_hide (m := 426242) (h_sub := rfl) ..) rfl).trans ?_
  refine (deckCore_of_hide (setGrp_hide (m := 524288) (h_sub := rfl) ..) rfl).trans ?_
  refine (deckCore_foldl _ (fun s f => deckCore_of_hide (m := 1574912) ?_ rfl) _ _).trans (finishClose_deckCore ..)
  rw [compOpen_hide (m := 1574912) (h_sub := rfl), putLogical_hide (m := 1574912) (h_sub := rfl), setFold_hide (m := 1574912) (h_sub := rfl)]

theorem reArm_deckCore (sr : Sample) : (reArm s d g sr).deckCore = s.deckCore := by
  unfold reArm
  split
  · split
    · next r hr => simp only [State.deckCore, DeckSt.core, State.modDeck, State.setDeck, hr, Option.map_some]
    · rfl
  · exact openSegment_deckCore ..

theorem ownChange_deckCore (i : Sample) : (ownChange s d g i).deckCore = s.deckCore := by
  unfold ownChange; dsimp only
  split
  · exact deckCore_ite (deckCore_of_hide (endPost_hide (m := 655618) (h_sub := rfl) ..) rfl) rfl
  · split
    · exact deckCore_ite (reArm_deckCore ..) rfl
    · rfl
  · exact deckCore_ite (deckCore_of_hide (setGrp_hide (m := 524288) (h_sub := rfl) ..) rfl) rfl
  · rfl

theorem settle_deckCore (i : Sample) : (settle s d g i).deckCore = s.deckCore :=
  (ownChange_deckCore ..).trans ((ownChange_deckCore ..).trans (ownChange_deckCore ..))

theorem settleAll_deckCore (gs : List Nat) (i : Sample) : (settleAll s d gs i).deckCore = s.deckCore :=
  deckCore_foldl _ (fun s g => settle_deckCore s d g i) gs s

theorem storeSoFar_deckCore (skew : BitVec 5) : (storeSoFar s d skew).deckCore = s.deckCore :=
  deckCore_ite rfl (settleAll_deckCore ..)

end

/-! A group that is IDLE stores nothing -/

section
variable {s : State} (d : DeckImage)

theorem ownChange_idle {g : Nat} (i : Sample) (h : (grpOf s g).st = .idle) : ownChange s d g i = s := by
  unfold ownChange; dsimp only; rw [h]

theorem settle_idle {g : Nat} (i : Sample) (h : (grpOf s g).st = .idle) : settle s d g i = s := by
  unfold settle; rw [ownChange_idle d i h, ownChange_idle d i h, ownChange_idle d i h]

theorem settleAll_idle (h : ∀ g, (grpOf s g).st = .idle) (i : Sample) : ∀ gs : List Nat, settleAll s d gs i = s
  | [] => rfl
  | g :: gs => by rw [settleAll, List.foldl_cons, settle_idle d i (h g)]; exact settleAll_idle h i gs

theorem storeSoFar_idle (h : ∀ g, (grpOf s g).st = .idle) (skew : BitVec 5) : storeSoFar s d skew = s := by
  unfold storeSoFar; rw [settleAll_idle d h, ite_self]

end

end Sys2Proof.Machine

/-!
PROOF. The deal-period boundary (R49, R73): the guards' numbers, what a guard that realigns leaves, and what a boundary comes to at which
no promotion, stage change or SPINE reload waits.
-/

namespace Sys2Proof.Machine

/-! The numbers -/

/-- An element that outnumbers every other stays the choice once it has been met. -/
theorem foldl_majority (c : Nat → Nat) {m : Nat} (hm : ∀ x, x ≠ m → c x < c m) : ∀ (l : List Nat) (a : Nat), m ∈ l ∨ a = m →
    l.foldl (fun a x => if c a < c x then x else a) a = m
  | [], a, h => by simpa using h
  | x :: l, a, h => by
    refine foldl_majority c hm l _ ?_
    by_cases hx : x = m
    · subst hx
      by_cases ha : a = x
      · exact .inr (by simp [ha])
      · exact .inr (if_pos (hm a ha))
    · rcases h with h | rfl
      · exact .inl ((List.mem_cons.1 h).resolve_left (Ne.symm hx))
      · exact .inr (if_neg (Nat.lt_asymm (hm x hx)))

/-- Four guards that agree outnumber the fifth. -/
theorem majority_of_four {v : Nat → Nat} {q m : Nat} (hq : q < 5) (h : ∀ r < 5, r ≠ q → v r = m) :
    majority ((List.range 5).map v) = m := by
  have hcount (x : Nat) : (((List.range 5).map v).filter (· == x)).length = (if v q = x then 1 else 0) + (if m = x then 4 else 0) := by
    have hv (r : Nat) (hr : r < 5) : v r = if r = q then v q else m := by
      split
      · next e => rw [e]
      · next e => exact h r hr e
    have hlist : (List.range 5).map v = [v 0, v 1, v 2, v 3, v 4] := rfl
    rw [hlist, hv 0 (by decide), hv 1 (by decide), hv 2 (by decide), hv 3 (by decide), hv 4 (by decide)]
    generalize v q = y
    interval_cases q <;> by_cases hy : y = x <;> by_cases hm : m = x <;> simp [hy, hm]
  refine foldl_majority (fun x => (((List.range 5).map v).filter (· == x)).length) (fun x hx => ?_) _ _ (.inl ?_)
  · simp only [hcount, if_pos, if_neg (Ne.symm hx)]; split <;> omega
  · have hr : (if q = 0 then 1 else 0) ≠ q ∧ (if q = 0 then 1 else 0) < 5 := by split <;> omega
    exact List.mem_map.2 ⟨_, List.mem_range.2 hr.2, h _ hr.2 hr.1⟩

/-- The number that guard `r` comes to by itself: one of `skew` fails to count. -/
def countedNum (skew : BitVec 5) (s : State) (r : Nat) : Nat := if skew.getLsbD r then dealNum s r else dealNum s r + 1

def agreedNum (skew : BitVec 5) (s : State) : Nat := majority ((List.range 5).map (countedNum skew s))

/-- The number that guard `r` holds after the boundary. -/
def guardNum (skew : BitVec 5) (s : State) (r : Nat) : Nat :=
  if s.deck.blocked.contains r then agreedNum skew s else countedNum skew s r

/-- The state in which the numbers have moved on, before they are compared. -/
def movedOn (skew : BitVec 5) (s : State) : State :=
  s.modDeck (fun d => { d with
    cycle := 0, blocked := [], num := (List.range 5).foldl (fun t r => tabPut 0 t r (guardNum skew s r)) d.num })

/-- The guards that realign. -/
def misaligned (skew : BitVec 5) (s : State) : List Nat := (List.range 5).filter (fun r => guardNum skew s r != agreedNum skew s)

theorem realign_eq (skew : BitVec 5) (s : State) : realign skew s = (misaligned skew s).foldl realignRegion (movedOn skew s) := rfl

theorem dealNum_movedOn (skew : BitVec 5) (s : State) {r : Nat} (hr : r < 5) : dealNum (movedOn skew s) r = guardNum skew s r :=
  (tabGet_foldl_tabPut ..).trans (if_pos (List.mem_range.2 hr))

section
variable {skew : BitVec 5} {s : State} {q m : Nat} (hq : q < 5) (h : ∀ r < 5, r ≠ q → countedNum skew s r = m)
include hq h

theorem agreedNum_of_four : agreedNum skew s = m := majority_of_four hq h

theorem guardNum_of_four {r : Nat} (hr : r < 5) (hrq : r ≠ q) : guardNum skew s r = m := by
  unfold guardNum; rw [agreedNum_of_four hq h, h r hr hrq, ite_self]

/-- Where the fifth guard comes to the number of the other four, no guard realigns. -/
theorem misaligned_nil (hn : guardNum skew s q = m) : misaligned skew s = [] := by
  refine List.filter_eq_nil_iff.2 fun r hr => ?_
  have hr5 := List.mem_range.1 hr
  have hg : guardNum skew s r = m := if e : r = q then e ▸ hn else guardNum_of_four hq h hr5 e
  simp [hg, agreedNum_of_four hq h]

/-- Where it does not, it is the one that realigns. -/
theorem misaligned_one (hn : guardNum skew s q ≠ m) : misaligned skew s = [q] := by
  have hf : misaligned skew s = (List.range 5).filter (fun r => r == q) := by
    refine List.filter_congr fun r hr => ?_
    by_cases e : r = q
    · subst e; simp [hn, agreedNum_of_four hq h]
    · simp [e, guardNum_of_four hq h (List.mem_range.1 hr) e, agreedNum_of_four hq h]
  rw [hf]
  interval_cases q <;> rfl

end

/-! A guard that realigns -/

theorem realignRegion_deck (s : State) (r : Nat) : ∃ l q p, (realignRegion s r).deck =
    { s.deck with blocked := insertNat s.deck.blocked r, realigns := l, quarRegions := q, spineReload := p } := by
  have hmark (f : DeckSt → DeckSt) : (raiseErr (s.modDeck f) (Reg.GUARD_STATUS r) 2 2 0x0480 r).deck = f s.deck :=
    part_of_hide (raiseErr_hide (m := 1282) (h_sub := rfl) ..) State.deck fun _ => rfl
  unfold realignRegion; dsimp only
  split
  · exact ⟨_, _, _, hmark _⟩
  · split
    · exact ⟨_, _, _, (part_of_hide (quadToVoid_hide (m := 2) (h_sub := rfl) ..) State.deck fun _ => rfl).trans
        ((part_of_hide (logError_hide (m := 1024) (h_sub := rfl) ..) State.deck fun _ => rfl).trans
          (congrArg (fun d : DeckSt => { d with quarRegions := insertNat d.quarRegions r }) (hmark _)))⟩
    · exact ⟨_, _, _, congrArg (fun d : DeckSt => { d with spineReload := true }) (hmark _)⟩

theorem realignRegions_deck : ∀ (l : List Nat) (s : State), ∃ t q p, (l.foldl realignRegion s).deck =
    { s.deck with blocked := l.foldl insertNat s.deck.blocked, realigns := t, quarRegions := q, spineReload := p }
  | [], s => ⟨s.deck.realigns, s.deck.quarRegions, s.deck.spineReload, rfl⟩
  | r :: l, s => by
    obtain ⟨t, q, p, h⟩ := realignRegions_deck l (realignRegion s r)
    obtain ⟨t', q', p', h'⟩ := realignRegion_deck s r
    exact ⟨t, q, p, by rw [List.foldl_cons, h, h']; rfl⟩

theorem offTree_guardStatus (r : Nat) : ¬(0x200 ≤ Reg.GUARD_STATUS r ∧ Reg.GUARD_STATUS r < 0x1000) := by
  unfold Reg.GUARD_STATUS Reg.guardBase; split <;> omega

theorem guardStatus_ne_pcieStatus (r : Nat) : Reg.GUARD_STATUS r ≠ Reg.PCIE_STATUS := by
  unfold Reg.GUARD_STATUS Reg.guardBase Reg.PCIE_STATUS; split <;> omega

theorem flagSet_foldl {α : Type} {o b : Nat} (f : State → α → State) (h : ∀ s x, flagSet (f s x) o b = flagSet s o b) :
    ∀ (l : List α) (s : State), flagSet (l.foldl f s) o b = flagSet s o b
  | [], _ => rfl
  | x :: l, s => (flagSet_foldl f h l (f s x)).trans (h s x)

theorem flagSet_of_hide {s t : State} {m : Nat} (h : t.hide m = s.hide m) (hm : m.testBit 1 = false) (o b : Nat) :
    flagSet t o b = flagSet s o b :=
  congrArg (fun r => (tabGet 0 r o).getLsbD b) (part_of_hide h State.regs fun x => by simp [State.hide, hm])

/-- The positions' registers are not the guards'. -/
theorem flagSet_quadToVoid (s : State) (q r b : Nat) : flagSet (quadToVoid s q) (Reg.GUARD_STATUS r) b = flagSet s (Reg.GUARD_STATUS r) b := by
  refine flagSet_foldl _ (fun s i => flagSet_wrF_other _ _ _ _ _ ?_) _ s
  unfold Reg.GUARD_STATUS Reg.guardBase Reg.INGEST_POS
  split <;> omega

theorem flagSet_realignRegion (s : State) (r : Nat) : flagSet (realignRegion s r) (Reg.GUARD_STATUS r) 2 = true := by
  have hmark (f : DeckSt → DeckSt) : flagSet (raiseErr (s.modDeck f) (Reg.GUARD_STATUS r) 2 2 0x0480 r) (Reg.GUARD_STATUS r) 2 = true :=
    flagSet_raiseErr _ _ _ _ _ _ (by decide) (offTree_guardStatus r) (guardStatus_ne_pcieStatus r)
  unfold realignRegion; dsimp only
  split
  · exact hmark _
  · split
    · rw [flagSet_quadToVoid, flagSet_of_hide (logError_hide (m := 1024) (h_sub := rfl) ..) rfl]; exact hmark _
    · exact hmark _

/-! The hands' reload -/

theorem flagSet_unfire (s : State) (h : Nat) (i : Sample) (r b : Nat) :
    flagSet (unfire s h i) (Reg.GUARD_STATUS r) b = flagSet s (Reg.GUARD_STATUS r) b := by
  have hne : Reg.GUARD_STATUS r ≠ Reg.HAND_FIRE_CNT h ∧ Reg.GUARD_STATUS r ≠ Reg.HAND_TRIG_CNT h := by
    unfold Reg.GUARD_STATUS Reg.guardBase Reg.HAND_FIRE_CNT Reg.HAND_TRIG_CNT; split <;> omega
  unfold unfire; dsimp only
  split
  · rfl
  · exact ((regsBut_wr _ _ _).flagSet b (by simp [hne.2]) (offTree_guardStatus r)).trans
      ((regsBut_wr _ _ _).flagSet b (by simp [hne.1]) (offTree_guardStatus r))

theorem flagSet_handReset (d : DeckImage) (i : Sample) (s : State) (h r b : Nat) :
    flagSet (handReset d i s h) (Reg.GUARD_STATUS r) b = flagSet s (Reg.GUARD_STATUS r) b := by
  unfold handReset; dsimp only
  split
  · exact flagSet_unfire ..
  · exact flagSet_unfire s h i r b

theorem flagSet_handsReload (d : DeckImage) (s : State) (r b : Nat) :
    flagSet (handsReload d s) (Reg.GUARD_STATUS r) b = flagSet s (Reg.GUARD_STATUS r) b := by
  unfold handsReload
  split
  · refine (flagSet_of_hide (handsIdle_hide (m := 131072) (h_sub := rfl) ..) rfl _ b).trans (flagSet_foldl _ (fun s h => ?_) _ s)
    unfold handReload; dsimp only
    split
    · exact flagSet_handReset d _ (setHand s h _) h r b
    · rfl
  · rfl

theorem handsReload_none (d : DeckImage) {s : State} (h : ∀ k < 32, (handOf s k).stopped = false) : handsReload d s = s := by
  refine if_neg ?_
  simpa using fun k hk => h k hk

/-! The boundary without its re-deal -/

theorem promoteStep_none {s : State} (h : s.deck.promos = []) : promoteStep s = s := by
  have hd : ({ s.deck with promos := [] } : DeckSt) = s.deck := by rw [← h]
  simp only [promoteStep, h, List.filter_nil, List.map_nil, List.foldl_nil, State.modDeck, State.setDeck]
  rw [hd]

/-- What a boundary makes of the state `s`, in which what ended with the period has been seen to, before a re-deal. -/
def boundaryTurn (skew : BitVec 5) (d : DeckImage) (s : State) : State :=
  handsReload d (slicesReload ((realign skew s).modDeck (fun k => { k with viol := [] })))

/-- The number table that the guards hold after the boundary. -/
def numsMovedOn (skew : BitVec 5) (s : State) : Tab Nat := (movedOn skew s).deck.num

theorem boundaryTurn_deck (skew : BitVec 5) (d : DeckImage) (s : State) : ∃ t q p, (boundaryTurn skew d s).deck =
    { s.deck with cycle := 0, blocked := (misaligned skew s).foldl insertNat [], num := numsMovedOn skew s, viol := [], realigns := t,
                  quarRegions := q, spineReload := p } := by
  obtain ⟨t, q, p, h⟩ := realignRegions_deck (misaligned skew s) (movedOn skew s)
  refine ⟨t, q, p, (part_of_hide (handsReload_hide (m := 393218) (h_sub := rfl) ..) State.deck fun _ => rfl).trans ?_⟩
  rw [← realign_eq] at h
  exact congrArg (fun k : DeckSt => { k with viol := [] }) h

theorem dealNum_boundaryTurn (skew : BitVec 5) (d : DeckImage) (s : State) {r : Nat} (hr : r < 5) :
    dealNum (boundaryTurn skew d s) r = guardNum skew s r := by
  obtain ⟨t, q, p, h⟩ := boundaryTurn_deck skew d s
  unfold dealNum; rw [h]; exact dealNum_movedOn skew s hr

theorem boundaryTurn_hide (skew : BitVec 5) (d : DeckImage) (s : State) {m : Nat} (h : 435458 &&& m = 435458) :
    (boundaryTurn skew d s).hide m = s.hide m := hide_mono h (by simp [boundaryTurn])

/-- A guard that realigns has its flag set still when the boundary is over. -/
theorem flagSet_boundaryTurn {skew : BitVec 5} (d : DeckImage) {s : State} {q : Nat} (h : misaligned skew s = [q]) :
    flagSet (boundaryTurn skew d s) (Reg.GUARD_STATUS q) 2 = true := by
  refine (flagSet_handsReload ..).trans ((flagSet_of_hide (slicesReload_hide (m := 32768) (h_sub := rfl) ..) rfl _ 2).trans ?_)
  rw [realign_eq, h]
  exact flagSet_realignRegion ..

/-- Where the guards agree, only the deck's state, the slices and what a stopped hand reloads change. -/
theorem boundaryTurn_aligned {skew : BitVec 5} (d : DeckImage) {s : State} (h : misaligned skew s = []) :
    s.sameBut [.deck, .recog, .hands, .trig, .regs] (boundaryTurn skew d s) ∧
    ((∀ k < 32, (handOf s k).stopped = false) → s.sameBut [.deck, .recog] (boundaryTurn skew d s)) := by
  have hr : realign skew s = movedOn skew s := by rw [realign_eq, h]; rfl
  constructor
  · refine hide_mono (T := 434178) rfl ?_
    simp [boundaryTurn, hr, movedOn]
  · intro hk
    rw [boundaryTurn, hr, handsReload_none d (s := slicesReload ((movedOn skew s).modDeck _)) hk]
    refine hide_mono (T := 40960) rfl ?_
    simp [movedOn]

end Sys2Proof.Machine

/-!
PROOF. The deal-period boundary (R24, R49, R73, R77): a block whose control has failed, the re-deal that takes effect, and the cases of the
row.
-/

namespace Sys2Proof.Machine

/-! What the period's end leaves -/

theorem storeSoFar_quiet {s : State} (d : DeckImage) (h : s.deck.blocked = []) : storeSoFar s d 0 = s := if_pos (by simp [h])

theorem redeal_of_deckCore {s t : State} (h : t.deckCore = s.deckCore) (hr : s.deck.redeal = none) : t.deck.redeal = none := by
  have hmap : t.deck.redeal.map (fun r => { r with waiting := [] }) = s.deck.redeal.map (fun r => { r with waiting := [] }) :=
    congrArg DeckSt.redeal h
  rw [hr] at hmap
  exact Option.map_eq_none_iff.1 hmap

/-- A block that fails is on the list of quarantined blocks, and its units may be on the other lists of the deck's state. -/
theorem quarantineBlock_deck (s : State) (b : Nat) : ∃ l e u, b ∈ l ∧
    (quarantineBlock s b).deck = { s.deck with quarBlocks := l, quarEngines := e, quarUnits := u } := by
  have hmark (o : Nat) (f : DeckSt → DeckSt) : (logError (s.modDeck f) o 3 3 0x0480 b).deck = f s.deck :=
    part_of_hide (logError_hide (m := 1024) (h_sub := rfl) ..) State.deck fun _ => rfl
  have hb : b ∈ insertNat s.deck.quarBlocks b := (mem_insertNat ..).2 (.inl rfl)
  unfold quarantineBlock; dsimp only
  generalize (if b < 4 then b else if b < 20 then (b - 4) / 4 else if b < 24 then b - 20 else if b < 28 then b - 24 else b - 28) = q
  split
  · next h => exact ⟨_, _, _, by simpa using h, rfl⟩
  · split
    · exact ⟨_, _, _, hb, congrArg (fun k : DeckSt => { k with
        quarEngines := (List.range 17).foldl (fun l n => insertNat l (17 * (b - 4) + n)) k.quarEngines }) (hmark _ _)⟩
    · split
      · exact ⟨_, _, _, hb, congrArg (fun k : DeckSt => { k with
          quarUnits := (List.range 16).foldl (fun l n => insertNat l (0x100 + 16 * q + n)) k.quarUnits }) (hmark _ _)⟩
      · split
        · exact ⟨_, _, _, hb, (part_of_hide (quadToVoid_hide (m := 2) (h_sub := rfl) ..) State.deck fun _ => rfl).trans (hmark _ _)⟩
        · exact ⟨_, _, _, hb, hmark _ _⟩

/-! The boundary in stages -/

/-- Where no promotion, stage change or SPINE reload waits, the boundary is the turn of the numbers, then the re-deal. -/
theorem dealBoundary_calm {u : BoundaryUpset} {s s0 : State} {d : DeckImage} (hd : actDeck s = some d) (hspine : s.deck.spineReload = false)
    (hs0 : u.failed.foldl (fun s b => quarantineBlock s b.val) (engineErrors u (storeSoFar s d u.skew)) = s0) (hctx : u.badCtx = [])
    (hp : s0.deck.promos = []) (hstage : s0.deck.stageNext = s0.deck.stage) :
    dealBoundary u s = redealStep (boundaryTurn u.skew d s0) d := by
  obtain ⟨t, q, p, hreal⟩ := realignRegions_deck (misaligned u.skew s0) (movedOn u.skew s0)
  obtain ⟨t', q', p', hturn⟩ := boundaryTurn_deck u.skew d s0
  rw [← realign_eq] at hreal
  have hprom : promoteStep ((realign u.skew s0).modDeck (fun k => { k with viol := [] })) =
      (realign u.skew s0).modDeck (fun k => { k with viol := [] }) := promoteStep_none ((congrArg DeckSt.promos hreal).trans hp)
  have happ : applyStage (boundaryTurn u.skew d s0) d = boundaryTurn u.skew d s0 := if_pos (by rw [hturn]; exact hstage)
  unfold dealBoundary
  rw [hd]; dsimp only
  rw [hs0, hspine, hctx, if_neg Bool.false_ne_true]
  refine (congrArg (fun x => redealStep (applyStage (handsReload d (slicesReload x)) d) d) hprom).trans ?_
  exact congrArg (redealStep · d) happ

theorem redealStep_none {s : State} (d : DeckImage) (h : s.deck.redeal = none) : redealStep s d = s := by
  simp only [redealStep, h]

/-- With no re-deal, the row is the turn of the numbers. -/
theorem exec_dealBoundary {u : BoundaryUpset} {s s0 : State} {d : DeckImage} (hd : actDeck s = some d) (hspine : s.deck.spineReload = false)
    (hs0 : u.failed.foldl (fun s b => quarantineBlock s b.val) (engineErrors u (storeSoFar s d u.skew)) = s0) (hctx : u.badCtx = [])
    (hp : s0.deck.promos = []) (hstage : s0.deck.stageNext = s0.deck.stage) (hr : s0.deck.redeal = none) :
    exec (.dealBoundary u) s = .next (boundaryTurn u.skew d s0) := by
  obtain ⟨t, q, p, hturn⟩ := boundaryTurn_deck u.skew d s0
  have hnone : (boundaryTurn u.skew d s0).deck.redeal = none := by rw [hturn]; exact hr
  exact congrArg _ ((dealBoundary_calm hd hspine hs0 hctx hp hstage).trans (redealStep_none d hnone))

/-- The same where what ends with the period is stored first, or needs no storing. -/
theorem exec_dealBoundary_skew {s : State} {d : DeckImage} (skew : BitVec 5) (hd : actDeck s = some d) (hspine : s.deck.spineReload = false)
    (hp : s.deck.promos = []) (hstage : s.deck.stageNext = s.deck.stage) (hr : s.deck.redeal = none) :
    exec (.dealBoundary { skew := skew }) s = .next (boundaryTurn skew d (storeSoFar s d skew)) := by
  have hcore := storeSoFar_deckCore s d skew
  have hstage' : (storeSoFar s d skew).deck.stageNext = (storeSoFar s d skew).deck.stage :=
    (congrArg DeckSt.stageNext hcore).trans (hstage.trans (congrArg DeckSt.stage hcore).symm)
  exact exec_dealBoundary (u := { skew := skew }) hd hspine rfl rfl ((congrArg DeckSt.promos hcore).trans hp) hstage'
    (redeal_of_deckCore hcore hr)

/-- With no region blocked and no guard that fails to count, nothing is stored at the boundary. -/
theorem exec_dealBoundary_quiet {s : State} {d : DeckImage} (hd : actDeck s = some d) (hspine : s.deck.spineReload = false)
    (hp : s.deck.promos = []) (hstage : s.deck.stageNext = s.deck.stage) (hr : s.deck.redeal = none) (hb : s.deck.blocked = []) :
    exec (.dealBoundary {}) s = .next (boundaryTurn 0 d s) := by
  have h := exec_dealBoundary_skew 0 hd hspine hp hstage hr
  rwa [storeSoFar_quiet d hb] at h

/-! The numbers by case -/

theorem countedNum_zero (s : State) (r : Nat) : countedNum 0 s r = dealNum s r + 1 := by simp [countedNum]

theorem guardNum_unblocked (skew : BitVec 5) {s : State} (h : s.deck.blocked = []) (r : Nat) : guardNum skew s r = countedNum skew s r := by
  simp [guardNum, h]

theorem dealNum_of_deckCore {s t : State} (h : t.deckCore = s.deckCore) (r : Nat) : dealNum t r = dealNum s r := by
  have hnum := congrArg DeckSt.num h
  exact congrArg (tabGet 0 · r) hnum

theorem getLsbD_skew (q : Fin 5) : ∀ r < 5, (BitVec.ofNat 5 (2 ^ q.val)).getLsbD r = decide (r = q.val) := by
  revert q; decide

section
variable {s : State} (d : DeckImage) {skew : BitVec 5} {q m : Nat} (hq : q < 5) (h : ∀ r < 5, r ≠ q → countedNum skew s r = m)
include hq h

/-- One guard has a number of its own: it is blocked with its flag set, and the others move on. -/
theorem boundaryTurn_one (hn : guardNum skew s q ≠ m) : (boundaryTurn skew d s).deck.cycle = 0 ∧ (boundaryTurn skew d s).deck.blocked = [q] ∧
    flagSet (boundaryTurn skew d s) (Reg.GUARD_STATUS q) 2 = true ∧ (∀ r < 5, r ≠ q → dealNum (boundaryTurn skew d s) r = m) := by
  have hmis := misaligned_one hq h hn
  obtain ⟨t, l, p, hdeck⟩ := boundaryTurn_deck skew d s
  refine ⟨by rw [hdeck], by rw [hdeck, hmis]; rfl, flagSet_boundaryTurn d hmis, fun r hr hrq => ?_⟩
  rw [dealNum_boundaryTurn skew d s hr, guardNum_of_four hq h hr hrq]

/-- All guards come to one number: none is blocked. -/
theorem boundaryTurn_none (hn : guardNum skew s q = m) : (boundaryTurn skew d s).deck.cycle = 0 ∧
    (∀ r < 5, dealNum (boundaryTurn skew d s) r = m) ∧ (boundaryTurn skew d s).deck.blocked = [] ∧
    (boundaryTurn skew d s).deck.active = s.deck.active ∧ (boundaryTurn skew d s).deck.viol = [] := by
  obtain ⟨t, l, p, hdeck⟩ := boundaryTurn_deck skew d s
  refine ⟨by rw [hdeck], fun r hr => ?_, by rw [hdeck, misaligned_nil hq h hn]; rfl, by rw [hdeck], by rw [hdeck]⟩
  rw [dealNum_boundaryTurn skew d s hr]
  exact if e : r = q then e ▸ hn else guardNum_of_four hq h hr e

end

/-! The re-deal -/

/-- A re-deal for which every group is IDLE takes effect as it waits. -/
theorem redealStep_idle {s : State} (d : DeckImage) {r : RedealSt} {b : DeckImage} (hr : s.deck.redeal = some r)
    (hb : slotDeck s r.slot = some b) (hidle : ∀ g, (grpOf s g).st = .idle) : redealStep s d = applyRedeal s r b (nextGroup s) := by
  have hready : (maskGroups r.groups).all (redealReady s) = true :=
    List.all_eq_true.2 fun g _ => by simp [redealReady, groupDone, hidle g]
  simp only [redealStep, hr, settleAll_idle d hidle, hb, hready, if_true]

/-- The state in which the new deck is the active one, before the units are set up. -/
def redealActive (s : State) (r : RedealSt) (b : DeckImage) : State :=
  ((maskGroups r.groups).foldl (fun s g => finishClose s ((actDeck s).getD b) g) s).modDeck (fun k => { k with
    active := some (r.slot, b), redeal := none, quarUnits := []
    shed := k.shed.filter (fun g => !(maskGroups r.groups).contains g) })

/-- The state in which the units are set up for the new deck, before the command ends. -/
def redealSetUp (s : State) (r : RedealSt) (b : DeckImage) : State :=
  dealEngines b (dealIds b ((maskGroups r.groups).foldl (fun s g => setGrp s g { grpOf s g with post := if gV b g then gPost b g else 0 })
    (redealActive s r b)))

theorem applyRedeal_eq {s : State} {r : RedealSt} (b : DeckImage) (sb : Sample) (hw : r.waiting = []) : applyRedeal s r b sb =
    endRun (logDeck (redealSetUp s r b) b (dealNum (redealSetUp s r b) 4) 1) r.ring r.cid cOk 0 (dealNum (redealSetUp s r b) 4) := by
  simp only [applyRedeal, hw, List.map_nil, List.foldl_nil, rearmWaiting, redealSetUp, redealActive]

theorem redealSetUp_deck (s : State) (r : RedealSt) (b : DeckImage) : (redealSetUp s r b).deck = (redealActive s r b).deck :=
  part_of_hide (m := 524290) (by simp [redealSetUp]) State.deck fun _ => rfl

theorem redealSetUp_cmd (s : State) (r : RedealSt) (b : DeckImage) : (redealSetUp s r b).cmd = s.cmd :=
  part_of_hide (m := 135933218) (by simp [redealSetUp, redealActive]) State.cmd fun _ => rfl

/-- The re-deal's deck is the active deck, and its command completes OK with the deal number. -/
theorem applyRedeal_spec {s u : State} {r : RedealSt} (b : DeckImage) (sb : Sample) (hw : r.waiting = []) (hc : u.cmd = s.cmd)
    (hrun : s.runs r.ring r.cid 0x0204) : (applyRedeal u r b sb).deck.active = some (r.slot, b) ∧ (applyRedeal u r b sb).deck.redeal = none ∧
    (applyRedeal u r b sb).cmd = s.ending r.ring r.cid cOk 0 (dealNum (applyRedeal u r b sb) 4) := by
  have hdeck : (applyRedeal u r b sb).deck = (redealSetUp u r b).deck := by
    rw [applyRedeal_eq b sb hw]
    exact (endRun_part _ _ _ _ _ _ State.deck fun _ => rfl).trans
      (part_of_hide (logDeck_hide (m := 1024) (h_sub := rfl) ..) State.deck fun _ => rfl)
  have hnum : dealNum (applyRedeal u r b sb) 4 = dealNum (redealSetUp u r b) 4 := congrArg (fun k : DeckSt => tabGet 0 k.num 4) hdeck
  have hcmd : (logDeck (redealSetUp u r b) b (dealNum (redealSetUp u r b) 4) 1).cmd = s.cmd :=
    (part_of_hide (logDeck_hide (m := 1024) (h_sub := rfl) ..) State.cmd fun _ => rfl).trans ((redealSetUp_cmd u r b).trans hc)
  refine ⟨?_, ?_, ?_⟩
  · rw [hdeck, redealSetUp_deck]; rfl
  · rw [hdeck, redealSetUp_deck]; rfl
  · rw [hnum, applyRedeal_eq b sb hw]; exact endRun_cmd_of_cmd hcmd _ _ _ hrun

/-- Settles O23. With no re-deal the row is `boundaryTurn`, and the clauses are its cases: the guards agree, one differs, one was blocked;
with a re-deal and every group IDLE nothing is stored before the turn, and the deck changes after it. -/
theorem dealBoundaryMovesTheDealOn : Obligations.DealBoundaryMovesTheDealOn := by
  unfold Obligations.DealBoundaryMovesTheDealOn
  intro s d hd hp hstage hspine
  have hcounted {k : Nat} {q : Nat} (hk : ∀ r < 5, r ≠ q → dealNum s r = k) : ∀ r < 5, r ≠ q → countedNum 0 s r = k + 1 :=
    fun r hr hrq => by rw [countedNum_zero, hk r hr hrq]
  refine ⟨fun hr k hk hb => ?_, fun hr q k hk hb => ?_, fun hr hb q k hq hne hk => ?_, fun hr q k hq hb hk => ?_,
    fun r b hr hslot hw hrun hidle => ?_, fun hr hb b => ?_⟩
  case refine_1 =>
    have h := hcounted (q := 0) fun r hr _ => hk r hr
    have hn : guardNum 0 s 0 = k + 1 := by rw [guardNum_unblocked 0 hb, countedNum_zero, hk 0 (by decide)]
    obtain ⟨hcycle, hnum, hblocked, hactive, hviol⟩ := boundaryTurn_none d (by decide) h hn
    obtain ⟨hframe, hcalm⟩ := boundaryTurn_aligned d (misaligned_nil (by decide) h hn)
    exact ⟨_, exec_dealBoundary_quiet hd hspine hp hstage hr hb, hcycle, hnum, hblocked, hactive, hviol, hframe, hcalm⟩
  case refine_2 =>
    have hskew := getLsbD_skew q
    generalize BitVec.ofNat 5 (2 ^ q.val) = skew at hskew ⊢
    have hcore := storeSoFar_deckCore s d skew
    have hexec := exec_dealBoundary_skew skew hd hspine hp hstage hr
    generalize storeSoFar s d skew = s0 at hcore hexec
    have hnum (r : Nat) (h5 : r < 5) : dealNum s0 r = k := (dealNum_of_deckCore hcore r).trans (hk r h5)
    have h : ∀ r < 5, r ≠ q.val → countedNum skew s0 r = k + 1 := fun r h5 hrq => by
      rw [countedNum, hskew r h5, decide_eq_false hrq, if_neg Bool.false_ne_true, hnum r h5]
    have hq : guardNum skew s0 q = k := by
      rw [guardNum_unblocked skew ((congrArg DeckSt.blocked hcore).trans hb), countedNum, hskew q q.isLt, decide_eq_true rfl, if_pos rfl,
        hnum q q.isLt]
    obtain ⟨hcycle, hblocked, hflag, hothers⟩ := boundaryTurn_one d q.isLt h (by omega)
    exact ⟨_, hexec, hcycle, hblocked, hflag, (dealNum_boundaryTurn _ d s0 q.isLt).trans hq, hothers⟩
  case refine_3 =>
    have hn : guardNum 0 s q ≠ k + 1 := by rw [guardNum_unblocked 0 hb, countedNum_zero]; omega
    obtain ⟨hcycle, hblocked, hflag, hothers⟩ := boundaryTurn_one d hq (hcounted hk) hn
    exact ⟨_, exec_dealBoundary_quiet hd hspine hp hstage hr hb, hcycle, hblocked, hflag, hothers, boundaryTurn_hide 0 d s rfl⟩
  case refine_4 =>
    have hcore := storeSoFar_deckCore s d 0
    have h : ∀ r < 5, r ≠ q → countedNum 0 (storeSoFar s d 0) r = k + 1 := fun r h5 hrq => by
      rw [countedNum_zero, dealNum_of_deckCore hcore, hk r h5 hrq]
    have hn : guardNum 0 (storeSoFar s d 0) q = k + 1 := by
      have hbq : (storeSoFar s d 0).deck.blocked = [q] := (congrArg DeckSt.blocked hcore).trans hb
      rw [guardNum, hbq, if_pos (by simp), agreedNum_of_four hq h]
    obtain ⟨-, hnum, hblocked, -, -⟩ := boundaryTurn_none d hq h hn
    exact ⟨_, exec_dealBoundary_skew 0 hd hspine hp hstage hr, hblocked, hnum⟩
  case refine_5 =>
    obtain ⟨t, l, p, hturn⟩ := boundaryTurn_deck 0 d s
    have hgrp (g : Nat) : (grpOf (boundaryTurn 0 d s) g).st = .idle :=
      (congrArg GroupSt.st (part_of_hide (boundaryTurn_hide 0 d s (m := 435458) rfl) (fun x => grpOf x g) fun _ => rfl)).trans (hidle g)
    have hcmd : (boundaryTurn 0 d s).cmd = s.cmd := part_of_hide (boundaryTurn_hide 0 d s (m := 435458) rfl) State.cmd fun _ => rfl
    have hstore : storeSoFar s d 0 = s := storeSoFar_idle d hidle 0
    have hexec : exec (.dealBoundary {}) s = .next (applyRedeal (boundaryTurn 0 d s) r b (nextGroup (boundaryTurn 0 d s))) :=
      congrArg _ ((dealBoundary_calm (u := {}) hd hspine hstore rfl hp hstage).trans
        (redealStep_idle d (by rw [hturn]; exact hr) (by rw [slotDeck, hturn]; exact hslot) hgrp))
    exact ⟨_, hexec, applyRedeal_spec b _ hw hcmd hrun⟩
  case refine_6 =>
    obtain ⟨l, e, u, hmem, hdeck⟩ := quarantineBlock_deck s b.val
    obtain ⟨t, l', p, hturn⟩ := boundaryTurn_deck 0 d (quarantineBlock s b.val)
    refine ⟨_, exec_dealBoundary (u := { failed := [b] }) (s0 := quarantineBlock s b.val) hd hspine ?_ rfl ?_ ?_ ?_, ?_⟩
    · exact congrArg (quarantineBlock · b.val) (storeSoFar_quiet d hb)
    · rw [hdeck]; exact hp
    · rw [hdeck]; exact hstage
    · rw [hdeck]; exact hr
    · rw [show ({ failed := [b] } : BoundaryUpset).skew = 0 from rfl, hturn, hdeck]; exact hmem

end Sys2Proof.Machine

/-!
PROOF. Reading a group and its lanes after a change of either, and what an operation that only asks the partner for something leaves: the
lanes, the group's state, and every register but the group's MRX_TRAIN_STATUS (R286, R304, R312).
-/

namespace Sys2Proof.Machine

/-! Groups and lanes after a change -/

section
variable (s : State) (g i : Nat) (f : LaneSt → LaneSt)

theorem laneOf_modLane_same : laneOf (modLane s g i f) g i = f (laneOf s g i) := by
  rw [laneOf, modLane, linkOf_modLk_same, tabMod, tabGet_tabPut_same]; rfl

theorem laneOf_modLane_other {k : Nat} (h : k ≠ i) : laneOf (modLane s g i f) g k = laneOf s g k := by
  rw [laneOf, modLane, linkOf_modLk_same, tabMod, tabGet_tabPut_other _ _ _ h]; rfl

/-- What is read of a group and not of its lanes is as before a lane's change. -/
theorem linkOf_modLane {α : Type} (p : GroupLink → α) (hp : ∀ l t, p { l with lanes := t } = p l) :
    p (linkOf (modLane s g i f) g) = p (linkOf s g) := by
  rw [modLane, linkOf_modLk_same, hp]

@[simp] theorem st_modLane : (linkOf (modLane s g i f) g).st = (linkOf s g).st := linkOf_modLane s g i f GroupLink.st fun _ _ => rfl

@[simp] theorem servedBy_modLane (k : Nat) : servedBy (linkOf (modLane s g i f) g) k = servedBy (linkOf s g) k :=
  linkOf_modLane s g i f (servedBy · k) fun _ _ => rfl

end

theorem linkK_of_eq {s t : State} {g : Nat} (hdeck : t.deck = s.deck) (hmode : (linkOf t g).mode = (linkOf s g).mode) :
    linkK t g = linkK s g := by
  unfold linkK actDeck
  rw [hdeck, hmode]

theorem linkK_modLane (s : State) (g i : Nat) (f : LaneSt → LaneSt) : linkK (modLane s g i f) g = linkK s g :=
  linkK_of_eq rfl (linkOf_modLane s g i f GroupLink.mode fun _ _ => rfl)

theorem linkOf_modLk_lanes {s : State} {g : Nat} {f : GroupLink → GroupLink} (k : Nat) (h : (f (linkOf s g)).lanes = (linkOf s g).lanes) :
    laneOf (modLk s g f) g k = laneOf s g k := by
  rw [laneOf, linkOf_modLk_same, h]; rfl

/-- A change of every lane of a group. -/
theorem tabGet_foldl_tabMod {f : Nat → LaneSt → LaneSt} (i : Nat) : ∀ (l : List Nat) (t : Tab LaneSt), l.Nodup →
    tabGet {} (l.foldl (fun t k => tabMod {} t k (f k)) t) i = if i ∈ l then f i (tabGet {} t i) else tabGet {} t i
  | [], _, _ => by simp
  | a :: l, t, hnd => by
    obtain ⟨ha, hl⟩ := List.nodup_cons.1 hnd
    rw [List.foldl_cons, tabGet_foldl_tabMod i l _ hl, tabMod]
    by_cases hia : i = a
    · subst hia
      simp [ha]
    · rw [tabGet_tabPut_other _ _ _ hia]
      simp [hia]

/-! Parts through a flag -/

section
variable (s : State) (o b cls src cell : Nat)

@[simp] theorem raiseBit_link : (raiseBit s o b).link = s.link := raiseBit_part s o b State.link fun _ => rfl
@[simp] theorem raiseBit_ingest : (raiseBit s o b).ingest = s.ingest := raiseBit_part s o b State.ingest fun _ => rfl
@[simp] theorem raiseErr_link : (raiseErr s o b cls src cell).link = s.link := raiseBit_link s o b

end

/-! Asking -/

/-- What asking the partner, or the Shepherd's answer that there is no spare, leaves of group `g`. -/
structure State.asked (g : Nat) (s t : State) : Prop where
  lanes : (linkOf t g).lanes = (linkOf s g).lanes
  st : (linkOf t g).st = (linkOf s g).st
  regs : s.regsBut [Reg.MRX_TRAIN_STATUS g, Reg.PCIE_STATUS] t

section
variable {g : Nat} {s t u : State}

theorem State.asked.lane (h : s.asked g t) (i : Nat) : laneOf t g i = laneOf s g i := congrArg (tabGet ({} : LaneSt) · i) h.lanes

theorem State.asked.trans (h : s.asked g t) (h' : t.asked g u) : s.asked g u :=
  ⟨h'.lanes.trans h.lanes, h'.st.trans h.st, regsBut_trans h.regs h'.regs⟩

theorem asked_of_eq (hl : t.link = s.link) (hr : t.regs = s.regs) : s.asked g t :=
  ⟨by rw [linkOf, hl]; rfl, by rw [linkOf, hl]; rfl, regsBut_of_eq hr⟩

theorem asked_modLk (s : State) {f : GroupLink → GroupLink} (hl : (f (linkOf s g)).lanes = (linkOf s g).lanes)
    (hs : (f (linkOf s g)).st = (linkOf s g).st) : s.asked g (modLk s g f) :=
  ⟨by rw [linkOf_modLk_same, hl], by rw [linkOf_modLk_same, hs], regsBut_of_eq rfl⟩

theorem asked_raiseErr (s : State) (b cls src cell : Nat) :
    s.asked g (raiseErr s (Reg.MRX_TRAIN_STATUS g) b cls src cell) :=
  ⟨by rw [linkOf, raiseErr_link]; rfl, by rw [linkOf, raiseErr_link]; rfl, regsBut_raiseErr _ _ _ _ _ _⟩

theorem asked_endCommit (s : State) (j status result : Nat) : s.asked g (endCommit s g j status result) :=
  asked_of_eq (part_of_hide (endCommit_hide (m := 1152) (h_sub := rfl) ..) State.link fun _ => rfl)
    (part_of_hide (endCommit_hide (m := 1152) (h_sub := rfl) ..) State.regs fun _ => rfl)

theorem asked_foldl {α : Type} (f : State → α → State) (h : ∀ (s : State) x, s.asked g (f s x)) :
    ∀ (l : List α) (s : State), s.asked g (l.foldl f s)
  | [], _ => asked_of_eq rfl rfl
  | x :: l, s => (h s x).trans (asked_foldl f h l (f s x))

theorem asked_reportCells (block : Nat) (quar cells : List Nat) (report : State → Nat → State)
    (h : ∀ (s : State) x, s.asked g (report s x)) (s : State) : s.asked g (reportCells s block quar cells report) := by
  have hfold := asked_foldl report h (grantOrder (tabGet 0 s.log.turns block) quar cells) s
  unfold reportCells; dsimp only
  split
  · exact hfold
  · exact hfold.trans (asked_of_eq rfl rfl)

theorem asked_pumpSb (s : State) : s.asked g (pumpSb s g) := by
  unfold pumpSb; dsimp only
  split
  · split
    · exact asked_of_eq rfl rfl
    · unfold sbSend
      exact (asked_modLk s (by rfl) (by rfl)).trans (asked_modLk _ (by rfl) (by rfl))
  · exact asked_of_eq rfl rfl

theorem asked_sbAsk (s : State) (type : Byte) (payload : List Byte) : s.asked g (sbAsk s g type payload) :=
  (asked_modLk s rfl rfl).trans (asked_pumpSb _)

theorem asked_negAsk (s : State) (j fails : Nat) : s.asked g (negAsk s g j fails) := by
  have hfree : s.asked g (if g < 4 then useFree s else s) := by split <;> exact asked_of_eq rfl rfl
  unfold negAsk; dsimp only
  exact (hfree.trans (asked_modLk _ rfl rfl)).trans (asked_sbAsk _ _ _)

theorem asked_trySpare (s : State) : s.asked g (trySpare s g) := by
  unfold trySpare; dsimp only
  split
  · split
    · exact asked_negAsk s _ _
    · exact (asked_modLk s rfl rfl).trans
        (asked_reportCells _ _ _ _ (fun s k => (asked_raiseErr s _ _ _ _).trans (asked_endCommit _ _ _ _)) _)
  · exact asked_of_eq rfl rfl

theorem asked_wantSpare (s : State) (j : Nat) : s.asked g (wantSpare s g j) :=
  (asked_modLk s rfl rfl).trans (asked_trySpare _)

end

end Sys2Proof.Machine

/-!
PROOF. A lane that loses lock (R84, R302), and an attempt of the lane procedure that fails (R302, R303).
-/

namespace Sys2Proof.Machine

/-! Lanes and positions -/

theorem rxLane_group_lt (n : Fin 68) : (rxLane n).1 < 4 := by unfold rxLane; split <;> dsimp only <;> omega

/-- A lane serves a position of its group. -/
theorem servedBy_lt {l : GroupLink} {i j : Nat} (hi : i ≤ 16) (h : servedBy l i = some j) : j < 16 := by
  unfold servedBy at h
  split at h
  · split at h
    · obtain rfl := Option.some.inj h; exact Fin.isLt _
    · split at h
      · cases h
      · obtain rfl := Option.some.inj h; omega
  · split at h
    · obtain rfl := Option.some.inj h; assumption
    · cases h

theorem position_div {g j : Nat} (hj : j < 16) : (16 * g + j) / 16 = g := by omega

theorem position_mod {g j : Nat} (hj : j < 16) : (16 * g + j) % 16 = j := by omega

theorem regsBut_setPosVoid (s : State) {g j : Nat} (hj : j < 16) (b : Bool) :
    s.regsBut [Reg.INGEST_POS g j] (setPosVoid s (16 * g + j) b) := by
  unfold setPosVoid
  rw [position_div hj, position_mod hj]
  exact regsBut_wrF _ _ _ _ _

theorem posVoid_setPosVoid (s : State) (p : Nat) (b : Bool) : posVoid (setPosVoid s p b) p = (b || quadVoid s (p / 16)) := by
  unfold posVoid setPosVoid
  rw [rdF_wrF_same _ _ _ (by decide)]
  cases b || quadVoid s (p / 16) <;> rfl

/-- Where a position's register stays, so does its VOID bit. -/
theorem posVoid_of_regsBut {s t : State} {os : List Nat} (h : s.regsBut os t) {g j : Nat} (hj : j < 16) (ho : Reg.INGEST_POS g j ∉ os) :
    posVoid t (16 * g + j) = posVoid s (16 * g + j) := by
  unfold posVoid
  rw [position_div hj, position_mod hj, h.rdF 16 16 ho (by unfold Reg.INGEST_POS; omega)]

/-! A lane that loses lock -/

/-- What loss of lock makes of a lane. -/
def LaneSt.relocked (x : LaneSt) : LaneSt := { x with
  st := .relock, attempts := 0, single := false, good := 0, lock := false, dataCnt := 0, crcFails := 0, sinceFail := 9
  markerNo := none, passed := false }

/-- The state in which the lane searches again and its position is void, before the loss is flagged and counted. -/
def laneUnlocked (s : State) (g i : Nat) : State :=
  match servedBy (linkOf s g) i with
  | some j => if g < 4 then setPosVoid (modLane s g i LaneSt.relocked) (16 * g + j) true else modLane s g i LaneSt.relocked
  | none => modLane s g i LaneSt.relocked

theorem laneLost_eq (s : State) (g i : Nat) :
    laneLost s g i = countLost (raiseErr (laneUnlocked s g i) (Reg.MRX_LANE_TSTAT g i) 0 2 (laneSrc g i) i) g i := rfl

theorem asked_countLost (s : State) (g i : Nat) : s.asked g (countLost s g i) := by
  unfold countLost; dsimp only
  split
  · split
    · refine State.asked.trans ?_ (asked_wantSpare _ _)
      exact asked_of_eq rfl rfl
    · exact asked_of_eq rfl rfl
  · exact asked_of_eq rfl rfl

theorem laneUnlocked_link (s : State) (g i : Nat) : (laneUnlocked s g i).link = (modLane s g i LaneSt.relocked).link := by
  unfold laneUnlocked
  split
  · split <;> rfl
  · rfl

/-- The registers that a lane's loss of lock can change, the interrupt tree apart. -/
def lossRegs (g i : Nat) : List Nat :=
  Reg.MRX_LANE_TSTAT g i :: Reg.MRX_TRAIN_STATUS g :: Reg.PCIE_STATUS :: (List.range 16).map (Reg.INGEST_POS g)

theorem not_mem_lossRegs {g i o : Nat} (hstat : o ≠ Reg.MRX_LANE_TSTAT g i) (htrain : o ≠ Reg.MRX_TRAIN_STATUS g)
    (hpcie : o ≠ Reg.PCIE_STATUS) (hpos : ∀ j < 16, o ≠ Reg.INGEST_POS g j) : o ∉ lossRegs g i := by
  simp only [lossRegs, List.mem_cons, List.mem_map, List.mem_range, not_or, not_exists, not_and]
  exact ⟨hstat, htrain, hpcie, fun j hj he => hpos j hj he.symm⟩

section
variable (s : State) {g i : Nat} (hg : g < 4) (hi : i ≤ 16)

include hi in
theorem regsBut_laneUnlocked : s.regsBut ((List.range 16).map (Reg.INGEST_POS g)) (laneUnlocked s g i) := by
  unfold laneUnlocked
  split
  next j hj =>
    have hlt := servedBy_lt hi hj
    split
    · refine regsBut_mono (fun o ho => ?_) (regsBut_setPosVoid (modLane s g i LaneSt.relocked) hlt true)
      rw [List.mem_singleton.1 ho]
      exact List.mem_map_of_mem (List.mem_range.2 hlt)
    · exact regsBut_of_eq rfl
  · exact regsBut_of_eq rfl

include hi in
theorem regsBut_laneLost : s.regsBut (lossRegs g i) (laneLost s g i) := by
  rw [laneLost_eq]
  refine regsBut_trans (regsBut_mono (fun o ho => ?_) (regsBut_laneUnlocked s hi))
    (regsBut_trans (regsBut_mono (by simp [lossRegs]) (regsBut_raiseErr _ _ _ _ _ _))
      (regsBut_mono (by simp [lossRegs]) (asked_countLost _ g i).regs))
  exact List.mem_cons_of_mem _ (List.mem_cons_of_mem _ (List.mem_cons_of_mem _ ho))

theorem laneOf_laneLost (k : Nat) : laneOf (laneLost s g i) g k = laneOf (modLane s g i LaneSt.relocked) g k := by
  rw [laneLost_eq, (asked_countLost _ g i).lane, laneOf, linkOf, raiseErr_link, laneUnlocked_link]; rfl

/-- A lane's loss of lock as the statement has it. -/
def LaneLost (g i : Nat) (s t : State) : Prop :=
  (laneOf t g i).st = .relock ∧ (laneOf t g i).lock = false ∧ flagSet t (Reg.MRX_LANE_TSTAT g i) 0 = true ∧
    (∀ j, servedBy (linkOf s g) i = some j → posVoid t (16 * g + j) = true) ∧ (∀ k, k ≠ i → (laneOf t g k).st = (laneOf s g k).st)

include hg hi in
theorem offTree_tstat : ¬(0x200 ≤ Reg.MRX_LANE_TSTAT g i ∧ Reg.MRX_LANE_TSTAT g i < 0x1000) ∧ Reg.MRX_LANE_TSTAT g i ≠ Reg.PCIE_STATUS ∧
    Reg.MRX_LANE_TSTAT g i ≠ Reg.MRX_TRAIN_STATUS g ∧ ∀ j, Reg.INGEST_POS g j ≠ Reg.MRX_LANE_TSTAT g i := by
  unfold Reg.MRX_LANE_TSTAT Reg.PCIE_STATUS Reg.MRX_TRAIN_STATUS Reg.INGEST_POS
  exact ⟨by omega, by omega, by omega, fun j => by omega⟩

theorem ingestPos_free (g j : Nat) : ¬(0x200 ≤ Reg.INGEST_POS g j ∧ Reg.INGEST_POS g j < 0x1000) ∧ Reg.INGEST_POS g j ≠ Reg.PCIE_STATUS ∧
    (g < 4 → Reg.INGEST_POS g j ≠ Reg.MRX_TRAIN_STATUS g) := by
  unfold Reg.PCIE_STATUS Reg.MRX_TRAIN_STATUS Reg.INGEST_POS
  omega

include hg hi in
theorem laneLost_spec : LaneLost g i s (laneLost s g i) := by
  obtain ⟨htree, hpcie, htrain, hpos⟩ := offTree_tstat hg hi
  refine ⟨?_, ?_, ?_, fun j hj => ?_, fun k hk => ?_⟩
  · rw [laneOf_laneLost, laneOf_modLane_same]; rfl
  · rw [laneOf_laneLost, laneOf_modLane_same]; rfl
  · rw [laneLost_eq, (asked_countLost _ g i).regs.flagSet 0 (by simp [htrain, hpcie]) htree]
    exact flagSet_raiseErr _ _ _ _ _ _ (by decide) htree hpcie
  · have hlt := servedBy_lt hi hj
    obtain ⟨-, hp, ht⟩ := ingestPos_free g j
    rw [laneLost_eq, posVoid_of_regsBut (asked_countLost _ g i).regs hlt (by simp [hp, ht hg]),
      posVoid_of_regsBut (regsBut_raiseErr _ _ _ _ _ _) hlt (by simp [hp, hpos])]
    simp only [laneUnlocked, hj, hg, if_true]
    rw [posVoid_setPosVoid]; rfl
  · rw [laneOf_laneLost, laneOf_modLane_other _ _ _ _ hk]

end

/-! Loss of lock within a row: what went before touched this lane alone -/

/-- The positions that the lanes of group `g` serve are the same, and so are the lanes but for lane `i`. -/
structure State.otherLanes (g i : Nat) (s t : State) : Prop where
  served : servedBy (linkOf t g) i = servedBy (linkOf s g) i
  lanes : ∀ k, k ≠ i → laneOf t g k = laneOf s g k

section
variable {g i : Nat} {s t u : State}

theorem State.otherLanes.trans (h : s.otherLanes g i t) (h' : t.otherLanes g i u) : s.otherLanes g i u :=
  ⟨h'.served.trans h.served, fun k hk => (h'.lanes k hk).trans (h.lanes k hk)⟩

theorem otherLanes_of_eq (h : t.link = s.link) : s.otherLanes g i t :=
  ⟨by rw [linkOf, h]; rfl, fun k _ => by rw [laneOf, linkOf, h]; rfl⟩

theorem otherLanes_modLane (s : State) (f : LaneSt → LaneSt) : s.otherLanes g i (modLane s g i f) :=
  ⟨servedBy_modLane .., fun _ hk => laneOf_modLane_other _ _ _ _ hk⟩

theorem LaneLost.before (h : LaneLost g i t u) (ho : s.otherLanes g i t) : LaneLost g i s u := by
  obtain ⟨hst, hlock, hflag, hvoid, hothers⟩ := h
  exact ⟨hst, hlock, hflag, fun j hj => hvoid j (ho.served.trans hj), fun k hk => (hothers k hk).trans (congrArg LaneSt.st (ho.lanes k hk))⟩

theorem LaneLost.after {f : LaneSt → LaneSt} (h : LaneLost g i s t) (hst : ∀ x, (f x).st = x.st) (hlock : ∀ x, (f x).lock = x.lock) :
    LaneLost g i s (modLane t g i f) := by
  obtain ⟨h1, h2, hflag, hvoid, hothers⟩ := h
  refine ⟨?_, ?_, hflag, hvoid, fun k hk => ?_⟩
  · rw [laneOf_modLane_same, hst, h1]
  · rw [laneOf_modLane_same, hlock, h2]
  · rw [laneOf_modLane_other _ _ _ _ hk, hothers k hk]

end

/-! A failed attempt -/

/-- What a failed attempt of lane `i` comes to, as the statement has it. -/
def AttemptFailed (g i : Nat) (s t : State) : Prop :=
  ((laneOf s g i).st = .relevel ∨ (laneOf s g i).single = true →
    ((laneOf s g i).attempts < 2 → (laneOf t g i).st = .relevel) ∧
    (2 ≤ (laneOf s g i).attempts → (laneOf t g i).st = .excluded ∧ flagSet t (Reg.MRX_LANE_TSTAT g i) 1 = true ∧
      flagSet t (Reg.MRX_LANE_TSTAT g i) 3 = true)) ∧
  ((laneOf s g i).st ≠ .relevel → (laneOf s g i).single = false →
    ((laneOf s g i).attempts < 2 → (laneOf t g i).st = .relock ∧ (laneOf t g i).attempts = (laneOf s g i).attempts + 1) ∧
    (2 ≤ (laneOf s g i).attempts → (laneOf t g i).st = .relevel))

theorem laneOf_askRelevel (s : State) (g i : Nat) : (laneOf (askRelevel s g i) g i).st = .relevel := by
  rw [askRelevel, (asked_sbAsk _ _ _).lane, laneOf_modLane_same]

/-- The state in which lane `i` is EXCLUDED and its flags are set, before its position asks for the spare. -/
def laneExcluded (s : State) (g i : Nat) : State :=
  raise (modLk s g (fun l => { l with
    excl := l.excl ||| BitVec.ofNat 17 (2 ^ i), lanes := tabMod {} l.lanes i (fun x => { x with st := .excluded, lock := false }) }))
    (Reg.MRX_LANE_TSTAT g i) 0xA

theorem asked_excludeLane (s : State) (g i : Nat) : (laneExcluded s g i).asked g (excludeLane s g i) := by
  unfold excludeLane laneExcluded; dsimp only
  split
  · split
    · refine State.asked.trans ?_ (asked_wantSpare _ _)
      exact asked_of_eq rfl rfl
    · exact asked_of_eq rfl rfl
  · exact asked_of_eq rfl rfl

theorem laneOf_excludeLane (s : State) (g i : Nat) : (laneOf (excludeLane s g i) g i).st = .excluded := by
  have hlink := part_of_hide (raise_hide (m := 258) (h_sub := rfl) (modLk s g (fun l => { l with
    excl := l.excl ||| BitVec.ofNat 17 (2 ^ i), lanes := tabMod {} l.lanes i (fun x => { x with st := .excluded, lock := false }) }))
    (Reg.MRX_LANE_TSTAT g i) 0xA) (fun x => laneOf x g i) fun _ => rfl
  rw [(asked_excludeLane s g i).lane, laneExcluded, hlink, laneOf, linkOf_modLk_same, tabMod, tabGet_tabPut_same]

theorem flagSet_excludeLane (s : State) {g i : Nat} (hg : g < 4) (hi : i ≤ 16) {b : Nat} (hb : b = 1 ∨ b = 3) :
    flagSet (excludeLane s g i) (Reg.MRX_LANE_TSTAT g i) b = true := by
  obtain ⟨htree, hpcie, htrain, -⟩ := offTree_tstat hg hi
  rw [(asked_excludeLane s g i).regs.flagSet b (by simp [htrain, hpcie]) htree, laneExcluded,
    flagSet_raise _ _ _ _ (by omega) htree hpcie]
  rcases hb with rfl | rfl <;> simp

section
variable (s : State) (g i : Nat)

/-- The group without the queued requests of this lane. -/
def withoutLaneReqs (s : State) (g i : Nat) : State :=
  modLk s g (fun l => { l with queue := l.queue.filter (fun r => !(r.type == 2 && trainMask r.payload == 2 ^ i)) })

/-- The step that follows a failed attempt, by what has failed and how often. -/
theorem laneAttemptFailed_cases :
    ((laneOf s g i).st = .relevel ∨ (laneOf s g i).single = true → (laneOf s g i).attempts < 2 →
      laneAttemptFailed s g i = askRelevel (modLane (withoutLaneReqs s g i) g i (fun x => { x with
        attempts := (laneOf s g i).attempts + 1, single := true })) g i) ∧
    ((laneOf s g i).st = .relevel ∨ (laneOf s g i).single = true → 2 ≤ (laneOf s g i).attempts →
      laneAttemptFailed s g i = excludeLane (modLane (withoutLaneReqs s g i) g i (fun x => { x with attempts := 3 })) g i) ∧
    (¬((laneOf s g i).st = .relevel ∨ (laneOf s g i).single = true) → (laneOf s g i).attempts < 2 →
      laneAttemptFailed s g i = modLane (withoutLaneReqs s g i) g i (fun x => { x with
        st := .relock, attempts := (laneOf s g i).attempts + 1, good := 0, lock := false })) ∧
    (¬((laneOf s g i).st = .relevel ∨ (laneOf s g i).single = true) → 2 ≤ (laneOf s g i).attempts →
      laneAttemptFailed s g i = askRelevel (modLane (withoutLaneReqs s g i) g i (fun x => { x with attempts := 0, single := true })) g i) := by
  unfold laneAttemptFailed withoutLaneReqs; dsimp only
  refine ⟨fun h hn => ?_, fun h hn => ?_, fun h hn => ?_, fun h hn => ?_⟩
  · rw [if_pos h, if_neg (by omega)]
  · rw [if_pos h, if_pos (by omega)]
  · rw [if_neg h, if_neg (by omega)]
  · rw [if_neg h, if_pos (by omega)]

theorem laneAttemptFailed_spec {g i : Nat} (hg : g < 4) (hi : i ≤ 16) : AttemptFailed g i s (laneAttemptFailed s g i) := by
  obtain ⟨hlevel, hout, hlock, hlast⟩ := laneAttemptFailed_cases s g i
  refine ⟨fun h => ⟨fun hn => ?_, fun hn => ?_⟩, fun hst hs => ⟨fun hn => ?_, fun hn => ?_⟩⟩
  · rw [hlevel h hn]; exact laneOf_askRelevel ..
  · rw [hout h hn]
    exact ⟨laneOf_excludeLane .., flagSet_excludeLane _ hg hi (.inl rfl), flagSet_excludeLane _ hg hi (.inr rfl)⟩
  · rw [hlock (by simp [hst, hs]) hn, laneOf_modLane_same]
    exact ⟨rfl, rfl⟩
  · rw [hlast (by simp [hst, hs]) hn]; exact laneOf_askRelevel ..

/-- After a failed attempt the lane is not in ACTIVE. -/
theorem laneAttemptFailed_not_active : (laneOf (laneAttemptFailed s g i) g i).st ≠ .active := by
  obtain ⟨hlevel, hout, hlock, hlast⟩ := laneAttemptFailed_cases s g i
  by_cases h : (laneOf s g i).st = .relevel ∨ (laneOf s g i).single = true <;> by_cases hn : (laneOf s g i).attempts < 2
  · rw [hlevel h hn, laneOf_askRelevel]; decide
  · rw [hout h (by omega), laneOf_excludeLane]; decide
  · rw [hlock h hn, laneOf_modLane_same]; exact LaneState.noConfusion
  · rw [hlast h (by omega), laneOf_askRelevel]; decide

end

end Sys2Proof.Machine

/-!
PROOF. What a position takes at a block slot (R73, R83, R84, R90, R96), and the blocks of a lane in ACTIVE (Table 12-4, R282-R284).
-/

namespace Sys2Proof.Machine

/-! What a lane's change leaves -/

section
variable (s : State) (g i : Nat) (f : LaneSt → LaneSt)

@[simp] theorem modLane_regs : (modLane s g i f).regs = s.regs := rfl
@[simp] theorem modLane_ingest : (modLane s g i f).ingest = s.ingest := rfl
@[simp] theorem modLane_deck : (modLane s g i f).deck = s.deck := rfl
@[simp] theorem modLane_tb : (modLane s g i f).tb = s.tb := rfl
@[simp] theorem rd_modLane (o : Nat) : rd (modLane s g i f) o = rd s o := rfl
@[simp] theorem flagSet_modLane (o b : Nat) : flagSet (modLane s g i f) o b = flagSet s o b := rfl
@[simp] theorem quadVoid_modLane (q : Nat) : quadVoid (modLane s g i f) q = quadVoid s q := rfl
@[simp] theorem blkState_modLane (o : Nat) : blkState (modLane s g i f) o = blkState s o := rfl

end

/-! The next index of a position -/

section
variable (s : State) (p : Nat) (at_ : Option Sample)

theorem laneOf_setPosNext (g i : Nat) : laneOf (setPosNext s p at_) g i = laneOf s g i := rfl
theorem posVoid_setPosNext (q : Nat) : posVoid (setPosNext s p at_) q = posVoid s q := rfl
theorem flagSet_setPosNext (o b : Nat) : flagSet (setPosNext s p at_) o b = flagSet s o b := rfl

theorem posNext_setPosNext_same : posNext (setPosNext s p at_) p = at_ := by
  rw [posNext, setPosNext, State.modIngest_ingest, tabGet_tabPut_same]

theorem posNext_setPosVoid (q : Nat) (v : Bool) : posNext (setPosVoid s q v) p = posNext s p := rfl

end

/-! Counters -/

theorem regsBut_incCnt (s : State) (o n : Nat) : s.regsBut [o] (incCnt s o n) := regsBut_wr s o _

theorem State.regsBut.ingest {s t : State} {os : List Nat} (f : IngestSt → IngestSt) (h : s.regsBut os t) : s.regsBut os (t.modIngest f) := h

theorem State.regsBut.tb {s t : State} {os : List Nat} (f : TimeSt → TimeSt) (h : (s.modTb f).regsBut os t) : s.regsBut os t := h

theorem rd_incCnt (s : State) (o n : Nat) : rd (incCnt s o n) o = satAdd (rd s o) n := rd_wr_same ..

/-! A block slot of a position -/

/-- The registers that a position's block slot can change, the interrupt tree apart. -/
def slotRegs (g j : Nat) : List Nat := [Reg.TRIG_PATH_LAT, Reg.INGEST_STATUS g, Reg.INGEST_VOID_CNT g j, Reg.PCIE_STATUS]

section
variable (s : State) (g k : Nat) (idx : Sample)

theorem fixEpoch_blocks : (fixEpoch s g k idx).ingest.blocks = s.ingest.blocks := by
  unfold fixEpoch; dsimp only; split
  · rw [raiseBit_ingest, State.modIngest_ingest, wr, State.setRegs_ingest, State.modTb_ingest]
  · rfl

theorem fixEpoch_fixed (h : s.tb.epoch.isSome = true) : fixEpoch s g k idx = s := by
  unfold fixEpoch
  exact if_neg fun hn => by rw [Option.isNone_iff_eq_none.1 hn.1] at h; cases h

theorem regsBut_fixEpoch : s.regsBut [Reg.TRIG_PATH_LAT, Reg.INGEST_STATUS g, Reg.PCIE_STATUS] (fixEpoch s g k idx) := by
  unfold fixEpoch; dsimp only; split
  · refine regsBut_trans (.ingest _ ?_) (regsBut_mono (by simp) (regsBut_raiseBit _ (Reg.INGEST_STATUS g) 0))
    exact .tb _ (regsBut_mono (by simp) (regsBut_wr _ Reg.TRIG_PATH_LAT _))
  · exact regsBut_refl _ s

end

section
variable (s : State) (g : Nat) (idx : Sample)

theorem regsBut_noteVoidWord : s.regsBut [Reg.INGEST_STATUS g, Reg.PCIE_STATUS] (noteVoidWord s g idx) := by
  unfold noteVoidWord; dsimp only; split
  · exact regsBut_raiseBit s _ 4
  · exact regsBut_refl _ s

theorem noteVoidWord_ingest : (noteVoidWord s g idx).ingest = s.ingest :=
  part_of_hide (noteVoidWord_hide (m := 258) (h_sub := rfl) ..) State.ingest fun _ => rfl

theorem supplyVoid_ingest (p : Nat) : (supplyVoid s p).ingest = s.ingest :=
  part_of_hide (supplyVoid_hide (m := 258) (h_sub := rfl) ..) State.ingest fun _ => rfl

end

theorem regsBut_supplyVoid (s : State) {g j : Nat} (hj : j < 16) :
    s.regsBut [Reg.INGEST_VOID_CNT g j, Reg.INGEST_STATUS g, Reg.PCIE_STATUS] (supplyVoid s (16 * g + j)) := by
  unfold supplyVoid; dsimp only
  rw [position_div hj, position_mod hj]
  have hcnt : s.regsBut [Reg.INGEST_VOID_CNT g j, Reg.INGEST_STATUS g, Reg.PCIE_STATUS] (incCnt s (Reg.INGEST_VOID_CNT g j) 1) :=
    regsBut_mono (by simp) (regsBut_incCnt s _ 1)
  split
  · split
    · exact hcnt
    · exact regsBut_trans hcnt (regsBut_mono (by simp) (regsBut_raiseBit _ _ _))
  · exact regsBut_refl _ s

theorem voidCnt_free (g j : Nat) : ¬(0x200 ≤ Reg.INGEST_VOID_CNT g j ∧ Reg.INGEST_VOID_CNT g j < 0x1000) ∧
    Reg.INGEST_VOID_CNT g j ≠ Reg.TRIG_PATH_LAT ∧ Reg.INGEST_VOID_CNT g j ≠ Reg.INGEST_STATUS g ∧
    Reg.INGEST_VOID_CNT g j ≠ Reg.PCIE_STATUS := by
  unfold Reg.INGEST_VOID_CNT Reg.TRIG_PATH_LAT Reg.INGEST_STATUS Reg.PCIE_STATUS
  omega

/-- A void block supplied to an enabled position is counted. -/
theorem rd_supplyVoid (s : State) {g j : Nat} (hj : j < 16) (hon : blkState s (Reg.INGEST_CTRL g) = stOn) (he : s.tb.epoch.isSome = true) :
    rd (supplyVoid s (16 * g + j)) (Reg.INGEST_VOID_CNT g j) = satAdd (rd s (Reg.INGEST_VOID_CNT g j)) 1 := by
  obtain ⟨htree, -, hstat, hpcie⟩ := voidCnt_free g j
  unfold supplyVoid; dsimp only
  rw [position_div hj, position_mod hj, if_pos ⟨hon, he⟩]
  split
  · exact rd_incCnt ..
  · rw [(regsBut_raiseBit _ _ _).rd (by simp [hstat, hpcie]) htree]; exact rd_incCnt ..

/-- The lane's bits depend on two kinds of register only, and no block slot writes either. -/
theorem laneBits_of_regsBut {s t : State} {os : List Nat} (h : s.regsBut os t) {g j : Nat} (hj : j < 16) (k i : Nat) (w : BitVec 256)
    (hcfg : Reg.INGEST_LANE_CFG g i ∉ os) (hinv : ∀ n, Reg.INGEST_INV g n ∉ os) :
    laneBits t k g i (16 * g + j) w = laneBits s k g i (16 * g + j) w := by
  have hc : rd t (Reg.INGEST_LANE_CFG g i) = rd s (Reg.INGEST_LANE_CFG g i) := h.rd hcfg (by unfold Reg.INGEST_LANE_CFG; omega)
  have hn (n : Nat) : rd t (Reg.INGEST_INV g n) = rd s (Reg.INGEST_INV g n) := h.rd (hinv n) (by unfold Reg.INGEST_INV; omega)
  unfold laneBits
  simp only [position_div hj, hc, hn]

/-- The state in which the position's index has moved on to its next block. -/
def slotOpened (s : State) (g p : Nat) (idx : Sample) : State :=
  setPosNext (fixEpoch s g (linkK s g) idx) p (some (idx + 16 * linkK s g))

/-- The state in which position `p` has the block of sample `idx` with the bits `w`. -/
def blockPlaced (s : State) (p : Nat) (idx : Sample) (w : BitVec 256) : State :=
  s.modIngest (fun x => { x with blocks := tabPut {} x.blocks (p + 64 * (idx / 16)) { void := false, bits := w } })

section
variable (s : State) (g i p : Nat) {idx : Sample}

theorem takeData_quarantined (b : Option (BitVec 256)) (h : quadVoid s g = true) : takeData s g i p b = s := by
  unfold takeData
  split
  · rfl
  · rw [if_pos h]

theorem takeData_void (hp : posNext s p = some idx) (hq : quadVoid s g = false) :
    takeData s g i p none = noteVoidWord (supplyVoid (slotOpened s g p idx) p) g idx := by
  simp only [takeData, hp, hq, Bool.false_eq_true, if_false]; rfl

theorem takeData_block (hp : posNext s p = some idx) (hq : quadVoid s g = false) (w : BitVec 256) :
    takeData s g i p (some w) =
      if blkState (slotOpened s g p idx) (Reg.INGEST_CTRL g) = stOn then
        noteVoidWord (blockPlaced (slotOpened s g p idx) p idx (laneBits (slotOpened s g p idx) (linkK s g) g i p w)) g idx
      else slotOpened s g p idx := by
  simp only [takeData, hp, hq, Bool.false_eq_true, if_false]; rfl

theorem regsBut_slotOpened (idx : Sample) :
    s.regsBut [Reg.TRIG_PATH_LAT, Reg.INGEST_STATUS g, Reg.PCIE_STATUS] (slotOpened s g p idx) :=
  regsBut_trans (regsBut_fixEpoch s g (linkK s g) idx) (regsBut_of_eq rfl)

theorem posNext_slotOpened (idx : Sample) : posNext (slotOpened s g p idx) p = some (idx + 16 * linkK s g) := by
  rw [slotOpened, posNext_setPosNext_same]

theorem blkState_slotOpened (idx : Sample) : blkState (slotOpened s g p idx) (Reg.INGEST_CTRL g) = blkState s (Reg.INGEST_CTRL g) := by
  have hfree : Reg.INGEST_CTRL g ≠ Reg.TRIG_PATH_LAT ∧ Reg.INGEST_CTRL g ≠ Reg.INGEST_STATUS g ∧ Reg.INGEST_CTRL g ≠ Reg.PCIE_STATUS ∧
      ¬(0x200 ≤ Reg.INGEST_CTRL g ∧ Reg.INGEST_CTRL g < 0x1000) := by
    unfold Reg.INGEST_CTRL Reg.TRIG_PATH_LAT Reg.INGEST_STATUS Reg.PCIE_STATUS; omega
  obtain ⟨hlat, hstat, hpcie, htree⟩ := hfree
  exact (regsBut_slotOpened s g p idx).rdF 6 4 (by simp [hlat, hstat, hpcie]) htree

theorem laneBits_slotOpened (idx : Sample) {j : Nat} (hj : j < 16) (q k : Nat) (w : BitVec 256) :
    laneBits (slotOpened s g q idx) k g i (16 * g + j) w = laneBits s k g i (16 * g + j) w := by
  refine laneBits_of_regsBut (regsBut_slotOpened s g q idx) hj k i w ?_ fun n => ?_
  · have hfree : Reg.INGEST_LANE_CFG g i ≠ Reg.TRIG_PATH_LAT ∧ Reg.INGEST_LANE_CFG g i ≠ Reg.INGEST_STATUS g ∧
        Reg.INGEST_LANE_CFG g i ≠ Reg.PCIE_STATUS := by
      unfold Reg.INGEST_LANE_CFG Reg.TRIG_PATH_LAT Reg.INGEST_STATUS Reg.PCIE_STATUS; omega
    simp [hfree]
  · have hfree : Reg.INGEST_INV g n ≠ Reg.TRIG_PATH_LAT ∧ Reg.INGEST_INV g n ≠ Reg.INGEST_STATUS g ∧
        Reg.INGEST_INV g n ≠ Reg.PCIE_STATUS := by
      unfold Reg.INGEST_INV Reg.TRIG_PATH_LAT Reg.INGEST_STATUS Reg.PCIE_STATUS; omega
    simp [hfree]

end

section
variable (s : State) (g i : Nat) {j : Nat} (b : Option (BitVec 256))

theorem takeData_link (p : Nat) : (takeData s g i p b).link = s.link :=
  part_of_hide (takeData_hide (m := 16706) (h_sub := rfl) ..) State.link fun _ => rfl

theorem regsBut_takeData (hj : j < 16) : s.regsBut (slotRegs g j) (takeData s g i (16 * g + j) b) := by
  unfold takeData
  split
  · exact regsBut_refl _ s
  next idx _ =>
    have hopen : s.regsBut (slotRegs g j) (slotOpened s g (16 * g + j) idx) :=
      regsBut_mono (by simp [slotRegs]) (regsBut_slotOpened s g _ idx)
    have hnote (u : State) : u.regsBut (slotRegs g j) (noteVoidWord u g idx) := regsBut_mono (by simp [slotRegs]) (regsBut_noteVoidWord u g idx)
    split
    · exact regsBut_refl _ s
    · dsimp only
      split
      · exact regsBut_trans hopen (regsBut_trans (regsBut_mono (by simp [slotRegs]) (regsBut_supplyVoid _ hj)) (hnote _))
      · split
        · exact regsBut_trans hopen (regsBut_trans (regsBut_of_eq rfl) (hnote _))
        · exact hopen

variable {idx : Sample} (hp : posNext s (16 * g + j) = some idx) (hq : quadVoid s g = false)
include hp hq

theorem posNext_takeData : posNext (takeData s g i (16 * g + j) b) (16 * g + j) = some (idx + 16 * linkK s g) := by
  have hopen := posNext_slotOpened s g (16 * g + j) idx
  cases b with
  | none => rw [takeData_void s g i _ hp hq, posNext, noteVoidWord_ingest, supplyVoid_ingest]; exact hopen
  | some w =>
    rw [takeData_block s g i _ hp hq w]
    split
    · rw [posNext, noteVoidWord_ingest]; exact hopen
    · exact hopen

theorem blocks_takeData_void : (takeData s g i (16 * g + j) none).ingest.blocks = s.ingest.blocks := by
  rw [takeData_void s g i _ hp hq, noteVoidWord_ingest, supplyVoid_ingest]
  exact fixEpoch_blocks ..

theorem blocks_takeData_block (hj : j < 16) (w : BitVec 256) (hon : blkState s (Reg.INGEST_CTRL g) = stOn) :
    tabGet {} (takeData s g i (16 * g + j) (some w)).ingest.blocks (16 * g + j + 64 * (idx / 16)) =
      { void := false, bits := laneBits s (linkK s g) g i (16 * g + j) w } := by
  rw [takeData_block s g i _ hp hq, if_pos ((blkState_slotOpened s g _ idx).trans hon), noteVoidWord_ingest, blockPlaced,
    State.modIngest_ingest, tabGet_tabPut_same, laneBits_slotOpened s g i idx hj]

theorem rd_takeData_void (hj : j < 16) (hon : blkState s (Reg.INGEST_CTRL g) = stOn) (he : s.tb.epoch.isSome = true) :
    rd (takeData s g i (16 * g + j) none) (Reg.INGEST_VOID_CNT g j) = satAdd (rd s (Reg.INGEST_VOID_CNT g j)) 1 := by
  obtain ⟨htree, -, hstat, hpcie⟩ := voidCnt_free g j
  have hopen : slotOpened s g (16 * g + j) idx = setPosNext s (16 * g + j) (some (idx + 16 * linkK s g)) := by
    rw [slotOpened, fixEpoch_fixed s g _ idx he]
  rw [takeData_void s g i _ hp hq, (regsBut_noteVoidWord _ g idx).rd (by simp [hstat, hpcie]) htree, hopen]
  exact rd_supplyVoid (setPosNext s _ _) hj hon he

end

end Sys2Proof.Machine

/-!
PROOF. The blocks of a lane in ACTIVE by type (Table 12-4, R98, R276, R278, R282-R284), and those of a lane that searches (R298, R302, R303).
-/

namespace Sys2Proof.Machine

/-! The registers of a lane and of its group's ingest -/

/-- A lane's status and counters are apart from what its loss of lock and its position's block slot write. -/
theorem laneReg_free {g i o : Nat} (hg : g < 4) (hi : i ≤ 16)
    (ho : o = Reg.MRX_LANE_STATUS g i ∨ o = Reg.MRX_CRC_CNT g i ∨ o = Reg.MRX_FLAG_CNT g i) :
    ¬(0x200 ≤ o ∧ o < 0x1000) ∧ o ≠ Reg.PCIE_STATUS ∧ o ∉ lossRegs g i ∧ ∀ j, o ∉ slotRegs g j := by
  unfold Reg.MRX_LANE_STATUS Reg.MRX_CRC_CNT Reg.MRX_FLAG_CNT at ho
  refine ⟨by omega, by unfold Reg.PCIE_STATUS; omega, not_mem_lossRegs ?_ ?_ ?_ fun j hj => ?_, fun j hm => ?_⟩
  · unfold Reg.MRX_LANE_TSTAT; omega
  · unfold Reg.MRX_TRAIN_STATUS; omega
  · unfold Reg.PCIE_STATUS; omega
  · unfold Reg.INGEST_POS; omega
  · simp only [slotRegs, List.mem_cons, List.not_mem_nil, or_false] at hm
    unfold Reg.TRIG_PATH_LAT Reg.INGEST_STATUS Reg.INGEST_VOID_CNT Reg.PCIE_STATUS at hm
    omega

theorem crcCnt_ne_laneStatus (g i : Nat) : Reg.MRX_CRC_CNT g i ≠ Reg.MRX_LANE_STATUS g i := by
  unfold Reg.MRX_CRC_CNT Reg.MRX_LANE_STATUS; omega

theorem ingestStatus_free {g : Nat} (i : Nat) (hg : g < 4) :
    ¬(0x200 ≤ Reg.INGEST_STATUS g ∧ Reg.INGEST_STATUS g < 0x1000) ∧ Reg.INGEST_STATUS g ≠ Reg.PCIE_STATUS ∧
      Reg.INGEST_STATUS g ∉ lossRegs g i := by
  have htree : ¬(0x200 ≤ Reg.INGEST_STATUS g ∧ Reg.INGEST_STATUS g < 0x1000) ∧ Reg.INGEST_STATUS g ≠ Reg.PCIE_STATUS := by
    unfold Reg.INGEST_STATUS Reg.PCIE_STATUS; omega
  refine ⟨htree.1, htree.2, not_mem_lossRegs ?_ ?_ htree.2 fun j hj => ?_⟩
  · unfold Reg.INGEST_STATUS Reg.MRX_LANE_TSTAT; omega
  · unfold Reg.INGEST_STATUS Reg.MRX_TRAIN_STATUS; omega
  · unfold Reg.INGEST_STATUS Reg.INGEST_POS; omega

section
variable (s : State) {g i : Nat} (hg : g < 4) (hi : i ≤ 16)
include hg hi

theorem flagSet_laneStatus_raised {b : Nat} (hb : b < 24) : flagSet (raiseBit s (Reg.MRX_LANE_STATUS g i) b) (Reg.MRX_LANE_STATUS g i) b = true := by
  obtain ⟨htree, hpcie, -⟩ := laneReg_free hg hi (.inl rfl)
  exact flagSet_raiseBit _ _ _ hb htree hpcie

theorem flagSet_laneStatus_laneLost (b : Nat) :
    flagSet (laneLost s g i) (Reg.MRX_LANE_STATUS g i) b = flagSet s (Reg.MRX_LANE_STATUS g i) b := by
  obtain ⟨htree, -, hloss, -⟩ := laneReg_free hg hi (.inl rfl)
  exact (regsBut_laneLost s hi).flagSet b hloss htree

end

/-! DATA -/

/-- A flag of the lane is raised and an ingest entry is logged, and the lane loses lock: what a wrong DSEQ shows. -/
theorem rxData_lost {s : State} {g i j dseq : Nat} (w : BitVec 256) (hg : g < 4) (hi : i ≤ 16) (hm : (laneOf s g i).markerNo.isSome = true)
    (hj : servedBy (linkOf s g) i = some j) (hseq : dseq ≠ (laneOf s g i).dataCnt % 4) (hfail : (laneOf s g i).sinceFail ≤ 7) :
    flagSet (rxData s g i dseq w) (Reg.MRX_LANE_STATUS g i) 2 = true ∧ LaneLost g i s (rxData s g i dseq w) := by
  obtain ⟨m, hm⟩ := Option.isSome_iff_exists.1 hm
  simp only [rxData, hm, hj, hseq, hfail, if_false, if_true]
  refine ⟨?_, (laneLost_spec _ hg hi).before ?_⟩
  · rw [flagSet_laneStatus_laneLost _ hg hi]
    exact flagSet_laneStatus_raised s hg hi (by decide)
  · exact otherLanes_of_eq (raiseBit_link ..)

/-- The state from which a DATA block is taken: one whose DSEQ differs counts as flagged. -/
def dataCounted (s : State) (g i dseq : Nat) : State :=
  modLane (if dseq = (laneOf s g i).dataCnt % 4 then s else incCnt s (Reg.MRX_FLAG_CNT g i) 1) g i (fun x => { x with dataCnt := x.dataCnt + 1 })

theorem rxData_taken {s : State} {g i j dseq : Nat} (w : BitVec 256) (hm : (laneOf s g i).markerNo.isSome = true)
    (hj : servedBy (linkOf s g) i = some j) (h : dseq = (laneOf s g i).dataCnt % 4 ∨ 7 < (laneOf s g i).sinceFail) :
    rxData s g i dseq w = takeData (dataCounted s g i dseq) g i (16 * g + j) (some w) := by
  obtain ⟨m, hm⟩ := Option.isSome_iff_exists.1 hm
  by_cases hseq : dseq = (laneOf s g i).dataCnt % 4
  · simp only [rxData, hm, hj, dataCounted, hseq, if_true]
  · have hfail : ¬(laneOf s g i).sinceFail ≤ 7 := by omega
    simp only [rxData, hm, hj, dataCounted, hseq, hfail, if_false]

section
variable (s : State) (g i dseq : Nat)

theorem dataCounted_hide : (dataCounted s g i dseq).hide 33554434 = s.hide 33554434 := by
  unfold dataCounted
  split <;> simp [incCnt]

theorem dataCounted_part {α : Type} (p : State → α) (hp : ∀ x, p (x.hide 33554434) = p x) : p (dataCounted s g i dseq) = p s :=
  part_of_hide (dataCounted_hide s g i dseq) p hp

theorem regsBut_dataCounted : s.regsBut [Reg.MRX_FLAG_CNT g i] (dataCounted s g i dseq) := by
  unfold dataCounted
  split
  · exact regsBut_of_eq rfl
  · exact regsBut_trans (regsBut_incCnt s _ 1) (regsBut_of_eq rfl)

theorem linkK_dataCounted : linkK (dataCounted s g i dseq) g = linkK s g := by
  unfold dataCounted
  split <;> exact linkK_modLane ..

theorem lane_dataCounted : laneOf (dataCounted s g i dseq) g i = { laneOf s g i with dataCnt := (laneOf s g i).dataCnt + 1 } := by
  unfold dataCounted
  rw [laneOf_modLane_same]
  split <;> rfl

/-- A DATA block that is used: the count, and what its position takes. -/
theorem takeData_dataCounted {j : Nat} (hg : g < 4) (hi : i ≤ 16) (hj : j < 16) (w : BitVec 256) {t : State}
    (ht : t = takeData (dataCounted s g i dseq) g i (16 * g + j) (some w)) :
    laneOf t g i = { laneOf s g i with dataCnt := (laneOf s g i).dataCnt + 1 } ∧
    (dseq ≠ (laneOf s g i).dataCnt % 4 → rd t (Reg.MRX_FLAG_CNT g i) = satAdd (rd s (Reg.MRX_FLAG_CNT g i)) 1) ∧
    (quadVoid s g = true → t.ingest = s.ingest) ∧
    (∀ idx, quadVoid s g = false → posNext s (16 * g + j) = some idx → posNext t (16 * g + j) = some (idx + 16 * linkK s g) ∧
      (blkState s (Reg.INGEST_CTRL g) = stOn → tabGet {} t.ingest.blocks (16 * g + j + 64 * (idx / 16)) =
        { void := false, bits := laneBits s (linkK s g) g i (16 * g + j) w })) := by
  subst ht
  have hing := dataCounted_part s g i dseq State.ingest fun _ => rfl
  have hquad := dataCounted_part s g i dseq (quadVoid · g) fun _ => rfl
  have hpos := dataCounted_part s g i dseq (posNext · (16 * g + j)) fun _ => rfl
  have hregs := regsBut_dataCounted s g i dseq
  have hK := linkK_dataCounted s g i dseq
  refine ⟨?_, fun hseq => ?_, fun hq => ?_, fun idx hq hp => ⟨?_, fun hon => ?_⟩⟩
  · rw [laneOf, linkOf, takeData_link]
    exact lane_dataCounted ..
  · obtain ⟨htree, -, -, hslot⟩ := laneReg_free hg hi (.inr (.inr rfl))
    rw [(regsBut_takeData _ g i _ hj).rd (hslot j) htree, dataCounted, if_neg hseq, rd_modLane, rd_incCnt]
  · rw [takeData_quarantined _ _ _ _ _ (hquad.trans hq), hing]
  · rw [posNext_takeData _ _ _ _ (hpos.trans hp) (hquad.trans hq), hK]
  · have hctrl : blkState (dataCounted s g i dseq) (Reg.INGEST_CTRL g) = blkState s (Reg.INGEST_CTRL g) :=
      hregs.rdF 6 4 (by simp only [List.mem_singleton]; unfold Reg.INGEST_CTRL Reg.MRX_FLAG_CNT; omega) (by unfold Reg.INGEST_CTRL; omega)
    rw [blocks_takeData_block _ _ _ (hpos.trans hp) (hquad.trans hq) hj w (hctrl.trans hon), hK, laneBits_of_regsBut hregs hj]
    · simp only [List.mem_singleton]; unfold Reg.INGEST_LANE_CFG Reg.MRX_FLAG_CNT; omega
    · intro n; simp only [List.mem_singleton]; unfold Reg.INGEST_INV Reg.MRX_FLAG_CNT; omega

end

/-! CTRL -/

theorem posVoid_foldl {g j : Nat} (hj : j < 16) : ∀ (l : List Nat) (s : State), (∀ a ∈ l, a < 16) →
    j ∈ l ∨ posVoid s (16 * g + j) = true →
    posVoid (l.foldl (fun s a => setPosVoid s (16 * g + a) true) s) (16 * g + j) = true
  | [], _, _, h => h.resolve_left (List.not_mem_nil)
  | a :: l, s, hl, h => by
    refine posVoid_foldl hj l _ (fun b hb => hl b (List.mem_cons_of_mem _ hb)) ?_
    by_cases hja : j = a
    · subst hja
      exact .inr (by rw [posVoid_setPosVoid]; rfl)
    · refine h.imp (fun hm => (List.mem_cons.1 hm).resolve_left hja) fun hv => ?_
      rw [posVoid_of_regsBut (regsBut_setPosVoid s (hl a List.mem_cons_self) true) hj]
      · exact hv
      · simp only [List.mem_singleton]; unfold Reg.INGEST_POS; omega

theorem posVoid_voidGroup (s : State) {g j : Nat} (hg : g < 4) (hj : j < 16) : posVoid (voidGroup s g) (16 * g + j) = true := by
  rw [voidGroup, if_pos hg]
  exact posVoid_foldl hj _ s (fun a ha => List.mem_range.1 ha) (.inl (List.mem_range.2 hj))

section
variable (s : State) (g : Nat) (kinds : List Nat) (status result : Nat)

/-- What is read of a group and not of its commands is as before they complete. -/
theorem linkOf_endLk {α : Type} (p : GroupLink → α) (hp : ∀ l c, p { l with cmds := c } = p l) :
    p (linkOf (endLk s g kinds status result) g) = p (linkOf s g) := by
  have hfold (l : List LinkCmd) (u : State) : (l.foldl (fun s c => endRun s c.ring c.cid status result 0) u).hide 1152 = u.hide 1152 := by simp
  unfold endLk; dsimp only
  rw [part_of_hide (hfold _ _) (fun x => p (linkOf x g)) fun _ => rfl, linkOf_modLk_same, hp]

theorem endLk_regs : (endLk s g kinds status result).regs = s.regs :=
  part_of_hide (endLk_hide (m := 33555584) (h_sub := rfl) ..) State.regs fun _ => rfl

end

/-- EIDLE is entered with every position of the group void. -/
theorem enterEidle_spec (s : State) {g : Nat} (hg : g < 4) : (linkOf (enterEidle s g) g).st = .eidle ∧
    ∀ j < 16, posVoid (enterEidle s g) (16 * g + j) = true := by
  have hask (u : State) (b : Bool) : u.asked g (if b = true then sbAsk u g 5 [0, 0, 0, 0] else u) := by
    split
    · exact asked_sbAsk ..
    · exact asked_of_eq rfl rfl
  unfold enterEidle; dsimp only
  refine ⟨?_, fun j hj => ?_⟩
  · rw [(hask _ _).st, linkOf_endLk _ _ _ _ _ GroupLink.st fun _ _ => rfl, linkOf_modLk_same]
  · obtain ⟨-, hpcie, htrain⟩ := ingestPos_free g j
    rw [posVoid_of_regsBut (hask _ _).regs hj (by simp [hpcie, htrain hg]), posVoid, rdF, rd, endLk_regs]
    exact posVoid_voidGroup s hg hj

theorem rxCtrl_reserved (s : State) {g i code : Nat} (hg : g < 4) (hi : i ≤ 16) (h1 : code ≠ 1) (h2 : code ≠ 2) :
    flagSet (rxCtrl s g i code) (Reg.MRX_LANE_STATUS g i) 4 = true ∧ (rxCtrl s g i code).ingest = s.ingest := by
  rw [rxCtrl, if_neg h1, if_neg h2]
  exact ⟨flagSet_laneStatus_raised s hg hi (by decide), raiseBit_ingest ..⟩

/-! MARKER -/

section
variable (s : State) {g i : Nat} (idx : Sample)

/-- The state in which the lane's counts restart with the marker of sample `idx`. -/
def markerNoted (s : State) (g i : Nat) (idx : Sample) : State := applyOfs (restart s g i (some idx)) (physOf g i)

theorem lane_markerNoted : laneOf (markerNoted s g i idx) g i = { laneOf s g i with dataCnt := 0, crcFails := 0, markerNo := some idx } :=
  laneOf_modLane_same ..

theorem quadVoid_markerNoted (q : Nat) : quadVoid (markerNoted s g i idx) q = quadVoid s q := rfl

/-- A marker that is the lane's first, the position's first, or the one expected. -/
theorem takeMarker_agrees {j : Nat} (hj : servedBy (linkOf s g) i = some j) (hlt : j < 16)
    (h : (laneOf s g i).markerNo = none ∨ posNext s (16 * g + j) = none ∨ posNext s (16 * g + j) = some idx) :
    laneOf (takeMarker s g i idx) g i = { laneOf s g i with dataCnt := 0, crcFails := 0, markerNo := some idx } ∧
    posNext (takeMarker s g i idx) (16 * g + j) = some idx ∧
    ((laneOf s g i).markerNo = none ∨ posNext s (16 * g + j) = none → posVoid (takeMarker s g i idx) (16 * g + j) = quadVoid s g) := by
  have hset : posNext (setPosVoid (setPosNext (markerNoted s g i idx) (16 * g + j) (some idx)) (16 * g + j) false) (16 * g + j) = some idx := by
    rw [posNext_setPosVoid, posNext_setPosNext_same]
  have hvoid : posVoid (setPosVoid (setPosNext (markerNoted s g i idx) (16 * g + j) (some idx)) (16 * g + j) false) (16 * g + j) =
      quadVoid s g := by
    rw [posVoid_setPosVoid, position_div hlt]; rfl
  have hfirst : takeMarker s g i idx = setPosVoid (setPosNext (markerNoted s g i idx) (16 * g + j) (some idx)) (16 * g + j) false →
      laneOf (takeMarker s g i idx) g i = { laneOf s g i with dataCnt := 0, crcFails := 0, markerNo := some idx } ∧
      posNext (takeMarker s g i idx) (16 * g + j) = some idx ∧
      ((laneOf s g i).markerNo = none ∨ posNext s (16 * g + j) = none → posVoid (takeMarker s g i idx) (16 * g + j) = quadVoid s g) :=
    fun e => by rw [e]; exact ⟨lane_markerNoted .., hset, fun _ => hvoid⟩
  cases hm : (laneOf s g i).markerNo with
  | none => exact hm ▸ hfirst (by simp only [takeMarker, hj, hm]; rfl)
  | some m =>
    cases hp : posNext s (16 * g + j) with
    | none => exact hm ▸ hp ▸ hfirst (by simp only [takeMarker, hj, hm, hp]; rfl)
    | some e =>
      rw [hm, hp] at h
      obtain rfl : e = idx := by simpa using h
      have ht : takeMarker s g i e = markerNoted s g i e := by simp only [takeMarker, hj, hm, hp, if_true]; rfl
      rw [ht]
      exact ⟨lane_markerNoted .., hp, by simp⟩

/-- A marker whose index is not the one that the position expects. -/
theorem takeMarker_differs {j : Nat} {e : Sample} (hg : g < 4) (hi : i ≤ 16) (hj : servedBy (linkOf s g) i = some j)
    (hm : (laneOf s g i).markerNo.isSome = true) (hp : posNext s (16 * g + j) = some e) (hne : e ≠ idx) :
    flagSet (takeMarker s g i idx) (Reg.INGEST_STATUS g) 2 = true ∧ LaneLost g i s (takeMarker s g i idx) := by
  obtain ⟨m, hm⟩ := Option.isSome_iff_exists.1 hm
  obtain ⟨htree, hpcie, hloss⟩ := ingestStatus_free i hg
  simp only [takeMarker, hj, hm, hp, Ne.symm hne, if_false]
  refine ⟨?_, (laneLost_spec _ hg hi).before ?_⟩
  · rw [(regsBut_laneLost _ hi).flagSet 2 hloss htree]
    exact flagSet_raiseBit _ _ _ (by decide) htree hpcie
  · exact (otherLanes_modLane s _).trans (otherLanes_of_eq (raiseBit_link ..))

end

/-! A failed CRC -/

/-- Whether a block with a failed CRC is taken as DATA (R283). -/
def takenAsData (s : State) (g i ty : Nat) (inSlot : Bool) : Bool := !inSlot && (laneOf s g i).markerNo.isSome && (ty == 0 || ty == 3)

/-- The state in which the failed CRC is counted and its flag is set. -/
def crcFlagged (s : State) (g i : Nat) (data : Bool) : State :=
  if data then raiseErr (incCnt s (Reg.MRX_CRC_CNT g i) 1) (Reg.MRX_LANE_STATUS g i) 0 2 (laneSrc g i) i
  else raiseBit (incCnt s (Reg.MRX_CRC_CNT g i) 1) (Reg.MRX_LANE_STATUS g i) 0

/-- What a failed CRC at sample `at_` makes of the lane. -/
def LaneSt.crcFailed (at_ : Sample) (x : LaneSt) : LaneSt := { x with sinceFail := 0, failAt := at_, crcFails := x.crcFails + 1 }

/-- What a block used as DATA makes of the lane. -/
def LaneSt.dataUsed (x : LaneSt) : LaneSt := { x with dataCnt := x.dataCnt + 1 }

/-- The state in which the lane has taken note of the failed CRC as well. -/
def crcNoted (s : State) (g i : Nat) (data : Bool) : State :=
  modLane (crcFlagged s g i data) g i (LaneSt.crcFailed (((servedBy (linkOf s g) i).bind (fun j => posNext s (16 * g + j))).getD 0))

/-- The state in which the block has been counted as DATA. -/
def crcSpent (s : State) (g i : Nat) (data : Bool) : State := modLane (crcNoted s g i data) g i LaneSt.dataUsed

/-- The state in which the block has been voided, where it is taken as DATA. -/
def crcVoided (s : State) (g i : Nat) (data : Bool) : State :=
  let s3 := if data then crcSpent s g i data else crcNoted s g i data
  match data, servedBy (linkOf s g) i with
  | true, some j => takeData s3 g i (16 * g + j) none
  | _, _ => s3

theorem rxBad_eq (s : State) (g i ty : Nat) (inSlot : Bool) : rxBad s g i ty inSlot =
    if inSlot then restart (crcNoted s g i (takenAsData s g i ty inSlot)) g i none
    else if rdF s (Reg.MRX_LINK_CFG g) 15 8 < (laneOf s g i).crcFails + 1 then
      laneLost (raiseBit (crcVoided s g i (takenAsData s g i ty inSlot)) (Reg.MRX_LANE_STATUS g i) 1) g i
    else crcVoided s g i (takenAsData s g i ty inSlot) := rfl

section
variable (s : State) (g i : Nat) (data : Bool)

theorem crcFlagged_hide : (crcFlagged s g i data).hide 1282 = s.hide 1282 := by
  unfold crcFlagged
  split <;> simp [incCnt]

theorem crcFlagged_link : (crcFlagged s g i data).link = s.link := part_of_hide (crcFlagged_hide ..) State.link fun _ => rfl

theorem crcFlagged_regs : s.regsBut [Reg.MRX_CRC_CNT g i, Reg.MRX_LANE_STATUS g i, Reg.PCIE_STATUS] (crcFlagged s g i data) := by
  refine regsBut_trans (regsBut_mono (by simp) (regsBut_incCnt s (Reg.MRX_CRC_CNT g i) 1)) ?_
  unfold crcFlagged
  split
  · exact regsBut_mono (by simp) (regsBut_raiseErr _ _ _ _ _ _)
  · exact regsBut_mono (by simp) (regsBut_raiseBit _ _ _)

theorem crcNoted_ingest : (crcNoted s g i data).ingest = s.ingest := part_of_hide (crcFlagged_hide ..) State.ingest fun _ => rfl
theorem crcNoted_tb : (crcNoted s g i data).tb = s.tb := part_of_hide (crcFlagged_hide ..) State.tb fun _ => rfl
theorem crcNoted_deck : (crcNoted s g i data).deck = s.deck := part_of_hide (crcFlagged_hide ..) State.deck fun _ => rfl
theorem crcNoted_regs : (crcNoted s g i data).regs = (crcFlagged s g i data).regs := rfl

theorem lane_crcNoted : (laneOf (crcNoted s g i data) g i).st = (laneOf s g i).st ∧
    (laneOf (crcNoted s g i data) g i).dataCnt = (laneOf s g i).dataCnt := by
  have hlane : laneOf (crcFlagged s g i data) g i = laneOf s g i := by rw [laneOf, linkOf, crcFlagged_link]; rfl
  rw [crcNoted, laneOf_modLane_same, hlane]
  exact ⟨rfl, rfl⟩

theorem otherLanes_crcNoted : s.otherLanes g i (crcNoted s g i data) :=
  (otherLanes_of_eq (crcFlagged_link ..)).trans (otherLanes_modLane _ _)

theorem linkK_crcNoted : linkK (crcNoted s g i data) g = linkK s g := by
  rw [crcNoted, linkK_modLane]
  refine linkK_of_eq (crcNoted_deck ..) ?_
  rw [linkOf, crcFlagged_link]; rfl

end

end Sys2Proof.Machine

/-!
PROOF. Blocks continued: what a failed CRC comes to (R283), and a lane that searches its block alignment or waits for its marker (R298,
R302, R303).
-/

namespace Sys2Proof.Machine

/-! A failed CRC, by what the block was -/

section
variable (s : State) {g i : Nat} (data : Bool)

theorem crcSpent_ingest : (crcSpent s g i data).ingest = s.ingest := by rw [crcSpent, modLane_ingest, crcNoted_ingest]
theorem crcSpent_tb : (crcSpent s g i data).tb = s.tb := by rw [crcSpent, modLane_tb, crcNoted_tb]
theorem crcSpent_deck : (crcSpent s g i data).deck = s.deck := by rw [crcSpent, modLane_deck, crcNoted_deck]
theorem crcSpent_regs : (crcSpent s g i data).regs = (crcFlagged s g i data).regs := by rw [crcSpent, modLane_regs, crcNoted_regs]

theorem lane_crcSpent : (laneOf (crcSpent s g i data) g i).st = (laneOf s g i).st ∧
    (laneOf (crcSpent s g i data) g i).dataCnt = (laneOf s g i).dataCnt + 1 := by
  obtain ⟨hst, hdata⟩ := lane_crcNoted s g i data
  rw [crcSpent, laneOf_modLane_same]
  exact ⟨hst, congrArg (· + 1) hdata⟩

theorem otherLanes_crcSpent : s.otherLanes g i (crcSpent s g i data) := (otherLanes_crcNoted s g i data).trans (otherLanes_modLane _ _)

theorem linkK_crcSpent : linkK (crcSpent s g i data) g = linkK s g := by rw [crcSpent, linkK_modLane, linkK_crcNoted]

theorem crcVoided_dropped : crcVoided s g i false = crcNoted s g i false := rfl

theorem crcVoided_taken {j : Nat} (hj : servedBy (linkOf s g) i = some j) :
    crcVoided s g i true = takeData (crcSpent s g i true) g i (16 * g + j) none := by
  simp only [crcVoided, hj, if_true]

theorem crcVoided_unserved (hj : servedBy (linkOf s g) i = none) : crcVoided s g i true = crcSpent s g i true := by
  simp only [crcVoided, hj, if_true]

theorem crcVoided_link : (crcVoided s g i data).link = (if data then crcSpent s g i data else crcNoted s g i data).link := by
  cases data
  · rw [crcVoided_dropped]; rfl
  · rw [if_pos rfl]
    cases hj : servedBy (linkOf s g) i with
    | none => rw [crcVoided_unserved s hj]
    | some j => rw [crcVoided_taken s hj, takeData_link]

theorem st_crcVoided : (laneOf (crcVoided s g i data) g i).st = (laneOf s g i).st := by
  rw [laneOf, linkOf, crcVoided_link, ← linkOf, ← laneOf]
  split
  · exact (lane_crcSpent s data).1
  · exact (lane_crcNoted s g i data).1

theorem otherLanes_crcVoided : s.otherLanes g i (crcVoided s g i data) := by
  refine State.otherLanes.trans ?_ (otherLanes_of_eq (crcVoided_link s data))
  split
  · exact otherLanes_crcSpent s data
  · exact otherLanes_crcNoted s g i data

theorem regsBut_crcVoided (hi : i ≤ 16) : ∃ j, (crcFlagged s g i data).regsBut (slotRegs g j) (crcVoided s g i data) := by
  have hspent {os : List Nat} : (crcFlagged s g i true).regsBut os (crcSpent s g i true) := regsBut_of_eq (crcSpent_regs ..)
  cases data
  · exact ⟨0, regsBut_of_eq (crcNoted_regs ..)⟩
  · cases hj : servedBy (linkOf s g) i with
    | none => rw [crcVoided_unserved s hj]; exact ⟨0, hspent⟩
    | some j => rw [crcVoided_taken s hj]; exact ⟨j, regsBut_trans hspent (regsBut_takeData _ g i _ (servedBy_lt hi hj))⟩

variable (hg : g < 4) (hi : i ≤ 16)
include hg hi

theorem crcFlagged_counted : rd (crcFlagged s g i data) (Reg.MRX_CRC_CNT g i) = satAdd (rd s (Reg.MRX_CRC_CNT g i)) 1 ∧
    flagSet (crcFlagged s g i data) (Reg.MRX_LANE_STATUS g i) 0 = true := by
  obtain ⟨htree, hpcie, -⟩ := laneReg_free hg hi (.inl rfl)
  obtain ⟨htree', hpcie', -⟩ := laneReg_free hg hi (.inr (.inl rfl))
  have hother : Reg.MRX_CRC_CNT g i ∉ [Reg.MRX_LANE_STATUS g i, Reg.PCIE_STATUS] := by simp [crcCnt_ne_laneStatus, hpcie']
  rw [← rd_incCnt]
  unfold crcFlagged
  split
  · exact ⟨(regsBut_raiseErr _ _ _ _ _ _).rd hother htree', flagSet_raiseErr _ _ _ _ _ _ (by decide) htree hpcie⟩
  · exact ⟨(regsBut_raiseBit _ _ _).rd hother htree', flagSet_raiseBit _ _ _ (by decide) htree hpcie⟩

theorem crcNoted_counted : rd (crcNoted s g i data) (Reg.MRX_CRC_CNT g i) = satAdd (rd s (Reg.MRX_CRC_CNT g i)) 1 ∧
    flagSet (crcNoted s g i data) (Reg.MRX_LANE_STATUS g i) 0 = true := by
  rw [crcNoted, rd_modLane, flagSet_modLane]
  exact crcFlagged_counted s data hg hi

theorem crcVoided_counted : rd (crcVoided s g i data) (Reg.MRX_CRC_CNT g i) = satAdd (rd s (Reg.MRX_CRC_CNT g i)) 1 ∧
    flagSet (crcVoided s g i data) (Reg.MRX_LANE_STATUS g i) 0 = true := by
  obtain ⟨htree, -, -, hslot⟩ := laneReg_free hg hi (.inl rfl)
  obtain ⟨htree', -, -, hslot'⟩ := laneReg_free hg hi (.inr (.inl rfl))
  obtain ⟨j, hregs⟩ := regsBut_crcVoided s data hi
  rw [hregs.rd (hslot' j) htree', hregs.flagSet 0 (hslot j) htree]
  exact crcFlagged_counted s data hg hi

end

section
variable (s : State) {g i : Nat} (ty : Nat) (hg : g < 4) (hi : i ≤ 16)

include hg hi in
theorem rxBad_counted (inSlot : Bool) : rd (rxBad s g i ty inSlot) (Reg.MRX_CRC_CNT g i) = satAdd (rd s (Reg.MRX_CRC_CNT g i)) 1 ∧
    flagSet (rxBad s g i ty inSlot) (Reg.MRX_LANE_STATUS g i) 0 = true := by
  obtain ⟨htree, hpcie, hloss, -⟩ := laneReg_free hg hi (.inl rfl)
  obtain ⟨htree', hpcie', hloss', -⟩ := laneReg_free hg hi (.inr (.inl rfl))
  rw [rxBad_eq]
  split
  · rw [restart, rd_modLane, flagSet_modLane]
    exact crcNoted_counted s _ hg hi
  · obtain ⟨hcnt, hflag⟩ := crcVoided_counted s (takenAsData s g i ty inSlot) hg hi
    split
    · rw [(regsBut_laneLost _ hi).rd hloss' htree', (regsBut_laneLost _ hi).flagSet 0 hloss htree,
        (regsBut_raiseBit _ _ _).rd (by simp [crcCnt_ne_laneStatus, hpcie']) htree']
      exact ⟨hcnt, flagSet_raiseBit_keep (by decide) htree hpcie hflag⟩
    · exact ⟨hcnt, hflag⟩

theorem rxBad_inSlot : (laneOf (rxBad s g i ty true) g i).dataCnt = 0 ∧ (laneOf (rxBad s g i ty true) g i).crcFails = 0 ∧
    (laneOf (rxBad s g i ty true) g i).st = (laneOf s g i).st ∧ (rxBad s g i ty true).ingest = s.ingest := by
  rw [rxBad_eq, if_pos rfl, restart, laneOf_modLane_same, modLane_ingest, crcNoted_ingest]
  obtain ⟨hst, -⟩ := lane_crcNoted s g i (takenAsData s g i ty true)
  exact ⟨rfl, rfl, hst, rfl⟩

include hg hi in
theorem rxBad_lost (h : rdF s (Reg.MRX_LINK_CFG g) 15 8 < (laneOf s g i).crcFails + 1) :
    flagSet (rxBad s g i ty false) (Reg.MRX_LANE_STATUS g i) 1 = true ∧ LaneLost g i s (rxBad s g i ty false) := by
  rw [rxBad_eq, if_neg Bool.false_ne_true, if_pos h, flagSet_laneStatus_laneLost _ hg hi]
  exact ⟨flagSet_laneStatus_raised _ hg hi (by decide),
    (laneLost_spec _ hg hi).before ((otherLanes_crcVoided s _).trans (otherLanes_of_eq (raiseBit_link ..)))⟩

variable (h : (laneOf s g i).crcFails + 1 ≤ rdF s (Reg.MRX_LINK_CFG g) 15 8)
include h

theorem rxBad_used : rxBad s g i ty false = crcVoided s g i (takenAsData s g i ty false) := by
  rw [rxBad_eq, if_neg Bool.false_ne_true, if_neg (by omega)]

theorem rxBad_dropped (hty : ty = 1 ∨ ty = 2) :
    (rxBad s g i ty false).ingest = s.ingest ∧ (laneOf (rxBad s g i ty false) g i).dataCnt = (laneOf s g i).dataCnt := by
  have hdata : takenAsData s g i ty false = false := by rcases hty with rfl | rfl <;> simp [takenAsData]
  rw [rxBad_used s ty h, hdata, crcVoided_dropped]
  exact ⟨crcNoted_ingest .., (lane_crcNoted s g i false).2⟩

/-- A block with a failed CRC that is taken as DATA is void: it is counted, and its position moves on. -/
theorem rxBad_voids (hi : i ≤ 16) (hty : ty = 0 ∨ ty = 3) (hm : (laneOf s g i).markerNo.isSome = true) (hq : quadVoid s g = false) {j : Nat}
    {idx : Sample} (hj : servedBy (linkOf s g) i = some j) (hp : posNext s (16 * g + j) = some idx) :
    posNext (rxBad s g i ty false) (16 * g + j) = some (idx + 16 * linkK s g) ∧
    (laneOf (rxBad s g i ty false) g i).dataCnt = (laneOf s g i).dataCnt + 1 ∧ (rxBad s g i ty false).ingest.blocks = s.ingest.blocks ∧
    (s.tb.epoch.isSome = true → blkState s (Reg.INGEST_CTRL g) = stOn →
      rd (rxBad s g i ty false) (Reg.INGEST_VOID_CNT g j) = satAdd (rd s (Reg.INGEST_VOID_CNT g j)) 1) := by
  have hlt := servedBy_lt hi hj
  have hdata : takenAsData s g i ty false = true := by rcases hty with rfl | rfl <;> simp [takenAsData, hm]
  have ht : rxBad s g i ty false = takeData (crcSpent s g i true) g i (16 * g + j) none := by
    rw [rxBad_used s ty h, hdata, crcVoided_taken s hj]
  have hp' : posNext (crcSpent s g i true) (16 * g + j) = some idx := by rw [posNext, crcSpent_ingest]; exact hp
  have hq' : quadVoid (crcSpent s g i true) g = false := by rw [quadVoid, crcSpent_deck]; exact hq
  have hregs := regsBut_trans (crcFlagged_regs s g i true) (regsBut_of_eq (crcSpent_regs s true))
  rw [ht]
  refine ⟨?_, ?_, ?_, fun he hon => ?_⟩
  · rw [posNext_takeData _ _ _ _ hp' hq', linkK_crcSpent]
  · rw [laneOf, linkOf, takeData_link, ← linkOf, ← laneOf]
    exact (lane_crcSpent s true).2
  · rw [blocks_takeData_void _ _ _ hp' hq', crcSpent_ingest]
  · have hctrl : Reg.INGEST_CTRL g ∉ [Reg.MRX_CRC_CNT g i, Reg.MRX_LANE_STATUS g i, Reg.PCIE_STATUS] := fun hm => by
      simp only [List.mem_cons, List.not_mem_nil, or_false] at hm
      unfold Reg.INGEST_CTRL Reg.MRX_CRC_CNT Reg.MRX_LANE_STATUS Reg.PCIE_STATUS at hm
      omega
    have hcnt : Reg.INGEST_VOID_CNT g j ∉ [Reg.MRX_CRC_CNT g i, Reg.MRX_LANE_STATUS g i, Reg.PCIE_STATUS] := fun hm => by
      simp only [List.mem_cons, List.not_mem_nil, or_false] at hm
      unfold Reg.INGEST_VOID_CNT Reg.MRX_CRC_CNT Reg.MRX_LANE_STATUS Reg.PCIE_STATUS at hm
      omega
    rw [rd_takeData_void _ _ _ hp' hq' hlt, hregs.rd hcnt (voidCnt_free g j).1]
    · exact (hregs.rdF 6 4 hctrl (by unfold Reg.INGEST_CTRL; omega)).trans hon
    · rw [crcSpent_tb]; exact he

end

/-! A lane that searches -/

section
variable (s : State) (g i : Nat) (f : LaneSt → LaneSt)

theorem expIndex_modLane (j : Nat) : expIndex (modLane s g i f) g j = expIndex s g j := by
  unfold expIndex
  rw [linkK_modLane]
  rfl

theorem markerOk_modLane (w : BitVec 256) (hf : (f (laneOf s g i)).loop = (laneOf s g i).loop) :
    markerOk (modLane s g i f) g i w = markerOk s g i w := by
  unfold markerOk
  rw [laneOf_modLane_same, hf]
  rfl

end

/-- A lane that rejoins: its position is void only with its quad. -/
theorem laneRejoins_spec (s : State) {g i j : Nat} (hg : g < 4) (hi : i ≤ 16) (hj : servedBy (linkOf s g) i = some j) :
    (laneOf (laneRejoins s g i) g i).st = .active ∧ posVoid (laneRejoins s g i) (16 * g + j) = quadVoid s g ∧
    flagSet (laneRejoins s g i) (Reg.MRX_LANE_TSTAT g i) 2 = true := by
  have hlt := servedBy_lt hi hj
  obtain ⟨htree, hpcie, -, hpos⟩ := offTree_tstat hg hi
  unfold laneRejoins; dsimp only
  simp only [hj, hg, if_true]
  refine ⟨?_, ?_, flagSet_raiseBit _ _ _ (by decide) htree hpcie⟩
  · rw [laneOf, linkOf, raiseBit_link]
    exact congrArg LaneSt.st (laneOf_modLane_same _ g i _)
  · rw [posVoid_of_regsBut (regsBut_raiseBit _ _ _) hlt (by simp [hpos, (ingestPos_free g j).2.1]), posVoid_setPosVoid, position_div hlt]
    rfl

section
variable (s : State) {g i j : Nat} (idx : Sample) (hst : (laneOf s g i).st = .waitMarker) (hj : servedBy (linkOf s g) i = some j)
include hst hj

/-- The marker that a waiting lane expects. -/
theorem markerFound_expected (hg : g < 4) (hi : i ≤ 16) (h : expIndex s g j = none ∨ expIndex s g j = some idx) :
    (laneOf (markerFound s g i idx) g i).st = .active ∧ posVoid (markerFound s g i idx) (16 * g + j) = quadVoid s g ∧
    posNext (markerFound s g i idx) (16 * g + j) = some idx ∧ flagSet (markerFound s g i idx) (Reg.MRX_LANE_TSTAT g i) 2 = true := by
  have hj' : servedBy (linkOf (markerNoted (modLane s g i (fun x => { x with lock := true })) g i idx) g) i = some j :=
    ((servedBy_modLane ..).trans (servedBy_modLane ..)).trans hj
  obtain ⟨hact, hvoid, hflag⟩ := laneRejoins_spec _ hg hi hj'
  have ht : markerFound s g i idx = setPosNext (laneRejoins (markerNoted (modLane s g i (fun x => { x with lock := true })) g i idx) g i)
      (16 * g + j) (some idx) := by
    simp only [markerFound, hst, hj, h, if_true]; rfl
  rw [quadVoid_markerNoted, quadVoid_modLane] at hvoid
  rw [ht, laneOf_setPosNext, posVoid_setPosNext, flagSet_setPosNext, posNext_setPosNext_same]
  exact ⟨hact, hvoid, rfl, hflag⟩

/-- Any other marker fails the attempt. -/
theorem markerFound_other {e : Sample} (he : expIndex s g j = some e) (hne : e ≠ idx) : (laneOf (markerFound s g i idx) g i).st ≠ .active := by
  have ht : markerFound s g i idx = laneAttemptFailed (modLane s g i (fun x => { x with lock := true })) g i := by
    simp only [markerFound, hst, hj, he, Option.some.injEq, hne, reduceCtorEq, or_self, if_false]
  rw [ht]
  exact laneAttemptFailed_not_active _ g i

end

/-- What a bad block makes of a lane in RELOCK; `sw` where software slips the lane. -/
def LaneSt.badBlock (sw : Bool) (x : LaneSt) : LaneSt := { x with good := 0, slip := if sw then x.slip else (x.slip + 1) % 136 }

/-- What a good block makes of a lane that searches: the sixty-fourth ends RELOCK. -/
def LaneSt.goodBlock (x : LaneSt) : LaneSt := { x with
  good := min (x.good + 1) 0xFFFFFFFF, st := if x.st = .relock ∧ 64 ≤ x.good + 1 then .waitMarker else x.st }

section
variable (s : State) {g i : Nat} (marker : Bool) (w : BitVec 256)

theorem rxSearch_bad (hst : (laneOf s g i).st ≠ .waitMarker) : rxSearch s g i false marker w = modLane s g i (LaneSt.badBlock (slipSw s g)) := by
  simp only [rxSearch, Bool.false_and, Bool.false_eq_true, if_false, Bool.not_false, if_true, hst]
  rfl

theorem rxSearch_good (hst : (linkOf s g).st ≠ .deskew) : rxSearch s g i true marker w =
    if marker && decide (64 ≤ (laneOf s g i).good) && markerOk s g i w then markerFound (modLane s g i LaneSt.goodBlock) g i (markerIndex w)
    else modLane s g i LaneSt.goodBlock := by
  have hdesk : (true && marker && (linkOf s g).st == .deskew && markerOk s g i w) = false := by simp [hst]
  simp only [rxSearch, hdesk, Bool.false_eq_true, if_false, Bool.not_true]
  rfl

theorem rxSearch_deskew (hst : (linkOf s g).st = .deskew) (hok : markerOk s g i w = true) :
    rxSearch s g i true true w = markerSeen s g i (markerIndex w) := by
  simp [rxSearch, hst, hok]

end

end Sys2Proof.Machine

/-!
PROOF. The rows of received blocks: a block slot begins, the lane handles its block, and the slot ends (Table 12-4, R276, R277, R283).
-/

namespace Sys2Proof.Machine

/-! A block slot of a lane -/

/-- What the slot's beginning makes of the lane: the last symbol, the slot number and the descrambler. -/
def LaneSt.atSlot (levels : BitVec 272) (slot : Bool) (i : Nat) (scr : BitVec 31) (x : LaneSt) : LaneSt := { x with
  lastY := BitVec.ofNat 2 (nbits levels.toNat 271 270), slot := if slot then 1 else (x.slot + 1) % 8192, scr := if slot then scrLoad i else scr }

/-- The lane's slot has begun. -/
abbrev slotBegun (s : State) (g i : Nat) (levels : BitVec 272) (slot : Bool) : State :=
  modLane s g i (LaneSt.atSlot levels slot i (scrBlock (laneOf s g i).scr).2)

/-- A good block counts among those since the last failed CRC. -/
def slotEnded (s : State) (g i : Nat) (ok : Bool) : State :=
  if ok then modLane s g i (fun x => { x with sinceFail := min (x.sinceFail + 1) 9 }) else s

/-- What the block of the slot comes to in a lane that receives it. -/
def blockHandled (s : State) (g i : Nat) (levels : BitVec 272) (ty dseq : Nat) (ok slot : Bool) (w : BitVec 256) : State :=
  let s1 := slotBegun s g i levels slot
  slotEnded
    (if (laneOf s g i).st = .test then
      (if ok then s1 else raiseBit (incCnt s1 (Reg.MRX_CRC_CNT g i) 1) (Reg.MRX_LANE_STATUS g i) 0)
    else if (linkOf s g).st == .active && (laneOf s g i).st == .active then rxActive s1 g i ty dseq ok slot w
    else rxSearch s1 g i ok (ty == 3) w) g i ok

/-- The row of a block received as type `ty`. -/
def rxRow (ty : Nat) (n : Fin 68) (levels : BitVec 272) : Instr :=
  if ty = 0 then .rxDataBlock n levels else if ty = 1 then .rxCtrlBlock n levels
  else if ty = 2 then .rxIdleBlock n levels else .rxMarkerBlock n levels

theorem exec_rxRow (n : Fin 68) (levels : BitVec 272) (s : State) : ∀ ty : Fin 4,
    exec (rxRow ty n levels) s = .next (rxBlock n ty levels s)
  | 0 => rfl
  | 1 => rfl
  | 2 => rfl
  | 3 => rfl

section
variable {n ty : Nat} {levels : BitVec 272} {s : State} {g i : Nat} {b : BitVec 272} (hg : g = (rxLane n).1) (hi : i = (rxLane n).2)
  (hb : b = rxBits (linkOf s g) (laneOf s g i) levels)
include hg hi hb

theorem rxBlock_other (h : receiving (linkOf s g) (laneOf s g i) = false ∨ b.toNat % 4 ≠ ty) : rxBlock n ty levels s = s := by
  subst hg hi hb
  exact if_pos (by rcases h with h | h <;> simp [h])

theorem rxBlock_received {raw w : BitVec 256} {ok slot : Bool} (hrec : receiving (linkOf s g) (laneOf s g i) = true) (hty : b.toNat % 4 = ty)
    (hraw : raw = (b >>> 16).setWidth 256)
    (hok : ok = (crc12 (BitVec.ofNat 2 ty) raw == BitVec.ofNat 12 (nbits b.toNat 15 4)))
    (hslot : slot = if (linkOf s g).st == .active && (laneOf s g i).st == .active && (laneOf s g i).markerNo.isSome then
      (laneOf s g i).slot == 0 else ok && ty == 3)
    (hw : w = if slot || ty == 3 then raw else raw ^^^ (scrBlock (laneOf s g i).scr).1) :
    rxBlock n ty levels s = blockHandled s g i levels ty (nbits b.toNat 3 2) ok slot w := by
  subst hg hi hw hslot hok hraw hb
  exact if_neg (by simp [hrec, hty])

end

/-! The slot's beginning and end leave what the statement reads of a lane. -/

section
variable (s : State) (g i : Nat) (levels : BitVec 272) (slot : Bool)

theorem lane_slotBegun : laneOf (slotBegun s g i levels slot) g i =
    LaneSt.atSlot levels slot i (scrBlock (laneOf s g i).scr).2 (laneOf s g i) := laneOf_modLane_same ..

theorem otherLanes_slotBegun : s.otherLanes g i (slotBegun s g i levels slot) := otherLanes_modLane s _

theorem markerOk_slotBegun (w : BitVec 256) : markerOk (slotBegun s g i levels slot) g i w = markerOk s g i w := markerOk_modLane _ _ _ _ _ rfl

theorem lane_slotEnded {α : Type} (ok : Bool) (p : LaneSt → α) (hp : ∀ x k, p { x with sinceFail := k } = p x) :
    p (laneOf (slotEnded s g i ok) g i) = p (laneOf s g i) := by
  cases ok
  · rfl
  · exact (congrArg p (laneOf_modLane_same ..)).trans (hp _ _)

theorem LaneLost.slotEnded {g i : Nat} {s t : State} (h : LaneLost g i s t) (ok : Bool) : LaneLost g i s (slotEnded t g i ok) := by
  cases ok
  · exact h
  · exact h.after (fun _ => rfl) fun _ => rfl

theorem st_slotEnded (ok : Bool) : (linkOf (slotEnded s g i ok) g).st = (linkOf s g).st := by
  cases ok
  · rfl
  · exact st_modLane ..

section
variable (ok : Bool)

@[simp] theorem slotEnded_regs : (slotEnded s g i ok).regs = s.regs := by cases ok <;> rfl
@[simp] theorem slotEnded_ingest : (slotEnded s g i ok).ingest = s.ingest := by cases ok <;> rfl
@[simp] theorem rd_slotEnded (o : Nat) : rd (slotEnded s g i ok) o = rd s o := by rw [rd, slotEnded_regs]; rfl
@[simp] theorem flagSet_slotEnded (o n : Nat) : flagSet (slotEnded s g i ok) o n = flagSet s o n := by rw [flagSet, slotEnded_regs]; rfl
@[simp] theorem posVoid_slotEnded (p : Nat) : posVoid (slotEnded s g i ok) p = posVoid s p := by
  rw [posVoid, rdF, rd_slotEnded]; rfl
@[simp] theorem posNext_slotEnded (p : Nat) : posNext (slotEnded s g i ok) p = posNext s p := by rw [posNext, slotEnded_ingest]; rfl

end

end

/-! A lane in ACTIVE of a group in ACTIVE -/

section
variable {s : State} {g i : Nat} (levels : BitVec 272) (dseq : Nat) (w : BitVec 256) (hst : (linkOf s g).st = .active)
  (hlane : (laneOf s g i).st = .active)
include hst hlane

theorem blockHandled_active (ty : Nat) (ok slot : Bool) : blockHandled s g i levels ty dseq ok slot w =
    slotEnded (rxActive (slotBegun s g i levels slot) g i ty dseq ok slot w) g i ok := by
  simp [blockHandled, hst, hlane]

theorem blockHandled_data (hg : g < 4) (hi : i ≤ 16) (hm : (laneOf s g i).markerNo.isSome = true) {j : Nat}
    (hj : servedBy (linkOf s g) i = some j) {t : State} (ht : t = blockHandled s g i levels 0 dseq true false w) :
    (dseq ≠ (laneOf s g i).dataCnt % 4 → (laneOf s g i).sinceFail ≤ 7 → flagSet t (Reg.MRX_LANE_STATUS g i) 2 = true ∧ LaneLost g i s t) ∧
    (dseq = (laneOf s g i).dataCnt % 4 ∨ 7 < (laneOf s g i).sinceFail → (laneOf t g i).st = .active ∧
      (laneOf t g i).dataCnt = (laneOf s g i).dataCnt + 1 ∧
      (dseq ≠ (laneOf s g i).dataCnt % 4 → rd t (Reg.MRX_FLAG_CNT g i) = satAdd (rd s (Reg.MRX_FLAG_CNT g i)) 1) ∧
      (quadVoid s g = true → t.ingest = s.ingest) ∧
      (∀ idx, quadVoid s g = false → posNext s (16 * g + j) = some idx → posNext t (16 * g + j) = some (idx + 16 * linkK s g) ∧
        (blkState s (Reg.INGEST_CTRL g) = stOn → tabGet {} t.ingest.blocks (16 * g + j + 64 * (idx / 16)) =
          { void := false, bits := laneBits s (linkK s g) g i (16 * g + j) w }))) := by
  have hx := lane_slotBegun s g i levels false
  have hj' : servedBy (linkOf (slotBegun s g i levels false) g) i = some j := (otherLanes_slotBegun ..).served.trans hj
  have ht' : t = slotEnded (rxData (slotBegun s g i levels false) g i dseq w) g i true := by
    rw [ht, blockHandled_active levels dseq w hst hlane]; rfl
  refine ⟨fun hseq hfail => ?_, fun h => ?_⟩
  · obtain ⟨hflag, hlost⟩ := rxData_lost w hg hi (by rw [hx]; exact hm) hj' (by rw [hx]; exact hseq) (by rw [hx]; exact hfail)
    rw [ht', flagSet_slotEnded]
    exact ⟨hflag, (hlost.before (otherLanes_slotBegun ..)).slotEnded _⟩
  · rw [rxData_taken w (by rw [hx]; exact hm) hj' (by rw [hx]; exact h)] at ht'
    obtain ⟨hlane', hcnt, hquar, huse⟩ := takeData_dataCounted (slotBegun s g i levels false) g i dseq hg hi (servedBy_lt hi hj) w rfl
    rw [hx] at hlane' hcnt
    subst ht'
    simp only [rd_slotEnded, slotEnded_ingest, posNext_slotEnded]
    refine ⟨?_, ?_, hcnt, hquar, fun idx hq hp => ?_⟩
    · rw [lane_slotEnded _ _ _ _ LaneSt.st fun _ _ => rfl, hlane']; exact hlane
    · rw [lane_slotEnded _ _ _ _ LaneSt.dataCnt fun _ _ => rfl, hlane']; rfl
    · have hK : linkK (slotBegun s g i levels false) g = linkK s g := linkK_modLane ..
      rw [← hK]
      exact huse idx hq hp

theorem blockHandled_idle {t : State} (ht : t = blockHandled s g i levels 2 dseq true false w) :
    t.ingest = s.ingest ∧ t.regs = s.regs ∧ (laneOf t g i).st = .active ∧ (laneOf t g i).dataCnt = (laneOf s g i).dataCnt := by
  have ht' : t = slotEnded (slotBegun s g i levels false) g i true := by rw [ht, blockHandled_active levels dseq w hst hlane]; rfl
  subst ht'
  refine ⟨slotEnded_ingest .., slotEnded_regs .., ?_, ?_⟩
  · rw [lane_slotEnded _ _ _ _ LaneSt.st fun _ _ => rfl, lane_slotBegun]; exact hlane
  · rw [lane_slotEnded _ _ _ _ LaneSt.dataCnt fun _ _ => rfl, lane_slotBegun]; rfl

theorem blockHandled_ctrl (hg : g < 4) (hi : i ≤ 16) {t : State} (ht : t = blockHandled s g i levels 1 dseq true false w) :
    (nbits w.toNat 7 0 = 1 → (linkOf s g).sleeping = 1 → (linkOf t g).st = .eidle ∧ ∀ j < 16, posVoid t (16 * g + j) = true) ∧
    (nbits w.toNat 7 0 = 1 ∧ (linkOf s g).sleeping ≠ 1 ∨ nbits w.toNat 7 0 = 2 →
      (linkOf t g).st = .active ∧ t.regs = s.regs ∧ t.ingest = s.ingest) ∧
    (nbits w.toNat 7 0 ≠ 1 → nbits w.toNat 7 0 ≠ 2 → flagSet t (Reg.MRX_LANE_STATUS g i) 4 = true ∧ t.ingest = s.ingest) := by
  have ht' : t = slotEnded (rxCtrl (slotBegun s g i levels false) g i (nbits w.toNat 7 0)) g i true := by
    rw [ht, blockHandled_active levels dseq w hst hlane]; rfl
  have hsleep : (linkOf (slotBegun s g i levels false) g).sleeping = (linkOf s g).sleeping :=
    linkOf_modLane _ _ _ _ GroupLink.sleeping fun _ _ => rfl
  have hact : (linkOf (slotBegun s g i levels false) g).st = .active := (st_modLane ..).trans hst
  subst ht'
  simp only [posVoid_slotEnded, flagSet_slotEnded, slotEnded_ingest, slotEnded_regs, st_slotEnded]
  refine ⟨fun h hs => ?_, fun h => ?_, fun h1 h2 => ?_⟩
  · have hin : rxCtrl (slotBegun s g i levels false) g i (nbits w.toNat 7 0) = enterEidle (slotBegun s g i levels false) g := by
      rw [rxCtrl, if_pos h, if_pos (hsleep.trans hs)]
    obtain ⟨heidle, hvoid⟩ := enterEidle_spec (slotBegun s g i levels false) hg
    rw [hin]
    exact ⟨heidle, hvoid⟩
  · have hkeep : rxCtrl (slotBegun s g i levels false) g i (nbits w.toNat 7 0) = slotBegun s g i levels false := by
      rcases h with ⟨h, hs⟩ | h
      · rw [rxCtrl, if_pos h, if_neg (hsleep.trans_ne hs)]
      · rw [rxCtrl, if_neg (by omega), if_pos h]
    rw [hkeep]
    exact ⟨hact, rfl, rfl⟩
  · exact rxCtrl_reserved _ hg hi h1 h2

/-- A MARKER outside its slot, or another block in it. -/
theorem blockHandled_misplaced (hg : g < 4) (hi : i ≤ 16) {ty : Nat} {slot : Bool} (h : slot = true ↔ ty ≠ 3) :
    LaneLost g i s (blockHandled s g i levels ty dseq true slot w) := by
  have hne : ((ty == 3) != slot) = true := by
    cases slot <;> simp_all
  rw [blockHandled_active levels dseq w hst hlane]
  simp only [rxActive, Bool.not_true, Bool.false_eq_true, if_false, hne, if_true]
  exact ((laneLost_spec _ hg hi).before (otherLanes_slotBegun ..)).slotEnded _

theorem blockHandled_marker (hg : g < 4) (hi : i ≤ 16) {t : State} (ht : t = blockHandled s g i levels 3 dseq true true w) :
    (markerOk s g i w = false → flagSet t (Reg.MRX_LANE_STATUS g i) 3 = true ∧ LaneLost g i s t) ∧
    (markerOk s g i w = true → ∀ j p, servedBy (linkOf s g) i = some j → p = 16 * g + j →
      ((laneOf s g i).markerNo = none ∨ posNext s p = none ∨ posNext s p = some (markerIndex w) →
        (laneOf t g i).markerNo = some (markerIndex w) ∧ (laneOf t g i).dataCnt = 0 ∧ (laneOf t g i).st = .active ∧
        posNext t p = some (markerIndex w) ∧ ((laneOf s g i).markerNo = none ∨ posNext s p = none → posVoid t p = quadVoid s g)) ∧
      (∀ e, (laneOf s g i).markerNo.isSome = true → posNext s p = some e → e ≠ markerIndex w →
        flagSet t (Reg.INGEST_STATUS g) 2 = true ∧ LaneLost g i s t)) := by
  have ht' : t = slotEnded (rxActive (slotBegun s g i levels true) g i 3 dseq true true w) g i true := by
    rw [ht, blockHandled_active levels dseq w hst hlane]
  refine ⟨fun hbad => ?_, fun hgood j p hj hp => ?_⟩
  · have hbad' := (markerOk_slotBegun s g i levels true w).trans hbad
    simp only [rxActive, Bool.not_true, Bool.false_eq_true, if_false, if_true, hbad', bne_self_eq_false, beq_self_eq_true] at ht'
    subst ht'
    rw [flagSet_slotEnded]
    refine ⟨?_, LaneLost.slotEnded ((laneLost_spec _ hg hi).before ?_) _⟩
    · exact (flagSet_laneStatus_laneLost _ hg hi 3).trans (flagSet_laneStatus_raised _ hg hi (by decide))
    · exact (otherLanes_slotBegun ..).trans (otherLanes_of_eq (raiseErr_link ..))
  · have hgood' := (markerOk_slotBegun s g i levels true w).trans hgood
    simp only [rxActive, Bool.not_true, Bool.false_eq_true, if_false, if_true, hgood', bne_self_eq_false, beq_self_eq_true] at ht'
    generalize hu : modLk (slotBegun s g i levels true) g (fun l => { l with mode := BitVec.ofNat 2 (nbits w.toNat 27 26) }) = u at ht'
    have hx : laneOf u g i = LaneSt.atSlot levels true i (scrBlock (laneOf s g i).scr).2 (laneOf s g i) := by
      rw [← hu, linkOf_modLk_lanes i rfl, lane_slotBegun]
    have hother : s.otherLanes g i u := by
      refine (otherLanes_slotBegun s g i levels true).trans ⟨?_, fun k _ => ?_⟩
      · rw [← hu, linkOf_modLk_same]; rfl
      · rw [← hu, linkOf_modLk_lanes k rfl]
    have hj' : servedBy (linkOf u g) i = some j := hother.served.trans hj
    have hpos (q : Nat) : posNext u q = posNext s q := by rw [← hu]; rfl
    have hquad : quadVoid u g = quadVoid s g := by rw [← hu]; rfl
    subst hp ht'
    simp only [flagSet_slotEnded, posNext_slotEnded, posVoid_slotEnded]
    refine ⟨fun h => ?_, fun e hm he hne => ?_⟩
    · obtain ⟨hlane', hnext, hvoid⟩ := takeMarker_agrees u (markerIndex w) hj' (servedBy_lt hi hj) (by rw [hx, hpos]; exact h)
      rw [hx] at hlane' hvoid
      refine ⟨?_, ?_, ?_, hnext, fun h => ?_⟩
      · rw [lane_slotEnded _ _ _ _ LaneSt.markerNo fun _ _ => rfl, hlane']
      · rw [lane_slotEnded _ _ _ _ LaneSt.dataCnt fun _ _ => rfl, hlane']
      · rw [lane_slotEnded _ _ _ _ LaneSt.st fun _ _ => rfl, hlane']; exact hlane
      · exact (hvoid (by rw [hpos]; exact h)).trans hquad
    · obtain ⟨hflag, hlost⟩ := takeMarker_differs u (markerIndex w) hg hi hj' (by rw [hx]; exact hm) ((hpos _).trans he) hne
      exact ⟨hflag, (hlost.before hother).slotEnded _⟩

end

end Sys2Proof.Machine

/-!
PROOF. The rows of received blocks continued: a failed CRC on a lane in ACTIVE, and lanes that search (R276, R277,
R283, R284, R298, R303).
-/

namespace Sys2Proof.Machine

section
variable {s : State} {g i : Nat} (levels : BitVec 272) (dseq : Nat) (w : BitVec 256) (hst : (linkOf s g).st = .active)
  (hlane : (laneOf s g i).st = .active)
include hst hlane

theorem blockHandled_bad (hg : g < 4) (hi : i ≤ 16) (ty : Nat) (slot : Bool) {t : State} (ht : t = blockHandled s g i levels ty dseq false slot w) :
    rd t (Reg.MRX_CRC_CNT g i) = satAdd (rd s (Reg.MRX_CRC_CNT g i)) 1 ∧ flagSet t (Reg.MRX_LANE_STATUS g i) 0 = true ∧
    (slot = true → (laneOf t g i).dataCnt = 0 ∧ (laneOf t g i).crcFails = 0 ∧ (laneOf t g i).st = .active ∧ t.ingest = s.ingest) ∧
    (slot = false → rdF s (Reg.MRX_LINK_CFG g) 15 8 < (laneOf s g i).crcFails + 1 →
      flagSet t (Reg.MRX_LANE_STATUS g i) 1 = true ∧ LaneLost g i s t) ∧
    (slot = false → (laneOf s g i).crcFails + 1 ≤ rdF s (Reg.MRX_LINK_CFG g) 15 8 → (laneOf t g i).st = .active ∧
      (ty = 1 ∨ ty = 2 → t.ingest = s.ingest ∧ (laneOf t g i).dataCnt = (laneOf s g i).dataCnt) ∧
      (ty = 0 ∨ ty = 3 → (laneOf s g i).markerNo.isSome = true → quadVoid s g = false → ∀ j p idx, servedBy (linkOf s g) i = some j →
        p = 16 * g + j → posNext s p = some idx →
        posNext t p = some (idx + 16 * linkK s g) ∧ (laneOf t g i).dataCnt = (laneOf s g i).dataCnt + 1 ∧ t.ingest.blocks = s.ingest.blocks ∧
        (s.tb.epoch.isSome = true → blkState s (Reg.INGEST_CTRL g) = stOn →
          rd t (Reg.INGEST_VOID_CNT g j) = satAdd (rd s (Reg.INGEST_VOID_CNT g j)) 1))) := by
  have ht' : t = rxBad (slotBegun s g i levels slot) g i ty slot := by rw [ht, blockHandled_active levels dseq w hst hlane]; rfl
  have hx := lane_slotBegun s g i levels slot
  have hothers := otherLanes_slotBegun s g i levels slot
  have hK : linkK (slotBegun s g i levels slot) g = linkK s g := linkK_modLane ..
  obtain ⟨hcnt, hflag⟩ := rxBad_counted (slotBegun s g i levels slot) ty hg hi slot
  subst ht'
  refine ⟨hcnt, hflag, fun hs => ?_, fun hs hn => ?_, fun hs hn => ⟨?_, fun hty => ?_, fun hty hm hq j p idx hj hp hpos => ?_⟩⟩
  · obtain ⟨hdata, hfails, hact, hing⟩ := rxBad_inSlot (slotBegun s g i levels slot) ty (i := i) (g := g)
    rw [hx] at hact
    subst hs
    exact ⟨hdata, hfails, hact.trans hlane, hing⟩
  · subst hs
    obtain ⟨hflag1, hlost⟩ := rxBad_lost (slotBegun s g i levels false) ty hg hi (by rw [hx]; exact hn)
    exact ⟨hflag1, hlost.before hothers⟩
  · subst hs
    rw [rxBad_used _ ty (by rw [hx]; exact hn), st_crcVoided, hx]
    exact hlane
  · subst hs
    obtain ⟨hing, hdata⟩ := rxBad_dropped (slotBegun s g i levels false) ty (by rw [hx]; exact hn) hty
    rw [hx] at hdata
    exact ⟨hing, hdata⟩
  · subst hs hp
    have hvoid := rxBad_voids (slotBegun s g i levels false) ty (by rw [hx]; exact hn) hi hty (by rw [hx]; exact hm) hq
      (hothers.served.trans hj) hpos
    rw [hK, hx] at hvoid
    simp only [modLane_ingest, modLane_tb, blkState_modLane, rd_modLane] at hvoid
    exact hvoid

end

/-! A lane that searches -/

section
variable {s : State} {g i : Nat} (levels : BitVec 272) (dseq : Nat) (w : BitVec 256)

theorem blockHandled_search (hlane : (laneOf s g i).st ≠ .test) (hact : (linkOf s g).st ≠ .active ∨ (laneOf s g i).st ≠ .active) (ty : Nat)
    (ok slot : Bool) : blockHandled s g i levels ty dseq ok slot w =
      slotEnded (rxSearch (slotBegun s g i levels slot) g i ok (ty == 3) w) g i ok := by
  have hlive : ((linkOf s g).st == .active && (laneOf s g i).st == .active) = false := by
    rcases hact with h | h <;> simp [h]
  simp only [blockHandled, hlane, hlive, if_false, Bool.false_eq_true]

theorem blockHandled_relock_bad (hlane : (laneOf s g i).st = .relock) (ty : Nat) (slot : Bool) {t : State}
    (ht : t = blockHandled s g i levels ty dseq false slot w) : (laneOf t g i).good = 0 ∧
      (laneOf t g i).slip = if slipSw s g then (laneOf s g i).slip else ((laneOf s g i).slip + 1) % 136 := by
  have hx := lane_slotBegun s g i levels slot
  have ht' : t = modLane (slotBegun s g i levels slot) g i (LaneSt.badBlock (slipSw s g)) := by
    rw [ht, blockHandled_search levels dseq w (by simp [hlane]) (.inr (by simp [hlane])),
      rxSearch_bad _ _ _ (by rw [hx]; simp [LaneSt.atSlot, hlane])]
    rfl
  rw [ht', laneOf_modLane_same, hx]
  exact ⟨rfl, rfl⟩

/-- A good block of a lane in RELOCK, no marker or too early for one to end the search. -/
theorem blockHandled_relock_good (hst : (linkOf s g).st = .active) (hlane : (laneOf s g i).st = .relock) (ty : Nat) (slot : Bool)
    (h : ty ≠ 3 ∨ (laneOf s g i).good < 64) {t : State} (ht : t = blockHandled s g i levels ty dseq true slot w) :
    (laneOf t g i).good = min ((laneOf s g i).good + 1) 0xFFFFFFFF ∧
      (laneOf t g i).st = if 64 ≤ (laneOf s g i).good + 1 then .waitMarker else .relock := by
  have hx := lane_slotBegun s g i levels slot
  have hno : (ty == 3 && decide (64 ≤ (laneOf (slotBegun s g i levels slot) g i).good) &&
      markerOk (slotBegun s g i levels slot) g i w) = false := by
    rw [hx]
    rcases h with h | h
    · simp [h]
    · simp [LaneSt.atSlot, Nat.not_le.2 h]
  have ht' : t = slotEnded (modLane (slotBegun s g i levels slot) g i LaneSt.goodBlock) g i true := by
    rw [ht, blockHandled_search levels dseq w (by simp [hlane]) (.inr (by simp [hlane])), rxSearch_good _ _ _ (by rw [st_modLane, hst]; decide),
      hno, if_neg Bool.false_ne_true]
  rw [ht', lane_slotEnded _ _ _ _ LaneSt.good fun _ _ => rfl, lane_slotEnded _ _ _ _ LaneSt.st fun _ _ => rfl, laneOf_modLane_same, hx]
  simp [LaneSt.goodBlock, LaneSt.atSlot, hlane]

/-- The marker that a lane in WAIT_MARKER receives. -/
theorem blockHandled_waitMarker (hg : g < 4) (hi : i ≤ 16) (hst : (linkOf s g).st = .active) (hlane : (laneOf s g i).st = .waitMarker)
    (slot : Bool) (hgood : 64 ≤ (laneOf s g i).good) (hok : markerOk s g i w = true) {j : Nat} (hj : servedBy (linkOf s g) i = some j) {t : State}
    (ht : t = blockHandled s g i levels 3 dseq true slot w) :
    (expIndex s g j = none ∨ expIndex s g j = some (markerIndex w) → (laneOf t g i).st = .active ∧ posVoid t (16 * g + j) = quadVoid s g ∧
      posNext t (16 * g + j) = some (markerIndex w) ∧ flagSet t (Reg.MRX_LANE_TSTAT g i) 2 = true) ∧
    (∀ e, expIndex s g j = some e → e ≠ markerIndex w → (laneOf t g i).st ≠ .active) := by
  have hx := lane_slotBegun s g i levels slot
  have ht' : t = slotEnded (markerFound (modLane (slotBegun s g i levels slot) g i LaneSt.goodBlock) g i (markerIndex w)) g i true := by
    rw [ht, blockHandled_search levels dseq w (by simp [hlane]) (.inr (by simp [hlane])), rxSearch_good _ _ _ (by rw [st_modLane, hst]; decide),
      markerOk_slotBegun, hok, hx, if_pos (by simp [LaneSt.atSlot, hgood])]
  have hwait : (laneOf (modLane (slotBegun s g i levels slot) g i LaneSt.goodBlock) g i).st = .waitMarker := by
    rw [laneOf_modLane_same, hx]
    simp [LaneSt.goodBlock, LaneSt.atSlot, hlane]
  have hj' : servedBy (linkOf (modLane (slotBegun s g i levels slot) g i LaneSt.goodBlock) g) i = some j := by
    rw [servedBy_modLane, servedBy_modLane, hj]
  have hexp : expIndex (modLane (slotBegun s g i levels slot) g i LaneSt.goodBlock) g j = expIndex s g j := by
    rw [expIndex_modLane, expIndex_modLane]
  subst ht'
  simp only [flagSet_slotEnded, posNext_slotEnded, posVoid_slotEnded]
  rw [lane_slotEnded _ _ _ _ LaneSt.st fun _ _ => rfl]
  have hfound := markerFound_expected _ (markerIndex w) hwait hj' hg hi
  simp only [hexp, quadVoid_modLane] at hfound
  exact ⟨hfound, fun e he hne => markerFound_other _ _ hwait hj' (hexp.trans he) hne⟩

theorem blockHandled_deskew (hst : (linkOf s g).st = .deskew) (hlane : (laneOf s g i).st ≠ .test) (slot : Bool) (hok : markerOk s g i w = true) :
    (laneOf (blockHandled s g i levels 3 dseq true slot w) g i).mark = some (markerIndex w, s.tb.now) := by
  rw [blockHandled_search levels dseq w hlane (.inl (by simp [hst])), lane_slotEnded _ _ _ _ LaneSt.mark fun _ _ => rfl]
  have hdesk := rxSearch_deskew (slotBegun s g i levels slot) w ((st_modLane ..).trans hst) ((markerOk_slotBegun ..).trans hok)
  exact (congrArg (fun x => (laneOf x g i).mark) hdesk).trans (congrArg LaneSt.mark (laneOf_modLane_same ..))

end

end Sys2Proof.Machine

/-!
PROOF. The other events of a receive group: a lost clock (R305), with the run or the failed attempt that it begins (R295, R296, R300), and a
wake burst (R309).
-/

namespace Sys2Proof.Machine

/-! A training run's start and a parked group -/

theorem sbAsk_hide_link (s : State) (g : Nat) (type : Byte) (payload : List Byte) : (sbAsk s g type payload).hide 33554432 = s.hide 33554432 := by
  simp [sbAsk, pumpSb_hide_link]

theorem beginState_regs (s : State) (g : Nat) (st : TrainState) (fresh : Bool) : (beginState s g st fresh).regs = s.regs := by
  unfold beginState; dsimp only
  exact part_of_hide (sbAsk_hide_link ..) State.regs fun _ => rfl

theorem st_beginState (s : State) (g : Nat) (st : TrainState) (fresh : Bool) : (linkOf (beginState s g st fresh) g).st = st := by
  unfold beginState; dsimp only
  rw [(asked_sbAsk _ _ _).st, linkOf, setLinkSt, State.setLink_link, tabGet_tabPut_same]
  rfl

section
variable (s : State) (g : Nat) (kinds : List Nat)

theorem linkOf_endLkFree {α : Type} (p : GroupLink → α) (hp : ∀ l c, p { l with cmds := c } = p l) :
    p (linkOf (endLkFree s g kinds) g) = p (linkOf s g) := by
  unfold endLkFree
  split
  · exact linkOf_endLk _ _ _ _ _ p hp
  · rfl

theorem endLkFree_regs : (endLkFree s g kinds).regs = s.regs :=
  part_of_hide (endLkFree_hide (m := 33555616) (h_sub := rfl) ..) State.regs fun _ => rfl

end

/-- The registers of a group's positions. -/
def posRegs (g : Nat) : List Nat := (List.range 16).map (Reg.INGEST_POS g)

theorem not_mem_posRegs {g o : Nat} (h : o < 0x2000000) : o ∉ posRegs g := fun hm => by
  obtain ⟨j, -, rfl⟩ := List.mem_map.1 hm
  unfold Reg.INGEST_POS at h
  omega

theorem regsBut_foldl_positions {g : Nat} (f : State → Nat → State) (h : ∀ (s : State), ∀ j < 16, s.regsBut [Reg.INGEST_POS g j] (f s j)) :
    ∀ (l : List Nat) (s : State), (∀ j ∈ l, j < 16) → s.regsBut (posRegs g) (l.foldl f s)
  | [], s, _ => regsBut_refl _ s
  | j :: l, s, hl => by
    have hj := hl j List.mem_cons_self
    refine regsBut_trans (regsBut_mono (fun o ho => ?_) (h s j hj))
      (regsBut_foldl_positions f h l _ fun a ha => hl a (List.mem_cons_of_mem _ ha))
    rw [List.mem_singleton.1 ho]
    exact List.mem_map_of_mem (List.mem_range.2 hj)

theorem regsBut_voidGroup (s : State) {g : Nat} (hg : g < 4) : s.regsBut (posRegs g) (voidGroup s g) := by
  rw [voidGroup, if_pos hg]
  exact regsBut_foldl_positions _ (fun s j hj => regsBut_setPosVoid s hj true) _ s fun a ha => List.mem_range.1 ha

theorem regsBut_setPosLane (s : State) {g j : Nat} (hj : j < 16) (n : Nat) : s.regsBut [Reg.INGEST_POS g j] (setPosLane s (16 * g + j) n) := by
  unfold setPosLane
  rw [position_div hj, position_mod hj]
  exact regsBut_wrF _ _ _ _ _

theorem regsBut_mapOwn (s : State) {g : Nat} (hg : g < 4) : s.regsBut (posRegs g) (mapOwn s g) := by
  have hstep (u : State) (j : Nat) (hj : j < 16) :
      u.regsBut [Reg.INGEST_POS g j] (setPosNext (setPosLane u (16 * g + j) (16 * g + j)) (16 * g + j) none) :=
    .ingest _ (regsBut_setPosLane u hj _)
  rw [mapOwn, if_pos hg]
  exact regsBut_foldl_positions (fun u j => setPosNext (setPosLane u (16 * g + j) (16 * g + j)) (16 * g + j) none) hstep _ s
    fun a ha => List.mem_range.1 ha

/-- The serving lane of a position and its VOID bit are different fields. -/
theorem posVoid_setPosLane (s : State) {g j a : Nat} (hj : j < 16) (ha : a < 16) (n : Nat) :
    posVoid (setPosLane s (16 * g + a) n) (16 * g + j) = posVoid s (16 * g + j) := by
  by_cases hja : j = a
  · subst hja
    unfold posVoid setPosLane
    rw [rdF_wrF_field _ _ _ (by decide)]
  · refine posVoid_of_regsBut (regsBut_setPosLane s ha n) hj ?_
    simp only [List.mem_singleton]; unfold Reg.INGEST_POS; omega

theorem posVoid_foldl_mapOwn {g j : Nat} (hj : j < 16) : ∀ (l : List Nat) (s : State), (∀ a ∈ l, a < 16) →
    posVoid (l.foldl (fun s a => setPosNext (setPosLane s (16 * g + a) (16 * g + a)) (16 * g + a) none) s) (16 * g + j) = posVoid s (16 * g + j)
  | [], _, _ => rfl
  | a :: l, s, hl => (posVoid_foldl_mapOwn hj l _ fun b hb => hl b (List.mem_cons_of_mem _ hb)).trans
      (posVoid_setPosLane s hj (hl a List.mem_cons_self) _)

theorem posVoid_mapOwn (s : State) {g j : Nat} (hg : g < 4) (hj : j < 16) : posVoid (mapOwn s g) (16 * g + j) = posVoid s (16 * g + j) := by
  rw [mapOwn, if_pos hg]
  exact posVoid_foldl_mapOwn hj _ s fun a ha => List.mem_range.1 ha

/-- The state in which what ran in the group has been abandoned and its lanes begin anew. -/
def runCleared (s : State) (g : Nat) : State :=
  let commits := s.cmd.running.filter (fun r => r.op == 0x0C02 && r.aux == 1 && r.obj / 32 == g)
  let s0 := commits.foldl (fun s r => endRun s r.ring r.cid cAborted 0 0) (endLkFree (startTbase (voidGroup s g)) g [1, 2, 4, 5, 6])
  modLk s0 g (fun l => { l with
    attempts := [], step := 0, mask := 0, req := none, queue := [], neg := none, wantSpare := [], sleeping := 0, wakeKeep := false, excl := 0
    mapped := none, lanes := (List.range 17).foldl (fun t i => tabMod {} t i (laneFresh false)) l.lanes })

theorem startRun_eq (s : State) {g : Nat} (st : TrainState) (hg : g < 4) : startRun s g st false =
    if st = .detect then modLk (mapOwn (runCleared s g) g) g (fun l => { l with st := .detect, runPeer := none })
    else beginState (mapOwn (runCleared s g) g) g st true := by
  simp only [startRun, hg, if_true, Bool.false_eq_true, if_false]
  rfl

theorem runCleared_regs (s : State) (g : Nat) : (runCleared s g).regs = (voidGroup s g).regs := by
  have hfold (l : List Running) (u : State) : (l.foldl (fun s r => endRun s r.ring r.cid cAborted 0 0) u).hide 1152 = u.hide 1152 := by simp
  exact ((part_of_hide (hfold _ _) State.regs fun _ => rfl).trans (endLkFree_regs ..)).trans (startTbase_regs _)

theorem startRun_regs (s : State) {g : Nat} (st : TrainState) (hg : g < 4) : (startRun s g st false).regs = (mapOwn (runCleared s g) g).regs := by
  rw [startRun_eq s st hg]
  split
  · rfl
  · exact beginState_regs ..

/-- A run begins in its state, with every position of the group void. -/
theorem startRun_spec (s : State) {g : Nat} (st : TrainState) (hg : g < 4) : (linkOf (startRun s g st false) g).st = st ∧
    s.regsBut (posRegs g) (startRun s g st false) ∧ ∀ j < 16, posVoid (startRun s g st false) (16 * g + j) = true := by
  have hregs := startRun_regs s st hg
  refine ⟨?_, ?_, fun j hj => ?_⟩
  · rw [startRun_eq s st hg]
    split
    next h => rw [linkOf_modLk_same, h]
    · exact st_beginState ..
  · exact regsBut_trans (regsBut_voidGroup s hg) (regsBut_trans (regsBut_of_eq (runCleared_regs s g))
      (regsBut_trans (regsBut_mapOwn _ hg) (regsBut_of_eq hregs)))
  · rw [posVoid, rdF, rd, hregs]
    refine (posVoid_mapOwn (runCleared s g) hg hj).trans ?_
    rw [posVoid, rdF, rd, runCleared_regs]
    exact posVoid_voidGroup s hg hj

theorem trainStatus_free {g : Nat} (hg : g < 6) : ¬(0x200 ≤ Reg.MRX_TRAIN_STATUS g ∧ Reg.MRX_TRAIN_STATUS g < 0x1000) ∧
    Reg.MRX_TRAIN_STATUS g ≠ Reg.PCIE_STATUS ∧ Reg.MRX_TRAIN_STATUS g < 0x2000000 := by
  unfold Reg.MRX_TRAIN_STATUS Reg.PCIE_STATUS; omega

theorem trainState_free {g : Nat} (hg : g < 6) : ¬(0x200 ≤ Reg.MRX_TRAIN_STATE g ∧ Reg.MRX_TRAIN_STATE g < 0x1000) ∧
    Reg.MRX_TRAIN_STATE g ≠ Reg.PCIE_STATUS ∧ Reg.MRX_TRAIN_STATE g ≠ Reg.MRX_TRAIN_STATUS g ∧ Reg.MRX_TRAIN_STATE g < 0x2000000 := by
  unfold Reg.MRX_TRAIN_STATE Reg.MRX_TRAIN_STATUS Reg.PCIE_STATUS; omega

/-- The state in which the group has parked, its commands not yet completed. -/
def parkedNow (s : State) (g : Nat) : State :=
  let s1 := modLk (voidGroup s g) g (fun l => { l with
    st := .parked, step := 0, mask := 0, req := none, queue := [], neg := none, wantSpare := [], sleeping := 0, wakeKeep := false
    parkedSeen := true
    lanes := (List.range 17).foldl (fun t i => tabMod {} t i (laneFresh false)) l.lanes })
  if (linkOf s g).parkedSeen then s1 else raiseBit s1 (Reg.MRX_TRAIN_STATUS g) 1

theorem park_eq (s : State) (g : Nat) : park s g = endLk (endLkFree (parkedNow s g) g [4, 5, 6]) g [0, 1, 2, 3] cLinkDown
    (16 * rdF s (Reg.MRX_TRAIN_STATE g) 23 20 + rdF s (Reg.MRX_TRAIN_STATE g) 19 16) := rfl

theorem park_regs (s : State) (g : Nat) : (park s g).regs = (parkedNow s g).regs := (endLk_regs ..).trans (endLkFree_regs ..)

theorem st_park (s : State) (g : Nat) : (linkOf (park s g) g).st = .parked := by
  rw [park_eq, linkOf_endLk _ _ _ _ _ GroupLink.st fun _ _ => rfl, linkOf_endLkFree _ _ _ GroupLink.st fun _ _ => rfl]
  unfold parkedNow; dsimp only
  split
  · rw [linkOf_modLk_same]
  · rw [linkOf, raiseBit_link, ← linkOf, linkOf_modLk_same]

/-- Parking keeps what failed the attempt: its flag and its record. -/
theorem park_keeps (s : State) {g b : Nat} (hg : g < 4) (hb : b < 24) (h : flagSet s (Reg.MRX_TRAIN_STATUS g) b = true) :
    flagSet (park s g) (Reg.MRX_TRAIN_STATUS g) b = true ∧ rd (park s g) (Reg.MRX_TRAIN_STATE g) = rd s (Reg.MRX_TRAIN_STATE g) := by
  obtain ⟨htree, hpcie, hlow⟩ := trainStatus_free (g := g) (by omega)
  obtain ⟨htree', hpcie', hne, hlow'⟩ := trainState_free (g := g) (by omega)
  have hvoid := regsBut_voidGroup s hg
  have hflag := (hvoid.flagSet b (not_mem_posRegs hlow) htree).trans h
  have hstate := hvoid.rd (not_mem_posRegs hlow') htree'
  rw [flagSet, rd, park_regs]
  unfold parkedNow; dsimp only
  split
  · exact ⟨hflag, hstate⟩
  · exact ⟨flagSet_raiseBit_keep (s := modLk (voidGroup s g) g _) hb htree hpcie hflag,
      ((regsBut_raiseBit _ _ _).rd (by simp [hne, hpcie']) htree').trans hstate⟩

/-! A failed attempt of a run -/

theorem noteFail_spec (s : State) {g : Nat} (hg : g < 4) (code cause : Nat) : flagSet (noteFail s g code cause) (Reg.MRX_TRAIN_STATUS g) 2 = true ∧
    rdF (noteFail s g code cause) (Reg.MRX_TRAIN_STATE g) 19 16 = cause % 16 := by
  obtain ⟨htree, hpcie, -⟩ := trainStatus_free (g := g) (by omega)
  obtain ⟨htree', hpcie', hne, -⟩ := trainState_free (g := g) (by omega)
  unfold noteFail
  refine ⟨flagSet_raiseBit _ _ _ (by decide) htree hpcie, ?_⟩
  rw [(regsBut_raiseBit _ _ _).rdF 19 16 (by simp [hne, hpcie']) htree', rdF_wrF_same _ _ _ (by decide)]; rfl

/-- With the clock lost the attempt fails with its cause, and the group begins again from CLOCK_LOCK or parks. -/
theorem failAttempt_clock (s : State) {g : Nat} (hg : g < 4) : flagSet (failAttempt s g 5) (Reg.MRX_TRAIN_STATUS g) 2 = true ∧
    rdF (failAttempt s g 5) (Reg.MRX_TRAIN_STATE g) 19 16 = 5 ∧
    ((linkOf (failAttempt s g 5) g).st = .parked ∨ (linkOf (failAttempt s g 5) g).st = .clockLock) := by
  have hcause (last b : Bool) : ¬(last && (5 : Nat) == 9 && b) = true := by cases last <;> exact Bool.false_ne_true
  obtain ⟨u, last, heq⟩ : ∃ (u : State) (last : Bool), failAttempt s g 5 =
      if last then park (noteFail u g (curCode (linkOf s g)) 5) g
      else beginState (noteFail u g (curCode (linkOf s g)) 5) g .clockLock true := ⟨_, _, if_neg (hcause _ _)⟩
  rw [heq]
  obtain ⟨hflag, hrec⟩ := noteFail_spec u hg (curCode (linkOf s g)) 5
  split
  · obtain ⟨hflag', hrec'⟩ := park_keeps _ hg (by decide) hflag
    rw [rdF, hrec']
    exact ⟨hflag', hrec, .inl (st_park ..)⟩
  · rw [flagSet, rdF, rd, beginState_regs]
    exact ⟨hflag, hrec, .inr (st_beginState ..)⟩

/-! A lost clock -/

section
variable {s : State} {g : Fin 4}

theorem rxClockLost_serving (h : (linkOf s g).st = .active ∨ (linkOf s g).st = .eidle) :
    ∃ t, exec (.rxClockLost g) s = .next t ∧ (linkOf t g).st = (if (linkOf s g).sbLost then .detect else .clockLock) ∧
      (linkOf t g).clockLost = some s.tb.now ∧ flagSet t (Reg.MRX_TRAIN_STATUS g) 6 = true ∧ (∀ j < 16, posVoid t (16 * g + j) = true) := by
  obtain ⟨htree, hpcie, hlow⟩ := trainStatus_free (g := g) (by omega)
  obtain ⟨hst, hregs, hvoid⟩ := startRun_spec (raiseErr s (Reg.MRX_TRAIN_STATUS g) 6 2 0x0480 0)
    (if (linkOf s g).sbLost then .detect else .clockLock) g.isLt
  refine ⟨_, congrArg Host.Outcome.next (if_pos h), ?_, ?_, ?_, hvoid⟩
  · rw [linkOf_modLk_same]; exact hst
  · rw [linkOf_modLk_same]; rfl
  · refine Eq.trans (hregs.flagSet 6 (not_mem_posRegs hlow) htree) ?_
    exact flagSet_raiseErr _ _ _ _ _ _ (by decide) htree hpcie

theorem rxClockLost_training (h : inRun (linkOf s g) = true) (hd : (linkOf s g).st ≠ .detect) :
    exec (.rxClockLost g) s = .next (failAttempt s g 5) := by
  have hno : ¬((linkOf s g).st = .active ∨ (linkOf s g).st = .eidle) := by
    rintro (e | e) <;> simp [inRun, e] at h
  exact congrArg Host.Outcome.next ((if_neg hno).trans (if_pos ⟨h, hd⟩))

theorem rxClockLost_idle (h : (linkOf s g).st = .off ∨ (linkOf s g).st = .detect ∨ (linkOf s g).st = .parked ∨ (linkOf s g).st = .dataOff) :
    exec (.rxClockLost g) s = .next s := by
  refine congrArg Host.Outcome.next ((if_neg ?_).trans (if_neg ?_))
  · rcases h with e | e | e | e <;> simp [e]
  · rcases h with e | e | e | e <;> simp [inRun, e]

end

/-! A wake burst -/

/-- What the wake burst makes of a lane. -/
def LaneSt.wakened (x : LaneSt) : LaneSt :=
  if x.st = .down then { x with st := .active, dataCnt := 0, crcFails := 0, sinceFail := 9, markerNo := none } else x

/-- What the wake burst makes of the group. -/
def GroupLink.wakened (l : GroupLink) : GroupLink := { l with
  st := .active, lanes := (List.range 17).foldl (fun t i => tabMod {} t i LaneSt.wakened) l.lanes }

/-- The state in which the group is ACTIVE again and its lanes await a marker. -/
def wakened (s : State) (g : Nat) : State :=
  if g < 4 then (List.range 16).foldl (fun s i => setPosNext s (16 * g + i) none) (modLk s g GroupLink.wakened)
  else modLk s g GroupLink.wakened

theorem leaveEidle_eq (s : State) (g : Nat) : leaveEidle s g = endLk (raiseBit (wakened s g) (Reg.MRX_TRAIN_STATUS g) 8) g [3] cOk 7 := rfl

theorem linkOf_wakened (s : State) (g : Nat) : linkOf (wakened s g) g = (linkOf s g).wakened := by
  have hpos (u : State) : ((List.range 16).foldl (fun s i => setPosNext s (16 * g + i) none) u).link = u.link :=
    part_of_hide (m := 16384) (by simp) State.link fun _ => rfl
  unfold wakened
  split
  · rw [linkOf, hpos, ← linkOf, linkOf_modLk_same]
  · rw [linkOf_modLk_same]

theorem laneOf_wakened (s : State) (g : Nat) {i : Nat} (hi : i < 17) : laneOf (wakened s g) g i = (laneOf s g i).wakened := by
  rw [laneOf, linkOf_wakened, GroupLink.wakened, tabGet_foldl_tabMod i _ _ List.nodup_range, if_pos (List.mem_range.2 hi)]; rfl

theorem wakeBurst_eidle {s : State} {g : Fin 4} (h : (linkOf s g).st = .eidle) :
    ∃ t, exec (.wakeBurst g) s = .next t ∧ (linkOf t g).st = .active ∧ flagSet t (Reg.MRX_TRAIN_STATUS g) 8 = true ∧
      (∀ i < 17, (laneOf s g i).st = .down → (laneOf t g i).st = .active ∧ (laneOf t g i).markerNo = none) := by
  obtain ⟨htree, hpcie, -⟩ := trainStatus_free (g := g) (by omega)
  have hlink : linkOf (raiseBit (wakened s g) (Reg.MRX_TRAIN_STATUS g) 8) g = linkOf (wakened s g) g := by rw [linkOf, raiseBit_link]; rfl
  refine ⟨leaveEidle s g, congrArg Host.Outcome.next (if_pos h), ?_, ?_, fun i hi hdown => ?_⟩
  · rw [leaveEidle_eq, linkOf_endLk _ _ _ _ _ GroupLink.st fun _ _ => rfl, hlink, linkOf_wakened]; rfl
  · rw [leaveEidle_eq, flagSet, endLk_regs]
    exact flagSet_raiseBit _ _ _ (by decide) htree hpcie
  · have hlane : laneOf (leaveEidle s g) g i = (laneOf s g i).wakened := by
      rw [leaveEidle_eq, laneOf, linkOf_endLk _ _ _ _ _ GroupLink.lanes fun _ _ => rfl, hlink, ← laneOf, laneOf_wakened s g hi]
    rw [hlane, LaneSt.wakened, if_pos hdown]
    exact ⟨rfl, rfl⟩

end Sys2Proof.Machine

/-!
PROOF. A lane's pattern checker (R288): its lock, its counts of bits and errors, and its flags.
-/

namespace Sys2Proof.Machine

theorem State.regsBut.rd64 {s t : State} {os : List Nat} (h : s.regsBut os t) {o : Nat} (ho : o ∉ os) (ho' : o + 4 ∉ os) (k : 0x1000 ≤ o) :
    rd64 t o = rd64 s o := by
  unfold Machine.rd64
  rw [h.rd ho (by omega), h.rd ho' (by omega)]

/-! A checker that has compared its bits -/

theorem rd64_inc48_same (s : State) (o n : Nat) : rd64 (inc48 s o n) o = min (rd64 s o + n) (2 ^ 48 - 1) := by
  rw [inc48, rd64_wr64_same]
  omega

theorem regsBut_inc48 (s : State) (o n : Nat) : s.regsBut [o, o + 4] (inc48 s o n) := regsBut_wr64 s o _

/-- The state in which the checker's bits and errors have been counted. -/
def checkerCounted (s : State) (g i errs : Nat) : State :=
  inc48 (inc48 s (Reg.MRX_PRBS_ERR_LO g i) errs) (Reg.MRX_PRBS_BITS_LO g i) 1024

/-- The state in which the lane's checker has lost lock, with more errors than it bears, or has flagged those it found. -/
def checkerJudged (s : State) (g i errs : Nat) : State :=
  if 128 < errs then raise (modLane s g i (fun x => { x with prbsLock := false })) (Reg.MRX_LANE_STATUS g i) 0x60
  else if errs = 0 then s else raiseBit s (Reg.MRX_LANE_STATUS g i) 5

section
variable (s : State) (g i errs : Nat)

theorem checkerCounted_rd64 : rd64 (checkerCounted s g i errs) (Reg.MRX_PRBS_BITS_LO g i) =
      min (rd64 s (Reg.MRX_PRBS_BITS_LO g i) + 1024) (2 ^ 48 - 1) ∧
    rd64 (checkerCounted s g i errs) (Reg.MRX_PRBS_ERR_LO g i) = min (rd64 s (Reg.MRX_PRBS_ERR_LO g i) + errs) (2 ^ 48 - 1) := by
  have hbits : Reg.MRX_PRBS_BITS_LO g i = Reg.MRX_PRBS_ERR_LO g i + 8 := by
    unfold Reg.MRX_PRBS_BITS_LO Reg.MRX_PRBS_ERR_LO; omega
  have hlow : 0x1000 ≤ Reg.MRX_PRBS_ERR_LO g i := by unfold Reg.MRX_PRBS_ERR_LO; omega
  unfold checkerCounted
  rw [hbits, rd64_inc48_same, (regsBut_inc48 s _ errs).rd64 (by simp) (by simp; omega) (by omega),
    (regsBut_inc48 _ (Reg.MRX_PRBS_ERR_LO g i + 8) 1024).rd64 (by simp; omega) (by simp) hlow, rd64_inc48_same]
  exact ⟨rfl, rfl⟩

theorem regsBut_checkerCounted : s.regsBut [Reg.MRX_PRBS_BITS_LO g i, Reg.MRX_PRBS_BITS_HI g i, Reg.MRX_PRBS_ERR_LO g i,
    Reg.MRX_PRBS_ERR_HI g i] (checkerCounted s g i errs) := by
  have hbits : Reg.MRX_PRBS_BITS_HI g i = Reg.MRX_PRBS_BITS_LO g i + 4 := by
    unfold Reg.MRX_PRBS_BITS_HI Reg.MRX_PRBS_BITS_LO; omega
  have herr : Reg.MRX_PRBS_ERR_HI g i = Reg.MRX_PRBS_ERR_LO g i + 4 := by
    unfold Reg.MRX_PRBS_ERR_HI Reg.MRX_PRBS_ERR_LO; omega
  rw [hbits, herr]
  exact regsBut_trans (regsBut_mono (by simp) (regsBut_inc48 s _ errs)) (regsBut_mono (by simp) (regsBut_inc48 _ _ 1024))

theorem checkerCounted_hide : (checkerCounted s g i errs).hide 2 = s.hide 2 := by simp [checkerCounted, inc48, wr64]

theorem checkerCounted_link : (checkerCounted s g i errs).link = s.link := part_of_hide (checkerCounted_hide ..) State.link fun _ => rfl

theorem regsBut_checkerJudged : s.regsBut [Reg.MRX_LANE_STATUS g i, Reg.PCIE_STATUS] (checkerJudged s g i errs) := by
  unfold checkerJudged
  split
  · exact regsBut_raise (modLane s g i _) _ _
  · split
    · exact regsBut_refl _ s
    · exact regsBut_raiseBit s _ _

theorem lane_checkerJudged (h : (laneOf s g i).prbsLock = true) : (laneOf (checkerJudged s g i errs) g i).prbsLock = decide (errs ≤ 128) := by
  unfold checkerJudged
  split
  next hlost =>
    rw [part_of_hide (raise_hide (m := 258) (h_sub := rfl) ..) (laneOf · g i) fun _ => rfl, laneOf_modLane_same, decide_eq_false (by omega)]
  next hlost =>
    rw [decide_eq_true (by omega)]
    split
    · exact h
    · rw [laneOf, linkOf, raiseBit_link]; exact h

theorem checkerJudged_hide : (checkerJudged s g i errs).hide 33554690 = s.hide 33554690 := by
  unfold checkerJudged
  split
  · simp
  · split <;> simp

theorem flagSet_checkerJudged :
    (128 < errs → flagSet (checkerJudged s g i errs) (Reg.MRX_LANE_STATUS g i) 6 = true) ∧
    (0 < errs → flagSet (checkerJudged s g i errs) (Reg.MRX_LANE_STATUS g i) 5 = true) := by
  have hfree : ¬(0x200 ≤ Reg.MRX_LANE_STATUS g i ∧ Reg.MRX_LANE_STATUS g i < 0x1000) ∧ Reg.MRX_LANE_STATUS g i ≠ Reg.PCIE_STATUS := by
    unfold Reg.MRX_LANE_STATUS Reg.PCIE_STATUS; omega
  obtain ⟨htree, hpcie⟩ := hfree
  unfold checkerJudged
  refine ⟨fun h => ?_, fun h => ?_⟩
  · rw [if_pos h, flagSet_raise _ _ _ _ (by decide) htree hpcie]; simp
  · split
    · rw [flagSet_raise _ _ _ _ (by decide) htree hpcie]; simp
    · rw [if_neg (by omega)]
      exact flagSet_raiseBit _ _ _ (by decide) htree hpcie

end

section
variable (s : State) (g : LinkGroup) (lane : Fin 17)

theorem prbsCheckerLock_idle (h : checking s (grpNo g) lane = false) : exec (.prbsCheckerLock g lane) s = .next s :=
  congrArg Host.Outcome.next (if_neg (by simp [h]))

theorem prbsCheckerLock_locks (h : checking s (grpNo g) lane = true) : ∃ t, exec (.prbsCheckerLock g lane) s = .next t ∧
    (laneOf t (grpNo g) lane).prbsLock = true ∧ s.sameBut [.link] t :=
  ⟨_, congrArg Host.Outcome.next (if_pos h), congrArg LaneSt.prbsLock (laneOf_modLane_same ..), modLane_hide (h_sub := rfl) ..⟩

variable (errs : Fin 1025)

theorem prbsLost_idle (h : checking s (grpNo g) lane = false ∨ (laneOf s (grpNo g) lane).prbsLock = false) :
    exec (.prbsLost g lane errs) s = .next s :=
  if_neg (by rcases h with h | h <;> simp [h])

theorem exec_prbsLost (h : checking s (grpNo g) lane = true) (hlock : (laneOf s (grpNo g) lane).prbsLock = true) :
    exec (.prbsLost g lane errs) s = .next (checkerJudged (checkerCounted s (grpNo g) lane errs) (grpNo g) lane errs) := by
  refine (if_pos (by rw [h, hlock]; rfl)).trans ?_
  unfold checkerJudged
  split <;> rfl

theorem prbsLost_counts (h : checking s (grpNo g) lane = true) (hlock : (laneOf s (grpNo g) lane).prbsLock = true) {k : Nat}
    (hk : k = grpNo g) : ∃ t, exec (.prbsLost g lane errs) s = .next t ∧
      rd64 t (Reg.MRX_PRBS_BITS_LO k lane) = min (rd64 s (Reg.MRX_PRBS_BITS_LO k lane) + 1024) (2 ^ 48 - 1) ∧
      rd64 t (Reg.MRX_PRBS_ERR_LO k lane) = min (rd64 s (Reg.MRX_PRBS_ERR_LO k lane) + errs) (2 ^ 48 - 1) ∧
      (laneOf t k lane).prbsLock = decide (errs.val ≤ 128) ∧
      (128 < errs.val → flagSet t (Reg.MRX_LANE_STATUS k lane) 6 = true) ∧ (0 < errs.val → flagSet t (Reg.MRX_LANE_STATUS k lane) 5 = true) ∧
      s.regsBut [Reg.MRX_PRBS_BITS_LO k lane, Reg.MRX_PRBS_BITS_HI k lane, Reg.MRX_PRBS_ERR_LO k lane, Reg.MRX_PRBS_ERR_HI k lane,
        Reg.MRX_LANE_STATUS k lane, Reg.PCIE_STATUS] t ∧ s.sameBut [.regs, .pcie, .link] t := by
  have hexec := exec_prbsLost s g lane errs h hlock
  subst hk
  generalize grpNo g = k at *
  obtain ⟨hbits, herrs⟩ := checkerCounted_rd64 s k lane errs
  obtain ⟨hlost, hfound⟩ := flagSet_checkerJudged (checkerCounted s k lane errs) k lane errs
  have hjudged := regsBut_checkerJudged (checkerCounted s k lane errs) k lane errs
  have hfree : Reg.MRX_PRBS_ERR_LO k lane = Reg.MRX_LANE_STATUS k lane + 16 ∧ Reg.MRX_PRBS_BITS_LO k lane = Reg.MRX_LANE_STATUS k lane + 24 ∧
      Reg.PCIE_STATUS < Reg.MRX_LANE_STATUS k lane := by
    unfold Reg.MRX_PRBS_ERR_LO Reg.MRX_PRBS_BITS_LO Reg.MRX_LANE_STATUS Reg.PCIE_STATUS; omega
  obtain ⟨herrAt, hbitsAt, hpcie⟩ := hfree
  have hlow : 0x1000 ≤ Reg.MRX_LANE_STATUS k lane := by unfold Reg.MRX_LANE_STATUS; omega
  have hlock' : (laneOf (checkerCounted s k lane errs) k lane).prbsLock = true := by
    rw [laneOf, linkOf, checkerCounted_link]; exact hlock
  have hkeep {o : Nat} (ho : Reg.MRX_LANE_STATUS k lane < o) : rd64 (checkerJudged (checkerCounted s k lane errs) k lane errs) o =
      rd64 (checkerCounted s k lane errs) o := by
    refine hjudged.rd64 ?_ ?_ (by omega) <;> simp only [List.mem_cons, List.not_mem_nil, or_false] <;> omega
  refine ⟨_, hexec, (hkeep (by omega)).trans hbits, (hkeep (by omega)).trans herrs, lane_checkerJudged _ _ _ _ hlock', hlost, hfound, ?_, ?_⟩
  · exact regsBut_trans (regsBut_mono (by simp) (regsBut_checkerCounted s k lane errs)) (regsBut_mono (by simp) hjudged)
  · exact (checkerJudged_hide ..).trans (hide_mono (T := 2) rfl (checkerCounted_hide ..))

end

end Sys2Proof.Machine

/-!
PROOF. The patrol's scans of the lanes' eyes (R428, R434): the precursor, the entry of a narrow eye, and the spare that LANE_AUTO asks for
or does not find (R304).
-/

namespace Sys2Proof.Machine

/-! A position that asks for a spare which cannot serve it -/

/-- One cell reports alone, whatever the block's turn. -/
theorem grantOrder_singleton (turn c : Nat) : grantOrder turn [] [c] = [c] := by
  by_cases h : turn ≤ c
  · simp [grantOrder, sortBy, insertBy, h]
  · simp [grantOrder, sortBy, insertBy, h, Nat.not_le.1 h]

theorem reportCells_singleton (s : State) (block c : Nat) (report : State → Nat → State) : reportCells s block [] [c] report =
    (report s c).setLog { (report s c).log with turns := tabPut 0 (report s c).log.turns block (c + 1) } := by
  simp only [reportCells, grantOrder_singleton]
  rfl

section
variable {s : State} {g : Nat} (j : Nat) (hneg : (linkOf s g).neg = none) (hwant : (linkOf s g).wantSpare = [])
include hneg hwant

/-- A position that asks alone for a spare that cannot serve it. -/
theorem wantSpare_none (h : (linkOf s g).caps.getLsbD 1 = false ∨ (linkOf s g).excl.getLsbD 16 = true ∨ (laneOf s g 16).st ≠ .active) :
    wantSpare s g j = reportCells (modLk (wanted s g j) g (fun l => { l with wantSpare := [] })) g [] [(Fin.ofNat 16 j).val]
      (fun s k => endCommit (raiseErr s (Reg.MRX_TRAIN_STATUS g) 5 3 (laneSrc g k) k) g k cNoSpare 0) := by
  have hset : modLk s g (fun l => { l with
      wantSpare := if l.wantSpare.contains (Fin.ofNat 16 j) then l.wantSpare else l.wantSpare ++ [Fin.ofNat 16 j] }) = wanted s g j := by
    unfold modLk wanted
    simp only [hwant]
    rfl
  have hlane : laneOf (wanted s g j) g 16 = laneOf s g 16 := linkOf_modLk_lanes 16 rfl
  have hno : ¬((linkOf s g).st = .active ∧ (linkOf s g).mapped.isNone ∧ (linkOf s g).caps.getLsbD 1 ∧ !(linkOf s g).excl.getLsbD 16 ∧
      (laneOf (wanted s g j) g 16).st = .active) := by
    rintro ⟨-, -, hcaps, hexcl, hact⟩
    rw [hlane] at hact
    rcases h with h | h | h
    · rw [h] at hcaps; cases hcaps
    · rw [h] at hexcl; cases hexcl
    · exact h hact
  unfold wantSpare
  dsimp only
  rw [hset, trySpare]
  simp only [wanted, linkOf_modLk_same, hneg]
  exact if_neg hno

theorem wantSpare_none_spec (hg : g < 4)
    (h : (linkOf s g).caps.getLsbD 1 = false ∨ (linkOf s g).excl.getLsbD 16 = true ∨ (laneOf s g 16).st ≠ .active) :
    flagSet (wantSpare s g j) (Reg.MRX_TRAIN_STATUS g) 5 = true ∧ (linkOf (wantSpare s g j) g).neg = none := by
  obtain ⟨htree, hpcie, -⟩ := trainStatus_free (g := g) (by omega)
  have hend (u : State) (k : Nat) : (endCommit u g k cNoSpare 0).hide 1152 = u.hide 1152 := endCommit_hide (h_sub := rfl) ..
  rw [wantSpare_none j hneg hwant h, reportCells_singleton]
  refine ⟨?_, ?_⟩
  · refine (part_of_hide (hend _ _) (flagSet · (Reg.MRX_TRAIN_STATUS g) 5) fun _ => rfl).trans ?_
    exact flagSet_raiseErr _ _ _ _ _ _ (by decide) htree hpcie
  · refine (part_of_hide (hend _ _) (fun x => (linkOf x g).neg) fun _ => rfl).trans ?_
    rw [linkOf, raiseErr_link, ← linkOf, linkOf_modLk_same, wanted, linkOf_modLk_same]
    exact hneg

end

/-! A scan -/

/-- The state in which a narrow eye is a precursor and is logged. -/
def scanLogged (s : State) (g i : Nat) : State :=
  let s1 := precursor s (groupUnit g)
  logAdd (useFree s1) (freeVal 16 s1).toNat 1 (laneSrc g i) (unitCode (Reg.MRX_LANE_STATUS g i) i) []

theorem precursor_head (s : State) (unit : Nat) : (precursor s unit).shep.precursors.head? = some (unit, s.tb.now) := rfl

theorem scanLogged_spec (s : State) (g i : Nat) : (scanLogged s g i).shep.precursors.head? = some (groupUnit g, s.tb.now) ∧
    (scanLogged s g i).newestLog.map LogEntry.cls = some 1 ∧ (scanLogged s g i).link = s.link ∧ (scanLogged s g i).regs = s.regs :=
  ⟨rfl, rfl, rfl, rfl⟩

theorem wantSpare_shep (s : State) (g j : Nat) : (wantSpare s g j).shep = s.shep :=
  part_of_hide (wantSpare_hide (m := 33572322) (h_sub := rfl) ..) State.shep fun _ => rfl

section
variable {n : Fin 68} {v ph : Nat} {s : State} {g i : Nat} (hg : g = (rxLane n).1) (hi : i = (rxLane n).2)
include hg hi

theorem lanePatrolScan_unchanged (h : rdF s Reg.SHEP_CTRL 23 16 = 0 ∨ (linkOf s g).st ≠ .active ∨ (laneOf s g i).st ≠ .active ∨
    30 ≤ v ∧ 20 ≤ ph) : exec (.lanePatrolScan n v ph) s = .next s := by
  subst hg hi
  by_cases hoff : rdF s Reg.SHEP_CTRL 23 16 = 0 ∨ (linkOf s (rxLane n).1).st ≠ .active ∨ (laneOf s (rxLane n).1 (rxLane n).2).st ≠ .active
  · exact if_pos hoff
  · have hwide : 30 ≤ v ∧ 20 ≤ ph := by tauto
    refine (if_neg hoff).trans ((if_pos (by omega)).trans ?_)
    rw [if_pos hwide]

variable (hon : rdF s Reg.SHEP_CTRL 23 16 ≠ 0) (hst : (linkOf s g).st = .active) (hlane : (laneOf s g i).st = .active)
include hon hst hlane

theorem lanePatrolScan_precursor (hok : 24 ≤ v ∧ 16 ≤ ph) (hnear : v < 30 ∨ ph < 20) :
    exec (.lanePatrolScan n v ph) s = .next (precursor s (groupUnit g)) := by
  subst hg hi
  refine (if_neg (by simp [hon, hst, hlane])).trans ((if_pos hok).trans ?_)
  rw [if_neg (by omega)]

variable (hnarrow : v < 24 ∨ ph < 16)
include hnarrow

/-- A narrow eye, by what the lane serves. -/
theorem lanePatrolScan_narrow : exec (.lanePatrolScan n v ph) s =
    match servedBy (linkOf s g) i with
    | some j => if (rd s Reg.SHEP_CTRL).getLsbD 2 ∧ i < 16 then .next (wantSpare (precursor s (groupUnit g)) g j) else .next (scanLogged s g i)
    | none => .next (scanLogged s g i) := by
  subst hg hi
  refine (if_neg (by simp [hon, hst, hlane])).trans ((if_neg (by omega)).trans ?_)
  rw [if_neg (by omega)]
  rfl

theorem lanePatrolScan_logged (h : (rd s Reg.SHEP_CTRL).getLsbD 2 = false ∨ 16 ≤ i ∨ servedBy (linkOf s g) i = none) :
    exec (.lanePatrolScan n v ph) s = .next (scanLogged s g i) := by
  rw [lanePatrolScan_narrow hg hi hon hst hlane hnarrow]
  split
  next j hj =>
    refine if_neg fun hask => ?_
    rcases h with h | h | h
    · rw [h] at hask; exact Bool.false_ne_true hask.1
    · omega
    · rw [h] at hj; cases hj
  · rfl

theorem lanePatrolScan_asks {j : Nat} (hauto : (rd s Reg.SHEP_CTRL).getLsbD 2 = true) (hlt : i < 16) (hj : servedBy (linkOf s g) i = some j) :
    exec (.lanePatrolScan n v ph) s = .next (wantSpare (precursor s (groupUnit g)) g j) := by
  rw [lanePatrolScan_narrow hg hi hon hst hlane hnarrow, hj]
  exact if_pos ⟨hauto, hlt⟩

end

theorem lanePatrolScan_sameBut {n : Fin 68} {v ph : Nat} {s t : State} (h : exec (.lanePatrolScan n v ph) s = .next t) :
    s.sameBut [.regs, .free, .tb, .cmd, .pcie, .log, .ingest, .link, .shep] t := by
  have hframe := execLanePatrolScan_frame n v ph s (m := 167790050) (h_sub := rfl)
  rw [show execLanePatrolScan n v ph s = .next t from h] at hframe
  exact Option.some.inj hframe

/-- The spare that a narrow eye of a group in ACTIVE asks for: its negotiation begins, or there is none to be had. -/
theorem wantSpare_precursor {s : State} {g j : Nat} (unit : Nat) (hg : g < 4) (hst : (linkOf s g).st = .active) (hj : j < 16)
    (hmap : (linkOf s g).mapped = none) (hneg : (linkOf s g).neg = none) (hwant : (linkOf s g).wantSpare = []) :
    ((linkOf s g).caps.getLsbD 1 = true → (linkOf s g).excl.getLsbD 16 = false → (laneOf s g 16).st = .active →
      (linkOf (wantSpare (precursor s unit) g j) g).neg.map (fun n => n.pos.val) = some j) ∧
    ((linkOf s g).caps.getLsbD 1 = false ∨ (linkOf s g).excl.getLsbD 16 = true ∨ (laneOf s g 16).st ≠ .active →
      flagSet (wantSpare (precursor s unit) g j) (Reg.MRX_TRAIN_STATUS g) 5 = true ∧ (linkOf (wantSpare (precursor s unit) g j) g).neg = none) := by
  refine ⟨fun hcaps hexcl hspare => ?_, fun h => wantSpare_none_spec (s := precursor s unit) j hneg hwant hg h⟩
  rw [wantSpare_asks (s := precursor s unit) j hneg hwant hst hmap hcaps hexcl hspare, negAsk_neg]
  simp [Nat.mod_eq_of_lt hj]

end Sys2Proof.Machine

/-!
PROOF. The obligation on received blocks and the lanes' events, from the lemmas above.
-/

namespace Sys2Proof.Machine

/-! The rows of received blocks -/

/-- A row whose block is of its type, in a lane that receives. -/
theorem exec_rxRow_received {n : Fin 68} {levels : BitVec 272} {ty : Fin 4} {s : State} {g i : Nat} {b : BitVec 272} {raw w : BitVec 256}
    {ok slot : Bool} (hg : g = (rxLane n).1) (hi : i = (rxLane n).2) (hb : b = rxBits (linkOf s g) (laneOf s g i) levels)
    (hraw : raw = (b >>> 16).setWidth 256) (hok : ok = decide (crc12 (BitVec.ofNat 2 ty) raw = BitVec.ofNat 12 (nbits b.toNat 15 4)))
    (hslot : slot = (if (linkOf s g).st = .active ∧ (laneOf s g i).st = .active ∧ (laneOf s g i).markerNo.isSome = true then
      decide ((laneOf s g i).slot = 0) else ok && decide (ty.val = 3)))
    (hw : w = (if slot || decide (ty.val = 3) then raw else raw ^^^ (scrBlock (laneOf s g i).scr).1))
    (hrec : receiving (linkOf s g) (laneOf s g i) = true) (hty : b.toNat % 4 = ty) :
    exec (rxRow ty n levels) s = .next (blockHandled s g i levels ty (nbits b.toNat 3 2) ok slot w) := by
  have hok' : ok = (crc12 (BitVec.ofNat 2 ty) raw == BitVec.ofNat 12 (nbits b.toNat 15 4)) := hok.trans (beq_eq_decide _ _).symm
  have hslot' : slot = if (linkOf s g).st == .active && (laneOf s g i).st == .active && (laneOf s g i).markerNo.isSome then
      (laneOf s g i).slot == 0 else ok && ty.val == 3 := by
    simpa only [beq_eq_decide, Bool.and_eq_true, decide_eq_true_eq, and_assoc] using hslot
  have hw' : w = if slot || ty.val == 3 then raw else raw ^^^ (scrBlock (laneOf s g i).scr).1 := by
    simpa only [beq_eq_decide] using hw
  rw [exec_rxRow, rxBlock_received hg hi hb hrec hty hraw hok' hslot' hw']

theorem exec_rxRow_other {n : Fin 68} {levels : BitVec 272} {ty : Fin 4} {s : State} {g i : Nat} {b : BitVec 272} (hg : g = (rxLane n).1)
    (hi : i = (rxLane n).2) (hb : b = rxBits (linkOf s g) (laneOf s g i) levels)
    (h : receiving (linkOf s g) (laneOf s g i) = false ∨ b.toNat % 4 ≠ ty) : exec (rxRow ty n levels) s = .next s := by
  rw [exec_rxRow, rxBlock_other hg hi hb h]

theorem exec_rxRow_sameBut {n : Fin 68} {levels : BitVec 272} {ty : Fin 4} {s t : State} (h : exec (rxRow ty n levels) s = .next t) :
    s.sameBut [.regs, .free, .tb, .cmd, .pcie, .log, .ingest, .link, .shep] t := by
  rw [exec_rxRow] at h
  cases h
  exact rxBlock_hide (h_sub := rfl) ..

/-! A lane's events -/

section
variable {n : Fin 68} {s : State} {g i : Nat} (hg : g = (rxLane n).1) (hi : i = (rxLane n).2)
include hg hi

theorem laneLockLost_unchanged (h : (linkOf s g).st ≠ .active ∨ (laneOf s g i).st ≠ .active ∧ (laneOf s g i).st ≠ .waitMarker) :
    exec (.laneLockLost n) s = .next s := by
  subst hg hi
  exact (if_neg (by tauto)).trans (if_neg (by tauto))

theorem laneRelockExpiry_unchanged (h : (linkOf s g).st ≠ .active ∨ (laneOf s g i).st ≠ .relock ∧ (laneOf s g i).st ≠ .relevel) :
    exec (.laneRelockExpiry n) s = .next s := by
  subst hg hi
  exact if_neg (by tauto)

variable (hst : (linkOf s g).st = .active)
include hst

theorem laneLockLost_active (h : (laneOf s g i).st = .active) : exec (.laneLockLost n) s = .next (laneLost s g i) := by
  subst hg hi
  exact if_pos ⟨hst, h⟩

theorem laneLockLost_waitMarker (h : (laneOf s g i).st = .waitMarker) : exec (.laneLockLost n) s = .next (laneAttemptFailed s g i) := by
  subst hg hi
  exact (if_neg (by simp [h])).trans (if_pos ⟨hst, h⟩)

theorem laneRelockExpiry_fails (h : (laneOf s g i).st = .relock ∨ (laneOf s g i).st = .relevel) :
    exec (.laneRelockExpiry n) s = .next (laneAttemptFailed s g i) := by
  subst hg hi
  exact if_pos ⟨hst, h⟩

/-- LANE_LOCK_LOST in a group in ACTIVE. -/
theorem laneLockLost_spec {st : LaneState} (hl : st = (laneOf s g i).st) (h : st = .active ∨ st = .waitMarker) :
    ∃ t, exec (.laneLockLost n) s = .next t ∧ (st = .active → LaneLost g i s t) ∧ (st = .waitMarker → AttemptFailed g i s t) ∧
      s.sameBut [.regs, .free, .tb, .cmd, .pcie, .log, .ingest, .link, .shep] t := by
  have hg4 : g < 4 := hg ▸ rxLane_group_lt n
  have hi16 : i ≤ 16 := hi ▸ rxLane_le n
  rcases h with rfl | rfl
  · exact ⟨_, laneLockLost_active hg hi hst hl.symm, fun _ => laneLost_spec s hg4 hi16, nofun, laneLost_hide (h_sub := rfl) ..⟩
  · exact ⟨_, laneLockLost_waitMarker hg hi hst hl.symm, nofun, fun _ => laneAttemptFailed_spec s hg4 hi16,
      laneAttemptFailed_hide (h_sub := rfl) ..⟩

theorem laneRelockExpiry_spec (h : (laneOf s g i).st = .relock ∨ (laneOf s g i).st = .relevel) :
    ∃ t, exec (.laneRelockExpiry n) s = .next t ∧ AttemptFailed g i s t ∧
      s.sameBut [.regs, .free, .tb, .cmd, .pcie, .log, .ingest, .link] t :=
  ⟨_, laneRelockExpiry_fails hg hi hst h, laneAttemptFailed_spec s (hg ▸ rxLane_group_lt n) (hi ▸ rxLane_le n),
    laneAttemptFailed_hide (h_sub := rfl) ..⟩

end

/-! The frames of a lost clock and of a wake burst -/

theorem rxClockLost_sameBut {g : Fin 4} {s t : State} (h : exec (.rxClockLost g) s = .next t) :
    s.sameBut [.regs, .free, .tb, .cmd, .pcie, .log, .ingest, .link] t := by
  cases h
  exact clockLost_hide (h_sub := rfl) ..

theorem wakeBurst_sameBut {g : Fin 4} {s t : State} (hst : (linkOf s g).st = .eidle) (h : exec (.wakeBurst g) s = .next t) :
    s.sameBut [.regs, .cmd, .pcie, .log, .ingest, .link] t := by
  obtain rfl : leaveEidle s g = t := by
    refine Host.Outcome.next.inj (Eq.trans ?_ h)
    exact congrArg Host.Outcome.next (if_pos hst).symm
  exact leaveEidle_hide (h_sub := rfl) ..

/-- Settles O53: each row comes to what its block does in the lane, from what the block slot begins with to what its end counts; the other
events follow from what a loss of lock, a failed attempt, a training run and a scan come to. -/
theorem receivedBlocksReachIngest : Obligations.ReceivedBlocksReachIngest := by
  unfold Obligations.ReceivedBlocksReachIngest
  intro rx lost failed
  refine ⟨fun n levels ty s g i l x b raw w ok slot hg hi hl hx hb hraw hok hslot hw => ?_, fun n s g i st hg hi hl => ?_,
    fun g s l hl => ?_, fun g lane errs s k hk => ?_, fun n v ph s g i hg hi => ?_⟩
  · subst hl hx
    have hg4 : g < 4 := hg ▸ rxLane_group_lt n
    have hi16 : i ≤ 16 := hi ▸ rxLane_le n
    refine ⟨exec_rxRow_other hg hi hb, fun hrec hty => ?_⟩
    have hexec := exec_rxRow_received hg hi hb hraw hok hslot hw hrec hty
    clear hraw hok hslot hw hty
    generalize nbits b.toNat 3 2 = dseq at hexec ⊢
    refine ⟨_, hexec, ?_, ?_, ?_, ?_, ?_, ?_, ?_, ?_, ?_, ?_, exec_rxRow_sameBut hexec⟩
    · rintro hst hlane rfl rfl rfl hm j p hj rfl
      exact blockHandled_data levels dseq w hst hlane hg4 hi16 hm hj rfl
    · rintro hst hlane rfl rfl rfl
      exact blockHandled_idle levels dseq w hst hlane rfl
    · rintro hst hlane rfl rfl rfl
      exact blockHandled_ctrl levels dseq w hst hlane hg4 hi16 rfl
    · rintro hst hlane rfl hmis
      exact blockHandled_misplaced levels dseq w hst hlane hg4 hi16 (hmis.trans (not_congr Fin.ext_iff))
    · rintro hst hlane rfl rfl rfl
      exact blockHandled_marker levels dseq w hst hlane hg4 hi16 rfl
    · rintro hst hlane rfl
      obtain ⟨hcount, hflag, hslot, hlost, hused⟩ := blockHandled_bad levels dseq w hst hlane hg4 hi16 ty slot rfl
      refine ⟨hcount, hflag, hslot, hlost, fun hs hn => ?_⟩
      obtain ⟨hact, hdropped, hvoids⟩ := hused hs hn
      exact ⟨hact, fun h => hdropped (h.imp Fin.ext_iff.1 Fin.ext_iff.1), fun h => hvoids (h.imp Fin.ext_iff.1 Fin.ext_iff.1)⟩
    · rintro hst hlane
      refine ⟨?_, ?_⟩
      · rintro rfl
        exact blockHandled_relock_bad levels dseq w hlane ty slot rfl
      · rintro rfl hgood
        obtain ⟨hcount, hnext⟩ := blockHandled_relock_good levels dseq w hst hlane ty slot (.inr (by omega)) rfl
        exact ⟨hcount.trans (by omega), hnext.trans (if_neg (by omega))⟩
    · rintro hst hlane rfl hgood hty
      exact (blockHandled_relock_good levels dseq w hst hlane ty slot (.inl (by omega)) rfl).2.trans (if_pos hgood)
    · rintro hst hlane rfl rfl hgood hmarker j p hj rfl
      exact blockHandled_waitMarker levels dseq w hg4 hi16 hst hlane slot hgood hmarker hj rfl
    · rintro hst hlane rfl rfl hmarker
      exact blockHandled_deskew levels dseq w hst hlane slot hmarker
  · subst hl
    exact ⟨laneLockLost_unchanged hg hi, fun hst => laneLockLost_spec hg hi hst rfl, laneRelockExpiry_unchanged hg hi,
      laneRelockExpiry_spec hg hi⟩
  · subst hl
    refine ⟨fun h => ?_, fun h hd => ?_, rxClockLost_idle, fun h => ?_, fun h => ?_⟩
    · obtain ⟨t, hexec, hst, hclock, hflag, hvoid⟩ := rxClockLost_serving h
      exact ⟨t, hexec, hst, hclock, hflag, hvoid, rxClockLost_sameBut hexec⟩
    · have hexec := rxClockLost_training h hd
      obtain ⟨hflag, hcause, hst⟩ := failAttempt_clock s g.isLt
      exact ⟨_, hexec, hflag, hcause, hst, rxClockLost_sameBut hexec⟩
    · exact congrArg Host.Outcome.next (if_neg h)
    · obtain ⟨t, hexec, hst, hflag, hlanes⟩ := wakeBurst_eidle h
      exact ⟨t, hexec, hst, hflag, hlanes, wakeBurst_sameBut h hexec⟩
  · subst hk
    exact ⟨prbsCheckerLock_idle s g lane, prbsCheckerLock_locks s g lane, prbsLost_idle s g lane errs,
      fun h hlock => prbsLost_counts s g lane errs h hlock rfl⟩
  · have hg4 : g < 4 := hg ▸ rxLane_group_lt n
    have hi16 : i ≤ 16 := hi ▸ rxLane_le n
    refine ⟨lanePatrolScan_unchanged hg hi, fun hon hst hlane hok hnear => ?_, fun hon hst hlane hnarrow => ?_⟩
    · exact ⟨_, lanePatrolScan_precursor hg hi hon hst hlane hok hnear, precursor_head .., precursor_hide (h_sub := rfl) ..⟩
    · by_cases h : (rd s Reg.SHEP_CTRL).getLsbD 2 = false ∨ 16 ≤ i ∨ servedBy (linkOf s g) i = none
      · have hexec := lanePatrolScan_logged hg hi hon hst hlane hnarrow h
        obtain ⟨hhead, hlog, hlink, hregs⟩ := scanLogged_spec s g i
        refine ⟨_, hexec, hhead, fun _ => ⟨hlog, hlink, hregs⟩, fun j hauto hlt hj => ?_, lanePatrolScan_sameBut hexec⟩
        rcases h with h | h | h
        · rw [h] at hauto; cases hauto
        · omega
        · rw [h] at hj; cases hj
      · simp only [not_or, Bool.not_eq_false, not_le] at h
        obtain ⟨hauto, hlt, hserves⟩ := h
        obtain ⟨j, hj⟩ := Option.ne_none_iff_exists'.1 hserves
        have hexec := lanePatrolScan_asks hg hi hon hst hlane hnarrow hauto hlt hj
        refine ⟨_, hexec, (congrArg (·.precursors.head?) (wantSpare_shep ..)).trans (precursor_head ..), fun h => ?_,
          fun j' _ _ hj' hmap hneg hwant => ?_, lanePatrolScan_sameBut hexec⟩
        · rcases h with h | h | h
          · rw [h] at hauto; cases hauto
          · omega
          · exact absurd h hserves
        · obtain rfl : j = j' := Option.some.inj (hj.symm.trans hj')
          exact wantSpare_precursor _ hg4 hst (servedBy_lt hi16 hj) hmap hneg hwant

end Sys2Proof.Machine

/-!
PROOF. The flock table (R123, R129-R133): where a key stands, where an insert puts it, and what the commands commit.
-/

namespace Sys2Proof.Machine

/-! Where a key stands -/

/-- Whether an entry is valid and holds the key. -/
def holdsKey (key : BitVec 96) (e : FlockEntry) : Bool := entryV e && e.key == key

/-- The entries of a key's candidate buckets, in the order of a lookup (R123). -/
def keyPlaces (key : BitVec 96) : List Nat := (List.range 32).map fun j => flockLoc key (j / 8) (j % 8)

/-- The first entry of the candidate buckets that holds the key, and the first of the stash. -/
def mainFind (t : FlockTab) (key : BitVec 96) : Option Nat := (keyPlaces key).find? fun n => holdsKey key (mainAt t n)
def stashFind (t : FlockTab) (key : BitVec 96) : Option Nat := (List.range 256).find? fun n => holdsKey key (stashAt t n)

theorem flockFind_eq (t : FlockTab) (key : BitVec 96) :
    flockFind t key = ((mainFind t key).map fun n => (false, n)).or ((stashFind t key).map fun n => (true, n)) := by
  change (match mainFind t key with | some n => some (false, n) | none => (stashFind t key).map fun n => (true, n)) = _
  cases mainFind t key <;> rfl

theorem flockFind_of_main {t : FlockTab} {key : BitVec 96} {n : Nat} (h : mainFind t key = some n) :
    flockFind t key = some (false, n) := by
  rw [flockFind_eq, h]; rfl

theorem flockFind_of_stash {t : FlockTab} {key : BitVec 96} (h : mainFind t key = none) :
    flockFind t key = (stashFind t key).map fun n => (true, n) := by
  rw [flockFind_eq, h]; rfl

/-- A key found in the sub-tables is the first there; one found in the stash is in no sub-table. -/
theorem flockFind_cases {t : FlockTab} {key : BitVec 96} {p : Bool × Nat} (h : flockFind t key = some p) :
    (∃ n, p = (false, n) ∧ mainFind t key = some n) ∨ ∃ n, p = (true, n) ∧ mainFind t key = none ∧ stashFind t key = some n := by
  cases hm : mainFind t key with
  | some n => exact .inl ⟨n, Option.some.inj (h.symm.trans (flockFind_of_main hm)), rfl⟩
  | none =>
    rw [flockFind_of_stash hm, Option.map_eq_some_iff] at h
    obtain ⟨n, hn, rfl⟩ := h
    exact .inr ⟨n, rfl, rfl, hn⟩

theorem flockFind_none {t : FlockTab} {key : BitVec 96} (h : flockFind t key = none) : mainFind t key = none ∧ stashFind t key = none := by
  cases hm : mainFind t key with
  | some n => rw [flockFind_of_main hm] at h; cases h
  | none => exact ⟨rfl, Option.map_eq_none_iff.1 ((flockFind_of_stash hm).symm.trans h)⟩

/-- A search that found `n` or nothing finds `n` once `n` meets it and nothing else has changed. -/
theorem find?_of_changed {p q : Nat → Bool} {n : Nat} (hq : q n = true) (hne : ∀ m, m ≠ n → q m = p m) :
    ∀ l : List Nat, n ∈ l → (l.find? p = none ∨ l.find? p = some n) → l.find? q = some n
  | [], h, _ => nomatch h
  | a :: l, h, hp => by
    by_cases ha : a = n
    · subst ha; exact List.find?_cons_of_pos hq
    · have hpa : p a = false := by
        cases hpa : p a with
        | false => rfl
        | true => rw [List.find?_cons_of_pos hpa] at hp; simp [ha] at hp
      rw [List.find?_cons_of_neg (by simp [hpa])] at hp
      rw [List.find?_cons_of_neg (by simp [hne a ha, hpa])]
      exact find?_of_changed hq hne l ((List.mem_cons.1 h).resolve_left (Ne.symm ha)) hp

section
variable {t : FlockTab} {e : FlockEntry} {n : Nat} (he : entryV e = true)
include he

theorem holdsKey_self : holdsKey e.key e = true := by simp [holdsKey, he]

/-- An entry written into one of its key's places is where the key is found, if it was found there or nowhere in the sub-tables. -/
theorem flockFind_setMain (hn : n ∈ keyPlaces e.key) (hf : mainFind t e.key = none ∨ mainFind t e.key = some n) :
    flockFind (setMain t n e) e.key = some (false, n) :=
  flockFind_of_main (find?_of_changed
    (by rw [mainAt, setMain, tabGet_tabPut_same]; exact holdsKey_self he)
    (fun m hm => by rw [mainAt, setMain, tabGet_tabPut_other _ _ _ hm]; rfl) _ hn hf)

/-- The same of the stash, for a key that stands in no sub-table. -/
theorem flockFind_setStash (hn : n < 256) (hm : mainFind t e.key = none) (hf : stashFind t e.key = none ∨ stashFind t e.key = some n) :
    flockFind (setStash t n e) e.key = some (true, n) := by
  rw [flockFind_of_stash (show mainFind (setStash t n e) e.key = none from hm)]
  refine congrArg (Option.map _) (find?_of_changed (n := n) ?_ (fun m hm => ?_) _ (List.mem_range.2 hn) hf)
  · rw [stashAt, setStash, tabGet_tabPut_same]; exact holdsKey_self he
  · rw [stashAt, setStash, tabGet_tabPut_other _ _ _ hm]; rfl

/-- An entry written over the one that holds its key is found in its place. -/
theorem flockFind_flockPut {p : Bool × Nat} (h : flockFind t e.key = some p) : flockFind (flockPut t p e) e.key = some p := by
  rcases flockFind_cases h with ⟨n, rfl, hn⟩ | ⟨n, rfl, hm, hn⟩
  · exact flockFind_setMain he (List.mem_of_find?_eq_some hn) (.inr hn)
  · exact flockFind_setStash he (List.mem_range.1 (List.mem_of_find?_eq_some hn)) hm (.inr hn)

end

/-- An empty way of a key's candidate buckets is one of its places. -/
theorem emptyIn_mem_keyPlaces {t : FlockTab} {key : BitVec 96} {n : Nat} (h : emptyIn t key [0, 1, 2, 3] = some n) : n ∈ keyPlaces key := by
  obtain ⟨i, hi, hn⟩ := List.exists_of_findSome?_eq_some h
  obtain ⟨w, hw, rfl⟩ := List.mem_map.1 (List.mem_of_find?_eq_some hn)
  have hw : w < 8 := List.mem_range.1 hw
  have hi4 : i < 4 := by simp at hi; omega
  refine List.mem_map.2 ⟨8 * i + w, List.mem_range.2 (by omega), ?_⟩
  rw [show (8 * i + w) / 8 = i by omega, show (8 * i + w) % 8 = w by omega]

/-! Where an insert puts an entry (R129) -/

section
variable {t : FlockTab} {e : FlockEntry}

theorem flockPlace_replaces {p : Bool × Nat} (h : flockFind t e.key = some p) :
    flockPlace t e = some { tab := flockPut t p e, place := p, replaced := true } := by
  simp only [flockPlace, h]

variable (hf : flockFind t e.key = none)
include hf

theorem flockPlace_empty {n : Nat} (hn : emptyIn t e.key [0, 1, 2, 3] = some n) :
    flockPlace t e = some { tab := setMain t n e, place := (false, n) } := by
  simp only [flockPlace, hf, hn]

variable (hn : emptyIn t e.key [0, 1, 2, 3] = none)
include hn

theorem flockPlace_chain {t1 : FlockTab} {k : Nat} {p : Bool × Nat} (hc : flockChain 1 0 e t 64 = some (t1, k))
    (hp : flockFind t1 e.key = some p) : flockPlace t e = some { tab := t1, place := p, moves := k } := by
  simp only [flockPlace, hf, hn, hc, hp, Option.getD_some]

variable (hc : flockChain 1 0 e t 64 = none)
include hc

theorem flockPlace_stash {n : Nat} (hs : (List.range 256).find? (fun n => !entryV (stashAt t n)) = some n) :
    flockPlace t e = some { tab := setStash t n e, place := (true, n) } := by
  simp only [flockPlace, hf, hn, hc, hs, Option.map_some]

theorem flockPlace_full (hs : ∀ n < 256, entryV (stashAt t n) = true) : flockPlace t e = none := by
  have hnone : (List.range 256).find? (fun n => !entryV (stashAt t n)) = none :=
    List.find?_eq_none.2 fun n h => by simp [hs n (List.mem_range.1 h)]
  simp only [flockPlace, hf, hn, hc, hnone, Option.map_none]

end

/-! A committed change (R132) -/

theorem raiseBit_flock (s : State) (o b : Nat) : (raiseBit s o b).flock = s.flock := raiseBit_part s o b State.flock fun _ => rfl

theorem flockCommit_flock (s : State) (t : FlockTab) : (flockCommit s t).flock =
    { s.flock with main := t.main, stash := t.stash, backMain := t.main, backStash := t.stash } := by
  unfold flockCommit; dsimp only
  split
  · exact raiseBit_flock ..
  · rfl

theorem flockCommit_sameBut (s : State) (t : FlockTab) : s.sameBut [.regs, .pcie, .flock] (flockCommit s t) :=
  flockCommit_hide (h_sub := rfl) ..

theorem flockCommit_cmd (s : State) (t : FlockTab) : (flockCommit s t).cmd = s.cmd :=
  part_of_hide (flockCommit_sameBut s t) State.cmd fun _ => rfl

/-- The table is `t`, its backup agrees, and the buckets in error are as before. -/
structure State.holdsTable (s : State) (t : FlockTab) (bad : List Nat) : Prop where
  tab : flockTab s = t
  backMain : s.flock.backMain = t.main
  backStash : s.flock.backStash = t.stash
  bad : s.flock.bad = bad

theorem holdsTable_of_flock {s u : State} {t : FlockTab} (h : u.flock = (flockCommit s t).flock) : u.holdsTable t s.flock.bad := by
  rw [flockCommit_flock] at h
  constructor <;> simp only [flockTab, h]

/-- A command that commits table `t` and completes. -/
theorem commits_holdsTable (s : State) (t : FlockTab) (h : CmdHdr) (op st r : Nat) :
    (finish (flockCommit s t) h op st r 0).holdsTable t s.flock.bad :=
  holdsTable_of_flock (finish_part _ h op st r 0 State.flock fun _ => rfl)

theorem finish_sameBut {s u : State} {h : CmdHdr} {op st r : Nat} (hop : loggedOps.contains op = false)
    (hu : s.sameBut [.regs, .cmd, .pcie, .flock] u) : s.sameBut [.regs, .cmd, .pcie, .flock] (finish u h op st r 0) :=
  (hide_mono rfl (finish_sameBut_quiet u h st r 0 hop)).trans hu

theorem commits_sameBut (s : State) (t : FlockTab) (h : CmdHdr) {op : Nat} (st r : Nat) (hop : loggedOps.contains op = false) :
    s.sameBut [.regs, .cmd, .pcie, .flock] (finish (flockCommit s t) h op st r 0) :=
  finish_sameBut hop (flockCommit_hide (h_sub := rfl) ..)

theorem commits_cmd (s : State) (t : FlockTab) (h : CmdHdr) (op st r : Nat) :
    (finish (flockCommit s t) h op st r 0).cmd = s.completing h st r 0 := finish_cmd_of_cmd (flockCommit_cmd s t) ..

/-! FLOCK_INSERT -/

/-- FLOCK_INSERT has put its entry at `p`, where its key is found, and the table and its backup are `T`. -/
def InsertsAt (h : CmdHdr) (key : BitVec 96) (action : BitVec 32) (s : State) (T : FlockTab) (p : Bool × Nat) (moves : Nat)
    (repl : Bool) : Prop :=
  ∃ t, exec (.flockInsert h key action) s = .next t ∧ flockTab t = T ∧ flockFind T key = some p ∧
    t.cmd = s.completing h cOk (p.2 + (if p.1 then 2 ^ 20 else 0) + moves * 2 ^ 21 + (if repl then 2 ^ 28 else 0)) 0 ∧
    t.flock.backMain = T.main ∧ t.flock.backStash = T.stash ∧ t.flock.bad = s.flock.bad ∧
    s.sameBut [.regs, .cmd, .pcie, .flock] t

section
variable {h : CmdHdr} {key : BitVec 96} {action : BitVec 32} {s : State} (hs : s.starts h (flockInsertChecks h action s))
include hs

theorem flockInsert_entryV : entryV { key := key, action := action } = true := by
  have hfield := judge_fields hs.2 (28, action.getLsbD 31 && nbits action.toNat 30 28 == 0) (by simp [flockInsertChecks])
  exact (Bool.and_eq_true_iff.1 hfield).1

theorem exec_flockInsert_placed {p : Placed} (hp : flockPlace (flockTab s) { key := key, action := action } = some p) :
    exec (.flockInsert h key action) s = .next (finish (flockCommit s p.tab) h 0x0A01 cOk (placeWord p) 0) :=
  (next_startCmd hs).trans (by simp only [flockInsertBody, hp])

theorem exec_flockInsert_full (hp : flockPlace (flockTab s) { key := key, action := action } = none) :
    exec (.flockInsert h key action) s = .next (finish (raiseBit s Reg.FLOCK_STATUS 1) h 0x0A01 cFlockFull 0 0) :=
  (next_startCmd hs).trans (by simp only [flockInsertBody, hp])

theorem insertsAt_placed {p : Placed} (hp : flockPlace (flockTab s) { key := key, action := action } = some p)
    (hf : flockFind p.tab key = some p.place) : InsertsAt h key action s p.tab p.place p.moves p.replaced := by
  obtain ⟨htab, hmain, hstash, hbad⟩ := commits_holdsTable s p.tab h 0x0A01 cOk (placeWord p)
  exact ⟨_, exec_flockInsert_placed hs hp, htab, hf, commits_cmd .., hmain, hstash, hbad, commits_sameBut s p.tab h _ _ rfl⟩

theorem flockInsert_full (hp : flockPlace (flockTab s) { key := key, action := action } = none) :
    ∃ t, exec (.flockInsert h key action) s = .next t ∧ t.cmd = s.completing h cFlockFull 0 0 ∧
      flagSet t Reg.FLOCK_STATUS 1 = true ∧ s.sameBut [.regs, .cmd, .pcie] t :=
  ⟨_, exec_flockInsert_full hs hp, finish_cmd_of_cmd (raiseBit_cmd ..) .., (flagSet_finish ..).trans (flagSet_raiseBit _ _ _ (by decide)
    (by decide) (by decide)), (hide_mono rfl (finish_sameBut_quiet _ h _ _ _ rfl)).trans (raiseBit_hide (h_sub := rfl) ..)⟩

end

/-! FLOCK_DELETE -/

section
variable {h : CmdHdr} {key : BitVec 96} {s : State} (hs : s.starts h (flockDeleteChecks h s))
include hs

theorem flockDelete_missing (hf : flockFind (flockTab s) key = none) :
    ∃ t, exec (.flockDelete h key) s = .next t ∧ t.cmd = s.completing h cNotFound 0 0 ∧ s.sameBut [.cmd] t :=
  ⟨finish s h 0x0A02 cNotFound 0 0, (next_startCmd hs).trans (by simp only [flockDeleteBody, hf]), finish_cmd ..,
    finish_sameBut_quiet s h _ _ _ rfl⟩

theorem flockDelete_found {p : Bool × Nat} (hf : flockFind (flockTab s) key = some p) :
    ∃ t, exec (.flockDelete h key) s = .next t ∧
      flockTab t = flockPut (flockTab s) p (entryClear (flockGet (flockTab s) p)) ∧ t.flock.backMain = t.flock.main ∧
      t.flock.backStash = t.flock.stash ∧ t.cmd = s.completing h cOk (p.2 + if p.1 then 2 ^ 20 else 0) 0 ∧
      s.sameBut [.regs, .cmd, .pcie, .flock] t := by
  have hw : placeWord { tab := flockTab s, place := p } = p.2 + if p.1 then 2 ^ 20 else 0 := by simp [placeWord]
  have hexec : exec (.flockDelete h key) s = .next (finish (flockCommit s (flockPut (flockTab s) p (entryClear (flockGet (flockTab s) p))))
      h 0x0A02 cOk (p.2 + if p.1 then 2 ^ 20 else 0) 0) :=
    (next_startCmd hs).trans (by simp only [flockDeleteBody, hf, hw])
  obtain ⟨htab, hmain, hstash, -⟩ := commits_holdsTable s (flockPut (flockTab s) p (entryClear (flockGet (flockTab s) p))) h 0x0A02 cOk
    (p.2 + if p.1 then 2 ^ 20 else 0)
  exact ⟨_, hexec, htab, hmain.trans (congrArg FlockTab.main htab.symm), hstash.trans (congrArg FlockTab.stash htab.symm), commits_cmd ..,
    commits_sameBut s _ h _ _ rfl⟩

end

/-! FLOCK_LOOKUP -/

theorem flockLook_ok {s : State} {key : BitVec 96} (h : ∀ i < 4, s.flock.bad.contains (i * 16384 + flockHash i key) = false) :
    flockLook s key = some (match flockFind (flockTab s) key with
      | some p => (flockGet (flockTab s) p).action | none => 0) := by
  have hany : (List.range 4).any (fun i => s.flock.bad.contains (i * 16384 + flockHash i key)) = false :=
    List.any_eq_false.2 fun i hi => by simp only [h i (List.mem_range.1 hi), Bool.false_eq_true, not_false_eq_true]
  unfold flockLook
  rw [hany]; rfl

theorem flockLook_bad {s : State} {key : BitVec 96} (h : ∃ i < 4, s.flock.bad.contains (i * 16384 + flockHash i key) = true) :
    flockLook s key = none := by
  obtain ⟨i, hi, hb⟩ := h
  exact if_pos (List.any_eq_true.2 ⟨i, List.mem_range.2 hi, hb⟩)

theorem flockUe_sameBut (s : State) : s.sameBut [.regs, .pcie, .log] (flockUe s) := by
  unfold flockUe State.sameBut; exact (raiseErr_hide (h_sub := rfl) ..).trans (incCnt_hide (h_sub := rfl) ..)

theorem flockUe_cmd (s : State) : (flockUe s).cmd = s.cmd := part_of_hide (flockUe_sameBut s) State.cmd fun _ => rfl

theorem flagSet_flockUe (s : State) : flagSet (flockUe s) Reg.FLOCK_STATUS 3 = true :=
  flagSet_raiseErr _ _ _ _ _ _ (by decide) (by decide) (by decide)

theorem rd_flockUe (s : State) : rd (flockUe s) Reg.FLOCK_ECC_CNT = satAdd (rd s Reg.FLOCK_ECC_CNT) 1 :=
  ((regsBut_raiseErr _ _ _ _ _ _).rd (by decide) (by decide)).trans (rd_incCnt ..)

section
variable {h : CmdHdr} {key : BitVec 96} {s : State} (hs : s.starts h (flockLookupChecks h))
include hs

theorem flockLookup_answers {a : Word} (ha : flockLook s key = some a) :
    ∃ t, exec (.flockLookup h key) s = .next t ∧ t.cmd = s.completing h cOk a.toNat 0 ∧ s.sameBut [.cmd] t :=
  ⟨finish s h 0x0A03 cOk a.toNat 0, (next_startCmd hs).trans (by simp only [flockLookupBody, ha]), finish_cmd ..,
    finish_sameBut_quiet s h _ _ _ rfl⟩

theorem flockLookup_bad (ha : flockLook s key = none) :
    ∃ t, exec (.flockLookup h key) s = .next t ∧ t.cmd = s.completing h cMedia 0 0 ∧
      rd t Reg.FLOCK_ECC_CNT = satAdd (rd s Reg.FLOCK_ECC_CNT) 1 ∧ flagSet t Reg.FLOCK_STATUS 3 = true ∧
      s.sameBut [.regs, .cmd, .pcie, .log] t :=
  ⟨finish (flockUe s) h 0x0A03 cMedia 0 0, (next_startCmd hs).trans (by simp only [flockLookupBody, ha]),
    finish_cmd_of_cmd (flockUe_cmd s) .., (rd_finish ..).trans (rd_flockUe s), (flagSet_finish ..).trans (flagSet_flockUe s),
    (hide_mono rfl (finish_sameBut_quiet _ h _ _ _ rfl)).trans (hide_mono rfl (flockUe_sameBut s))⟩

end

/-! FLOCK_BULK -/

/-- Whether FLOCK_BULK takes an entry: V is set and no reserved bit is. -/
def bulkEntryOk (e : FlockEntry) : Prop := entryV e = true ∧ nbits e.action.toNat 30 28 = 0

section
variable {h : CmdHdr} {mode : Byte} {count : BitVec 32} {src : BitVec 64} {s : State}
  (hs : s.starts h (flockBulkChecks h mode count src s))
include hs

theorem flockBulk_refuses {st r : Nat} (hb : flockBulkBody h mode count src s = refuse s h 0x0A04 st r) :
    ∃ t, exec (.flockBulk h mode count src) s = .next t ∧ t.cmd = s.completing h st r 0 ∧ s.sameBut [.cmd] t :=
  ⟨_, (next_startCmd hs).trans (congrArg _ hb), refuse_cmd .., finish_sameBut_quiet s h _ _ _ rfl⟩

theorem flockBulk_busy (hm : mode = 1) (hu : flockUsed s = true) (hc : captureBusy s = true) :
    ∃ t, exec (.flockBulk h mode count src) s = .next t ∧ t.cmd = s.completing h cBusy 0xFFFF 0 ∧ s.sameBut [.cmd] t :=
  flockBulk_refuses hs (if_pos ⟨hm, hu, hc⟩)

variable (hm : mode = 1 → flockUsed s = true → captureBusy s = false)
include hm

omit hs in
theorem not_bulkBusy : ¬(mode = 1 ∧ flockUsed s = true ∧ captureBusy s = true) := fun ⟨h1, h2, h3⟩ => by
  rw [hm h1 h2] at h3; cases h3

theorem flockBulk_short (hl : segsLen (bufList s src) < 16 * count.toNat) :
    ∃ t, exec (.flockBulk h mode count src) s = .next t ∧ t.cmd = s.completing h cField 12 0 ∧ s.sameBut [.cmd] t :=
  flockBulk_refuses hs ((if_neg (not_bulkBusy hm)).trans (if_pos hl))

variable {es : List FlockEntry} (hl : 16 * count.toNat ≤ segsLen (bufList s src))
  (hes : es = flockEntries count.toNat (segsRead s.mem (bufList s src) (16 * count.toNat)))
include hl hes

theorem flockBulk_badEntry (hbad : ∃ e ∈ es, ¬bulkEntryOk e) :
    ∃ t, exec (.flockBulk h mode count src) s = .next t ∧ t.cmd = s.completing h cField 16 0 ∧ s.sameBut [.cmd] t := by
  obtain ⟨e, he, hne⟩ := hbad
  subst hes
  refine flockBulk_refuses hs ((if_neg (not_bulkBusy hm)).trans ((if_neg (Nat.not_lt.2 hl)).trans (if_pos ?_)))
  refine List.any_eq_true.2 ⟨e, he, ?_⟩
  simp only [bulkEntryOk, not_and_or, Bool.not_eq_true] at hne
  rcases hne with hne | hne <;> simp [hne]

/-- The state in which a series is committed, FULL flagged where it did not end. -/
def bulkCommitted (s : State) (r : FlockTab × Nat) (n : Nat) : State :=
  if r.2 < n then raiseBit (flockCommit s r.1) Reg.FLOCK_STATUS 1 else flockCommit s r.1

omit hs hm hl hes in
theorem finish_bulkCommitted (s : State) (h : CmdHdr) (r : FlockTab × Nat) (n : Nat) :
    finish (bulkCommitted s r n) h 0x0A04 (if r.2 < n then cFlockFull else cOk) r.2 0 =
      if r.2 < n then finish (raiseBit (flockCommit s r.1) Reg.FLOCK_STATUS 1) h 0x0A04 cFlockFull r.2 0
      else finish (flockCommit s r.1) h 0x0A04 cOk r.2 0 := by
  by_cases hlt : r.2 < n <;> simp only [bulkCommitted, hlt, if_true, if_false]

omit hs hm hl hes in
theorem bulkCommitted_flock (s : State) (r : FlockTab × Nat) (n : Nat) : (bulkCommitted s r n).flock = (flockCommit s r.1).flock := by
  unfold bulkCommitted; split
  · exact raiseBit_flock ..
  · rfl

omit hs hm hl hes in
theorem bulkCommitted_sameBut (s : State) (r : FlockTab × Nat) (n : Nat) : s.sameBut [.regs, .pcie, .flock] (bulkCommitted s r n) := by
  unfold bulkCommitted; split
  · exact (raiseBit_hide (h_sub := rfl) ..).trans (flockCommit_sameBut s r.1)
  · exact flockCommit_sameBut s r.1

theorem exec_flockBulk_commits {r : FlockTab × Nat} (hok : ∀ e ∈ es, bulkEntryOk e)
    (hr : r = flockSeries (if mode = 1 then ⟨clearAll s.flock.main, clearAll s.flock.stash⟩ else flockTab s) es) :
    exec (.flockBulk h mode count src) s = .next (finish (bulkCommitted s r count.toNat) h 0x0A04
      (if r.2 < count.toNat then cFlockFull else cOk) r.2 0) := by
  refine (next_startCmd hs).trans (congrArg _ ?_)
  have hany : es.any (fun e => !entryV e || nbits e.action.toNat 30 28 != 0) = false :=
    List.any_eq_false.2 fun e he => by
      obtain ⟨hv, hz⟩ := hok e he
      simp [hv, hz]
  subst hes hr
  refine (if_neg (not_bulkBusy hm)).trans ((if_neg (Nat.not_lt.2 hl)).trans ((if_neg (by simp [hany])).trans ?_))
  exact (finish_bulkCommitted ..).symm

/-- FLOCK_BULK with entries that it takes: their series is committed, and it completes with how many found a place. -/
theorem flockBulk_commits {r : FlockTab × Nat} (hok : ∀ e ∈ es, bulkEntryOk e)
    (hr : r = flockSeries (if mode = 1 then ⟨clearAll s.flock.main, clearAll s.flock.stash⟩ else flockTab s) es) :
    ∃ t, exec (.flockBulk h mode count src) s = .next t ∧ flockTab t = r.1 ∧ t.flock.backMain = t.flock.main ∧
      t.flock.backStash = t.flock.stash ∧ t.cmd = s.completing h (if r.2 < count.toNat then cFlockFull else cOk) r.2 0 ∧
      s.sameBut [.regs, .cmd, .pcie, .flock] t := by
  obtain ⟨htab, hmain, hstash, -⟩ := holdsTable_of_flock
    ((finish_part (bulkCommitted s r count.toNat) h 0x0A04 (if r.2 < count.toNat then cFlockFull else cOk) r.2 0 State.flock fun _ => rfl).trans
      (bulkCommitted_flock s r count.toNat))
  exact ⟨_, exec_flockBulk_commits hs hm hl hes hok hr, htab, hmain.trans (congrArg FlockTab.main htab.symm),
    hstash.trans (congrArg FlockTab.stash htab.symm), finish_cmd_of_cmd (part_of_hide (bulkCommitted_sameBut s r _) State.cmd fun _ => rfl) ..,
    finish_sameBut rfl (hide_mono rfl (bulkCommitted_sameBut s r _))⟩

end

/-- FLOCK_INSERT, by where the entry finds its place. -/
theorem flockInsert_places {h : CmdHdr} {key : BitVec 96} {action : BitVec 32} {s : State} (hs : s.starts h (flockInsertChecks h action s)) :
    (∀ p, flockFind (flockTab s) key = some p →
      InsertsAt h key action s (flockPut (flockTab s) p { key := key, action := action }) p 0 true) ∧
    (flockFind (flockTab s) key = none →
      (∀ n, emptyIn (flockTab s) key [0, 1, 2, 3] = some n →
        InsertsAt h key action s (setMain (flockTab s) n { key := key, action := action }) (false, n) 0 false) ∧
      (emptyIn (flockTab s) key [0, 1, 2, 3] = none →
        (∀ T1 k p, flockChain 1 0 { key := key, action := action } (flockTab s) 64 = some (T1, k) → flockFind T1 key = some p →
          InsertsAt h key action s T1 p k false) ∧
        (flockChain 1 0 { key := key, action := action } (flockTab s) 64 = none →
          (∀ n, (List.range 256).find? (fun n => !entryV (stashAt (flockTab s) n)) = some n →
            InsertsAt h key action s (setStash (flockTab s) n { key := key, action := action }) (true, n) 0 false) ∧
          ((∀ n < 256, entryV (stashAt (flockTab s) n) = true) →
            ∃ t, exec (.flockInsert h key action) s = .next t ∧ t.cmd = s.completing h cFlockFull 0 0 ∧
              flagSet t Reg.FLOCK_STATUS 1 = true ∧ s.sameBut [.regs, .cmd, .pcie] t)))) := by
  let e : FlockEntry := { key := key, action := action }
  have hv : entryV e = true := flockInsert_entryV hs
  refine ⟨fun p hp => ?_, fun hf => ⟨fun n hn => ?_, fun hn => ⟨fun T1 k p hc hp => ?_, fun hc => ⟨fun n hst => ?_, fun hst => ?_⟩⟩⟩⟩
  · have hfind : flockFind (flockPut (flockTab s) p e) e.key = some p := flockFind_flockPut hv hp
    exact insertsAt_placed hs (flockPlace_replaces (e := e) hp) hfind
  · have hfind : flockFind (setMain (flockTab s) n e) e.key = some (false, n) :=
      flockFind_setMain hv (emptyIn_mem_keyPlaces hn) (.inl (flockFind_none hf).1)
    exact insertsAt_placed hs (flockPlace_empty (e := e) hf hn) hfind
  · exact insertsAt_placed hs (flockPlace_chain (e := e) hf hn hc hp) hp
  · obtain ⟨hmain, hstash⟩ := flockFind_none hf
    have hfind : flockFind (setStash (flockTab s) n e) e.key = some (true, n) :=
      flockFind_setStash hv (List.mem_range.1 (List.mem_of_find?_eq_some hst)) hmain (.inl hstash)
    exact insertsAt_placed hs (flockPlace_stash (e := e) hf hn hc hst) hfind
  · exact flockInsert_full hs (flockPlace_full (e := e) hf hn hc hst)

/-- Settles O38, command by command: FLOCK_INSERT by where `flockPlace` puts the entry, the others by what they commit or refuse. -/
theorem flockCommandsKeepTheTable : Obligations.FlockCommandsKeepTheTable := by
  unfold Obligations.FlockCommandsKeepTheTable
  refine ⟨fun h key action s T e hs hT he => ?_, fun h key s hs => ?_, fun h key s hs => ⟨fun hok => ?_, fun hbad => ?_⟩,
    fun h mode count src s es r hs hl hes hr => ⟨fun hm hu hc => flockBulk_busy hs hm hu hc, fun hm hok => flockBulk_commits hs hm hl hes hok hr,
      fun hm hbad => flockBulk_badEntry hs hm hl hes hbad⟩, fun h mode count src s hs hm hl => flockBulk_short hs hm hl⟩
  · subst hT he
    exact flockInsert_places hs
  · split
    · exact flockDelete_found hs ‹_›
    · exact flockDelete_missing hs ‹_›
  · obtain ⟨t, ht, hcmd, hsame⟩ := flockLookup_answers hs (flockLook_ok hok)
    refine ⟨t, ht, hcmd.trans ?_, hsame⟩
    cases flockFind (flockTab s) key <;> rfl
  · exact flockLookup_bad hs (flockLook_bad hbad)

end Sys2Proof.Machine

/-!
PROOF. What a recognizer's result depends on (R104-R120): states that agree on it give the same result.
-/

namespace Sys2Proof.Machine

/-- Two states that agree on what the recognizers read at sample `i`, the counters and the timers left out. -/
structure State.sameView (s t : State) (i : Sample) : Prop where
  ingest : t.ingest = s.ingest
  tb : t.tb = s.tb
  deck : t.deck.active = s.deck.active
  cfg : ∀ g hi lo, rdF t (Reg.INGEST_STATE_CFG g) hi lo = rdF s (Reg.INGEST_STATE_CFG g) hi lo
  first : t.recog.first = s.recog.first
  keys : t.recog.keys = s.recog.keys
  stamps : t.recog.stamps = s.recog.stamps
  trigIn : t.recog.trigIn = s.recog.trigIn
  gate : t.recog.gate = s.recog.gate
  slices : ∀ r, slicePaused t r i = slicePaused s r i

namespace State.sameView

variable {s t : State} {i : Sample}

theorem rawSample_eq (h : s.sameView t i) (k c j : Nat) : rawSample t k c j = rawSample s k c j := by
  simp only [rawSample, blockOf, h.ingest]

theorem qualChan_eq (h : s.sameView t i) (g : Nat) : qualChan t g = qualChan s g := by
  simp only [qualChan, h.cfg]

theorem isWord_eq (h : s.sameView t i) (g j : Nat) : isWord t g j = isWord s g j := by
  simp only [isWord, h.rawSample_eq, h.qualChan_eq, h.cfg, h.ingest]

theorem lastWord_eq (h : s.sameView t i) (g : Nat) : ∀ n j, lastWord t g j n = lastWord s g j n
  | 0, _ => rfl
  | n + 1, j => by simp only [lastWord, h.isWord_eq, h.lastWord_eq g n]

theorem chanAt_eq (h : s.sameView t i) (d : DeckImage) (c j : Nat) : chanAt t d c j = chanAt s d c j := by
  simp only [chanAt, heldSample, h.rawSample_eq, h.qualChan_eq, h.lastWord_eq, h.ingest]

theorem gridT_eq (h : s.sameView t i) (j : Sample) : gridT t j = gridT s j := by
  simp only [gridT, gridTime, period, rateK, actDeck, h.tb, h.deck]

theorem hasPrev_eq (h : s.sameView t i) (j : Sample) : hasPrev t j = hasPrev s j := by
  simp only [hasPrev, h.first]

theorem sampleBack_eq (h : s.sameView t i) (j back : Nat) : sampleBack t j back = sampleBack s j back := by
  simp only [sampleBack, h.first]

theorem patternAt_eq (h : s.sameView t i) (d : DeckImage) (r : Nat) : patternAt t d r i = patternAt s d r i := by
  simp only [patternAt, h.chanAt_eq]

theorem edgeRecAt_eq (h : s.sameView t i) (d : DeckImage) (r : Nat) : edgeRecAt t d r i = edgeRecAt s d r i := by
  simp only [edgeRecAt, edgeAt, h.chanAt_eq, h.hasPrev_eq, h.slices, h.patternAt_eq]

theorem rangeAt_eq (h : s.sameView t i) (d : DeckImage) (r : Nat) : rangeAt t d r i = rangeAt s d r i := by
  simp only [rangeAt, h.chanAt_eq]

theorem stampRecAt_eq (h : s.sameView t i) (l : List Stamp) (e : Nat) : stampRecAt t l e i = stampRecAt s l e i := by
  simp only [stampRecAt, stampsIn, h.gridT_eq]

theorem gateRecAt_eq (h : s.sameView t i) (d : DeckImage) : gateRecAt t d i = gateRecAt s d i := by
  simp only [gateRecAt, gateLevelAt, h.gate, h.gridT_eq]

theorem recSimple_eq (h : s.sameView t i) (d : DeckImage) (r : Nat) : recSimple t d r i = recSimple s d r i := by
  simp only [recSimple, flockGiven, h.slices, h.patternAt_eq, h.edgeRecAt_eq, h.rangeAt_eq, h.stampRecAt_eq, h.gateRecAt_eq, h.keys,
    h.stamps, h.trigIn]

/-- With the same counters and timers the two agree on every recognizer. -/
theorem recAt_eq (h : s.sameView t i) (hc : t.recog.counters = s.recog.counters) (ht : t.recog.timers = s.recog.timers) (d : DeckImage)
    (r : Nat) : recAt t d r i = recAt s d r i := by
  simp only [recAt, counterOf, timerOf, h.slices, h.recSimple_eq, hc, ht]

end State.sameView

end Sys2Proof.Machine

/-!
PROOF. Counters and timers take samples (R113, R115): what else stays, and what one sample changes.
-/

namespace Sys2Proof.Machine

/-! What taking samples may change -/

theorem raiseBit_recog (s : State) (o b : Nat) : (raiseBit s o b).recog = s.recog := raiseBit_part s o b State.recog fun _ => rfl

/-- Registers but TRIG_REC_STATUS are as before, and of the recognizers all but counters, timers and the last sample evaluated. -/
structure State.stepsUnits (s t : State) : Prop where
  frame : s.sameBut [.regs, .pcie, .recog] t
  regs : s.regsBut [Reg.TRIG_REC_STATUS, Reg.PCIE_STATUS] t
  recog : t.recog = { s.recog with counters := t.recog.counters, timers := t.recog.timers, evalTo := t.recog.evalTo }

namespace State.stepsUnits

variable {s t u : State}

theorem refl (s : State) : s.stepsUnits s := ⟨rfl, regsBut_refl _ s, rfl⟩

theorem trans (h1 : s.stepsUnits t) (h2 : t.stepsUnits u) : s.stepsUnits u :=
  ⟨h2.frame.trans h1.frame, regsBut_trans h1.regs h2.regs, by rw [h2.recog, h1.recog]⟩

theorem foldl {α : Type} {f : State → α → State} (h : ∀ (s : State) x, s.stepsUnits (f s x)) : ∀ (l : List α) (s : State), s.stepsUnits (l.foldl f s)
  | [], s => refl s
  | x :: l, s => (h s x).trans (foldl h l _)

theorem setCounter (s : State) (n : Nat) (c : CounterSt) : s.stepsUnits (setCounter s n c) :=
  ⟨hide_modRecog _ _ rfl, regsBut_of_eq rfl, rfl⟩

theorem setTimer (s : State) (n : Nat) (x : TimerSt) : s.stepsUnits (setTimer s n x) :=
  ⟨hide_modRecog _ _ rfl, regsBut_of_eq rfl, rfl⟩

theorem raiseBit (s : State) (b : Nat) : s.stepsUnits (raiseBit s Reg.TRIG_REC_STATUS b) :=
  ⟨raiseBit_hide (h_sub := rfl) .., regsBut_raiseBit s _ b, by rw [raiseBit_recog]⟩

theorem advCounter (d : DeckImage) (i : Sample) (s : State) (n : Nat) : s.stepsUnits (advCounter d i s n) := by
  unfold Machine.advCounter; dsimp only
  split
  · exact refl s
  · split
    · exact (setCounter s n _).trans (raiseBit _ 2)
    · exact setCounter s n _

theorem advTimer (d : DeckImage) (i : Sample) (s : State) (n : Nat) : s.stepsUnits (advTimer d i s n) := by
  unfold Machine.advTimer; dsimp only
  split
  · exact refl s
  · exact setTimer s n _

theorem advUnits (d : DeckImage) (cs ts : List Nat) (i : Sample) (s : State) : s.stepsUnits (advUnits d cs ts i s) :=
  (foldl (advCounter d i) cs s).trans (foldl (advTimer d i) ts _)

theorem stepN {f : Nat → State → State} (h : ∀ i (s : State), s.stepsUnits (f i s)) (s : State) : ∀ n i, s.stepsUnits (stepN f i n s)
  | 0, _ => refl s
  | n + 1, i => (stepN h s n (i - 1)).trans (h i _)

end State.stepsUnits

/-- The state in which sample `i` counts among those evaluated. -/
def evalNoted (s : State) (i : Sample) : State := s.modRecog fun r => { r with evalTo := some (max (r.evalTo.getD i) i) }

/-- The samples that the enabled counters and timers take next. -/
def nextTaken (s : State) (d : DeckImage) : List Sample :=
  (usedCounters d).map (fun n => unitNext s (counterOf s n).last) ++ (usedTimers d).map (fun n => unitNext s (timerOf s n).last)

theorem noteEval_eq (s : State) (d : DeckImage) (i : Sample) : noteEval s d i = (nextTaken s d).min?.elim (evalNoted s i)
    fun a => stepN (advUnits d (usedCounters d) (usedTimers d)) i (i + 1 - a) (evalNoted s i) := by
  change (match (nextTaken s d).min? with | none => _ | some a => _) = _
  cases (nextTaken s d).min? <;> rfl

theorem evalNoted_stepsUnits (s : State) (i : Sample) : s.stepsUnits (evalNoted s i) := ⟨hide_modRecog _ _ rfl, regsBut_of_eq rfl, rfl⟩

theorem noteEval_stepsUnits (s : State) (d : DeckImage) (i : Sample) : s.stepsUnits (noteEval s d i) := by
  rw [noteEval_eq]
  cases (nextTaken s d).min? with
  | none => exact evalNoted_stepsUnits s i
  | some a =>
    exact (evalNoted_stepsUnits s i).trans (.stepN (State.stepsUnits.advUnits d _ _) _ _ _)

/-- Taking samples leaves what every other recognizer reads. -/
theorem State.stepsUnits.sameView {s t : State} (h : s.stepsUnits t) (i : Sample) : s.sameView t i where
  ingest := part_of_hide h.frame State.ingest fun _ => rfl
  tb := part_of_hide h.frame State.tb fun _ => rfl
  deck := part_of_hide h.frame (·.deck.active) fun _ => rfl
  cfg g hi lo := h.regs.rdF hi lo (by simp [Reg.INGEST_STATE_CFG, Reg.TRIG_REC_STATUS, Reg.PCIE_STATUS]; omega)
    (by unfold Reg.INGEST_STATE_CFG; omega)
  first := by rw [h.recog]
  keys := by rw [h.recog]
  stamps := by rw [h.recog]
  trigIn := by rw [h.recog]
  gate := by rw [h.recog]
  slices r := by rw [slicePaused, h.recog]; rfl

/-! Histories of results -/

/-- The newest result of a history, with AMBIG. -/
def newestRes (l : List ResChange) (dflt : Bool) : Bool × Bool := (l.head?.map fun c => (c.res, c.ambig)).getD (dflt, false)

theorem pushRes_eq (l : List ResChange) (dflt : Bool) (i : Sample) (res ambig : Bool) :
    pushRes l dflt i res ambig = if newestRes l dflt = (res, ambig) then l else { from_ := i, res := res, ambig := ambig } :: l := by
  cases l <;> rfl

theorem resAt_pushRes_before (l : List ResChange) (dflt : Bool) {i j : Sample} (res ambig : Bool) (h : j < i) :
    resAt (pushRes l dflt i res ambig) dflt j = resAt l dflt j := by
  rw [pushRes_eq]
  split
  · rfl
  · rw [resAt, List.find?_cons_of_neg (by simpa using h)]; rfl

/-- From sample `i` on, a history with no later change gives what has joined it. -/
theorem resAt_pushRes_at {l : List ResChange} (dflt : Bool) {i : Sample} (res ambig : Bool) (h : ∀ r ∈ l, r.from_ ≤ i) :
    (resAt (pushRes l dflt i res ambig) dflt i).res = res := by
  rw [pushRes_eq]
  split
  · rename_i hcur
    cases l with
    | nil => exact (Prod.mk.inj hcur).1
    | cons c l =>
      rw [resAt, List.find?_cons_of_pos (by simpa using h c List.mem_cons_self)]
      exact (Prod.mk.inj hcur).1
  · rw [resAt, List.find?_cons_of_pos (by simp)]

/-! One sample at a counter -/

section
variable {s t : State} {d : DeckImage} {i : Sample} {n : Nat}

@[simp] theorem counterOf_setCounter_same (c : CounterSt) : counterOf (setCounter s n c) n = c := tabGet_tabPut_same ..

theorem counterOf_setCounter_other {k : Nat} (c : CounterSt) (h : k ≠ n) : counterOf (setCounter s n c) k = counterOf s k :=
  tabGet_tabPut_other _ _ _ h _

@[simp] theorem counterOf_setTimer (k : Nat) (x : TimerSt) : counterOf (setTimer s n x) k = counterOf s k := rfl

@[simp] theorem timerOf_setTimer_same (x : TimerSt) : timerOf (setTimer s n x) n = x := tabGet_tabPut_same ..

theorem timerOf_setTimer_other {k : Nat} (x : TimerSt) (h : k ≠ n) : timerOf (setTimer s n x) k = timerOf s k := tabGet_tabPut_other _ _ _ h _

@[simp] theorem timerOf_setCounter (k : Nat) (c : CounterSt) : timerOf (setCounter s n c) k = timerOf s k := rfl

@[simp] theorem counterOf_raiseBit (o b k : Nat) : counterOf (raiseBit s o b) k = counterOf s k := by
  rw [counterOf, raiseBit_recog]; rfl

@[simp] theorem timerOf_raiseBit (o b k : Nat) : timerOf (raiseBit s o b) k = timerOf s k := by
  rw [timerOf, raiseBit_recog]; rfl

theorem cntStep_count (s : State) (d : DeckImage) (n : Nat) (i : Sample) (c : CounterSt) : (cntStep s d n i c).count.toNat =
    min ((if rSrcB d (0x140 + n) ≠ 0x3FF ∧ (recSimple s d (rSrcB d (0x140 + n)) i).res = true then 0 else c.count.toNat) +
      cntInc s d n i c) cntMax := by
  have hlt (v : Nat) : (BitVec.ofNat 48 (min v cntMax)).toNat = min v cntMax := by
    rw [BitVec.toNat_ofNat]
    exact Nat.mod_eq_of_lt (by unfold cntMax; omega)
  unfold cntStep cntAdd; dsimp only
  rw [hlt]
  split <;> rfl

theorem cntStep_results (s : State) (d : DeckImage) (n : Nat) (i : Sample) (c : CounterSt) : (cntStep s d n i c).results =
    pushRes c.results (cntTarget d n == 0) i (decide (cntTarget d n ≤ (cntStep s d n i c).count.toNat)) false := by
  rw [cntStep_count]
  unfold cntStep cntAdd; dsimp only
  split <;> rfl

theorem counterOf_advCounter_other {k : Nat} (h : k ≠ n) : counterOf (advCounter d i s n) k = counterOf s k := by
  unfold advCounter; dsimp only
  (repeat' split) <;> simp [counterOf_setCounter_other _ h]

theorem counterOf_advCounter_same (h : unitNext s (counterOf s n).last ≤ i) :
    counterOf (advCounter d i s n) n = cntStep s d n i (counterOf s n) := by
  unfold advCounter; dsimp only
  rw [if_neg (Nat.not_lt.2 h)]
  split <;> simp

theorem timerOf_advCounter (k : Nat) : timerOf (advCounter d i s n) k = timerOf s k := by
  unfold advCounter; dsimp only
  (repeat' split) <;> simp

theorem counterOf_advTimer (k : Nat) : counterOf (advTimer d i s n) k = counterOf s k := by
  unfold advTimer; dsimp only
  split <;> simp

theorem timerOf_advTimer_other {k : Nat} (h : k ≠ n) : timerOf (advTimer d i s n) k = timerOf s k := by
  unfold advTimer; dsimp only
  split <;> simp [timerOf_setTimer_other _ h]

theorem timerOf_advTimer_same (h : unitNext s (timerOf s n).last ≤ i) : timerOf (advTimer d i s n) n = tmrStep s d n i (timerOf s n) := by
  unfold advTimer; dsimp only
  rw [if_neg (Nat.not_lt.2 h), timerOf_setTimer_same]

end

/-! Results of counters and timers -/

theorem recAt_counter {s : State} {d : DeckImage} {n : Nat} {i : Sample} (hn : n < 64) (hen : recEn d (0x140 + n) = true)
    (hp : slicePaused s (0x140 + n) i = false) : recAt s d (0x140 + n) i = resAt (counterOf s n).results (cntTarget d n == 0) i := by
  unfold recAt
  rw [if_pos (by omega), hen, hp, if_pos (show 0x140 + n < 0x180 by omega), Nat.add_sub_cancel_left]
  rfl

theorem recAt_timer {s : State} {d : DeckImage} {n : Nat} {i : Sample} (hn : n < 32) (hen : recEn d (0x180 + n) = true)
    (hp : slicePaused s (0x180 + n) i = false) : recAt s d (0x180 + n) i = resAt (timerOf s n).results false i := by
  unfold recAt
  rw [if_pos (by omega), hen, hp, if_neg (show ¬0x180 + n < 0x180 by omega), Nat.add_sub_cancel_left]
  rfl

/-- `t` differs from `s` by units that have taken sample `i`: results at earlier samples are as before. -/
structure State.takes (d : DeckImage) (i : Sample) (s t : State) : Prop where
  steps : s.stepsUnits t
  counters : ∀ n j, j < i → resAt (counterOf t n).results (cntTarget d n == 0) j = resAt (counterOf s n).results (cntTarget d n == 0) j
  timers : ∀ n j, j < i → resAt (timerOf t n).results false j = resAt (timerOf s n).results false j

namespace State.takes

variable {d : DeckImage} {i : Sample} {s t u : State}

theorem refl (s : State) : s.takes d i s := ⟨.refl s, fun _ _ _ => rfl, fun _ _ _ => rfl⟩

theorem trans (h1 : s.takes d i t) (h2 : t.takes d i u) : s.takes d i u :=
  ⟨h1.steps.trans h2.steps, fun n j h => (h2.counters n j h).trans (h1.counters n j h),
    fun n j h => (h2.timers n j h).trans (h1.timers n j h)⟩

theorem evalNoted (s : State) (k : Sample) : s.takes d i (evalNoted s k) :=
  ⟨evalNoted_stepsUnits s k, fun _ _ _ => rfl, fun _ _ _ => rfl⟩

theorem advCounter (s : State) (n : Nat) : s.takes d i (advCounter d i s n) := by
  refine ⟨.advCounter d i s n, fun k j hj => ?_, fun k j _ => by rw [timerOf_advCounter]⟩
  by_cases hk : k = n
  · subst hk
    by_cases hnext : unitNext s (counterOf s k).last ≤ i
    · rw [counterOf_advCounter_same hnext, cntStep_results, resAt_pushRes_before _ _ _ _ hj]
    · rw [Machine.advCounter, if_pos (Nat.lt_of_not_le hnext)]
  · rw [counterOf_advCounter_other hk]

theorem foldl_advCounter : ∀ (l : List Nat) (s : State), s.takes d i (l.foldl (Machine.advCounter d i) s)
  | [], s => refl s
  | n :: l, s => (advCounter s n).trans (foldl_advCounter l _)

/-- Every recognizer's result at an earlier sample is as before. -/
theorem recAt_before (h : s.takes d i t) (r : Nat) {j : Sample} (hj : j < i) : recAt t d r j = recAt s d r j := by
  have hv := h.steps.sameView j
  unfold recAt
  rw [hv.recSimple_eq, hv.slices, h.timers _ _ hj]
  by_cases hr : 0x140 ≤ r ∧ r < 0x1A0
  · rw [if_pos hr, if_pos hr, h.counters _ _ hj]
  · rw [if_neg hr, if_neg hr]

theorem cntInc_eq (h : s.takes d i t) (n : Nat) (c : CounterSt) : cntInc t d n i c = cntInc s d n i c := by
  have hv := h.steps.sameView
  have hback : ∀ j, sampleBack s i (feedLag d) = some j → j < i := fun j hj => by
    have hlag : 0 < feedLag d := Nat.mul_pos (by decide) (Nat.two_pow_pos _)
    unfold sampleBack at hj
    split at hj
    · obtain rfl := Option.some.inj hj
      exact Nat.sub_lt (Nat.lt_of_lt_of_le hlag (Nat.le_of_add_left_le ‹_›)) hlag
    · cases hj
  unfold cntInc; dsimp only
  rw [(hv i).recSimple_eq, (hv (i - 1)).recSimple_eq, (hv i).hasPrev_eq, (hv i).sampleBack_eq]
  cases feedInst d n with
  | none => rfl
  | some k =>
    cases hj : sampleBack s i (feedLag d) with
    | none => rfl
    | some j => dsimp only; rw [h.recAt_before _ (hback j hj)]

theorem cntStep_eq (h : s.takes d i t) (n : Nat) (c : CounterSt) : cntStep t d n i c = cntStep s d n i c := by
  simp only [cntStep, (h.steps.sameView i).recSimple_eq, h.cntInc_eq]

theorem unitNext_eq (h : s.takes d i t) (l : Option Sample) : unitNext t l = unitNext s l := by
  rw [unitNext, (h.steps.sameView i).first]; rfl

end State.takes

/-! Every unit takes the sample -/

section
variable {s : State} {d : DeckImage} {i : Sample}

theorem tmrStep_eq {t : State} (h : s.stepsUnits t) (n : Nat) (x : TimerSt) : tmrStep t d n i x = tmrStep s d n i x := by
  simp only [tmrStep, expired, (h.sameView i).recSimple_eq, (h.sameView i).gridT_eq]

theorem counterOf_foldl_other {n : Nat} : ∀ (l : List Nat) (s : State), n ∉ l → counterOf (l.foldl (advCounter d i) s) n = counterOf s n
  | [], _, _ => rfl
  | m :: l, s, h => by
    obtain ⟨hm, hl⟩ := not_or.1 (mt List.mem_cons.2 h)
    exact (counterOf_foldl_other l _ hl).trans (counterOf_advCounter_other hm)

theorem timerOf_foldl_other {n : Nat} : ∀ (l : List Nat) (s : State), n ∉ l → timerOf (l.foldl (advTimer d i) s) n = timerOf s n
  | [], _, _ => rfl
  | m :: l, s, h => by
    obtain ⟨hm, hl⟩ := not_or.1 (mt List.mem_cons.2 h)
    exact (timerOf_foldl_other l _ hl).trans (timerOf_advTimer_other hm)

theorem timerOf_foldl_advCounter (n : Nat) : ∀ (l : List Nat) (s : State), timerOf (l.foldl (advCounter d i) s) n = timerOf s n
  | [], _ => rfl
  | _ :: l, _ => (timerOf_foldl_advCounter n l _).trans (timerOf_advCounter n)

theorem counterOf_foldl_advTimer (n : Nat) : ∀ (l : List Nat) (s : State), counterOf (l.foldl (advTimer d i) s) n = counterOf s n
  | [], _ => rfl
  | _ :: l, _ => (counterOf_foldl_advTimer n l _).trans (counterOf_advTimer n)

/-- A counter of the list takes the sample from the state before any of them did: the others touch it not. -/
theorem counterOf_foldl_advCounter {l : List Nat} (hnd : l.Nodup) {n : Nat} (hn : n ∈ l) (hnext : unitNext s (counterOf s n).last ≤ i) :
    counterOf (l.foldl (advCounter d i) s) n = cntStep s d n i (counterOf s n) := by
  obtain ⟨l1, l2, rfl⟩ := List.append_of_mem hn
  obtain ⟨-, hnd2, hdisj⟩ := List.nodup_append.1 hnd
  have h1 : n ∉ l1 := fun h => hdisj n h n List.mem_cons_self rfl
  have htakes := State.takes.foldl_advCounter (d := d) (i := i) l1 s
  have hc : counterOf (l1.foldl (advCounter d i) s) n = counterOf s n := counterOf_foldl_other l1 s h1
  rw [List.foldl_append, List.foldl_cons, counterOf_foldl_other l2 _ (List.nodup_cons.1 hnd2).1,
    counterOf_advCounter_same (by rw [htakes.unitNext_eq, hc]; exact hnext), hc, htakes.cntStep_eq]

/-- The same of a timer. -/
theorem timerOf_foldl_advTimer {l : List Nat} (hnd : l.Nodup) {n : Nat} (hn : n ∈ l) (hnext : unitNext s (timerOf s n).last ≤ i) :
    timerOf (l.foldl (advTimer d i) s) n = tmrStep s d n i (timerOf s n) := by
  obtain ⟨l1, l2, rfl⟩ := List.append_of_mem hn
  obtain ⟨-, hnd2, hdisj⟩ := List.nodup_append.1 hnd
  have h1 : n ∉ l1 := fun h => hdisj n h n List.mem_cons_self rfl
  have hsteps := State.stepsUnits.foldl (State.stepsUnits.advTimer d i) l1 s
  have hx : timerOf (l1.foldl (advTimer d i) s) n = timerOf s n := timerOf_foldl_other l1 s h1
  have hfirst : unitNext (l1.foldl (advTimer d i) s) (timerOf s n).last = unitNext s (timerOf s n).last := by
    rw [unitNext, (hsteps.sameView i).first]; rfl
  rw [List.foldl_append, List.foldl_cons, timerOf_foldl_other l2 _ (List.nodup_cons.1 hnd2).1,
    timerOf_advTimer_same (by rw [hx, hfirst]; exact hnext), hx, tmrStep_eq hsteps]

theorem mem_usedCounters {n : Nat} : n ∈ usedCounters d ↔ n < 64 ∧ recEn d (0x140 + n) = true := by
  simp [usedCounters]

theorem usedCounters_nodup : (usedCounters d).Nodup := List.nodup_range.filter _

theorem usedTimers_nodup : (usedTimers d).Nodup := List.nodup_range.filter _

theorem mem_usedTimers {n : Nat} : n ∈ usedTimers d ↔ n < 32 ∧ recEn d (0x180 + n) = true := by
  simp [usedTimers]

end

/-! All units have taken the sample before -/

/-- Every enabled counter and timer has taken sample `l` last. -/
structure State.takenTo (s : State) (d : DeckImage) (l : Sample) : Prop where
  counters : ∀ k < 64, recEn d (0x140 + k) = true → (counterOf s k).last = some l
  timers : ∀ k < 32, recEn d (0x180 + k) = true → (timerOf s k).last = some l

namespace State.takenTo

variable {s : State} {d : DeckImage} {l : Sample} (h : s.takenTo d l)
include h

theorem nextTaken_eq : ∀ x ∈ nextTaken s d, x = l + 1 := by
  intro x hx
  rcases List.mem_append.1 hx with hx | hx
  · obtain ⟨n, hn, rfl⟩ := List.mem_map.1 hx
    obtain ⟨hlt, hen⟩ := mem_usedCounters.1 hn
    rw [h.counters n hlt hen]; rfl
  · obtain ⟨n, hn, rfl⟩ := List.mem_map.1 hx
    obtain ⟨hlt, hen⟩ := mem_usedTimers.1 hn
    rw [h.timers n hlt hen]; rfl

/-- Then the next sample is taken in one step, where there is a unit at all. -/
theorem noteEval_next (hne : nextTaken s d ≠ []) :
    noteEval s d (l + 1) = advUnits d (usedCounters d) (usedTimers d) (l + 1) (evalNoted s (l + 1)) := by
  have hmin : (nextTaken s d).min? = some (l + 1) := by
    obtain ⟨x, hx⟩ := List.exists_mem_of_ne_nil _ hne
    exact List.min?_eq_some_iff.2 ⟨h.nextTaken_eq x hx ▸ hx, fun y hy => (h.nextTaken_eq y hy).ge⟩
  rw [noteEval_eq, hmin, Option.elim_some, Nat.add_sub_cancel_left]
  rfl

theorem counterOf_noteEval {n : Nat} (hn : n < 64) (hen : recEn d (0x140 + n) = true) :
    counterOf (noteEval s d (l + 1)) n = cntStep s d n (l + 1) (counterOf s n) := by
  have hmem : n ∈ usedCounters d := mem_usedCounters.2 ⟨hn, hen⟩
  have hne : nextTaken s d ≠ [] := List.ne_nil_of_mem (List.mem_append_left _ (List.mem_map_of_mem hmem))
  have hnext : unitNext (evalNoted s (l + 1)) (counterOf (evalNoted s (l + 1)) n).last ≤ l + 1 := by
    rw [show counterOf (evalNoted s (l + 1)) n = counterOf s n from rfl, h.counters n hn hen]; exact Nat.le_refl _
  rw [h.noteEval_next hne, advUnits, counterOf_foldl_advTimer, counterOf_foldl_advCounter usedCounters_nodup hmem hnext]
  exact (State.takes.evalNoted s (l + 1)).cntStep_eq n _

theorem timerOf_noteEval {n : Nat} (hn : n < 32) (hen : recEn d (0x180 + n) = true) :
    timerOf (noteEval s d (l + 1)) n = tmrStep s d n (l + 1) (timerOf s n) := by
  have hmem : n ∈ usedTimers d := mem_usedTimers.2 ⟨hn, hen⟩
  have hne : nextTaken s d ≠ [] := List.ne_nil_of_mem (List.mem_append_right _ (List.mem_map_of_mem hmem))
  have hsteps : s.stepsUnits ((usedCounters d).foldl (advCounter d (l + 1)) (evalNoted s (l + 1))) :=
    (evalNoted_stepsUnits s _).trans (.foldl (State.stepsUnits.advCounter d _) _ _)
  have hx : timerOf ((usedCounters d).foldl (advCounter d (l + 1)) (evalNoted s (l + 1))) n = timerOf s n :=
    timerOf_foldl_advCounter n _ _
  have hnext : unitNext ((usedCounters d).foldl (advCounter d (l + 1)) (evalNoted s (l + 1)))
      (timerOf ((usedCounters d).foldl (advCounter d (l + 1)) (evalNoted s (l + 1))) n).last ≤ l + 1 := by
    rw [hx, h.timers n hn hen]; exact Nat.le_refl _
  rw [h.noteEval_next hne, advUnits, timerOf_foldl_advTimer usedTimers_nodup hmem hnext, hx, tmrStep_eq hsteps]

end State.takenTo

end Sys2Proof.Machine

/-!
PROOF. The rows of counters, timers and slices (R113-R115, R120).
-/

namespace Sys2Proof.Machine

/-! While no measurement runs, a row hands the measurement units nothing -/

theorem foldl_unchanged {α β : Type} {f : α → β → α} {a : α} : ∀ {l : List β}, (∀ b ∈ l, f a b = a) → l.foldl f a = a
  | [], _ => rfl
  | b :: l, h => by
    rw [List.foldl_cons, h b List.mem_cons_self]
    exact foldl_unchanged fun x hx => h x (List.mem_cons_of_mem _ hx)

theorem measPump_idle {s : State} {u : Nat} (h : (measOf s u).run = none) : measPump u s = s := by
  have hs : gateSamples u s = s := by simp only [gateSamples, h]
  simp only [measPump, hs, h]

theorem pumpAll_idle {s : State} (h : ∀ u < 4, (measOf s u).run = none) : pumpAll s = s :=
  foldl_unchanged fun u hu => measPump_idle (h u (List.mem_range.1 hu))

theorem measOf_noteEval (s : State) (d : DeckImage) (i : Sample) (u : Nat) : measOf (noteEval s d i) u = measOf s u :=
  part_of_hide (noteEval_stepsUnits s d i).frame (measOf · u) fun _ => rfl

section
variable {s : State} {d : DeckImage} (hd : actDeck s = some d)
include hd

theorem exec_counterTargetReached {n : Fin 64} (i : Sample) (hm : ∀ m < 4, (measOf s m).run = none) :
    exec (.counterTargetReached n i) s = .next (if recEn d (0x140 + n) then noteEval s d i else s) := by
  change execCounterTargetReached n i s = _
  unfold execCounterTargetReached
  rw [hd]; dsimp only
  rw [pumpAll_idle fun u hu => by rw [measOf_noteEval]; exact hm u hu]

theorem exec_timerExpiry {n : Fin 32} (i : Sample) (hm : ∀ m < 4, (measOf s m).run = none) :
    exec (.timerExpiry n i) s = .next (if recEn d (0x180 + n) then noteEval s d i else s) := by
  change execTimerExpiry n i s = _
  unfold execTimerExpiry
  rw [hd]; dsimp only
  rw [pumpAll_idle fun u hu => by rw [measOf_noteEval]; exact hm u hu]

end

/-! One sample at a timer -/

section
variable (s : State) (d : DeckImage) (n : Nat) (i : Sample) (x : TimerSt)

/-- The timer after the sample's stop, and after the start that follows it (R115). -/
def tmrStopped : TimerSt :=
  if rSrcB d (0x180 + n) ≠ 0x3FF ∧ (recSimple s d (rSrcB d (0x180 + n)) i).res then
    { x with start := none, elapsed := match x.start with | some a => elapsedNs a (gridT s i) | none => x.elapsed }
  else x

def tmrStarted : TimerSt :=
  if (recSimple s d (rSrcA d (0x180 + n)) i).res && ((tmrStopped s d n i x).start.isNone || nbit (recCtrl d (0x180 + n)) 1) then
    { tmrStopped s d n i x with start := some (gridT s i) }
  else tmrStopped s d n i x

/-- Whether a timer with this START has expired at the sample, and whether within the band. -/
def tmrDue (s : State) (limit i : Nat) : Option Time → Bool × Bool
  | some a => expired s a limit i
  | none => (false, false)

theorem tmrStep_spec : tmrStep s d n i x = { tmrStarted s d n i x with
    last := some i
    results := pushRes (tmrStarted s d n i x).results false i (tmrDue s (tmrLimit d n) i (tmrStarted s d n i x).start).1
      (tmrDue s (tmrLimit d n) i (tmrStarted s d n i x).start).2 } := rfl

theorem tmrStarted_results : (tmrStarted s d n i x).results = x.results := by
  unfold tmrStarted tmrStopped
  (repeat' split) <;> rfl

theorem tmrStopped_start : (tmrStopped s d n i x).start =
    if rSrcB d (0x180 + n) ≠ 0x3FF ∧ (recSimple s d (rSrcB d (0x180 + n)) i).res = true then none else x.start := by
  unfold tmrStopped
  split <;> rfl

theorem tmrStarted_start : (tmrStarted s d n i x).start =
    if (recSimple s d (rSrcA d (0x180 + n)) i).res && ((tmrStopped s d n i x).start.isNone || nbit (recCtrl d (0x180 + n)) 1) then
      some (gridT s i) else (tmrStopped s d n i x).start := by
  unfold tmrStarted
  split <;> rfl

theorem tmrDue_fst (limit : Nat) (start : Option Time) :
    (tmrDue s limit i start).1 = start.elim false fun a => decide (a + nsT limit ≤ gridT s i) := by
  cases start <;> rfl

end

/-! A counter and a timer at the sample that they have just taken -/

section
variable {s : State} {d : DeckImage} {l : Sample} (h : s.takenTo d l)
include h

theorem counter_result {n : Nat} (hn : n < 64) (hen : recEn d (0x140 + n) = true) (hres : ∀ r ∈ (counterOf s n).results, r.from_ ≤ l)
    (hp : slicePaused s (0x140 + n) (l + 1) = false) : (recAt (noteEval s d (l + 1)) d (0x140 + n) (l + 1)).res =
      decide (cntTarget d n ≤ (counterOf (noteEval s d (l + 1)) n).count.toNat) := by
  have hview := (noteEval_stepsUnits s d (l + 1)).sameView (l + 1)
  rw [recAt_counter hn hen ((hview.slices _).trans hp), h.counterOf_noteEval hn hen, cntStep_results,
    resAt_pushRes_at _ _ _ fun r hr => Nat.le_succ_of_le (hres r hr)]

theorem timer_result {n : Nat} (hn : n < 32) (hen : recEn d (0x180 + n) = true) (hres : ∀ r ∈ (timerOf s n).results, r.from_ ≤ l)
    (hp : slicePaused s (0x180 + n) (l + 1) = false) : (recAt (noteEval s d (l + 1)) d (0x180 + n) (l + 1)).res =
      (timerOf (noteEval s d (l + 1)) n).start.elim false fun a => decide (a + nsT (tmrLimit d n) ≤ gridT s (l + 1)) := by
  have hview := (noteEval_stepsUnits s d (l + 1)).sameView (l + 1)
  rw [recAt_timer hn hen ((hview.slices _).trans hp), h.timerOf_noteEval hn hen, tmrStep_spec]; dsimp only
  rw [tmrStarted_results, resAt_pushRes_at _ _ _ fun r hr => Nat.le_succ_of_le (hres r hr), tmrDue_fst]

end

/-! COUNTER_FEED_LATE (R114) -/

theorem raiseErr_recog (s : State) (o b cls src cell : Nat) : (raiseErr s o b cls src cell).recog = s.recog := raiseBit_recog s o b

/-- The counter with a late increment, where it has not taken it with its sample. -/
def fedLate (s : State) (d : DeckImage) (n : Nat) (i : Sample) (inc : Nat) (c : CounterSt) : CounterSt :=
  if i + feedLag d < unitNext s c.last then c else { cntAdd d n (unitNext s c.last) inc c with late := i :: c.late }

theorem fedLate_count (s : State) (d : DeckImage) (n : Nat) (i : Sample) (inc : Nat) (c : CounterSt) :
    (fedLate s d n i inc c).count.toNat =
      if i + feedLag d < unitNext s c.last then c.count.toNat else min (c.count.toNat + inc) cntMax := by
  unfold fedLate
  split
  · rfl
  · exact BitVec.toNat_ofNat .. |>.trans (Nat.mod_eq_of_lt (by unfold cntMax; omega))

/-- The state in which the counter has been given the late increment. -/
def lateFed (s : State) (d : DeckImage) (n : Nat) (i : Sample) (inc : Nat) : State :=
  let c := fedLate s d n i inc (counterOf s n)
  if c.sat && !(counterOf s n).sat then raiseBit (setCounter s n c) Reg.TRIG_REC_STATUS 2 else setCounter s n c

section
variable (s : State) (d : DeckImage) (n : Nat) (i : Sample) (inc : Nat)

theorem lateFed_stepsUnits : s.stepsUnits (lateFed s d n i inc) := by
  unfold lateFed; dsimp only
  split
  · exact (State.stepsUnits.setCounter s n _).trans (.raiseBit _ 2)
  · exact .setCounter s n _

theorem counterOf_lateFed_same : counterOf (lateFed s d n i inc) n = fedLate s d n i inc (counterOf s n) := by
  unfold lateFed; dsimp only
  split <;> simp

theorem counterOf_lateFed_other {k : Nat} (h : k ≠ n) : counterOf (lateFed s d n i inc) k = counterOf s k := by
  unfold lateFed; dsimp only
  split <;> simp [counterOf_setCounter_other _ h]

/-- The state in which a late FEED increment is counted and flagged. -/
def feedCounted (s : State) (n : Nat) : State :=
  raiseErr (wrF s Reg.TRIG_LATE_CNT 31 16 (min (rdF s Reg.TRIG_LATE_CNT 31 16 + 1) 0xFFFF)) Reg.TRIG_REC_STATUS 3 2 0x0480 n

theorem feedCounted_sameBut : s.sameBut [.regs, .pcie, .log] (feedCounted s n) :=
  (raiseErr_hide (h_sub := rfl) ..).trans (wrF_hide (h_sub := rfl) ..)

theorem rdF_feedCounted : rdF (feedCounted s n) Reg.TRIG_LATE_CNT 31 16 = min (rdF s Reg.TRIG_LATE_CNT 31 16 + 1) 0xFFFF ∧
    rdF (feedCounted s n) Reg.TRIG_LATE_CNT 15 0 = rdF s Reg.TRIG_LATE_CNT 15 0 := by
  have hraise := regsBut_raiseErr (wrF s Reg.TRIG_LATE_CNT 31 16 (min (rdF s Reg.TRIG_LATE_CNT 31 16 + 1) 0xFFFF)) Reg.TRIG_REC_STATUS 3 2
    0x0480 n
  refine ⟨(hraise.rdF 31 16 (by decide) (by decide)).trans ((rdF_wrF_same _ _ _ (by decide)).trans (Nat.mod_eq_of_lt (by omega))),
    (hraise.rdF 15 0 (by decide) (by decide)).trans (rdF_wrF_field _ _ _ (.inr (by decide)))⟩

theorem flagSet_feedCounted : flagSet (feedCounted s n) Reg.TRIG_REC_STATUS 3 = true :=
  flagSet_raiseErr _ _ _ _ _ _ (by decide) (by decide) (by decide)

theorem counterOf_feedCounted (k : Nat) : counterOf (feedCounted s n) k = counterOf s k := by
  rw [counterOf, feedCounted, raiseErr_recog]; rfl

variable {d n}

theorem counterFeedLate_fed (hen : recEn d (0x140 + n) = true) (hm : nbits (recCtrl d (0x140 + n)) 2 1 = 2) :
    counterFeedLate n i inc s d = feedCounted (lateFed s d n i inc) n := by
  unfold counterFeedLate
  rw [hen, hm]; rfl

theorem counterFeedLate_other (h : recEn d (0x140 + n) = false ∨ nbits (recCtrl d (0x140 + n)) 2 1 ≠ 2) :
    counterFeedLate n i inc s d = s := by
  unfold counterFeedLate
  rcases h with h | h <;> simp [h]

end

/-! RECOG_SLICE_PARITY (R120) -/

section
variable (s : State) (r : Nat)

/-- The failed slice pauses its recognizer from the next sample that is evaluated on, and no other. -/
theorem slicePaused_sliceFails (k : Nat) (i : Sample) :
    slicePaused (sliceFails r s) k i = (r == k && decide (evalNext s ≤ i) || slicePaused s k i) := by
  rw [slicePaused, sliceFails, raiseErr_recog]
  simp [slicePaused]

theorem sliceFails_sameView {i : Sample} (h : i < evalNext s) : s.sameView (sliceFails r s) i where
  ingest := part_of_hide (sliceFails_hide (m := 34050) (h_sub := rfl) r s) State.ingest fun _ => rfl
  tb := part_of_hide (sliceFails_hide (m := 34050) (h_sub := rfl) r s) State.tb fun _ => rfl
  deck := part_of_hide (sliceFails_hide (m := 34050) (h_sub := rfl) r s) (·.deck.active) fun _ => rfl
  cfg g hi lo := (regsBut_raiseErr _ _ _ _ _ _).rdF hi lo (by simp [Reg.INGEST_STATE_CFG, Reg.TRIG_REC_STATUS, Reg.PCIE_STATUS]; omega)
    (by unfold Reg.INGEST_STATE_CFG; omega)
  first := by rw [sliceFails, raiseErr_recog]; rfl
  keys := by rw [sliceFails, raiseErr_recog]; rfl
  stamps := by rw [sliceFails, raiseErr_recog]; rfl
  trigIn := by rw [sliceFails, raiseErr_recog]; rfl
  gate := by rw [sliceFails, raiseErr_recog]; rfl
  slices k := by rw [slicePaused_sliceFails, decide_eq_false (Nat.not_le.2 h), Bool.and_false, Bool.false_or]

theorem recAt_sliceFails (d : DeckImage) (i : Sample) :
    recAt (sliceFails r s) d r i = if recEn d r = true ∧ evalNext s ≤ i then { pause := true } else recAt s d r i := by
  by_cases hi : evalNext s ≤ i
  · have hp : slicePaused (sliceFails r s) r i = true := by rw [slicePaused_sliceFails]; simp [hi]
    cases hen : recEn d r <;> simp [recAt, recSimple, hen, hp, hi]
  · rw [if_neg fun h => hi h.2]
    refine (sliceFails_sameView s r (Nat.lt_of_not_le hi)).recAt_eq ?_ ?_ d r <;> (rw [sliceFails, raiseErr_recog]; rfl)

end

/-- Settles O35: a counter and a timer by the one step that `noteEval` takes, a late increment by `lateFed` and `feedCounted`, a slice by
what its recognizer reads from then on. -/
theorem countersTimersAndSlices : Obligations.CountersTimersAndSlices := by
  unfold Obligations.CountersTimersAndSlices
  refine ⟨fun n i l s d c v hd hm hc hi hv => ⟨fun hen => ⟨?_, fun hcs hts hres hp => ?_⟩, fun hen => ?_⟩,
    fun n i l s d x st hd hm hx hi hst => ⟨fun hen => ⟨?_, fun hcs hts hres hp => ?_⟩, fun hen => ?_⟩,
    fun n i inc s d hd => ⟨fun hen hm => ?_, fun h => ?_⟩, fun r s d hd => ?_⟩
  · rw [exec_counterTargetReached hd i hm, if_pos hen]
  · subst hc hi
    have h : s.takenTo d l := ⟨hcs, hts⟩
    have hcount : (counterOf (noteEval s d (l + 1)) n).count.toNat = v := by
      rw [h.counterOf_noteEval n.isLt hen, cntStep_count, hv]
    exact ⟨hcount, by rw [counter_result h n.isLt hen hres hp, hcount], (noteEval_stepsUnits s d _).frame⟩
  · rw [exec_counterTargetReached hd i hm, if_neg (by simp [hen])]
  · rw [exec_timerExpiry hd i hm, if_pos hen]
  · subst hx hi
    have h : s.takenTo d l := ⟨hcs, hts⟩
    refine ⟨by rw [h.timerOf_noteEval n.isLt hen, tmrStep_spec, tmrStarted_start, tmrStopped_start, ← hst], (timer_result h n.isLt hen hres hp).trans ?_⟩
    cases (timerOf (noteEval s d (l + 1)) n).start <;> rfl
  · rw [exec_timerExpiry hd i hm, if_neg (by simp [hen])]
  · have hexec : exec (.counterFeedLate n inc i) s = .next (feedCounted (lateFed s d n i inc.toNat) n) := by
      change execCounterFeedLate n inc s i = _
      rw [execCounterFeedLate, hd, ← counterFeedLate_fed s i inc.toNat hen hm]
    have hsteps := lateFed_stepsUnits s d n i inc.toNat
    have hlate (hi lo : Nat) : rdF (lateFed s d n i inc.toNat) Reg.TRIG_LATE_CNT hi lo = rdF s Reg.TRIG_LATE_CNT hi lo :=
      hsteps.regs.rdF hi lo (by decide) (by decide)
    obtain ⟨hhigh, hlow⟩ := rdF_feedCounted (lateFed s d n i inc.toNat) n
    refine ⟨_, hexec, ?_, by rw [hhigh, hlate], by rw [hlow, hlate], flagSet_feedCounted .., fun k hk => ?_, ?_⟩
    · rw [counterOf_feedCounted, counterOf_lateFed_same, fedLate_count]
    · rw [counterOf_feedCounted, counterOf_lateFed_other _ _ _ _ _ hk]
    · exact (hide_mono rfl (feedCounted_sameBut ..)).trans (hide_mono rfl hsteps.frame)
  · change execCounterFeedLate n inc s i = _
    rw [execCounterFeedLate, hd]; dsimp only
    rw [counterFeedLate_other _ _ _ h]
  · have hexec : exec (.recogSliceParity r) s = .next (sliceFails r s) := by
      change execRecogSliceParity r s = _
      rw [execRecogSliceParity, hd]
    exact ⟨_, hexec, flagSet_raiseErr _ _ _ _ _ _ (by decide) (by decide) (by decide), newestLog_raiseErr .., fun i => recAt_sliceFails s r d i,
      sliceFails_hide (h_sub := rfl) ..⟩

end Sys2Proof.Machine

/-!
PROOF. Keys of the flock: look-up, outcomes, the stash and a bucket in error (R126-R128, R130, R132).
-/

namespace Sys2Proof.Machine

/-! What a completed key reads and counts -/

theorem endCtx_sameBut (s : State) (i : KInst) : s.sameBut [.deck] (endCtx s i) := endCtx_hide (h_sub := rfl) ..

theorem endCtx_regs (s : State) (i : KInst) : (endCtx s i).regs = s.regs := part_of_hide (endCtx_sameBut s i) State.regs fun _ => rfl

theorem endCtx_recog (s : State) (i : KInst) : (endCtx s i).recog = s.recog := part_of_hide (endCtx_sameBut s i) State.recog fun _ => rfl

theorem flockLook_congr {s t : State} (h : t.flock = s.flock) (key : BitVec 96) : flockLook t key = flockLook s key := by
  simp only [flockLook, flockTab, h]

theorem incCnt_part {α : Type} (s : State) (o n : Nat) (f : State → α) (hf : ∀ x, f (x.hide 2) = f x) : f (incCnt s o n) = f s :=
  part_of_hide (incCnt_hide (h_sub := rfl) s o n) f hf

theorem flockUe_recog (s : State) : (flockUe s).recog = s.recog := part_of_hide (flockUe_sameBut s) State.recog fun _ => rfl

theorem regsBut_flockUe (s : State) : s.regsBut [Reg.FLOCK_ECC_CNT, Reg.FLOCK_STATUS, Reg.PCIE_STATUS] (flockUe s) :=
  regsBut_trans (regsBut_mono (by simp) (regsBut_incCnt s Reg.FLOCK_ECC_CNT 1))
    (regsBut_mono (by simp) (regsBut_raiseErr (incCnt s Reg.FLOCK_ECC_CNT 1) Reg.FLOCK_STATUS 3 2 0x0480 0))

/-- The outcome of a key that waits for its recognizers (R127). -/
def keyOutcome (f : Fin 16) (c : Sample) (a : Word) (bad : Bool) : FlockKey := { fk := f, sample := c, action := a, bad := bad, given := false }

/-- The state in which the outcome waits. -/
def keyNoted (s : State) (k : FlockKey) : State := s.modRecog fun r => { r with keys := r.keys ++ [k] }

theorem rd_keyNoted (s : State) (k : FlockKey) (o : Nat) : rd (keyNoted s k) o = rd s o := rfl

theorem keys_keyNoted (s : State) (k : FlockKey) : (keyNoted s k).recog.keys = s.recog.keys ++ [k] := rfl

theorem keyNoted_hide (s : State) (k : FlockKey) {m : Nat} (h_sub : 32768 &&& m = 32768 := by rfl) : (keyNoted s k).hide m = s.hide m :=
  hide_modRecog _ _ h_sub

theorem incCnt_other (s : State) {o o' : Nat} (h : o' ≠ o) : rd (incCnt s o 1) o' = rd s o' := rd_wr_other _ _ h

section
variable {s : State} {d : DeckImage} {i : KInst} {c : Sample} {f : Fin 16}

theorem flockKey_void (h : (keyOf s d i c).2 = true ∨ keyLost s d i c f = true) :
    flockKey s d i c f = raiseBit (incCnt (endCtx s i) (Reg.FLOCK_REC_CNT_VOID_KEYS f) 1) Reg.FLOCK_STATUS 0 :=
  if_pos (Bool.or_eq_true_iff.2 h)

variable (hk : (keyOf s d i c).2 = false) (hl : keyLost s d i c f = false)
include hk hl

theorem flockKey_found {a : Word} (ha : flockLook s (keyOf s d i c).1 = some a) :
    flockKey s d i c f = keyNoted (if a.getLsbD 31 then incCnt (incCnt (endCtx s i) (Reg.FLOCK_REC_CNT_LOOKUPS f) 1) (Reg.FLOCK_REC_CNT_HITS f) 1
      else incCnt (endCtx s i) (Reg.FLOCK_REC_CNT_LOOKUPS f) 1) (keyOutcome f c a false) := by
  rw [← flockLook_congr (part_of_hide (endCtx_sameBut s i) State.flock fun _ => rfl)] at ha
  simp only [flockKey, hk, hl, ha, Bool.or_self, Bool.false_eq_true, if_false]
  rfl

theorem flockKey_bad (ha : flockLook s (keyOf s d i c).1 = none) :
    flockKey s d i c f = keyNoted (flockUe (incCnt (endCtx s i) (Reg.FLOCK_REC_CNT_LOOKUPS f) 1)) (keyOutcome f c 0 true) := by
  rw [← flockLook_congr (part_of_hide (endCtx_sameBut s i) State.flock fun _ => rfl)] at ha
  simp only [flockKey, hk, hl, ha, Bool.or_self, Bool.false_eq_true, if_false]
  rfl

end

/-! The counts of a flock recognizer -/

theorem rd_noteEval_flock (s : State) (d : DeckImage) (c : Sample) {o : Nat} (ho : 0x900000 ≤ o) : rd (noteEval s d c) o = rd s o :=
  (noteEval_stepsUnits s d c).regs.rd (by simp only [List.mem_cons, List.not_mem_nil, or_false, Reg.TRIG_REC_STATUS, Reg.PCIE_STATUS]; omega)
    (by omega)

theorem flockCnts_noteEval (s : State) (d : DeckImage) (c : Sample) (f : Fin 16) :
    rd (noteEval s d c) (Reg.FLOCK_REC_CNT_LOOKUPS f) = rd s (Reg.FLOCK_REC_CNT_LOOKUPS f) ∧
      rd (noteEval s d c) (Reg.FLOCK_REC_CNT_HITS f) = rd s (Reg.FLOCK_REC_CNT_HITS f) ∧
      rd (noteEval s d c) (Reg.FLOCK_REC_CNT_VOID_KEYS f) = rd s (Reg.FLOCK_REC_CNT_VOID_KEYS f) ∧
      rd (noteEval s d c) (Reg.FLOCK_REC_CNT_DROPPED f) = rd s (Reg.FLOCK_REC_CNT_DROPPED f) := by
  refine ⟨rd_noteEval_flock s d c ?_, rd_noteEval_flock s d c ?_, rd_noteEval_flock s d c ?_, rd_noteEval_flock s d c ?_⟩ <;>
    simp only [Reg.FLOCK_REC_CNT_LOOKUPS, Reg.FLOCK_REC_CNT_HITS, Reg.FLOCK_REC_CNT_VOID_KEYS, Reg.FLOCK_REC_CNT_DROPPED] <;> omega

/-- The state in which a key is the last that its KEY_EXTRACT completed. -/
def keyTaken (s : State) (id cyc : Nat) : State := s.modRecog fun r => { r with lastKeyFclk := assocSet r.lastKeyFclk id cyc }

theorem keyTaken_sameView (s : State) (id cyc : Nat) (i : Sample) : s.sameView (keyTaken s id cyc) i := by
  constructor <;> intros <;> rfl

theorem keyOf_keyTaken (s : State) (id cyc : Nat) (d : DeckImage) (i : KInst) (c : Sample) :
    keyOf (keyTaken s id cyc) d i c = keyOf s d i c := by
  simp only [keyOf, busByte, (keyTaken_sameView s id cyc c).chanAt_eq, (keyTaken_sameView s id cyc c).sampleBack_eq]

theorem keyLost_keyTaken (s : State) (id cyc : Nat) (d : DeckImage) (i : KInst) (c : Sample) (f : Fin 16) :
    keyLost (keyTaken s id cyc) d i c f = keyLost s d i c f := rfl

theorem flockLook_keyTaken (s : State) (id cyc : Nat) (key : BitVec 96) : flockLook (keyTaken s id cyc) key = flockLook s key :=
  flockLook_congr rfl key

section
variable {u : State} {d : DeckImage} {i : KInst} {c : Sample} {f : Fin 16} {id cyc : Nat}

theorem rd_flockKey_start {o : Nat} : rd (endCtx (keyTaken u id cyc) i) o = rd u o := by
  rw [rd, endCtx_regs]; rfl

theorem keyVoid_spec (h : (keyOf u d i c).2 = true ∨ keyLost u d i c f = true) :
    rd (flockKey (keyTaken u id cyc) d i c f) (Reg.FLOCK_REC_CNT_VOID_KEYS f) = satAdd (rd u (Reg.FLOCK_REC_CNT_VOID_KEYS f)) 1 ∧
      flagSet (flockKey (keyTaken u id cyc) d i c f) Reg.FLOCK_STATUS 0 = true ∧
      (flockKey (keyTaken u id cyc) d i c f).recog.keys = u.recog.keys ∧
      u.sameBut [.regs, .pcie, .deck, .recog] (flockKey (keyTaken u id cyc) d i c f) := by
  rw [flockKey_void (by rwa [keyOf_keyTaken, keyLost_keyTaken])]
  refine ⟨?_, flagSet_raiseBit _ _ _ (by decide) (by decide) (by decide), ?_, ?_⟩
  · rw [(regsBut_raiseBit _ _ _).rd
      (by simp only [List.mem_cons, List.not_mem_nil, or_false, Reg.FLOCK_REC_CNT_VOID_KEYS, Reg.FLOCK_STATUS, Reg.PCIE_STATUS]; omega)
      (by unfold Reg.FLOCK_REC_CNT_VOID_KEYS; omega), rd_incCnt, rd_flockKey_start]
  · rw [raiseBit_recog, incCnt_part _ _ _ State.recog fun _ => rfl, endCtx_recog]; rfl
  · exact (raiseBit_hide (h_sub := rfl) ..).trans ((incCnt_hide (h_sub := rfl) ..).trans
      ((endCtx_hide (h_sub := rfl) ..).trans (hide_modRecog _ _ rfl)))

variable (hk : (keyOf u d i c).2 = false) (hl : keyLost u d i c f = false)
include hk hl

theorem keyFound_spec {a : Word} (ha : flockLook u (keyOf u d i c).1 = some a) :
    rd (flockKey (keyTaken u id cyc) d i c f) (Reg.FLOCK_REC_CNT_LOOKUPS f) = satAdd (rd u (Reg.FLOCK_REC_CNT_LOOKUPS f)) 1 ∧
      (a.getLsbD 31 = true →
        rd (flockKey (keyTaken u id cyc) d i c f) (Reg.FLOCK_REC_CNT_HITS f) = satAdd (rd u (Reg.FLOCK_REC_CNT_HITS f)) 1) ∧
      (flockKey (keyTaken u id cyc) d i c f).recog.keys = u.recog.keys ++ [keyOutcome f c a false] ∧
      u.sameBut [.regs, .deck, .recog] (flockKey (keyTaken u id cyc) d i c f) := by
  have hne : Reg.FLOCK_REC_CNT_LOOKUPS f ≠ Reg.FLOCK_REC_CNT_HITS f := by unfold Reg.FLOCK_REC_CNT_LOOKUPS Reg.FLOCK_REC_CNT_HITS; omega
  have hstart : u.sameBut [.regs, .deck, .recog] (incCnt (endCtx (keyTaken u id cyc) i) (Reg.FLOCK_REC_CNT_LOOKUPS f) 1) :=
    (incCnt_hide (h_sub := rfl) ..).trans ((endCtx_hide (h_sub := rfl) ..).trans (hide_modRecog _ _ rfl))
  have hkeys : (incCnt (endCtx (keyTaken u id cyc) i) (Reg.FLOCK_REC_CNT_LOOKUPS f) 1).recog.keys = u.recog.keys := by
    rw [incCnt_part _ _ _ State.recog fun _ => rfl, endCtx_recog]; rfl
  rw [flockKey_found (by rwa [keyOf_keyTaken]) (by rwa [keyLost_keyTaken]) (by rwa [flockLook_keyTaken, keyOf_keyTaken])]
  by_cases hb : a.getLsbD 31 = true
  · rw [if_pos hb]
    refine ⟨?_, fun _ => ?_, ?_, ?_⟩
    · rw [rd_keyNoted, incCnt_other _ hne, rd_incCnt, rd_flockKey_start]
    · rw [rd_keyNoted, rd_incCnt, incCnt_other _ hne.symm, rd_flockKey_start]
    · rw [keys_keyNoted, incCnt_part _ _ _ State.recog fun _ => rfl, hkeys]
    · exact (keyNoted_hide ..).trans ((incCnt_hide (h_sub := rfl) ..).trans hstart)
  · rw [if_neg hb]
    refine ⟨?_, fun h => absurd h hb, ?_, ?_⟩
    · rw [rd_keyNoted, rd_incCnt, rd_flockKey_start]
    · rw [keys_keyNoted, hkeys]
    · exact (keyNoted_hide ..).trans hstart

theorem keyBad_spec (ha : flockLook u (keyOf u d i c).1 = none) :
    rd (flockKey (keyTaken u id cyc) d i c f) (Reg.FLOCK_REC_CNT_LOOKUPS f) = satAdd (rd u (Reg.FLOCK_REC_CNT_LOOKUPS f)) 1 ∧
      flagSet (flockKey (keyTaken u id cyc) d i c f) Reg.FLOCK_STATUS 3 = true ∧
      (flockKey (keyTaken u id cyc) d i c f).recog.keys = u.recog.keys ++ [keyOutcome f c 0 true] ∧
      u.sameBut [.regs, .pcie, .log, .deck, .recog] (flockKey (keyTaken u id cyc) d i c f) := by
  rw [flockKey_bad (by rwa [keyOf_keyTaken]) (by rwa [keyLost_keyTaken]) (by rwa [flockLook_keyTaken, keyOf_keyTaken])]
  refine ⟨?_, flagSet_flockUe _, ?_, ?_⟩
  · rw [rd_keyNoted, (regsBut_flockUe _).rd ?_ ?_, rd_incCnt, rd_flockKey_start]
    · simp only [List.mem_cons, List.not_mem_nil, or_false, Reg.FLOCK_REC_CNT_LOOKUPS, Reg.FLOCK_ECC_CNT, Reg.FLOCK_STATUS, Reg.PCIE_STATUS]; omega
    · unfold Reg.FLOCK_REC_CNT_LOOKUPS; omega
  · rw [keys_keyNoted, flockUe_recog, incCnt_part _ _ _ State.recog fun _ => rfl, endCtx_recog]; rfl
  · exact (keyNoted_hide ..).trans ((flockUe_hide (h_sub := rfl) _).trans ((incCnt_hide (h_sub := rfl) ..).trans
      ((endCtx_hide (h_sub := rfl) ..).trans (hide_modRecog _ _ rfl))))

end

/-! FLOCK_KEY_COMPLETE -/

section
variable {s : State} {d : DeckImage} (hd : actDeck s = some d) (l : Fin 256) (n : Fin 4) (c : Sample)
include hd

theorem exec_flockKeyComplete : exec (.flockKeyComplete l n c) s = .next (keyComplete l n c s d) := by
  change execFlockKeyComplete l n c s = _
  rw [execFlockKeyComplete, hd]

variable {l n c}

theorem exec_flockKey_none (h : (l.val, n.val) ∉ instsOf d 5) : exec (.flockKeyComplete l n c) s = .next s := by
  rw [exec_flockKeyComplete hd, keyComplete, if_neg (by simpa using h)]

variable (h : (l.val, n.val) ∈ instsOf d 5)
include h

theorem exec_flockKey_off (hq : (recAt (noteEval s d c) d (pKeyQual d (l.val, n.val) % 1024) c).res = false) :
    exec (.flockKeyComplete l n c) s = .next (noteEval s d c) := by
  rw [exec_flockKeyComplete hd, keyComplete, if_pos (by simpa using h)]
  exact congrArg _ (if_neg (by rw [hq]; decide))

variable (hq : (recAt (noteEval s d c) d (pKeyQual d (l.val, n.val) % 1024) c).res = true)
include hq

theorem exec_flockKey_second (ha : assoc s.recog.lastKeyFclk (4 * l.val + n.val) = some (c / groupLen s)) :
    exec (.flockKeyComplete l n c) s =
      .next (incCnt (noteEval s d c) (Reg.FLOCK_REC_CNT_DROPPED (Fin.ofNat 16 (pLookFlock d (pKeyTarget d (l.val, n.val))))) 1) := by
  rw [exec_flockKeyComplete hd, keyComplete, if_pos (by simpa using h)]
  exact congrArg _ ((if_pos hq).trans (if_pos ha))

theorem exec_flockKey_first (ha : assoc s.recog.lastKeyFclk (4 * l.val + n.val) ≠ some (c / groupLen s)) :
    exec (.flockKeyComplete l n c) s = .next (flockKey (keyTaken (noteEval s d c) (4 * l.val + n.val) (c / groupLen s)) d (l.val, n.val) c
      (Fin.ofNat 16 (pLookFlock d (pKeyTarget d (l.val, n.val))))) := by
  rw [exec_flockKeyComplete hd, keyComplete, if_pos (by simpa using h)]
  exact congrArg _ ((if_pos hq).trans (if_neg ha))

end

/-! FLOCK_RESULT -/

/-- A key that falls due for flock recognizer `f` at sample `i` is given. -/
def keyGiven (d : DeckImage) (f : Fin 16) (i : Sample) (k : FlockKey) : FlockKey :=
  if k.fk == f && k.sample + 4 * dkK d * dkLFlock d == i then { k with given := true } else k

theorem exec_flockResult {s : State} {d : DeckImage} (hd : actDeck s = some d) (f : Fin 16) (i : Sample) :
    exec (.flockResult f i) s = .next (s.modRecog fun r => { r with keys := r.keys.map (keyGiven d f i) }) := by
  change execFlockResult f i s = _
  rw [execFlockResult, hd]; rfl

/-! FLOCK_STASH_MIGRATE -/

theorem exec_flockStashMigrate (n : Fin 256) (s : State) : exec (.flockStashMigrate n) s =
    match (if entryV (stashAt (flockTab s) n) then emptyIn (flockTab s) (stashAt (flockTab s) n).key [0, 1, 2, 3] else none) with
    | none => .next s
    | some m => .next (flockCommit s (setStash (setMain (flockTab s) m (stashAt (flockTab s) n)) n (entryClear (stashAt (flockTab s) n)))) := rfl

/-! FLOCK_BUCKET_RESTORE -/

/-- The sub-tables with a bucket rewritten from the backup: the bucket's entries are the backup's, every other is as before. -/
def bucketRestored (s : State) (b : Nat) : Tab FlockEntry :=
  (List.range 8).foldl (fun m w => tabPut {} m (8 * b + w) (tabGet {} s.flock.backMain (8 * b + w))) s.flock.main

theorem tabGet_bucketRestored (s : State) (b n : Nat) :
    tabGet {} (bucketRestored s b) n = if n / 8 = b then tabGet {} s.flock.backMain n else tabGet {} s.flock.main n := by
  have hmem : n ∈ (List.range 8).map (8 * b + ·) ↔ n / 8 = b := by
    rw [List.mem_map]
    exact ⟨fun ⟨w, hw, hn⟩ => by have := List.mem_range.1 hw; omega, fun h => ⟨n % 8, List.mem_range.2 (by omega), by omega⟩⟩
  rw [bucketRestored, ← List.foldl_map (f := (8 * b + ·)) (g := fun m k => tabPut {} m k (tabGet {} s.flock.backMain k)), tabGet_foldl_tabPut]
  simp only [hmem]

theorem flockRestore_bad {s : State} {b : Nat} (h : s.flock.bad.contains b = true) : flockRestore b s =
    raiseBit (s.setFlock { s.flock with main := bucketRestored s b, bad := s.flock.bad.filter (· != b) }) Reg.FLOCK_STATUS 4 := if_pos h

theorem flockRestore_good {s : State} {b : Nat} (h : s.flock.bad.contains b = false) : flockRestore b s = s := if_neg (by rw [h]; decide)

theorem exec_flockBucketRestore (sub : Fin 4) (bucket : Fin 16384) (s : State) :
    exec (.flockBucketRestore sub bucket) s = .next (flockRestore (sub.val * 16384 + bucket.val) s) := rfl

theorem flockRestore_spec {s : State} {b : Nat} (h : s.flock.bad.contains b = true) :
    (∀ w < 8, tabGet {} (flockRestore b s).flock.main (8 * b + w) = tabGet {} s.flock.backMain (8 * b + w)) ∧
      (∀ n, n / 8 ≠ b → tabGet {} (flockRestore b s).flock.main n = tabGet {} s.flock.main n) ∧
      (flockRestore b s).flock.bad.contains b = false ∧ flagSet (flockRestore b s) Reg.FLOCK_STATUS 4 = true ∧
      s.sameBut [.regs, .pcie, .flock] (flockRestore b s) := by
  have hflock : (flockRestore b s).flock = { s.flock with main := bucketRestored s b, bad := s.flock.bad.filter (· != b) } := by
    rw [flockRestore_bad h, raiseBit_flock]; rfl
  refine ⟨fun w hw => ?_, fun n hn => ?_, ?_, ?_, ?_⟩
  · simp only [hflock]
    rw [tabGet_bucketRestored, if_pos (by omega)]
  · simp only [hflock]
    rw [tabGet_bucketRestored, if_neg hn]
  · simp [hflock]
  · rw [flockRestore_bad h]
    exact flagSet_raiseBit _ _ _ (by decide) (by decide) (by decide)
  · rw [flockRestore_bad h]
    exact (raiseBit_hide (h_sub := rfl) ..).trans (hide_setFlock _ _ rfl)

/-- Settles O39: a key by the state in which its KEY_EXTRACT has taken it, an outcome by the map over those that wait, the stash by
`flockCommit`, a bucket by the sub-tables rewritten. -/
theorem flockKeysAndUpkeep : Obligations.FlockKeysAndUpkeep := by
  unfold Obligations.FlockKeysAndUpkeep
  refine ⟨fun l n c s u d f hd hu hf => ?_, fun f i s d hd => ?_, fun n s e he => ?_,
    fun sub bucket s b hb => ⟨fun hbad => ?_, fun hgood => ?_⟩⟩
  · subst hu
    obtain ⟨hlook, hhit, hvoid, hdrop⟩ := flockCnts_noteEval s d c f
    have hkeys : (noteEval s d c).recog.keys = s.recog.keys := by rw [(noteEval_stepsUnits s d c).recog]
    have hflock (key : BitVec 96) : flockLook (noteEval s d c) key = flockLook s key :=
      flockLook_congr (part_of_hide (noteEval_stepsUnits s d c).frame State.flock fun _ => rfl) key
    refine ⟨fun h => exec_flockKey_none hd h, fun h hq => exec_flockKey_off hd h hq, fun h hq => ⟨fun ha => ?_, fun ha => ?_⟩⟩
    · rw [exec_flockKey_second hd h hq ha, ← hf]
      exact ⟨_, rfl, incCnt_hide (h_sub := rfl) .., by rw [rd_incCnt, hdrop]⟩
    · rw [exec_flockKey_first hd h hq ha, ← hf, ← hlook, ← hhit, ← hvoid, ← hkeys]
      simp only [← hflock]
      exact ⟨fun hv => ⟨_, rfl, keyVoid_spec hv⟩, fun a hk hl hl' => ⟨_, rfl, keyFound_spec hk hl hl'⟩,
        fun hk hl hl' => ⟨_, rfl, keyBad_spec hk hl hl'⟩⟩
  · rw [exec_flockResult hd]
    refine ⟨_, rfl, hide_modRecog _ _ rfl, rfl, List.length_map .., fun k hk hfk hi => ?_, fun k hk h => ?_⟩
    · have hgiven : keyGiven d f i k = { k with given := true } := if_pos (by simp [hfk, hi])
      exact List.mem_filter.2 ⟨hgiven ▸ List.mem_map_of_mem hk, by simp [hfk, hi]⟩
    · have hkept : keyGiven d f i k = k := if_neg (by
        rw [Bool.and_eq_true, beq_iff_eq, beq_iff_eq]
        exact fun ⟨h1, h2⟩ => h.elim (absurd h1) (absurd h2))
      exact List.mem_map.2 ⟨k, hk, hkept⟩
  · subst he
    refine ⟨fun m hv hm => ?_, fun h => ?_⟩
    · obtain ⟨htab, hmain, hstash, -⟩ := holdsTable_of_flock (s := s)
        (t := setStash (setMain (flockTab s) m (stashAt (flockTab s) n)) n (entryClear (stashAt (flockTab s) n))) rfl
      exact ⟨_, by rw [exec_flockStashMigrate, if_pos hv, hm], htab, hmain.trans (congrArg FlockTab.main htab).symm,
        hstash.trans (congrArg FlockTab.stash htab).symm, flockCommit_sameBut ..⟩
    · rw [exec_flockStashMigrate]
      rcases h with h | h <;> simp [h]
  · subst hb
    exact ⟨_, exec_flockBucketRestore .., flockRestore_spec hbad⟩
  · subst hb
    rw [exec_flockBucketRestore, flockRestore_good hgood]

end Sys2Proof.Machine

/-!
PROOF. Crossings at the timing inputs and changes of the pins (R118, R119, R241, R242, R244).
-/

namespace Sys2Proof.Machine

/-! An arrival at the recognizers -/

theorem arrivesLate_congr {s t : State} (htb : t.tb = s.tb) (hd : t.deck.active = s.deck.active) (hr : t.recog = s.recog)
    (hlat : rd t Reg.TRIG_PATH_LAT = rd s Reg.TRIG_PATH_LAT) (a : Time) : arrivesLate t a = arrivesLate s a := by
  simp only [arrivesLate, gridT, gridTime, period, rateK, evalNext, evalCount, groupsBy, groupLen, now, actDeck, htb, hd, hr, hlat]
  rfl

/-- Whether an arrival with this time is late: only a deck has recognizers to be late for. -/
def lateFor (s : State) (a : Time) : Bool := (actDeck s).isSome && arrivesLate s a

/-- The state in which a late arrival that a recognizer watches is counted. -/
def lateCounted (s : State) (c : Bool) : State := if c then countLate s else s

section
variable (s : State) (c : Bool)

theorem countLate_sameBut : s.sameBut [.regs, .pcie, .log] (countLate s) := by
  unfold countLate State.sameBut; exact (raiseErr_hide (h_sub := rfl) ..).trans (wrF_hide (h_sub := rfl) ..)

theorem lateCounted_sameBut : s.sameBut [.regs, .pcie, .log] (lateCounted s c) := by
  unfold lateCounted; split
  · exact countLate_sameBut s
  · rfl

theorem countLate_regsBut : s.regsBut [Reg.TRIG_LATE_CNT, Reg.TRIG_REC_STATUS, Reg.PCIE_STATUS] (countLate s) :=
  regsBut_trans (regsBut_mono (by simp) (regsBut_wrF s Reg.TRIG_LATE_CNT 15 0 _)) (regsBut_mono (by simp) (regsBut_raiseErr
    (wrF s Reg.TRIG_LATE_CNT 15 0 (min (rdF s Reg.TRIG_LATE_CNT 15 0 + 1) 0xFFFF)) Reg.TRIG_REC_STATUS 1 2 0x0480 0))

theorem lateCounted_regsBut : s.regsBut [Reg.TRIG_LATE_CNT, Reg.TRIG_REC_STATUS, Reg.PCIE_STATUS] (lateCounted s c) := by
  unfold lateCounted; split
  · exact countLate_regsBut s
  · exact regsBut_refl _ s

theorem lateCounted_recog : (lateCounted s c).recog = s.recog := part_of_hide (lateCounted_sameBut s c) State.recog fun _ => rfl

/-- Counting a late arrival writes no register of the timing inputs and the measurement units. -/
theorem rd_lateCounted {o : Nat} (h : 0x500000 ≤ o ∧ o < 0x800000) : rd (lateCounted s c) o = rd s o := by
  refine (lateCounted_regsBut s c).rd ?_ (by omega)
  simp only [List.mem_cons, List.not_mem_nil, or_false, Reg.TRIG_LATE_CNT, Reg.TRIG_REC_STATUS, Reg.PCIE_STATUS]
  omega

end

/-! A crossing (R241, R242, R244) -/

section
variable {s : State} {n : Nat} {t : Time} {falling : Bool}

theorem foldl_measStamp_idle (h : ∀ u < 4, (measOf s u).run = none) (x : MStamp) : (List.range 4).foldl (measStamp x) s = s :=
  foldl_unchanged fun u hu => by simp only [measStamp, h u (List.mem_range.1 hu)]

theorem foldl_measDead_idle (h : ∀ u < 4, (measOf s u).run = none) (n : Nat) (a : Time) :
    (List.range 4).foldl (fun s u => measDead n a s u) s = s :=
  foldl_unchanged fun u hu => by simp only [measDead, h u (List.mem_range.1 hu), Option.bind_none]

theorem foldl_gatePin_idle (s : State) (h : ∀ u < 4, (measOf s u).run = none) (t : Time) (level : Bool) :
    (List.range 4).foldl (fun s u => gatePin u (sampledTime s t) level s) s = s :=
  foldl_unchanged fun u hu => by simp only [gatePin, h u (List.mem_range.1 hu)]

end

/-- The stamps of input `n` with one more. -/
def stampJoined (s : State) (n : Nat) (x : Stamp) : State := s.modRecog fun r => { r with stamps := tabMod [] r.stamps n (x :: ·) }

theorem recogStamp_eq (s : State) (n : Nat) (a : Time) (fall : Bool) :
    recogStamp s n a fall = lateCounted (stampJoined s n { t := a, falling := fall, late := lateFor s a })
      (lateFor s a && ((actDeck s).map fun d => tinWatched d n).getD false) := rfl

section
variable (s : State) (n : Nat) (t a : Time) (fall : Bool)

theorem noteStamp_sameBut : s.sameBut [.regs] (noteStamp s n a fall) := noteStamp_hide (h_sub := rfl) ..

theorem noteStamp_lat : rd (noteStamp s n a fall) Reg.TRIG_PATH_LAT = rd s Reg.TRIG_PATH_LAT := by
  have hregs : s.regsBut [Reg.TIN_EDGE_LO n, Reg.TIN_EDGE_LO n + 4, Reg.TIN_LAST_NS_LO n, Reg.TIN_LAST_NS_LO n + 4, Reg.TIN_LAST_FRAC n]
      (noteStamp s n a fall) :=
    regsBut_trans (regsBut_mono (by simp) (regsBut_wr64 s (Reg.TIN_EDGE_LO n) ((rd64 s (Reg.TIN_EDGE_LO n) + 1) % 2 ^ 48)))
      (regsBut_trans (regsBut_mono (by simp) (regsBut_wr64 _ (Reg.TIN_LAST_NS_LO n) (a / 65536)))
        (regsBut_mono (by simp) (regsBut_wr _ (Reg.TIN_LAST_FRAC n) _)))
  refine hregs.rd ?_ (by decide)
  simp only [List.mem_cons, List.not_mem_nil, or_false, Reg.TRIG_PATH_LAT, Reg.TIN_EDGE_LO, Reg.TIN_LAST_NS_LO, Reg.TIN_LAST_FRAC]
  omega

/-- TIN_EDGE and TIN_LAST after a stamp. -/
theorem noteStamp_spec : rd64 (noteStamp s n a fall) (Reg.TIN_EDGE_LO n) = (rd64 s (Reg.TIN_EDGE_LO n) + 1) % 2 ^ 48 ∧
    rd64 (noteStamp s n a fall) (Reg.TIN_LAST_NS_LO n) = a / 65536 % 2 ^ 64 ∧
    (rd (noteStamp s n a fall) (Reg.TIN_LAST_FRAC n)).toNat = a % 65536 + if fall then 65536 else 0 := by
  have hfrac (x : State) (v : Word) (o : Nat) (ho : Reg.TIN_EDGE_LO n ≤ o ∧ o + 4 < Reg.TIN_LAST_FRAC n) :
      rd64 (wr x (Reg.TIN_LAST_FRAC n) v) o = rd64 x o := by
    simp only [rd64, rd_wr_other x v (show o ≠ Reg.TIN_LAST_FRAC n by omega), rd_wr_other x v (show o + 4 ≠ Reg.TIN_LAST_FRAC n by omega)]
  have hedge (x : State) (v : Nat) : rd64 (wr64 x (Reg.TIN_LAST_NS_LO n) v) (Reg.TIN_EDGE_LO n) = rd64 x (Reg.TIN_EDGE_LO n) := by
    refine (regsBut_wr64 x _ v).rd64 ?_ ?_ (by unfold Reg.TIN_EDGE_LO; omega) <;>
      simp only [List.mem_cons, List.not_mem_nil, or_false, Reg.TIN_EDGE_LO, Reg.TIN_LAST_NS_LO] <;> omega
  refine ⟨?_, ?_, ?_⟩
  · rw [noteStamp, hfrac _ _ _ (by unfold Reg.TIN_EDGE_LO Reg.TIN_LAST_FRAC; omega), hedge, rd64_wr64_same]
    omega
  · rw [noteStamp, hfrac _ _ _ (by unfold Reg.TIN_EDGE_LO Reg.TIN_LAST_NS_LO Reg.TIN_LAST_FRAC; omega), rd64_wr64_same]
  · rw [noteStamp, rd_wr_same, BitVec.toNat_ofNat, Nat.mod_eq_of_lt (by split <;> omega)]

theorem lateFor_noteStamp : lateFor (noteStamp s n a fall) a = lateFor s a := by
  have h := noteStamp_sameBut s n a fall
  have hdeck : (noteStamp s n a fall).deck.active = s.deck.active := part_of_hide h (·.deck.active) fun _ => rfl
  simp only [lateFor, actDeck, hdeck, arrivesLate_congr (part_of_hide h State.tb fun _ => rfl) hdeck
    (part_of_hide h State.recog fun _ => rfl) (noteStamp_lat s n a fall)]

/-- The state after a stamped crossing. -/
def stamped (s : State) (n : Nat) (t a : Time) (fall : Bool) : State :=
  recogStamp (noteStamp (setTin s n { tinOf s n with lastStamp := some t }) n a fall) n a fall

theorem rd_recogStamp {o : Nat} (h : 0x500000 ≤ o ∧ o < 0x800000) : rd (recogStamp s n a fall) o = rd s o := by
  rw [recogStamp_eq, rd_lateCounted _ _ h]; rfl

theorem rd64_recogStamp {o : Nat} (h : 0x500000 ≤ o ∧ o + 4 < 0x800000) : rd64 (recogStamp s n a fall) o = rd64 s o := by
  simp only [rd64, rd_recogStamp s n a fall (o := o) (by omega), rd_recogStamp s n a fall (o := o + 4) (by omega)]

theorem recogStamp_tins : (recogStamp s n a fall).tins = s.tins :=
  part_of_hide (recogStamp_hide (h_sub := (rfl : 34050 &&& 34050 = 34050)) s n a fall) State.tins fun _ => rfl

theorem recogStamp_stamps : tabGet [] (recogStamp s n a fall).recog.stamps n =
    { t := a, falling := fall, late := lateFor s a } :: tabGet [] s.recog.stamps n := by
  rw [recogStamp_eq, lateCounted_recog]
  exact tabGet_tabPut_same [] n ({ t := a, falling := fall, late := lateFor s a } :: tabGet [] s.recog.stamps n) s.recog.stamps

theorem stamped_tins : (stamped s n t a fall).tins = { s.tins with ins := tabPut {} s.tins.ins n { tinOf s n with lastStamp := some t } } :=
  (recogStamp_tins ..).trans (part_of_hide (noteStamp_sameBut ..) State.tins fun _ => rfl)

theorem stamped_sameBut : s.sameBut [.regs, .pcie, .log, .recog, .tins] (stamped s n t a fall) :=
  (recogStamp_hide (h_sub := rfl) ..).trans ((noteStamp_hide (h_sub := rfl) ..).trans (setTin_hide (h_sub := rfl) ..))

theorem stamped_stamps : tabGet [] (stamped s n t a fall).recog.stamps n =
    { t := a, falling := fall, late := lateFor s a } :: tabGet [] s.recog.stamps n := by
  rw [stamped, recogStamp_stamps, lateFor_noteStamp, part_of_hide (noteStamp_sameBut ..) State.recog fun _ => rfl]; rfl

variable {n} in
theorem stamped_regs (hn : n < 16) : rd64 (stamped s n t a fall) (Reg.TIN_EDGE_LO n) = (rd64 s (Reg.TIN_EDGE_LO n) + 1) % 2 ^ 48 ∧
    rd64 (stamped s n t a fall) (Reg.TIN_LAST_NS_LO n) = a / 65536 % 2 ^ 64 ∧
    (rd (stamped s n t a fall) (Reg.TIN_LAST_FRAC n)).toNat = a % 65536 + if fall then 65536 else 0 := by
  rw [stamped, rd64_recogStamp _ _ _ _ (by unfold Reg.TIN_EDGE_LO; omega), rd64_recogStamp _ _ _ _ (by unfold Reg.TIN_LAST_NS_LO; omega),
    rd_recogStamp _ _ _ _ (by unfold Reg.TIN_LAST_FRAC; omega)]
  exact noteStamp_spec ..

end

/-! TIN_STAMP -/

section
variable {s : State} {n : Fin 16} {t : Time} {falling fall : Bool} {a : Time}

theorem exec_tinStamp_ignored (hfall : fall = (falling != (rd s (Reg.TIN_CTRL n)).getLsbD 13))
    (h : blkState s (Reg.TIN_CTRL n) ≠ stOn ∨ edgeSel (rdF s (Reg.TIN_CTRL n) 15 14) fall = false) :
    exec (.tinStamp n t falling) s = .next s := by
  subst hfall
  exact congrArg _ (if_pos (h.imp_right fun h => by rw [h]; rfl))

variable (hidle : ∀ u < 4, (measOf s u).run = none) (hfall : fall = (falling != (rd s (Reg.TIN_CTRL n)).getLsbD 13))
  (ha : a = stampTime s n t) (hon : blkState s (Reg.TIN_CTRL n) = stOn) (hsel : edgeSel (rdF s (Reg.TIN_CTRL n) 15 14) fall = true)
include hidle hfall ha hon hsel

theorem exec_tinStamp_stamped (hl : ∀ l, (tinOf s n).lastStamp = some l → inDead l t = false) :
    exec (.tinStamp n t falling) s = .next (stamped s n t a fall) := by
  subst hfall ha
  have hdead : ((tinOf s n).lastStamp.map fun l => inDead l t).getD false = false := by
    cases h : (tinOf s n).lastStamp with
    | none => rfl
    | some l => exact hl l h
  have hidle' : ∀ u < 4, (measOf (stamped s n t (stampTime s n t) (falling != (rd s (Reg.TIN_CTRL n)).getLsbD 13)) u).run = none := by
    intro u hu
    rw [measOf, stamped_tins]
    exact hidle u hu
  refine congrArg _ ((if_neg (by rw [hsel]; simp [hon])).trans ((if_neg (by rw [hdead]; decide)).trans ?_))
  exact foldl_measStamp_idle hidle' _

omit ha in
theorem exec_tinStamp_dead {l : Time} (hl : (tinOf s n).lastStamp = some l) (hd : inDead l t = true) :
    exec (.tinStamp n t falling) s = .next (incCnt (raiseBit s (Reg.TIN_STATUS n) 0) (Reg.TIN_DEAD_CNT n) 1) := by
  subst hfall
  have hidle' : ∀ u < 4, (measOf (incCnt (raiseBit s (Reg.TIN_STATUS n) 0) (Reg.TIN_DEAD_CNT n) 1) u).run = none := by
    intro u hu
    rw [incCnt_part _ _ _ (measOf · u) fun _ => rfl, raiseBit_part _ _ _ (measOf · u) fun _ => rfl]
    exact hidle u hu
  refine congrArg _ ((if_neg (by rw [hsel]; simp [hon])).trans ((if_pos (by rw [hl]; exact hd)).trans ?_))
  exact foldl_measDead_idle hidle' _ _

end

theorem deadCounted_spec (s : State) (n : Fin 16) :
    let x := incCnt (raiseBit s (Reg.TIN_STATUS n) 0) (Reg.TIN_DEAD_CNT n) 1
    rd x (Reg.TIN_DEAD_CNT n) = satAdd (rd s (Reg.TIN_DEAD_CNT n)) 1 ∧ flagSet x (Reg.TIN_STATUS n) 0 = true ∧ s.sameBut [.regs, .pcie] x := by
  refine ⟨?_, ?_, (incCnt_hide (h_sub := rfl) ..).trans (raiseBit_hide (h_sub := rfl) ..)⟩
  · rw [rd_incCnt, (regsBut_raiseBit s (Reg.TIN_STATUS n) 0).rd ?_ (by unfold Reg.TIN_DEAD_CNT; omega)]
    simp only [List.mem_cons, List.not_mem_nil, or_false, Reg.TIN_DEAD_CNT, Reg.TIN_STATUS, Reg.PCIE_STATUS]
    omega
  · rw [(regsBut_incCnt _ (Reg.TIN_DEAD_CNT n) 1).flagSet 0 ?_ (by unfold Reg.TIN_STATUS; omega)]
    · exact flagSet_raiseBit _ _ _ (by decide) (by unfold Reg.TIN_STATUS; omega) (by unfold Reg.TIN_STATUS Reg.PCIE_STATUS; omega)
    · simp only [List.mem_cons, List.not_mem_nil, or_false, Reg.TIN_DEAD_CNT, Reg.TIN_STATUS]
      omega

/-! TRIG_IN and GATE_IN -/

section
variable (s : State) (t : Time) (level : Bool)

/-- The state in which a change of TRIG_IN has joined the pin's changes. -/
def trigJoined : State := s.modRecog fun r => { r with
  trigLevel := level, trigIn := { t := sampledTime s t, falling := !level, late := lateFor s (sampledTime s t) } :: r.trigIn }

/-- The state in which a change of GATE_IN has joined those of its recognizer. -/
def gateJoined : State := s.modRecog fun r => { r with
  gate := { t := sampledTime s t, level := level, from_ := if lateFor s (sampledTime s t) then evalNext s else 0 } :: r.gate }

variable {s t level} {held : Nat}

theorem trigInEdge_held (hl : level ≠ s.recog.trigLevel) (hf : pinFilt s 0x1C0 ≤ held) : exec (.trigInEdge t level held) s =
    .next (lateCounted (trigJoined s t level) (lateFor s (sampledTime s t) && pinWatched s 0x1C0)) :=
  congrArg _ (if_neg (not_or.2 ⟨hl, Nat.not_lt.2 hf⟩))

theorem trigInEdge_dropped (h : level = s.recog.trigLevel ∨ held < pinFilt s 0x1C0) : exec (.trigInEdge t level held) s = .next s :=
  congrArg _ (if_pos h)

theorem gateRecog_held (hl : level ≠ gateAccepted s) (hf : pinFilt s 0x1C1 ≤ held) : gateRecog t level held s =
    lateCounted (gateJoined s t level) (lateFor s (sampledTime s t) && pinWatched s 0x1C1) :=
  if_neg (not_or.2 ⟨hl, Nat.not_lt.2 hf⟩)

theorem gateRecog_dropped (h : level = gateAccepted s ∨ held < pinFilt s 0x1C1) : gateRecog t level held s = s := if_pos h

variable (s t level held)

theorem gateRecog_tins : (gateRecog t level held s).tins = s.tins :=
  part_of_hide (gateRecog_hide (h_sub := (rfl : 34050 &&& 34050 = 34050)) ..) State.tins fun _ => rfl

theorem rdF_gateRecog (hi lo : Nat) : rdF (gateRecog t level held s) Reg.TIN_GATE_CTRL hi lo = rdF s Reg.TIN_GATE_CTRL hi lo := by
  by_cases h : level = gateAccepted s ∨ held < pinFilt s 0x1C1
  · rw [gateRecog_dropped h]
  · obtain ⟨hl, hf⟩ := not_or.1 h
    rw [gateRecog_held hl (Nat.le_of_not_lt hf), rdF, rd_lateCounted _ _ (by decide)]; rfl

variable {s t level held}

theorem exec_gateInChange : exec (.gateInChange t level held) s = .next (gateMeas t level held (gateRecog t level held s)) := rfl

/-- The state in which the measurement gates have taken the pin's level. -/
def gateTaken (s : State) (level : Bool) : State := s.modTins fun x => { x with gateLevel := level }

theorem measOf_gateTaken (s : State) (level : Bool) (u : Nat) : measOf (gateTaken s level) u = measOf s u := rfl

theorem gateMeas_idle (hidle : ∀ u < 4, (measOf s u).run = none) : gateMeas t level held s =
    if level = s.tins.gateLevel ∨ held < rdF s Reg.TIN_GATE_CTRL 7 0 then s else gateTaken s level := by
  unfold gateMeas
  split
  · rfl
  · exact foldl_gatePin_idle (gateTaken s level) (fun u hu => by rw [measOf_gateTaken, hidle u hu]) t level

end

section
variable {s : State} (hidle : ∀ u < 4, (measOf s u).run = none) (t : Time) (level : Bool) (held : Nat)
include hidle

theorem gateInChange_spec : ∃ x, exec (.gateInChange t level held) s = .next x ∧
    x.recog = (gateRecog t level held s).recog ∧
    x.tins = (if level = s.tins.gateLevel ∨ held < rdF s Reg.TIN_GATE_CTRL 7 0 then s.tins else { s.tins with gateLevel := level }) ∧
    s.sameBut [.regs, .pcie, .log, .recog, .tins] x := by
  have htins := gateRecog_tins s t level held
  have hframe : s.sameBut [.regs, .pcie, .log, .recog, .tins] (gateRecog t level held s) := gateRecog_hide (h_sub := rfl) ..
  have hidle' : ∀ u < 4, (measOf (gateRecog t level held s) u).run = none := fun u hu => by rw [measOf, htins]; exact hidle u hu
  refine ⟨_, exec_gateInChange, ?_⟩
  rw [gateMeas_idle hidle', htins, rdF_gateRecog]
  split
  · exact ⟨rfl, htins, hframe⟩
  · exact ⟨rfl, congrArg (fun x : TinsSt => { x with gateLevel := level }) htins, (hide_modTins _ _ rfl).trans hframe⟩

end

end Sys2Proof.Machine
/-!
PROOF. TIN_CONFIG and the input that settles (R240, R357, R371, R375).
-/

namespace Sys2Proof.Machine

/-! EN and STATE of a block's CTRL -/

section
variable (s : State) (o : Nat)

theorem regsBut_setBlkState (v : Nat) : s.regsBut [o] (setBlkState s o v) := regsBut_wrF s o 6 4 v

theorem regsBut_setEn (b : Bool) : s.regsBut [o] (setEn s o b) := regsBut_wrF s o 0 0 _

/-- A write to EN is the bit, and the state that it asks for. -/
theorem writeEn_eq (b : Bool) : writeEn s o b =
    if b then (if blkState s o = stOff then setBlkState (setEn s o b) o stStarting else setEn s o b)
    else if blkState s o = stStarting ∨ blkState s o = stOn ∨ blkState s o = stFault then setBlkState (setEn s o b) o stStopping
    else setEn s o b := rfl

/-- What holds after the bit alone and after bit and state holds after a write to EN. -/
theorem writeEn_cases {P : State → Prop} {b : Bool} (hen : P (setEn s o b)) (hst : ∀ v, P (setBlkState (setEn s o b) o v)) :
    P (writeEn s o b) := by
  rw [writeEn_eq]
  (repeat' split) <;> [exact hst _; exact hen; exact hst _; exact hen]

theorem regsBut_writeEn (b : Bool) : s.regsBut [o] (writeEn s o b) :=
  writeEn_cases s o (P := s.regsBut [o]) (regsBut_setEn s o b) fun v => regsBut_trans (regsBut_setEn s o b) (regsBut_setBlkState _ o v)

/-- The settings of a CTRL lie above its STATE. -/
theorem rdF_writeEn (b : Bool) {hi lo : Nat} (h : 6 < lo) : rdF (writeEn s o b) o hi lo = rdF s o hi lo := by
  have hen : rdF (setEn s o b) o hi lo = rdF s o hi lo := rdF_wrF_field s o _ (.inl (by omega))
  exact writeEn_cases s o (P := fun x => rdF x o hi lo = rdF s o hi lo) hen fun v => (rdF_wrF_field _ o v (.inl h)).trans hen

theorem blkEn_writeEn (b : Bool) : blkEn (writeEn s o b) o = b := by
  have hen : blkEn (setEn s o b) o = b := by
    rw [blkEn, setEn, bit_wrF _ _ _ _ _ _ (by decide)]
    cases b <;> rfl
  exact writeEn_cases s o (P := fun x => blkEn x o = b) hen fun v => (bit_wrF _ _ _ _ _ _ (by decide)).trans hen

theorem blkState_setBlkState (v : Nat) : blkState (setBlkState s o v) o = v % 8 := rdF_wrF_same s o v (by decide)

variable {s o}

theorem blkState_writeEn_off (h : blkState s o = stOff) : blkState (writeEn s o true) o = stStarting := by
  rw [writeEn_eq, if_pos rfl, if_pos h, blkState_setBlkState]; rfl

end

/-! The threshold's DAC channel (R240, R260) -/

/-- The command that TIN_CONFIG gives the channel of its input's threshold. -/
def thrCmd (ring : Fin 16) (cid : BitVec 16) (ch : Nat) (p : TinParams) : DacCmd :=
  { ring := ring, cid := cid, span := some 2, code := some (BitVec.ofNat 16 (mvCode ch 2 p.thresh.toInt)), dds := none }

theorem wrF_regs {s t : State} (h : t.regs = s.regs) (o hi lo v : Nat) : (wrF t o hi lo v).regs = (wrF s o hi lo v).regs := by
  simp only [wrF, wr, rd, State.setRegs, h]

theorem writeEn_regs {s t : State} (h : t.regs = s.regs) (o : Nat) (b : Bool) : (writeEn t o b).regs = (writeEn s o b).regs := by
  have hblk : blkState t o = blkState s o := by simp only [blkState, rdF, rd, h]
  have hen : (setEn t o b).regs = (setEn s o b).regs := wrF_regs h ..
  have hst (v : Nat) : (setBlkState (setEn t o b) o v).regs = (setBlkState (setEn s o b) o v).regs := wrF_regs hen ..
  simp only [writeEn_eq, hblk, apply_ite State.regs, hen, hst]

theorem setDacSt_regs (s : State) (ch : Nat) (x : DacSt) : (setDacSt s ch x).regs = s.regs := rfl

theorem ddsCatch_regs (s : State) (ch : Nat) : (ddsCatch s ch).regs = s.regs :=
  part_of_hide (ddsCatch_hide (h_sub := (rfl : 16777216 &&& 16777216 = 16777216)) s ch) State.regs fun _ => rfl

/-- The registers of a threshold channel that is given code `v`. -/
def thrBegun (s : State) (ch : Nat) (v : Word) (off : Bool) : State :=
  let o := Reg.DAC_CTRL ch
  if blkState s o = stOff then writeEn (wr (wrF s o 9 8 2) (Reg.DAC_CODE ch) v) o true
  else if off then writeEn s o false
  else writeEn (wr s (Reg.DAC_CODE ch) v) o true

theorem thrBegun_regsBut (s : State) (ch : Nat) (v : Word) (off : Bool) : s.regsBut [Reg.DAC_CTRL ch, Reg.DAC_CODE ch] (thrBegun s ch v off) := by
  have hen (t : State) (b : Bool) : t.regsBut [Reg.DAC_CTRL ch, Reg.DAC_CODE ch] (writeEn t (Reg.DAC_CTRL ch) b) :=
    regsBut_mono (by simp) (regsBut_writeEn t (Reg.DAC_CTRL ch) b)
  have hcode (t : State) : t.regsBut [Reg.DAC_CTRL ch, Reg.DAC_CODE ch] (wr t (Reg.DAC_CODE ch) v) :=
    regsBut_mono (by simp) (regsBut_wr t (Reg.DAC_CODE ch) v)
  have hspan : s.regsBut [Reg.DAC_CTRL ch, Reg.DAC_CODE ch] (wrF s (Reg.DAC_CTRL ch) 9 8 2) :=
    regsBut_mono (by simp) (regsBut_wrF s (Reg.DAC_CTRL ch) 9 8 2)
  unfold thrBegun; dsimp only
  split
  · exact regsBut_trans hspan (regsBut_trans (hcode _) (hen _ _))
  · split
    · exact hen _ _
    · exact regsBut_trans (hcode _) (hen _ _)

theorem rd_thrBegun {s : State} {ch : Nat} {v : Word} {off : Bool} (h : blkState s (Reg.DAC_CTRL ch) = stOff ∨ off = false) :
    rd (thrBegun s ch v off) (Reg.DAC_CODE ch) = v := by
  have hen (t : State) (b : Bool) : rd (writeEn t (Reg.DAC_CTRL ch) b) (Reg.DAC_CODE ch) = rd t (Reg.DAC_CODE ch) :=
    (regsBut_writeEn t _ b).rd (by simp [Reg.DAC_CTRL, Reg.DAC_CODE]) (by unfold Reg.DAC_CODE; omega)
  unfold thrBegun; dsimp only
  split
  · rw [hen, rd_wr_same]
  · rw [if_neg (by simp [h.resolve_left ‹_›]), hen, rd_wr_same]

section
variable (s : State) (ring : Fin 16) (cid : BitVec 16) {ch : Nat} (p : TinParams) (off : Bool) (hch : ch < 32)
include hch

theorem dacProgram_thrCmd : dacProgram s ch (thrCmd ring cid ch p) =
    wr (wrF s (Reg.DAC_CTRL ch) 9 8 2) (Reg.DAC_CODE ch) ((BitVec.ofNat 16 (mvCode ch 2 p.thresh.toInt)).zeroExtend 32) := by
  simp only [dacProgram, thrCmd, if_neg (Nat.not_le.2 hch)]
  rfl

theorem thrCode_eq : (BitVec.ofNat 16 (mvCode ch 2 p.thresh.toInt)).zeroExtend 32 = BitVec.ofNat 32 (mvCode ch 2 p.thresh.toInt) := by
  have hle : mvCode ch 2 p.thresh.toInt ≤ 0xFFFF := by
    rw [mvCode, if_pos hch]; exact Nat.min_le_right ..
  refine BitVec.eq_of_toNat_eq ?_
  rw [BitVec.zeroExtend, BitVec.toNat_setWidth, BitVec.toNat_ofNat, BitVec.toNat_ofNat]
  omega

/-- What TIN_CONFIG makes of the registers of its input's threshold channel. -/
theorem dacBegin_regs : (dacBegin s ch (thrCmd ring cid ch p) off).regs =
    (thrBegun s ch (BitVec.ofNat 32 (mvCode ch 2 p.thresh.toInt)) off).regs := by
  unfold dacBegin thrBegun; dsimp only
  split
  · rw [dacRestart, dacProgram_thrCmd s ring cid p hch, thrCode_eq p hch]
    exact writeEn_regs (setDacSt_regs ..) _ _
  · split
    · exact writeEn_regs ((setDacSt_regs ..).trans (ddsCatch_regs s ch)) _ _
    · rw [if_neg fun h => absurd h.1 (Nat.not_le.2 hch)]
      simp only [thrCmd, dacStage, if_pos hch, thrCode_eq p hch]
      exact (setDacSt_regs ..).trans (writeEn_regs (setDacSt_regs ..) _ _)

theorem dacBegin_regsBut : s.regsBut [Reg.DAC_CTRL ch, Reg.DAC_CODE ch] (dacBegin s ch (thrCmd ring cid ch p) off) :=
  regsBut_trans (thrBegun_regsBut s ch _ off) (regsBut_of_eq (dacBegin_regs s ring cid p off hch))

theorem rd_dacBegin_code (h : blkState s (Reg.DAC_CTRL ch) = stOff ∨ off = false) :
    rd (dacBegin s ch (thrCmd ring cid ch p) off) (Reg.DAC_CODE ch) = BitVec.ofNat 32 (mvCode ch 2 p.thresh.toInt) := by
  rw [rd, dacBegin_regs s ring cid p off hch]
  exact rd_thrBegun h

end

/-! The settings in TIN_CTRL -/

/-- MODE, TERM, HYST, SLOPE and STAMP in TIN_CTRL. -/
def tinWord (p : TinParams) : Nat :=
  p.mode.toNat * 2 ^ 8 + p.term.toNat * 2 ^ 9 + p.hyst.toNat * 2 ^ 10 + p.slope.toNat * 2 ^ 13 + p.stamp.toNat * 2 ^ 14

/-- Fields of two words, of which one has none of the field's bits. -/
theorem fieldOf_or_left {a b : Word} {hi lo : Nat} (h : ∀ j, lo ≤ j → j ≤ hi → b.getLsbD j = false) :
    fieldOf (a ||| b) hi lo = fieldOf a hi lo := by
  refine Nat.eq_of_testBit_eq fun j => ?_
  rw [testBit_fieldOf, testBit_fieldOf]
  by_cases hj : j < hi + 1 - lo
  · rw [BitVec.getLsbD_or, h (lo + j) (by omega) (by omega), Bool.or_false]
  · simp [hj]

theorem fieldOf_or_right {a b : Word} {hi lo : Nat} (h : ∀ j, lo ≤ j → j ≤ hi → a.getLsbD j = false) :
    fieldOf (a ||| b) hi lo = fieldOf b hi lo := by
  rw [BitVec.or_comm, fieldOf_or_left h]

/-- The settings of a command that R345 lets pass. -/
structure TinOk (p : TinParams) : Prop where
  input : p.input.toNat < 16
  mode : p.mode.toNat ≤ 1
  term : p.term.toNat ≤ 1
  hyst : p.hyst.toNat ≤ 7
  slope : p.slope.toNat ≤ 1
  stamp : p.stamp.toNat ≤ 3

section
variable (x : Word) {p : TinParams} (hp : TinOk p)
include hp

theorem tinWord_lt : tinWord p < 2 ^ 16 := by
  obtain ⟨-, hmode, hterm, hhyst, hslope, hstamp⟩ := hp
  unfold tinWord; omega

omit hp in
theorem fieldOf_tinWord_low : fieldOf ((x &&& 0x71) ||| BitVec.ofNat 32 (tinWord p)) 6 4 = fieldOf x 6 4 := by
  rw [fieldOf_or_left]
  · refine Nat.eq_of_testBit_eq fun j => ?_
    rw [testBit_fieldOf, testBit_fieldOf]
    by_cases hj : j < 3
    · have hmask : (0x71 : Word).getLsbD (4 + j) = true := by interval_cases j <;> rfl
      rw [BitVec.getLsbD_and, hmask, Bool.and_true]
    · simp [hj]
  · intro j hlo hhi
    have hzero : tinWord p % 2 ^ 8 = 0 := by unfold tinWord; omega
    rw [BitVec.getLsbD_ofNat, ← Nat.mod_add_div (tinWord p) (2 ^ 8), hzero, Nat.zero_add, Nat.testBit_two_pow_mul]
    simp [show ¬8 ≤ j by omega]

theorem fieldOf_tinWord {hi lo : Nat} (hlo : 8 ≤ lo) :
    fieldOf ((x &&& 0x71) ||| BitVec.ofNat 32 (tinWord p)) hi lo = tinWord p / 2 ^ lo % 2 ^ (hi + 1 - lo) := by
  rw [fieldOf_or_right, fieldOf, nbits, BitVec.toNat_ofNat, Nat.mod_eq_of_lt (Nat.lt_trans (tinWord_lt hp) (by decide))]
  intro j hj _
  have hmask : (0x71 : Word).getLsbD j = false := by
    have hlt : (0x71 : Word).toNat < 2 ^ j := Nat.lt_of_lt_of_le (by decide) (Nat.pow_le_pow_right (by decide) (Nat.le_trans hlo hj))
    exact Nat.testBit_lt_two_pow hlt
  rw [BitVec.getLsbD_and, hmask, Bool.and_false]

end

/-! An input's settings are programmed, and it starts -/

/-- The registers of the input's settings. -/
def tinSet (s : State) (n : Nat) (p : TinParams) : State :=
  wr (wr s (Reg.TIN_CTRL n) ((rd s (Reg.TIN_CTRL n) &&& 0x71) ||| BitVec.ofNat 32 (tinWord p))) (Reg.TIN_OFS n) (p.ofs.zeroExtend 32)

/-- Settings and threshold of the input, and the command that waits for it to settle. -/
def tinThreshold (s : State) (n : Nat) (c : TinCmd) (p : TinParams) : State :=
  let s2 := dacBegin (tinSet s n p) (16 + n) (thrCmd c.ring c.cid (16 + n) p) (rdF (tinSet s n p) (Reg.DAC_CTRL (16 + n)) 9 8 != 2)
  setTin s2 n { tinOf s2 n with cmd := some { c with p := none } }

section
variable {s : State} {n : Nat}

theorem tinEn_free (h : (tinOf s n).stuck = false) (b : Bool) :
    tinEn s n b = if b && blkState s (Reg.TIN_CTRL n) == stOff then tinLeaveOff (writeEn s (Reg.TIN_CTRL n) true) n
      else writeEn s (Reg.TIN_CTRL n) b := if_neg (by rw [h]; decide)

theorem tinOf_setTin_same (s : State) (n : Nat) (x : TinSt) : tinOf (setTin s n x) n = x := tabGet_tabPut_same ..

variable {c : TinCmd} {p : TinParams} (hn : n < 16) (hstuck : (tinOf s n).stuck = false) (hoff : blkState s (Reg.TIN_CTRL n) = stOff)
include hn

theorem tinThreshold_regsBut : (tinSet s n p).regsBut [Reg.DAC_CTRL (16 + n), Reg.DAC_CODE (16 + n)] (tinThreshold s n c p) :=
  regsBut_trans (dacBegin_regsBut _ _ _ p _ (by omega)) (regsBut_of_eq rfl)

theorem rd_tinThreshold {o : Nat} (h : 0x500000 ≤ o ∧ o < 0x600000) : rd (tinThreshold s n c p) o = rd (tinSet s n p) o := by
  refine (tinThreshold_regsBut hn).rd ?_ (by omega)
  simp only [List.mem_cons, List.not_mem_nil, or_false, Reg.DAC_CTRL, Reg.DAC_CODE]
  omega

theorem rd_tinThreshold_ctrl : rd (tinThreshold s n c p) (Reg.TIN_CTRL n) = (rd s (Reg.TIN_CTRL n) &&& 0x71) ||| BitVec.ofNat 32 (tinWord p) := by
  rw [rd_tinThreshold hn (by unfold Reg.TIN_CTRL; omega), tinSet, rd_wr_other _ _ (by simp [Reg.TIN_CTRL, Reg.TIN_OFS]), rd_wr_same]

include hoff in
theorem blkState_tinThreshold : blkState (tinThreshold s n c p) (Reg.TIN_CTRL n) = stOff := by
  rw [blkState, rdF, rd_tinThreshold_ctrl hn, fieldOf_tinWord_low, ← hoff]; rfl

theorem rd_tinSet_dac {o : Nat} (h : 0x600000 ≤ o) : rd (tinSet s n p) o = rd s o := by
  rw [tinSet, rd_wr_other _ _ (by unfold Reg.TIN_OFS; omega), rd_wr_other _ _ (by unfold Reg.TIN_CTRL; omega)]

theorem rd_tinThreshold_code (h : blkState s (Reg.DAC_CTRL (16 + n)) = stOff ∨ rdF s (Reg.DAC_CTRL (16 + n)) 9 8 = 2) :
    rd (tinThreshold s n c p) (Reg.DAC_CODE (16 + n)) = BitVec.ofNat 32 (mvCode (16 + n) 2 p.thresh.toInt) := by
  have hctrl : rd (tinSet s n p) (Reg.DAC_CTRL (16 + n)) = rd s (Reg.DAC_CTRL (16 + n)) := rd_tinSet_dac hn (by unfold Reg.DAC_CTRL; omega)
  refine rd_dacBegin_code _ _ _ p _ (by omega) (h.imp (fun h => ?_) fun h => ?_)
  · rw [blkState, rdF, hctrl]; exact h
  · rw [rdF, hctrl, show fieldOf (rd s (Reg.DAC_CTRL (16 + n))) 9 8 = 2 from h]; rfl

include hstuck hoff

/-- The input leaves OFF for STARTING, and its counts start again. -/
theorem tinProgram_eq : tinProgram s n c p = tinLeaveOff (writeEn (tinThreshold s n c p) (Reg.TIN_CTRL n) true) n := by
  have hfree : (tinOf (tinThreshold s n c p) n).stuck = false := by
    rw [tinThreshold, tinOf_setTin_same]
    have hkeep := part_of_hide (dacBegin_hide (h_sub := (rfl : 16777218 &&& 16777218 = 16777218)) (tinSet s n p) (16 + n)
      (thrCmd c.ring c.cid (16 + n) p) (rdF (tinSet s n p) (Reg.DAC_CTRL (16 + n)) 9 8 != 2)) (tinOf · n) fun _ => rfl
    exact (congrArg TinSt.stuck hkeep).trans hstuck
  have hstate := blkState_tinThreshold (c := c) (p := p) hn hoff
  refine Eq.trans ?_ ((tinEn_free hfree true).trans (if_pos (by simp [hstate])))
  rfl

end

theorem tinLeaveOff_regsBut (s : State) (n : Nat) : s.regsBut [Reg.TIN_EDGE_LO n, Reg.TIN_EDGE_LO n + 4] (tinLeaveOff s n) :=
  regsBut_trans (regsBut_of_eq (t := setTin s n { tinOf s n with lastStamp := none }) rfl) (regsBut_wr64 _ _ _)

theorem rd_tinLeaveOff (s : State) {n o : Nat} (h : o < Reg.TIN_EDGE_LO n ∨ Reg.TIN_EDGE_LO n + 4 < o) (k : ¬(0x200 ≤ o ∧ o < 0x1000)) :
    rd (tinLeaveOff s n) o = rd s o := by
  refine (tinLeaveOff_regsBut s n).rd ?_ k
  simp only [List.mem_cons, List.not_mem_nil, or_false]
  omega

theorem rd_writeEn_other (s : State) {o o' : Nat} (b : Bool) (h : o' ≠ o) (k : ¬(0x200 ≤ o' ∧ o' < 0x1000)) :
    rd (writeEn s o b) o' = rd s o' :=
  (regsBut_writeEn s o b).rd (by simpa using h) k

/-- The settings of the command in the input's registers. -/
structure TinSettings (t : State) (n : Nat) (p : TinParams) : Prop where
  starting : blkState t (Reg.TIN_CTRL n) = stStarting
  mode : rdF t (Reg.TIN_CTRL n) 8 8 = p.mode.toNat
  term : rdF t (Reg.TIN_CTRL n) 9 9 = p.term.toNat
  hyst : rdF t (Reg.TIN_CTRL n) 12 10 = p.hyst.toNat
  slope : rdF t (Reg.TIN_CTRL n) 13 13 = p.slope.toNat
  stamp : rdF t (Reg.TIN_CTRL n) 15 14 = p.stamp.toNat
  ofs : rd t (Reg.TIN_OFS n) = p.ofs.zeroExtend 32
  edges : rd64 t (Reg.TIN_EDGE_LO n) = 0

section
variable {s : State} {c : TinCmd} {p : TinParams} (hp : TinOk p) (hstuck : (tinOf s p.input.toNat).stuck = false)
  (hoff : blkState s (Reg.TIN_CTRL p.input.toNat) = stOff)
include hp hstuck hoff

theorem tinProgram_settings : TinSettings (tinProgram s p.input.toNat c p) p.input.toNat p := by
  have hn := hp.input
  rw [tinProgram_eq hn hstuck hoff]
  generalize hx : tinThreshold s p.input.toNat c p = x
  have hctrl (y : State) : rd (tinLeaveOff y p.input.toNat) (Reg.TIN_CTRL p.input.toNat) = rd y (Reg.TIN_CTRL p.input.toNat) :=
    rd_tinLeaveOff y (by unfold Reg.TIN_CTRL Reg.TIN_EDGE_LO; omega) (by unfold Reg.TIN_CTRL; omega)
  have hfield {hi lo : Nat} (hlo : 8 ≤ lo) : rdF (tinLeaveOff (writeEn x (Reg.TIN_CTRL p.input.toNat) true) p.input.toNat)
      (Reg.TIN_CTRL p.input.toNat) hi lo = tinWord p / 2 ^ lo % 2 ^ (hi + 1 - lo) := by
    rw [rdF, hctrl]
    refine (rdF_writeEn x _ true (by omega)).trans ?_
    rw [rdF, ← hx, rd_tinThreshold_ctrl hn, fieldOf_tinWord _ hp hlo]
  obtain ⟨-, hmode, hterm, hhyst, hslope, hstamp⟩ := hp
  refine ⟨?_, ?_, ?_, ?_, ?_, ?_, ?_, ?_⟩
  · rw [blkState, rdF, hctrl]
    exact blkState_writeEn_off (by rw [← hx]; exact blkState_tinThreshold hn hoff)
  · rw [hfield (by decide)]; unfold tinWord; omega
  · rw [hfield (by decide)]; unfold tinWord; omega
  · rw [hfield (by decide)]; unfold tinWord; omega
  · rw [hfield (by decide)]; unfold tinWord; omega
  · rw [hfield (by decide)]; unfold tinWord; omega
  · rw [rd_tinLeaveOff _ (by unfold Reg.TIN_OFS Reg.TIN_EDGE_LO; omega) (by unfold Reg.TIN_OFS; omega),
      rd_writeEn_other _ _ (by simp [Reg.TIN_OFS, Reg.TIN_CTRL]) (by unfold Reg.TIN_OFS; omega), ← hx,
      rd_tinThreshold hn (by unfold Reg.TIN_OFS; omega), tinSet, rd_wr_same]
  · exact rd64_wr64_same ..

theorem tinProgram_code (h : blkState s (Reg.DAC_CTRL (16 + p.input.toNat)) = stOff ∨ rdF s (Reg.DAC_CTRL (16 + p.input.toNat)) 9 8 = 2) :
    rd (tinProgram s p.input.toNat c p) (Reg.DAC_CODE (16 + p.input.toNat)) = BitVec.ofNat 32 (mvCode (16 + p.input.toNat) 2 p.thresh.toInt) := by
  have hn := hp.input
  have hcode : ¬(0x200 ≤ Reg.DAC_CODE (16 + p.input.toNat) ∧ Reg.DAC_CODE (16 + p.input.toNat) < 0x1000) := by unfold Reg.DAC_CODE; omega
  rw [tinProgram_eq hn hstuck hoff, rd_tinLeaveOff _ (by unfold Reg.DAC_CODE Reg.TIN_EDGE_LO; omega) hcode,
    rd_writeEn_other _ _ (by unfold Reg.DAC_CODE Reg.TIN_CTRL; omega) hcode, rd_tinThreshold_code hn h]

end

/-! TIN_CONFIG -/

/-- The command as it waits at its input, and the state in which it does. -/
def tinWaits (h : CmdHdr) (p : TinParams) : TinCmd := { ring := h.ring, cid := h.cid, p := some p }

def tinHeld (s : State) (h : CmdHdr) (p : TinParams) : State :=
  setTin (keepRunning s h 0x0701 p.input.toNat 0) p.input.toNat { tinOf s p.input.toNat with cmd := some (tinWaits h p) }

theorem tinOk_of_starts {h : CmdHdr} {p : TinParams} {s : State} (hs : s.starts h (tinConfigChecks h p s)) : TinOk p := by
  have hfields := judge_fields hs.2
  simp only [tinConfigChecks, List.forall_mem_cons, decide_eq_true_eq, Bool.and_eq_true] at hfields
  obtain ⟨-, hinput, hmode, hterm, hhyst, hslope, ⟨-, hstamp⟩, -⟩ := hfields
  exact ⟨hinput, hmode, hterm, hhyst, hslope, hstamp⟩

section
variable {h : CmdHdr} {p : TinParams} {s : State} (hs : s.starts h (tinConfigChecks h p s))
include hs

theorem tinConfig_refuses {st r : Nat} (hb : tinConfigBody h p s = refuse s h 0x0701 st r) :
    ∃ t, exec (.tinConfig h p) s = .next t ∧ t.cmd = s.completing h st r 0 ∧ s.sameBut [.cmd] t :=
  ⟨_, (next_startCmd hs).trans (congrArg _ hb), refuse_cmd .., finish_sameBut_quiet s h _ _ _ rfl⟩

theorem tinConfig_used {c : BitVec 16} (hu : measUser s p.input.toNat = some c) :
    ∃ t, exec (.tinConfig h p) s = .next t ∧ t.cmd = s.completing h cBusy c.toNat 0 ∧ s.sameBut [.cmd] t :=
  tinConfig_refuses hs (by simp only [tinConfigBody, hu])

variable (hu : measUser s p.input.toNat = none)
include hu

theorem tinConfig_locked (hl : tinLocked s p.input.toNat = true) :
    ∃ t, exec (.tinConfig h p) s = .next t ∧ t.cmd = s.completing h cBusy 0xFFFF 0 ∧ s.sameBut [.cmd] t :=
  tinConfig_refuses hs (by simp only [tinConfigBody, hu, hl, if_true]; rfl)

variable (hl : tinLocked s p.input.toNat = false)
include hl

theorem tinConfig_stuck (hst : (tinOf s p.input.toNat).stuck = true) :
    ∃ t, exec (.tinConfig h p) s = .next t ∧ t.cmd = s.completing h cEngine 0 0 ∧ s.sameBut [.cmd] t :=
  tinConfig_refuses hs (by simp only [tinConfigBody, hu, hl, hst, Bool.false_eq_true, if_false, if_true])

variable (hst : (tinOf s p.input.toNat).stuck = false)
include hst

theorem tinConfig_programs (hoff : blkState s (Reg.TIN_CTRL p.input.toNat) = stOff) : exec (.tinConfig h p) s =
    .next (tinProgram (keepRunning s h 0x0701 p.input.toNat 0) p.input.toNat (tinWaits h p) p) :=
  (next_startCmd hs).trans (by simp only [tinConfigBody, hu, hl, hst, Bool.false_eq_true, if_false, hoff, if_true]; rfl)

theorem tinConfig_stops (hoff : blkState s (Reg.TIN_CTRL p.input.toNat) ≠ stOff) : exec (.tinConfig h p) s =
    .next (writeEn (tinHeld s h p) (Reg.TIN_CTRL p.input.toNat) false) := by
  have hbody : tinConfigBody h p s = tinEn (tinHeld s h p) p.input.toNat false := by
    unfold tinConfigBody; dsimp only
    rw [hu]; dsimp only
    rw [if_neg (by rw [hl]; decide), if_neg (by rw [hst]; decide), if_neg hoff]
    rfl
  have hfree : (tinOf (tinHeld s h p) p.input.toNat).stuck = false := by rw [tinHeld, tinOf_setTin_same]; exact hst
  rw [show exec (.tinConfig h p) s = .next (tinConfigBody h p s) from next_startCmd hs, hbody, tinEn_free hfree, Bool.false_and,
    if_neg Bool.false_ne_true]

end

/-! An input settles in ON -/

theorem ctrlOf_tin {n : Nat} (hn : n < 16) : ctrlOf (Reg.TIN_CTRL n) = some (Reg.TIN_CTRL n) := by
  have hk : Reg.TIN_CTRL n / 0x100000 = 5 := by unfold Reg.TIN_CTRL; omega
  have hr : 0x1000 ≤ Reg.TIN_CTRL n % 0x100000 ∧ (Reg.TIN_CTRL n % 0x100000 - 0x1000) / 0x40 = n := by unfold Reg.TIN_CTRL; omega
  simp only [ctrlOf, hk, hr]
  rfl

/-- STATE of an input that starts settles in ON (R371). -/
theorem settleBlock_tin {s : State} {n : Nat} (hn : n < 16) (hst : blkState s (Reg.TIN_CTRL n) = stStarting) :
    settleBlock s (Reg.TIN_CTRL n) = tinOn (setBlkState s (Reg.TIN_CTRL n) stOn) n := by
  have hk : Reg.TIN_CTRL n / 0x100000 = 5 := by unfold Reg.TIN_CTRL; omega
  have hidx : Reg.TIN_CTRL n % 0x1000 / 0x40 = n := by unfold Reg.TIN_CTRL; omega
  have hctrl : isCtrl (Reg.TIN_CTRL n) = true := by rw [isCtrl, ctrlOf_tin hn, beq_self_eq_true, Bool.true_or]
  have hset : settled s (Reg.TIN_CTRL n) = some stOn := if_pos hst
  simp only [settleBlock, hctrl, hk, hidx, settleWith, hset]
  rfl

/-- The state in which the TIN_CONFIG that waits for its input completes. -/
def tinDone (s : State) (n : Nat) : State := setTin (setBlkState s (Reg.TIN_CTRL n) stOn) n { tinOf s n with cmd := none }

theorem tinOn_waiting {s : State} {n : Nat} {c : TinCmd} (hc : (tinOf s n).cmd = some c) (hp : c.p = none) :
    tinOn (setBlkState s (Reg.TIN_CTRL n) stOn) n = endRun (tinDone s n) c.ring c.cid cOk 0 0 := by
  obtain ⟨ring, cid, _⟩ := c
  subst hp
  simp only [tinOn, show (tinOf (setBlkState s (Reg.TIN_CTRL n) stOn) n).cmd = _ from hc]
  rfl

/-- The completion of a command that is not logged changes the command interface alone. -/
theorem endRun_sameBut_quiet {s : State} {ring : Fin 16} {cid : BitVec 16} {op : Nat} (st r r2 : Nat) (h : s.runs ring cid op)
    (hop : loggedOps.contains op = false) : s.sameBut [.cmd] (endRun s ring cid st r r2) := by
  rw [endRun_of_runs st r r2 h]
  exact (complete_hide_quiet _ _ _ _ _ _ hop).trans (dropCmd_hide (h_sub := rfl) ..)

theorem tinSettles_spec {s : State} {n : Nat} (hn : n < 16) (hst : blkState s (Reg.TIN_CTRL n) = stStarting) {c : TinCmd}
    (hc : (tinOf s n).cmd = some c) (hp : c.p = none) (hr : s.runs c.ring c.cid 0x0701) :
    blkState (settleBlock s (Reg.TIN_CTRL n)) (Reg.TIN_CTRL n) = stOn ∧
      (settleBlock s (Reg.TIN_CTRL n)).cmd = s.ending c.ring c.cid cOk 0 0 ∧ s.sameBut [.regs, .cmd, .tins] (settleBlock s (Reg.TIN_CTRL n)) := by
  have hcmd : (tinDone s n).cmd = s.cmd := rfl
  have hdone : s.sameBut [.regs, .tins] (tinDone s n) := (setTin_hide (h_sub := rfl) ..).trans (setBlkState_hide (h_sub := rfl) ..)
  rw [settleBlock_tin hn hst, tinOn_waiting hc hp]
  refine ⟨?_, endRun_cmd_of_cmd hcmd _ _ _ hr, ?_⟩
  · rw [endRun_part _ _ _ _ _ _ (blkState · (Reg.TIN_CTRL n)) fun _ => rfl]
    exact blkState_setBlkState s (Reg.TIN_CTRL n) stOn
  · exact (hide_mono rfl (endRun_sameBut_quiet cOk 0 0 (runs_of_cmd hcmd hr) rfl)).trans (hide_mono rfl hdone)

end Sys2Proof.Machine
/-!
PROOF. What the work of a measurement unit changes (R246-R256): its own state, and no register of the timing inputs.
-/

namespace Sys2Proof.Machine

/-- Unit `u` may have worked from `s` to `t`: the inputs and the other units are as before, so are the registers of the inputs, and a
unit that no measurement runs on is idle afterwards if it was before. -/
structure State.unitWork (u : Nat) (s t : State) : Prop where
  ins : t.tins.ins = s.tins.ins
  others : ∀ v, v ≠ u → measOf t v = measOf s v
  idle : ((measOf s u).run = none → measOf s u = {}) → (measOf t u).run = none → measOf t u = {}
  regs : ∀ o d, Reg.TIN_CTRL 0 ≤ o → o < Reg.TIN_CTRL 16 → tabGet d t.regs o = tabGet d s.regs o

theorem measOf_setMeas_same (s : State) (u : Nat) (x : MeasSt) : measOf (setMeas s u x) u = x := tabGet_tabPut_same ..

theorem measOf_setMeas_other (s : State) {u v : Nat} (x : MeasSt) (h : v ≠ u) : measOf (setMeas s u x) v = measOf s v :=
  tabGet_tabPut_other _ _ _ h _

namespace State.unitWork

variable {u : Nat} {s t x : State}

theorem refl (s : State) : s.unitWork u s := ⟨rfl, fun _ _ => rfl, id, fun _ _ _ _ => rfl⟩

theorem trans (h1 : s.unitWork u t) (h2 : t.unitWork u x) : s.unitWork u x where
  ins := h2.ins.trans h1.ins
  others v hv := (h2.others v hv).trans (h1.others v hv)
  idle h := h2.idle (h1.idle h)
  regs o d hlo hhi := (h2.regs o d hlo hhi).trans (h1.regs o d hlo hhi)

theorem ite {c : Prop} [Decidable c] {a b : State} (ha : s.unitWork u a) (hb : s.unitWork u b) : s.unitWork u (if c then a else b) := by
  split
  · exact ha
  · exact hb

theorem foldl {α : Type} {f : State → α → State} (h : ∀ (s : State) a, s.unitWork u (f s a)) : ∀ (l : List α) (s : State),
    s.unitWork u (l.foldl f s)
  | [], s => refl s
  | a :: l, s => (h s a).trans (foldl h l _)

/-! The operations of the units -/

theorem setMeas (s : State) {x : MeasSt} (h : x.run = none → x = {}) : s.unitWork u (setMeas s u x) where
  ins := rfl
  others _ hv := measOf_setMeas_other s x hv
  idle _ := by rw [measOf_setMeas_same]; exact h
  regs _ _ _ _ := rfl

theorem keepRun (s : State) (st : MeasState) (r : MeasRun) : s.unitWork u (Machine.setMeas s u { st := st, run := some r }) := setMeas s nofun

theorem setRun (s : State) (st : MeasState) (r : MeasRun) : s.unitWork u (setRun s u st r) := keepRun s st r

theorem of_parts (htins : t.tins = s.tins) (hregs : t.regs = s.regs) : s.unitWork u t where
  ins := by rw [htins]
  others v _ := by rw [measOf, htins]; rfl
  idle h := by rw [measOf, htins]; exact h
  regs o d _ _ := by rw [hregs]

theorem wr (s : State) {o : Nat} (v : Word) (h : o < Reg.TIN_CTRL 0 ∨ Reg.TIN_CTRL 16 ≤ o) : s.unitWork u (wr s o v) where
  ins := rfl
  others _ _ := rfl
  idle := id
  regs o' d hlo hhi := raw_wr_other s d v (by omega)

theorem endRun (s : State) (ring : Fin 16) (cid : BitVec 16) (st r r2 : Nat) : s.unitWork u (endRun s ring cid st r r2) :=
  of_parts (endRun_part _ _ _ _ _ _ State.tins fun _ => rfl) (endRun_part _ _ _ _ _ _ State.regs fun _ => rfl)

theorem putBuf (s : State) (l : List Seg) (bs : List Byte) : s.unitWork u (putBuf s l bs) :=
  of_parts (part_of_hide (putBuf_hide (h_sub := (rfl : 2048 &&& 2048 = 2048)) s l bs) State.tins fun _ => rfl)
    (part_of_hide (putBuf_hide (h_sub := (rfl : 2048 &&& 2048 = 2048)) s l bs) State.regs fun _ => rfl)

theorem drove (s : State) (n : Nat) : s.unitWork u (drove s n) := by
  unfold Machine.drove pickFree
  cases freeDrovers s with
  | nil => exact refl s
  | cons a l =>
    have hfree : s.unitWork u (useFree s) := of_parts rfl rfl
    exact hfree.trans ((wr _ _ (.inr (by unfold Reg.TIN_CTRL Reg.DROV_BYTES_LO; omega))).trans
      (wr _ _ (.inr (by unfold Reg.TIN_CTRL Reg.DROV_BYTES_LO; omega))))

theorem putAt (s : State) (r : MeasRun) (o : Nat) (bs : List Byte) : s.unitWork u (putAt s r o bs) :=
  (putBuf s _ bs).trans (drove _ _)

theorem measEnd (cause : Nat) (t : Time) (cut : Bool) (s : State) : s.unitWork u (measEnd u cause t cut s) := by
  have hidle : s.unitWork u (Machine.setMeas s u {}) := setMeas s fun _ => rfl
  unfold Machine.measEnd; dsimp only
  split
  · exact refl s
  · split
    · exact ite (hidle.trans ((putAt _ _ _ _).trans (endRun _ _ _ _ _ _)))
        (ite (hidle.trans ((putAt _ _ _ _).trans (endRun _ _ _ _ _ _))) (hidle.trans (endRun _ _ _ _ _ _)))
    · exact ite (hidle.trans ((putAt _ _ _ _).trans (endRun _ _ _ _ _ _))) (hidle.trans (endRun _ _ _ _ _ _))
    · exact hidle

theorem ivAgain (t : Time) (s : State) : s.unitWork u (ivAgain u t s) := by
  unfold Machine.ivAgain
  split
  · exact refl s
  · exact ite (measEnd ..) (ite (measEnd ..) (setRun ..))

theorem ivStop (t : Time) (n : Nat) (s : State) : s.unitWork u (ivStop u t n s) := by
  have hgo (x : State) (r : MeasRun) (c : Prop) [Decidable c] :
      x.unitWork u (if c then Machine.ivAgain u t (Machine.setRun x u .stops r) else Machine.setRun x u .stops r) :=
    ite ((setRun ..).trans (ivAgain ..)) (setRun ..)
  unfold Machine.ivStop; dsimp only
  split
  · exact refl s
  · exact ite (hgo s _ _) (ite ((putAt ..).trans (hgo _ _ _)) (measEnd ..))

section
variable (hu : u < 4)
include hu

/-- The counts of a unit's measurement are none of the inputs' registers. -/
theorem wrCount (s : State) {o : Nat} (v : Word) (h : o < 0x500210 + 0x20 * u) : s.unitWork u (Machine.wr s o v) :=
  wr s v (.inl (by unfold Reg.TIN_CTRL; omega))

theorem ivStart (p : IntervalParams) (t : Time) (s : State) : s.unitWork u (ivStart u p t s) := by
  have hgo (x : State) (r : MeasRun) (l : List Nat) : x.unitWork u
      ((l.mergeSort (· ≤ ·)).foldl (fun s n => if (measOf s u).st = .stops then Machine.ivStop u t n s else s)
        (if l.isEmpty then incCnt (Machine.setRun x u .stops r) (Reg.MEAS_STARTS u) 1
          else decCnt (incCnt (Machine.setRun x u .stops r) (Reg.MEAS_STARTS u) 1) (Reg.MEAS_EARLY u) l.length)) := by
    have hstart : x.unitWork u (incCnt (Machine.setRun x u .stops r) (Reg.MEAS_STARTS u) 1) :=
      (setRun ..).trans (wrCount hu _ _ (by unfold Reg.MEAS_STARTS; omega))
    exact (ite hstart (hstart.trans (wrCount hu _ _ (by unfold Reg.MEAS_EARLY; omega)))).trans
      (foldl (fun s n => ite (ivStop t n s) (refl s)) _ _)
  unfold Machine.ivStart; dsimp only
  split
  · exact refl s
  · exact ite (hgo s _ _) (ite ((putAt ..).trans (hgo _ _ _)) (measEnd ..))

theorem ivWait (p : IntervalParams) (x : MStamp) (s : State) : s.unitWork u (ivWait u p x s) := by
  unfold Machine.ivWait; dsimp only
  split
  · exact refl s
  · exact ite (measEnd ..) (ite (ivStart hu ..) (ite ((keepRun ..).trans (wrCount hu _ _ (by unfold Reg.MEAS_EARLY; omega)))
      (keepRun ..)))

theorem ivStamp (p : IntervalParams) (x : MStamp) (s : State) : s.unitWork u (ivStamp u p x s) := by
  unfold Machine.ivStamp; dsimp only
  split
  · exact refl s
  · exact ite (ite (ite (ivStop ..) (ite (wrCount hu _ _ (by unfold Reg.MEAS_BUSY; omega)) (refl s)))
      ((ivAgain ..).trans (ite (ivWait hu ..) (refl _)))) (ivWait hu ..)

theorem fqStamp (p : FreqParams) (x : MStamp) (s : State) : s.unitWork u (fqStamp u p x s) := by
  unfold Machine.fqStamp; dsimp only
  split
  · exact refl s
  · exact ite (ite ((keepRun ..).trans (wrCount hu _ _ (by unfold Reg.MEAS_STARTS; omega))) (keepRun ..)) (refl s)

theorem unitStamp (x : MStamp) (s : State) : s.unitWork u (unitStamp u x s) := by
  unfold Machine.unitStamp
  split
  · exact refl s
  · split
    · exact ivStamp hu ..
    · exact fqStamp hu ..
    · exact refl s

theorem gateOpens (t : Time) (s : State) : s.unitWork u (gateOpens u t s) := by
  unfold Machine.gateOpens; dsimp only
  split
  · exact refl s
  · exact ite (refl s) (ite (keepRun ..) ((setRun ..).trans (wrCount hu _ _ (by unfold Reg.MEAS_STARTS; omega))))

theorem gateCloses (t : Time) (cut : Bool) (s : State) : s.unitWork u (gateCloses u t cut s) := by
  unfold Machine.gateCloses; dsimp only
  split
  · exact refl s
  · split
    · refine ite (refl s) ?_
      split
      · exact ite ((keepRun ..).trans (putAt ..)) (keepRun ..)
      · exact keepRun ..
    · exact ite ((setRun ..).trans (wrCount hu _ _ (by unfold Reg.MEAS_STARTS; omega))) (measEnd ..)
    · exact refl s

omit hu in
theorem measEvent (e : MeasEvent) (s : State) : s.unitWork u (measEvent u e s) := by
  unfold Machine.measEvent; dsimp only
  split
  · exact refl s
  · exact ite (refl s) (keepRun ..)

omit hu in
theorem unitDead (t : Time) (s : State) : s.unitWork u (unitDead u t s) := by
  unfold Machine.unitDead
  split
  · exact refl s
  · exact ite (keepRun ..) (refl s)

theorem unitEvent (e : MeasEvent) (s : State) : s.unitWork u (unitEvent u e s) := by
  cases e with
  | gate t opens => exact ite (gateOpens hu t s) (gateCloses hu t false s)
  | stamp t n falling => exact unitStamp hu (t, n, falling) s
  | dead t => exact unitDead t s

theorem pumpOne (t : Time) (s : State) : s.unitWork u (pumpOne u t s) := by
  unfold Machine.pumpOne
  split
  · exact refl s
  · split
    · exact refl s
    · exact ite ((keepRun ..).trans (unitEvent hu _ _)) (refl s)

theorem pumpTo (t : Time) (s : State) : s.unitWork u (pumpTo u t s) := foldl (fun s _ => pumpOne hu t s) _ s

omit hu in
theorem gateSample (d : DeckImage) (s : State) (i : Sample) : s.unitWork u (gateSample u d s i) := by
  unfold Machine.gateSample; dsimp only
  split
  · exact refl s
  · exact ite (keepRun ..) ((keepRun ..).trans (measEvent ..))

omit hu in
theorem gateSamples (s : State) : s.unitWork u (gateSamples u s) := by
  unfold Machine.gateSamples
  split
  · exact ite (foldl (fun s j => gateSample _ s _) _ s) (refl s)
  · exact refl s

theorem measUpTo (t : Time) (s : State) : s.unitWork u (measUpTo u t s) := (gateSamples s).trans (pumpTo hu t _)

end

end State.unitWork

/-! A failed calibration (R245) -/

theorem endRun_measOf (s : State) (ring : Fin 16) (cid : BitVec 16) (st r r2 v : Nat) : measOf (endRun s ring cid st r r2) v = measOf s v :=
  endRun_part _ _ _ _ _ _ (measOf · v) fun _ => rfl

theorem putAt_tins (s : State) (r : MeasRun) (o : Nat) (bs : List Byte) : (putAt s r o bs).tins = s.tins :=
  (part_of_hide (drove_hide (h_sub := (rfl : 34 &&& 34 = 34)) ..) State.tins fun _ => rfl).trans
    (part_of_hide (putBuf_hide (h_sub := (rfl : 2048 &&& 2048 = 2048)) ..) State.tins fun _ => rfl)

/-- A measurement that ends leaves its unit idle. -/
theorem measOf_measEnd {u : Nat} {s : State} (h : (measOf s u).run = none → measOf s u = {}) (cause : Nat) (t : Time) (cut : Bool) :
    measOf (measEnd u cause t cut s) u = {} := by
  have hput (r : MeasRun) (o : Nat) (bs : List Byte) : measOf (putAt (setMeas s u {}) r o bs) u = {} := by
    rw [measOf, putAt_tins]; exact measOf_setMeas_same s u {}
  unfold measEnd; dsimp only
  split
  · exact h ‹_›
  · split
    · split
      · rw [endRun_measOf, hput]
      · split
        · rw [endRun_measOf, hput]
        · rw [endRun_measOf, measOf_setMeas_same]
    · split
      · rw [endRun_measOf, hput]
      · rw [endRun_measOf, measOf_setMeas_same]
    · exact measOf_setMeas_same s u {}

/-- A measurement that uses input `n` ends with cause 5, once it has taken what came before. -/
def unitFails (n : Nat) (s : State) (u : Nat) : State :=
  match (measOf s u).run with
  | some r => if runUses r n then measEnd u 5 (now s) false (measUpTo u (now s) s) else s
  | none => s

section
variable {n u : Nat} {s : State}

theorem unitFails_unitWork (hu : u < 4) : s.unitWork u (unitFails n s u) := by
  unfold unitFails
  split
  · exact .ite ((State.unitWork.measUpTo hu _ s).trans (.measEnd ..)) (.refl s)
  · exact .refl s

theorem measOf_unitFails (hu : u < 4) {r : MeasRun} (hr : (measOf s u).run = some r) :
    measOf (unitFails n s u) u = if runUses r n then {} else measOf s u := by
  have hfail : unitFails n s u = if runUses r n then measEnd u 5 (now s) false (measUpTo u (now s) s) else s := by simp only [unitFails, hr]
  have hidle := (State.unitWork.measUpTo hu (now s) s).idle fun h => by rw [hr] at h; cases h
  rw [hfail]
  split
  · exact measOf_measEnd hidle _ _ _
  · rfl

/-- What every unit's work keeps is kept by the work of several. -/
theorem foldl_unitFails_keeps : ∀ (l : List Nat) (s : State), (∀ v ∈ l, v < 4) →
    (l.foldl (unitFails n) s).tins.ins = s.tins.ins ∧ (∀ u, u ∉ l → measOf (l.foldl (unitFails n) s) u = measOf s u) ∧
      ∀ o d, Reg.TIN_CTRL 0 ≤ o → o < Reg.TIN_CTRL 16 → tabGet d (l.foldl (unitFails n) s).regs o = tabGet d s.regs o
  | [], s, _ => ⟨rfl, fun _ _ => rfl, fun _ _ _ _ => rfl⟩
  | v :: l, s, hl => by
    have hv : s.unitWork v (unitFails n s v) := unitFails_unitWork (hl v List.mem_cons_self)
    obtain ⟨hins, hothers, hregs⟩ := foldl_unitFails_keeps l (unitFails n s v) fun x hx => hl x (List.mem_cons_of_mem _ hx)
    exact ⟨hins.trans hv.ins, fun u hu => (hothers u fun h => hu (List.mem_cons_of_mem _ h)).trans
      (hv.others u fun h => hu (h ▸ List.mem_cons_self)), fun o d hlo hhi => (hregs o d hlo hhi).trans (hv.regs o d hlo hhi)⟩

theorem measOf_foldl_unitFails {l : List Nat} (hnd : l.Nodup) (hl : ∀ v ∈ l, v < 4) (hu : u ∈ l) {r : MeasRun}
    (hr : (measOf s u).run = some r) :
    measOf (l.foldl (unitFails n) s) u = if runUses r n then {} else measOf s u := by
  induction l generalizing s with
  | nil => cases hu
  | cons v l ih =>
    obtain ⟨hvl, hnd⟩ := List.nodup_cons.1 hnd
    have hv4 : v < 4 := hl v List.mem_cons_self
    have hl4 : ∀ x ∈ l, x < 4 := fun x hx => hl x (List.mem_cons_of_mem _ hx)
    rw [List.foldl_cons]
    by_cases huv : u = v
    · subst huv
      obtain ⟨-, hothers, -⟩ := foldl_unitFails_keeps (n := n) l (unitFails n s u) hl4
      rw [hothers u hvl, measOf_unitFails hv4 hr]
    · have hkeep : measOf (unitFails n s v) u = measOf s u := (unitFails_unitWork hv4).others u huv
      rw [ih hnd hl4 ((List.mem_cons.1 hu).resolve_left huv) (by rw [hkeep]; exact hr), hkeep]

end

/-- The input in FAULT, its calibration flagged and logged. -/
def tinFaulted (s : State) (n : Nat) : State :=
  let x := tinOf s n
  let again := (x.lastFail.map (fun t => decide (now s < t + nsT second))).getD false
  raiseErr (setBlkState (setTin s n { x with lastFail := some (now s), stuck := x.stuck || again, cmd := none }) (Reg.TIN_CTRL n) stFault)
    (Reg.TIN_STATUS n) 1 3 (0x0400 + n) n

theorem tdcFail_eq (n : Nat) (s : State) : tdcFail n s =
    match (tinOf s n).cmd with
    | some c => endRun ((List.range 4).foldl (unitFails n) (tinFaulted s n)) c.ring c.cid cEngine 0 0
    | none => (List.range 4).foldl (unitFails n) (tinFaulted s n) := rfl

/-- The command that waits for the input is no part of what a failed calibration leaves in registers and units. -/
theorem tdcFail_part {α : Type} (n : Nat) (s : State) (p : State → α) (hp : ∀ x, p (x.hide 1152) = p x) :
    p (tdcFail n s) = p ((List.range 4).foldl (unitFails n) (tinFaulted s n)) := by
  rw [tdcFail_eq]
  split
  · exact endRun_part _ _ _ _ _ _ p hp
  · rfl

theorem tinFaulted_tins (s : State) (n : Nat) : (tinFaulted s n).tins =
    (setTin s n { tinOf s n with
      lastFail := some (now s)
      stuck := (tinOf s n).stuck || ((tinOf s n).lastFail.map (fun t => decide (now s < t + nsT second))).getD false
      cmd := none }).tins :=
  part_of_hide (raiseErr_hide (h_sub := (rfl : 1282 &&& 1282 = 1282)) ..) State.tins fun _ => rfl

theorem tdcFail_spec (n : Fin 16) (s : State) :
    blkState (tdcFail n s) (Reg.TIN_CTRL n) = stFault ∧ flagSet (tdcFail n s) (Reg.TIN_STATUS n) 1 = true ∧
      (tinOf (tdcFail n s) n).lastFail = some s.tb.now ∧
      (∀ u < 4, ∀ r, (measOf s u).run = some r → measOf (tdcFail n s) u = if runUses r n then {} else measOf s u) ∧
      s.sameBut [.regs, .free, .cmd, .pcie, .log, .mem, .tins] (tdcFail n s) := by
  obtain ⟨hins, -, hregs⟩ := foldl_unitFails_keeps (n := n) (List.range 4) (tinFaulted s n) fun v hv => List.mem_range.1 hv
  have hmeas (u : Nat) : measOf (tinFaulted s n) u = measOf s u := by rw [measOf, tinFaulted_tins]; rfl
  have hstatus : Reg.TIN_CTRL n ∉ [Reg.TIN_STATUS n, Reg.PCIE_STATUS] := by
    simp only [List.mem_cons, List.not_mem_nil, or_false, Reg.TIN_CTRL, Reg.TIN_STATUS, Reg.PCIE_STATUS]; omega
  refine ⟨?_, ?_, ?_, fun u hu r hr => ?_, tdcFail_hide (h_sub := rfl) ..⟩
  · rw [tdcFail_part _ _ (blkState · (Reg.TIN_CTRL n)) fun _ => rfl]
    have hrd : rd ((List.range 4).foldl (unitFails n) (tinFaulted s n)) (Reg.TIN_CTRL n) = rd (tinFaulted s n) (Reg.TIN_CTRL n) :=
      hregs _ _ (by unfold Reg.TIN_CTRL; omega) (by unfold Reg.TIN_CTRL; omega)
    rw [blkState, rdF, hrd]
    refine ((regsBut_raiseErr _ _ _ _ _ _).rdF 6 4 hstatus (by unfold Reg.TIN_CTRL; omega)).trans ?_
    exact rdF_wrF_same _ _ _ (by decide)
  · rw [tdcFail_part _ _ (flagSet · (Reg.TIN_STATUS n) 1) fun _ => rfl]
    refine (congrArg (BitVec.getLsbD · 1) (hregs _ 0 (by unfold Reg.TIN_CTRL Reg.TIN_STATUS; omega)
      (by unfold Reg.TIN_CTRL Reg.TIN_STATUS; omega))).trans ?_
    exact flagSet_raiseErr _ _ _ _ _ _ (by decide) (by unfold Reg.TIN_STATUS; omega) (by unfold Reg.TIN_STATUS Reg.PCIE_STATUS; omega)
  · rw [tdcFail_part _ _ (tinOf · n) fun _ => rfl, tinOf, hins, tinFaulted_tins]
    exact congrArg TinSt.lastFail (tabGet_tabPut_same ..)
  · rw [tdcFail_part _ _ (measOf · u) fun _ => rfl, measOf_foldl_unitFails List.nodup_range (fun v hv => List.mem_range.1 hv)
      (List.mem_range.2 hu) (by rw [hmeas]; exact hr), hmeas]

end Sys2Proof.Machine
/-!
PROOF. Stamps and pins reach their consumers; an input is configured, settles, or fails its calibration.
-/

namespace Sys2Proof.Machine

section
variable {s : State} {n : Fin 16} {t : Time} {falling fall : Bool} {a : Time} (hidle : ∀ u < 4, (measOf s u).run = none)
  (hfall : fall = (falling != (rd s (Reg.TIN_CTRL n)).getLsbD 13)) (ha : a = stampTime s n t)
  (hon : blkState s (Reg.TIN_CTRL n) = stOn) (hsel : edgeSel (rdF s (Reg.TIN_CTRL n) 15 14) fall = true)
include hidle hfall ha hon hsel

theorem tinStamp_stamps (hl : ∀ l, (tinOf s n).lastStamp = some l → inDead l t = false) : ∃ x, exec (.tinStamp n t falling) s = .next x ∧
    rd64 x (Reg.TIN_EDGE_LO n) = (rd64 s (Reg.TIN_EDGE_LO n) + 1) % 2 ^ 48 ∧ rd64 x (Reg.TIN_LAST_NS_LO n) = a / 65536 % 2 ^ 64 ∧
    (rd x (Reg.TIN_LAST_FRAC n)).toNat = a % 65536 + (if fall then 65536 else 0) ∧ tinOf x n = { tinOf s n with lastStamp := some t } ∧
    tabGet [] x.recog.stamps n =
      { t := a, falling := fall, late := (actDeck s).isSome && arrivesLate s a } :: tabGet [] s.recog.stamps n ∧
    s.sameBut [.regs, .pcie, .log, .recog, .tins] x := by
  obtain ⟨hedge, hlast, hfrac⟩ := stamped_regs s t a fall n.isLt
  refine ⟨_, exec_tinStamp_stamped hidle hfall ha hon hsel hl, hedge, hlast, hfrac, ?_, stamped_stamps .., stamped_sameBut ..⟩
  rw [tinOf, stamped_tins]
  exact tabGet_tabPut_same ..

end

section
variable {s : State} {t : Time} {level : Bool} {held : Nat}

theorem trigInEdge_joins (hl : level ≠ s.recog.trigLevel) (hf : pinFilt s 0x1C0 ≤ held) : ∃ x, exec (.trigInEdge t level held) s = .next x ∧
    x.recog = { s.recog with
      trigLevel := level
      trigIn := { t := sampledTime s t, falling := !level, late := (actDeck s).isSome && arrivesLate s (sampledTime s t) } :: s.recog.trigIn } ∧
    s.sameBut [.regs, .pcie, .log, .recog] x :=
  ⟨_, trigInEdge_held hl hf, lateCounted_recog .., (hide_mono rfl (lateCounted_sameBut ..)).trans (hide_modRecog _ _ rfl)⟩

theorem gateRecog_joins (hl : level ≠ gateAccepted s) (hf : pinFilt s 0x1C1 ≤ held) : (gateRecog t level held s).recog = { s.recog with
    gate := ⟨sampledTime s t, level, if (actDeck s).isSome ∧ arrivesLate s (sampledTime s t) = true then evalNext s else 0⟩ ::
      s.recog.gate } := by
  have hlate : (if lateFor s (sampledTime s t) then evalNext s else 0) =
      if (actDeck s).isSome ∧ arrivesLate s (sampledTime s t) = true then evalNext s else 0 := by simp only [lateFor, Bool.and_eq_true]
  rw [gateRecog_held hl hf, lateCounted_recog, ← hlate]
  rfl

end

section
variable {h : CmdHdr} {p : TinParams} {s : State} (hs : s.starts h (tinConfigChecks h p s)) (hu : measUser s p.input.toNat = none)
  (hl : tinLocked s p.input.toNat = false) (hst : (tinOf s p.input.toNat).stuck = false)
include hs hu hl hst

/-- A TIN_CONFIG that nothing holds up runs: it programs an OFF input and starts it, or stops it. -/
theorem tinConfig_runs : ∃ t, exec (.tinConfig h p) s = .next t ∧ t.cmd = s.running h 0x0701 p.input.toNat 0 ∧
    (blkState s (Reg.TIN_CTRL p.input.toNat) = stOff → TinSettings t p.input.toNat p ∧
      (blkState s (Reg.DAC_CTRL (16 + p.input.toNat)) = stOff ∨ rdF s (Reg.DAC_CTRL (16 + p.input.toNat)) 9 8 = 2 →
        rd t (Reg.DAC_CODE (16 + p.input.toNat)) = BitVec.ofNat 32 (mvCode (16 + p.input.toNat) 2 p.thresh.toInt))) ∧
    (blkState s (Reg.TIN_CTRL p.input.toNat) ≠ stOff → blkEn t (Reg.TIN_CTRL p.input.toNat) = false ∧
      ((tinOf t p.input.toNat).cmd.bind TinCmd.p) = some p ∧ s.sameBut [.regs, .cmd, .tins] t) ∧
    s.sameBut [.regs, .cmd, .tins, .dac] t := by
  have hrun : s.sameBut [.cmd] (keepRunning s h 0x0701 p.input.toNat 0) := keepRunning_hide (h_sub := rfl) ..
  by_cases hoff : blkState s (Reg.TIN_CTRL p.input.toNat) = stOff
  · have hframe : (keepRunning s h 0x0701 p.input.toNat 0).sameBut [.regs, .tins, .dac]
        (tinProgram (keepRunning s h 0x0701 p.input.toNat 0) p.input.toNat (tinWaits h p) p) := tinProgram_hide (h_sub := rfl) ..
    have hcmd := part_of_hide hframe State.cmd fun _ => rfl
    have hp := tinOk_of_starts hs
    have hset := tinProgram_settings (c := tinWaits h p) (s := keepRunning s h 0x0701 p.input.toNat 0) hp hst hoff
    have hcode := tinProgram_code (c := tinWaits h p) (s := keepRunning s h 0x0701 p.input.toNat 0) hp hst hoff
    refine ⟨_, tinConfig_programs hs hu hl hst hoff, hcmd, fun _ => ⟨hset, hcode⟩, fun hne => absurd hoff hne, ?_⟩
    exact (hide_mono rfl hframe).trans (hide_mono rfl hrun)
  · have hframe : s.sameBut [.regs, .cmd, .tins] (writeEn (tinHeld s h p) (Reg.TIN_CTRL p.input.toNat) false) :=
      (writeEn_hide (h_sub := rfl) ..).trans ((setTin_hide (h_sub := rfl) ..).trans (hide_mono rfl hrun))
    have hpart {α : Type} (f : State → α) (hf : ∀ x, f (x.hide 2) = f x) :
        f (writeEn (tinHeld s h p) (Reg.TIN_CTRL p.input.toNat) false) = f (tinHeld s h p) :=
      part_of_hide (writeEn_hide (h_sub := rfl) ..) f hf
    refine ⟨_, tinConfig_stops hs hu hl hst hoff, hpart State.cmd fun _ => rfl, fun he => absurd he hoff,
      fun _ => ⟨blkEn_writeEn .., ?_, hframe⟩, hide_mono rfl hframe⟩
    rw [hpart (tinOf · p.input.toNat) fun _ => rfl, tinHeld, tinOf_setTin_same]
    rfl

end

/-- Settles O42: a crossing by `stamped`, a pin by what joins its changes, TIN_CONFIG by where the input stands, a settled input by
`tinDone`, a failed calibration by the work of the units that it ends. -/
theorem stampsAndPinsReachTheirConsumers : Obligations.StampsAndPinsReachTheirConsumers := by
  unfold Obligations.StampsAndPinsReachTheirConsumers
  refine ⟨fun n t falling fall s a hidle hfall ha => ⟨exec_tinStamp_ignored hfall, fun hon hsel => ⟨tinStamp_stamps hidle hfall ha hon hsel,
      fun l hl hd => ⟨_, exec_tinStamp_dead hidle hfall hon hsel hl hd, deadCounted_spec s n⟩⟩⟩,
    fun t level held s => ⟨trigInEdge_joins, trigInEdge_dropped⟩, fun t level held s hidle => ?_, fun h p s n hs hn => ?_,
    fun o n s c ho hst hc hp hr => ?_, fun n ok s => ⟨fun h => ?_, fun hok h => ?_⟩⟩
  · obtain ⟨x, hexec, hrecog, htins, hframe⟩ := gateInChange_spec hidle t level held
    exact ⟨x, hexec, fun hl hf => hrecog.trans (gateRecog_joins hl hf), fun h => hrecog.trans (congrArg State.recog (gateRecog_dropped h)),
      htins, hframe⟩
  · subst hn
    refine ⟨fun c hc => tinConfig_used hs hc, fun hu hl => tinConfig_locked hs hu hl, fun hu hl hst => tinConfig_stuck hs hu hl hst,
      fun hu hl hst => ?_⟩
    obtain ⟨t, hexec, hcmd, hset, hstop, hframe⟩ := tinConfig_runs hs hu hl hst
    refine ⟨t, hexec, hcmd, fun hoff => ?_, hstop, hframe⟩
    obtain ⟨⟨hstate, hmode, hterm, hhyst, hslope, hstamp, hofs, hedges⟩, hcode⟩ := hset hoff
    exact ⟨hstate, hmode, hterm, hhyst, hslope, hstamp, hofs, hedges, hcode⟩
  · rw [ho] at hst ⊢
    refine ⟨_, congrArg Host.Outcome.next (congrArg (settleBlock s) ho), tinSettles_spec n.isLt hst hc hp hr⟩
  · refine congrArg Host.Outcome.next (if_neg ?_)
    rcases h with h | ⟨hon, hstart⟩
    · simp [h]
    · simp [hon, hstart]
  · subst hok
    exact ⟨_, congrArg Host.Outcome.next (if_pos (by rcases h with h | h <;> simp [h])), tdcFail_spec n s⟩

end Sys2Proof.Machine

/-!
PROOF. The hands (R140, R142, R145-R147, R157, R158): what one sample comes to, and the rows that have a hand evaluate samples.
-/

namespace Sys2Proof.Machine

/-! Parts and registers of a hand -/

@[simp] theorem handOf_setHand_same (s : State) (h : Nat) (x : HandSt) : handOf (setHand s h x) h = x := tabGet_tabPut_same ..

theorem handOf_setHand_other (s : State) {h k : Nat} (x : HandSt) (hk : k ≠ h) : handOf (setHand s h x) k = handOf s k :=
  tabGet_tabPut_other _ _ _ hk _

theorem handOf_incCnt (s : State) (o n k : Nat) : handOf (incCnt s o n) k = handOf s k := rfl

/-! The row: the groups' own changes, then the samples -/

/-- The state in which the groups that arm hand `h` have made their own changes up to sample `i` (R147, R168). -/
def armsSettled (s : State) (d : DeckImage) (h : Nat) (i : Sample) : State := (bitsOf 16 (hArmGroups d h)).foldl (fun s g => settle s d g i) s

theorem measOf_handRun_armsSettled (s : State) (d : DeckImage) (h : Fin 32) (i : Sample) (m : Nat) :
    measOf (handRun d h i (armsSettled s d h i)) m = measOf s m :=
  part_of_hide ((handRun_hide (m := 136228130) (h_sub := rfl) ..).trans (hide_foldl _ (fun _ _ => settle_hide (h_sub := rfl) ..) _ _))
    (measOf · m) fun _ => rfl

/-- While no measurement runs, HAND_FIRE is the hand's evaluation alone. -/
theorem exec_handFire {s : State} {d : DeckImage} (hd : actDeck s = some d) (hm : ∀ m < 4, (measOf s m).run = none) (h : Fin 32) (i : Sample) :
    exec (.handFire h i) s = .next (handRun d h i (armsSettled s d h i)) := by
  change execHandFire h i s = _
  rw [execHandFire, hd]
  exact congrArg Host.Outcome.next (pumpAll_idle fun m hlt =>
    (congrArg MeasSt.run (measOf_handRun_armsSettled s d h i m)).trans (hm m hlt))

section
variable (d : DeckImage) (h : Fin 32) (i : Sample) (s : State)

/-- A hand out of RUN, or stopped by a parity failure, passes its samples over. -/
theorem handRun_passes (hx : (handOf (noteEval s d i) h).st ≠ .run ∨ (handOf (noteEval s d i) h).stopped = true) :
    handRun d h i s = setHand (noteEval s d i) h
      { handOf (noteEval s d i) h with next := max (handOf (noteEval s d i) h).next (i + 1) } :=
  if_pos (by simpa using hx)

/-- A hand in RUN evaluates every sample up to `i` that it has not evaluated. -/
theorem handRun_runs (hrun : (handOf (noteEval s d i) h).st = .run) (hstop : (handOf (noteEval s d i) h).stopped = false) :
    handRun d h i s = stepN (handEval d h) i (i + 1 - (handOf (noteEval s d i) h).next) (noteEval s d i) :=
  if_neg (by simp [hrun, hstop])

end

/-! One sample (R140) -/

section
variable (u : State) (d : DeckImage) (h : Fin 32) (i : Sample)

/-- Whether branch `b` of the current trick is valid and its condition pauses. -/
def branchPauses (b : Nat) : Bool := brV d h (handOf u h).trick b && (condAt u d h (handOf u h).trick i b).pause

/-- The branch counts once the valid branches whose condition holds have counted. -/
def branchCounts : List Nat := (List.range 4).map fun b =>
  let v := ((handOf u h).bc.drop b).head?.getD 0
  if brV d h (handOf u h).trick b && (condAt u d h (handOf u h).trick i b).res then min (v + 1) 0xFFFFFFFF else v

/-- Whether branch `b` is valid, its condition holds and its count, with this sample, has reached COUNT. -/
def branchDue (b : Nat) : Bool :=
  brV d h (handOf u h).trick b && (condAt u d h (handOf u h).trick i b).res &&
    decide (brCount d h (handOf u h).trick b ≤ min (((handOf u h).bc.drop b).head?.getD 0 + 1) 0xFFFFFFFF)

/-- What the trigger network takes of branch `b`, and the hand after it. -/
def branchFire (b : Nat) : Fire := fireOf u d h i b (condAt u d h (handOf u h).trick i b)
def handAfter (b : Nat) : HandSt := { fireHand u d h i b (branchCounts u d h i) (handOf u h) with next := i + 1 }

/-- The state in which the hand has moved on and the trigger network has taken branch `b` up; and the one in which it is counted too, the
flags of HAND_STATUS still to be set. -/
def branchTaken (b : Nat) : State :=
  (setHand u h (handAfter u d h i b)).modTrig fun n => { n with fires := n.fires ++ [branchFire u d h i b] }
def branchFired (b : Nat) : State :=
  wr64 (incCnt (incCnt (branchTaken u d h i b) (Reg.HAND_FIRE_CNT h) 1) (Reg.HAND_TRIG_CNT h)
    (bitsOf 16 (branchFire u d h i b).groups.toNat).length) (Reg.HAND_LAST_LO h) i

/-- The flags of HAND_STATUS that branch `b` sets: TRIG where it triggers, HALT where it halts. -/
def branchFlags (b : Nat) : Nat :=
  (if (branchFire u d h i b).groups != 0 || (branchFire u d h i b).tout then 1 else 0) + (if (handAfter u d h i b).st = .halted then 2 else 0)

def handFired (b : Nat) : State :=
  if branchFlags u d h i b = 0 then branchFired u d h i b
  else raise (branchFired u d h i b) (Reg.HAND_STATUS h) (BitVec.ofNat 32 (branchFlags u d h i b))

theorem branchDue_listed {b : Nat} (hb : b < 4) :
    decide (brV d h (handOf u h).trick b = true ∧ ((condAt u d h (handOf u h).trick i b).res &&
      decide (brCount d h (handOf u h).trick b ≤ ((branchCounts u d h i).drop b).head?.getD 0)) = true) = branchDue u d h i b := by
  simp only [branchCounts, branchDue, List.head?_drop, List.getElem?_map, List.getElem?_range hb, Option.map_some, Option.getD_some]
  cases brV d h (handOf u h).trick b <;> cases (condAt u d h (handOf u h).trick i b).res <;> simp

theorem not_any_pauses (hp : ∀ b < 4, branchPauses u d h i b = false) : ¬(List.range 4).any (branchPauses u d h i) = true := by
  simpa using hp

variable {u} (hrun : (handOf u h).st = .run) (hstop : (handOf u h).stopped = false)
include hrun hstop

theorem handEval_run : handEval d h i u =
    if (List.range 4).any (branchPauses u d h i) then
      incCnt (setHand u h { handOf u h with next := i + 1 }) (Reg.HAND_PAUSE_CNT h) 1
    else match (List.range 4).find? (branchDue u d h i) with
      | none => setHand u h { handOf u h with bc := branchCounts u d h i, next := i + 1 }
      | some b => handFired u d h i b := by
  have hcond : ∀ b < 4, (((List.range 4).map (condAt u d h (handOf u h).trick i)).drop b).head?.getD {} = condAt u d h (handOf u h).trick i b :=
    fun b hb => by simp [List.head?_drop, hb]
  have hcounts (c : Nat → Res) (hc : ∀ b < 4, c b = condAt u d h (handOf u h).trick i b) :
      (List.range 4).map (fun b => if (brV d h (handOf u h).trick b && (c b).res) = true then
        min (((handOf u h).bc.drop b).head?.getD 0 + 1) 0xFFFFFFFF else ((handOf u h).bc.drop b).head?.getD 0) = branchCounts u d h i :=
    List.map_congr_left fun b hb => by rw [hc b (List.mem_range.1 hb)]
  have hany (p q : Nat → Bool) (hpq : ∀ b < 4, p b = q b) : (List.range 4).any p = (List.range 4).any q := by
    rw [Bool.eq_iff_iff]; simp only [List.any_eq_true, List.mem_range]
    exact exists_congr fun b => and_congr_right fun hb => by rw [hpq b hb]
  unfold handEval; dsimp only
  rw [hrun, hstop, if_neg (by decide), if_neg (by decide), List.any_filter, List.find?_filter, hcounts _ hcond,
    hany _ (branchPauses u d h i) fun b hb => by rw [hcond b hb]; rfl,
    List.find?_congr (p₂ := branchDue u d h i) fun b hb => by
      rw [hcond b (List.mem_range.1 hb)]; exact branchDue_listed u d h i (List.mem_range.1 hb)]
  cases hf : (List.range 4).find? (branchDue u d h i) with
  | none => rfl
  | some b =>
    dsimp only
    rw [hcond b (List.mem_range.1 (List.mem_of_find?_eq_some hf))]
    rfl

theorem handEval_pauses (hp : ∃ b < 4, branchPauses u d h i b = true) :
    handEval d h i u = incCnt (setHand u h { handOf u h with next := i + 1 }) (Reg.HAND_PAUSE_CNT h) 1 := by
  obtain ⟨b, hb, hp⟩ := hp
  rw [handEval_run d h i hrun hstop, if_pos (List.any_eq_true.2 ⟨b, List.mem_range.2 hb, hp⟩)]

theorem handEval_counts (hp : ∀ b < 4, branchPauses u d h i b = false) (hdue : ∀ b < 4, branchDue u d h i b = false) :
    handEval d h i u = setHand u h { handOf u h with bc := branchCounts u d h i, next := i + 1 } := by
  rw [handEval_run d h i hrun hstop, if_neg (not_any_pauses u d h i hp),
    List.find?_eq_none.2 fun b hb => by simp [hdue b (List.mem_range.1 hb)]]

theorem handEval_fires (hp : ∀ b < 4, branchPauses u d h i b = false) {b : Nat} (hb : b < 4) (hdue : branchDue u d h i b = true)
    (hlow : ∀ a < b, branchDue u d h i a = false) : handEval d h i u = handFired u d h i b := by
  rw [handEval_run d h i hrun hstop, if_neg (not_any_pauses u d h i hp),
    List.find?_range_eq_some.2 ⟨hdue, List.mem_range.2 hb, fun a ha => by simp [hlow a ha]⟩]

end

/-! The hand after a branch has fired (R145, R146) -/

/-- HT under an action at a sample of grid time `t` (Table 6-4). -/
def htOp (op : Nat) (t : Time) (ht : Option Time) : Option Time :=
  match op with
  | 1 => some (ht.getD t)
  | 2 => some t
  | 3 => none
  | _ => ht

theorem htOp_eq (op : Nat) (t : Time) (ht : Option Time) : htOp op t ht =
    if op = 1 then (match ht with | some a => some a | none => some t) else if op = 2 then some t else if op = 3 then none else ht := by
  match op with
  | 0 | 2 | 3 | _ + 4 => rfl
  | 1 => cases ht <;> rfl

section
variable (u : State) (d : DeckImage) (h : Fin 32) (i b : Nat)

theorem handAfter_trick : (handAfter u d h i b).trick =
    if nbits (brFlow d h (handOf u h).trick b) 4 0 = 16 then (handOf u h).trick else nbits (brFlow d h (handOf u h).trick b) 4 0 := by
  simp only [handAfter, fireHand]; split <;> rfl

theorem handAfter_bc (hnext : nbits (brFlow d h (handOf u h).trick b) 4 0 ≠ 16) : (handAfter u d h i b).bc = [0, 0, 0, 0] := by
  simp only [handAfter, fireHand, if_neg hnext]

theorem handAfter_st : (handAfter u d h i b).st = if nbit (brFlow d h (handOf u h).trick b) 5 then .halted else (handOf u h).st := by
  simp only [handAfter, fireHand]; split <;> rfl

theorem handAfter_flags : (handAfter u d h i b).flags = flagOp (brAct d h (handOf u h).trick b) (handOf u h).flags := by
  simp only [handAfter, fireHand]; split <;> rfl

theorem handAfter_hc0 : (handAfter u d h i b).hc0 = hcOp (nbits (brAct d h (handOf u h).trick b) 26 25) (handOf u h).hc0 := by
  simp only [handAfter, fireHand]; split <;> rfl

theorem handAfter_hc1 : (handAfter u d h i b).hc1 = hcOp (nbits (brAct d h (handOf u h).trick b) 28 27) (handOf u h).hc1 := by
  simp only [handAfter, fireHand]; split <;> rfl

theorem handAfter_ht : (handAfter u d h i b).ht = htOp (nbits (brAct d h (handOf u h).trick b) 30 29) (gridT u i) (handOf u h).ht := by
  simp only [handAfter, fireHand, htOp_eq]; split <;> rfl

theorem handAfter_next : (handAfter u d h i b).next = i + 1 := rfl

/-! The state after a branch has fired: the parts, the counters and HAND_LAST -/

/-- Of the registers, HAND_STATUS and PCIE_STATUS alone differ where flags are raised; of the parts, the registers and the PCIe interface. -/
theorem handFired_flags : (branchFired u d h i b).regsBut [Reg.HAND_STATUS h, Reg.PCIE_STATUS] (handFired u d h i b) ∧
    (branchFired u d h i b).sameBut [.regs, .pcie] (handFired u d h i b) := by
  unfold handFired
  split
  · exact ⟨regsBut_refl _ _, rfl⟩
  · exact ⟨regsBut_raise _ _ _, raise_hide (h_sub := rfl) ..⟩

theorem handFired_sameBut : u.sameBut [.regs, .pcie, .hands, .trig] (handFired u d h i b) := by
  have hcounted : (branchTaken u d h i b).sameBut [.regs] (branchFired u d h i b) :=
    (wr64_hide (h_sub := rfl) ..).trans ((incCnt_hide (h_sub := rfl) ..).trans (incCnt_hide (h_sub := rfl) ..))
  have htaken : u.sameBut [.hands, .trig] (branchTaken u d h i b) := (hide_modTrig _ _ rfl).trans (setHand_hide (h_sub := rfl) ..)
  exact (hide_mono rfl (handFired_flags u d h i b).2).trans ((hide_mono rfl hcounted).trans (hide_mono rfl htaken))

theorem handFired_hands : (handFired u d h i b).hands = (setHand u h (handAfter u d h i b)).hands :=
  part_of_hide (handFired_flags u d h i b).2 State.hands fun _ => rfl

theorem handFired_trig : (handFired u d h i b).trig = { u.trig with fires := u.trig.fires ++ [branchFire u d h i b] } :=
  part_of_hide (handFired_flags u d h i b).2 State.trig fun _ => rfl

theorem handOf_handFired_same : handOf (handFired u d h i b) h = handAfter u d h i b := by
  rw [handOf, handFired_hands]; exact handOf_setHand_same ..

theorem handOf_handFired_other {k : Nat} (hk : k ≠ h) : handOf (handFired u d h i b) k = handOf u k := by
  rw [handOf, handFired_hands]; exact handOf_setHand_other _ _ hk

theorem handFired_fireCnt : rd (handFired u d h i b) (Reg.HAND_FIRE_CNT h) = satAdd (rd u (Reg.HAND_FIRE_CNT h)) 1 := by
  have hoff : ¬(0x200 ≤ Reg.HAND_FIRE_CNT h ∧ Reg.HAND_FIRE_CNT h < 0x1000) := by unfold Reg.HAND_FIRE_CNT; omega
  rw [(handFired_flags u d h i b).1.rd (by simp [Reg.HAND_FIRE_CNT, Reg.HAND_STATUS, Reg.PCIE_STATUS]; omega) hoff, branchFired,
    (regsBut_wr64 _ _ _).rd (by simp [Reg.HAND_FIRE_CNT, Reg.HAND_LAST_LO]; omega) hoff,
    (regsBut_incCnt _ _ _).rd (by simp [Reg.HAND_FIRE_CNT, Reg.HAND_TRIG_CNT]) hoff, rd_incCnt]
  rfl

theorem handFired_last : rd64 (handFired u d h i b) (Reg.HAND_LAST_LO h) = i % 2 ^ 64 := by
  rw [(handFired_flags u d h i b).1.rd64 (by simp [Reg.HAND_LAST_LO, Reg.HAND_STATUS, Reg.PCIE_STATUS]; omega)
    (by simp [Reg.HAND_LAST_LO, Reg.HAND_STATUS, Reg.PCIE_STATUS]; omega) (by unfold Reg.HAND_LAST_LO; omega)]
  exact rd64_wr64_same ..

end

/-! HAND_TIMER_EXPIRY and HAND_PARITY (R142, R157, R158) -/

section
variable {s : State} {d : DeckImage} (hd : actDeck s = some d) (h : Fin 32)
include hd

theorem exec_handTimerExpiry_stopped (i : Sample) (ht : (handOf s h).ht = none) : exec (.handTimerExpiry h i) s = .next s := by
  change execHandTimerExpiry h i s = _
  simp only [execHandTimerExpiry, hd, ht]

theorem exec_handTimerExpiry_running (i : Sample) {a : Time} (ht : (handOf s h).ht = some a) :
    exec (.handTimerExpiry h i) s = if a + nsT (hHtLimit d h) ≤ gridT s i then exec (.handFire h i) s else .next s := by
  have hfire : exec (.handFire h i) s = .next (handTo s d h i) := by
    change execHandFire h i s = _
    rw [execHandFire, hd]
  rw [hfire]
  change execHandTimerExpiry h i s = _
  simp only [execHandTimerExpiry, hd, ht, expired, decide_eq_true_eq]

theorem exec_handParity : exec (.handParity h) s = .next (handParity h s d) := by
  change execHandParity h s = _
  rw [execHandParity, hd]

end

section
variable (s : State) (d : DeckImage) (h : Fin 32)

/-- The state in which hand `h` has evaluated its samples up to now. -/
def handCaughtUp : State := if (handOf s h).next < handCount s then handRun d h (handCount s - 1) s else s

theorem now_handCaughtUp : now (handCaughtUp s d h) = s.tb.now := by
  unfold handCaughtUp
  split
  · exact part_of_hide (handRun_hide (m := 426242) (h_sub := rfl) ..) now fun _ => rfl
  · rfl

/-- The hand's first parity failure within a second, and one more (R158). -/
def parityStop (u : State) (t : Time) : State :=
  raiseErr (setHand u h { handOf u h with stopped := true, lastFail := some t }) (Reg.HAND_STATUS h) 2 2 (0x0410 + h) h
def parityFault (u : State) (t : Time) : State :=
  logError (raise (setHand u h { handOf u h with st := .fault, lastFail := some t }) (Reg.HAND_STATUS h) 0xC) (Reg.HAND_STATUS h) 3 3
    (0x0410 + h) h

variable {d h}

theorem handParity_none (hx : hEn d h = false ∨ (handOf (handCaughtUp s d h) h).st = .fault) : handParity h s d = s :=
  if_pos (by simpa [handCaughtUp] using hx)

/-- Whether the last failure came less than `w` before `t`. -/
def failedWithin (last : Option Time) (t w : Time) : Bool := (last.map fun f => decide (t < f + w)).getD false

theorem failedWithin_eq_false {last : Option Time} {t w : Time} (hlast : ∀ f, last = some f → f + w ≤ t) : failedWithin last t w = false := by
  cases last with
  | none => rfl
  | some f => simpa [failedWithin] using hlast f rfl

theorem failedWithin_some {f t w : Time} (hlt : t < f + w) : failedWithin (some f) t w = true := by simpa [failedWithin] using hlt

variable {s} (hen : hEn d h = true) (hst : (handOf (handCaughtUp s d h) h).st ≠ .fault)
include hen hst

theorem handParity_eq : handParity h s d =
    if failedWithin (handOf (handCaughtUp s d h) h).lastFail s.tb.now (nsT 1000000000) then
      parityFault h (handCaughtUp s d h) s.tb.now
    else parityStop h (handCaughtUp s d h) s.tb.now := by
  rw [← now_handCaughtUp s d h]
  exact if_neg (by simpa [hen, handCaughtUp] using hst)

theorem handParity_stops (hlast : ∀ t, (handOf (handCaughtUp s d h) h).lastFail = some t → t + nsT 1000000000 ≤ s.tb.now) :
    handParity h s d = parityStop h (handCaughtUp s d h) s.tb.now := by
  rw [handParity_eq hen hst, failedWithin_eq_false hlast]; rfl

theorem handParity_faults {f : Time} (hf : (handOf (handCaughtUp s d h) h).lastFail = some f) (hlt : s.tb.now < f + nsT 1000000000) :
    handParity h s d = parityFault h (handCaughtUp s d h) s.tb.now := by
  rw [handParity_eq hen hst, hf, failedWithin_some hlt]; rfl

end

section
variable (u : State) (h : Fin 32) (t : Time)

theorem offTree_handStatus : ¬(0x200 ≤ Reg.HAND_STATUS h ∧ Reg.HAND_STATUS h < 0x1000) := by unfold Reg.HAND_STATUS; omega

theorem handStatus_ne_pcieStatus : Reg.HAND_STATUS h ≠ Reg.PCIE_STATUS := by unfold Reg.HAND_STATUS Reg.PCIE_STATUS; omega

/-- A hand with its flags raised and their error logged. -/
theorem parityStop_spec : handOf (parityStop h u t) h = { handOf u h with stopped := true, lastFail := some t } ∧
    flagSet (parityStop h u t) (Reg.HAND_STATUS h) 2 = true ∧ (parityStop h u t).newestLog.map LogEntry.cls = some 2 ∧
    u.sameBut [.regs, .pcie, .log, .hands] (parityStop h u t) := by
  refine ⟨?_, flagSet_raiseErr _ _ _ _ _ _ (by decide) (offTree_handStatus h) (handStatus_ne_pcieStatus h), rfl,
    (raiseErr_hide (h_sub := rfl) ..).trans (setHand_hide (h_sub := rfl) ..)⟩
  exact (part_of_hide (raiseErr_hide (m := 1282) (h_sub := rfl) ..) (handOf · h) fun _ => rfl).trans (handOf_setHand_same ..)

theorem parityFault_spec : handOf (parityFault h u t) h = { handOf u h with st := .fault, lastFail := some t } ∧
    flagSet (parityFault h u t) (Reg.HAND_STATUS h) 3 = true ∧ (parityFault h u t).newestLog.map LogEntry.cls = some 3 ∧
    u.sameBut [.regs, .pcie, .log, .hands] (parityFault h u t) := by
  refine ⟨?_, ?_, rfl, (logError_hide (h_sub := rfl) ..).trans ((raise_hide (h_sub := rfl) ..).trans (setHand_hide (h_sub := rfl) ..))⟩
  · exact (raise_part _ _ _ (handOf · h) fun _ => rfl).trans (handOf_setHand_same ..)
  · exact (flagSet_raise (setHand u h _) _ 0xC 3 (by decide) (offTree_handStatus h) (handStatus_ne_pcieStatus h)).trans (Bool.or_true _)

end

/-- Settles O34: the row by the hand's evaluation, one sample by what `handEval` comes to, a parity failure by whether one came within a
second. -/
theorem handFiresItsLowestBranch : Obligations.HandFiresItsLowestBranch := by
  unfold Obligations.HandFiresItsLowestBranch
  refine ⟨fun h i s a u d x met hd ha hu hx hm hmet => ?_, fun h i s d hd => ⟨exec_handTimerExpiry_stopped hd h i,
    fun a => exec_handTimerExpiry_running hd h i⟩, fun h s u d hd hu => ?_⟩
  · have hexec : exec (.handFire h i) s = .next (handRun d h i a) := by rw [exec_handFire hd hm, ha]; rfl
    subst hu hx
    have hdue : met = branchDue (noteEval a d i) d h i := funext hmet
    subst hdue
    rw [hexec]
    refine ⟨fun hout => ⟨_, congrArg _ (handRun_passes d h i a hout), handOf_setHand_same .., setHand_hide (h_sub := rfl) ..⟩,
      fun hrun hstop => congrArg _ (handRun_runs d h i a hrun hstop), fun hnext hrun hstop => ?_⟩
    have hone : handRun d h i a = handEval d h i (noteEval a d i) := by
      rw [handRun_runs d h i a hrun hstop, hnext, Nat.add_sub_cancel_left]; rfl
    rw [hone]
    refine ⟨fun ⟨b, hb, hv, hpause⟩ => ?_, fun hpause => ?_⟩
    · exact ⟨_, congrArg _ (handEval_pauses d h i hrun hstop ⟨b, hb, by simp [branchPauses, hv, hpause]⟩),
        (handOf_incCnt ..).trans (handOf_setHand_same ..), rd_incCnt .., (incCnt_hide (h_sub := rfl) ..).trans (setHand_hide (h_sub := rfl) ..)⟩
    · have hp : ∀ b < 4, branchPauses (noteEval a d i) d h i b = false := fun b hb => by
        by_cases hv : brV d h (handOf (noteEval a d i) h).trick b = true <;> simp [branchPauses, hv, hpause b hb]
      refine ⟨fun hnone => ⟨_, congrArg _ (handEval_counts d h i hrun hstop hp hnone), handOf_setHand_same .., setHand_hide (h_sub := rfl) ..⟩,
        fun b hb hmet hlow => ?_⟩
      refine ⟨_, congrArg _ (handEval_fires d h i hrun hstop hp hb hmet hlow), ?_⟩
      rw [handOf_handFired_same]
      refine ⟨handAfter_trick .., fun hne => handAfter_bc _ _ _ _ _ hne, by rw [handAfter_st, hrun], handAfter_flags ..,
        handAfter_hc0 .., handAfter_hc1 .., handAfter_ht .., handAfter_next .., handFired_trig .., handFired_fireCnt .., handFired_last ..,
        fun k hk => handOf_handFired_other _ _ _ _ _ hk, handFired_sameBut ..⟩
  · subst hu
    rw [exec_handParity hd]
    refine ⟨fun hx => congrArg _ (handParity_none s hx), fun hen hst => ⟨fun hlast => ?_, fun f hf hlt => ?_⟩⟩
    · exact ⟨_, congrArg _ (handParity_stops hen hst hlast), parityStop_spec ..⟩
    · exact ⟨_, congrArg _ (handParity_faults hen hst hf hlt), parityFault_spec ..⟩

end Sys2Proof.Machine

/-!
PROOF. Triggers that meet a group (R148, R149, R156, R170, R174): what accepting and ignoring change, and how a forced trigger's command
learns of it.
-/

namespace Sys2Proof.Machine

/-! FORCE_TRIGGER -/

theorem exec_forceTrigger {s : State} {h : CmdHdr} {groups : BitVec 16} (sf : Sample) (hs : s.starts h (forceTriggerChecks h groups s)) :
    exec (.forceTrigger h groups sf) s = .next (forceBody h groups sf s) := next_startCmd hs

/-! A group that makes no change of its own -/

theorem groupDone_iff {s : State} {g : Nat} : groupDone s g = true ↔
    (grpOf s g).st = .idle ∨ (grpOf s g).st = .stopped ∨ (grpOf s g).st = .stoppedOvf := by
  unfold groupDone
  cases (grpOf s g).st <;> simp

theorem ownChange_still {s : State} (d : DeckImage) {g : Nat} (i : Sample) (h : (grpOf s g).st = .armed ∨ groupDone s g = true) :
    ownChange s d g i = s := by
  rw [groupDone_iff] at h
  unfold ownChange; dsimp only
  rcases h with h | h | h | h <;> rw [h]

theorem settle_still {s : State} (d : DeckImage) {g : Nat} (i : Sample) (h : (grpOf s g).st = .armed ∨ groupDone s g = true) :
    settle s d g i = s := by
  unfold settle; rw [ownChange_still d i h, ownChange_still d i h, ownChange_still d i h]

/-! Accepting (R170, R174) -/

section
variable {s : State} (d : DeckImage) (g : Nat) (i : Sample) (cause : Option Fire) (forced : Bool) {seg : SegSt}

/-- The segment with its trigger. -/
def SegSt.triggered (s : State) (d : DeckImage) (g : Nat) (i : Sample) (cause : Option Fire) (forced : Bool) (seg : SegSt) : SegSt :=
  { seg with
    trig := some i, trigTime := BitVec.ofNat 96 (trigWord s cause i), forced := forced
    preShort := (grpOf s g).st == .prefill && decide (i < seg.epoch + gPre d g)
    post := (grpOf s g).post, postEnd := i + (grpOf s g).post }

/-- The group with its trigger. -/
def groupTriggered (s : State) (d : DeckImage) (g : Nat) (i : Sample) (cause : Option Fire) (forced : Bool) (seg : SegSt) : GroupSt :=
  { grpOf s g with
    st := .post, seg := some (seg.triggered s d g i cause forced), ignored := 0, holdEnd := holdStart s d g i }

/-- The state with the trigger in the group and in its registers. -/
def triggerNoted (s : State) (d : DeckImage) (g : Nat) (i : Sample) (cause : Option Fire) (forced : Bool) (seg : SegSt) : State :=
  raiseBit (wr64 (setGrp s g (groupTriggered s d g i cause forced seg)) (Reg.FOLD_GRP_TRIG_LO g) i) (Reg.FOLD_GRP_STATUS g) 0

theorem acceptAt_eq (hseg : (grpOf s g).seg = some seg) : acceptAt s d g i cause forced =
    (triggerNoted s d g i cause forced seg).modTrig fun t =>
      { t with accepted := t.accepted ++ [{ group := Fin.ofNat 16 g, sample := i, forced := forced }] } := by
  unfold acceptAt; dsimp only
  rw [hseg]; rfl

variable (hseg : (grpOf s g).seg = some seg)
include hseg

theorem grpOf_acceptAt : grpOf (acceptAt s d g i cause forced) g = groupTriggered s d g i cause forced seg := by
  rw [acceptAt_eq d g i cause forced hseg]
  exact (raiseBit_part _ _ _ (grpOf · g) fun _ => rfl).trans (grpOf_setGrp_same ..)

theorem acceptAt_trig : (acceptAt s d g i cause forced).trig =
    { s.trig with accepted := s.trig.accepted ++ [{ group := Fin.ofNat 16 g, sample := i, forced := forced }] } := by
  have htrig : (triggerNoted s d g i cause forced seg).trig = s.trig := raiseBit_part _ _ _ State.trig fun _ => rfl
  rw [acceptAt_eq d g i cause forced hseg, State.modTrig_trig, htrig]

theorem acceptAt_cmd : (acceptAt s d g i cause forced).cmd = s.cmd := by
  rw [acceptAt_eq d g i cause forced hseg]
  exact raiseBit_cmd ..

theorem acceptAt_regsBut : s.regsBut [Reg.FOLD_GRP_TRIG_LO g, Reg.FOLD_GRP_TRIG_LO g + 4, Reg.FOLD_GRP_STATUS g, Reg.PCIE_STATUS]
    (acceptAt s d g i cause forced) := by
  rw [acceptAt_eq d g i cause forced hseg]
  exact regsBut_trans (regsBut_mono (by simp) (regsBut_wr64 (setGrp s g _) (Reg.FOLD_GRP_TRIG_LO g) i))
    (regsBut_mono (by simp) (regsBut_raiseBit _ _ 0))

theorem acceptAt_trigReg : rd64 (acceptAt s d g i cause forced) (Reg.FOLD_GRP_TRIG_LO g) = i % 2 ^ 64 := by
  rw [acceptAt_eq d g i cause forced hseg]
  exact ((regsBut_raiseBit _ (Reg.FOLD_GRP_STATUS g) 0).rd64
    (by simp [Reg.FOLD_GRP_TRIG_LO, Reg.FOLD_GRP_STATUS, Reg.PCIE_STATUS]; omega)
    (by simp [Reg.FOLD_GRP_TRIG_LO, Reg.FOLD_GRP_STATUS, Reg.PCIE_STATUS]; omega)
    (by unfold Reg.FOLD_GRP_TRIG_LO; omega)).trans (rd64_wr64_same ..)

theorem acceptAt_flag : flagSet (acceptAt s d g i cause forced) (Reg.FOLD_GRP_STATUS g) 0 = true := by
  rw [acceptAt_eq d g i cause forced hseg]
  exact flagSet_raiseBit _ _ _ (by decide) (by unfold Reg.FOLD_GRP_STATUS; omega) (by unfold Reg.FOLD_GRP_STATUS Reg.PCIE_STATUS; omega)

end

/-! Ignoring (R149, R174) -/

section
variable (s : State) (d : DeckImage) (g : Nat) (i : Sample)

/-- A group that ignores a trigger keeps its state and its segment; one outside POST and HOLDOFF keeps all. -/
theorem ignoreAt_cases : ignoreAt s d g i = incCnt s (Reg.TRIG_GRP_IGN g) 1 ∨
    ((grpOf s g).st = .post ∨ (grpOf s g).st = .holdoff) ∧ ∃ n e, ignoreAt s d g i =
      setGrp (incCnt s (Reg.TRIG_GRP_IGN g) 1) g { grpOf s g with ignored := n, holdEnd := e } := by
  unfold ignoreAt; dsimp only
  split
  · next h => exact .inr ⟨h.1, _, _, rfl⟩
  · exact .inl rfl

theorem grpOf_ignoreAt_st : (grpOf (ignoreAt s d g i) g).st = (grpOf s g).st ∧ (grpOf (ignoreAt s d g i) g).seg = (grpOf s g).seg := by
  rcases ignoreAt_cases s d g i with h | ⟨-, n, e, h⟩
  · rw [h]; exact ⟨rfl, rfl⟩
  · rw [h, grpOf_setGrp_same]; exact ⟨rfl, rfl⟩

theorem grpOf_ignoreAt_done (hdone : groupDone s g = true) : grpOf (ignoreAt s d g i) g = grpOf s g := by
  rcases ignoreAt_cases s d g i with h | ⟨hst, n, e, h⟩
  · rw [h]; rfl
  · rcases hst with hst | hst <;> simp [groupDone, hst] at hdone

theorem ignoreAt_regs : (ignoreAt s d g i).regs = (incCnt s (Reg.TRIG_GRP_IGN g) 1).regs := by
  rcases ignoreAt_cases s d g i with h | ⟨-, n, e, h⟩
  · rw [h]
  · rw [h]; rfl

theorem ignoreAt_trig : (ignoreAt s d g i).trig = s.trig := part_of_hide (ignoreAt_hide (m := 524290) (h_sub := rfl) ..) State.trig fun _ => rfl

theorem ignoreAt_cmd : (ignoreAt s d g i).cmd = s.cmd := part_of_hide (ignoreAt_hide (m := 524290) (h_sub := rfl) ..) State.cmd fun _ => rfl

end

/-! What the forces that met the group learn (R156) -/

/-- The force once group `g` has decided. -/
def Force.decided (g : Nat) (acc : Bool) (f : Force) : Force :=
  { f with
    groups := f.groups &&& ~~~BitVec.ofNat 16 (2 ^ g)
    accepted := if acc then f.accepted ||| BitVec.ofNat 16 (2 ^ g) else f.accepted }

section
variable (s : State) (g : Nat) (i : Sample) (acc : Bool)

/-- The forces after the group's decision at sample `i`. -/
def forcesDecided : List Force :=
  s.trig.forces.map fun f => if f.sample == i && nbit f.groups.toNat g then f.decided g acc else f

theorem resolveForces_eq : resolveForces s g i acc =
    (((forcesAt s g i).map (Force.decided g acc)).filter fun f => f.groups == 0).foldl
      (fun s f => endRun s f.ring f.cid cOk f.accepted.toNat f.sample)
      (s.modTrig fun t => { t with forces := forcesDecided s g i acc }) := by
  have hmap : (forcesAt s g i).map (Force.decided g acc) =
      (forcesAt s g i).map fun f => if f.sample == i && nbit f.groups.toNat g then f.decided g acc else f :=
    List.map_congr_left fun f hf => (if_pos (List.mem_filter.1 hf).2).symm
  rw [hmap]; rfl

theorem resolveForces_part {α : Type} (p : State → α) (hp : ∀ x, p (x.hide 1152) = p x) :
    p (resolveForces s g i acc) = p (s.modTrig fun t => { t with forces := forcesDecided s g i acc }) := by
  rw [resolveForces_eq]
  exact part_of_hide (hide_foldl _ (fun _ _ => endRun_hide (h_sub := rfl) ..) _ _) p hp

variable {s g i} {u : State} (hc : s.cmd = u.cmd)
include hc

theorem resolveForces_none (h : forcesAt s g i = []) : (resolveForces s g i acc).cmd = u.cmd := by
  rw [resolveForces_eq, h]; exact hc

/-- A force that named this group alone completes with the groups that accepted. -/
theorem resolveForces_one {f : Force} (h : forcesAt s g i = [f]) (hg : f.groups = BitVec.ofNat 16 (2 ^ g)) (hr : u.runs f.ring f.cid 0x0303) :
    (resolveForces s g i acc).cmd =
      u.ending f.ring f.cid cOk (if acc then f.accepted ||| f.groups else f.accepted).toNat f.sample := by
  have hdone : ((f.decided g acc).groups == 0) = true := by simp [Force.decided, hg]
  rw [resolveForces_eq, h, List.map_singleton, List.filter_singleton, hdone, cond_true, hg]
  exact endRun_cmd_of_cmd (t := s.modTrig fun t => { t with forces := forcesDecided s g i acc }) hc cOk _ f.sample hr

end

/-! TRIGGER_ACCEPT -/

/-- Whether a group accepts (R170): in ARMED, or in PREFILL where a force has ANYFILL. -/
def groupAccepts (u : State) (g : Nat) (i : Sample) : Bool :=
  (grpOf u g).st == .armed || ((grpOf u g).st == .prefill && (forcesAt u g i).any Force.anyfill)

theorem groupAccepts_iff {u : State} {g : Nat} {i : Sample} : groupAccepts u g i = true ↔
    (grpOf u g).st = .armed ∨ (grpOf u g).st = .prefill ∧ ∃ f ∈ forcesAt u g i, f.anyfill = true := by
  simp [groupAccepts]

/-- The state in which the sample's trigger has been presented to the group. -/
def triggerPresented (u : State) (g : Nat) (i : Sample) : State := u.modTrig fun t => { t with presented := (g, i) :: t.presented }

/-- The state once the group has accepted the trigger, and the one once it has ignored it, the forces still to learn of it. -/
def groupTakes (u : State) (d : DeckImage) (g : Nat) (i : Sample) : State :=
  acceptAt (triggerPresented u g i) d g i (causeOf (firesAt u d g i)) (!(forcesAt u g i).isEmpty)
def groupIgnores (u : State) (d : DeckImage) (g : Nat) (i : Sample) : State := ignoreAt (triggerPresented u g i) d g i

theorem exec_triggerAccept {s : State} {d : DeckImage} (hd : actDeck s = some d) (g : Fin 16) (i : Sample) :
    exec (.triggerAccept g i) s = .next (triggerAccept g i s d) := by
  change execTriggerAccept g i s = _
  rw [execTriggerAccept, hd]

section
variable {s : State} {d : DeckImage} {g : Nat} {i : Sample}

theorem triggerAccept_none (h : (firesAt (settle s d g i) d g i = [] ∧ forcesAt (settle s d g i) g i = []) ∨
    (settle s d g i).trig.presented.contains (g, i) = true) : triggerAccept g i s d = settle s d g i := by
  refine if_pos ?_
  rcases h with ⟨hfires, hforces⟩ | h
  · rw [hfires, hforces]; rfl
  · rw [h, Bool.or_true]

variable (hnew : (settle s d g i).trig.presented.contains (g, i) = false)
  (h : firesAt (settle s d g i) d g i ≠ [] ∨ forcesAt (settle s d g i) g i ≠ [])
include hnew h

theorem triggerAccept_decides : triggerAccept g i s d =
    resolveForces (if groupAccepts (settle s d g i) g i then groupTakes (settle s d g i) d g i else groupIgnores (settle s d g i) d g i)
      g i (groupAccepts (settle s d g i) g i) := by
  refine if_neg ?_
  rw [hnew]
  rcases h with h | h <;> simp [h]

theorem triggerAccept_accepts (hacc : groupAccepts (settle s d g i) g i = true) :
    triggerAccept g i s d = resolveForces (groupTakes (settle s d g i) d g i) g i true := by
  rw [triggerAccept_decides hnew h, hacc]; rfl

theorem triggerAccept_ignores (hacc : groupAccepts (settle s d g i) g i = false) :
    triggerAccept g i s d = resolveForces (groupIgnores (settle s d g i) d g i) g i false := by
  rw [triggerAccept_decides hnew h, hacc]; rfl

end

/-! A group that accepts -/

section
variable {u : State} (d : DeckImage) {g : Nat} {i : Sample}

theorem taken_sameBut : u.sameBut [.regs, .cmd, .pcie, .log, .trig, .folds] (resolveForces (groupTakes u d g i) g i true) :=
  (resolveForces_hide (h_sub := rfl) ..).trans ((acceptAt_hide (h_sub := rfl) ..).trans (hide_modTrig _ _ rfl))

variable {seg : SegSt} (hseg : (grpOf u g).seg = some seg)
include hseg

theorem forcesAt_groupTakes : forcesAt (groupTakes u d g i) g i = forcesAt u g i := by
  rw [forcesAt, groupTakes, acceptAt_trig d g i _ _ (s := triggerPresented u g i) hseg]; rfl

theorem grpOf_taken : grpOf (resolveForces (groupTakes u d g i) g i true) g =
    groupTriggered (triggerPresented u g i) d g i (causeOf (firesAt u d g i)) (!(forcesAt u g i).isEmpty) seg :=
  (resolveForces_part _ _ _ _ (grpOf · g) fun _ => rfl).trans (grpOf_acceptAt (s := triggerPresented u g i) d g i _ _ hseg)

theorem taken_trigReg : rd64 (resolveForces (groupTakes u d g i) g i true) (Reg.FOLD_GRP_TRIG_LO g) = i % 2 ^ 64 :=
  (resolveForces_part _ _ _ _ (rd64 · _) fun _ => rfl).trans (acceptAt_trigReg (s := triggerPresented u g i) d g i _ _ hseg)

theorem taken_flag : flagSet (resolveForces (groupTakes u d g i) g i true) (Reg.FOLD_GRP_STATUS g) 0 = true :=
  (resolveForces_part _ _ _ _ (flagSet · _ 0) fun _ => rfl).trans (acceptAt_flag (s := triggerPresented u g i) d g i _ _ hseg)

theorem taken_accepted : (resolveForces (groupTakes u d g i) g i true).trig.accepted =
    u.trig.accepted ++ [{ group := Fin.ofNat 16 g, sample := i, forced := !(forcesAt u g i).isEmpty }] := by
  rw [resolveForces_part _ _ _ _ State.trig fun _ => rfl, State.modTrig_trig, groupTakes,
    acceptAt_trig (s := triggerPresented u g i) d g i _ _ hseg]
  rfl

theorem groupTakes_cmd : (groupTakes u d g i).cmd = u.cmd := acceptAt_cmd (s := triggerPresented u g i) d g i _ _ hseg

theorem taken_regsBut :
    u.regsBut [Reg.FOLD_GRP_TRIG_LO g, Reg.FOLD_GRP_TRIG_LO g + 4, Reg.FOLD_GRP_STATUS g, Reg.PCIE_STATUS]
      (resolveForces (groupTakes u d g i) g i true) :=
  regsBut_trans (t := groupTakes u d g i) (acceptAt_regsBut (s := triggerPresented u g i) d g i _ _ hseg)
    (regsBut_of_eq (resolveForces_part _ _ _ _ State.regs fun _ => rfl))

end

/-! A group that ignores the trigger -/

section
variable (u : State) (d : DeckImage) (g : Nat) (i : Sample)

theorem forcesAt_groupIgnores : forcesAt (groupIgnores u d g i) g i = forcesAt u g i := by
  rw [forcesAt, groupIgnores, ignoreAt_trig]; rfl

theorem grpOf_ignored : grpOf (resolveForces (groupIgnores u d g i) g i false) g = grpOf (groupIgnores u d g i) g :=
  resolveForces_part _ _ _ _ (grpOf · g) fun _ => rfl

theorem groupIgnores_cmd : (groupIgnores u d g i).cmd = u.cmd := ignoreAt_cmd ..

theorem ignored_regs : (resolveForces (groupIgnores u d g i) g i false).regs = (incCnt u (Reg.TRIG_GRP_IGN g) 1).regs :=
  (resolveForces_part _ _ _ _ State.regs fun _ => rfl).trans (ignoreAt_regs ..)

theorem ignored_sameBut : u.sameBut [.regs, .cmd, .log, .trig, .folds] (resolveForces (groupIgnores u d g i) g i false) :=
  (resolveForces_hide (h_sub := rfl) ..).trans ((ignoreAt_hide (h_sub := rfl) ..).trans (hide_modTrig _ _ rfl))

end

/-- Settles O28: FORCE_TRIGGER by what a command that starts does, TRIGGER_ACCEPT by whether the group has a trigger to meet and by
whether it accepts. -/
theorem forcedTriggerIsPresented : Obligations.ForcedTriggerIsPresented := by
  unfold Obligations.ForcedTriggerIsPresented
  refine ⟨fun h groups sf s hs => ⟨_, exec_forceTrigger sf hs, rfl, rfl, forceBody_hide (h_sub := rfl) ..⟩, fun g i s u d hd hu => ?_⟩
  subst hu
  rw [exec_triggerAccept hd]
  refine ⟨settle_still d i, fun h => congrArg _ (triggerAccept_none h), fun hnew h => ⟨fun seg hseg hacc => ?_, fun harmed hfill => ?_⟩⟩
  · have hcmd := groupTakes_cmd d (i := i) hseg
    have hforces := forcesAt_groupTakes d (i := i) hseg
    refine ⟨_, congrArg _ (triggerAccept_accepts hnew h (groupAccepts_iff.2 hacc)), by rw [grpOf_taken d hseg]; rfl,
      by rw [grpOf_taken d hseg]; rfl, taken_trigReg d hseg, taken_flag d hseg, ?_, fun hnone => resolveForces_none true hcmd (hforces.trans hnone),
      fun f hf hg hr => resolveForces_one true hcmd (hforces.trans hf) hg hr, taken_sameBut d, taken_regsBut d hseg⟩
    rw [taken_accepted d hseg, Fin.ofNat_val_eq_self]
  · have hcmd := groupIgnores_cmd (settle s d g i) d g i
    have hforces := forcesAt_groupIgnores (settle s d g i) d g i
    have hregs := ignored_regs (settle s d g i) d g i
    obtain ⟨hst, hsegs⟩ := grpOf_ignoreAt_st (triggerPresented (settle s d g i) g i) d g i
    refine ⟨_, congrArg _ (triggerAccept_ignores hnew h (Bool.eq_false_iff.2 fun hacc => (groupAccepts_iff.1 hacc).elim harmed hfill)),
      by rw [grpOf_ignored]; exact hst, by rw [grpOf_ignored]; exact hsegs,
      fun hdone => by rw [grpOf_ignored]; exact grpOf_ignoreAt_done _ d g i hdone,
      (congrArg (rdR · _) hregs).trans (rd_incCnt ..), fun hnone => resolveForces_none false hcmd (hforces.trans hnone),
      fun f hf hg hr => resolveForces_one false hcmd (hforces.trans hf) hg hr, ignored_sameBut .., ?_⟩
    exact regsBut_trans (regsBut_incCnt _ _ 1) (regsBut_of_eq hregs)

end Sys2Proof.Machine

/-!
PROOF. Trigger records and TRIG_OUT (R150-R152, R154-R156, R160): a record lands as one line of its group's queue.
-/

namespace Sys2Proof.Machine

/-! An item at a queue that nothing else has written (R395, R397) -/

/-- A queue in which `owner` alone is part-way through its first line, with the words `ws` (newest first). -/
def eqBegun (owner : BitVec 12) : List Word → EqSt
  | [] => {}
  | ws => { opens := [{ owner := owner, words := ws }] }

/-- A queue whose one line holds an item of the words `ws` (newest first). -/
def eqOneLine (ws : List Word) : EqSt :=
  { fill := [{ words := (ws.reverse ++ List.replicate 7 0).take 7, ovr := false, cut := false, tmo := false, eoi := true
               bytes := 4 * (ws.length - 1) + 4, lseq := 0 }]
    lseq := 1 }

theorem eqWordSt_begun (owner : BitVec 12) (w : Word) {ws : List Word} (h : ws.length < 6) :
    eqWordSt (eqBegun owner ws) owner w 0 = (eqBegun owner (w :: ws), .landed) := by
  cases ws with
  | nil => rfl
  | cons v ws =>
    have hlen : ¬5 ≤ ws.length := by simp only [List.length_cons] at h; omega
    simp [eqWordSt, eqSwap, eqOpen, eqBegun, eqSetOpen, hlen]

theorem eqWordSt_last (owner : BitVec 12) (w : Word) (ws : List Word) :
    eqWordSt (eqBegun owner ws) owner w 4 = (eqOneLine (w :: ws), .landed) := by
  cases ws with
  | nil => rfl
  | cons v ws => simp [eqWordSt, eqSwap, eqOpen, eqBegun, eqSetOpen, eqClose, eqOneLine]

theorem eqOf_eqUpdate (s : State) (q : Nat) (e e' : EqSt) : eqOf (eqUpdate s q e e') q = e' := by
  have hset : eqOf (setEqSt s q e') q = e' := tabGet_tabPut_same ..
  unfold eqUpdate; dsimp only
  split
  · exact (raiseBit_part _ _ _ (eqOf · q) fun _ => rfl).trans hset
  · exact hset

theorem eqUpdate_regsBut (s : State) (q : Nat) (e e' : EqSt) : s.regsBut [Reg.EQ_STATUS q, Reg.PCIE_STATUS] (eqUpdate s q e e') := by
  unfold eqUpdate; dsimp only
  split
  · exact regsBut_raiseBit (setEqSt s q e') _ 0
  · exact regsBut_of_eq rfl

theorem eqOn_eqUpdate (s : State) (q : Nat) (e e' : EqSt) : eqOn (eqUpdate s q e e') q = eqOn s q := by
  unfold eqOn blkState
  rw [(eqUpdate_regsBut s q e e').rdF 6 4 (by simp [Reg.EQ_CTRL, Reg.EQ_STATUS, Reg.PCIE_STATUS]; omega) (by unfold Reg.EQ_CTRL; omega)]

/-- A word that lands changes its queue as `eqWordSt` says. -/
theorem eqWord_landed {s : State} {q : Nat} {owner : BitVec 12} {w : Word} {n : Nat} (hon : eqOn s q = true) {e : EqSt}
    (h : eqWordSt (eqOf s q) owner w n = (e, .landed)) :
    eqWord s q owner w n = (eqUpdate s q (eqOf s q) e, .landed) := by
  simp only [eqWord, hon, h, Bool.not_true, Bool.false_eq_true, if_false]

/-- `t` differs from `s` by what queue `q` has taken: the queue is `e`. -/
structure State.queueTakes (q : Nat) (e : EqSt) (s t : State) : Prop where
  queue : eqOf t q = e
  regs : s.regsBut [Reg.EQ_STATUS q, Reg.PCIE_STATUS] t
  frame : s.sameBut [.regs, .pcie, .eq] t

theorem eqUpdate_queueTakes (s : State) (q : Nat) (e e' : EqSt) : s.queueTakes q e' (eqUpdate s q e e') :=
  ⟨eqOf_eqUpdate .., eqUpdate_regsBut _ _ _ _, eqUpdate_hide (h_sub := rfl) ..⟩

theorem State.queueTakes.trans {q : Nat} {e e' : EqSt} {s t u : State} (h1 : s.queueTakes q e t) (h2 : t.queueTakes q e' u) :
    s.queueTakes q e' u := ⟨h2.queue, regsBut_trans h1.regs h2.regs, h2.frame.trans h1.frame⟩

/-- The rest `l` of an item of at most seven words lands, and closes the line. -/
theorem eqItem_lands {q : Nat} {owner : BitVec 12} : ∀ {l ws : List Word} {s : State}, l ≠ [] → ws.length + l.length ≤ 7 →
    eqOn s q = true → eqOf s q = eqBegun owner ws → ∃ t, eqItem s q owner l = (t, true) ∧ s.queueTakes q (eqOneLine (l.reverse ++ ws)) t
  | [], _, _, h, _, _, _ => absurd rfl h
  | [w], ws, s, _, _, hon, he => by
    refine ⟨_, ?_, eqUpdate_queueTakes s q (eqOf s q) (eqOneLine (w :: ws))⟩
    rw [eqItem, eqWord_landed hon (by rw [he, eqWordSt_last])]; rfl
  | w :: v :: l, ws, s, _, hlen, hon, he => by
    have hword := eqWord_landed hon (owner := owner) (w := w) (n := 0)
      (by rw [he, eqWordSt_begun owner w (by simp only [List.length_cons] at hlen; omega)])
    obtain ⟨t, ht, htakes⟩ := eqItem_lands (q := q) (owner := owner) (l := v :: l) (ws := w :: ws)
      (s := eqUpdate s q (eqOf s q) (eqBegun owner (w :: ws))) (List.cons_ne_nil _ _) (by simp only [List.length_cons] at hlen ⊢; omega)
      (by rw [eqOn_eqUpdate, hon]) (eqOf_eqUpdate ..)
    refine ⟨t, ?_, by simpa using (eqUpdate_queueTakes s q (eqOf s q) _).trans htakes⟩
    rw [eqItem, hword, ht]
    · rfl
    · exact List.cons_ne_nil _ _

/-! The record of a trigger (R154, R156) -/

theorem recordWords_length (w0 : Word) (time : Nat) (w4 w5 w6 : Word) : (recordWords w0 time w4 w5 w6).length = 7 := rfl

theorem triggerRecord_length (s : State) (d : DeckImage) (g : Nat) (i : Sample) (forced : Bool) : (triggerRecord s d g i forced).1.length = 7 := by
  unfold triggerRecord; dsimp only
  split <;> exact recordWords_length ..

/-- The record of a force that no hand joins: word 0 has RTYPE 1, GROUP and FORCED. -/
theorem triggerRecord_forced {s : State} {d : DeckImage} {g : Nat} {i : Sample} (h : firesAt s d g i = []) (forced : Bool) :
    (triggerRecord s d g i forced).1 = recordWords (BitVec.ofNat 32 (2 ^ 28 + g * 2 ^ 24 + 2 ^ 11)) (trigWord s none i) 0 0 0 := by
  unfold triggerRecord
  rw [h]
  simp [causeOf, recordWord0]

theorem route_lt {d : DeckImage} {g q : Nat} (h : route d g = some q) : q < 32 := by
  unfold route at h; dsimp only at h
  split at h
  · obtain rfl := Option.some.inj h
    exact Nat.mod_lt _ (by decide)
  · cases h

/-- The line of a record fills with its seven words. -/
theorem eqOneLine_record {ws : List Word} (h : ws.length = 7) :
    eqOneLine (ws.reverse ++ []) = { fill := [⟨ws, false, false, false, true, 28, 0⟩], lseq := 1 } := by
  simp [eqOneLine, h]

theorem putRecord_lands {s : State} {q : Nat} {ws : List Word} (hlen : ws.length = 7) (hon : eqOn s q = true) (he : eqOf s q = {}) :
    ∃ t, putRecord s q ws = (t, true) ∧ s.queueTakes q { fill := [⟨ws, false, false, false, true, 28, 0⟩], lseq := 1 } t := by
  obtain ⟨t, ht, htakes⟩ := eqItem_lands (q := q) (owner := trigOwner) (l := ws) (ws := []) (s := s)
    (by intro h; simp [h] at hlen) (by simp [hlen]) hon he
  rw [eqOneLine_record hlen] at htakes
  exact ⟨t, by rw [putRecord, ht]; rfl, htakes⟩

/-! TRIGGER_RECORD_WRITE -/

/-- The trigger network once the records of sample `i` have been written. -/
def TrigSt.written (i : Sample) (x : TrigSt) : TrigSt :=
  { x with
    fires := x.fires.filter fun f => f.sample != i
    accepted := x.accepted.filter fun a => a.sample != i
    forces := x.forces.filter fun f => f.sample != i || f.groups != 0
    presented := x.presented.filter fun p => p.2 != i }

/-- One accepted trigger, and no event record: its record alone is written. -/
theorem exec_triggerRecordWrite {s : State} {d : DeckImage} {i : Sample} {a : Accepted} (hd : actDeck s = some d)
    (ha : s.trig.accepted.filter (fun a => a.sample == i) = [a]) (hev : ∀ f ∈ s.trig.fires, f.sample = i → f.evt = none) :
    exec (.triggerRecordWrite i) s = .next ((writeTrigger d s a).modTrig (TrigSt.written i)) := by
  have hevs : s.trig.fires.filter (fun f => f.sample == i && f.evt.isSome) = [] :=
    List.filter_eq_nil_iff.2 fun f hf h => by
      obtain ⟨hi, hsome⟩ : f.sample = i ∧ f.evt.isSome = true := by simpa using h
      rw [hev f hf hi] at hsome
      cases hsome
  change execTriggerRecordWrite i s = _
  rw [execTriggerRecordWrite, hd]
  dsimp only
  rw [writeRecords, ha, hevs]
  rfl

/-- The state in which a group's record counts. -/
def recordCounted (s : State) (g : Nat) (coin : Bool) : State :=
  if coin then raiseBit (incCnt s (Reg.TRIG_GRP_REC g) 1) Reg.TRIG_NET_STATUS 1 else incCnt s (Reg.TRIG_GRP_REC g) 1

section
variable (s : State) (g : Nat) (coin : Bool)

theorem recordCounted_sameBut : s.sameBut [.regs, .pcie] (recordCounted s g coin) := by
  unfold recordCounted
  split
  · exact (raiseBit_hide (h_sub := rfl) ..).trans (incCnt_hide (h_sub := rfl) ..)
  · exact incCnt_hide (h_sub := rfl) ..

theorem rd_recordCounted : rd (recordCounted s g coin) (Reg.TRIG_GRP_REC g) = satAdd (rd s (Reg.TRIG_GRP_REC g)) 1 := by
  unfold recordCounted
  split
  · rw [(regsBut_raiseBit _ _ 1).rd (by simp [Reg.TRIG_GRP_REC, Reg.TRIG_NET_STATUS, Reg.PCIE_STATUS]; omega)
      (by unfold Reg.TRIG_GRP_REC; omega), rd_incCnt]
  · rw [rd_incCnt]

end

theorem writeTrigger_none {s : State} {d : DeckImage} {a : Accepted} (h : route d a.group = none) : writeTrigger d s a = s := by
  unfold writeTrigger; rw [h]

/-- A trigger's record lands in its group's empty queue. -/
theorem writeTrigger_lands {s : State} {d : DeckImage} {a : Accepted} {q : Nat} (hq : route d a.group = some q) (hon : eqOn s q = true)
    (he : eqOf s q = {}) : ∃ t, s.queueTakes q
        { fill := [⟨(triggerRecord s d a.group a.sample a.forced).1, false, false, false, true, 28, 0⟩], lseq := 1 } t ∧
      writeTrigger d s a = recordCounted t a.group (triggerRecord s d a.group a.sample a.forced).2 := by
  obtain ⟨t, ht, htakes⟩ := putRecord_lands (triggerRecord_length s d a.group a.sample a.forced) hon he
  refine ⟨t, htakes, ?_⟩
  unfold writeTrigger
  rw [hq]; dsimp only
  rw [ht, recordCounted, Bool.and_true]
  rfl

/-! TRIG_OUT (R150-R152) -/

/-- Whether a pulse is due at sample `i` (R150, R156). -/
def pulseDue (i : Sample) (s : State) : Bool :=
  (s.trig.fires.any (fun f => f.sample == i && f.tout) ||
    (rd s Reg.TRIG_OUT_CTRL).getLsbD 2 && s.trig.forces.any (fun f => f.sample == i)) && (rd s Reg.TRIG_OUT_CTRL).getLsbD 0

theorem pulseDue_iff (i : Sample) (s : State) : pulseDue i s = true ↔
    (rd s Reg.TRIG_OUT_CTRL).getLsbD 0 = true ∧ ((∃ f ∈ s.trig.fires, f.sample = i ∧ f.tout = true) ∨
      (rd s Reg.TRIG_OUT_CTRL).getLsbD 2 = true ∧ ∃ f ∈ s.trig.forces, f.sample = i) := by
  simp [pulseDue, and_comm]

theorem trigOutPulse_starts {i : Sample} {s : State} (h : pulseDue i s = true) (hout : s.trig.out = none) : trigOutPulse i s =
    s.modTrig fun x => { x with out := some (nbits (rd s Reg.TRIG_OUT_CTRL).toNat 15 8 + 1), outCtrl := rd s Reg.TRIG_OUT_CTRL } :=
  (if_pos h).trans (by rw [hout])

theorem trigOutPulse_extends {i : Sample} {s : State} {n : Nat} (h : pulseDue i s = true) (hout : s.trig.out = some n) : trigOutPulse i s =
    s.modTrig fun x => { x with out := some (max n (nbits (rd s Reg.TRIG_OUT_CTRL).toNat 15 8 + 1)) } :=
  (if_pos h).trans (by rw [hout])

theorem trigOutEnd_eq (s : State) : trigOutEnd s = s.modTrig fun x => { x with out := s.trig.out.filter fun n => decide (1 < n) } := rfl

theorem modTrig_same_out {s : State} {o : Option Nat} (h : s.trig.out = o) : (s.modTrig fun x => { x with out := o }) = s := by
  subst h; rfl

theorem trigOutEnd_running {s : State} {n : Nat} (h : s.trig.out = some n) :
    trigOutEnd s = if 1 < n then s else s.modTrig fun x => { x with out := none } := by
  have hfilter : (some n).filter (fun n => decide (1 < n)) = if 1 < n then some n else none := by simp [Option.filter_some]
  rw [trigOutEnd_eq, h, hfilter]
  split
  · exact modTrig_same_out h
  · rfl

theorem trigOutEnd_idle {s : State} (h : s.trig.out = none) : trigOutEnd s = s := by
  rw [trigOutEnd_eq, h]; exact modTrig_same_out h

/-- Settles O36: a record by the line that its seven words make, a pulse by whether one is due and whether one stands. -/
theorem triggersAreRecordedAndPulsed : Obligations.TriggersAreRecordedAndPulsed := by
  unfold Obligations.TriggersAreRecordedAndPulsed
  refine ⟨fun i s d a hd ha hev => ?_, fun i s c due len hc hlen hdue => ?_, fun s n h => congrArg Host.Outcome.next (trigOutEnd_running h),
    fun s h => congrArg Host.Outcome.next (trigOutEnd_idle h)⟩
  · have hi : a.sample = i := by
      have hmem : a ∈ s.trig.accepted.filter fun a => a.sample == i := ha ▸ List.mem_singleton_self a
      simpa using (List.mem_filter.1 hmem).2
    have hexec := exec_triggerRecordWrite hd ha hev
    refine ⟨fun q hq hon he => ?_, fun hq => ⟨_, hexec, ?_⟩⟩
    · obtain ⟨u, hu, hw⟩ := writeTrigger_lands hq hon he
      rw [hi] at hu hw
      have hcounted := recordCounted_sameBut u a.group (triggerRecord s d a.group i a.forced).2
      have hqueue : eqOf (recordCounted u a.group (triggerRecord s d a.group i a.forced).2) q = _ :=
        (part_of_hide hcounted (eqOf · q) fun _ => rfl).trans hu.queue
      have hcount := rd_recordCounted u a.group (triggerRecord s d a.group i a.forced).2
      have hq32 := route_lt hq
      rw [hu.regs.rd (by simp [Reg.TRIG_GRP_REC, Reg.EQ_STATUS, Reg.PCIE_STATUS]; omega) (by unfold Reg.TRIG_GRP_REC; omega)] at hcount
      rw [hw] at hexec
      refine ⟨_, hexec, congrArg EqSt.fill hqueue, congrArg EqSt.lseq hqueue, congrArg EqSt.opens hqueue, fun h => triggerRecord_forced h _,
        hcount, fun x hx => ?_, ?_⟩
      · simpa using (List.mem_filter.1 hx).2
      · exact (hide_modTrig _ _ rfl).trans ((hide_mono rfl hcounted).trans (hide_mono rfl hu.frame))
    · rw [writeTrigger_none hq]; exact hide_modTrig _ _ rfl
  · have hiff : pulseDue i s = true ↔ due := by rw [pulseDue_iff, hdue, hc]
    subst hc hlen
    refine ⟨fun h hout => ⟨_, congrArg Host.Outcome.next (trigOutPulse_starts (hiff.2 h) hout), rfl, ?_, hide_modTrig _ _ rfl⟩,
      fun n h hout => congrArg Host.Outcome.next (trigOutPulse_extends (hiff.2 h) hout),
      fun h => congrArg Host.Outcome.next (if_neg (mt hiff.1 h))⟩
    exact Bool.true_bne _

end Sys2Proof.Machine

/-!
PROOF. What a fold that stores data leaves (R171, R183-R185, R195-R203): every group's state, and the registers of the FOLD block. So
what a group's close, overflow or re-arm comes to depends on the folds only in whether one of them found no room.
-/

namespace Sys2Proof.Machine

/-- `t` has the groups of `s`, and its registers at the offsets of the FOLD block (0xA00000 to 0xBFFFFF). -/
structure State.keepsGroups (s t : State) : Prop where
  groups : t.folds.groups = s.folds.groups
  regs : ∀ o v, 0xA00000 ≤ o → o < 0xC00000 → tabGet v t.regs o = tabGet v s.regs o

namespace State.keepsGroups

variable {s t u : State}

theorem refl (s : State) : s.keepsGroups s := ⟨rfl, fun _ _ _ _ => rfl⟩

theorem trans (h1 : s.keepsGroups t) (h2 : t.keepsGroups u) : s.keepsGroups u :=
  ⟨h2.groups.trans h1.groups, fun o v hlo hhi => (h2.regs o v hlo hhi).trans (h1.regs o v hlo hhi)⟩

theorem of_hide {m : Nat} (h : t.hide m = s.hide m) (hregs : m.testBit 1 = false) (hfolds : m.testBit 19 = false) : s.keepsGroups t where
  groups := congrArg FoldsSt.groups (part_of_hide h State.folds fun x => by simp [State.hide, hfolds])
  regs o v _ _ := congrArg (tabGet v · o) (part_of_hide h State.regs fun x => by simp [State.hide, hregs])

theorem of_regsBut {m : Nat} {os : List Nat} (h : t.hide m = s.hide m) (hfolds : m.testBit 19 = false) (hregs : s.regsBut os t)
    (hos : ∀ o ∈ os, o < 0xA00000 ∨ 0xC00000 ≤ o) : s.keepsGroups t where
  groups := congrArg FoldsSt.groups (part_of_hide h State.folds fun x => by simp [State.hide, hfolds])
  regs o v hlo hhi := hregs o v (fun ho => by have := hos o ho; omega) (by omega)

theorem ite {c : Prop} [Decidable c] (ht : s.keepsGroups t) (hu : s.keepsGroups u) : s.keepsGroups (if c then t else u) := by
  split <;> assumption

theorem foldl {α : Type} {f : State → α → State} (h : ∀ (s : State) x, s.keepsGroups (f s x)) :
    ∀ (l : List α) (s : State), s.keepsGroups (l.foldl f s)
  | [], s => .refl s
  | x :: l, s => (h s x).trans (foldl h l (f s x))

theorem foldl_fst {α β : Type} {f : State × β → α → State × β} (h : ∀ (p : State × β) x, p.1.keepsGroups (f p x).1) :
    ∀ (l : List α) (p : State × β), p.1.keepsGroups (l.foldl f p).1
  | [], p => .refl p.1
  | x :: l, p => (h p x).trans (foldl_fst h l (f p x))

theorem grpOf (h : s.keepsGroups t) (g : Nat) : grpOf t g = grpOf s g := congrArg (fun x : Tab GroupSt => tabGet ({} : GroupSt) x g) h.groups

theorem flagSet (h : s.keepsGroups t) {o : Nat} (b : Nat) (hlo : 0xA00000 ≤ o) (hhi : o < 0xC00000) : flagSet t o b = flagSet s o b :=
  congrArg (BitVec.getLsbD · b) (h.regs o 0 hlo hhi)

end State.keepsGroups

/-! Pages (R101, R171, R178) -/

section
variable (s : State) (d : DeckImage) (f : Nat)

theorem setFold_keepsGroups (x : FoldSt) : s.keepsGroups (setFold s f x) := ⟨rfl, fun _ _ _ _ => rfl⟩

theorem setCompPage_keepsGroups (e : Nat) (p : CompPage) : s.keepsGroups (setCompPage s e p) := ⟨rfl, fun _ _ _ _ => rfl⟩

theorem putLogical_keepsGroups (x : Nat) (bs : List Byte) : s.keepsGroups (putLogical s d f x bs) :=
  .of_hide (putLogical_hide (m := 2048) (h_sub := rfl) ..) rfl rfl

theorem endCtx_keepsGroups (i : KInst) : s.keepsGroups (endCtx s i) := .of_hide (endCtx_hide (m := 8192) (h_sub := rfl) ..) rfl rfl

theorem putPage_keepsGroups (slot : Nat) (bytes : List Byte) (bad : List Nat) (u : UnitRec) :
    s.keepsGroups (putPage s d f slot bytes bad u) := .of_hide (putPage_hide (m := 2048) (h_sub := rfl) ..) rfl rfl

theorem storeRawPage_keepsGroups (inst j : Nat) : s.keepsGroups (storeRawPage s d f inst j) := by
  unfold storeRawPage; dsimp only
  refine .ite (.refl s) ?_
  exact (putPage_keepsGroups ..).trans ((endCtx_keepsGroups ..).trans ((putLogical_keepsGroups ..).trans (setFold_keepsGroups ..)))

theorem storeRawTo_keepsGroups (last : Sample) : s.keepsGroups (storeRawTo s d f last) :=
  .foldl (fun s _ => .foldl (fun s _ => storeRawPage_keepsGroups s ..) _ s) _ s

theorem storeRecPage_keepsGroups : s.keepsGroups (storeRecPage s d f) := by
  unfold storeRecPage; dsimp only
  exact .ite (.refl s) ((putPage_keepsGroups ..).trans (setFold_keepsGroups ..))

end

/-! Records (R183-R185) -/

/-- What forming a record gives keeps the groups of `s`, or it is an overflow. -/
def State.formsKeeping (s : State) : Formed1 → Prop
  | .error _ => True
  | .ok t => s.keepsGroups t

theorem formsKeeping_trans {s t : State} {o : Formed1} (h1 : s.keepsGroups t) (h2 : t.formsKeeping o) : s.formsKeeping o := by
  cases o with
  | error c => trivial
  | ok u => exact h1.trans h2

theorem formsKeeping_ite {c : Prop} [Decidable c] {s : State} {o p : Formed1} (ho : s.formsKeeping o) (hp : s.formsKeeping p) :
    s.formsKeeping (if c then o else p) := by split <;> assumption

theorem formsKeeping_foldl {α : Type} {s : State} {f : Formed1 → α → Formed1} (h : ∀ o x, s.formsKeeping o → s.formsKeeping (f o x)) :
    ∀ (l : List α) (o : Formed1), s.formsKeeping o → s.formsKeeping (l.foldl f o)
  | [], _, ho => ho
  | x :: l, o, ho => formsKeeping_foldl h l (f o x) (h o x ho)

section
variable (d : DeckImage) (f : Nat) (keep : Option (Sample × Sample))

theorem addRecord_formsKeeping (first last : Sample) (void flag : Bool) (bytes : List Byte) (s : State) :
    s.formsKeeping (addRecord d f keep first last void flag bytes s) := by
  unfold addRecord; dsimp only
  refine formsKeeping_ite trivial ?_
  split
  · trivial
  · exact State.keepsGroups.ite ((setFold_keepsGroups ..).trans (storeRecPage_keepsGroups ..)) (setFold_keepsGroups ..)

theorem addTrans_formsKeeping (i : Sample) (void flag : Bool) (bytes : List Byte) {s : State} {o : Formed1} (h : s.formsKeeping o) :
    s.formsKeeping (addTrans d f keep i void flag bytes o) := by
  cases o with
  | error c => trivial
  | ok t => exact formsKeeping_trans h (addRecord_formsKeeping ..)

theorem addKeyframe_formsKeeping (i : Sample) (s : State) : s.formsKeeping (addKeyframe d f keep i s) := by
  unfold addKeyframe; dsimp only
  refine formsKeeping_foldl (fun o n h => addTrans_formsKeeping _ _ _ _ _ _ _ (addTrans_formsKeeping _ _ _ _ _ _ _ h)) _ _ ?_
  exact addTrans_formsKeeping _ _ _ _ _ _ _ (setFold_keepsGroups ..)

theorem addItems_formsKeeping (i : Sample) : ∀ (n : Nat) (l : List TransItem) (s : State), s.formsKeeping (addItems d f keep i n l s)
  | 0, l, s => by unfold addItems; exact State.keepsGroups.refl s
  | n + 1, [], s => State.keepsGroups.refl s
  | n + 1, it :: t, s => by
    unfold addItems; dsimp only
    split
    · have h := addKeyframe_formsKeeping d f keep i s
      split
      · trivial
      · next u hu => rw [hu] at h; exact formsKeeping_trans h (addItems_formsKeeping i n _ u)
    · split
      · have h := addRecord_formsKeeping d f keep i i false false (transRec 0 0xFFFF i) (setFold s f { foldOf s f with base := i })
        split
        · trivial
        · next u hu => rw [hu] at h; exact formsKeeping_trans ((setFold_keepsGroups ..).trans h) (addItems_formsKeeping i n _ u)
      · have h := addRecord_formsKeeping d f keep i i (transMask s d (foldInst d f it.1) i != 0) (outFlagged s d f (foldInst d f it.1))
          (transBytes s d f (foldOf s f).base i it) s
        split
        · trivial
        · next u hu =>
          rw [hu] at h
          exact formsKeeping_trans (State.keepsGroups.trans h (setFold_keepsGroups ..)) (addItems_formsKeeping i n _ _)

theorem transSample_formsKeeping (i : Sample) (s : State) : s.formsKeeping (transSample d f keep i s) := by
  have h : s.formsKeeping (if i = (foldOf s f).epoch then addKeyframe d f keep i s else .ok s) := by
    split
    · exact addKeyframe_formsKeeping ..
    · exact State.keepsGroups.refl s
  unfold transSample; dsimp only
  split
  · trivial
  · next u hu => rw [hu] at h; exact formsKeeping_trans h (addItems_formsKeeping ..)

theorem stateSample_formsKeeping (i : Sample) (s : State) : s.formsKeeping (stateSample d f keep i s) := by
  unfold stateSample
  refine formsKeeping_foldl (fun o n h => ?_) _ _ (State.keepsGroups.refl s)
  cases o with
  | error c => trivial
  | ok t =>
    dsimp only
    split
    · exact formsKeeping_trans h (addRecord_formsKeeping ..)
    · exact h

theorem addWindow_formsKeeping (n w : Nat) (b : Sample) (s : State) : s.formsKeeping (addWindow d f keep n w b s) := by
  unfold addWindow; dsimp only
  generalize hq : addRecord d f keep _ _ _ _ _ s = q
  have h : s.formsKeeping q := hq ▸ addRecord_formsKeeping ..
  cases q with
  | error c => trivial
  | ok t => exact State.keepsGroups.trans h ((setFold_keepsGroups ..).trans (endCtx_keepsGroups ..))

theorem takeSamples_keepsGroups : ∀ (n : Nat) (i : Sample) (s : State), s.keepsGroups (takeSamples d f keep n i s).1
  | 0, _, s => .refl s
  | n + 1, i, s => by
    have h : s.formsKeeping (if fRed d f = 1 then transSample d f keep i s else stateSample d f keep i s) := by
      split
      · exact transSample_formsKeeping ..
      · exact stateSample_formsKeeping ..
    unfold takeSamples
    split
    · exact .refl s
    · next u hu =>
      rw [hu] at h
      exact (State.keepsGroups.trans h (setFold_keepsGroups ..)).trans (takeSamples_keepsGroups n (i + 1) _)

theorem takeWindows_keepsGroups : ∀ (l : List (Nat × Nat × Sample)) (s : State), s.keepsGroups (takeWindows d f keep l s).1
  | [], s => .refl s
  | (w, n, b) :: l, s => by
    have h := addWindow_formsKeeping d f keep n w b s
    unfold takeWindows
    split
    · exact .refl s
    · next u hu => rw [hu] at h; exact State.keepsGroups.trans h (takeWindows_keepsGroups l u)

theorem formTo_keepsGroups (s : State) (last : Sample) : s.keepsGroups (formTo s d f last).1 := by
  unfold formTo; dsimp only
  split
  · exact takeWindows_keepsGroups ..
  · exact takeSamples_keepsGroups ..

end

/-! Compression (R195-R203, R216) -/

theorem raiseBit_keepsGroups (s : State) {o : Nat} (b : Nat) (ho : 0xC00000 ≤ o) : s.keepsGroups (raiseBit s o b) :=
  .of_regsBut (raiseBit_hide (m := 258) (h_sub := rfl) ..) rfl (regsBut_raiseBit s o b) (by simp [Reg.PCIE_STATUS, ho])

theorem raiseErr_keepsGroups (s : State) {o : Nat} (b cls src cell : Nat) (ho : 0xC00000 ≤ o) : s.keepsGroups (raiseErr s o b cls src cell) :=
  ⟨(raiseBit_keepsGroups s b ho).groups, (raiseBit_keepsGroups s b ho).regs⟩

theorem wr64_keepsGroups (s : State) {o : Nat} (v : Nat) (ho : 0xC00000 ≤ o) : s.keepsGroups (wr64 s o v) :=
  .of_regsBut (wr64_hide (m := 2) (h_sub := rfl) ..) rfl (regsBut_wr64 s o v) (by simp; omega)

theorem incCnt_keepsGroups (s : State) {o : Nat} (n : Nat) (ho : 0xC00000 ≤ o) : s.keepsGroups (incCnt s o n) :=
  .of_regsBut (incCnt_hide (m := 2) (h_sub := rfl) ..) rfl (regsBut_incCnt s o n) (by simp; omega)

theorem cmpStatus_high (e : Nat) : 0xC00000 ≤ Reg.CMP_STATUS e := by unfold Reg.CMP_STATUS; omega

section
variable (s : State) (d : DeckImage) (f u e : Nat)

theorem quarCmp_keepsGroups : s.keepsGroups (quarCmp s e) :=
  (raiseErr_keepsGroups s 2 3 0x0480 e (cmpStatus_high e)).trans ⟨rfl, fun _ _ _ _ => rfl⟩

theorem selfCheckFail_keepsGroups : s.keepsGroups (selfCheckFail s e) := by
  have h : s.keepsGroups (incCnt (raiseBit s (Reg.CMP_STATUS e) 0) (Reg.CMP_SELFCHK_CNT e) 1) :=
    (raiseBit_keepsGroups s 0 (cmpStatus_high e)).trans (incCnt_keepsGroups _ 1 (by unfold Reg.CMP_SELFCHK_CNT; omega))
  unfold selfCheckFail; dsimp only
  have hfails : s.keepsGroups ((incCnt (raiseBit s (Reg.CMP_STATUS e) 0) (Reg.CMP_SELFCHK_CNT e) 1).modComp fun c =>
      { c with fails := tabPut [] c.fails e (noteTime s second (tabGet [] s.comp.fails e)) }) := h.trans ⟨rfl, fun _ _ _ _ => rfl⟩
  exact .ite (hfails.trans (quarCmp_keepsGroups ..)) hfails

theorem checkedBlock_keepsGroups (chk : EngineCheck) : s.keepsGroups (checkedBlock s e chk) := by
  cases chk with
  | pass => exact .refl s
  | mismatch => exact selfCheckFail_keepsGroups ..
  | ecc => exact .ite (.refl s) ((raiseBit_keepsGroups s 1 (cmpStatus_high e)).trans (quarCmp_keepsGroups ..))

/-- The brand and void entries of the `n` capture pages that engine `e` takes are put (R178, R202). -/
def sidesPut (n : Nat) : State :=
  (List.range n).foldl (fun t i => putCompSide t d f u (nextIdx s d f u) ((compPage s d f u e).pages + i)
    (rangePage (compPage s d f u e).m u ((compPage s d f u e).pages + i))) (useFree s)

/-- The registers count a block of `n` capture pages and `len` bytes (R198). -/
def bytesCounted (n len : Nat) : State :=
  let t := wr64 s (Reg.CMP_IN_LO e) (rd64 s (Reg.CMP_IN_LO e) + 4096 * n)
  wr64 t (Reg.CMP_OUT_LO e) (rd64 t (Reg.CMP_OUT_LO e) + len)

/-- They count a stored block, and what the block's check found, unless the engine is bypassed (R197, R216). -/
def blockJudged (stored bypass : Bool) (chk : EngineCheck) : State :=
  let t := if stored then incCnt s (Reg.CMP_STORED_CNT e) 1 else s
  if bypass then t else checkedBlock t e chk

theorem compBlock_eq (n : Nat) (chk : EngineCheck) (last : Bool) : ∃ (len : Nat) (stored : Bool) (x : FoldSt) (q : CompPage),
    q.m = (compPage s d f u e).m ∧ q.pages = (compPage s d f u e).pages + n ∧ compBlock s d f u e n chk last =
      setCompPage (setFold (endCtx (blockJudged (bytesCounted (sidesPut s d f u e n) e n len) e stored (s.comp.quar.contains e) chk)
        (foldInst d f (u / 4))) f x) e q := by
  refine ⟨_, _, _, _, ?_, ?_, rfl⟩ <;> rfl

theorem sidesPut_sameBut (n : Nat) : s.sameBut [.free, .mem] (sidesPut s d f u e n) :=
  (hide_foldl _ (fun _ _ => putCompSide_hide (h_sub := rfl) ..) _ _).trans (useFree_hide (h_sub := rfl) ..)

theorem bytesCounted_keepsGroups (n len : Nat) : s.keepsGroups (bytesCounted s e n len) :=
  (wr64_keepsGroups _ _ (by unfold Reg.CMP_IN_LO; omega)).trans (wr64_keepsGroups _ _ (by unfold Reg.CMP_OUT_LO; omega))

theorem blockJudged_keepsGroups (stored bypass : Bool) (chk : EngineCheck) : s.keepsGroups (blockJudged s e stored bypass chk) :=
  have hcount : s.keepsGroups (if stored then incCnt s (Reg.CMP_STORED_CNT e) 1 else s) :=
    .ite (incCnt_keepsGroups _ 1 (by unfold Reg.CMP_STORED_CNT; omega)) (.refl s)
  .ite hcount (hcount.trans (checkedBlock_keepsGroups ..))

theorem compBlock_keepsGroups (n : Nat) (chk : EngineCheck) (last : Bool) : s.keepsGroups (compBlock s d f u e n chk last) := by
  obtain ⟨len, stored, x, q, -, -, h⟩ := compBlock_eq s d f u e n chk last
  rw [h]
  have hcoded : s.keepsGroups (blockJudged (bytesCounted (sidesPut s d f u e n) e n len) e stored (s.comp.quar.contains e) chk) :=
    (State.keepsGroups.of_hide (sidesPut_sameBut s d f u e n) rfl rfl).trans
      ((bytesCounted_keepsGroups ..).trans (blockJudged_keepsGroups ..))
  exact hcoded.trans ((endCtx_keepsGroups ..).trans ((setFold_keepsGroups ..).trans (setCompPage_keepsGroups ..)))

theorem storeCompPage_keepsGroups {p : CompPage} {last : Bool} {t : State} (h : storeCompPage s d f u e p last = some t) : s.keepsGroups t := by
  unfold storeCompPage at h; dsimp only at h
  split at h
  · cases h
  · cases h
    refine .trans ?_ (setCompPage_keepsGroups ..)
    have hrows (base x : Nat) (bs : List Byte) (bad : List Nat) : s.keepsGroups (putRingRows s d f base (subArea d f) x bs bad) :=
      .of_hide (putRingRows_hide (m := 2048) (h_sub := rfl) ..) rfl rfl
    have hside (t : State) (x n : Nat) : t.keepsGroups (blockCompSide t d f u x n) :=
      .of_hide (blockCompSide_hide (m := 2048) (h_sub := rfl) ..) rfl rfl
    have hpage {t : State} (bad : List Nat) (x n : Nat) (y : FoldSt) (ht : s.keepsGroups t) :
        s.keepsGroups (setFold (if bad.isEmpty = true then t else blockCompSide t d f u x n) f y) :=
      (State.keepsGroups.ite ht (ht.trans (hside t x n))).trans (setFold_keepsGroups ..)
    have hwarn {c : Prop} [Decidable c] {t : State} (ht : s.keepsGroups t) :
        s.keepsGroups (if c then raiseBit t (Reg.CMP_STATUS e) 3 else t) :=
      .ite (ht.trans (raiseBit_keepsGroups _ 3 (cmpStatus_high e))) ht
    exact hwarn (hpage _ _ _ _ ((hrows _ _ _ _).trans (putLogical_keepsGroups ..)))

theorem endCompPage_keepsGroups (last : Bool) : s.keepsGroups (endCompPage s d f u e last).1 := by
  unfold endCompPage; dsimp only
  split
  · exact setCompPage_keepsGroups ..
  · split
    · next h => exact storeCompPage_keepsGroups s d f u e h
    · split
      · exact .refl s
      · exact (setFold_keepsGroups ..).trans (setCompPage_keepsGroups ..)

theorem compStep_keepsGroups (chk : EngineCheck) (last : Option Sample) : s.keepsGroups (compStep s d f u e chk last).1 := by
  unfold compStep; dsimp only
  split
  · split
    · exact .refl s
    · exact (setCompPage_keepsGroups ..).trans (endCompPage_keepsGroups ..)
  · split
    · exact compBlock_keepsGroups ..
    · split
      · exact (compBlock_keepsGroups ..).trans (endCompPage_keepsGroups ..)
      · exact compBlock_keepsGroups ..

theorem compTo_keepsGroups (last : Sample) : ∀ (n : Nat) (s : State), s.keepsGroups (compTo d f u e last n s).1
  | 0, s => .refl s
  | n + 1, s => by
    have h := compStep_keepsGroups s d f u e .pass (some last)
    unfold compTo; dsimp only
    split
    · exact .refl s
    · split
      · next t ht => rw [ht] at h; exact h.trans (compTo_keepsGroups last n t)
      · exact h

theorem compClose_keepsGroups (last : Sample) : s.keepsGroups (compClose s d f last).1 := by
  unfold compClose
  refine State.keepsGroups.foldl_fst (fun p x => ?_) _ (s, none)
  split
  · split
    · exact .refl _
    · exact compTo_keepsGroups ..
  · exact .refl _

theorem cutTake_keepsGroups (so : Sample) : ∀ (n : Nat) (s : State), s.keepsGroups (cutTake d f u e so n s)
  | 0, s => .refl s
  | n + 1, s => by
    unfold cutTake; dsimp only
    generalize min 8 _ = k
    have hblock (last : Bool) := compBlock_keepsGroups s d f u e k .pass last
    have hpage := endCompPage_keepsGroups (compBlock s d f u e k .pass ((compPage s d f u e).pages + k == 256)) d f u e false
    split
    · exact .refl s
    · split
      · split
        · next t ht => rw [ht] at hpage; exact ((hblock _).trans hpage).trans (cutTake_keepsGroups so n t)
        · exact hblock _
      · exact hblock _

theorem cutPage_keepsGroups (l : List OutSpan) (t : Nat) : s.keepsGroups (cutPage d f u e l t s) := by
  unfold cutPage; dsimp only
  generalize hq : List.findSome? _ _ = q
  cases q with
  | none => exact .refl s
  | some t =>
    obtain ⟨p, -, hp⟩ := List.exists_of_findSome?_eq_some hq
    exact storeCompPage_keepsGroups s d f u e hp

theorem compCut_keepsGroups (so : Sample) : s.keepsGroups (compCut s d f so) :=
  (State.keepsGroups.foldl (fun s _ => cutTake_keepsGroups d f _ _ so _ s) _ s).trans
    (.foldl (fun s _ => cutPage_keepsGroups s d f _ _ _ _) _ _)

/-! What a fold stores at an overflow and at a close -/

theorem stopFold_keepsGroups (so : Sample) : s.keepsGroups (stopFold s d f so).1 := by
  unfold stopFold; dsimp only
  split
  · split
    · exact compCut_keepsGroups ..
    · exact .ite (storeRawTo_keepsGroups ..) (.refl s)
  · exact (formTo_keepsGroups ..).trans (storeRecPage_keepsGroups ..)

theorem storeRest_keepsGroups (last : Sample) : s.keepsGroups (storeRest s d f last).1 := by
  have h := formTo_keepsGroups d f s last
  unfold storeRest
  split
  · split
    · exact compClose_keepsGroups ..
    · exact storeRawTo_keepsGroups ..
  · split
    · next t ht => rw [ht] at h; exact h.trans (storeRecPage_keepsGroups ..)
    · exact h

/-- A raw FULL fold always finds room: its ring drops its oldest page (R171). -/
theorem storeRest_raw {s : State} {d : DeckImage} {f : Nat} (hred : fRed d f = 0) (hcomp : fIsComp d f = false) (last : Sample) :
    (storeRest s d f last).2 = none := by simp [storeRest, hred, hcomp]

end

end Sys2Proof.Machine

/-!
PROOF. What closing, overflowing and opening a segment leave of the groups (R169, R174-R176, R180-R182): they change their own group only,
and that in known fields.
-/

namespace Sys2Proof.Machine

/-! One group -/

/-- `t` has the groups of `s` but for group `g`. -/
structure State.otherGroups (g : Nat) (s t : State) : Prop where
  grp : ∀ g', g' ≠ g → grpOf t g' = grpOf s g'

/-- The flags of group `g` that are set in `s` are set in `t`. -/
structure State.groupFlagsStay (g : Nat) (s t : State) : Prop where
  flag : ∀ b, b < 24 → flagSet s (Reg.FOLD_GRP_STATUS g) b = true → flagSet t (Reg.FOLD_GRP_STATUS g) b = true

section
variable {s t u : State} {g : Nat}

theorem State.otherGroups.trans (h1 : s.otherGroups g t) (h2 : t.otherGroups g u) : s.otherGroups g u :=
  ⟨fun g' hg => (h2.grp g' hg).trans (h1.grp g' hg)⟩

theorem State.otherGroups.refl (s : State) : s.otherGroups g s := ⟨fun _ _ => rfl⟩

theorem State.keepsGroups.otherGroups (h : s.keepsGroups t) : s.otherGroups g t := ⟨fun g' _ => h.grpOf g'⟩

theorem otherGroups_setGrp (s : State) (g : Nat) (x : GroupSt) : s.otherGroups g (setGrp s g x) := ⟨fun _ hg => grpOf_setGrp_other s x hg⟩

theorem grpOf_of_folds (h : t.folds = s.folds) (g : Nat) : grpOf t g = grpOf s g := by rw [grpOf, h]; rfl

theorem otherGroups_of_folds (h : t.folds = s.folds) : s.otherGroups g t := ⟨fun g' _ => grpOf_of_folds h g'⟩

theorem State.groupFlagsStay.trans (h1 : s.groupFlagsStay g t) (h2 : t.groupFlagsStay g u) : s.groupFlagsStay g u :=
  ⟨fun b hb h => h2.flag b hb (h1.flag b hb h)⟩

theorem State.keepsGroups.groupFlagsStay (h : s.keepsGroups t) (hg : g < 16) : s.groupFlagsStay g t := ⟨fun b _ hf => by
  rw [h.flagSet b (by unfold Reg.FOLD_GRP_STATUS; omega) (by unfold Reg.FOLD_GRP_STATUS; omega)]; exact hf⟩

theorem groupFlagsStay_of_regs (h : t.regs = s.regs) : s.groupFlagsStay g t := ⟨fun _ _ hf => by rw [flagSet, h]; exact hf⟩

theorem groupStatus_free (g : Nat) : ¬(0x200 ≤ Reg.FOLD_GRP_STATUS g ∧ Reg.FOLD_GRP_STATUS g < 0x1000) ∧
    Reg.FOLD_GRP_STATUS g ≠ Reg.PCIE_STATUS := by
  unfold Reg.FOLD_GRP_STATUS Reg.PCIE_STATUS; omega

theorem groupFlagsStay_raise (s : State) (g : Nat) (mask : Word) : s.groupFlagsStay g (raise s (Reg.FOLD_GRP_STATUS g) mask) :=
  ⟨fun b hb hf => by rw [flagSet_raise _ _ _ b hb (groupStatus_free g).1 (groupStatus_free g).2, hf, Bool.true_or]⟩

theorem flagSet_groupRaised (s : State) (g : Nat) {b : Nat} (hb : b < 24) :
    flagSet (raiseBit s (Reg.FOLD_GRP_STATUS g) b) (Reg.FOLD_GRP_STATUS g) b = true :=
  flagSet_raiseBit s _ b hb (groupStatus_free g).1 (groupStatus_free g).2

end

/-! Descriptors (R180) -/

section
variable (s : State) (d : DeckImage) (g : Nat) (seg : SegSt) (last : Sample) (extra : Nat) (ovf : List Byte)

theorem modFolds_keepsGroups (s : State) (f : FoldsSt → FoldsSt) (h : (f s.folds).groups = s.folds.groups) : s.keepsGroups (s.modFolds f) :=
  ⟨h, fun _ _ _ _ => rfl⟩

/-- The state with the group's descriptors in HBM, the units of its folds kept as those of a closed segment. -/
def descriptorsPut : State :=
  (gFolds d g).foldl (fun s f => (putLogical s d f (segBase d f seg.seg) (descriptor d g f seg (foldOf s f) last extra ovf)).modFolds fun x =>
    { x with closedUnits := assocSet x.closedUnits (f * 65536 + seg.seg) (foldOf s f) }) s

theorem descriptorsPut_keepsGroups : s.keepsGroups (descriptorsPut s d g seg last extra ovf) :=
  .foldl (fun s f => (putLogical_keepsGroups s d f _ _).trans (modFolds_keepsGroups _ _ rfl)) _ _

/-- The state with FOLD_GRP_LAST written and the flags of a closed segment set. -/
def closeNoted (mask : Word) : State := raise (wr64 s (Reg.FOLD_GRP_LAST_LO g) last) (Reg.FOLD_GRP_STATUS g) mask

theorem writeDescriptors_eq : ∃ mask : Word, mask.getLsbD 1 = true ∧ writeDescriptors s d g seg last extra ovf =
    setGrp (closeNoted (descriptorsPut s d g seg last extra ovf) g last mask) g
      { grpOf (closeNoted (descriptorsPut s d g seg last extra ovf) g last mask) g with closing := none } := by
  refine ⟨if (gFolds d g).any fun f => isPreShort d g seg (foldOf s f) then 0x12 else 0x2, ?_, rfl⟩
  split <;> rfl

theorem closeNoted_folds (mask : Word) : (closeNoted s g last mask).folds = s.folds :=
  part_of_hide (m := 258) ((raise_hide (h_sub := rfl) ..).trans (wr64_hide (h_sub := rfl) ..)) State.folds fun _ => rfl

theorem closeNoted_last (mask : Word) : rd64 (closeNoted s g last mask) (Reg.FOLD_GRP_LAST_LO g) = last % 2 ^ 64 :=
  ((regsBut_raise _ _ mask).rd64
    (by simp [Reg.FOLD_GRP_LAST_LO, Reg.FOLD_GRP_STATUS, Reg.PCIE_STATUS]; omega)
    (by simp [Reg.FOLD_GRP_LAST_LO, Reg.FOLD_GRP_STATUS, Reg.PCIE_STATUS]; omega)
    (by unfold Reg.FOLD_GRP_LAST_LO; omega)).trans (rd64_wr64_same ..)

theorem closeNoted_flag {mask : Word} (h : mask.getLsbD 1 = true) : flagSet (closeNoted s g last mask) (Reg.FOLD_GRP_STATUS g) 1 = true := by
  rw [closeNoted, flagSet_raise _ _ _ 1 (by decide) (groupStatus_free g).1 (groupStatus_free g).2, h, Bool.or_true]

theorem closeNoted_flagsStay (mask : Word) : s.groupFlagsStay g (closeNoted s g last mask) :=
  State.groupFlagsStay.trans ⟨fun b _ hf => by
    rw [(regsBut_wr64 s (Reg.FOLD_GRP_LAST_LO g) last).flagSet b
      (by simp [Reg.FOLD_GRP_LAST_LO, Reg.FOLD_GRP_STATUS]; omega) (groupStatus_free g).1]
    exact hf⟩ (groupFlagsStay_raise _ _ mask)

theorem grpOf_writeDescriptors : grpOf (writeDescriptors s d g seg last extra ovf) g = { grpOf s g with closing := none } := by
  obtain ⟨mask, -, h⟩ := writeDescriptors_eq s d g seg last extra ovf
  rw [h, grpOf_setGrp_same, grpOf_of_folds (closeNoted_folds ..)]
  exact congrArg (fun x : GroupSt => { x with closing := none }) ((descriptorsPut_keepsGroups s d g seg last extra ovf).grpOf g)

theorem otherGroups_writeDescriptors : s.otherGroups g (writeDescriptors s d g seg last extra ovf) := by
  obtain ⟨mask, -, h⟩ := writeDescriptors_eq s d g seg last extra ovf
  rw [h]
  exact (descriptorsPut_keepsGroups ..).otherGroups.trans ((otherGroups_of_folds (closeNoted_folds ..)).trans (otherGroups_setGrp ..))

theorem writeDescriptors_last : rd64 (writeDescriptors s d g seg last extra ovf) (Reg.FOLD_GRP_LAST_LO g) = last % 2 ^ 64 := by
  obtain ⟨mask, -, h⟩ := writeDescriptors_eq s d g seg last extra ovf
  rw [h]; exact closeNoted_last ..

theorem writeDescriptors_flag : flagSet (writeDescriptors s d g seg last extra ovf) (Reg.FOLD_GRP_STATUS g) 1 = true := by
  obtain ⟨mask, hmask, h⟩ := writeDescriptors_eq s d g seg last extra ovf
  rw [h]; exact closeNoted_flag _ _ _ hmask

theorem writeDescriptors_flagsStay (hg : g < 16) : s.groupFlagsStay g (writeDescriptors s d g seg last extra ovf) := by
  obtain ⟨mask, -, h⟩ := writeDescriptors_eq s d g seg last extra ovf
  rw [h]
  exact ((descriptorsPut_keepsGroups ..).groupFlagsStay hg).trans ((closeNoted_flagsStay ..).trans (groupFlagsStay_of_regs rfl))

end

/-! Overflow (R181, R182) -/

/-- The group in STOPPED_OVF: it has no open segment, and none left to write. -/
def GroupSt.stoppedByOvf (x : GroupSt) : GroupSt := { x with st := .stoppedOvf, seg := none, closing := none }

/-- The state in which group `g` is stopped by an overflow, which is logged, and its hands may become IDLE. -/
def ovfMarked (s : State) (d : DeckImage) (g : Nat) : State :=
  handsIdle (raiseErr (setGrp s g (grpOf s g).stoppedByOvf) (Reg.FOLD_GRP_STATUS g) 3 2 0x0480 g) d

section
variable (s : State) (d : DeckImage) (g : Nat)

theorem ovfMarked_part {α : Type} (p : State → α) (hp : ∀ x, p (x.hide 132354) = p x) : p (ovfMarked s d g) = p (setGrp s g (grpOf s g).stoppedByOvf) :=
  part_of_hide ((handsIdle_hide (h_sub := rfl) ..).trans (raiseErr_hide (h_sub := rfl) ..)) p hp

theorem grpOf_ovfMarked : grpOf (ovfMarked s d g) g = (grpOf s g).stoppedByOvf :=
  (ovfMarked_part s d g (grpOf · g) fun _ => rfl).trans (grpOf_setGrp_same ..)

theorem otherGroups_ovfMarked : s.otherGroups g (ovfMarked s d g) := ⟨fun g' hg =>
  (ovfMarked_part s d g (grpOf · g') fun _ => rfl).trans (grpOf_setGrp_other _ _ hg)⟩

theorem ovfMarked_regs : (ovfMarked s d g).regs = (raiseErr (setGrp s g (grpOf s g).stoppedByOvf) (Reg.FOLD_GRP_STATUS g) 3 2 0x0480 g).regs :=
  part_of_hide (handsIdle_hide (m := 131072) (h_sub := rfl) ..) State.regs fun _ => rfl

theorem ovfMarked_flag : flagSet (ovfMarked s d g) (Reg.FOLD_GRP_STATUS g) 3 = true := by
  rw [flagSet, ovfMarked_regs]; exact flagSet_groupRaised (setGrp s g _) g (by decide)

theorem ovfMarked_flagsStay : s.groupFlagsStay g (ovfMarked s d g) :=
  (groupFlagsStay_of_regs (s := s) (t := setGrp s g (grpOf s g).stoppedByOvf) rfl).trans
    ((groupFlagsStay_raise _ g _).trans (groupFlagsStay_of_regs (ovfMarked_regs s d g)))

theorem newestLog_ovfMarked : ((ovfMarked s d g).newestLog.map fun e => (e.event, e.cls)) = some (1, 2) :=
  (congrArg (Option.map _) (part_of_hide (handsIdle_hide (m := 131072) (h_sub := rfl) ..) State.newestLog fun _ => rfl)).trans
    (newestLog_raiseErr ..)

variable (fold cause : Nat) (so : Sample)

/-- The state once an overflow has ended the open segment, or the one still to be written: it is one of the closed ones. -/
def ovfClosed (u : State) (seg : SegSt) (last : Sample) (extra : Nat) (ovf : List Byte) : State :=
  setGrp (writeDescriptors u d g seg last extra ovf) g { grpOf (writeDescriptors u d g seg last extra ovf) g with
    closed := if (grpOf s g).closing.isSome then (grpOf s g).closed else (grpOf s g).closed + 1, lastSeg := some seg }

/-- An overflow marks its group stopped: with its segment among the closed ones where it has one, else as it was. -/
theorem stopOvf_cases :
    (∃ u seg last extra ovf, s.keepsGroups u ∧ stopOvf s d g fold cause so = ovfMarked (ovfClosed s d g u seg last extra ovf) d g) ∨
    ((grpOf s g).closing.isSome = true ∨ (grpOf s g).seg = none) ∧ ∃ u, s.keepsGroups u ∧ stopOvf s d g fold cause so = ovfMarked u d g := by
  unfold stopOvf; dsimp only
  split
  · refine .inl ⟨_, _, _, _, _, ?_, rfl⟩
    exact State.keepsGroups.foldl_fst (β := Option Sample) (fun p f => stopFold_keepsGroups p.1 d f so) _ (s, none)
  · next hnone =>
    have hseg : (grpOf s g).closing.isSome = true ∨ (grpOf s g).seg = none := by
      by_cases h : (grpOf s g).closing.isSome = true
      · exact .inl h
      · rw [if_neg h] at hnone; exact .inr hnone
    split
    · exact .inr ⟨hseg, s, .refl s, rfl⟩
    · refine .inr ⟨hseg, _, ?_, rfl⟩
      exact State.keepsGroups.foldl (fun s f => (putLogical_keepsGroups s d f _ _).trans (putLogical_keepsGroups _ d f _ _)) _ s

theorem ovfClosed_grp {u : State} (hu : s.keepsGroups u) (seg : SegSt) (last : Sample) (extra : Nat) (ovf : List Byte) :
    grpOf (ovfClosed s d g u seg last extra ovf) g = { grpOf s g with
      closing := none, lastSeg := some seg
      closed := if (grpOf s g).closing.isSome then (grpOf s g).closed else (grpOf s g).closed + 1 } := by
  rw [ovfClosed, grpOf_setGrp_same, grpOf_writeDescriptors, hu.grpOf]

theorem grpOf_stopOvf : ∃ n seg, grpOf (stopOvf s d g fold cause so) g = { (grpOf s g).stoppedByOvf with closed := n, lastSeg := seg } ∧
    ((grpOf s g).closing.isSome = true → n = (grpOf s g).closed) ∧
    ((grpOf s g).closing = none → (grpOf s g).seg.isSome = true → n = (grpOf s g).closed + 1) := by
  rcases stopOvf_cases s d g fold cause so with ⟨u, seg, last, extra, ovf, hu, h⟩ | ⟨hseg, u, hu, h⟩
  · refine ⟨if (grpOf s g).closing.isSome then (grpOf s g).closed else (grpOf s g).closed + 1, some seg, ?_, fun hc => if_pos hc,
      fun hc _ => if_neg (by rw [hc]; decide)⟩
    rw [h, grpOf_ovfMarked, ovfClosed_grp s d g hu]
    rfl
  · refine ⟨(grpOf s g).closed, (grpOf s g).lastSeg, ?_, fun _ => rfl, fun hc hs => ?_⟩
    · rw [h, grpOf_ovfMarked, hu.grpOf]; rfl
    · rcases hseg with hseg | hseg
      · rw [hc] at hseg; cases hseg
      · rw [hseg] at hs; cases hs

theorem otherGroups_stopOvf : s.otherGroups g (stopOvf s d g fold cause so) := by
  rcases stopOvf_cases s d g fold cause so with ⟨u, seg, last, extra, ovf, hu, h⟩ | ⟨-, u, hu, h⟩
  · rw [h]
    exact hu.otherGroups.trans ((otherGroups_writeDescriptors ..).trans ((otherGroups_setGrp ..).trans (otherGroups_ovfMarked ..)))
  · rw [h]; exact hu.otherGroups.trans (otherGroups_ovfMarked ..)

/-- What an overflow ends with: the group is marked. -/
theorem stopOvf_marks : ∃ u, stopOvf s d g fold cause so = ovfMarked u d g := by
  rcases stopOvf_cases s d g fold cause so with ⟨_, _, _, _, _, -, h⟩ | ⟨-, u, -, h⟩
  · exact ⟨_, h⟩
  · exact ⟨u, h⟩

theorem stopOvf_flag : flagSet (stopOvf s d g fold cause so) (Reg.FOLD_GRP_STATUS g) 3 = true := by
  obtain ⟨u, h⟩ := stopOvf_marks s d g fold cause so
  rw [h]; exact ovfMarked_flag ..

theorem newestLog_stopOvf : ((stopOvf s d g fold cause so).newestLog.map fun e => (e.event, e.cls)) = some (1, 2) := by
  obtain ⟨u, h⟩ := stopOvf_marks s d g fold cause so
  rw [h]; exact newestLog_ovfMarked ..

theorem stopOvf_flagsStay (hg : g < 16) : s.groupFlagsStay g (stopOvf s d g fold cause so) := by
  rcases stopOvf_cases s d g fold cause so with ⟨u, seg, last, extra, ovf, hu, h⟩ | ⟨-, u, hu, h⟩
  · have hset (v : State) (x : GroupSt) : v.groupFlagsStay g (setGrp v g x) := groupFlagsStay_of_regs rfl
    rw [h]
    exact (hu.groupFlagsStay hg).trans ((writeDescriptors_flagsStay _ _ _ _ _ _ _ hg).trans ((hset _ _).trans (ovfMarked_flagsStay ..)))
  · rw [h]; exact (hu.groupFlagsStay hg).trans (ovfMarked_flagsStay ..)

end

/-! Closing (R175, R176) -/

/-- One fold's turn at a close: it stores what remains, unless a fold before it has found no room. -/
def restStored (d : DeckImage) (last : Sample) (a : State × Option (Nat × Nat × Sample)) (f : Nat) : State × Option (Nat × Nat × Sample) :=
  match a.2 with
  | some _ => a
  | none => ((storeRest a.1 d f last).1, (storeRest a.1 d f last).2.map fun i => (f, i))

section
variable (d : DeckImage) (last : Sample)

theorem restStored_keepsGroups (a : State × Option (Nat × Nat × Sample)) (f : Nat) : a.1.keepsGroups (restStored d last a f).1 := by
  unfold restStored
  split
  · exact .refl _
  · exact storeRest_keepsGroups ..

/-- The fold that found no room is one of those, and no raw FULL fold. -/
theorem foldl_restStored_full {f : Nat} {c : Nat × Sample} : ∀ (l : List Nat) (a : State × Option (Nat × Nat × Sample)),
    (l.foldl (restStored d last) a).2 = some (f, c) → a.2 = some (f, c) ∨ f ∈ l ∧ ¬(fRed d f = 0 ∧ fIsComp d f = false)
  | [], _, h => .inl h
  | k :: l, a, h => by
    rcases foldl_restStored_full l _ h with h | ⟨hf, hraw⟩
    · unfold restStored at h
      split at h
      · exact .inl h
      · obtain ⟨c', hc, he⟩ := Option.map_eq_some_iff.1 h
        obtain ⟨rfl, rfl⟩ := Prod.mk.inj he
        refine .inr ⟨List.mem_cons_self, fun ⟨hred, hcomp⟩ => ?_⟩
        rw [storeRest_raw hred hcomp] at hc
        cases hc
    · exact .inr ⟨List.mem_cons_of_mem _ hf, hraw⟩

end

section
variable {s : State} (d : DeckImage) {g : Nat}

theorem finishClose_none (h : (grpOf s g).closing = none) : finishClose s d g = s := by
  unfold finishClose; dsimp only; rw [h]

/-- What a close that is due comes to: its descriptors are written, or one of its folds, not a raw FULL one, has found no room. -/
theorem finishClose_cases {last : Sample} {extra : Nat} {seg : SegSt} (hc : (grpOf s g).closing = some (last, extra))
    (hseg : (grpOf s g).lastSeg = some seg) :
    (∃ u seg', s.keepsGroups u ∧ finishClose s d g = writeDescriptors u d g seg' last extra []) ∨
    ∃ u, s.keepsGroups u ∧ ∃ f ∈ gFolds d g, ¬(fRed d f = 0 ∧ fIsComp d f = false) ∧ ∃ c so, finishClose s d g = stopOvf u d g f c so := by
  have hrest := State.keepsGroups.foldl_fst (restStored_keepsGroups d last) (gFolds d g) (s, none)
  have hfull := @foldl_restStored_full d last
  have hclose : finishClose s d g = match ((gFolds d g).foldl (restStored d last) (s, none)).2 with
      | some (f, c, i) => stopOvf ((gFolds d g).foldl (restStored d last) (s, none)).1 d g f c (min i (last + 1))
      | none => writeDescriptors ((gFolds d g).foldl (restStored d last) (s, none)).1 d g
          (if seg.trig.isSome then seg else { seg with post := (grpOf s g).post }) last extra [] := by
    unfold finishClose; dsimp only; rw [hc, hseg]; rfl
  rw [hclose]
  split
  · next f c i h =>
    rcases hfull _ _ h with h | ⟨hf, hraw⟩
    · cases h
    · exact .inr ⟨_, hrest, f, hf, hraw, _, _, rfl⟩
  · exact .inl ⟨_, _, hrest, rfl⟩

/-- A close that is not due, or whose segment is not known, changes nothing. -/
theorem finishClose_idle (h : (grpOf s g).closing = none ∨ (grpOf s g).lastSeg = none) : finishClose s d g = s := by
  unfold finishClose; dsimp only
  split
  · next hc hl => rw [hc, hl] at h; simp at h
  · rfl

theorem otherGroups_finishClose : s.otherGroups g (finishClose s d g) := by
  by_cases h : (grpOf s g).closing = none ∨ (grpOf s g).lastSeg = none
  · rw [finishClose_idle d h]; exact .refl s
  · obtain ⟨hc, hl⟩ := not_or.1 h
    obtain ⟨⟨last, extra⟩, hc⟩ := Option.ne_none_iff_exists'.1 hc
    obtain ⟨seg, hl⟩ := Option.ne_none_iff_exists'.1 hl
    rcases finishClose_cases d hc hl with ⟨u, seg', hu, h⟩ | ⟨u, hu, f, -, -, c, so, h⟩
    · rw [h]; exact hu.otherGroups.trans (otherGroups_writeDescriptors ..)
    · rw [h]; exact hu.otherGroups.trans (otherGroups_stopOvf ..)

/-- What a close leaves of its group: its state, or STOPPED_OVF with no open segment; POST and the count of closed segments stay. -/
theorem grpOf_finishClose :
    grpOf (finishClose s d g) g = grpOf s g ∨ grpOf (finishClose s d g) g = { grpOf s g with closing := none } ∨
    (grpOf s g).closing.isSome = true ∧ ∃ seg, grpOf (finishClose s d g) g = { (grpOf s g).stoppedByOvf with lastSeg := seg } := by
  by_cases h : (grpOf s g).closing = none ∨ (grpOf s g).lastSeg = none
  · rw [finishClose_idle d h]; exact .inl rfl
  · obtain ⟨hc, hl⟩ := not_or.1 h
    obtain ⟨⟨last, extra⟩, hc⟩ := Option.ne_none_iff_exists'.1 hc
    obtain ⟨seg, hl⟩ := Option.ne_none_iff_exists'.1 hl
    rcases finishClose_cases d hc hl with ⟨u, seg', hu, h⟩ | ⟨u, hu, f, -, -, c, so, h⟩
    · right; left; rw [h, grpOf_writeDescriptors, hu.grpOf]
    · right; right
      obtain ⟨n, seg', hgrp, hn, -⟩ := grpOf_stopOvf u d g f c so
      rw [hu.grpOf] at hgrp hn
      exact ⟨by rw [hc]; rfl, seg', by rw [h, hgrp, hn (by rw [hc]; rfl)]; rfl⟩

end

end Sys2Proof.Machine

/-!
PROOF. The changes that a group makes by itself (R168-R170, R174): the end of its post part, a re-arm and the end of prefill. Each is of
its own group only.
-/

namespace Sys2Proof.Machine

/-! Opening (R169, R174) -/

/-- The group with segment `k` open from epoch `e`. -/
def GroupSt.opened (d : DeckImage) (g k : Nat) (e : Sample) (x : GroupSt) : GroupSt := { x with
  st := if gPre d g = 0 then .armed else .prefill, seg := some { seg := k, epoch := e }, ignored := 0, holdEnd := none, epoch := e, closing := none }

section
variable (s : State) (d : DeckImage) (g k : Nat) (e : Sample)

/-- The state in which the group's folds have begun segment `k`. -/
def foldsBegun : State :=
  (gFolds d g).foldl (fun s f => compOpen (putLogical (setFold s f { seg := k, epoch := e, next := e, base := e }) d f (segBase d f k + 0x2C)
    (leBytes 4 0)) d f) s

theorem foldsBegun_keepsGroups : s.keepsGroups (foldsBegun s d g k e) :=
  .foldl (fun s f => (setFold_keepsGroups s f _).trans ((putLogical_keepsGroups _ d f _ _).trans
    (.of_hide (compOpen_hide (m := 1048576) (h_sub := rfl) ..) rfl rfl))) _ _

/-- Whether the group's last segment overflows as it closes, so that it stays stopped (R182). -/
def closeOverflows : Bool := (grpOf s g).closing.isSome && (grpOf (finishClose s d g) g).st == .stoppedOvf

theorem openSegment_eq : openSegment s d g k e = if closeOverflows s d g then finishClose s d g else
    armResets (setGrp (foldsBegun (finishClose s d g) d g k e) g ((grpOf (foldsBegun (finishClose s d g) d g k e) g).opened d g k e)) d g e := rfl

theorem armResets_folds (i : Sample) : (armResets s d g i).folds = s.folds :=
  part_of_hide (armResets_hide (m := 426242) (h_sub := rfl) ..) State.folds fun _ => rfl

theorem otherGroups_openSegment : s.otherGroups g (openSegment s d g k e) := by
  rw [openSegment_eq]
  have hclose := otherGroups_finishClose (s := s) d (g := g)
  split
  · exact hclose
  · exact hclose.trans ((foldsBegun_keepsGroups ..).otherGroups.trans
      ((otherGroups_setGrp ..).trans (otherGroups_of_folds (armResets_folds ..))))

theorem grpOf_openSegment_opened (h : closeOverflows s d g = false) :
    grpOf (openSegment s d g k e) g = (grpOf (finishClose s d g) g).opened d g k e := by
  rw [openSegment_eq, h, if_neg Bool.false_ne_true, grpOf_of_folds (armResets_folds ..), grpOf_setGrp_same,
    (foldsBegun_keepsGroups ..).grpOf]

/-- A group that is not in STOPPED_OVF opens its segment, or its last one has overflowed as it closed. -/
theorem grpOf_openSegment {s : State} {g : Nat} (hst : (grpOf s g).st ≠ .stoppedOvf) :
    grpOf (openSegment s d g k e) g = (grpOf s g).opened d g k e ∨
    (grpOf s g).closing.isSome = true ∧ ∃ seg, grpOf (openSegment s d g k e) g = { (grpOf s g).stoppedByOvf with lastSeg := seg } := by
  cases h : closeOverflows s d g with
  | true =>
    right
    have hgrp : grpOf (openSegment s d g k e) g = grpOf (finishClose s d g) g := by rw [openSegment_eq, h, if_pos rfl]
    obtain ⟨-, hovf⟩ : _ ∧ _ := by simpa [closeOverflows] using h
    rcases grpOf_finishClose (s := s) d (g := g) with hc | hc | ⟨hclosing, seg, hc⟩
    · exact absurd (hc ▸ hovf) hst
    · rw [hc] at hovf; exact absurd hovf hst
    · exact ⟨hclosing, seg, hgrp.trans hc⟩
  | false =>
    rw [grpOf_openSegment_opened s d g k e h]
    rcases grpOf_finishClose (s := s) d (g := g) with hc | hc | ⟨hclosing, seg, hc⟩
    · rw [hc]; exact .inl rfl
    · rw [hc]; exact .inl rfl
    · simp [closeOverflows, hclosing, hc, GroupSt.stoppedByOvf] at h

end

/-! The end of the post part, and re-arming (R174) -/

/-- The group once its post part has ended: in HOLDOFF, or in STOPPED after the last segment. -/
def GroupSt.postEnded (d : DeckImage) (g : Nat) (seg : SegSt) (x : GroupSt) : GroupSt := { x with
  st := if gSegments d g ≤ x.closed + 1 then .stopped else .holdoff
  seg := none, lastSeg := some seg, closed := x.closed + 1, closing := some (seg.postEnd - 1, 0) }

section
variable {s : State} (d : DeckImage) {g : Nat}

theorem endPost_last {seg : SegSt} (hseg : (grpOf s g).seg = some seg) (h : gSegments d g ≤ (grpOf s g).closed + 1) : endPost s d g =
    handsIdle (raiseBit (endSegment s g (seg.postEnd - 1) 0 .stopped) (Reg.FOLD_GRP_STATUS g) 2) d := by
  unfold endPost; dsimp only; rw [hseg]; exact if_pos h

theorem endPost_more {seg : SegSt} (hseg : (grpOf s g).seg = some seg) (h : ¬gSegments d g ≤ (grpOf s g).closed + 1) :
    endPost s d g = endSegment s g (seg.postEnd - 1) 0 .holdoff := by
  unfold endPost; dsimp only; rw [hseg]; exact if_neg h

theorem endPost_none (hseg : (grpOf s g).seg = none) : endPost s d g = s := by
  unfold endPost; dsimp only; rw [hseg]

theorem grpOf_endPost {seg : SegSt} (hseg : (grpOf s g).seg = some seg) : grpOf (endPost s d g) g = (grpOf s g).postEnded d g seg := by
  by_cases h : gSegments d g ≤ (grpOf s g).closed + 1
  · rw [endPost_last d hseg h, grpOf_handsIdle, raiseBit_part _ _ _ (grpOf · g) fun _ => rfl, endSegment, grpOf_setGrp_same, hseg,
      GroupSt.postEnded, if_pos h]
  · rw [endPost_more d hseg h, endSegment, grpOf_setGrp_same, hseg, GroupSt.postEnded, if_neg h]

theorem otherGroups_endPost : s.otherGroups g (endPost s d g) := by
  cases hseg : (grpOf s g).seg with
  | none => rw [endPost_none d hseg]; exact .refl s
  | some seg =>
    by_cases h : gSegments d g ≤ (grpOf s g).closed + 1
    · rw [endPost_last d hseg h]
      have hset := otherGroups_setGrp s g { grpOf s g with
        st := .stopped, seg := none, lastSeg := (grpOf s g).seg, closed := (grpOf s g).closed + 1, closing := some (seg.postEnd - 1, 0) }
      exact ⟨fun g' hg => (grpOf_handsIdle ..).trans ((raiseBit_part _ _ _ (grpOf · g') fun _ => rfl).trans (hset.grp g' hg))⟩
    · rw [endPost_more d hseg h]; exact otherGroups_setGrp ..

/-- The last segment's end sets SEGS_DONE. -/
theorem endPost_flag {seg : SegSt} (hseg : (grpOf s g).seg = some seg) (h : gSegments d g ≤ (grpOf s g).closed + 1) :
    flagSet (endPost s d g) (Reg.FOLD_GRP_STATUS g) 2 = true := by
  rw [endPost_last d hseg h, flagSet, part_of_hide (handsIdle_hide (m := 131072) (h_sub := rfl) _ d) State.regs fun _ => rfl]
  exact flagSet_groupRaised _ g (by decide)

theorem reArm_opens (sr : Sample) (h : redealNames s g = false) : reArm s d g sr = openSegment s d g (grpOf s g).closed sr :=
  if_neg (by rw [h]; decide)

theorem reArm_waits (sr : Sample) {r : RedealSt} (h : redealNames s g = true) (hr : s.deck.redeal = some r) :
    reArm s d g sr = s.setDeck { s.deck with redeal := some { r with waiting := assocSet r.waiting g sr } } := by
  unfold reArm; rw [if_pos h, hr]; rfl

theorem redealNames_some (h : redealNames s g = true) : ∃ r, s.deck.redeal = some r := by
  unfold redealNames at h
  split at h
  · next r hr => exact ⟨r, hr⟩
  · cases h

theorem rearmAt_congr {u : State} (hg : grpOf u g = grpOf s g) (hd : actDeck u = actDeck s) : rearmAt u g = rearmAt s g := by
  unfold rearmAt groupLen rateK
  rw [hg, hd]

/-- Where the re-arm is known, so is the segment that it follows. -/
theorem rearmAt_lastSeg {sr : Sample} (h : rearmAt s g = some sr) : (grpOf s g).lastSeg.isSome = true := by
  unfold rearmAt at h; dsimp only at h
  split at h
  · next hl _ => rw [hl]; rfl
  · cases h

end

/-! The scheduled changes (R168) -/

section
variable (s : State) (d : DeckImage) (g : Nat) (i : Sample)

/-- What a group's own change is. -/
theorem ownChange_cases : ownChange s d g i = s ∨
    (∃ seg, (grpOf s g).st = .post ∧ (grpOf s g).seg = some seg ∧ seg.postEnd ≤ i ∧ ownChange s d g i = endPost s d g) ∨
    (∃ sr, (grpOf s g).st = .holdoff ∧ rearmAt s g = some sr ∧ sr ≤ i ∧ ownChange s d g i = reArm s d g sr) ∨
    (∃ seg, (grpOf s g).st = .prefill ∧ (grpOf s g).seg = some seg ∧ seg.epoch + gPre d g ≤ i ∧
      ownChange s d g i = setGrp s g { grpOf s g with st := .armed }) := by
  unfold ownChange; dsimp only
  split
  · next seg hst hseg =>
    split
    · next h => exact .inr (.inl ⟨seg, hst, hseg, h, rfl⟩)
    · exact .inl rfl
  · next hst =>
    split
    · next sr hsr =>
      split
      · next h => exact .inr (.inr (.inl ⟨sr, hst, hsr, h, rfl⟩))
      · exact .inl rfl
    · exact .inl rfl
  · next seg hst hseg =>
    split
    · next h => exact .inr (.inr (.inr ⟨seg, hst, hseg, h, rfl⟩))
    · exact .inl rfl
  · exact .inl rfl

/-- A group changes by itself as its state says: its post part ends, it re-arms, or its prefill ends. -/
theorem grpOf_ownChange : grpOf (ownChange s d g i) g = grpOf s g ∨
    (∃ seg, (grpOf s g).st = .post ∧ grpOf (ownChange s d g i) g = (grpOf s g).postEnded d g seg) ∨
    ((grpOf s g).st = .holdoff ∧ ((∃ k e, grpOf (ownChange s d g i) g = (grpOf s g).opened d g k e) ∨
      ∃ seg, grpOf (ownChange s d g i) g = { (grpOf s g).stoppedByOvf with lastSeg := seg })) ∨
    ((grpOf s g).st = .prefill ∧ (grpOf s g).seg.isSome = true ∧ grpOf (ownChange s d g i) g = { grpOf s g with st := .armed }) := by
  rcases ownChange_cases s d g i with h | ⟨seg, hst, hseg, -, h⟩ | ⟨sr, hst, -, -, h⟩ | ⟨seg, hst, hseg, -, h⟩
  · rw [h]; exact .inl rfl
  · exact .inr (.inl ⟨seg, hst, by rw [h]; exact grpOf_endPost d hseg⟩)
  · cases hr : redealNames s g with
    | true =>
      obtain ⟨r, hredeal⟩ := redealNames_some hr
      rw [h, reArm_waits d sr hr hredeal]; exact .inl rfl
    | false =>
      rw [h, reArm_opens d sr hr]
      refine .inr (.inr (.inl ⟨hst, ?_⟩))
      rcases grpOf_openSegment d (grpOf s g).closed sr (s := s) (g := g) (by rw [hst]; decide) with ho | ⟨-, seg, ho⟩
      · exact .inl ⟨_, _, ho⟩
      · exact .inr ⟨seg, ho⟩
  · exact .inr (.inr (.inr ⟨hst, by rw [hseg]; rfl, by rw [h, grpOf_setGrp_same]⟩))

theorem otherGroups_ownChange : s.otherGroups g (ownChange s d g i) := by
  rcases ownChange_cases s d g i with h | ⟨seg, -, -, -, h⟩ | ⟨sr, -, -, -, h⟩ | ⟨seg, -, -, -, h⟩
  · rw [h]; exact .refl s
  · rw [h]; exact otherGroups_endPost d
  · cases hr : redealNames s g with
    | true =>
      obtain ⟨r, hredeal⟩ := redealNames_some hr
      rw [h, reArm_waits d sr hr hredeal]; exact otherGroups_of_folds rfl
    | false => rw [h, reArm_opens d sr hr]; exact otherGroups_openSegment ..
  · rw [h]; exact otherGroups_setGrp ..

theorem otherGroups_settle : s.otherGroups g (settle s d g i) :=
  (otherGroups_ownChange ..).trans ((otherGroups_ownChange ..).trans (otherGroups_ownChange ..))

/-- POST in force stays through a group's own changes. -/
theorem ownChange_post : (grpOf (ownChange s d g i) g).post = (grpOf s g).post := by
  rcases grpOf_ownChange s d g i with h | ⟨_, -, h⟩ | ⟨-, ⟨_, _, h⟩ | ⟨_, h⟩⟩ | ⟨-, -, h⟩ <;> rw [h] <;> rfl

theorem actDeck_of_deckCore {s t : State} (h : t.deckCore = s.deckCore) : actDeck t = actDeck s :=
  congrArg (Option.map Prod.snd) (congrArg DeckSt.active (show t.deck.core = s.deck.core from h) : _)

theorem actDeck_settle : actDeck (settle s d g i) = actDeck s := actDeck_of_deckCore (settle_deckCore s d g i)

end

section
variable {s : State} {d : DeckImage} {g : Nat} {i : Sample}

/-- A step that the state stands still under is no change however often it is taken. -/
theorem settle_of_ownChange (h : ownChange s d g i = s) : settle s d g i = s := by unfold settle; rw [h, h, h]

theorem ownChange_postGoesOn {seg : SegSt} (hst : (grpOf s g).st = .post) (hseg : (grpOf s g).seg = some seg) (h : i < seg.postEnd) :
    ownChange s d g i = s := by
  unfold ownChange; dsimp only; rw [hst, hseg]; exact if_neg (Nat.not_le.2 h)

theorem ownChange_postEnds {seg : SegSt} (hst : (grpOf s g).st = .post) (hseg : (grpOf s g).seg = some seg) (h : seg.postEnd ≤ i) :
    ownChange s d g i = endPost s d g := by
  unfold ownChange; dsimp only; rw [hst, hseg]; exact if_pos h

theorem ownChange_holdoff (hst : (grpOf s g).st = .holdoff) (h : ∀ sr, rearmAt s g = some sr → i < sr) : ownChange s d g i = s := by
  rcases ownChange_cases s d g i with hc | ⟨_, hst', -, -, -⟩ | ⟨sr, -, hsr, hle, -⟩ | ⟨_, hst', -, -, -⟩
  · exact hc
  · rw [hst] at hst'; cases hst'
  · exact absurd hle (Nat.not_le.2 (h sr hsr))
  · rw [hst] at hst'; cases hst'

theorem ownChange_prefill {seg : SegSt} (hst : (grpOf s g).st = .prefill) (hseg : (grpOf s g).seg = some seg) :
    ownChange s d g i = if seg.epoch + gPre d g ≤ i then setGrp s g { grpOf s g with st := .armed } else s := by
  unfold ownChange; dsimp only; rw [hst, hseg]

/-- A group in PREFILL, at a sample by which its prefill is complete, is ARMED. -/
theorem grpOf_settle_prefill {seg : SegSt} (hst : (grpOf s g).st = .prefill) (hseg : (grpOf s g).seg = some seg) :
    grpOf (settle s d g i) g = { grpOf s g with st := if seg.epoch + gPre d g ≤ i then .armed else .prefill } := by
  by_cases h : seg.epoch + gPre d g ≤ i
  · have hstep : ownChange s d g i = setGrp s g { grpOf s g with st := .armed } := (ownChange_prefill hst hseg).trans (if_pos h)
    have hstill := ownChange_still (s := setGrp s g { grpOf s g with st := .armed }) d (g := g) i (.inl (by rw [grpOf_setGrp_same]))
    rw [settle, hstep, hstill, hstill, grpOf_setGrp_same, if_pos h]
  · rw [settle_of_ownChange ((ownChange_prefill hst hseg).trans (if_neg h)), if_neg h, ← hst]

end

/-! Several groups -/

section
variable (d : DeckImage) (i : Sample)

@[simp] theorem settleAll_cons (s : State) (a : Nat) (gs : List Nat) : settleAll s d (a :: gs) i = settleAll (settle s d a i) d gs i := rfl

theorem grpOf_settleAll_other {g : Nat} : ∀ (gs : List Nat) (s : State), g ∉ gs → grpOf (settleAll s d gs i) g = grpOf s g
  | [], _, _ => rfl
  | a :: gs, s, h => by
    obtain ⟨hne, hnot⟩ := not_or.1 (mt List.mem_cons.2 h)
    rw [settleAll_cons, grpOf_settleAll_other gs _ hnot]
    exact (otherGroups_settle s d a i).grp g hne

/-- A group named once settles as it does alone, in a state with the same deck. -/
theorem grpOf_settleAll {g : Nat} : ∀ {gs : List Nat} (s : State), gs.Nodup → g ∈ gs →
    ∃ u, grpOf u g = grpOf s g ∧ actDeck u = actDeck s ∧ grpOf (settleAll s d gs i) g = grpOf (settle u d g i) g
  | [], _, _, h => absurd h List.not_mem_nil
  | a :: gs, s, hnd, h => by
    obtain ⟨hnot, hnd⟩ := List.nodup_cons.1 hnd
    rcases List.mem_cons.1 h with rfl | h
    · exact ⟨s, rfl, rfl, by rw [settleAll_cons, grpOf_settleAll_other d i gs _ hnot]⟩
    · obtain ⟨u, hgrp, hd, hu⟩ := grpOf_settleAll (settle s d a i) hnd h
      rw [settleAll_cons]
      have hne : g ≠ a := fun he => hnot (he ▸ h)
      exact ⟨u, hgrp.trans ((otherGroups_settle s d a i).grp g hne), hd.trans (actDeck_settle s d a i), hu⟩

theorem maskGroups_nodup (m : BitVec 16) : (maskGroups m).Nodup := List.nodup_range.filter _

/-- Groups that make no change of their own settle to the same state. -/
theorem settleAll_still {s : State} : ∀ {gs : List Nat}, (∀ g ∈ gs, groupDone s g = true) → settleAll s d gs i = s
  | [], _ => rfl
  | g :: gs, h => by
    rw [settleAll_cons, settle_still d i (.inr (h g List.mem_cons_self))]
    exact settleAll_still fun g' hg' => h g' (List.mem_cons_of_mem _ hg')

end

end Sys2Proof.Machine

/-!
PROOF. The rows of a closing segment, of an overflow and of a re-arm (R169, R174, R175, R181): the two obligations about them.
-/

namespace Sys2Proof.Machine

/-- When a fold overflows (R181): with cause RATE in a group that stores, with cause SPACE in POST where it has no capacity or is compressed. -/
def foldOverflows (d : DeckImage) (f : Nat) (cause : Byte) (u : State) : Prop :=
  cause = 1 ∧ storing u (fGroup d f) = true ∨ cause = 2 ∧ (grpOf u (fGroup d f)).st = .post ∧ (foldCap d f = none ∨ fIsComp d f = true)

section
variable {s : State} {d : DeckImage} (hd : actDeck s = some d)
include hd

theorem exec_segmentClose (g : Fin 16) :
    exec (.segmentClose g) s = .next (finishClose (if (grpOf s g).st = .post then endPost s d g else s) d g) := by
  change execSegmentClose g s = _
  unfold execSegmentClose; rw [hd]

theorem exec_holdoffEnd (g : Fin 16) {sr : Sample} (hst : (grpOf s g).st = .holdoff) (hsr : rearmAt s g = some sr) :
    exec (.holdoffEnd g) s = .next (reArm s d g sr) := by
  change execHoldoffEnd g s = _
  unfold execHoldoffEnd; rw [hd, hst, hsr]

theorem exec_holdoffEnd_none (g : Fin 16) (h : (grpOf s g).st ≠ .holdoff ∨ rearmAt s g = none) : exec (.holdoffEnd g) s = .next s := by
  change execHoldoffEnd g s = _
  unfold execHoldoffEnd; rw [hd]; dsimp only
  split
  · next sr hst hsr =>
    rcases h with h | h
    · exact absurd hst h
    · rw [h] at hsr; cases hsr
  · rfl

variable (f : Fin 64) (cause : Byte) (so : Sample) (hv : fV d f = true)
include hv

theorem exec_foldOverflow (h : foldOverflows d f cause (settle s d (fGroup d f) so)) : ∃ c,
    exec (.foldOverflow f cause so) s = .next (stopOvf (settle s d (fGroup d f) so) d (fGroup d f) f c so) := by
  change ∃ c, execFoldOverflow f cause so s = _
  unfold execFoldOverflow; rw [hd]; dsimp only
  rw [hv, if_neg (by decide)]
  rcases h with h | ⟨hc, hst, hcap⟩
  · exact ⟨1, if_pos h⟩
  · refine ⟨2, ?_⟩
    rw [if_neg (by rw [hc]; rintro ⟨h, -⟩; cases h), if_pos ⟨hc, hst, by simpa using hcap⟩]

theorem exec_foldOverflow_none (h : ¬foldOverflows d f cause (settle s d (fGroup d f) so)) : exec (.foldOverflow f cause so) s = .next s := by
  obtain ⟨hrate, hspace⟩ := not_or.1 h
  change execFoldOverflow f cause so s = _
  unfold execFoldOverflow; rw [hd]; dsimp only
  rw [hv, if_neg (by decide), if_neg hrate, if_neg (by simpa using hspace)]

end

/-- Settles O31: an overflow, whatever its cause, marks its group stopped after its open segment, if any, has ended. -/
theorem overflowStopsTheGroup : Obligations.OverflowStopsTheGroup := by
  unfold Obligations.OverflowStopsTheGroup
  rintro f cause so s u d g hd hv rfl rfl
  refine ⟨settle_still d so, fun h => ?_, exec_foldOverflow_none hd f cause so hv⟩
  obtain ⟨c, hexec⟩ := exec_foldOverflow hd f cause so hv h
  obtain ⟨n, seg, hgrp, -, hclosed⟩ := grpOf_stopOvf (settle s d (fGroup d f) so) d (fGroup d f) f c so
  refine ⟨_, hexec, ?_, ?_, ?_, stopOvf_flag .., fun hc hs => ?_, newestLog_stopOvf .., (otherGroups_stopOvf ..).grp,
    stopOvf_hide (h_sub := rfl) ..⟩
  · rw [hgrp]; rfl
  · rw [hgrp]; rfl
  · rw [hgrp]; rfl
  · rw [hgrp]; exact hclosed hc hs

/-! A segment that closes (R174, R175) -/

/-- Group `g` has closed the segment whose last sample is `last`, and is in state `st`; or one of its folds, not a raw FULL one, found no room. -/
def State.closesTo (t : State) (d : DeckImage) (g : Nat) (last : Sample) (st : GroupState) : Prop :=
  ((grpOf t g).st = st ∧ rd64 t (Reg.FOLD_GRP_LAST_LO g) = last % 2 ^ 64 ∧ flagSet t (Reg.FOLD_GRP_STATUS g) 1 = true) ∨
  ((grpOf t g).st = .stoppedOvf ∧ flagSet t (Reg.FOLD_GRP_STATUS g) 3 = true ∧ ∃ f ∈ gFolds d g, ¬(fRed d f = 0 ∧ fIsComp d f = false))

section
variable {s : State} (d : DeckImage) {g : Nat} {last : Sample} {extra : Nat} {seg : SegSt}
  (hc : (grpOf s g).closing = some (last, extra)) (hseg : (grpOf s g).lastSeg = some seg)
include hc hseg

/-- What a close that is due leaves of its group. -/
theorem finishClose_closes : (grpOf (finishClose s d g) g).closing = none ∧ (grpOf (finishClose s d g) g).closed = (grpOf s g).closed ∧
    (finishClose s d g).closesTo d g last (grpOf s g).st := by
  rcases finishClose_cases d hc hseg with ⟨u, seg', hu, h⟩ | ⟨u, hu, f, hf, hraw, c, so, h⟩
  · have hgrp : grpOf (finishClose s d g) g = { grpOf s g with closing := none } := by rw [h, grpOf_writeDescriptors, hu.grpOf]
    refine ⟨by rw [hgrp], by rw [hgrp], .inl ⟨by rw [hgrp], ?_, ?_⟩⟩
    · rw [h]; exact writeDescriptors_last ..
    · rw [h]; exact writeDescriptors_flag ..
  · obtain ⟨n, seg', hgrp, hn, -⟩ := grpOf_stopOvf u d g f c so
    rw [hu.grpOf] at hgrp hn
    rw [h]
    refine ⟨by rw [hgrp]; rfl, ?_, .inr ⟨by rw [hgrp]; rfl, stopOvf_flag .., f, hf, hraw⟩⟩
    rw [hgrp]; exact hn (by rw [hc]; rfl)

theorem finishClose_flagsStay (hg : g < 16) : s.groupFlagsStay g (finishClose s d g) := by
  rcases finishClose_cases d hc hseg with ⟨u, seg', hu, h⟩ | ⟨u, hu, f, -, -, c, so, h⟩
  · rw [h]; exact (hu.groupFlagsStay hg).trans (writeDescriptors_flagsStay _ _ _ _ _ _ _ hg)
  · rw [h]; exact (hu.groupFlagsStay hg).trans (stopOvf_flagsStay _ _ _ _ _ _ hg)

end

section
variable {s : State} {d : DeckImage} (hd : actDeck s = some d) (g : Fin 16)
include hd

/-- SEGMENT_CLOSE in POST: the post part ends, and what it ended is written. -/
theorem segmentClose_post {seg : SegSt} (hst : (grpOf s g).st = .post) (hseg : (grpOf s g).seg = some seg) :
    ∃ t, exec (.segmentClose g) s = .next t ∧ (grpOf t g).closing = none ∧ (grpOf t g).closed = (grpOf s g).closed + 1 ∧
      t.closesTo d g (seg.postEnd - 1) (if gSegments d g ≤ (grpOf s g).closed + 1 then .stopped else .holdoff) ∧
      (gSegments d g ≤ (grpOf s g).closed + 1 → flagSet t (Reg.FOLD_GRP_STATUS g) 2 = true) ∧ s.otherGroups g t ∧
      s.sameBut [.regs, .free, .pcie, .log, .mem, .deck, .hands, .folds, .comp, .shep] t := by
  have hgrp := grpOf_endPost d hseg
  have hc : (grpOf (endPost s d g) g).closing = some (seg.postEnd - 1, 0) := by rw [hgrp]; rfl
  have hl : (grpOf (endPost s d g) g).lastSeg = some seg := by rw [hgrp]; rfl
  obtain ⟨hnone, hclosed, hcloses⟩ := finishClose_closes d hc hl
  rw [hgrp] at hclosed hcloses
  refine ⟨finishClose (endPost s d g) d g, by rw [exec_segmentClose hd, if_pos hst], hnone, hclosed, hcloses, fun hlast => ?_,
    (otherGroups_endPost d).trans (otherGroups_finishClose d), (finishClose_hide (h_sub := rfl) ..).trans (endPost_hide (h_sub := rfl) ..)⟩
  exact (finishClose_flagsStay d hc hl g.isLt).flag 2 (by decide) (endPost_flag d hseg hlast)

/-- SEGMENT_CLOSE of a segment that has ended before: it is written. -/
theorem segmentClose_due {seg : SegSt} {last : Sample} {extra : Nat} (hst : (grpOf s g).st ≠ .post)
    (hc : (grpOf s g).closing = some (last, extra)) (hl : (grpOf s g).lastSeg = some seg) :
    ∃ t, exec (.segmentClose g) s = .next t ∧ (grpOf t g).closing = none ∧ (grpOf t g).closed = (grpOf s g).closed ∧
      t.closesTo d g last (grpOf s g).st ∧ s.otherGroups g t ∧
      s.sameBut [.regs, .free, .pcie, .log, .mem, .deck, .hands, .folds, .comp, .shep] t := by
  obtain ⟨hnone, hclosed, hcloses⟩ := finishClose_closes d hc hl
  exact ⟨finishClose s d g, by rw [exec_segmentClose hd, if_neg hst], hnone, hclosed, hcloses, otherGroups_finishClose d,
    finishClose_hide (h_sub := rfl) ..⟩

/-- HOLDOFF_END where no re-deal waits: the next segment opens, or the one still to be written overflows. -/
theorem holdoffEnd_opens {sr : Sample} (hst : (grpOf s g).st = .holdoff) (hsr : rearmAt s g = some sr) (hno : redealNames s g = false) :
    ∃ t, exec (.holdoffEnd g) s = .next t ∧
      (((grpOf t g).st = (if gPre d g = 0 then .armed else .prefill) ∧ (grpOf t g).epoch = sr ∧
          (grpOf t g).seg = some { seg := (grpOf s g).closed, epoch := sr }) ∨
        ((grpOf s g).closing.isSome = true ∧ (grpOf t g).st = .stoppedOvf)) ∧
      (grpOf t g).closing = none ∧ (grpOf t g).post = (grpOf s g).post ∧ s.otherGroups g t ∧
      s.sameBut [.regs, .free, .pcie, .log, .mem, .deck, .recog, .hands, .trig, .folds, .comp, .shep] t := by
  refine ⟨openSegment s d g (grpOf s g).closed sr, by rw [exec_holdoffEnd hd g hst hsr, reArm_opens d sr hno], ?_⟩
  have hframe : s.sameBut [.regs, .free, .pcie, .log, .mem, .deck, .recog, .hands, .trig, .folds, .comp, .shep]
      (openSegment s d g (grpOf s g).closed sr) := openSegment_hide (h_sub := rfl) ..
  have hothers := otherGroups_openSegment s d g (grpOf s g).closed sr
  rcases grpOf_openSegment d (grpOf s g).closed sr (s := s) (g := g) (by rw [hst]; decide) with h | ⟨hclosing, seg, h⟩
  · rw [h]; exact ⟨.inl ⟨rfl, rfl, rfl⟩, rfl, rfl, hothers, hframe⟩
  · rw [h]; exact ⟨.inr ⟨hclosing, rfl⟩, rfl, rfl, hothers, hframe⟩

end

/-- Settles O30: what is due of a segment is written once its post part has ended, and the next one opens at the re-arm. -/
theorem segmentsCloseAndReopen : Obligations.SegmentsCloseAndReopen := by
  unfold Obligations.SegmentsCloseAndReopen
  rintro g s d x hd rfl
  refine ⟨fun seg last extra h => ?_, fun hst hc => ?_, fun sr hst hsr => ⟨fun hno => ?_, fun r hr hredeal => ?_⟩, exec_holdoffEnd_none hd g⟩
  · rcases h with ⟨hst, hseg, -, rfl, rfl⟩ | ⟨hst, hl, hc⟩
    · obtain ⟨t, hexec, hnone, hclosed, hcloses, hdone, hothers, hframe⟩ := segmentClose_post hd g hst hseg
      simp only [if_pos hst]
      exact ⟨t, hexec, hnone, hclosed, hcloses, fun _ => hdone, hothers.grp, hframe⟩
    · obtain ⟨t, hexec, hnone, hclosed, hcloses, hothers, hframe⟩ := segmentClose_due hd g hst hc hl
      simp only [if_neg hst]
      exact ⟨t, hexec, hnone, hclosed, hcloses, fun hpost => absurd hpost hst, hothers.grp, hframe⟩
  · rw [exec_segmentClose hd, if_neg hst, finishClose_none d hc]
  · obtain ⟨t, hexec, hst', hnone, hpost, hothers, hframe⟩ := holdoffEnd_opens hd g hst hsr hno
    exact ⟨t, hexec, hst', hnone, hpost, hothers.grp, hframe⟩
  · rw [exec_holdoffEnd hd g hst hsr, reArm_waits d sr hr hredeal]

end Sys2Proof.Machine

/-!
PROOF. DISARM (R176): what a disarmed group is, group by group, after the changes that the group makes by itself.
-/

namespace Sys2Proof.Machine

/-- The group stopped within its segment, whose last sample is `last`. -/
def GroupSt.cut (last : Sample) (extra : Nat) (x : GroupSt) : GroupSt := { x with
  st := .stopped, seg := none, lastSeg := x.seg, closed := x.closed + 1, closing := some (last, extra) }

/-- The group disarmed at sample `i` (R176). -/
def GroupSt.disarmed (i : Sample) (x : GroupSt) : GroupSt :=
  match x.st, x.seg with
  | .prefill, some seg | .armed, some seg => if i ≤ seg.epoch then { x with st := .stopped, seg := none } else x.cut (i - 1) 8
  | .post, some _ => x.cut (i - 1) 0x20
  | .holdoff, _ => { x with st := .stopped }
  | _, _ => x

namespace GroupSt

variable {i : Sample} {x : GroupSt} {seg : SegSt}

theorem disarmed_waits (hst : x.st = .armed ∨ x.st = .prefill) (hseg : x.seg = some seg) :
    x.disarmed i = if i ≤ seg.epoch then { x with st := .stopped, seg := none } else x.cut (i - 1) 8 := by
  unfold disarmed; rw [hseg]
  rcases hst with h | h <;> rw [h]

theorem disarmed_post (hst : x.st = .post) (hseg : x.seg = some seg) : x.disarmed i = x.cut (i - 1) 0x20 := by
  unfold disarmed; rw [hst, hseg]

theorem disarmed_holdoff (hst : x.st = .holdoff) : x.disarmed i = { x with st := .stopped } := by
  unfold disarmed; rw [hst]

theorem disarmed_done (hst : x.st = .idle ∨ x.st = .stopped ∨ x.st = .stoppedOvf) : x.disarmed i = x := by
  unfold disarmed
  rcases hst with h | h | h <;> rw [h]

/-- A group that stores has a segment to store into. -/
def storesIntoSeg (x : GroupSt) : Prop := x.st = .prefill ∨ x.st = .armed ∨ x.st = .post → x.seg.isSome = true

/-- A disarmed group captures no more. -/
theorem disarmed_stops (h : x.storesIntoSeg) :
    (x.disarmed i).st = .idle ∨ (x.disarmed i).st = .stopped ∨ (x.disarmed i).st = .stoppedOvf := by
  cases hst : x.st with
  | idle => rw [disarmed_done (.inl hst)]; exact .inl hst
  | stopped => rw [disarmed_done (.inr (.inl hst))]; exact .inr (.inl hst)
  | stoppedOvf => rw [disarmed_done (.inr (.inr hst))]; exact .inr (.inr hst)
  | holdoff => rw [disarmed_holdoff hst]; exact .inr (.inl rfl)
  | post =>
    obtain ⟨seg, hseg⟩ := Option.isSome_iff_exists.1 (h (.inr (.inr hst)))
    rw [disarmed_post hst hseg]; exact .inr (.inl rfl)
  | armed =>
    obtain ⟨seg, hseg⟩ := Option.isSome_iff_exists.1 (h (.inr (.inl hst)))
    rw [disarmed_waits (.inl hst) hseg]
    split <;> exact .inr (.inl rfl)
  | prefill =>
    obtain ⟨seg, hseg⟩ := Option.isSome_iff_exists.1 (h (.inl hst))
    rw [disarmed_waits (.inr hst) hseg]
    split <;> exact .inr (.inl rfl)

end GroupSt

/-- A group's own changes leave it a segment to store into, where it stores. -/
theorem ownChange_storesIntoSeg {s : State} (d : DeckImage) {g : Nat} (i : Sample) (h : (grpOf s g).storesIntoSeg) :
    (grpOf (ownChange s d g i) g).storesIntoSeg := by
  rcases grpOf_ownChange s d g i with hg | ⟨seg, -, hg⟩ | ⟨-, ⟨k, e, hg⟩ | ⟨seg, hg⟩⟩ | ⟨-, hseg, hg⟩ <;> rw [hg]
  · exact h
  · intro hst; simp only [GroupSt.postEnded] at hst; split at hst <;> simp at hst
  · exact fun _ => rfl
  · intro hst; simp [GroupSt.stoppedByOvf] at hst
  · exact fun _ => hseg

theorem settle_storesIntoSeg {s : State} (d : DeckImage) {g : Nat} (i : Sample) (h : (grpOf s g).storesIntoSeg) :
    (grpOf (settle s d g i) g).storesIntoSeg :=
  ownChange_storesIntoSeg d i (ownChange_storesIntoSeg d i (ownChange_storesIntoSeg d i h))

/-- A group that waits for its trigger goes on waiting, in ARMED once its prefill is complete. -/
theorem grpOf_settle_waits {s : State} (d : DeckImage) {g : Nat} (i : Sample) {seg : SegSt}
    (hst : (grpOf s g).st = .armed ∨ (grpOf s g).st = .prefill) (hseg : (grpOf s g).seg = some seg) :
    ∃ st, (st = .armed ∨ st = .prefill) ∧ grpOf (settle s d g i) g = { grpOf s g with st := st } := by
  rcases hst with hst | hst
  · exact ⟨.armed, .inl rfl, by rw [settle_still d i (.inl hst), ← hst]⟩
  · refine ⟨_, ?_, grpOf_settle_prefill hst hseg⟩
    split
    · exact .inl rfl
    · exact .inr rfl

section
variable (i : Sample)

theorem grpOf_disarmGroup (s : State) (g : Nat) : grpOf (disarmGroup i s g) g = (grpOf s g).disarmed i := by
  unfold disarmGroup; dsimp only
  split
  · next hst hseg => rw [GroupSt.disarmed_waits (.inr hst) hseg]; split <;> exact grpOf_setGrp_same ..
  · next hst hseg => rw [GroupSt.disarmed_waits (.inl hst) hseg]; split <;> exact grpOf_setGrp_same ..
  · next hst hseg => rw [GroupSt.disarmed_post hst hseg]; exact grpOf_setGrp_same ..
  · next hst => rw [GroupSt.disarmed_holdoff hst]; exact grpOf_setGrp_same ..
  · next hhold hpre harmed hpost =>
    unfold GroupSt.disarmed
    split
    · next hst hseg => exact (hpre _ hst hseg).elim
    · next hst hseg => exact (harmed _ hst hseg).elim
    · next hst hseg => exact (hpost _ hst hseg).elim
    · next hst => exact (hhold hst).elim
    · rfl

theorem otherGroups_disarmGroup (s : State) (g : Nat) : s.otherGroups g (disarmGroup i s g) := by
  rcases disarmGroup_cases i s g with ⟨h, -⟩ | ⟨x, -, h⟩
  · rw [h]; exact .refl s
  · rw [h]; exact otherGroups_setGrp ..

theorem grpOf_disarmed_other {g : Nat} : ∀ (gs : List Nat) (s : State), g ∉ gs → grpOf (gs.foldl (disarmGroup i) s) g = grpOf s g
  | [], _, _ => rfl
  | a :: gs, s, h => by
    obtain ⟨hne, hnot⟩ := not_or.1 (mt List.mem_cons.2 h)
    rw [List.foldl_cons, grpOf_disarmed_other gs _ hnot]
    exact (otherGroups_disarmGroup i s a).grp g hne

theorem grpOf_disarmed {g : Nat} : ∀ {gs : List Nat} (s : State), gs.Nodup → g ∈ gs →
    grpOf (gs.foldl (disarmGroup i) s) g = (grpOf s g).disarmed i
  | [], _, _, h => absurd h List.not_mem_nil
  | a :: gs, s, hnd, h => by
    obtain ⟨hnot, hnd⟩ := List.nodup_cons.1 hnd
    rw [List.foldl_cons]
    rcases List.mem_cons.1 h with rfl | h
    · rw [grpOf_disarmed_other i gs _ hnot, grpOf_disarmGroup]
    · have hne : g ≠ a := fun he => hnot (he ▸ h)
      rw [grpOf_disarmed _ hnd h, (otherGroups_disarmGroup i s a).grp g hne]

end

/-- A command that starts and needs a deck has one. -/
theorem actDeck_of_judge {c : Checks} {s : State} (h : judge c s = none) (hdeck : c.deck = true) : ∃ d, actDeck s = some d := by
  unfold judge at h
  split at h
  · cases h
  · split at h
    · cases h
    · split at h
      · cases h
      · split at h
        · cases h
        · next hno =>
          rw [hdeck] at hno
          cases hd : actDeck s with
          | none => rw [hd] at hno; exact absurd rfl hno
          | some d => exact ⟨d, rfl⟩

/-! The command (R176, R352) -/

section
variable (h : CmdHdr) (groups : BitVec 16) (sd : Sample) {s : State} {d : DeckImage} (hd : actDeck s = some d)
include hd

theorem disarmBody_eq : disarmBody h groups sd s = finish (handsIdle ((maskGroups groups).foldl (disarmGroup (actSample s sd))
    (settleAll s d (maskGroups groups) (actSample s sd))) d) h 0x0302 cOk 0 (actSample s sd) := by
  unfold disarmBody; rw [hd]

theorem grpOf_disarmBody (g : Nat) : grpOf (disarmBody h groups sd s) g = grpOf ((maskGroups groups).foldl (disarmGroup (actSample s sd))
    (settleAll s d (maskGroups groups) (actSample s sd))) g := by
  rw [disarmBody_eq h groups sd hd, finish_part _ _ _ _ _ _ (grpOf · g) fun _ => rfl, grpOf_handsIdle]

/-- A named group is disarmed as it is once it has made its own changes. -/
theorem grpOf_disarmBody_named {g : Nat} (hg : g ∈ maskGroups groups) : ∃ u, grpOf u g = grpOf s g ∧ actDeck u = actDeck s ∧
    grpOf (disarmBody h groups sd s) g = (grpOf (settle u d g (actSample s sd)) g).disarmed (actSample s sd) := by
  obtain ⟨u, hu, hdu, hsettle⟩ := grpOf_settleAll d (actSample s sd) s (maskGroups_nodup groups) hg
  exact ⟨u, hu, hdu, by rw [grpOf_disarmBody h groups sd hd, grpOf_disarmed _ _ (maskGroups_nodup groups) hg, hsettle]⟩

theorem grpOf_disarmBody_other {g : Nat} (hg : g ∉ maskGroups groups) : grpOf (disarmBody h groups sd s) g = grpOf s g := by
  rw [grpOf_disarmBody h groups sd hd, grpOf_disarmed_other _ _ _ hg, grpOf_settleAll_other _ _ _ _ hg]

theorem disarmBody_cmd : (disarmBody h groups sd s).cmd = s.completing h cOk 0 (actSample s sd) := by
  rw [disarmBody_eq h groups sd hd]
  refine finish_cmd_of_cmd ?_ ..
  have hhands (t : State) : (handsIdle t d).cmd = t.cmd := part_of_hide (handsIdle_hide (m := 131072) (h_sub := rfl) t d) State.cmd fun _ => rfl
  rw [hhands]
  exact part_of_hide (m := 136228130) ((hide_foldl _ (fun _ _ => disarmGroup_hide (h_sub := rfl) ..) _ _).trans
    (settleAll_hide (h_sub := rfl) ..)) State.cmd fun _ => rfl

end

/-- Settles O27: each named group first makes its own changes, and is then disarmed as its state says. -/
theorem disarmStopsItsGroups : Obligations.DisarmStopsItsGroups := by
  unfold Obligations.DisarmStopsItsGroups
  rintro h groups sd i s hs rfl
  obtain ⟨d, hd⟩ := actDeck_of_judge hs.2 rfl
  have hnamed {g : Nat} (hg : g ∈ maskGroups groups) := grpOf_disarmBody_named h groups sd hd hg
  refine ⟨disarmBody h groups sd s, next_startCmd hs, disarmBody_cmd h groups sd hd, fun g hg seg hst hseg => ?_,
    fun g hg seg hst hseg hlt => ?_, fun g hg hst hsr => ?_, fun g hg hdone => ?_, fun g hg hstores => ?_,
    fun g => grpOf_disarmBody_other h groups sd hd, disarmBody_hide (h_sub := rfl) ..⟩
  · obtain ⟨u, hu, -, ht⟩ := hnamed hg
    obtain ⟨st, hst', hsettle⟩ := grpOf_settle_waits d (actSample s sd) (s := u) (g := g) (by rw [hu]; exact hst) (by rw [hu]; exact hseg)
    have hdisarmed := GroupSt.disarmed_waits (i := actSample s sd) (x := { grpOf s g with st := st }) hst' hseg
    rw [ht, hsettle, hu]
    refine ⟨fun hlt => ?_, fun hle => hdisarmed.trans (if_pos hle)⟩
    exact (hdisarmed.trans (if_neg (Nat.not_le.2 hlt))).trans (by rw [GroupSt.cut, hseg])
  · obtain ⟨u, hu, -, ht⟩ := hnamed hg
    rw [ht, settle_of_ownChange (ownChange_postGoesOn (by rw [hu]; exact hst) (by rw [hu]; exact hseg) hlt), hu,
      GroupSt.disarmed_post hst hseg, GroupSt.cut, hseg]
  · obtain ⟨u, hu, hdu, ht⟩ := hnamed hg
    have hstill : ownChange u d g (actSample s sd) = u :=
      ownChange_holdoff (by rw [hu]; exact hst) fun sr hr => hsr sr ((rearmAt_congr hu hdu).symm.trans hr)
    rw [ht, settle_of_ownChange hstill, hu, GroupSt.disarmed_holdoff hst]
  · obtain ⟨u, hu, -, ht⟩ := hnamed hg
    rw [groupDone_iff] at hdone
    rw [ht, settle_still d _ (.inr (by rw [groupDone_iff, hu]; exact hdone)), hu, GroupSt.disarmed_done hdone]
  · obtain ⟨u, hu, -, ht⟩ := hnamed hg
    have hseg : (grpOf u g).storesIntoSeg := by
      rw [hu]
      rcases hstores with hseg | hst
      · exact fun _ => hseg
      · intro h; rw [hst] at h; simp at h
    rw [groupDone_iff, ht]
    exact GroupSt.disarmed_stops (settle_storesIntoSeg d _ hseg)

end Sys2Proof.Machine

/-!
PROOF. SET_POST (R173) and FOLD_STATUS (R189): what a POST that comes into force makes of a group, and the bytes of a status record.
-/

namespace Sys2Proof.Machine

/-! A POST that comes into force (R173) -/

section
variable {s : State} (d : DeckImage) {g p : Nat} (i : Sample)

theorem setPostAt_post {seg : SegSt} (hst : (grpOf s g).st = .post) (hseg : (grpOf s g).seg = some seg) : setPostAt d s g p i =
    ownChange (setGrp s g { grpOf s g with
      post := p, seg := some { seg with post := p, postEnd := max (seg.trig.getD 0 + p) i } }) d g i := by
  unfold setPostAt; dsimp only; rw [hst, hseg]

theorem setPostAt_notPost (hst : (grpOf s g).st ≠ .post) :
    setPostAt d s g p i = ownChange (setGrp s g { grpOf s g with post := p }) d g i := by
  unfold setPostAt; dsimp only
  split
  · exact absurd ‹_› hst
  · rfl

/-- Whatever else changes of the group, POST is in force. -/
theorem setPostAt_inForce : (grpOf (setPostAt d s g p i) g).post = p := by
  unfold setPostAt; dsimp only
  rw [ownChange_post]
  split <;> rw [grpOf_setGrp_same]

theorem otherGroups_setPostAt : s.otherGroups g (setPostAt d s g p i) := by
  unfold setPostAt; dsimp only
  refine .trans ?_ (otherGroups_ownChange ..)
  split <;> exact otherGroups_setGrp ..

/-- A group that is ARMED, or that makes no change of its own, changes nothing else. -/
theorem grpOf_setPostAt_still (h : (grpOf s g).st = .armed ∨ groupDone s g = true) :
    grpOf (setPostAt d s g p i) g = { grpOf s g with post := p } := by
  have hnot : (grpOf s g).st ≠ .post := by
    rw [groupDone_iff] at h
    rcases h with h | h | h | h <;> rw [h] <;> decide
  rw [setPostAt_notPost d i hnot, ownChange_still d i (by simpa [groupDone_iff] using h), grpOf_setGrp_same]

theorem grpOf_setPostAt_prefill {seg : SegSt} (hst : (grpOf s g).st = .prefill) (hseg : (grpOf s g).seg = some seg)
    (h : ¬seg.epoch + gPre d g ≤ i) : grpOf (setPostAt d s g p i) g = { grpOf s g with post := p } := by
  rw [setPostAt_notPost d i (by rw [hst]; decide), ownChange_prefill (seg := seg) (by rw [grpOf_setGrp_same]; exact hst)
    (by rw [grpOf_setGrp_same]; exact hseg), if_neg h, grpOf_setGrp_same]

theorem grpOf_setPostAt_holdoff (hst : (grpOf s g).st = .holdoff) (hsr : ∀ sr, rearmAt s g = some sr → i < sr) :
    grpOf (setPostAt d s g p i) g = { grpOf s g with post := p } := by
  have hrearm : rearmAt (setGrp s g { grpOf s g with post := p }) g = rearmAt s g := by
    unfold rearmAt; rw [grpOf_setGrp_same]; rfl
  rw [setPostAt_notPost d i (by rw [hst]; decide), ownChange_holdoff (by rw [grpOf_setGrp_same]; exact hst) (hrearm ▸ hsr), grpOf_setGrp_same]

section
variable {seg : SegSt} {j : Sample} (hst : (grpOf s g).st = .post) (hseg : (grpOf s g).seg = some seg) (htrig : seg.trig = some j)
include hst hseg htrig

/-- A post part that goes on then ends POST samples after its trigger. -/
theorem grpOf_setPostAt_goesOn (h : i < j + p) :
    grpOf (setPostAt d s g p i) g = { grpOf s g with post := p, seg := some { seg with post := p, postEnd := j + p } } := by
  have hmax : max (seg.trig.getD 0 + p) i = j + p := by rw [htrig]; exact Nat.max_eq_left h.le
  rw [setPostAt_post d i hst hseg, hmax,
    ownChange_postGoesOn (seg := { seg with post := p, postEnd := j + p }) (by rw [grpOf_setGrp_same]; exact hst) (by rw [grpOf_setGrp_same]) h,
    grpOf_setGrp_same]

/-- One whose POST samples have passed ends at once. -/
theorem grpOf_setPostAt_ends (h : j + p ≤ i) : grpOf (setPostAt d s g p i) g =
    { grpOf s g with post := p, seg := some { seg with post := p, postEnd := i } }.postEnded d g { seg with post := p, postEnd := i } := by
  have hmax : max (seg.trig.getD 0 + p) i = i := by rw [htrig]; exact Nat.max_eq_right h
  rw [setPostAt_post d i hst hseg, hmax,
    ownChange_postEnds (seg := { seg with post := p, postEnd := i }) (by rw [grpOf_setGrp_same]; exact hst) (by rw [grpOf_setGrp_same])
      (Nat.le_refl i),
    grpOf_endPost (seg := { seg with post := p, postEnd := i }) d (by rw [grpOf_setGrp_same]), grpOf_setGrp_same]

end

end

/-! SET_POST (R173) -/

/-- The state in which the group has made its own changes and the clamped POST is in force, with POST_CLAMPED set where it was clamped. -/
def postInForce (d : DeckImage) (s : State) (g post : Nat) (i : Sample) : State :=
  let t := setPostAt d (settle s d g i) g (clampPost d g post) i
  if clampPost d g post = post then t else raiseBit t (Reg.FOLD_GRP_STATUS g) 5

section
variable {s : State} {d : DeckImage} (g post : Nat) (i : Sample)

theorem postInForce_part {α : Type} (q : State → α) (hq : ∀ x, q (x.hide 258) = q x) :
    q (postInForce d s g post i) = q (setPostAt d (settle s d g i) g (clampPost d g post) i) := by
  unfold postInForce; dsimp only
  split
  · rfl
  · exact raiseBit_part _ _ _ q hq

theorem postInForce_cmd : (postInForce d s g post i).cmd = s.cmd :=
  (postInForce_part g post i State.cmd fun _ => rfl).trans
    (part_of_hide (m := 136228130) ((setPostAt_hide (h_sub := rfl) ..).trans (settle_hide (h_sub := rfl) ..)) State.cmd fun _ => rfl)

theorem postInForce_clamped (h : clampPost d g post ≠ post) : flagSet (postInForce d s g post i) (Reg.FOLD_GRP_STATUS g) 5 = true := by
  unfold postInForce; dsimp only
  rw [if_neg h]; exact flagSet_groupRaised _ g (by decide)

theorem setPostBody_eq (h : CmdHdr) (group : Byte) (post : BitVec 64) (sc : Sample) (hd : actDeck s = some d) : setPostBody h group post sc s =
    finish (postInForce d s group.toNat post.toNat (actSample s sc)) h 0x0304
      (if clampPost d group.toNat post.toNat = post.toNat then cOk else cClamped)
      (clampPost d group.toNat post.toNat) (clampPost d group.toNat post.toNat) := by
  unfold setPostBody postInForce; rw [hd]; dsimp only
  split <;> rfl

theorem grpOf_setPostBody (h : CmdHdr) (group : Byte) (post : BitVec 64) (sc : Sample) (hd : actDeck s = some d) (g : Nat) :
    grpOf (setPostBody h group post sc s) g =
      grpOf (setPostAt d (settle s d group.toNat (actSample s sc)) group.toNat (clampPost d group.toNat post.toNat) (actSample s sc)) g := by
  rw [setPostBody_eq h group post sc hd, finish_part _ _ _ _ _ _ (grpOf · g) fun _ => rfl]
  exact postInForce_part _ _ _ (grpOf · g) fun _ => rfl

end

/-- SET_POST (R173): each clause of the obligation, for the group of the command. -/
theorem setPost_spec (h : CmdHdr) (group : Byte) (post : BitVec 64) (sc i : Sample) (s : State) (d : DeckImage) (g p : Nat) (x : GroupSt)
    (hs : s.starts h (setPostChecks h group post s)) (hd : actDeck s = some d) (hi : i = actSample s sc) (hg : g = group.toNat)
    (hp : p = clampPost d g post.toNat) (hx : x = grpOf s g) :
    ∃ t, exec (.setPost h group post sc) s = .next t ∧ (grpOf t g).post = p ∧
      t.cmd = s.completing h (if p = post.toNat then cOk else cClamped) p p ∧
      (p ≠ post.toNat → flagSet t (Reg.FOLD_GRP_STATUS g) 5 = true) ∧
      (x.st = .armed ∨ groupDone s g = true → grpOf t g = { x with post := p }) ∧
      (∀ seg, x.st = .prefill → x.seg = some seg →
        grpOf t g = { x with post := p, st := if seg.epoch + gPre d g ≤ i then .armed else .prefill }) ∧
      (x.st = .holdoff → (∀ sr, rearmAt s g = some sr → i < sr) → grpOf t g = { x with post := p }) ∧
      (∀ seg j, x.st = .post → x.seg = some seg → seg.trig = some j → i < seg.postEnd →
        (i < j + p → grpOf t g = { x with post := p, seg := some { seg with post := p, postEnd := j + p } }) ∧
        (j + p ≤ i → grpOf t g = { x with
          post := p, seg := none, lastSeg := some { seg with post := p, postEnd := i }, closed := x.closed + 1,
          closing := some (i - 1, 0), st := if gSegments d g ≤ x.closed + 1 then .stopped else .holdoff })) ∧
      (∀ g', g' ≠ g → grpOf t g' = grpOf s g') ∧
      s.sameBut [.regs, .free, .cmd, .pcie, .log, .mem, .deck, .recog, .hands, .trig, .folds, .comp, .shep] t := by
  subst hi hg hp hx
  have hgrp := grpOf_setPostBody h group post sc hd
  refine ⟨setPostBody h group post sc s, next_startCmd hs, ?_, ?_, fun hne => ?_, fun hst => ?_, fun seg hst hseg => ?_, fun hst hsr => ?_,
    fun seg j hst hseg htrig hgoes => ?_, fun g' hne => ?_, setPostBody_hide (h_sub := rfl) ..⟩
  · rw [hgrp]; exact setPostAt_inForce ..
  · rw [setPostBody_eq h group post sc hd]; exact finish_cmd_of_cmd (postInForce_cmd ..) ..
  · rw [setPostBody_eq h group post sc hd, flagSet, finish_regs]; exact postInForce_clamped _ _ _ hne
  · rw [hgrp, settle_still d _ hst]; exact grpOf_setPostAt_still d _ hst
  · have hsettle := grpOf_settle_prefill (i := actSample s sc) (d := d) hst hseg
    rw [hgrp]
    split
    · next hle =>
      rw [if_pos hle] at hsettle
      rw [grpOf_setPostAt_still d _ (.inl (by rw [hsettle])), hsettle]
    · next hle =>
      rw [if_neg hle] at hsettle
      rw [grpOf_setPostAt_prefill d _ (by rw [hsettle]) (by rw [hsettle]; exact hseg) hle, hsettle]
  · rw [hgrp, settle_of_ownChange (ownChange_holdoff hst hsr)]; exact grpOf_setPostAt_holdoff d _ hst hsr
  · rw [hgrp, settle_of_ownChange (ownChange_postGoesOn hst hseg hgoes)]
    exact ⟨grpOf_setPostAt_goesOn d _ hst hseg htrig, grpOf_setPostAt_ends d _ hst hseg htrig⟩
  · rw [hgrp]; exact ((otherGroups_settle ..).trans (otherGroups_setPostAt ..)).grp g' hne

/-! FOLD_STATUS (R189, R353) -/

/-- The state in which the records of the first `n` of the groups are delivered. -/
def recordsPut (u : State) (groups : BitVec 16) (dest : BitVec 64) (n : Nat) : State :=
  putBuf u (bufList u dest) (((maskGroups groups).take n).flatMap (statusRecord u))

theorem recordsPut_hide (u : State) (groups : BitVec 16) (dest : BitVec 64) (n : Nat) {m : Nat} (h_sub : 2048 &&& m = 2048) :
    (recordsPut u groups dest n).hide m = u.hide m := putBuf_hide (h_sub := h_sub) ..

theorem foldStatusBody_eq (h : CmdHdr) (groups : BitVec 16) (dest : BitVec 64) (at_ : Sample) {s : State} {d : DeckImage} {n : Nat}
    (hd : actDeck s = some d) (hn : n = min (maskGroups groups).length (segsLen (bufList s dest) / 64)) : foldStatusBody h groups dest at_ s =
    finish (recordsPut (settleAll s d (maskGroups groups) at_) groups dest n) h 0x0305
      (if n < (maskGroups groups).length then cBufferFull else cOk) n at_ := by
  subst hn
  unfold foldStatusBody; rw [hd]; rfl

theorem foldStatus_spec (h : CmdHdr) (groups : BitVec 16) (dest : BitVec 64) (at_ : Sample) (s : State) (d : DeckImage)
    (hs : s.starts h (foldStatusChecks h groups dest s)) (hd : actDeck s = some d) :
    ∃ t u n, exec (.foldStatus h groups dest at_) s = .next t ∧ u = settleAll s d (maskGroups groups) at_ ∧
      n = min (maskGroups groups).length (segsLen (bufList s dest) / 64) ∧
      t.cmd = s.completing h (if n < (maskGroups groups).length then cBufferFull else cOk) n at_ ∧
      t.mem = (putBuf u (bufList u dest) (((maskGroups groups).take n).flatMap (statusRecord u))).mem ∧
      u.sameBut [.cmd, .mem] t ∧ ((∀ g ∈ maskGroups groups, groupDone s g = true) → u = s) := by
  have hcmd (n : Nat) : (recordsPut (settleAll s d (maskGroups groups) at_) groups dest n).cmd = s.cmd :=
    part_of_hide (m := 136228130) ((recordsPut_hide (h_sub := rfl) ..).trans (settleAll_hide (h_sub := rfl) ..)) State.cmd fun _ => rfl
  refine ⟨_, settleAll s d (maskGroups groups) at_, _, (next_startCmd hs).trans (congrArg _ (foldStatusBody_eq h groups dest at_ hd rfl)),
    rfl, rfl, finish_cmd_of_cmd (hcmd _) .., finish_part _ _ _ _ _ _ State.mem fun _ => rfl, ?_, fun hdone => settleAll_still d at_ hdone⟩
  exact (hide_mono rfl (finish_sameBut_quiet _ h _ _ _ rfl)).trans (recordsPut_hide (h_sub := rfl) ..)

/-! A status record (Table 15-8) -/

theorem leNat_leBytes : ∀ n x, leNat (leBytes n x) = x % 256 ^ n
  | 0, x => by rw [pow_zero, Nat.mod_one]; rfl
  | n + 1, x => by
    rw [leBytes, leNat, leNat_leBytes n, BitVec.toNat_ofNat, pow_succ' 256 n]
    exact Nat.mod_mul.symm

/-- A field of a record, where its bytes stand. -/
theorem leNat_field {bs : List Byte} {k n x : Nat} (h : (bs.drop k).take n = leBytes n x) : leNat ((bs.drop k).take n) = x % 256 ^ n := by
  rw [h, leNat_leBytes]

theorem leNat_field_of_lt {bs : List Byte} {k n x : Nat} (h : (bs.drop k).take n = leBytes n x) (hx : x < 256 ^ n) :
    leNat ((bs.drop k).take n) = x := by rw [leNat_field h, Nat.mod_eq_of_lt hx]

theorem rd64_lt (s : State) (o : Nat) : rd64 s o < 256 ^ 8 := by
  have hlo := (rd s o).isLt
  have hhi := (rd s (o + 4)).isLt
  unfold rd64; omega

theorem statusRecord_fields (s : State) (g : Nat) (d : DeckImage) (field : Nat → Nat → Nat) (hd : actDeck s = some d)
    (hfield : field = (fun k n => leNat (((statusRecord s g).drop k).take n))) :
    (statusRecord s g).length = 64 ∧ field 0 1 = g % 256 ∧ field 1 1 = groupCode (grpOf s g).st ∧ field 2 2 = 0 ∧
    field 4 4 = rdF s (Reg.FOLD_GRP_STATUS g) 23 0 ∧ field 8 4 = (grpOf s g).closed % 2 ^ 32 ∧
    field 12 4 = (rd s (Reg.TRIG_GRP_IGN g)).toNat ∧ field 16 8 = (grpOf s g).post % 2 ^ 64 ∧
    field 24 8 = rd64 s (Reg.FOLD_GRP_TRIG_LO g) ∧ field 32 8 = groupLast s d g % 2 ^ 64 ∧ field 40 8 = (grpOf s g).epoch % 2 ^ 64 ∧
    field 48 4 = (rd s (Reg.TRIG_GRP_REC g)).toNat ∧ field 52 12 = 0 := by
  subst hfield
  dsimp only
  have hcode : groupCode (grpOf s g).st < 256 ^ 1 := by cases (grpOf s g).st <;> decide
  have hflags : rdF s (Reg.FOLD_GRP_STATUS g) 23 0 < 256 ^ 4 := lt_of_lt_of_le (Nat.mod_lt _ (by decide)) (by decide)
  have hlast : ((statusRecord s g).drop 32).take 8 = leBytes 8 (groupLast s d g) := by
    unfold statusRecord; rw [hd]; rfl
  refine ⟨rfl, ?_, ?_, ?_, ?_, ?_, ?_, ?_, ?_, ?_, ?_, ?_, ?_⟩
  · exact leNat_field (n := 1) rfl
  · exact leNat_field_of_lt (n := 1) rfl hcode
  · exact leNat_field_of_lt (n := 2) (x := 0) rfl (by decide)
  · exact leNat_field_of_lt (n := 4) rfl hflags
  · exact leNat_field (n := 4) rfl
  · exact leNat_field_of_lt (n := 4) rfl (rd s (Reg.TRIG_GRP_IGN g)).isLt
  · exact leNat_field (n := 8) rfl
  · exact leNat_field_of_lt (n := 8) rfl (rd64_lt ..)
  · exact leNat_field (n := 8) hlast
  · exact leNat_field (n := 8) rfl
  · exact leNat_field_of_lt (n := 4) rfl (rd s (Reg.TRIG_GRP_REC g)).isLt
  · exact leNat_field_of_lt (n := 12) (x := 0) rfl (by decide)

/-- Settles O29: SET_POST, FOLD_STATUS, and the bytes of a record. -/
theorem setPostAndFoldStatus : Obligations.SetPostAndFoldStatus :=
  ⟨setPost_spec, foldStatus_spec, statusRecord_fields⟩

end Sys2Proof.Machine

/-!
PROOF. Windows and compressed blocks (R185, R195-R200): what a record of a window leaves of its fold, and what one step of a compression
engine leaves of its open page and of its counter of input.
-/

namespace Sys2Proof.Machine

/-! A record (R185) -/

@[simp] theorem foldOf_setFold_same (s : State) (f : Nat) (x : FoldSt) : foldOf (setFold s f x) f = x := tabGet_tabPut_same ..

theorem foldOf_endCtx (s : State) (i : KInst) (f : Nat) : foldOf (endCtx s i) f = foldOf s f :=
  part_of_hide (endCtx_hide (m := 8192) (h_sub := rfl) s i) (foldOf · f) fun _ => rfl

theorem ok_of_ite_error {c : Prop} [Decidable c] {e : Nat} {o : Formed1} {v : State} (h : (if c then .error e else o) = Except.ok v) :
    o = .ok v := by
  split at h
  · cases h
  · exact h

section
variable (s : State) (d : DeckImage) (f : Nat) (keep : Option (Sample × Sample))

/-- A record that finds room joins the page in progress, which is stored where it is full. -/
theorem addRecord_ok {first last : Sample} {void flag : Bool} {bytes : List Byte} {v : State}
    (h : addRecord d f keep first last void flag bytes s = .ok v) : ∃ x, x.recs = bytes :: (foldOf s f).recs ∧
    v = if pageCap d f ≤ (foldOf s f).recs.length + 1 then storeRecPage (setFold s f x) d f else setFold s f x := by
  unfold addRecord at h; dsimp only at h
  replace h := ok_of_ite_error h
  split at h
  · cases h
  · injection h with h
    exact ⟨_, rfl, h.symm⟩

/-- A window that finds room makes the one after it the next. -/
theorem addWindow_ok {n w : Nat} {b : Sample} {v : State} (h : addWindow d f keep n w b s = .ok v) :
    tabGet 0 (foldOf v f).nextWin n = w + 1 ∧ ((foldOf s f).recs.length + 1 < pageCap d f →
      (foldOf v f).recs = windowRec s d f n w ((foldOf s f).epoch + w * fWindow d f) b :: (foldOf s f).recs ∧ v.mem = s.mem) := by
  unfold addWindow at h; dsimp only at h
  generalize hq : addRecord d f keep _ _ _ _ _ s = q at h
  cases q with
  | error c => cases h
  | ok t =>
    obtain ⟨x, hx, ht⟩ := addRecord_ok s d f keep hq
    injection h with h
    subst h
    rw [foldOf_endCtx, foldOf_setFold_same]
    have hnext : tabGet 0 (tabPut 0 (foldOf t f).nextWin n (w + 1)) n = w + 1 := tabGet_tabPut_same ..
    refine ⟨hnext, fun hroom => ?_⟩
    rw [if_neg (Nat.not_le.2 hroom)] at ht
    subst ht
    rw [foldOf_setFold_same]
    exact ⟨hx, part_of_hide (endCtx_hide (m := 8192) (h_sub := rfl) ..) State.mem fun _ => rfl⟩

end

section
variable {s : State} {d : DeckImage} {f n w : Nat} (hv : fV d f = true) (hred : fRed d f = 2 ∨ fRed d f = 3) (hn : n < fNinst d f)
  (hseg : hasSegment s (fGroup d f) = true)
include hv hred hn hseg

theorem windowRecord_ofSegment : (!fV d f || !hasSegment s (fGroup d f) || !(fRed d f == 2 || fRed d f == 3) || decide (fNinst d f ≤ n)) = false := by
  have hwin : (fRed d f == 2 || fRed d f == 3) = true := by simpa using hred
  rw [hv, hseg, hwin, decide_eq_false (Nat.not_le.2 hn)]; rfl

theorem windowRecord_notNext (hw : tabGet 0 (foldOf s f).nextWin n ≠ w) : windowRecord s d f n w = s := by
  unfold windowRecord; dsimp only
  rw [windowRecord_ofSegment hv hred hn hseg, if_neg Bool.false_ne_true, bne_iff_ne.2 hw, Bool.true_or, if_pos rfl]

variable (hend : ∀ e, segEnd s (fGroup d f) = some e → (foldOf s f).epoch + (w + 1) * fWindow d f - 1 ≤ e)
include hend

theorem windowRecord_next (hw : tabGet 0 (foldOf s f).nextWin n = w) :
    (∀ v, addWindow d f (keepFrom s d (fGroup d f)) n w ((foldOf s f).epoch + (w + 1) * fWindow d f - 1) s = .ok v → windowRecord s d f n w = v) ∧
    (∀ c, addWindow d f (keepFrom s d (fGroup d f)) n w ((foldOf s f).epoch + (w + 1) * fWindow d f - 1) s = .error c →
      windowRecord s d f n w = stopOvf s d (fGroup d f) f c ((foldOf s f).epoch + w * fWindow d f)) := by
  have hnext : (tabGet 0 (foldOf s f).nextWin n != w) = false := by rw [hw, bne_self_eq_false]
  have hin : (match segEnd s (fGroup d f) with
      | some e => decide (e < (foldOf s f).epoch + (w + 1) * fWindow d f - 1)
      | none => false) = false := by
    split
    · next e he => exact decide_eq_false (Nat.not_lt.2 (hend e he))
    · rfl
  unfold windowRecord; dsimp only
  rw [windowRecord_ofSegment hv hred hn hseg, if_neg Bool.false_ne_true, hnext, Bool.false_or]
  constructor
  · intro v hv
    rw [hv]
    exact if_neg fun hlt => Bool.false_ne_true (hin.symm.trans hlt)
  · intro c hc
    rw [hc]
    exact if_neg fun hlt => Bool.false_ne_true (hin.symm.trans hlt)

end

end Sys2Proof.Machine

/-!
PROOF. A step of a compression engine (R195-R200): what it counts, and the page that it leaves open.
-/

namespace Sys2Proof.Machine

theorem rd64_mod (s : State) (o : Nat) : rd64 s o % 2 ^ 64 = rd64 s o := Nat.mod_eq_of_lt (rd64_lt s o)

theorem compPage_setCompPage (s : State) (d : DeckImage) (f u e : Nat) (p : CompPage) : compPage (setCompPage s e p) d f u e = p := by
  have hp : assoc (setCompPage s e p).comp.pages e = some p := assoc_assocSet_same ..
  unfold compPage; rw [hp]

/-! The registers of engine `e` (R198) -/

/-- The registers of engine `e` but its counters of bytes, and the chip's status. -/
def cmpFlagRegs (e : Nat) : List Nat := [Reg.CMP_STATUS e, Reg.CMP_STORED_CNT e, Reg.CMP_SELFCHK_CNT e, Reg.PCIE_STATUS]

/-- `t` has the registers of `s` but those of engine `e` that hold flags or count blocks. -/
structure State.keepsBytes (e : Nat) (s t : State) : Prop where
  regs : s.regsBut (cmpFlagRegs e) t

namespace State.keepsBytes

variable {s t u : State} {e : Nat}

theorem refl (s : State) : s.keepsBytes e s := ⟨regsBut_refl _ s⟩

theorem trans (h1 : s.keepsBytes e t) (h2 : t.keepsBytes e u) : s.keepsBytes e u := ⟨regsBut_trans h1.regs h2.regs⟩

theorem of_eq (h : t.regs = s.regs) : s.keepsBytes e t := ⟨regsBut_of_eq h⟩

theorem of_hide {m : Nat} (h : t.hide m = s.hide m) (hm : m.testBit 1 = false) : s.keepsBytes e t :=
  .of_eq (part_of_hide h State.regs fun x => by simp [State.hide, hm])

theorem of_regsBut {os : List Nat} (h : s.regsBut os t) (hos : ∀ o ∈ os, o ∈ cmpFlagRegs e) : s.keepsBytes e t := ⟨regsBut_mono hos h⟩

theorem ite {c : Prop} [Decidable c] (ht : s.keepsBytes e t) (hu : s.keepsBytes e u) : s.keepsBytes e (if c then t else u) := by
  split <;> assumption

theorem cmpIn (h : s.keepsBytes e t) : Machine.rd64 t (Reg.CMP_IN_LO e) = Machine.rd64 s (Reg.CMP_IN_LO e) := by
  have hother : Reg.CMP_IN_LO e ∉ cmpFlagRegs e ∧ Reg.CMP_IN_LO e + 4 ∉ cmpFlagRegs e := by
    simp [cmpFlagRegs, Reg.CMP_IN_LO, Reg.CMP_STATUS, Reg.CMP_STORED_CNT, Reg.CMP_SELFCHK_CNT, Reg.PCIE_STATUS]; omega
  exact h.regs.rd64 hother.1 hother.2 (by unfold Reg.CMP_IN_LO; omega)

end State.keepsBytes

section
variable (s : State) (e : Nat)

theorem raiseBit_keepsBytes (b : Nat) : s.keepsBytes e (raiseBit s (Reg.CMP_STATUS e) b) :=
  .of_regsBut (regsBut_raiseBit s _ b) (by simp [cmpFlagRegs])

theorem quarCmp_keepsBytes : s.keepsBytes e (quarCmp s e) :=
  (State.keepsBytes.of_regsBut (regsBut_raiseErr s (Reg.CMP_STATUS e) 2 3 0x0480 e) (by simp [cmpFlagRegs])).trans (.of_eq rfl)

theorem selfCheckFail_keepsBytes : s.keepsBytes e (selfCheckFail s e) := by
  have hcounted : s.keepsBytes e (incCnt (raiseBit s (Reg.CMP_STATUS e) 0) (Reg.CMP_SELFCHK_CNT e) 1) :=
    (raiseBit_keepsBytes s e 0).trans (.of_regsBut (regsBut_incCnt _ (Reg.CMP_SELFCHK_CNT e) 1) (by simp [cmpFlagRegs]))
  have hnoted (c : CompSt) : s.keepsBytes e ((incCnt (raiseBit s (Reg.CMP_STATUS e) 0) (Reg.CMP_SELFCHK_CNT e) 1).setComp c) :=
    hcounted.trans (.of_eq rfl)
  exact .ite ((hnoted _).trans (quarCmp_keepsBytes ..)) (hnoted _)

theorem checkedBlock_keepsBytes (chk : EngineCheck) : s.keepsBytes e (checkedBlock s e chk) := by
  cases chk with
  | pass => exact .refl s
  | mismatch => exact selfCheckFail_keepsBytes s e
  | ecc => exact .ite (.refl s) ((raiseBit_keepsBytes s e 1).trans (quarCmp_keepsBytes ..))

theorem blockJudged_keepsBytes (stored bypass : Bool) (chk : EngineCheck) : s.keepsBytes e (blockJudged s e stored bypass chk) :=
  have hcounted : s.keepsBytes e (if stored then incCnt s (Reg.CMP_STORED_CNT e) 1 else s) :=
    .ite (.of_regsBut (regsBut_incCnt s (Reg.CMP_STORED_CNT e) 1) (by simp [cmpFlagRegs])) (.refl s)
  .ite hcounted (hcounted.trans (checkedBlock_keepsBytes ..))

/-- CMP_IN counts 4,096 bytes for each capture page. -/
theorem bytesCounted_cmpIn (n len : Nat) :
    rd64 (bytesCounted s e n len) (Reg.CMP_IN_LO e) = (rd64 s (Reg.CMP_IN_LO e) + 4096 * n) % 2 ^ 64 := by
  have hout : Reg.CMP_IN_LO e ∉ [Reg.CMP_OUT_LO e, Reg.CMP_OUT_LO e + 4] ∧ Reg.CMP_IN_LO e + 4 ∉ [Reg.CMP_OUT_LO e, Reg.CMP_OUT_LO e + 4] := by
    simp [Reg.CMP_IN_LO, Reg.CMP_OUT_LO]; omega
  unfold bytesCounted; dsimp only
  rw [(regsBut_wr64 _ (Reg.CMP_OUT_LO e) _).rd64 hout.1 hout.2 (by unfold Reg.CMP_IN_LO; omega), rd64_wr64_same]

end

/-! A block and the end of a page (R198, R200) -/

section
variable (s : State) (d : DeckImage) (f u e : Nat)

/-- A block of `n` capture pages: they are counted, and the open page holds them. -/
theorem compBlock_takes (n : Nat) (chk : EngineCheck) (last : Bool) :
    rd64 (compBlock s d f u e n chk last) (Reg.CMP_IN_LO e) = (rd64 s (Reg.CMP_IN_LO e) + 4096 * n) % 2 ^ 64 ∧
    ∃ q, assoc (compBlock s d f u e n chk last).comp.pages e = some q ∧
      q.m = (compPage s d f u e).m ∧ q.pages = (compPage s d f u e).pages + n := by
  obtain ⟨len, stored, x, q, hm, hpages, h⟩ := compBlock_eq s d f u e n chk last
  rw [h]
  refine ⟨?_, q, assoc_assocSet_same .., hm, hpages⟩
  have hsides : rd64 (sidesPut s d f u e n) (Reg.CMP_IN_LO e) = rd64 s (Reg.CMP_IN_LO e) :=
    (State.keepsBytes.of_hide (e := e) (sidesPut_sameBut s d f u e n) rfl).cmpIn
  have hcoded := (blockJudged_keepsBytes (bytesCounted (sidesPut s d f u e n) e n len) e stored (s.comp.quar.contains e) chk).cmpIn
  rw [bytesCounted_cmpIn, hsides] at hcoded
  refine Eq.trans ?_ hcoded
  have hctx (t : State) (i : KInst) : t.keepsBytes e (endCtx t i) := .of_hide (endCtx_hide (m := 8192) (h_sub := rfl) ..) rfl
  have hput (t : State) : t.keepsBytes e (setCompPage (setFold t f x) e q) := .of_eq rfl
  exact ((hctx _ _).trans (hput _)).cmpIn

/-- The page is stored: the next range is open. -/
theorem storeCompPage_moves {p : CompPage} {last : Bool} {t : State} (h : storeCompPage s d f u e p last = some t) :
    ∃ v, s.keepsBytes e v ∧ t = setCompPage v e { m := p.m + 1 } := by
  unfold storeCompPage at h; dsimp only at h
  split at h
  · cases h
  · next fs1 _ =>
    cases h
    refine ⟨_, ?_, rfl⟩
    have hrows (base x at_ : Nat) (bs ix : List Byte) (bad : List Nat) :
        s.keepsBytes e (putLogical (putRingRows s d f base (subArea d f) x bs bad) d f at_ ix) :=
      .of_hide (m := 2048) ((putLogical_hide (h_sub := rfl) ..).trans (putRingRows_hide (h_sub := rfl) ..)) rfl
    have hside (t : State) (x n : Nat) : t.keepsBytes e (blockCompSide t d f u x n) :=
      .of_hide (blockCompSide_hide (m := 2048) (h_sub := rfl) ..) rfl
    have hstored {t : State} (bad : List Nat) (x n : Nat) (y : FoldSt) (ht : s.keepsBytes e t) :
        s.keepsBytes e (setFold (if bad.isEmpty = true then t else blockCompSide t d f u x n) f y) :=
      (State.keepsBytes.ite ht (ht.trans (hside t x n))).trans (.of_eq rfl)
    exact .ite ((hstored _ _ _ _ (hrows ..)).trans (raiseBit_keepsBytes ..)) (hstored _ _ _ _ (hrows ..))

/-- Where the page ends without an overflow, the next range is open. -/
theorem endCompPage_moves {last : Bool} {t : State} (h : endCompPage s d f u e last = (t, none)) :
    ∃ v, s.keepsBytes e v ∧ t = setCompPage v e { m := (compPage s d f u e).m + 1 } := by
  unfold endCompPage at h; dsimp only at h
  split at h
  · cases h; exact ⟨s, .refl s, rfl⟩
  · split at h
    · next hp => cases h; exact storeCompPage_moves s d f u e hp
    · split at h
      · cases h
      · cases h; exact ⟨setFold s f _, .of_eq rfl, rfl⟩

end

/-! A step (R195, R200) -/

section
variable {s t : State} {d : DeckImage} {f u e : Nat} {chk : EngineCheck} {last : Option Sample} {n : Nat}

theorem compStep_idle (hn : min 8 (compLeft d u (compPage s d f u e) last) = 0) (hp : (compPage s d f u e).pages = 0) :
    compStep s d f u e chk last = (s, none) := by
  unfold compStep; dsimp only
  rw [if_pos hn, if_pos hp]

/-- What an engine without an overflow leaves: its page with the capture pages that it has taken, or the next range. -/
theorem compStep_moves (hn : n = min 8 (compLeft d u (compPage s d f u e) last)) (h : compStep s d f u e chk last = (t, none))
    (hsome : 0 < n ∨ 0 < (compPage s d f u e).pages) : ∃ q, assoc t.comp.pages e = some q ∧
      rd64 t (Reg.CMP_IN_LO e) = (rd64 s (Reg.CMP_IN_LO e) + 4096 * n) % 2 ^ 64 ∧
      ((compPage s d f u e).pages + n ≠ 256 ∧ n ≠ compLeft d u (compPage s d f u e) last →
        q.m = (compPage s d f u e).m ∧ q.pages = (compPage s d f u e).pages + n) ∧
      ((compPage s d f u e).pages + n = 256 ∨ n = compLeft d u (compPage s d f u e) last → q.m = (compPage s d f u e).m + 1 ∧ q.pages = 0) := by
  unfold compStep at h; dsimp only at h
  rw [← hn] at h
  by_cases hzero : n = 0
  · have hleft : n = compLeft d u (compPage s d f u e) last := by omega
    have hpages : (compPage s d f u e).pages ≠ 0 := by omega
    rw [if_pos hzero, if_neg hpages] at h
    obtain ⟨v, hregs, rfl⟩ := endCompPage_moves _ d f u e h
    have hcount : (rd64 s (Reg.CMP_IN_LO e) + 4096 * n) % 2 ^ 64 = rd64 s (Reg.CMP_IN_LO e) := by
      rw [hzero, Nat.mul_zero, Nat.add_zero (rd64 ..), rd64_mod]
    refine ⟨_, assoc_assocSet_same .., hregs.cmpIn.trans hcount.symm, fun hgoes => absurd hleft hgoes.2, fun _ => ?_⟩
    · rw [compPage_setCompPage]; exact ⟨rfl, rfl⟩
  · rw [if_neg hzero] at h
    obtain ⟨hin, q, hq, hm, hpages⟩ := compBlock_takes s d f u e n chk
      ((compPage s d f u e).pages + n == 256 || n == compLeft d u (compPage s d f u e) last)
    generalize compBlock s d f u e n chk _ = s1 at h hin hq
    have hopen : compPage s1 d f u e = q := by unfold compPage; rw [hq]
    split at h
    · cases h
    · split at h
      · next hends =>
        have hends' : (compPage s d f u e).pages + n = 256 ∨ n = compLeft d u (compPage s d f u e) last := by simpa using hends
        obtain ⟨v, hregs, rfl⟩ := endCompPage_moves _ d f u e h
        refine ⟨_, assoc_assocSet_same .., hregs.cmpIn.trans hin, fun hgoes => ?_, fun _ => ?_⟩
        · rcases hends' with h256 | hleft
          · exact absurd h256 hgoes.1
          · exact absurd hleft hgoes.2
        · rw [hopen, hm]; exact ⟨rfl, rfl⟩
      · next hgoes =>
        cases h
        exact ⟨q, hq, hin, fun _ => ⟨hm, hpages⟩, fun hends => absurd (by simpa using hends) hgoes⟩

end

/-! The rows (R185, R195) -/

section
variable {s : State} {d : DeckImage} (hd : actDeck s = some d)
include hd

theorem exec_windowRecord (f : Fin 64) (n w : Nat) : exec (.windowRecord f n w) s = .next (windowRecord s d f n w) := by
  change execWindowRecord f n w s = _
  unfold execWindowRecord; rw [hd]

theorem exec_compressedBlockOut (e : Fin 64) (chk : EngineCheck) (hv : cmpV d e = true) (hcomp : fIsComp d (cmpFold d e) = true)
    (hseg : hasSegment s (fGroup d (cmpFold d e)) = true) : exec (.compressedBlockOut e chk) s =
    .next (overflowed (compStep s d (cmpFold d e) (cmpSub d e) e chk (segEnd s (fGroup d (cmpFold d e)))) d (fGroup d (cmpFold d e)) (cmpFold d e)) := by
  change execCompressedBlockOut e chk s = _
  unfold execCompressedBlockOut; rw [hd]; dsimp only
  rw [hv, hcomp, hseg]; exact if_neg (by decide)

end

/-- Settles O33: a record that finds room joins its page; an engine's step counts its capture pages, and moves on at the end of a page. -/
theorem windowsAndBlocksMoveOn : Obligations.WindowsAndBlocksMoveOn := by
  unfold Obligations.WindowsAndBlocksMoveOn
  constructor
  · rintro f n w s d b hd hv hred hn hseg rfl hend
    rw [exec_windowRecord hd]
    refine ⟨fun hw => by rw [windowRecord_notNext hv hred hn hseg hw], fun hw => ?_⟩
    obtain ⟨hok, herror⟩ := windowRecord_next hv hred hn hseg hend hw
    refine ⟨fun v h => ?_, fun c h => by rw [herror c h]⟩
    obtain ⟨hnext, hrecs⟩ := addWindow_ok s d f _ h
    have hframe := addWindow_hide d f (keepFrom s d (fGroup d f)) n w ((foldOf s f).epoch + (w + 1) * fWindow d f - 1) s (m := 534528) rfl
    rw [h] at hframe
    exact ⟨v, by rw [hok v h], hnext, hrecs, hframe⟩
  · rintro e chk s u d p left n o hd hv hcomp hseg rfl rfl rfl hstep
    rw [exec_compressedBlockOut hd e chk hv hcomp hseg, ← hstep]
    refine ⟨fun hn hp => ?_, fun ho hsome => ?_, fun c i ho => by rw [ho]; rfl⟩
    · rw [hstep, compStep_idle hn hp]; rfl
    · subst ho
      obtain ⟨q, hq, hin, hgoes, hends⟩ := compStep_moves rfl hstep.symm hsome
      have hframe := compStep_hide s d (cmpFold d e) (cmpSub d e) e chk (segEnd s (fGroup d (cmpFold d e))) (m := 135802146) rfl
      rw [← hstep] at hframe
      exact ⟨u, q, rfl, hq, hin, hgoes, hends, hframe⟩

end Sys2Proof.Machine

/-!
PROOF. Two obligations of capture that fail, each for a state or a deck that its hypotheses admit: a group whose ended segment is not
known (R169), and a FULL_PACK step that names one position four times (R101).
-/

namespace Sys2Proof.Machine

/-! What a write leaves in HBM -/

/-- `t` has the byte of HBM at `a` as `s` has it, and the same places for logical offsets. -/
structure State.keepsByte (a : Nat) (s t : State) : Prop where
  byte : memByte t.mem.hbm a = memByte s.mem.hbm a
  quar : t.shep.pageQuar = s.shep.pageQuar
  place : ∀ d f x, foldAddr t d f x = foldAddr s d f x

section
variable {a : Nat} {s t u : State}

theorem State.keepsByte.refl (s : State) : s.keepsByte a s := ⟨rfl, rfl, fun _ _ _ => rfl⟩

theorem State.keepsByte.trans (h1 : s.keepsByte a t) (h2 : t.keepsByte a u) : s.keepsByte a u :=
  ⟨h2.byte.trans h1.byte, h2.quar.trans h1.quar, fun d f x => (h2.place d f x).trans (h1.place d f x)⟩

theorem State.keepsByte.endCtx (h : s.keepsByte a t) (i : KInst) : s.keepsByte a (endCtx t i) := by
  refine h.trans ?_
  unfold Machine.endCtx
  split <;> exact ⟨rfl, rfl, fun _ _ _ => rfl⟩

theorem State.keepsByte.setFold (h : s.keepsByte a t) (f : Nat) (x : FoldSt) : s.keepsByte a (setFold t f x) :=
  h.trans ⟨rfl, rfl, fun _ _ _ => rfl⟩

theorem memByte_putHbm_other (hq : s.shep.pageQuar = []) {x : Nat} {bs : List Byte} (h : a < x ∨ x + bs.length ≤ a) :
    memByte (putHbm s x bs).mem.hbm a = memByte s.mem.hbm a := by
  have hwrite : (putHbm s x bs).mem.hbm = memWrite s.mem.hbm x bs := by
    change s.shep.pageQuar.foldl _ (memWrite s.mem.hbm x bs) = _
    rw [hq]; rfl
  rw [hwrite, memByte_memWrite_other _ _ _ h]

/-- A write at a logical offset leaves every byte outside its place. -/
theorem keepsByte_putLogical (hq : s.shep.pageQuar = []) {d : DeckImage} {f x : Nat} {bs : List Byte} (h : ¬s.inLogical d f x bs.length a) :
    s.keepsByte a (putLogical s d f x bs) where
  byte := by
    obtain ⟨hfirst, hsecond⟩ := not_or.1 h
    have hquar : (putHbm s (foldAddr s d f x) (bs.take (extentSize - x % extentSize))).shep.pageQuar = [] := hq
    unfold putLogical; dsimp only
    rw [memByte_putHbm_other hquar (by rw [List.length_drop]; omega), memByte_putHbm_other hq (by rw [List.length_take]; omega)]
  quar := congrArg ShepSt.pageQuar (part_of_hide (putLogical_hide (m := 2048) (h_sub := rfl) ..) State.shep fun _ => rfl)
  place d' f' x' := part_of_hide (putLogical_hide (m := 2048) (h_sub := rfl) ..) (foldAddr · d' f' x') fun _ => rfl

/-- The same after other writes, that keep the byte. -/
theorem State.keepsByte.putLogical (h1 : s.keepsByte a t) (hq : s.shep.pageQuar = []) {d : DeckImage} {f x n : Nat} {bs : List Byte}
    (hlen : bs.length = n) (h : ¬s.inLogical d f x n a) : s.keepsByte a (putLogical t d f x bs) := by
  refine h1.trans (keepsByte_putLogical (h1.quar.trans hq) ?_)
  subst hlen
  simpa only [State.inLogical, h1.place] using h

theorem State.keepsByte.putRing (h1 : s.keepsByte a t) (hq : s.shep.pageQuar = []) {d : DeckImage} {f base size x n : Nat} {bs : List Byte}
    (hlen : bs.length = n) (hfirst : ¬s.inLogical d f (base + x % size) (min (size - x % size) n) a)
    (hrest : ¬s.inLogical d f base (n - (size - x % size)) a) : s.keepsByte a (putRing t d f base size x bs) :=
  (h1.putLogical hq (by rw [List.length_take, hlen]) hfirst).putLogical hq (by rw [List.length_drop, hlen]) hrest

/-- A page of `n` bytes, none of its rows blocked, leaves every byte outside its place and its entries. -/
theorem storeRawPage_keepsByte (hq : s.shep.pageQuar = []) {d : DeckImage} {f inst j n slot : Nat}
    (hslot : unitSeq d f (foldOf s f) inst j % ringPages d f = slot)
    (hbad : blockedRows s (engQuad (foldInst d f inst).1) f inst j 32 = []) (hlen : (pageBytes s d (foldInst d f inst) j).length = n)
    (hfirst : ¬s.inLogical d f (dataBase d f (foldOf s f).seg + 4096 * slot % fData d f) (min (fData d f - 4096 * slot % fData d f) n) a)
    (hrest : ¬s.inLogical d f (dataBase d f (foldOf s f).seg) (n - (fData d f - 4096 * slot % fData d f)) a)
    (hbrand : ¬s.inLogical d f (brandBase d f (foldOf s f).seg + 8 * slot) 8 a)
    (hvoid : ¬s.inLogical d f (voidBase d f (foldOf s f).seg + 16 * slot) 16 a) : s.keepsByte a (storeRawPage s d f inst j) := by
  unfold storeRawPage; dsimp only
  rw [hslot, hbad]
  split
  · exact .refl s
  · refine ((State.keepsByte.endCtx (State.keepsByte.putLogical ?_ hq (length_leBytes ..) hbrand) _).putLogical hq (length_leBytes ..) hvoid).setFold ..
    exact (State.keepsByte.refl s).putRing hq hlen hfirst hrest

end

/-! A page of 1,024 bytes -/

section
open Sys2Proof.Tests

/-- Group 0 is ARMED, and one byte of HBM stands in the second place of fold 0's ring, whose FULL_PACK step names one position four times. -/
def onePosState : State := { armedState with mem := { armedState.mem with hbm := [(foldAddr armedState capDeck 0 8192 + 2000, 1)] } }

/-- The byte stays as page 1 is stored in that place: the page holds the rows of one position only. -/
theorem memByte_onePos : memByte (storeRawPage onePosState capDeck 0 0 1).mem.hbm (foldAddr onePosState capDeck 0 8192 + 2000) = 1 := by
  have hstay : onePosState.keepsByte (foldAddr onePosState capDeck 0 8192 + 2000) (storeRawPage onePosState capDeck 0 0 1) :=
    storeRawPage_keepsByte (n := 1024) (slot := 1) rfl (by decide +kernel) (by decide +kernel) (by decide +kernel)
      (by unfold State.inLogical; decide +kernel) (by unfold State.inLogical; decide +kernel)
      (by unfold State.inLogical; decide +kernel) (by unfold State.inLogical; decide +kernel)
  rw [hstay.byte]
  decide +kernel

theorem exec_onePos : exec (.capturePageStore 0 0 1) onePosState = .next (storeRawPage onePosState capDeck 0 0 1) := by
  have hend : segEnd onePosState (fGroup capDeck 0) = none := by decide +kernel
  have hstored : (!fV capDeck 0 || !hasSegment onePosState (fGroup capDeck 0)) = false := by decide +kernel
  have hraw : fRed capDeck 0 = 0 ∧ fIsComp capDeck 0 = false := by decide +kernel
  have hin : 0 < fNinst capDeck 0 ∧ (decide ((foldOf onePosState 0).epoch ≤ pageLast capDeck 1) && true) = true := by decide +kernel
  change Host.Outcome.next (storeUnit onePosState capDeck 0 0 1) = _
  unfold storeUnit; dsimp only
  rw [hend, hstored, if_neg Bool.false_ne_true, if_pos hraw.1, hraw.2, if_neg Bool.false_ne_true, if_pos hin]

/-- Refutes O32: where a FULL_PACK step names one position four times, its page has 1,024 bytes (R101 has four positions), and what stood in
the rest of the page's place stays. -/
theorem not_rawPagesAreStoredInTheirRing : ¬Obligations.RawPagesAreStoredInTheirRing := by
  unfold Obligations.RawPagesAreStoredInTheirRing
  intro h
  obtain ⟨-, hpage⟩ := h 0 0 1 onePosState capDeck rfl
  have hend : segEnd onePosState (fGroup capDeck 0) = none := by decide +kernel
  obtain ⟨t, u, hexec, -, -, -, -, -, -, -, -, -, hmem, -⟩ := hpage (foldOf onePosState 0) 1 8192 rfl (by decide +kernel) (by decide +kernel)
    (by decide +kernel) (by decide +kernel) (by decide +kernel) (by decide +kernel) (by decide +kernel) (by decide +kernel)
    (fun e he => by cases hend.symm.trans he) (by decide +kernel)
  obtain ⟨-, hbyte⟩ := hmem rfl
  have hzero : memByte t.mem.hbm (foldAddr onePosState capDeck 0 8192 + 2000) =
      ((pageBytes onePosState capDeck (foldInst capDeck 0 0) 1).drop 2000).headD 0 :=
    hbyte 2000 (by decide) (by decide +kernel) (by decide +kernel) (by unfold State.inLogical; decide +kernel)
      (by unfold State.inLogical; decide +kernel)
  have hend0 : ((pageBytes onePosState capDeck (foldInst capDeck 0 0) 1).drop 2000).headD 0 = 0 := by decide +kernel
  have ht : t = storeRawPage onePosState capDeck 0 0 1 := (Host.Outcome.next.inj (exec_onePos.symm.trans hexec)).symm
  rw [hend0, ht, memByte_onePos] at hzero
  exact absurd hzero (by decide)

/-! A close whose segment is not known -/

/-- Group 0 is in STOPPED_OVF, with a segment still to be written that is not known. -/
def unknownState : State := { capState with folds := { groups := [(0, { st := .stoppedOvf, closing := some (0, 0) })] } }

/-- ARM leaves the group where it is: the close that it waits for cannot be made. -/
theorem armBody_unknown : (grpOf (armBody h0 1 0 0 unknownState) 0).st = .stoppedOvf := by decide +kernel

theorem exec_arm_unknown : exec (.arm h0 1 0 0) unknownState = .next (armBody h0 1 0 0 unknownState) :=
  congrArg Host.Outcome.next (startCmd_starts (some (.arm h0 1 0 0)) (armBody h0 1 0 0)
    (by decide +kernel : unknownState.starts h0 (armChecks h0 1 0 unknownState)) (.inr (by decide +kernel)))

/-- Refutes O26: a group in STOPPED_OVF whose segment still to be written is not known opens none (R169). -/
theorem not_armOpensASegment : ¬Obligations.ArmOpensASegment := by
  unfold Obligations.ArmOpensASegment
  rintro ⟨harm, -⟩
  obtain ⟨hdone, -⟩ := harm h0 1 0 0 _ unknownState capDeck (by decide +kernel) (by decide +kernel) rfl rfl
  obtain ⟨-, hopens⟩ := hdone (by decide +kernel)
  obtain ⟨t, hexec, hopen, -⟩ := hopens (by decide) (by decide)
  obtain ⟨hst, -⟩ := hopen 0 (by decide)
  have ht : t = armBody h0 1 0 0 unknownState := (Host.Outcome.next.inj (exec_arm_unknown.symm.trans hexec)).symm
  rw [ht, armBody_unknown] at hst
  split at hst <;> cases hst

end

end Sys2Proof.Machine
